-- ==== Sys2Proof/Word.lean ====
section
/-! DEFINITION. The word types of the model. R3: every register is 32 bits wide; R31: memory is addressed by byte. -/

namespace Sys2Proof

/-- A register's contents (R3). -/
abbrev Word := BitVec 32

/-- One byte of memory. -/
abbrev Byte := BitVec 8

/-- A 64-bit value held in two consecutive registers (R4). -/
abbrev DWord := BitVec 64

end Sys2Proof
end

