-- ==== Sys2Proof/Config.lean ====
section
/-! DEFINITION. What the spec leaves open: the free values. Each is a constant with no body, so no proof can see what
it is; the state's counter `State.freeCtr` picks a fresh one each time (DESIGN CHOICE, log entry 1). -/

namespace Sys2Proof

/-- The n-th free value, as a number (DESIGN CHOICE, log entry 1). -/
opaque Config.freeNat : Nat → Nat

/-- The n-th free value, as a 32-bit register content (DESIGN CHOICE, log entry 1). -/
opaque Config.freeWord : Nat → Word

/-- The n-th free truth value (DESIGN CHOICE, log entry 1). -/
opaque Config.freeBool : Nat → Bool

/-- Byte `i` of the n-th free run of bytes (DESIGN CHOICE, log entry 1). -/
opaque Config.freeByte : Nat → Nat → Byte

/-- The mask ROM of the track sequencers, revision 0x03: the spec gives its entry points and not its words (R161;
DESIGN CHOICE, log entry 8). -/
opaque Config.seqRom : Nat → BitVec 128

/-- Byte `i` of a record whose fields the spec names and whose layout it does not give (DESIGN CHOICE, log entry 9). -/
opaque Config.layout : List Nat → Nat → Byte

/-- A free digest, key or signature: a function of what it is computed from.  The spec names the algorithm
(SHA-384, ECDSA, AES-256-XTS, AES-256-GCM) and does not define it (DESIGN CHOICE, log entry 2). -/
opaque Config.cipher : List Nat → Nat

/-- Byte `i` of a block enciphered or deciphered with AES-256-XTS, from the key slot, its generation, the tweak and
the block's bytes (R436; DESIGN CHOICE, log entry 2). -/
opaque Config.xts (slot gen : Nat) (tweak : List Byte) (encrypt : Bool) (data : List Byte) : Nat → Byte

/-- Whether a signature, tag or digest is good (R424, R441; DESIGN CHOICE, log entry 2). -/
opaque Config.sigOk : List Byte → Bool

/-- Byte `i` of a digest, response, key or ciphertext that the enclave computes, from what it is computed from
(DESIGN CHOICE, log entry 2). -/
opaque Config.digest : List Byte → Nat → Byte

/-- Where the DRAM part of a port's Controller Memory Buffer lies; the spec gives it the firmware region and no address
(R364; DESIGN CHOICE, log entry 13). -/
opaque Config.cmbDram : Nat → Nat

/-- The mailbox sender number of an engine for which the spec gives none (R412; DESIGN CHOICE, log entry 24). -/
opaque Config.sender : Nat → Nat

/-- The ID under which an image keeps the Twin Read Policy of a namespace in its settings record; the spec gives entries IDs
and names none (R350, R467; DESIGN CHOICE, log entry 126). -/
opaque Config.settingId : Nat → Nat

end Sys2Proof
end

