-- ==== Sys2Proof/Syntax.lean ====
section
/-! DEFINITION. The commands that the device takes from outside, one constructor per row of the opcode table, with
the types of their operands. What the outside world decides (a reading, a decode result, a parity outcome, which FREE
slot is taken) is an operand. -/

namespace Sys2Proof

/-- The 35 units of the device (R23); `p` numbers pivots, ports and pools, `n` lanes. -/
inductive UnitId where
  | dev | hostg | med
  | piv (p : Fin 2) | lane (n : Fin 4)
  | chn (n : Fin 4) | tsq (n : Fin 4) | srv (n : Fin 4) | ast (n : Fin 4)
  | spn | buf | cmd
  | pep (p : Fin 2) | pool (p : Fin 2)
  | hzl | hkp | svc
  deriving DecidableEq, Repr

/-- The 32 programmable engines (R30); the application cores are numbered 0 to 15 across the two pools. -/
inductive Engine where
  | core (c : Fin 16) | servo (n : Fin 4) | sequencer (n : Fin 4) | assist (n : Fin 4)
  | spindle | housekeeping | enclave | service
  deriving DecidableEq, Repr

/-- The requesters of the data plane (R31: the last column of the address map table). -/
inductive DmaPort where
  | command | channel (n : Fin 4) | vault | cipher
  deriving DecidableEq, Repr

/-- How the parity check of a fabric transaction turns out (R27): no failure, a failure that the one repeat cleared, or
one that persisted. -/
inductive Parity where
  | ok | transient | lasting
  deriving DecidableEq, Repr

/-- Who starts a warm reset by itself (R43, R52). -/
inductive WarmCause where
  | service | watchdog | subsystem
  deriving DecidableEq, Repr

/-- How a decode of one codeword ends (R107): zero syndrome and matching CRC; zero syndrome and no matching CRC; no zero
syndrome within the iterations allowed. -/
inductive Decoded where
  | good | crcFail | notConverged | sampleParity
  deriving DecidableEq, Repr

/-- The bits that differ from the marks searched in a sector's samples (R116, R117): from SM2 at each of the positions −64 to
+64 around its predicted place, and, for each split, from the resync mark at each of −12 to +12 around its own. -/
structure SyncFound where
  sm2 : List Nat
  resync : List (List Nat)
  deriving DecidableEq, Repr

/-- Where the envelope crosses its thresholds: the lane, and the data bit of its window in progress (R103). -/
structure DefectPoint where
  lane : Fin 4
  bit : Nat
  deriving DecidableEq, Repr

/-- A sampled sector: what the sync search finds in it, and its raw sample pairs of readers A and B (R109, R116). -/
structure Sampled where
  found : SyncFound
  raw : List (Nat × Nat)
  deriving DecidableEq, Repr

/-- A timed position of a lane is reached; where a search for SM1 ends there, the bits that differ from it at each of −48 to
+48 (R115, R149). -/
structure TimedPoint where
  lane : Fin 4
  sm1 : List Nat
  deriving DecidableEq, Repr

/-- What a servo engine reads from one wedge (R170 to R172): the bits that differ from the SAM at each position searched, in
order; TID as written, Gray-coded; WNUM; PAR; the place of the head, which the two null bursts give, from the centre of the
track that TID names, in units of 1/2048 of track pitch; and the parity outcome of the runout word read for it (R178). -/
structure WedgeRead where
  sam : List Nat
  tid : BitVec 22
  wn : BitVec 10
  par : BitVec 2
  frac : Int
  runout : Parity
  deriving DecidableEq, Repr

/-- The triggers of the hardware retract (R198). -/
inductive RetractTrigger where
  | pfail | unitReset | warmReset | spFault | thermalTrip | unloadTimeout | enableFall
  deriving DecidableEq, Repr

/-- The current sensed in the voice coil of a lane, in milliamperes (R173). -/
structure CoilSense where
  lane : Fin 4
  ma : Int
  deriving DecidableEq, Repr

/-- A lane, and the microseconds since its SEEK (R185, R200). -/
structure SeekClock where
  lane : Fin 4
  us : Nat
  deriving DecidableEq, Repr

/-- What the preamplifier drives in one Halyard slot (R219): nothing, the eight bits of an ACK, or the data and CRC-8 of a
read frame. -/
inductive HalReply where
  | silent
  | ack (code : Nat)
  | data (v crc : Nat)
  deriving DecidableEq, Repr

/-- How many DSP cycles of a model period Ln_AGATE was high, and how many of them came before a set-point was acknowledged in
it (R210, R218). -/
structure GateTime where
  high : Nat
  before : Nat
  deriving DecidableEq, Repr

/-- What the spindle engine samples at a period boundary (R228), the phase currents in mA, the phase voltages and the motor bus
in 10 mV, and what its estimators leave to gains that no rule states (R236, R237): the rotor angle (1/65,536 electrical
revolution) and the share, in 1/65,536, of the difference to the current model that the observer's correction takes. -/
structure DtcSample where
  iu : Int
  iv : Int
  iw : Int
  vu : Int
  vv : Int
  vw : Int
  vbus : Nat
  rotor : Nat
  gain : Nat
  deriving DecidableEq, Repr

/-- What MEASURE finds: the speed relative to DIR in 1/16 rpm, and the rotor angle of the back-EMF vector (R243). -/
structure RotorFix where
  speed : Int
  angle : Nat
  deriving DecidableEq, Repr

/-- What the syndrome of a codeword says when more than two symbols are in error (R263): the poison pattern, an
uncorrectable pattern, or a pattern mistaken for a good one. -/
inductive Far where
  | poison | uncorr | miss
  deriving DecidableEq, Repr

/-- The symbols of one codeword that the DRAM or its bus delivers wrong, as a mask of pins 0 to 39 (R262), and what the
syndrome says if they are too many. -/
structure CwErr where
  pins : Nat
  far : Far
  deriving DecidableEq, Repr

/-- One read of a line: its two codewords (R262). -/
structure LineRead where
  a : CwErr
  b : CwErr
  deriving DecidableEq, Repr

/-- A line whose read finds symbols in error, and its repeat; `line` counts from the start of what is read. -/
structure LineFound where
  line : Nat
  first : LineRead
  again : LineRead
  deriving DecidableEq, Repr

/-- Whose access to DRAM it is (R31, R287): an engine by physical address, a DMA through a handle, or a data-plane DMA by
physical address. -/
inductive DramSrc where
  | engine (e : Engine) | handle (h : Nat) | dataPlane (p : DmaPort)
  deriving DecidableEq, Repr


/-- A move of one granule (R268): host data into a write's next granule on a DMA channel; a granule to the host; the fetch
of the next write sector of a lane (R126). `peer` is the host address; lines found in error count from the granule's
first. -/
inductive DmaMove where
  | hostIn (ch : Fin 16) (slot : Nat) (peer : Nat) (data : List Byte)
  | hostOut (ch : Fin 16) (slot : Nat) (handle : Nat) (peer : Nat) (found : List LineFound)
  | fetch (n : Fin 4) (found : List LineFound)
  deriving DecidableEq, Repr

/-- The parity check of a transfer, and whether it is that of read data on its way back to the requester (R27). -/
structure WayParity where
  outcome : Parity
  back : Bool
  deriving DecidableEq, Repr

/-- A submission entry: its sixteen dwords, laid out as NVM Express does (PRESUMED, log entry 20). -/
abbrev Sqe := List Word

/-- Where a lasting parity error of a queue-SRAM entry lies (R329). -/
inductive SqParity where
  | none | outsideCid | withinCid
  deriving DecidableEq, Repr

/-- How the data of a Swallowtail read turns out (R335): good, a guard mismatch, a reference tag or application tag
mismatch before the first TLP, or lines in which the buffer finds errors, counted from the first line of the data. -/
inductive FastEnd where
  | good | guardMismatch | refTag | appTag | lines (found : List LineFound)
  deriving DecidableEq, Repr

/-- The value of a Set Features command, and whether it is to be saved (R352). -/
structure Setting where
  cdw11 : Word
  save : Bool
  deriving DecidableEq, Repr

/-- What a failed read request to the host was for (R368): the data of the command in a slot, entries of a submission
queue, or a PRP or SGL list of the command in a slot. -/
inductive HostRead where
  | data (slot : Nat) | queue (sqid : Nat) | list (slot : Nat)
  deriving DecidableEq, Repr

/-- A band (R290): a run of tracks within one recording zone of one surface. -/
structure Band where
  surface : Nat
  rzone : Nat
  first : Nat                   -- its first track
  bt : Nat                      -- data tracks; two spare tracks follow
  gt : Nat                      -- tracks of the guard gap after them
  spt : Nat                     -- sectors on a track of its recording zone
  deriving DecidableEq, Repr

/-- A run of tracks of the conventional region, written without shingling (R289). -/
structure Strip where
  surface : Nat
  first : Nat
  tracks : Nat
  spt : Nat
  deriving DecidableEq, Repr

/-- What a namespace is created with (R289, R305): Zoned or conventional, metadata bytes per block, protection information
type, Key Per I/O, ANA group, its bands and the free bands that it keeps, and the functions that it is attached to. -/
structure NsSpec where
  zoned : Bool
  ms : Nat
  pi : Nat
  kpio : Bool
  ana : Nat
  bands : List Band
  free : List Band
  attached : List (Fin 64)
  deriving DecidableEq, Repr

/-- What a core's access to memory is (R384). -/
inductive CoreKind where
  | load | store | fetch | atomic
  deriving DecidableEq, Repr

/-- Whose transaction has had no response (R28): one of a unit's own, an access of an application core, or a transfer of the
command in a slot. -/
inductive TimedOut where
  | unit (u : UnitId) | core (c : Fin 16) (kind : CoreKind) (addr : Nat) | command (slot : Nat)
  deriving DecidableEq, Repr

/-- The ways that the lines of an access take: in the L1, in the victim cache and in the L2 (the manual gives no replacement
rule). -/
structure Ways where
  l1 : Fin 4
  victim : Fin 8
  l2 : Fin 16
  deriving DecidableEq, Repr

/-- What stops or disturbs a small engine (R387): a bus error with its cause as R29 codes it, a second one inside the
handler, or a lasting parity error in its instruction TCM. -/
inductive SmallFault where
  | first (cause : Fin 16) | second | itcm
  deriving DecidableEq, Repr

/-- What a TCG method payload asks for, as the enclave's provider reads it (R442, R443): nothing that this model holds; a
lock or unlock, by the media slot of the range's key; the extent of a range; a new key; the injection of a wrapped or a
plaintext Key Per I/O key; its erase; Key Per I/O on or off; an erase of every key of a namespace (RevertSP, Revert). -/
inductive Tcg where
  | other
  | lock (slot : Nat) (r w : Bool)
  | range (slot nsid first count : Nat)
  | genKey (slot : Nat)
  | inject (tag : Nat) (wrapped : Bool)
  | eraseTag (tag : Nat)
  | kpio (nsid : Nat) (on : Bool)
  | revert (nsid : Nat)
  deriving DecidableEq, Repr

/-- An SPDM request (R376), with the session it belongs to where it has one. -/
inductive SpdmMsg where
  | getVersion | getCapabilities | negotiate | getDigests | getCertificate | challenge
  | getMeasurements (index : Nat)
  | keyExchange
  | finish (id : Nat) | heartbeat (id : Nat) | keyUpdate (id : Nat) | endSession (id : Nat)
  deriving DecidableEq, Repr

/-- What a cipher message is for: the command in a slot, or enclave work under a key slot and generation. -/
inductive CipherFor where
  | slot (i : Nat) | own (key gen : Nat)
  deriving DecidableEq, Repr

/-- What a start finds outside the device: STRAP_BOOT and STRAP_PORTSPLIT (R472), the NOR's density in MiB and whether its
interface works (R473), whether every small engine signals ready in time (R487), whether a copy of the vault's
metadata passes its CRC (R320), and what the format record and the drive metadata of media that this model has not read
before give: the free bands, the number of reallocation slots, and where the reallocation area and the media cache lie (R289,
R290, R300, R306). -/
structure StartWorld where
  boot : Fin 4
  split : Bool
  norMib : Nat
  nor : Parity
  small : Bool
  vaultMeta : Bool
  bands : List Band
  slots : Nat
  area : List Strip
  log : List Strip
  deriving DecidableEq, Repr

/-- Before a start. -/
def StartWorld.none : StartWorld := ⟨0, false, 0, .ok, false, false, [], 0, [], []⟩


/-- The inputs that a filter can mask (R523). -/
inductive FilterPin where
  | shock | gpio (i : Fin 16)
  deriving DecidableEq, Repr


/-- The commands (opcode_table.json, in the table's order). -/
inductive Instr where
  /-- REGISTER_WRITE (R7): `eng` writes `size` bytes at `addr`. -/
  | registerWrite (eng : Engine) (size : Nat) (addr : Nat) (v : Word) (par : Parity)
  /-- FABRIC_TIMEOUT (R28): A transaction has had no response for 4,096 fabric cycles. -/
  | fabricTimeout (w : TimedOut)
  /-- LOW_WORD_READ (R4): `eng` reads the low word of the pair at `off`. -/
  | lowWordRead (eng : Engine) (u : UnitId) (off : Nat)
  /-- HIGH_WORD_READ (R4): `eng` reads the high word at `off`. -/
  | highWordRead (eng : Engine) (u : UnitId) (off : Nat)
  /-- UNIT_RESET (R15): `eng` writes 1 to RST of `u`, with `en` in EN of the same write. -/
  | unitReset (eng : Engine) (u : UnitId) (en : Bool)
  /-- UNIT_RESET_COMPLETE (R47): The reset actions of the class of leaf or group `u` have ended. -/
  | unitResetComplete (u : UnitId)
  /-- UNIT_ENABLE_CHANGE (R14): `eng` writes `en` to EN of `u`. -/
  | unitEnableChange (eng : Engine) (u : UnitId) (en : Bool)
  /-- UNIT_DRAIN_END (R14): The outstanding work of `u` has ended. -/
  | unitDrainEnd (u : UnitId)
  /-- CRYSTAL_LOST (R37): No crystal edge for 320 ns. -/
  | crystalLost
  /-- CRYSTAL_RETURN (R37): The crystal is back and the PLL has relocked. -/
  | crystalReturn
  /-- HOLDOVER_50MS (R37): 50 ms since the crystal was declared lost. -/
  | holdover50ms
  /-- HOLDOVER_2S (R37): 2 s since the crystal was declared lost. -/
  | holdover2s
  /-- CRYSTAL_RESTART (R37): The crystal has been present for 10 ms. -/
  | crystalRestart (w : StartWorld)
  /-- LN_CLK_DIV_WRITE (R41): `eng` writes LN_CLK_DIV of lane `n`. -/
  | lnClkDivWrite (eng : Engine) (n : Fin 4) (v : Word)
  /-- CLK_DIV_TAKE_EFFECT (R42): The moment at which lane `n`'s gates may be found inactive. -/
  | clkDivTakeEffect (n : Fin 4)
  /-- LCLK_SETTLED (R42): LCLKn has settled. -/
  | lclkSettled (n : Fin 4)
  /-- PWRON_N_FALL (R43): PWRON_N goes low. -/
  | pwronNFall
  /-- COLD_START (R479): PWRON_N rises. -/
  | coldStart (w : StartWorld)
  /-- WARM_RESET (R43): A warm reset starts. -/
  | warmReset (c : WarmCause)
  /-- WARM_START (R488): The service core restarts from the boot ROM after a warm reset. -/
  | warmStart (w : StartWorld)
  /-- NVM_SUBSYSTEM_RESET (R43): The host writes NVM Subsystem Reset through a controller. -/
  | nvmSubsystemReset (fn : Fin 64)
  /-- PERST_ASSERT (R43): PE_PERSTn_N goes low. -/
  | perstAssert (p : Fin 2)
  /-- HOT_RESET (R43): A hot reset is received on port `p`. -/
  | hotReset (p : Fin 2)
  /-- LINK_DOWN (R367): The link of port `p` goes down. -/
  | linkDown (p : Fin 2)
  /-- CONTROLLER_RESET (R346): The host clears CC.EN, or a Controller Level Reset reaches the controller. -/
  | controllerReset (fn : Fin 64)
  /-- FUNCTION_LEVEL_RESET (R346): An FLR of the function. -/
  | functionLevelReset (fn : Fin 64)
  /-- VF_ENABLE_CLEAR (R367): The host clears VF Enable (`num` 0) or lowers NumVFs to `num`. -/
  | vfEnableClear (p : Fin 2) (num : Nat)
  /-- CMB_ZEROING_DONE (R365): The zeroing of port `p`'s Controller Memory Buffer ends. -/
  | cmbZeroingDone (p : Fin 2)
  /-- PWR_CAP_WRITE (R60): `eng` writes DEV_PWR_CAP. -/
  | pwrCapWrite (eng : Engine) (v : Word)
  /-- SET_POWER_MANAGEMENT (R61): A host sets NVMe power state `ps`. -/
  | setPowerManagement (fn : Fin 64) (ps : Nat)
  /-- APST_TRANSITION (R62): The idle time before the autonomous transition into `ps` has passed. -/
  | apstTransition (ps : Nat)
  /-- DISPATCH_FETCH (R78): Lane `n` fetches the next descriptor of its dispatch ring. -/
  | dispatchFetch (n : Fin 4)
  /-- CANCEL_RECEIVE (R80): Lane `n` receives a cancel for a slot. -/
  | cancelReceive (n : Fin 4) (slot : Nat)
  /-- CANCEL_ACK (R80): Lane `n` acknowledges every cancel it owes for a slot. -/
  | cancelAck (n : Fin 4) (slot : Nat)
  /-- REPORT_WRITE (R79): Lane `n` writes its oldest formed report. -/
  | reportWrite (n : Fin 4)
  /-- SECTOR_RESULT_DMA (R81): The channel DMA port of lane `n` takes the oldest decoded sector result, with the bytes decoded. -/
  | sectorResultDma (n : Fin 4) (data : List Byte)
  /-- HEAD_STATE_WRITE (R91): `eng` writes MED_HEAD_DATA. -/
  | headStateWrite (eng : Engine) (v : Word)
  /-- DEFECT_DETECT (R103): The envelope of the lane has stayed outside its thresholds for MIN_LEN bits, at this data bit of the window in progress. -/
  | defectDetect (d : DefectPoint)
  /-- DEFECT_END (R103): The defect flags of the lane fall, at this data bit of the window in progress. -/
  | defectEnd (d : DefectPoint)
  /-- TIMING_LOCK_LOST (R104): A hold has lasted longer than HOLD_MAX, or the frequency limit is reached, on lane `n`. -/
  | timingLockLost (n : Fin 4)
  /-- SECTOR_DECODE (R108): The oldest sampled sector of lane `n`, held in sample slot `slot` with these raw samples of readers A and B, is decoded on the fly with these findings. -/
  | sectorDecode (n : Fin 4) (slot : Fin 4) (x : Sampled) (res : Decoded)
  /-- AUTO_RECOVERY (R120): The automatic recovery of the slot pinned longest ends: the slip hypothesis that was taken, or the result of the deep decode. -/
  | autoRecovery (n : Fin 4) (slip : Option Int) (res : Decoded) (globals : Nat)
  /-- DEEP_DECODE_CMD (R112): `eng` writes CHN_DD_CMD of lane `n`. -/
  | deepDecodeCmd (eng : Engine) (n : Fin 4) (v : Word)
  /-- DEEP_DECODE_DONE (R113): The firmware deep decode in progress on lane `n` ends. -/
  | deepDecodeDone (n : Fin 4) (slip : Option Int) (res : Decoded) (globals : Nat)
  /-- SBUF_RELEASE (R111): `eng` writes CHN_SBUF_REL of lane `n`. -/
  | sbufRelease (eng : Engine) (n : Fin 4) (v : Word)
  /-- PIN_TIMEOUT (R111): 1 s since slot `slot` of lane `n` was pinned. -/
  | pinTimeout (n : Fin 4) (slot : Fin 4)
  /-- SYNC_EVENT_POP (R130): `eng` reads CHN_SEV_LO of lane `n`. -/
  | syncEventPop (eng : Engine) (n : Fin 4)
  /-- PA_FAULT_INPUT (R127): Ln_PA_FLT_N of lane `n` changes level. -/
  | paFaultInput (n : Fin 4) (low : Bool)
  /-- NOP (R138): ALU operation 0000b of the word in progress on lane `n`. -/
  | seqNop (n : Fin 4)
  /-- MOV (R138): ALU operation 0001b of the word in progress on lane `n`. -/
  | seqMov (n : Fin 4)
  /-- ADD (R138): ALU operation 0010b of the word in progress on lane `n`. -/
  | seqAdd (n : Fin 4)
  /-- SUB (R138): ALU operation 0011b of the word in progress on lane `n`. -/
  | seqSub (n : Fin 4)
  /-- AND (R138): ALU operation 0100b of the word in progress on lane `n`. -/
  | seqAnd (n : Fin 4)
  /-- OR (R138): ALU operation 0101b of the word in progress on lane `n`. -/
  | seqOr (n : Fin 4)
  /-- XOR (R138): ALU operation 0110b of the word in progress on lane `n`. -/
  | seqXor (n : Fin 4)
  /-- SHL (R138): ALU operation 0111b of the word in progress on lane `n`. -/
  | seqShl (n : Fin 4)
  /-- SHR (R138): ALU operation 1000b of the word in progress on lane `n`. -/
  | seqShr (n : Fin 4)
  /-- CMP (R138): ALU operation 1001b of the word in progress on lane `n`. -/
  | seqCmp (n : Fin 4)
  /-- DEC (R138): ALU operation 1010b of the word in progress on lane `n`. -/
  | seqDec (n : Fin 4)
  /-- LD (R139): ALU operation 1011b of the word in progress on lane `n`, at data bit `bit` of the window in progress. -/
  | seqLd (n : Fin 4) (bit : Nat)
  /-- ST (R139): ALU operation 1100b of the word in progress on lane `n`. -/
  | seqSt (n : Fin 4)
  /-- JUMP (R142): Sequence action 000b of the word in progress; `par` is the parity check of the fetch that follows. -/
  | seqJump (n : Fin 4) (par : Parity)
  /-- CALL (R141): Sequence action 001b. -/
  | seqCall (n : Fin 4) (par : Parity)
  /-- RET (R141): Sequence action 010b. -/
  | seqRet (n : Fin 4) (par : Parity)
  /-- DISPATCH (R141): Sequence action 011b. -/
  | seqDispatch (n : Fin 4) (par : Parity)
  /-- END (R157): Sequence action 100b. -/
  | seqEnd (n : Fin 4) (par : Parity)
  /-- SECT_RD (R150): Lane command 0001b, at data bit `bit` of the window in progress. -/
  | sectRd (n : Fin 4) (bit : Nat)
  /-- SECT_WR (R150): Lane command 0010b, at data bit `bit` of the window in progress. -/
  | sectWr (n : Fin 4) (bit : Nat)
  /-- HEAD (R155): Lane command 0011b. -/
  | headSelect (n : Fin 4)
  /-- SEEK (R183): Lane command 0100b. -/
  | seek (n : Fin 4)
  /-- HOLD (R185): Lane command 0101b, `us` microseconds after the SEEK in progress. -/
  | seekHold (n : Fin 4) (us : Nat)
  /-- AST_ARM (R205): Lane command 0110b. -/
  | astArm (n : Fin 4)
  /-- AST_DISARM (R207): Lane command 0111b. -/
  | astDisarm (n : Fin 4)
  /-- EVENT_POST (R149): The event of the word in progress, posted at data bit `bit` of the window in progress. -/
  | eventPost (n : Fin 4) (bit : Nat)
  /-- TIMING_EVENT_FIRE (R149): The bit count of the lane reaches its next timed position. -/
  | timingEventFire (p : TimedPoint)
  /-- DATA_WINDOW_START (R148): The data window after the wedge just passed starts on lane `n`. -/
  | dataWindowStart (n : Fin 4)
  /-- WAIT_CONDITION_MET (R144): The condition that the word in progress waits on is at its level. -/
  | waitConditionMet (n : Fin 4)
  /-- WAIT_TIMEOUT (R144): The timeout of the word in progress expires. -/
  | waitTimeout (n : Fin 4)
  /-- WAIT_CANCEL (R147): A cancel has arrived during a wait with WAIT_CX set. -/
  | waitCancel (n : Fin 4) (par : Parity)
  /-- WORD_WATCHDOG (R146): The word in progress has lasted LIMIT × 65,536 DSP cycles. -/
  | wordWatchdog (n : Fin 4)
  /-- PATCH_WORD_COMMIT (R166): `eng` writes TSQ_PW_DATA3 of lane `n`. -/
  | patchWordCommit (eng : Engine) (n : Fin 4) (v : Word)
  /-- PATCH_WORD_READ (R166): `eng` reads TSQ_PW_DATA3 of lane `n`. -/
  | patchWordRead (eng : Engine) (n : Fin 4)
  /-- SERVO_WEDGE (R173): The active head of lane `n` passes a wedge, `us` microseconds after the SEEK in progress, if any. -/
  | servoWedge (n : Fin 4) (r : WedgeRead) (us : Nat)
  /-- VCM_CURRENT_LOOP (R173): The inner current loop of the lane runs, with this current on Ln_VCM_ISNS. -/
  | vcmCurrentLoop (x : CoilSense)
  /-- LOCK_REGAIN_TIMEOUT (R186): Two revolutions have passed in ACQUIRE without lock on lane `n`. -/
  | lockRegainTimeout (n : Fin 4)
  /-- SEEK_TIMEOUT (R185): SEEK_TMO ms have passed since the SEEK or its repeat on the lane. -/
  | seekTimeout (c : SeekClock)
  /-- COEF_WRITE (R175): `eng` writes SRV_COEF_DATA of lane `n`. -/
  | coefWrite (eng : Engine) (n : Fin 4) (v : Word)
  /-- LOAD (R194): `eng` writes LOAD to SRV_CMD of lane `n`. -/
  | servoLoad (eng : Engine) (n : Fin 4)
  /-- LOAD_LOCK_TIMEOUT (R195): 100 ms since LOAD without lock on lane `n`. -/
  | loadLockTimeout (n : Fin 4)
  /-- UNLOAD (R196): `eng` writes UNLOAD to SRV_CMD of lane `n`. -/
  | servoUnload (eng : Engine) (n : Fin 4)
  /-- UNLOAD_PARKED (R196): The parked test has held for 10 ms during an unload of lane `n`. -/
  | unloadParked (n : Fin 4)
  /-- UNLOAD_TIMEOUT (R196): 300 ms since the unload began on lane `n`. -/
  | unloadTimeout (n : Fin 4)
  /-- HW_RETRACT (R197): A trigger of the hardware retract path reaches lane `n`. -/
  | hwRetract (n : Fin 4) (t : RetractTrigger)
  /-- RETRACT_PARKED (R197): The parked test holds during a hardware retract of lane `n`. -/
  | retractParked (n : Fin 4)
  /-- RETRACT_TIMEOUT (R197): RET_TMO ms have passed in a hardware retract of lane `n`. -/
  | retractTimeout (n : Fin 4)
  /-- SHOCK_N_ACCEPT (R192): The filter accepts an assertion of SHOCK_N; `merged` if it exceeds the rate limit. -/
  | shockNAccept (merged : Bool)
  /-- SHOCK_N_RELEASE (R521): SHOCK_N's filtered level goes inactive. -/
  | shockNRelease
  /-- ASSIST_MODEL_PERIOD (R210): A model period of lane `n` ends, in which Ln_AGATE was high for `g`. -/
  | assistModelPeriod (n : Fin 4) (g : GateTime)
  /-- ASSIST_CHECK (R212): A check slot of lane `n` falls due: the check, or its repeat, goes out, unless a frame of higher priority holds the slot; the preamplifier drives the 16 data bits `v` and the CRC-8 `crc`, or nothing. -/
  | assistCheck (n : Fin 4) (driven : Bool) (v crc : Nat)
  /-- AG_IDLE_TIMEOUT (R213): Ln_AGATE has been high for AG_IDLE_MAX µs with Ln_WGATE low throughout. -/
  | agIdleTimeout (n : Fin 4)
  /-- AG_ONTIME_TIMEOUT (R213): Ln_AGATE has been high without a break for AG_MAX_ON × 10 µs. -/
  | agOntimeTimeout (n : Fin 4)
  /-- HALYARD_FRAME (R219): A Halyard slot of lane `n` passes with this reply. -/
  | halyardFrame (n : Fin 4) (r : HalReply)
  /-- START (R243): `eng` writes START to SPN_CMD. -/
  | spindleStart (eng : Engine)
  /-- STOP (R242): `eng` writes STOP to SPN_CMD. -/
  | spindleStop (eng : Engine)
  /-- COAST (R242): `eng` writes COAST to SPN_CMD. -/
  | spindleCoast (eng : Engine)
  /-- DIR_WRITE (R248): `eng` writes SPN_CTL. -/
  | dirWrite (eng : Engine) (v : Word)
  /-- DTC_PERIOD (R230): A period boundary of 5 µs, with what the engine samples there. -/
  | dtcPeriod (x : DtcSample)
  /-- SPEED_LOOP (R235): Every 20 periods, with the speed measured relative to DIR in 1/16 rpm, if it is measurable. -/
  | speedLoop (speed : Option Int)
  /-- MEASURE_END (R243): 20 ms of MEASURE have passed, with this speed and angle found. -/
  | measureEnd (x : RotorFix)
  /-- HOLD_END (R244): 100 ms of HOLD have passed. -/
  | holdEnd
  /-- ALIGN_DONE (R245): The six pulses have been sent, with their peak currents in mA, V1's first. -/
  | alignDone (peaks : List Nat)
  /-- SPINUP_TIMEOUT (R246): The limits of R246 have passed without HFI_UP or RUN. -/
  | spinupTimeout
  /-- BRAKE_TIMEOUT (R244): BRAKE_TMO seconds of BRAKE have passed. -/
  | brakeTimeout
  /-- LOSS_OF_SYNC (R239): A condition of R239 holds. -/
  | lossOfSync
  /-- LOS_CLEAR_TIMER (R239): 10 s driven since the re-catch. -/
  | losClearTimer
  /-- CHOP_FEEDBACK_TIMEOUT (R249): SP_CHOP_FB is not high FB_TMO µs after SP_CHOP. -/
  | chopFeedbackTimeout
  /-- CHOP_RISE_TEST (R249): RISE_WAIT µs after SP_CHOP rose, the bus stands at `vbus` (10 mV). -/
  | chopRiseTest (vbus : Nat)
  /-- REVOLUTION (R240): Four electrical periods have ended, in `period` DSP cycles. -/
  | revolution (period : Nat)
  /-- SPINDLE_FAULT_CLEAR (R254): `eng` writes SPN_FLT_STAT. -/
  | spindleFaultClear (eng : Engine) (v : Word)
  /-- SP_FLT_ACCEPT (R229): The filter accepts SP_FLT_N. -/
  | spFltAccept
  /-- PFAIL_ACCEPT (R316): The filter accepts PFAIL_N. -/
  | pfailAccept
  /-- PAGE_PROGRAM_FAIL (R317): The program of a page with the save's granules of these numbers fails; `again` if its repeat succeeds. -/
  | pageProgramFail (grans : List Nat) (again : Bool)
  /-- SAVE_COMPLETE (R319): The closing record is programmed after `saved` granules; `high` if PFAIL_N has been high for 10 ms. -/
  | saveComplete (saved : Nat) (high : Bool)
  /-- PFAIL_HIGH_10MS (R319): PFAIL_N has been high for 10 ms. -/
  | pfailHigh10ms
  /-- PFAIL_CLR (R524): `eng` writes HKP_IN_CTL; `active` while the raw input is active or has become inactive within 5 µs. -/
  | pfailClr (eng : Engine) (v : Word) (active : Bool)
  /-- VAULT_AREA_ERASE (R323): `eng` writes SVC_VLT_CMD. -/
  | vaultAreaErase (eng : Engine) (v : Word)
  /-- AREA_ERASE_DONE (R314): The erase in progress ends with `mib` MiB of good blocks. -/
  | areaEraseDone (mib : Nat)
  /-- DRAM_READ (R263): A line of DRAM is read; `again` is the repeat of R273. -/
  | dramRead (src : DramSrc) (line : Nat) (first again : LineRead)
  /-- DRAM_LINE_WRITE (R264): A whole line of DRAM is written. -/
  | dramLineWrite (src : DramSrc) (line : Nat) (data : List Byte)
  /-- DRAM_PARTIAL_WRITE (R264): Part of a line of DRAM is written, from byte `off` on. -/
  | dramPartialWrite (src : DramSrc) (line : Nat) (off : Nat) (data : List Byte) (first again : LineRead)
  /-- WRITE_BACK (R277): The oldest write-back that is due issues. -/
  | writeBack (first again : LineRead)
  /-- DDR_TRAINED (R261): The training of the DDR5 interface ends. -/
  | ddrTrained (ok : Bool)
  /-- ZERO_FILL_DONE (R568): The zero fill of DRAM ends. -/
  | zeroFillDone
  /-- PATROL_SCRUB_READ (R279): The patrol reads the line that is due; `behind` if it is more than 4,096 lines late, or still catching up. -/
  | patrolScrubRead (behind : Bool) (first again : LineRead)
  /-- RANGE_GO (R280): `eng` writes BUF_SCRUB_CTL. -/
  | rangeGo (eng : Engine) (v : Word)
  /-- RANGE_PASS_DONE (R280): The range pass ends, with the lines that were read in error. -/
  | rangePassDone (found : List LineFound)
  /-- BTT_WRITE (R267): `eng` writes BUF_BTT_DATA. -/
  | bttWrite (eng : Engine) (v : Word)
  /-- DMA_GRANULE (R268): A DMA moves a granule; `ctx` is the free context that a translation fault takes, and `par` its fabric parity check. -/
  | dmaGranule (m : DmaMove) (ctx : Fin 64) (par : WayParity)
  /-- FLT_RESUME (R271): `eng` writes BUF_FLT_CMD with GO, to resume. -/
  | fltResume (eng : Engine) (ctx : Fin 64)
  /-- FLT_ABORT (R271): `eng` writes BUF_FLT_CMD with GO and ABORT. -/
  | fltAbort (eng : Engine) (ctx : Fin 64)
  /-- FLT_TMO (R271): FLT_TMO µs have passed since the notice of a context. -/
  | fltTmo (ctx : Fin 64)
  /-- FLT_POP (R269): `eng` reads BUF_FLT_POP. -/
  | fltPop (eng : Engine)
  /-- BUF_EV_POP (R4): `eng` reads BUF_EV_LO. -/
  | bufEvPop (eng : Engine)
  /-- RETIRE_GO (R281): `eng` writes BUF_RET_CMD. -/
  | retireGo (eng : Engine) (v : Word)
  /-- RETIRE_DONE (R282): The 64 lines have been copied to the spare page, with the lines that were read in error. -/
  | retireDone (found : List LineFound)
  /-- INJECT_ARM (R285): `eng` writes BUF_INJ_CTL. -/
  | injectArm (eng : Engine) (v : Word)
  /-- SQ_DOORBELL (R327): The host writes the tail doorbell of a submission queue. -/
  | sqDoorbell (fn : Fin 64) (sqid : Nat) (tail : Nat)
  /-- SQ_FETCH_COMPLETE (R327): A read of up to eight entries from host memory completes. -/
  | sqFetchComplete (fn : Fin 64) (sqid : Nat) (entries : List Sqe)
  /-- QUEUE_SRAM_ENTRY_WRITE (R328): The last byte of entry `idx` of a queue in queue SRAM has been written. -/
  | queueSramEntryWrite (fn : Fin 64) (sqid : Nat) (idx : Nat) (e : Sqe)
  /-- COMMAND_TAKE (R324): The engine takes the next entry of a queue into FREE slot `slot`. -/
  | commandTake (fn : Fin 64) (sqid : Nat) (slot : Nat) (par : SqParity)
  /-- LOCK_GRANT (R337): A waiting command is granted its range lock. -/
  | lockGrant (slot : Nat)
  /-- WORK_ENTRY_WRITE (R332): The engine places its oldest waiting work entry into a work ring. -/
  | workEntryWrite
  /-- COMPLETION_RING_ENTRY (R333): The engine processes the next entry of pool `p`'s completion ring. -/
  | completionRingEntry (p : Fin 2)
  /-- SLOT_FREE (R326): The engine looks whether a slot in DRAIN may go FREE. -/
  | slotFree (slot : Nat)
  /-- EXTENT_INSERT (R339): The last granule of a write is filled. -/
  | extentInsert (slot : Nat)
  /-- HFREE_WRITE (R339): `eng` writes CMD_HFREE. -/
  | hfreeWrite (eng : Engine) (v : Word)
  /-- EXT_DATA_COMMIT (R355): `eng` writes word 0 of the selected extent entry. -/
  | extDataCommit (eng : Engine) (v : Word)
  /-- ABORT_ATTEMPT (R343): `eng` writes CMD_ABT_GO. -/
  | abortAttempt (eng : Engine) (v : Word)
  /-- DMA_PREEMPT (R348): A granule boundary of the transfer on DMA channel `ch`, with an urgent transfer waiting; `ctx` is the context that would take it. -/
  | dmaPreempt (ch : Fin 16) (ctx : Fin 64)
  /-- DMA_RESUME (R348): Channel `ch` is free and no urgent transfer waits; context `ctx` may resume. -/
  | dmaResume (ch : Fin 16) (ctx : Fin 64)
  /-- READ (R334): A TAKEN Read is decoded, or the Swallowtail path ends a Read in FAST, whose data turns out as `r`. -/
  | nvmRead (slot : Nat) (r : FastEnd)
  /-- WRITE (R339): A TAKEN Write is decoded, or looked at again while it waits for granules. -/
  | nvmWrite (slot : Nat)
  /-- FLUSH (R345): A TAKEN Flush is decoded, or looked at again. -/
  | nvmFlush (slot : Nat)
  /-- WRITE_UNCORRECTABLE (R349): A TAKEN Write Uncorrectable is decoded. -/
  | nvmWriteUncorrectable (slot : Nat)
  /-- COMPARE (R349): A TAKEN Compare is decoded. -/
  | nvmCompare (slot : Nat)
  /-- WRITE_ZEROES (R349): A TAKEN Write Zeroes is decoded. -/
  | nvmWriteZeroes (slot : Nat)
  /-- DATASET_MANAGEMENT (R337): A TAKEN Dataset Management is decoded. -/
  | nvmDatasetManagement (slot : Nat)
  /-- ZONE_APPEND (R294): A TAKEN Zone Append is decoded, or looked at again while it waits for granules. -/
  | zoneAppend (slot : Nat)
  /-- ORDERED_BARRIER (R342): A TAKEN Ordered Barrier is decoded, or looked at again. -/
  | orderedBarrier (slot : Nat)
  /-- ZONE_RESET (R297): A Zone Management Send with action Reset is decoded, or a pool carries it out. -/
  | zoneReset (slot : Nat)
  /-- ZONE_FINISH (R297): A Zone Management Send with action Finish is decoded, or a pool carries it out. -/
  | zoneFinish (slot : Nat)
  /-- ZONE_OPEN (R297): A Zone Management Send with action Open is decoded, or a pool carries it out. -/
  | zoneOpen (slot : Nat)
  /-- ZONE_CLOSE (R297): A Zone Management Send with action Close is decoded, or a pool carries it out. -/
  | zoneClose (slot : Nat)
  /-- ZONE_OFFLINE (R297): A Zone Management Send with action Offline is decoded, or a pool carries it out. -/
  | zoneOffline (slot : Nat)
  /-- ZONE_MANAGEMENT_RECEIVE (R292): A Zone Management Receive is decoded, or a pool carries it out. -/
  | zoneReceive (slot : Nat)
  /-- ABORT (R343): A pool, on `eng`, serves the Abort command in a slot. -/
  | abortCommand (eng : Engine) (slot : Nat)
  /-- FIRMWARE_IMAGE_DOWNLOAD (R449): A piece of the image, from byte `offset` on. -/
  | fwDownload (fn : Fin 64) (offset : Nat) (data : List Byte)
  /-- FW_COMMIT_WRITE (R450): Firmware Commit action 000b; `prog` is how the programming turns out. -/
  | fwCommitWrite (fn : Fin 64) (slot : Nat) (prog : Parity)
  /-- FW_COMMIT_WRITE_NEXT (R450): Firmware Commit action 001b. -/
  | fwCommitWriteNext (fn : Fin 64) (slot : Nat) (prog : Parity)
  /-- FW_COMMIT_NEXT (R450): Firmware Commit action 010b. -/
  | fwCommitNext (fn : Fin 64) (slot : Nat) (prog : Parity)
  /-- FW_COMMIT_HANDOVER (R455): Firmware Commit action 011b, with command identifier `cid`. -/
  | fwCommitHandover (fn : Fin 64) (cid : Nat) (slot : Nat) (prog : Parity)
  /-- FW_REPLY_WRITE (R470): `eng` writes SVC_FW_REPLY. -/
  | fwReplyWrite (eng : Engine) (v : Word)
  /-- HANDOVER_READY_TIMEOUT (R460): 1,500 ms since the incoming pool's release without READY. -/
  | handoverReadyTimeout
  /-- HEARTBEAT_SAMPLE (R463): 500 ms of probation have passed. -/
  | heartbeatSample
  /-- PROBATION_END (R466): 60 s of probation have passed; `prog` is how the boot record's program turns out. -/
  | probationEnd (prog : Parity)
  /-- SET_QUEUE_ORDERING (R351): Set Features C2h. -/
  | setQueueOrdering (fn : Fin 64) (cdw11 : Word)
  /-- GET_QUEUE_ORDERING (R350): Get Features C2h. -/
  | getQueueOrdering (fn : Fin 64) (cdw11 : Word)
  /-- SET_TWIN_READ_POLICY (R352): Set Features C4h. -/
  | setTwinReadPolicy (nsid : Nat) (x : Setting)
  /-- GET_TWIN_READ_POLICY (R350): Get Features C4h. -/
  | getTwinReadPolicy (nsid : Nat)
  /-- GET_THERMAL_THROTTLE_REPORT (R350): Get Features C6h. -/
  | getThermalThrottleReport
  /-- SET_THERMAL_THROTTLE_REPORT (R352): Set Features C6h. -/
  | setThermalThrottleReport (cdw11 : Word)
  /-- SET_VOLATILE_WRITE_CACHE (R311): Set Features 06h, or the device looks whether it may complete. -/
  | setVolatileWriteCache (fn : Fin 64) (on : Bool)
  /-- SET_NUMBER_OF_QUEUES (R363): Set Features 07h asks for so many submission and completion queues (0's based). -/
  | setNumberOfQueues (fn : Fin 64) (nsq ncq : Nat)
  /-- SET_INTERRUPT_COALESCING (R366): Set Features 08h. -/
  | setInterruptCoalescing (fn : Fin 64) (cdw11 : Word)
  /-- CREATE_IO_COMPLETION_QUEUE (R366): The host creates an I/O completion queue; `vector` is given while its interrupts are enabled. -/
  | createIoCompletionQueue (fn : Fin 64) (cqid size : Nat) (pc : Bool) (vector : Option Nat)
  /-- IDENTIFY (R447): Identify of a structure CNS. -/
  | identify (fn : Fin 64) (cns nsid : Nat)
  /-- ERROR_INFORMATION_LOG (R535): Get Log Page 01h, `n` bytes from `off` on; `rae` is Retain Asynchronous Event. -/
  | errorInformationLog (fn : Fin 64) (rae : Bool) (off n : Nat)
  /-- SMART_HEALTH_LOG (R537): Get Log Page 02h. -/
  | smartHealthLog (fn : Fin 64) (rae : Bool) (off n : Nat)
  /-- FIRMWARE_SLOT_LOG (R453): Get Log Page 03h. -/
  | firmwareSlotLog (fn : Fin 64) (rae : Bool) (off n : Nat)
  /-- SETTINGS_RESET_LOG (R539): Get Log Page C0h. -/
  | settingsResetLog (fn : Fin 64) (rae : Bool) (off n : Nat)
  /-- BOOT_HISTORY_LOG (R540): Get Log Page C1h. -/
  | bootHistoryLog (fn : Fin 64) (rae : Bool) (off n : Nat)
  /-- THERMAL_SHUTDOWN_LOG (R541): Get Log Page C2h. -/
  | thermalShutdownLog (fn : Fin 64) (rae : Bool) (off n : Nat)
  /-- TWIN_HEAD_HEALTH_LOG (R542): Get Log Page C3h. -/
  | twinHeadHealthLog (fn : Fin 64) (rae : Bool) (off n : Nat)
  /-- ASYNC_EVENT_REQUEST (R536): The host posts an Asynchronous Event Request. -/
  | asyncEventRequest (fn : Fin 64) (cid : Nat)
  /-- SECURITY_SEND (R442): Security Send, which pool `p` passes on with a descriptor at `desc` and the payload at `buf`. -/
  | securitySend (fn : Fin 64) (p : Fin 2) (secp : BitVec 8) (spsp : BitVec 16) (nsid desc buf : Nat) (data : List Byte)
  /-- SECURITY_RECEIVE (R442): Security Receive of at most `len` bytes. -/
  | securityReceive (fn : Fin 64) (p : Fin 2) (secp : BitVec 8) (spsp : BitVec 16) (nsid desc buf len : Nat)
  /-- FORMAT_NVM (R432): Format NVM of a namespace (FFFFFFFFh: all) with Secure Erase Settings `ses` and a new metadata size and protection type. -/
  | formatNvm (fn : Fin 64) (nsid ses ms pi : Nat)
  /-- NAMESPACE_CREATE (R305): Namespace Management, create. -/
  | namespaceCreate (fn : Fin 64) (spec : NsSpec)
  /-- NAMESPACE_DELETE (R432): Namespace Management, delete (FFFFFFFFh: all). -/
  | namespaceDelete (fn : Fin 64) (nsid : Nat)
  /-- HOST_READ_FAIL (R368): A read request to the host fails; `again` says whether its repeat succeeds. -/
  | hostReadFail (p : Fin 2) (fn : Fin 64) (what : HostRead) (again : Bool)
  /-- POISONED_WRITE_RECEIVED (R368): A Memory Write with EP set is received. -/
  | poisonedWriteReceived (p : Fin 2)
  /-- CMB_READ (R284): The host reads `n` bytes of port `p`'s Controller Memory Buffer. -/
  | cmbRead (p : Fin 2) (off n : Nat) (par : Parity) (found : List LineFound)
  /-- CMB_WRITE (R365): The host writes bytes to port `p`'s Controller Memory Buffer. -/
  | cmbWrite (p : Fin 2) (off : Nat) (data : List Byte)
  /-- ANA_STATE_WRITE (R372): `eng` writes PEP_ANA_DATA of port `p`. -/
  | anaStateWrite (eng : Engine) (p : Fin 2) (v : Word)
  /-- SET_ENDPOINT_ID (R373): MCTP Set Endpoint ID. -/
  | setEndpointId (eid : BitVec 8)
  /-- SMBUS_CLOCK_LOW_TIMEOUT (R373): SMB_CLK has been low for 35 ms. -/
  | smbusClockLowTimeout
  /-- READ_NVME_MI_DATA_STRUCTURE (R374): Read NVMe-MI Data Structure of a type; a controller list begins at `ctrl`. -/
  | miDataStructure (typ ctrl : Nat)
  /-- NVM_SUBSYSTEM_HEALTH_STATUS_POLL (R374): NVM Subsystem Health Status Poll. -/
  | miSubsystemPoll (clear : Bool)
  /-- CONTROLLER_HEALTH_STATUS_POLL (R374): Controller Health Status Poll of the controllers from `first` on. -/
  | miControllerPoll (first : Nat)
  /-- CONFIGURATION_SET (R374): Configuration Set. -/
  | miConfigSet (id value : Nat)
  /-- CONFIGURATION_GET (R374): Configuration Get. -/
  | miConfigGet (id : Nat)
  /-- VPD_READ (R374): VPD Read. -/
  | vpdRead (off n : Nat)
  /-- VPD_WRITE (R374): VPD Write; `prog` is how its program turns out. -/
  | vpdWrite (off : Nat) (data : List Byte) (prog : Parity)
  /-- NVME_MI_RESET (R374): NVMe-MI Reset. -/
  | miReset
  /-- BASIC_MANAGEMENT_COMMAND (R374): An SMBus block read at a command code; `cut` if the clock stops before its end. -/
  | basicManagement (code : Nat) (cut : Bool)
  /-- TUNNELLED_ADMIN_COMMAND (R375): An admin command tunnelled over NVMe-MI, for slot `slot`. -/
  | tunnelledAdmin (cntlid slot : Nat) (e : Sqe)
  /-- GET_VERSION (R376): SPDM GET_VERSION. -/
  | getVersion
  /-- GET_CAPABILITIES (R376): SPDM GET_CAPABILITIES. -/
  | getCapabilities
  /-- NEGOTIATE_ALGORITHMS (R376): SPDM NEGOTIATE_ALGORITHMS. -/
  | negotiateAlgorithms
  /-- GET_DIGESTS (R376): SPDM GET_DIGESTS. -/
  | getDigests
  /-- GET_CERTIFICATE (R376): SPDM GET_CERTIFICATE. -/
  | getCertificate
  /-- CHALLENGE (R376): SPDM CHALLENGE. -/
  | spdmChallenge
  /-- GET_MEASUREMENTS (R377): SPDM GET_MEASUREMENTS of an index. -/
  | getMeasurements (index : Nat)
  /-- KEY_EXCHANGE (R376): SPDM KEY_EXCHANGE. -/
  | keyExchange
  /-- FINISH (R376): SPDM FINISH of a session. -/
  | spdmFinish (id : Nat)
  /-- HEARTBEAT (R376): SPDM HEARTBEAT of a session. -/
  | spdmHeartbeat (id : Nat)
  /-- KEY_UPDATE (R439): SPDM KEY_UPDATE of a session. -/
  | keyUpdate (id : Nat)
  /-- END_SESSION (R433): SPDM END_SESSION of a session. -/
  | endSession (id : Nat)
  /-- HEARTBEAT_EXPIRY (R433): The heartbeat period of a session expires. -/
  | heartbeatExpiry (id : Nat)
  /-- CORE_LOAD (R397): Core `c` loads or fetches `n` bytes at `addr`. -/
  | coreLoad (c : Fin 16) (kind : CoreKind) (addr n : Nat) (ways : Ways) (par : WayParity) (first again : LineRead)
  /-- CORE_STORE (R385): Core `c` stores bytes at `addr`. -/
  | coreStore (c : Fin 16) (kind : CoreKind) (addr : Nat) (data : List Byte) (ways : Ways) (par : Parity) (first again : LineRead)
  /-- EVICTION_WRITEBACK (R399): The write-back of line `line` from a cache of pool `p` ends in a bus error. -/
  | evictionWriteback (p : Fin 2) (line : Nat) (cause : Fin 16)
  /-- SMALL_ENGINE_BUS_ERROR (R387): Small engine `eng` receives a bus error. -/
  | smallEngineBusError (eng : Engine) (what : SmallFault)
  /-- DC_C (R402): Core `c` issues DC.C. -/
  | dcC (c : Fin 16) (addr : Nat)
  /-- DC_CI (R402): Core `c` issues DC.CI. -/
  | dcCi (c : Fin 16) (addr : Nat)
  /-- DC_I (R402): Core `c` issues DC.I, at the higher privilege level if `high`. -/
  | dcI (c : Fin 16) (high : Bool) (addr : Nat)
  /-- IC_I (R402): Core `c` issues IC.I. -/
  | icI (c : Fin 16) (addr : Nat)
  /-- DC_CSW (R402): Core `c` issues DC.CSW. -/
  | dcCsw (c : Fin 16) (level set way : Nat)
  /-- DC_CISW (R402): Core `c` issues DC.CISW. -/
  | dcCisw (c : Fin 16) (level set way : Nat)
  /-- DC_ISW (R402): Core `c` issues DC.ISW. -/
  | dcIsw (c : Fin 16) (high : Bool) (level set way : Nat)
  /-- IC_IALL (R402): Core `c` issues IC.IALL. -/
  | icIall (c : Fin 16)
  /-- MSYNC (R402): Core `c` issues MSYNC. -/
  | msync (c : Fin 16)
  /-- ISYNC (R402): Core `c` issues ISYNC. -/
  | isync (c : Fin 16)
  /-- POOL_CMO_CLEAN (R405): `eng` writes POOL_CMO with GO and OP 001b. -/
  | poolCmoClean (eng : Engine) (p : Fin 2)
  /-- POOL_CMO_CLEAN_INVALIDATE (R405): `eng` writes POOL_CMO with GO and OP 010b. -/
  | poolCmoCleanInvalidate (eng : Engine) (p : Fin 2)
  /-- POOL_CMO_INVALIDATE (R405): `eng` writes POOL_CMO with GO and OP 011b. -/
  | poolCmoInvalidate (eng : Engine) (p : Fin 2)
  /-- POOL_CMO_DONE (R405): The command of pool `p` ends. -/
  | poolCmoDone (p : Fin 2)
  /-- L1D_DISABLE (R406): `eng` clears L1D_EN of core `c`. -/
  | l1dDisable (eng : Engine) (c : Fin 16)
  /-- L1D_SWEEP_DONE (R406): The L1D sweep of core `c` ends. -/
  | l1dSweepDone (c : Fin 16)
  /-- L1I_DISABLE (R406): `eng` clears L1I_EN of core `c`. -/
  | l1iDisable (eng : Engine) (c : Fin 16)
  /-- L2_DISABLE (R407): `eng` clears L2_EN of pool `p`. -/
  | l2Disable (eng : Engine) (p : Fin 2)
  /-- L2_SWEEP_DONE (R407): The L2 sweep of pool `p` ends. -/
  | l2SweepDone (p : Fin 2)
  /-- CORE_HOLD (R409): `eng` sets core `c`'s CORE_HOLD bit. -/
  | coreHold (eng : Engine) (c : Fin 16)
  /-- CORE_HELD (R409): The sweep of held core `c` ends. -/
  | coreHeld (c : Fin 16)
  /-- CORE_RELEASE (R409): `eng` clears core `c`'s CORE_HOLD bit. -/
  | coreRelease (eng : Engine) (c : Fin 16)
  /-- TCM_PORT_ACCESS (R382): `eng` reads or writes POOL_Cc_TCM_DATA of core `c`. -/
  | tcmPortAccess (eng : Engine) (c : Fin 16) (write : Option Word) (par : Parity)
  /-- MBX_RESERVE (R393): `eng` reads POOL_MBX_RSV of pool `p`. -/
  | mbxReserve (eng : Engine) (p : Fin 2)
  /-- MBX_LO_WRITE (R393): `eng` writes POOL_MBX_LO. -/
  | mbxLoWrite (eng : Engine) (p : Fin 2) (v : Word)
  /-- MBX_PUSH (R393): `eng` writes POOL_MBX_HI. -/
  | mbxPush (eng : Engine) (p : Fin 2) (v : Word)
  /-- MBX_POP (R393): `eng` reads POOL_MBX_POP_LO. -/
  | mbxPop (eng : Engine) (p : Fin 2)
  /-- MBX_RESERVATION_TIMEOUT (R393): A reservation of `eng` is 1 ms old. -/
  | mbxReservationTimeout (eng : Engine) (p : Fin 2)
  /-- IRQ_DELIVER (R389): A source may be delivered. -/
  | irqDeliver (src : Fin 128)
  /-- IRQ_CLAIM (R390): `eng` reads POOL_Cc_IRQ_CLAIM of core `c`. -/
  | irqClaim (eng : Engine) (c : Fin 16)
  /-- IRQ_EOI (R390): `eng` writes POOL_Cc_IRQ_EOI of core `c`. -/
  | irqEoi (eng : Engine) (c : Fin 16) (v : Word)
  /-- IRQ_ROUTE_WRITE (R391): `eng` writes DEV_IRQ_ROUTE. -/
  | irqRouteWrite (eng : Engine) (v : Word)
  /-- IRQ_SWI (R392): `eng` writes DEV_IRQ_SWI. -/
  | irqSwi (eng : Engine) (v : Word)
  /-- IRQ_SWC (R392): `eng` writes DEV_IRQ_SWC. -/
  | irqSwc (eng : Engine) (v : Word)
  /-- HZL_REQUEST_PUSH (R420): `eng` writes HZL_RQc_PUSH of channel `c`. -/
  | hzlRequestPush (eng : Engine) (c : Fin 3) (v : Word)
  /-- VERIFY (R424): The enclave executes the next request, a VERIFY. -/
  | hzlVerify
  /-- PATCH (R426): The enclave executes the next request, a PATCH. -/
  | hzlPatch
  /-- MEASURE (R421): The enclave executes the next request, a MEASURE. -/
  | hzlMeasure
  /-- SVN_ADVANCE (R427): The enclave executes the next request, an SVN_ADVANCE. -/
  | svnAdvance
  /-- SPDM (R421): The enclave executes the next request, an SPDM whose message is `m`. -/
  | hzlSpdm (m : SpdmMsg)
  /-- RSV_WAIT (R440): The enclave executes the next request, an RSV_WAIT. -/
  | rsvWait
  /-- RSV_DONE (R440): The enclave executes the next request, an RSV_DONE. -/
  | rsvDone
  /-- RSV_LOAD (R440): The enclave executes the next request, an RSV_LOAD. -/
  | rsvLoad
  /-- SEC_SEND (R442): The enclave executes the next request, a SEC_SEND whose payload asks for `m`. -/
  | secSend (m : Tcg)
  /-- SEC_RECV (R442): The enclave executes the next request, a SEC_RECV. -/
  | secRecv
  /-- NS_KEY (R432): The enclave executes the next request, an NS_KEY. -/
  | nsKey
  /-- NS_ERASE (R432): The enclave executes the next request, an NS_ERASE. -/
  | nsErase
  /-- SEAL (R441): The enclave executes the next request, a SEAL. -/
  | hzlSeal
  /-- UNSEAL (R441): The enclave executes the next request, an UNSEAL. -/
  | hzlUnseal
  /-- ENCLAVE_MBX_RETRY (R423): The enclave tries again to post a completion message to pool `p`. -/
  | enclaveMbxRetry (p : Fin 2)
  /-- RSV_DONE_TIMEOUT (R440): A second has passed without RSV_DONE while encryption waits. -/
  | rsvDoneTimeout
  /-- SELF_TEST_DONE (R417): The enclave's self-tests end; the number of a test that failed, if any. -/
  | selfTestDone (failed : Option Nat)
  /-- ENTROPY_HEALTH_FAIL (R418): A continuous health test of the entropy source fails. -/
  | entropyHealthFail
  /-- DRBG_RESEED (R418): The DRBG reseeds. -/
  | drbgReseed
  /-- CIPHER_MESSAGE_START (R437): A cipher message arrives at the scheduler; `par` says whether one of its blocks meets a parity error. -/
  | cipherMessageStart (id : Nat) (what : CipherFor) (prio : Fin 4) (par : Parity)
  /-- CIPHER_MESSAGE_END (R438): Round engine `e` finishes its message. -/
  | cipherMessageEnd (e : Fin 24)
  /-- KEY_UNBIND (R431): The last command bound to the older generation of media slot `k` has ended. -/
  | keyUnbind (k : Fin 4096)
  /-- SERVING (R490): `eng` writes SERVING to SVC_BOOT_CTL. -/
  | serving (eng : Engine)
  /-- BOOT_REPLY_WRITE (R502): `eng` writes SVC_BOOT_REPLY. -/
  | bootReplyWrite (eng : Engine) (v : Word)
  /-- CONFIG_LOCK (R484): `eng` writes LOCK to SVC_BOOT_CTL. -/
  | configLock (eng : Engine)
  /-- WATCHDOG_KICK (R491): `eng` writes SVC_WDOG. -/
  | watchdogKick (eng : Engine) (v : Word)
  /-- START_WATCHDOG_EXPIRY (R491): 30,000 ms of unheld time have passed since the reset that began the start. -/
  | startWatchdogExpiry
  /-- KICK_TIMEOUT (R491): 2,000 ms have passed without a KICK. -/
  | kickTimeout
  /-- CHANNEL_SAMPLE (R505): Channel `c` is converted, and once more if the first reading is out of range; `nominal` says of channels 45 to 47 whether the reading is within 5% of nominal. -/
  | channelSample (c : Fin 48) (first again : Int) (nominal nominalAgain : Bool)
  /-- ROUND_END (R508): A housekeeping round ends. -/
  | roundEnd
  /-- ROUND_TIMEOUT (R514): No round has completed for 100 ms. -/
  | roundTimeout
  /-- FAST_PATH_SAMPLE (R507): The sixteen die sensors, in 0.25 °C. -/
  | fastPathSample (t : List Int)
  /-- SHUTDOWN_FINAL (R516): The spindle reports STOPPED, or 20 s have passed (`late`). -/
  | shutdownFinal (late : Bool)
  /-- THERMAL_HOLD_END (R518): The condition that ends the thermal hold holds. -/
  | thermalHoldEnd (w : StartWorld)
  /-- DIE_THROTTLE_FRAME (R513): A frame of 1 ms begins, or its paused part ends. -/
  | dieThrottleFrame (begins : Bool)
  /-- MEDIA_THROTTLE_FRAME (R513): A frame of 100 ms begins, or its paused part ends. -/
  | mediaThrottleFrame (begins : Bool)
  /-- THR_STAT_READ (R515): `eng` reads HKP_THR_STAT. -/
  | thrStatRead (eng : Engine)
  /-- REC_SLOT_ARM (R520): `eng` writes HKP_REC_SLOT. -/
  | recSlotArm (eng : Engine) (v : Word)
  /-- GPIO_LEVEL_CHANGE (R526): The filter accepts a change of a GPIO input's level, or merges an assertion. -/
  | gpioLevelChange (pin : Fin 16) (level merged : Bool)
  /-- INPUT_STUCK_MASK (R523): The input has been active for its stuck-active limit. -/
  | inputStuckMask (pin : FilterPin)
  /-- MASK_RELEASE_CHECK (R523): A second has passed since the mask or the last check. -/
  | maskReleaseCheck (pin : FilterPin) (inactive : Bool)
  /-- EVENT_RECORD_PROGRAM (R543): A record of class `cls` at `pon` power-on seconds; `prog` is how its program turns out. -/
  | eventRecordProgram (pon : Nat) (cls : BitVec 16) (sev : Fin 4) (unit : BitVec 16) (data : List Byte) (prog : Parity)
  /-- LINK_UP (R359): Link training on port `p` completes; `width` and `speed` are the lower of the partner's and the board's limits. -/
  | linkUp (p : Fin 2) (width speed : Nat) (reversed : Bool) (inverted : Word)
  /-- PERST_DEASSERT (R43): PE_PERSTn_N rises. -/
  | perstDeassert (p : Fin 2)
  /-- CONTROLLER_ENABLE (R479): The host sets CC.EN with admin queues of these sizes, the submission queue at offset `cmb` of the Controller Memory Buffer if it lies there, and weighted round robin if `wrr`. -/
  | controllerEnable (fn : Fin 64) (asqs acqs : Nat) (cmb : Option Nat) (wrr : Bool)
  /-- SHUTDOWN_NOTIFICATION (R547): The host requests shutdown through CC.SHN, or the device looks whether it may complete. -/
  | shutdownNotification (fn : Fin 64)
  /-- VF_ENABLE_SET (R361): The host sets VF Enable with NumVFs `num` on the physical function of port `p`. -/
  | vfEnableSet (p : Fin 2) (num : Nat)
  /-- CREATE_IO_SUBMISSION_QUEUE (R351): The host creates an I/O submission queue of `size` entries. -/
  | createIoSubmissionQueue (fn : Fin 64) (sqid cqid size : Nat) (pc : Bool) (prio : Fin 4) (cmb : Option Nat)
  /-- DELETE_IO_SUBMISSION_QUEUE (R351): The host deletes an I/O submission queue. -/
  | deleteIoSubmissionQueue (fn : Fin 64) (sqid : Nat)
  /-- NAMESPACE_RESIZE (R305): The namespace takes new bands and free bands. -/
  | namespaceResize (fn : Fin 64) (nsid : Nat) (bands free : List Band)
  /-- AGGREGATION_TIME_EXPIRY (R366): The aggregation time of a vector has passed. -/
  | aggregationTimeExpiry (fn : Fin 64) (vector : Nat)
  /-- SP_FLT_N_RELEASE (R525): SP_FLT_N's filtered level goes inactive. -/
  | spFltNRelease
  /-- LOAD_RCOIL_MEASURED (R195): 2 ms against the parking stop have given the coil resistance. -/
  | loadRcoilMeasured (n : Fin 4) (mohm : Nat)
  /-- HEADS_OFF_RAMP (R195): The heads of lane `n` leave the ramp during a load. -/
  | headsOffRamp (n : Fin 4)
  /-- UNPLANNED_POWER_LOSS (R56): The rails collapse without PWRON_N low first. -/
  | unplannedPowerLoss
  deriving DecidableEq, Repr

end Sys2Proof
end

