-- ==== Sys2Proof/Decode.lean ====
section
/-! DEFINITION. The commands that words spell: none. Every row of the opcode table has an empty list of fields, so no word
spells a command of it, and the commands reach the device as terms of `Instr`. -/

namespace Sys2Proof

/-- The command that a word spells by the table's bits: the table gives no row bits. -/
def decodeTableWord (_nbits _w : Nat) : Option Instr := none

end Sys2Proof
end

