-- ==== Sys2Proof/Machine/Regs.lean ====
section
/-! DEFINITION. The register definitions of the spec's register maps (R9, R38, R50, R75, R88, R131, R168, R191, R199,
R223, R256, R286, R322, R353, R378, R411, R414, R444, R470, R501, R528) and the fields of its field tables: offsets,
reset values, and per access code of R7 the mask of the bits that carry it. -/

namespace Sys2Proof.Machine

/-- A field of a register: the register's offset in its unit's block, the lowest bit, the width. -/
structure Field where
  off : Nat
  lo : Nat
  width : Nat
  deriving DecidableEq, Repr

/-- The field's value in a register's contents. -/
def Field.get (f : Field) (w : Word) : Nat := (w.extractLsb' f.lo f.width).toNat

/-- The bits of the field. -/
def Field.mask (f : Field) : Word := BitVec.ofNat 32 ((2 ^ f.width - 1) * 2 ^ f.lo)

/-- A register's contents with the field's value replaced by `v`, cut to the field's width. -/
def Field.put (f : Field) (w : Word) (v : Nat) : Word :=
  (w &&& ~~~ f.mask) ||| (BitVec.ofNat 32 (v % 2 ^ f.width) <<< f.lo)

/-- The same field of the register `d` bytes further on (the rows marked p and c of the register maps). -/
def Field.at (f : Field) (d : Nat) : Field := { f with off := f.off + d }

/-- One register of a register map: offset, reset value, and the bits of each access code of R7: `rw` (RW and RWS),
`w1c`, `w1s`, `rwl`; `keep` holds the bits that keep their value across every reset but the cold reset (RWS, RWL,
sticky W1S, and the fields that the register's description names as kept). -/
structure RegDef where
  off : Nat
  reset : Word
  rw : Word
  w1c : Word
  w1s : Word
  rwl : Word
  keep : Word
  deriving DecidableEq, Repr

-- Offsets of the registers in their unit's block.
namespace Reg

abbrev UNIT_ID : Nat := 0x0
abbrev UNIT_CAP : Nat := 0x4
abbrev UNIT_STAT : Nat := 0x8
abbrev UNIT_CTL : Nat := 0xC
abbrev UNIT_ERR : Nat := 0x10
abbrev UNIT_ERR_MASK : Nat := 0x14
abbrev UNIT_PARENT : Nat := 0x18
abbrev UNIT_CHILD : Nat := 0x1C
abbrev UNIT_SIBLING : Nat := 0x20
abbrev UNIT_RETRY_CNT : Nat := 0x24
abbrev UNIT_LAST_CNT : Nat := 0x28
/-- Fractional divider D for LCLKn (R38). -/
abbrev LN_CLK_DIV : Nat := 0x40
/-- State of the lane clock (R38). -/
abbrev LN_CLK_STAT : Nat := 0x44
/-- Crystal and root PLL state (R50). -/
abbrev DEV_CLK_STAT : Nat := 0x40
/-- Cause of the most recent cold or warm reset (R50). -/
abbrev DEV_RST_CAUSE : Nat := 0x44
/-- Warm resets since the last cold reset, saturating at 0xFFFF_FFFF (R50). -/
abbrev DEV_WARM_CNT : Nat := 0x48
/-- Activity cap level in force (R50). -/
abbrev DEV_PWR_CAP : Nat := 0x4C
/-- Cap limits in force and pool power state (R50). -/
abbrev DEV_PWR_STAT : Nat := 0x50
/-- Dispatch ring base in system SRAM, bits [31:6]; bits [5:0] read 0 (R75). -/
abbrev LN_DQ_BASE : Nat := 0x48
/-- Dispatch ring size and enable (R75). -/
abbrev LN_DQ_CTL : Nat := 0x4C
/-- Next entry firmware will write, in bits [11:0] (R75). -/
abbrev LN_DQ_TAIL : Nat := 0x50
/-- Next entry the lane will fetch, in bits [11:0] (R75). -/
abbrev LN_DQ_HEAD : Nat := 0x54
/-- Report ring base in system SRAM, bits [31:4]; bits [3:0] read 0 (R75). -/
abbrev LN_RQ_BASE : Nat := 0x58
/-- Report ring size and enable (R75). -/
abbrev LN_RQ_CTL : Nat := 0x5C
/-- Next report firmware will consume, in bits [11:0] (R75). -/
abbrev LN_RQ_HEAD : Nat := 0x60
/-- Next report the lane will write, in bits [11:0] (R75). -/
abbrev LN_RQ_TAIL : Nat := 0x64
/-- Results discarded for a stale epoch, saturating (R75). -/
abbrev LN_EPOCH_DISC : Nat := 0x68
/-- Dual-issue sectors discarded as already delivered, saturating (R75). -/
abbrev LN_DUAL_DUP : Nat := 0x6C
/-- Fixed geometry of the 7904 (R88). -/
abbrev MED_GEOM : Nat := 0x40
/-- Wedge count W (R88). -/
abbrev MED_WEDGE_CFG : Nat := 0x44
/-- Rotational position (R67) (R88). -/
abbrev MED_ROT_POS : Nat := 0x48
/-- Head selected for MED_HEAD_DATA, in bits [5:0]; values 48 to 63 select no head (R88). -/
abbrev MED_HEAD_IDX : Nat := 0x4C
/-- State of the selected head (R88). -/
abbrev MED_HEAD_DATA : Nat := 0x50
/-- Free dual-issue trackers, in bits [10:0] (R88). -/
abbrev MED_DUAL_FREE : Nat := 0x54
/-- Slip and defect detector enables (R131). -/
abbrev CHN_CTL : Nat := 0x40
/-- Head table row and word (R131). -/
abbrev CHN_HD_IDX : Nat := 0x44
/-- Selected head table word (R131). -/
abbrev CHN_HD_DATA : Nat := 0x48
/-- AGC gains and target (R131). -/
abbrev CHN_AGC_CTL : Nat := 0x4C
/-- Baseline, asymmetry and FIR gains (R131). -/
abbrev CHN_LOOP_CTL : Nat := 0x50
/-- Timing loop gains (R131). -/
abbrev CHN_TR_CTL : Nat := 0x54
/-- Defect detector thresholds (R131). -/
abbrev CHN_DEF_CTL : Nat := 0x58
/-- Loop state (R131). -/
abbrev CHN_LOOP_STAT : Nat := 0x5C
/-- Recovery profiles 0 to 7 at 0x60 + 4 × profile (R131). -/
abbrev CHN_RPROF : Nat := 0x60
/-- Deep-decode command (R131). -/
abbrev CHN_DD_CMD : Nat := 0x80
/-- Deep-decode state and result (R131). -/
abbrev CHN_DD_STAT : Nat := 0x84
/-- Sample slot state (R131). -/
abbrev CHN_SBUF_STAT : Nat := 0x88
/-- Releases pinned slots (R131). -/
abbrev CHN_SBUF_REL : Nat := 0x8C
/-- Sync event, low word; a read removes the entry (R131). -/
abbrev CHN_SEV_LO : Nat := 0x90
/-- Sync event, high word, as latched (R131). -/
abbrev CHN_SEV_HI : Nat := 0x94
/-- FIFO fill and overflow (R131). -/
abbrev CHN_SEV_STAT : Nat := 0x98
/-- Write precompensation (R131). -/
abbrev CHN_WR_PRECOMP : Nat := 0x9C
/-- Last write stop (R131). -/
abbrev CHN_WR_STAT : Nat := 0xA0
/-- Sectors decoded (R131). -/
abbrev CHN_CNT_SECT_LO : Nat := 0xA8
/-- Sectors decoded (R131). -/
abbrev CHN_CNT_SECT_HI : Nat := 0xAC
/-- Sectors failed on the fly (R131). -/
abbrev CHN_CNT_OTF_FAIL_LO : Nat := 0xB0
/-- Sectors failed on the fly (R131). -/
abbrev CHN_CNT_OTF_FAIL_HI : Nat := 0xB4
/-- Sectors delivered on an SM2 anchor with SM1 missed or judged false (R131). -/
abbrev CHN_CNT_SM2_LO : Nat := 0xB8
/-- Sectors delivered on an SM2 anchor with SM1 missed or judged false (R131). -/
abbrev CHN_CNT_SM2_HI : Nat := 0xBC
/-- Sectors delivered after realignment by k (R131). -/
abbrev CHN_CNT_REALIGN_LO : Nat := 0xC0
/-- Sectors delivered after realignment by k (R131). -/
abbrev CHN_CNT_REALIGN_HI : Nat := 0xC4
/-- Sectors delivered by a slip hypothesis (R131). -/
abbrev CHN_CNT_SLIP_LO : Nat := 0xC8
/-- Sectors delivered by a slip hypothesis (R131). -/
abbrev CHN_CNT_SLIP_HI : Nat := 0xCC
/-- CRC failures (R131). -/
abbrev CHN_CNT_CRC_LO : Nat := 0xD0
/-- CRC failures (R131). -/
abbrev CHN_CNT_CRC_HI : Nat := 0xD4
/-- Sectors delivered by deep decode (R131). -/
abbrev CHN_CNT_DEEP_LO : Nat := 0xD8
/-- Sectors delivered by deep decode (R131). -/
abbrev CHN_CNT_DEEP_HI : Nat := 0xDC
/-- Failed sectors refused a pin (R131). -/
abbrev CHN_CNT_SBUF_FULL_LO : Nat := 0xE0
/-- Failed sectors refused a pin (R131). -/
abbrev CHN_CNT_SBUF_FULL_HI : Nat := 0xE4
/-- Write stops with causes 001b to 111b (R131). -/
abbrev CHN_CNT_WFLT_LO : Nat := 0xE8
/-- Write stops with causes 001b to 111b (R131). -/
abbrev CHN_CNT_WFLT_HI : Nat := 0xEC
/-- Program counter, wait, stack, queue and flags (R168). -/
abbrev TSQ_STAT : Nat := 0x40
/-- Conditions SW0–SW3 (R168). -/
abbrev TSQ_SWCOND : Nat := 0x44
/-- Word watchdog limit (R146) (R168). -/
abbrev TSQ_WDOG : Nat := 0x48
/-- Machine check record (R168). -/
abbrev TSQ_MCHK : Nat := 0x4C
/-- Word at the machine check, bits [31:0] to [127:96] (R168). -/
abbrev TSQ_MCHK_W : Nat := 0x50
/-- Its parity, in bits [15:0] (R168). -/
abbrev TSQ_MCHK_PAR : Nat := 0x60
/-- Patch RAM port address (R166) (R168). -/
abbrev TSQ_PW_ADDR : Nat := 0x64
/-- Patch word, bits [31:0] to [127:96] (R168). -/
abbrev TSQ_PW_DATA : Nat := 0x68
/-- Stored parity of the word at ADDR (R168). -/
abbrev TSQ_PW_PAR : Nat := 0x78
/-- Parity flip mask for the next commit (R168). -/
abbrev TSQ_PW_FLIP : Nat := 0x7C
/-- Late events, 64-bit under R4 (R168). -/
abbrev TSQ_CNT_LATE_LO : Nat := 0x80
/-- Late events, 64-bit under R4 (R168). -/
abbrev TSQ_CNT_LATE_HI : Nat := 0x84
/-- Patch vectors, at 0x100 + 4 × vector (R168). -/
abbrev TSQ_PV : Nat := 0x100
/-- Mailbox slot of lane 2p (upper stack) (R191). -/
abbrev PIV_MBX0 : Nat := 0x40
/-- Mailbox slot of lane 2p + 1 (lower stack) (R191). -/
abbrev PIV_MBX1 : Nat := 0x44
/-- Feed-forward gains (R191). -/
abbrev PIV_RTC_GAIN : Nat := 0x48
/-- Stale counts (R191). -/
abbrev PIV_RTC_STAT : Nat := 0x4C
/-- Feed-forward enables (R199). -/
abbrev SRV_CTL : Nat := 0x40
/-- Load and unload requests (R199). -/
abbrev SRV_CMD : Nat := 0x44
/-- Mode, lock, inhibit, head (R199). -/
abbrev SRV_STAT : Nat := 0x48
/-- Track last decoded (R199). -/
abbrev SRV_TRACK : Nat := 0x4C
/-- Last position error and wedge (R199). -/
abbrev SRV_PES : Nat := 0x50
/-- Write-inhibit threshold and shock hold (R199). -/
abbrev SRV_PES_THR : Nat := 0x54
/-- Settle windows and counts (R199). -/
abbrev SRV_SETTLE : Nat := 0x58
/-- Seek timeout (R199). -/
abbrev SRV_SEEK_TMO : Nat := 0x5C
/-- Last seek result (R199). -/
abbrev SRV_SEEK_STAT : Nat := 0x60
/-- Wedge exclusion and post-guard (R199). -/
abbrev SRV_WEDGE_CFG : Nat := 0x64
/-- Coefficient bank per state (R199). -/
abbrev SRV_BANK : Nat := 0x68
/-- Coefficient index (R199). -/
abbrev SRV_COEF_IDX : Nat := 0x6C
/-- Coefficient at the index (R199). -/
abbrev SRV_COEF_DATA : Nat := 0x70
/-- Runout table index (R199). -/
abbrev SRV_RRO_IDX : Nat := 0x74
/-- Runout word at the index (R199). -/
abbrev SRV_RRO_DATA : Nat := 0x78
/-- Tracks per surface for interpolation (R199). -/
abbrev SRV_RRO_SPAN : Nat := 0x7C
/-- Servo reader per head index (R199). -/
abbrev SRV_HD_SRDR : Nat := 0x80
/-- Band offset entry and word (R199). -/
abbrev SRV_BOFS_IDX : Nat := 0x84
/-- Band offset word at the index (R199). -/
abbrev SRV_BOFS_DATA : Nat := 0x88
/-- Measured coil resistance (R199). -/
abbrev SRV_VCM_CAL : Nat := 0x8C
/-- Last DAC commands (R199). -/
abbrev SRV_VCM_OUT : Nat := 0x90
/-- Retract parameters (R199). -/
abbrev SRV_RETRACT : Nat := 0x94
/-- Result of the last retract (R199). -/
abbrev SRV_RET_STAT : Nat := 0x98
/-- Missed wedges (R199). -/
abbrev SRV_CNT_MISS_LO : Nat := 0xA0
/-- Missed wedges (R199). -/
abbrev SRV_CNT_MISS_HI : Nat := 0xA4
/-- Writes stopped by the inhibit (R199). -/
abbrev SRV_CNT_WINH_LO : Nat := 0xA8
/-- Writes stopped by the inhibit (R199). -/
abbrev SRV_CNT_WINH_HI : Nat := 0xAC
/-- Shock events (R199). -/
abbrev SRV_CNT_SHOCK_LO : Nat := 0xB0
/-- Shock events (R199). -/
abbrev SRV_CNT_SHOCK_HI : Nat := 0xB4
/-- Completed loads (R199). -/
abbrev SRV_CNT_LOAD_LO : Nat := 0xB8
/-- Completed loads (R199). -/
abbrev SRV_CNT_LOAD_HI : Nat := 0xBC
/-- Hardware retracts (R199). -/
abbrev SRV_CNT_RETRACT_LO : Nat := 0xC0
/-- Hardware retracts (R199). -/
abbrev SRV_CNT_RETRACT_HI : Nat := 0xC4
/-- Model enable, check and update spacing (R223). -/
abbrev AST_CTL : Nat := 0x40
/-- Arming, gate and set-point state (R223). -/
abbrev AST_STAT : Nat := 0x44
/-- Pre-heat lead in data bits (R209) (R223). -/
abbrev AST_LEAD : Nat := 0x48
/-- Drive-internal temperature window (R223). -/
abbrev AST_WIN_CFG : Nat := 0x4C
/-- Window state and readings (R223). -/
abbrev AST_WIN_STAT : Nat := 0x50
/-- Idle and on-time limits (R223). -/
abbrev AST_LIM : Nat := 0x54
/-- Latched faults (R213) (R223). -/
abbrev AST_FLT_STAT : Nat := 0x58
/-- Head row and word (R223). -/
abbrev AST_HD_IDX : Nat := 0x5C
/-- Selected head row word (R223). -/
abbrev AST_HD_DATA : Nat := 0x60
/-- Zone set-point table index (R223). -/
abbrev AST_ZP_IDX : Nat := 0x64
/-- SPZ at the index (R223). -/
abbrev AST_ZP_DATA : Nat := 0x68
/-- Model state selection (R223). -/
abbrev AST_MODEL_IDX : Nat := 0x6C
/-- Selected model state (R223). -/
abbrev AST_MODEL_DATA : Nat := 0x70
/-- Life counter selection (R223). -/
abbrev AST_LIFE_IDX : Nat := 0x74
/-- Selected life counter (R218) (R223). -/
abbrev AST_LIFE_LO : Nat := 0x78
/-- Selected life counter (R218) (R223). -/
abbrev AST_LIFE_HI : Nat := 0x7C
/-- Faults latched (R223). -/
abbrev AST_CNT_FLT_LO : Nat := 0x80
/-- Faults latched (R223). -/
abbrev AST_CNT_FLT_HI : Nat := 0x84
/-- AST_ARM refused for the window (R223). -/
abbrev AST_CNT_REFUSE_LO : Nat := 0x88
/-- AST_ARM refused for the window (R223). -/
abbrev AST_CNT_REFUSE_HI : Nat := 0x8C
/-- Direction and enables (R256). -/
abbrev SPN_CTL : Nat := 0x40
/-- START, STOP, COAST (R242) (R256). -/
abbrev SPN_CMD : Nat := 0x44
/-- Mode, flags, sector and vector (R256). -/
abbrev SPN_STAT : Nat := 0x48
/-- Speed reference (R256). -/
abbrev SPN_SPD_REF : Nat := 0x4C
/-- Measured speed (R256). -/
abbrev SPN_SPEED : Nat := 0x50
/-- Revolution period (R240) (R256). -/
abbrev SPN_PERIOD : Nat := 0x54
/-- Current limits (R256). -/
abbrev SPN_ILIM : Nat := 0x58
/-- Comparator bands (R231) (R256). -/
abbrev SPN_HYST : Nat := 0x5C
/-- Speed loop gains (R235) (R256). -/
abbrev SPN_SPD_GAIN : Nat := 0x60
/-- Winding resistance and inductance (R256). -/
abbrev SPN_MOT_R : Nat := 0x64
/-- Back-EMF constant and flux (R256). -/
abbrev SPN_MOT_K : Nat := 0x68
/-- Dead time (R226) (R256). -/
abbrev SPN_DEADT : Nat := 0x6C
/-- Phase-advance entry (R256). -/
abbrev SPN_PADV_IDX : Nat := 0x70
/-- Phase-advance value at the entry (R256). -/
abbrev SPN_PADV_DATA : Nat := 0x74
/-- Estimator changeover speeds (R238) (R256). -/
abbrev SPN_EST_CFG : Nat := 0x78
/-- Test-vector injection (R237) (R256). -/
abbrev SPN_INJ_CFG : Nat := 0x7C
/-- Saturation pulses (R245) (R256). -/
abbrev SPN_SAT_CFG : Nat := 0x80
/-- Brake and spin-up limits (R256). -/
abbrev SPN_TMO : Nat := 0x84
/-- Bus limits (R249) (R256). -/
abbrev SPN_VBUS_LIM : Nat := 0x88
/-- Motor bus voltage (R256). -/
abbrev SPN_VBUS : Nat := 0x8C
/-- Chopper checks (R249) (R256). -/
abbrev SPN_CHOP_CFG : Nat := 0x90
/-- Regeneration set-points (R250) (R256). -/
abbrev SPN_REGEN : Nat := 0x94
/-- Hold-up estimate parameters (R252) (R256). -/
abbrev SPN_HOLDUP_CFG : Nat := 0x98
/-- Recoverable energy (R256). -/
abbrev SPN_HOLDUP : Nat := 0x9C
/-- Rotor angle estimate (R256). -/
abbrev SPN_ANGLE : Nat := 0xA0
/-- Torque and flux estimates (R256). -/
abbrev SPN_TORQUE : Nat := 0xA4
/-- Latched faults (R256). -/
abbrev SPN_FLT_STAT : Nat := 0xA8
/-- Completed starts (R256). -/
abbrev SPN_CNT_START_LO : Nat := 0xB0
/-- Completed starts (R256). -/
abbrev SPN_CNT_START_HI : Nat := 0xB4
/-- Losses of synchronism (R256). -/
abbrev SPN_CNT_LOS_LO : Nat := 0xB8
/-- Losses of synchronism (R256). -/
abbrev SPN_CNT_LOS_HI : Nat := 0xBC
/-- Chopper drives (R256). -/
abbrev SPN_CNT_CHOP_LO : Nat := 0xC0
/-- Chopper drives (R256). -/
abbrev SPN_CNT_CHOP_HI : Nat := 0xC4
/-- Revolutions in either direction (R256). -/
abbrev SPN_CNT_REV_LO : Nat := 0xC8
/-- Revolutions in either direction (R256). -/
abbrev SPN_CNT_REV_HI : Nat := 0xCC
/-- Power-loss ride-throughs, counted at each entry to REGEN (R253) (R256). -/
abbrev SPN_CNT_PLOSS_LO : Nat := 0xD0
/-- Power-loss ride-throughs, counted at each entry to REGEN (R253) (R256). -/
abbrev SPN_CNT_PLOSS_HI : Nat := 0xD4
/-- DRAM configuration and injection enable (R286). -/
abbrev BUF_CFG : Nat := 0x40
/-- Training, self-refresh, scrub state (R286). -/
abbrev BUF_STAT : Nat := 0x44
/-- Pages in the firmware region (R286). -/
abbrev BUF_FW_PAGES : Nat := 0x48
/-- First page of the BTT (R286). -/
abbrev BUF_BTT_BASE : Nat := 0x4C
/-- Number of handles (R286). -/
abbrev BUF_HDL_LIMIT : Nat := 0x50
/-- Handle selected (R286). -/
abbrev BUF_BTT_IDX : Nat := 0x54
/-- BTT entry of the selected handle (R286). -/
abbrev BUF_BTT_DATA : Nat := 0x58
/-- Spare page for retirement (R286). -/
abbrev BUF_RET_SPARE : Nat := 0x5C
/-- Retirement command (R286). -/
abbrev BUF_RET_CMD : Nat := 0x60
/-- Retirement state (R286). -/
abbrev BUF_RET_STAT : Nat := 0x64
/-- State record area in system SRAM (R286). -/
abbrev BUF_DSR_BASE : Nat := 0x68
/-- Oldest fault notice; a read removes it (R286). -/
abbrev BUF_FLT_POP : Nat := 0x6C
/-- Resume or abort a context (R286). -/
abbrev BUF_FLT_CMD : Nat := 0x70
/-- Fault time limit and context use (R286). -/
abbrev BUF_FLT_CFG : Nat := 0x74
/-- Scrub modes and lap time (R286). -/
abbrev BUF_SCRUB_CTL : Nat := 0x78
/-- Laps completed (R286). -/
abbrev BUF_SCRUB_LAP : Nat := 0x7C
/-- Patrol position (R286). -/
abbrev BUF_SCRUB_POS : Nat := 0x80
/-- First page of a range pass (R286). -/
abbrev BUF_RANGE_START : Nat := 0x84
/-- Last page of a range pass (R286). -/
abbrev BUF_RANGE_END : Nat := 0x88
/-- Range pass state (R286). -/
abbrev BUF_RANGE_STAT : Nat := 0x8C
/-- Lines read (R286). -/
abbrev BUF_RANGE_LINES : Nat := 0x90
/-- Codewords corrected (R286). -/
abbrev BUF_RANGE_CE : Nat := 0x94
/-- Uncorrectable lines (R286). -/
abbrev BUF_RANGE_UE : Nat := 0x98
/-- First uncorrectable line (R286). -/
abbrev BUF_RANGE_FIRST : Nat := 0x9C
/-- Event, low word; a read removes the entry (R286). -/
abbrev BUF_EV_LO : Nat := 0xA0
/-- Event, high word, as latched (R286). -/
abbrev BUF_EV_HI : Nat := 0xA4
/-- Event FIFO fill and overflow (R286). -/
abbrev BUF_EV_STAT : Nat := 0xA8
/-- History entry and word (R286). -/
abbrev BUF_HIST_IDX : Nat := 0xAC
/-- History word selected (R286). -/
abbrev BUF_HIST_DATA : Nat := 0xB0
/-- Injection arm and target (R286). -/
abbrev BUF_INJ_CTL : Nat := 0xB4
/-- Injection address (R286). -/
abbrev BUF_INJ_ADDR : Nat := 0xB8
/-- DQ pins or SRAM bytes (R286). -/
abbrev BUF_INJ_PINS : Nat := 0xBC
/-- Beats and CB pins (R286). -/
abbrev BUF_INJ_CB : Nat := 0xC0
/-- Corrected codewords (R286). -/
abbrev BUF_CNT_CE_LO : Nat := 0xC8
/-- Corrected codewords (R286). -/
abbrev BUF_CNT_CE_HI : Nat := 0xCC
/-- Lasting uncorrectable lines (R286). -/
abbrev BUF_CNT_UE_LO : Nat := 0xD0
/-- Lasting uncorrectable lines (R286). -/
abbrev BUF_CNT_UE_HI : Nat := 0xD4
/-- Write-backs (R286). -/
abbrev BUF_CNT_WB_LO : Nat := 0xD8
/-- Write-backs (R286). -/
abbrev BUF_CNT_WB_HI : Nat := 0xDC
/-- Corrections after write-back (R286). -/
abbrev BUF_CNT_RECUR_LO : Nat := 0xE0
/-- Corrections after write-back (R286). -/
abbrev BUF_CNT_RECUR_HI : Nat := 0xE4
/-- Pages retired (R286). -/
abbrev BUF_CNT_RETIRE_LO : Nat := 0xE8
/-- Pages retired (R286). -/
abbrev BUF_CNT_RETIRE_HI : Nat := 0xEC
/-- Lasting SRAM parity errors (R286). -/
abbrev BUF_CNT_SPAR_LO : Nat := 0xF0
/-- Lasting SRAM parity errors (R286). -/
abbrev BUF_CNT_SPAR_HI : Nat := 0xF4
/-- Corrections not tracked (R286). -/
abbrev BUF_CNT_HMISS_LO : Nat := 0xF8
/-- Corrections not tracked (R286). -/
abbrev BUF_CNT_HMISS_HI : Nat := 0xFC
/-- Vault fitted and chip enables (R322). -/
abbrev SVC_VLT_CFG : Nat := 0x200
/-- Arming and protection state (R322). -/
abbrev SVC_VLT_STAT : Nat := 0x204
/-- Good capacity of area A (R322). -/
abbrev SVC_VLT_CAP_A : Nat := 0x208
/-- Good capacity of area B (R322). -/
abbrev SVC_VLT_CAP_B : Nat := 0x20C
/-- DIRTY_LIM (R310) (R322). -/
abbrev SVC_VLT_DIRTY_LIM : Nat := 0x210
/-- Effective dirty limit (R322). -/
abbrev SVC_VLT_EFF_LIM : Nat := 0x214
/-- Erase an area (R322). -/
abbrev SVC_VLT_CMD : Nat := 0x218
/-- SEQ of the last save written or restored (R322). -/
abbrev SVC_VLT_SEQ_LO : Nat := 0x220
/-- SEQ of the last save written or restored (R322). -/
abbrev SVC_VLT_SEQ_HI : Nat := 0x224
/-- Result of the last save (R322). -/
abbrev SVC_VLT_SAVE_STAT : Nat := 0x228
/-- Saves completed (R322). -/
abbrev SVC_VLT_CNT_SAVE_LO : Nat := 0x230
/-- Saves completed (R322). -/
abbrev SVC_VLT_CNT_SAVE_HI : Nat := 0x234
/-- Path enables and pool routing (R353). -/
abbrev CMD_CTL : Nat := 0x40
/-- Free command slots (R353). -/
abbrev CMD_FREE_SLOTS : Nat := 0x44
/-- Free range-lock entries (R353). -/
abbrev CMD_FREE_LOCKS : Nat := 0x48
/-- Free extent entries (R353). -/
abbrev CMD_FREE_EXT : Nat := 0x4C
/-- Function selected (R353). -/
abbrev CMD_FN_IDX : Nat := 0x50
/-- Slot quota of the selected function (R353). -/
abbrev CMD_FN_QUOTA : Nat := 0x54
/-- Arbitration weight of the selected function (R353). -/
abbrev CMD_FN_ARB : Nat := 0x58
/-- Slots held by the selected function (R353). -/
abbrev CMD_FN_INUSE : Nat := 0x5C
/-- Swallowtail path length limit (R353). -/
abbrev CMD_FP_CFG : Nat := 0x60
/-- DMA pre-emption (R348) (R353). -/
abbrev CMD_PREEMPT : Nat := 0x64
/-- Abort target (R343) (R353). -/
abbrev CMD_ABT_KEY : Nat := 0x68
/-- Abort attempt (R353). -/
abbrev CMD_ABT_GO : Nat := 0x6C
/-- Abort result (R353). -/
abbrev CMD_ABT_RES : Nat := 0x70
/-- Extent entry and word (R353). -/
abbrev CMD_EXT_IDX : Nat := 0x74
/-- Extent word selected (R353). -/
abbrev CMD_EXT_DATA : Nat := 0x78
/-- Slot selected (R353). -/
abbrev CMD_SLOT_IDX : Nat := 0x7C
/-- State of the selected slot (R353). -/
abbrev CMD_SLOT_DATA : Nat := 0x80
/-- Adds a free run of handles (R353). -/
abbrev CMD_HFREE : Nat := 0x84
/-- Granules on the free-run list (R353). -/
abbrev CMD_HFREE_CNT : Nat := 0x88
/-- Granules reserved or dirty (R353). -/
abbrev CMD_DIRTY : Nat := 0x8C
/-- Work ring base in system SRAM, bits [31:7] (R353). -/
abbrev CMD_WQp_BASE : Nat := 0x90
/-- Work ring size and enable (R353). -/
abbrev CMD_WQp_CTL : Nat := 0x94
/-- Next work entry firmware will consume, in [11:0] (R353). -/
abbrev CMD_WQp_HEAD : Nat := 0x98
/-- Next work entry the engine will write, in [11:0] (R353). -/
abbrev CMD_WQp_TAIL : Nat := 0x9C
/-- Completion ring base in system SRAM, bits [31:4] (R353). -/
abbrev CMD_CQp_BASE : Nat := 0xA0
/-- Completion ring size and enable (R353). -/
abbrev CMD_CQp_CTL : Nat := 0xA4
/-- Next completion entry firmware will write, in [11:0] (R353). -/
abbrev CMD_CQp_TAIL : Nat := 0xA8
/-- Next completion entry the engine will read, in [11:0] (R353). -/
abbrev CMD_CQp_HEAD : Nat := 0xAC
/-- Commands served by the Swallowtail path (R353). -/
abbrev CMD_CNT_FP_LO : Nat := 0xD0
/-- Commands served by the Swallowtail path (R353). -/
abbrev CMD_CNT_FP_HI : Nat := 0xD4
/-- Reads handed to a pool (R353). -/
abbrev CMD_CNT_FP_PASS_LO : Nat := 0xD8
/-- Reads handed to a pool (R353). -/
abbrev CMD_CNT_FP_PASS_HI : Nat := 0xDC
/-- Commands that entered LOCKWAIT (R353). -/
abbrev CMD_CNT_LOCKWAIT_LO : Nat := 0xE0
/-- Commands that entered LOCKWAIT (R353). -/
abbrev CMD_CNT_LOCKWAIT_HI : Nat := 0xE4
/-- Aborts that won the commit point (R353). -/
abbrev CMD_CNT_ABORT_LO : Nat := 0xE8
/-- Aborts that won the commit point (R353). -/
abbrev CMD_CNT_ABORT_HI : Nat := 0xEC
/-- Ring entries discarded after the commit point (R353). -/
abbrev CMD_CNT_LATE_CPL_LO : Nat := 0xF0
/-- Ring entries discarded after the commit point (R353). -/
abbrev CMD_CNT_LATE_CPL_HI : Nat := 0xF4
/-- DMA suspensions (R348) (R353). -/
abbrev CMD_CNT_PREEMPT_LO : Nat := 0xF8
/-- DMA suspensions (R348) (R353). -/
abbrev CMD_CNT_PREEMPT_HI : Nat := 0xFC
/-- Lasting parity errors in entries (R329) (R353). -/
abbrev CMD_CNT_SQPAR_LO : Nat := 0x100
/-- Lasting parity errors in entries (R329) (R353). -/
abbrev CMD_CNT_SQPAR_HI : Nat := 0x104
/-- Mode confirmation and link limits (R378). -/
abbrev PEP_CFG : Nat := 0x40
/-- Strap and link state (R378). -/
abbrev PEP_STAT : Nat := 0x44
/-- Lanes with inverted polarity (R378). -/
abbrev PEP_POL : Nat := 0x48
/-- Function selected (R378). -/
abbrev PEP_FN_IDX : Nat := 0x4C
/-- Queue and vector limits of the selected function (R378). -/
abbrev PEP_FN_CFG : Nat := 0x50
/-- Group selected (R378). -/
abbrev PEP_ANA_IDX : Nat := 0x54
/-- State of the selected group (R378). -/
abbrev PEP_ANA_DATA : Nat := 0x58
/-- Entries to link Recovery (R378). -/
abbrev PEP_CNT_RECOV_LO : Nat := 0x60
/-- Entries to link Recovery (R378). -/
abbrev PEP_CNT_RECOV_HI : Nat := 0x64
/-- Correctable errors reported (R378). -/
abbrev PEP_CNT_CE_LO : Nat := 0x68
/-- Correctable errors reported (R378). -/
abbrev PEP_CNT_CE_HI : Nat := 0x6C
/-- Uncorrectable errors reported (R378). -/
abbrev PEP_CNT_UE_LO : Nat := 0x70
/-- Uncorrectable errors reported (R378). -/
abbrev PEP_CNT_UE_HI : Nat := 0x74
/-- L2 enable and core hold (R411). -/
abbrev POOL_CTL : Nat := 0x40
/-- L2 state and core state (R411). -/
abbrev POOL_STAT : Nat := 0x44
/-- Start address for released cores (R411). -/
abbrev POOL_RVEC : Nat := 0x48
/-- Whole-pool maintenance (R405) (R411). -/
abbrev POOL_CMO : Nat := 0x4C
/-- Maintenance state (R411). -/
abbrev POOL_CMO_STAT : Nat := 0x50
/-- Reserves a mailbox entry (R393) (R411). -/
abbrev POOL_MBX_RSV : Nat := 0x54
/-- Message low word (R411). -/
abbrev POOL_MBX_LO : Nat := 0x58
/-- Message high word; pushes the entry (R411). -/
abbrev POOL_MBX_HI : Nat := 0x5C
/-- Oldest message, low word; a read removes the entry (R411). -/
abbrev POOL_MBX_POP_LO : Nat := 0x60
/-- Its high word, as latched (R411). -/
abbrev POOL_MBX_POP_HI : Nat := 0x64
/-- Fill, sender and drops (R411). -/
abbrev POOL_MBX_STAT : Nat := 0x68
/-- Write-back fault record (R399) (R411). -/
abbrev POOL_WB_FLT : Nat := 0x6C
/-- Line of the write-back fault (R411). -/
abbrev POOL_WB_ADDR : Nat := 0x70
/-- Locked-out ways (R400) (R411). -/
abbrev POOL_LOCKOUT : Nat := 0x74
/-- Clean-line parity errors (R411). -/
abbrev POOL_CNT_PCLEAN_LO : Nat := 0x78
/-- Clean-line parity errors (R411). -/
abbrev POOL_CNT_PCLEAN_HI : Nat := 0x7C
/-- Lasting parity errors on dirty lines or TCM (R411). -/
abbrev POOL_CNT_PDIRTY_LO : Nat := 0x80
/-- Lasting parity errors on dirty lines or TCM (R411). -/
abbrev POOL_CNT_PDIRTY_HI : Nat := 0x84
/-- L1 enables (R411). -/
abbrev POOL_Cc_CTL : Nat := 0x100
/-- L1 and run state (R411). -/
abbrev POOL_Cc_STAT : Nat := 0x104
/-- Fault record (R384) (R411). -/
abbrev POOL_Cc_FLT : Nat := 0x108
/-- Fault address [31:0] (R411). -/
abbrev POOL_Cc_FLT_ADDR_LO : Nat := 0x10C
/-- Fault address [39:32] (R411). -/
abbrev POOL_Cc_FLT_ADDR_HI : Nat := 0x110
/-- Claims a source (R390) (R411). -/
abbrev POOL_Cc_IRQ_CLAIM : Nat := 0x114
/-- Ends service (R411). -/
abbrev POOL_Cc_IRQ_EOI : Nat := 0x118
/-- Priority threshold (R411). -/
abbrev POOL_Cc_IRQ_THR : Nat := 0x11C
/-- TCM word selected (R382) (R411). -/
abbrev POOL_Cc_TCM_IDX : Nat := 0x120
/-- TCM word at the index (R411). -/
abbrev POOL_Cc_TCM_DATA : Nat := 0x124
/-- Source selected (R414). -/
abbrev DEV_IRQ_IDX : Nat := 0x80
/-- Route of the selected source (R414). -/
abbrev DEV_IRQ_ROUTE : Nat := 0x84
/-- State of the selected source (R414). -/
abbrev DEV_IRQ_STAT : Nat := 0x88
/-- Sets software sources (R392) (R414). -/
abbrev DEV_IRQ_SWI : Nat := 0x8C
/-- Clears software sources (R414). -/
abbrev DEV_IRQ_SWC : Nat := 0x90
/-- Readiness, self-test result and ROM revision (R444). -/
abbrev HZL_STAT : Nat := 0x40
/-- Key Per I/O base slot (R429) (R444). -/
abbrev HZL_CFG : Nat := 0x44
/-- Engines busy, suspended and out of service (R444). -/
abbrev HZL_ENG_STAT : Nat := 0x48
/-- Key slot selected (R444). -/
abbrev HZL_SLOT_IDX : Nat := 0x4C
/-- State and current generation of the selected slot (R444). -/
abbrev HZL_SLOT_STAT : Nat := 0x50
/-- Older generation of the selected slot (R444). -/
abbrev HZL_SLOT_OLD : Nat := 0x54
/-- Commands bound to the current generation (R444). -/
abbrev HZL_SLOT_CBND : Nat := 0x58
/-- Commands bound to the older generation (R444). -/
abbrev HZL_SLOT_OBND : Nat := 0x5C
/-- OTP security versions and maker key (R444). -/
abbrev HZL_SVN : Nat := 0x60
/-- Pushes a request descriptor (R420) (R444). -/
abbrev HZL_RQc_PUSH : Nat := 0x80
/-- Free entries and overflow (R444). -/
abbrev HZL_RQc_STAT : Nat := 0x84
/-- Images verified (R444). -/
abbrev HZL_CNT_VERIFY_LO : Nat := 0xC0
/-- Images verified (R444). -/
abbrev HZL_CNT_VERIFY_HI : Nat := 0xC4
/-- Images refused (R444). -/
abbrev HZL_CNT_VFAIL_LO : Nat := 0xC8
/-- Images refused (R444). -/
abbrev HZL_CNT_VFAIL_HI : Nat := 0xCC
/-- Generations zeroised (R431) (R444). -/
abbrev HZL_CNT_ZERO_LO : Nat := 0xD0
/-- Generations zeroised (R431) (R444). -/
abbrev HZL_CNT_ZERO_HI : Nat := 0xD4
/-- Messages suspended (R438) (R444). -/
abbrev HZL_CNT_SUSP_LO : Nat := 0xD8
/-- Messages suspended (R438) (R444). -/
abbrev HZL_CNT_SUSP_HI : Nat := 0xDC
/-- Phase, slots and probation time (R470). -/
abbrev SVC_FW_STAT : Nat := 0x100
/-- Ready, refusal and heartbeats from the pools (R470). -/
abbrev SVC_FW_REPLY : Nat := 0x104
/-- Result of the last activation (R470). -/
abbrev SVC_FW_RES : Nat := 0x108
/-- State transfer area (R470). -/
abbrev SVC_FW_XFER : Nat := 0x10C
/-- Activations committed (R470). -/
abbrev SVC_FW_CNT_ACT_LO : Nat := 0x110
/-- Activations committed (R470). -/
abbrev SVC_FW_CNT_ACT_HI : Nat := 0x114
/-- Reverts completed (R470). -/
abbrev SVC_FW_CNT_REV_LO : Nat := 0x118
/-- Reverts completed (R470). -/
abbrev SVC_FW_CNT_REV_HI : Nat := 0x11C
/-- Stage, attempt and straps (R501). -/
abbrev SVC_BOOT_STAT : Nat := 0x40
/-- Configuration lock and serving (R501). -/
abbrev SVC_BOOT_CTL : Nat := 0x44
/-- Slot, Idsar, patch and settings pair in use (R501). -/
abbrev SVC_BOOT_SEL : Nat := 0x48
/-- Consecutive failed starts and last reason (R501). -/
abbrev SVC_FAIL : Nat := 0x4C
/-- Watchdog kick and deadline hold (R501). -/
abbrev SVC_WDOG : Nat := 0x50
/-- Unheld time since reset (R501). -/
abbrev SVC_WDOG_STAT : Nat := 0x54
/-- Pool readiness at start (R501). -/
abbrev SVC_BOOT_REPLY : Nat := 0x58
/-- Save plan address (R489) (R501). -/
abbrev SVC_SAVE_PLAN : Nat := 0x5C
/-- NOR size and slot size (R501). -/
abbrev SVC_NOR_STAT : Nat := 0x60
/-- Rounds completed (R528). -/
abbrev HKP_ROUND : Nat := 0x40
/-- Channel selected (R528). -/
abbrev HKP_CH_IDX : Nat := 0x44
/-- Reading of the selected channel (R528). -/
abbrev HKP_CH_DATA : Nat := 0x48
/-- Limits of the selected channel (R506) (R528). -/
abbrev HKP_CH_LIM : Nat := 0x4C
/-- Last channel outside its limits (R528). -/
abbrev HKP_ALIM_CH : Nat := 0x50
/-- H and valid mask (R528). -/
abbrev HKP_DIE_STAT : Nat := 0x54
/-- T_die and hot regions (R528). -/
abbrev HKP_DIE_HOT : Nat := 0x58
/-- Media throttle starts (R512) (R528). -/
abbrev HKP_THR_CFG : Nat := 0x5C
/-- Throttle levels; a read clears CHG (R528). -/
abbrev HKP_THR_STAT : Nat := 0x60
/-- Shutdown and arming state (R528). -/
abbrev HKP_THM_STAT : Nat := 0x64
/-- Armed record entry (R520) (R528). -/
abbrev HKP_REC_SLOT : Nat := 0x68
/-- SEQ of the armed record (R528). -/
abbrev HKP_REC_SEQ_LO : Nat := 0x70
/-- SEQ of the armed record (R528). -/
abbrev HKP_REC_SEQ_HI : Nat := 0x74
/-- Power-on seconds, written by firmware (R528). -/
abbrev HKP_PON_LO : Nat := 0x78
/-- Power-on seconds, written by firmware (R528). -/
abbrev HKP_PON_HI : Nat := 0x7C
/-- Input levels, masks and the PFAIL latch (R528). -/
abbrev HKP_IN_STAT : Nat := 0x80
/-- Clears the PFAIL latch (R524) (R528). -/
abbrev HKP_IN_CTL : Nat := 0x84
/-- GPIO pin selected (R528). -/
abbrev HKP_GPIO_IDX : Nat := 0x88
/-- Configuration of the selected pin (R528). -/
abbrev HKP_GPIO_CFG : Nat := 0x8C
/-- Filtered levels and masks of all pins (R528). -/
abbrev HKP_GPIO_STAT : Nat := 0x90
/-- SHOCK_N assertions merged (R528). -/
abbrev HKP_CNT_SHOCK_MRG_LO : Nat := 0xA0
/-- SHOCK_N assertions merged (R528). -/
abbrev HKP_CNT_SHOCK_MRG_HI : Nat := 0xA4
/-- GPIO assertions merged (R528). -/
abbrev HKP_CNT_GPIO_MRG_LO : Nat := 0xA8
/-- GPIO assertions merged (R528). -/
abbrev HKP_CNT_GPIO_MRG_HI : Nat := 0xAC
/-- Inputs masked (R528). -/
abbrev HKP_CNT_STUCK_LO : Nat := 0xB0
/-- Inputs masked (R528). -/
abbrev HKP_CNT_STUCK_HI : Nat := 0xB4
/-- Milliseconds with L_d or L_m above 0 (R528). -/
abbrev HKP_CNT_THR_MS_LO : Nat := 0xB8
/-- Milliseconds with L_d or L_m above 0 (R528). -/
abbrev HKP_CNT_THR_MS_HI : Nat := 0xBC

end Reg

-- The fields of the registers (bits as the field tables give them).
namespace F

abbrev DEV_UNIT_CAP_STEP : Field := ⟨0x4, 28, 4⟩
abbrev DEV_UNIT_CAP_MEMBER : Field := ⟨0x4, 24, 4⟩
abbrev DEV_UNIT_CAP_DDR_WIDTH : Field := ⟨0x4, 19, 2⟩
abbrev DEV_UNIT_CAP_POOLS : Field := ⟨0x4, 17, 2⟩
abbrev DEV_UNIT_CAP_CORES : Field := ⟨0x4, 12, 5⟩
abbrev DEV_UNIT_CAP_HEADS_PER_LANE : Field := ⟨0x4, 6, 6⟩
abbrev DEV_UNIT_CAP_PIVOTS : Field := ⟨0x4, 4, 2⟩
abbrev DEV_UNIT_CAP_LANES : Field := ⟨0x4, 0, 4⟩
abbrev UNIT_ID_DEFREV : Field := ⟨0x0, 24, 8⟩
abbrev UNIT_ID_GROUP : Field := ⟨0x0, 20, 1⟩
abbrev UNIT_ID_DEPTH : Field := ⟨0x0, 16, 4⟩
abbrev UNIT_ID_UNUM : Field := ⟨0x0, 0, 12⟩
abbrev UNIT_STAT_CFG_LOCK : Field := ⟨0x8, 16, 1⟩
abbrev UNIT_STAT_NCHILD : Field := ⟨0x8, 8, 8⟩
abbrev UNIT_STAT_SUM_DRN : Field := ⟨0x8, 6, 1⟩
abbrev UNIT_STAT_SUM_FLT : Field := ⟨0x8, 5, 1⟩
abbrev UNIT_STAT_SUM_RST : Field := ⟨0x8, 4, 1⟩
abbrev UNIT_STAT_SUM_ERR : Field := ⟨0x8, 3, 1⟩
abbrev UNIT_STAT_STATE : Field := ⟨0x8, 0, 3⟩
abbrev UNIT_CTL_EN : Field := ⟨0xC, 1, 1⟩
abbrev UNIT_CTL_RST : Field := ⟨0xC, 0, 1⟩
abbrev UNIT_ERR_CLASS_HI : Field := ⟨0x10, 16, 16⟩
abbrev UNIT_ERR_CLASS_LO : Field := ⟨0x10, 8, 8⟩
abbrev UNIT_ERR_WDOG : Field := ⟨0x10, 7, 1⟩
abbrev UNIT_ERR_CONFIG : Field := ⟨0x10, 6, 1⟩
abbrev UNIT_ERR_PROTOCOL : Field := ⟨0x10, 5, 1⟩
abbrev UNIT_ERR_TIMEOUT : Field := ⟨0x10, 4, 1⟩
abbrev UNIT_ERR_UNCORR : Field := ⟨0x10, 3, 1⟩
abbrev UNIT_ERR_PARITY : Field := ⟨0x10, 2, 1⟩
abbrev UNIT_ERR_LASTING : Field := ⟨0x10, 1, 1⟩
abbrev UNIT_ERR_TRANSIENT : Field := ⟨0x10, 0, 1⟩
abbrev LN_CLK_DIV_INT : Field := ⟨0x40, 16, 7⟩
abbrev LN_CLK_DIV_FRAC : Field := ⟨0x40, 0, 16⟩
abbrev LN_CLK_STAT_RANGE_ERR : Field := ⟨0x44, 2, 1⟩
abbrev LN_CLK_STAT_PENDING : Field := ⟨0x44, 1, 1⟩
abbrev LN_CLK_STAT_SETTLED : Field := ⟨0x44, 0, 1⟩
abbrev DEV_CLK_STAT_HOLDOVER : Field := ⟨0x40, 2, 1⟩
abbrev DEV_CLK_STAT_PLL_LOCK : Field := ⟨0x40, 1, 1⟩
abbrev DEV_CLK_STAT_XTAL_OK : Field := ⟨0x40, 0, 1⟩
abbrev DEV_RST_CAUSE_XTAL : Field := ⟨0x44, 6, 1⟩
abbrev DEV_RST_CAUSE_THERM : Field := ⟨0x44, 5, 1⟩
abbrev DEV_RST_CAUSE_WARM_NSSR : Field := ⟨0x44, 4, 1⟩
abbrev DEV_RST_CAUSE_WARM_WDOG : Field := ⟨0x44, 3, 1⟩
abbrev DEV_RST_CAUSE_WARM_SVC : Field := ⟨0x44, 2, 1⟩
abbrev DEV_RST_CAUSE_COLD : Field := ⟨0x44, 0, 1⟩
abbrev DEV_PWR_CAP_LEVEL : Field := ⟨0x4C, 0, 2⟩
abbrev DEV_PWR_STAT_POOL1_ON : Field := ⟨0x50, 9, 1⟩
abbrev DEV_PWR_STAT_POOL0_ON : Field := ⟨0x50, 8, 1⟩
abbrev DEV_PWR_STAT_SETTLING : Field := ⟨0x50, 2, 1⟩
abbrev DEV_PWR_STAT_LEVEL : Field := ⟨0x50, 0, 2⟩
abbrev LN_DQ_CTL_ENABLE : Field := ⟨0x4C, 31, 1⟩
abbrev LN_RQ_CTL_ENABLE : Field := ⟨0x5C, 31, 1⟩
abbrev LN_DQ_CTL_SIZE_M1 : Field := ⟨0x4C, 0, 12⟩
abbrev LN_RQ_CTL_SIZE_M1 : Field := ⟨0x5C, 0, 12⟩
abbrev MED_GEOM_HEADS : Field := ⟨0x40, 10, 6⟩
abbrev MED_GEOM_SURFACES : Field := ⟨0x40, 5, 5⟩
abbrev MED_WEDGE_CFG_WEDGES : Field := ⟨0x44, 0, 10⟩
abbrev MED_ROT_POS_VALID : Field := ⟨0x48, 31, 1⟩
abbrev MED_ROT_POS_WEDGE : Field := ⟨0x48, 16, 10⟩
abbrev MED_ROT_POS_FRAC : Field := ⟨0x48, 0, 16⟩
abbrev MED_HEAD_DATA_WR_INH : Field := ⟨0x50, 2, 1⟩
abbrev MED_HEAD_DATA_STATE : Field := ⟨0x50, 0, 2⟩
abbrev CHN_UNIT_CAP_PROFILES : Field := ⟨0x4, 24, 4⟩
abbrev CHN_UNIT_CAP_OTF_GLOBAL : Field := ⟨0x4, 16, 8⟩
abbrev CHN_UNIT_CAP_DD_GLOB_MAX : Field := ⟨0x4, 8, 8⟩
abbrev CHN_UNIT_CAP_SBUF_SLOTS : Field := ⟨0x4, 0, 8⟩
abbrev CHN_CTL_DEFECT_EN : Field := ⟨0x40, 1, 1⟩
abbrev CHN_CTL_SLIP_EN : Field := ⟨0x40, 0, 1⟩
abbrev CHN_HD_IDX_WORD : Field := ⟨0x44, 8, 1⟩
abbrev CHN_HD_IDX_HEAD : Field := ⟨0x44, 0, 4⟩
abbrev CHN_HD_DATA_W0_BOOST : Field := ⟨0x48, 21, 4⟩
abbrev CHN_HD_DATA_W0_GAIN0 : Field := ⟨0x48, 13, 8⟩
abbrev CHN_HD_DATA_W0_LEAD : Field := ⟨0x48, 12, 1⟩
abbrev CHN_HD_DATA_W0_RDR_DLY : Field := ⟨0x48, 0, 12⟩
abbrev CHN_HD_DATA_W1_B_BAD : Field := ⟨0x48, 17, 1⟩
abbrev CHN_HD_DATA_W1_A_BAD : Field := ⟨0x48, 16, 1⟩
abbrev CHN_HD_DATA_W1_WB : Field := ⟨0x48, 8, 8⟩
abbrev CHN_HD_DATA_W1_WA : Field := ⟨0x48, 0, 8⟩
abbrev CHN_AGC_CTL_TARGET : Field := ⟨0x4C, 8, 7⟩
abbrev CHN_AGC_CTL_TRK_SH : Field := ⟨0x4C, 4, 4⟩
abbrev CHN_AGC_CTL_ACQ_SH : Field := ⟨0x4C, 0, 4⟩
abbrev CHN_LOOP_CTL_FIR_FRZ : Field := ⟨0x50, 12, 1⟩
abbrev CHN_LOOP_CTL_FIR_MU : Field := ⟨0x50, 8, 4⟩
abbrev CHN_LOOP_CTL_ASY_SH : Field := ⟨0x50, 4, 4⟩
abbrev CHN_LOOP_CTL_BLC_SH : Field := ⟨0x50, 0, 4⟩
abbrev CHN_TR_CTL_KF_TRK : Field := ⟨0x54, 12, 4⟩
abbrev CHN_TR_CTL_KP_TRK : Field := ⟨0x54, 8, 4⟩
abbrev CHN_TR_CTL_KF_ACQ : Field := ⟨0x54, 4, 4⟩
abbrev CHN_TR_CTL_KP_ACQ : Field := ⟨0x54, 0, 4⟩
abbrev CHN_DEF_CTL_HOLD_MAX : Field := ⟨0x58, 24, 4⟩
abbrev CHN_DEF_CTL_MIN_LEN : Field := ⟨0x58, 16, 8⟩
abbrev CHN_DEF_CTL_HIGH_THR : Field := ⟨0x58, 8, 8⟩
abbrev CHN_DEF_CTL_LOW_THR : Field := ⟨0x58, 0, 8⟩
abbrev CHN_LOOP_STAT_LOCKED : Field := ⟨0x5C, 29, 1⟩
abbrev CHN_LOOP_STAT_FROZEN : Field := ⟨0x5C, 28, 1⟩
abbrev CHN_LOOP_STAT_FOFS : Field := ⟨0x5C, 8, 12⟩
abbrev CHN_LOOP_STAT_GAIN : Field := ⟨0x5C, 0, 8⟩
abbrev CHN_RPROF_TEST : Field := ⟨0x60, 18, 1⟩
abbrev CHN_RPROF_PIN : Field := ⟨0x60, 17, 1⟩
abbrev CHN_RPROF_SLIP : Field := ⟨0x60, 16, 1⟩
abbrev CHN_RPROF_DDGLOB : Field := ⟨0x60, 11, 5⟩
abbrev CHN_RPROF_WEIGHT : Field := ⟨0x60, 8, 2⟩
abbrev CHN_RPROF_OFFTRK : Field := ⟨0x60, 0, 8⟩
abbrev CHN_DD_CMD_GO : Field := ⟨0x80, 31, 1⟩
abbrev CHN_DD_CMD_SLIP : Field := ⟨0x80, 9, 1⟩
abbrev CHN_DD_CMD_GLOB : Field := ⟨0x80, 4, 5⟩
abbrev CHN_DD_CMD_WEIGHT : Field := ⟨0x80, 2, 2⟩
abbrev CHN_DD_CMD_SLOT : Field := ⟨0x80, 0, 2⟩
abbrev CHN_DD_STAT_GLOB_USED : Field := ⟨0x84, 16, 5⟩
abbrev CHN_DD_STAT_SLOT : Field := ⟨0x84, 8, 2⟩
abbrev CHN_DD_STAT_RESULT : Field := ⟨0x84, 3, 3⟩
abbrev CHN_DD_STAT_REJ : Field := ⟨0x84, 2, 1⟩
abbrev CHN_DD_STAT_QUEUED : Field := ⟨0x84, 1, 1⟩
abbrev CHN_DD_STAT_BUSY : Field := ⟨0x84, 0, 1⟩
abbrev CHN_SBUF_STAT_AUTO : Field := ⟨0x88, 4, 4⟩
abbrev CHN_SBUF_STAT_PINNED : Field := ⟨0x88, 0, 4⟩
abbrev CHN_SBUF_REL_REL : Field := ⟨0x8C, 0, 4⟩
abbrev CHN_SEV_STAT_OVF : Field := ⟨0x98, 7, 1⟩
abbrev CHN_SEV_STAT_COUNT : Field := ⟨0x98, 0, 7⟩
abbrev CHN_WR_PRECOMP_PC3 : Field := ⟨0x9C, 8, 4⟩
abbrev CHN_WR_PRECOMP_PC2 : Field := ⟨0x9C, 4, 4⟩
abbrev CHN_WR_PRECOMP_PC1 : Field := ⟨0x9C, 0, 4⟩
abbrev CHN_WR_STAT_SECTOR : Field := ⟨0xA0, 4, 11⟩
abbrev CHN_WR_STAT_CAUSE : Field := ⟨0xA0, 0, 3⟩
abbrev UNIT_CTL_SBUF_FULL : Field := ⟨0xC, 12, 1⟩
abbrev UNIT_CTL_SEV_OVF : Field := ⟨0xC, 11, 1⟩
abbrev UNIT_CTL_LOCK_LOST : Field := ⟨0xC, 10, 1⟩
abbrev UNIT_CTL_WDATA : Field := ⟨0xC, 9, 1⟩
abbrev UNIT_CTL_WFAULT : Field := ⟨0xC, 8, 1⟩
abbrev TSQ_UNIT_CAP_ROMREV : Field := ⟨0x4, 24, 8⟩
abbrev TSQ_UNIT_CAP_PVECS : Field := ⟨0x4, 16, 8⟩
abbrev TSQ_UNIT_CAP_EVQ_DEPTH : Field := ⟨0x4, 8, 8⟩
abbrev TSQ_UNIT_CAP_STACK_DEPTH : Field := ⟨0x4, 0, 8⟩
abbrev TSQ_STAT_FLAGS : Field := ⟨0x40, 20, 3⟩
abbrev TSQ_STAT_EVQ_CNT : Field := ⟨0x40, 16, 4⟩
abbrev TSQ_STAT_STACK : Field := ⟨0x40, 13, 3⟩
abbrev TSQ_STAT_WAITING : Field := ⟨0x40, 12, 1⟩
abbrev TSQ_STAT_PC : Field := ⟨0x40, 0, 12⟩
abbrev TSQ_SWCOND_SW : Field := ⟨0x44, 0, 4⟩
abbrev TSQ_WDOG_LIMIT : Field := ⟨0x48, 0, 16⟩
abbrev TSQ_MCHK_VALID : Field := ⟨0x4C, 31, 1⟩
abbrev TSQ_MCHK_PC : Field := ⟨0x4C, 16, 12⟩
abbrev TSQ_MCHK_CAUSE : Field := ⟨0x4C, 0, 4⟩
abbrev TSQ_PW_ADDR_AUTOINC : Field := ⟨0x64, 31, 1⟩
abbrev TSQ_PW_ADDR_ADDR : Field := ⟨0x64, 0, 10⟩
abbrev TSQ_PW_PAR_PAR : Field := ⟨0x78, 0, 16⟩
abbrev TSQ_PW_FLIP_FLIP : Field := ⟨0x7C, 0, 16⟩
abbrev TSQ_PV_EN : Field := ⟨0x100, 31, 1⟩
abbrev TSQ_PV_TARGET : Field := ⟨0x100, 12, 10⟩
abbrev TSQ_PV_MATCH : Field := ⟨0x100, 0, 12⟩
abbrev TSQ_UNIT_ERR_HAL_FAIL : Field := ⟨0x10, 10, 1⟩
abbrev TSQ_UNIT_ERR_LATE : Field := ⟨0x10, 9, 1⟩
abbrev TSQ_UNIT_ERR_MCHK : Field := ⟨0x10, 8, 1⟩
abbrev PIV_MBX0_VALID : Field := ⟨0x40, 31, 1⟩
abbrev PIV_MBX1_VALID : Field := ⟨0x44, 31, 1⟩
abbrev PIV_MBX0_SEQ : Field := ⟨0x40, 24, 4⟩
abbrev PIV_MBX1_SEQ : Field := ⟨0x44, 24, 4⟩
abbrev PIV_MBX0_U : Field := ⟨0x40, 0, 16⟩
abbrev PIV_MBX1_U : Field := ⟨0x44, 0, 16⟩
abbrev PIV_RTC_GAIN_G_LOWER : Field := ⟨0x48, 8, 8⟩
abbrev PIV_RTC_GAIN_G_UPPER : Field := ⟨0x48, 0, 8⟩
abbrev PIV_RTC_STAT_STALE1 : Field := ⟨0x4C, 16, 16⟩
abbrev PIV_RTC_STAT_STALE0 : Field := ⟨0x4C, 0, 16⟩
abbrev SRV_UNIT_CAP_BANKS : Field := ⟨0x4, 28, 4⟩
abbrev SRV_UNIT_CAP_COEFS : Field := ⟨0x4, 20, 8⟩
abbrev SRV_UNIT_CAP_RRO_MAXW : Field := ⟨0x4, 10, 10⟩
abbrev SRV_UNIT_CAP_BOFS_M1 : Field := ⟨0x4, 0, 10⟩
abbrev SRV_CTL_RRO_EN : Field := ⟨0x40, 1, 1⟩
abbrev SRV_CTL_RTC_EN : Field := ⟨0x40, 0, 1⟩
abbrev SRV_CMD_UNLOAD : Field := ⟨0x44, 1, 1⟩
abbrev SRV_CMD_LOAD : Field := ⟨0x44, 0, 1⟩
abbrev SRV_STAT_HEAD : Field := ⟨0x48, 16, 4⟩
abbrev SRV_STAT_STALE : Field := ⟨0x48, 9, 1⟩
abbrev SRV_STAT_SHOCK : Field := ⟨0x48, 8, 1⟩
abbrev SRV_STAT_LOAD_REF : Field := ⟨0x48, 7, 1⟩
abbrev SRV_STAT_WINH : Field := ⟨0x48, 5, 1⟩
abbrev SRV_STAT_SLOCK : Field := ⟨0x48, 4, 1⟩
abbrev SRV_STAT_MODE : Field := ⟨0x48, 0, 4⟩
abbrev SRV_TRACK_VALID : Field := ⟨0x4C, 31, 1⟩
abbrev SRV_TRACK_TRACK : Field := ⟨0x4C, 0, 22⟩
abbrev SRV_PES_MISS : Field := ⟨0x50, 31, 1⟩
abbrev SRV_PES_WEDGE : Field := ⟨0x50, 16, 10⟩
abbrev SRV_PES_ERR : Field := ⟨0x50, 0, 16⟩
abbrev SRV_PES_THR_SHOCK_HOLD : Field := ⟨0x54, 8, 8⟩
abbrev SRV_PES_THR_WI_THR : Field := ⟨0x54, 0, 8⟩
abbrev SRV_SETTLE_WR_CNT : Field := ⟨0x58, 24, 4⟩
abbrev SRV_SETTLE_WR_WIN : Field := ⟨0x58, 16, 8⟩
abbrev SRV_SETTLE_RD_CNT : Field := ⟨0x58, 8, 4⟩
abbrev SRV_SETTLE_RD_WIN : Field := ⟨0x58, 0, 8⟩
abbrev SRV_SEEK_TMO_TMO : Field := ⟨0x5C, 0, 8⟩
abbrev SRV_SEEK_STAT_VALID : Field := ⟨0x60, 31, 1⟩
abbrev SRV_SEEK_STAT_RESULT : Field := ⟨0x60, 29, 2⟩
abbrev SRV_SEEK_STAT_REPEAT : Field := ⟨0x60, 28, 1⟩
abbrev SRV_SEEK_STAT_TIME : Field := ⟨0x60, 0, 20⟩
abbrev SRV_WEDGE_CFG_POSTG : Field := ⟨0x64, 16, 8⟩
abbrev SRV_WEDGE_CFG_EXCL : Field := ⟨0x64, 0, 12⟩
abbrev SRV_BANK_SHOCK : Field := ⟨0x68, 12, 3⟩
abbrev SRV_BANK_FOLLOW : Field := ⟨0x68, 8, 3⟩
abbrev SRV_BANK_SETTLE : Field := ⟨0x68, 4, 3⟩
abbrev SRV_BANK_SEEK : Field := ⟨0x68, 0, 3⟩
abbrev SRV_COEF_IDX_AUTOINC : Field := ⟨0x6C, 31, 1⟩
abbrev SRV_COEF_IDX_INDEX : Field := ⟨0x6C, 0, 10⟩
abbrev SRV_RRO_IDX_AUTOINC : Field := ⟨0x74, 31, 1⟩
abbrev SRV_RRO_IDX_HEAD : Field := ⟨0x74, 10, 4⟩
abbrev SRV_RRO_IDX_WEDGE : Field := ⟨0x74, 0, 10⟩
abbrev SRV_RRO_DATA_RRO_ID : Field := ⟨0x78, 16, 16⟩
abbrev SRV_RRO_DATA_RRO_OD : Field := ⟨0x78, 0, 16⟩
abbrev SRV_RRO_SPAN_TRACKS : Field := ⟨0x7C, 0, 22⟩
abbrev SRV_HD_SRDR_SRDR : Field := ⟨0x80, 0, 12⟩
abbrev SRV_BOFS_IDX_WORD : Field := ⟨0x84, 8, 1⟩
abbrev SRV_BOFS_IDX_ENTRY : Field := ⟨0x84, 0, 8⟩
abbrev SRV_BOFS_DATA_W0_VALID : Field := ⟨0x88, 31, 1⟩
abbrev SRV_BOFS_DATA_W0_HEAD : Field := ⟨0x88, 24, 4⟩
abbrev SRV_BOFS_DATA_W0_FIRST : Field := ⟨0x88, 0, 22⟩
abbrev SRV_BOFS_DATA_W1_OFS : Field := ⟨0x88, 24, 8⟩
abbrev SRV_BOFS_DATA_W1_LAST : Field := ⟨0x88, 0, 22⟩
abbrev SRV_VCM_CAL_RCOIL : Field := ⟨0x8C, 0, 16⟩
abbrev SRV_VCM_OUT_MA : Field := ⟨0x90, 16, 16⟩
abbrev SRV_VCM_OUT_VCM : Field := ⟨0x90, 0, 16⟩
abbrev SRV_RETRACT_RET_TMO : Field := ⟨0x94, 16, 8⟩
abbrev SRV_RETRACT_BEMF_MAX : Field := ⟨0x94, 8, 8⟩
abbrev SRV_RETRACT_VRET : Field := ⟨0x94, 0, 8⟩
abbrev SRV_RET_STAT_INCOMPLETE : Field := ⟨0x98, 1, 1⟩
abbrev SRV_RET_STAT_DONE : Field := ⟨0x98, 0, 1⟩
abbrev SRV_UNIT_ERR_RET_INC : Field := ⟨0x10, 11, 1⟩
abbrev SRV_UNIT_ERR_LOAD_FAIL : Field := ⟨0x10, 10, 1⟩
abbrev SRV_UNIT_ERR_SEEK_FAIL : Field := ⟨0x10, 9, 1⟩
abbrev SRV_UNIT_ERR_LOCK_LOST : Field := ⟨0x10, 8, 1⟩
abbrev AST_UNIT_CAP_STATES : Field := ⟨0x4, 16, 8⟩
abbrev AST_UNIT_CAP_HEADS : Field := ⟨0x4, 8, 8⟩
abbrev AST_UNIT_CAP_ZONES : Field := ⟨0x4, 0, 8⟩
abbrev AST_CTL_MODEL_EN : Field := ⟨0x40, 31, 1⟩
abbrev AST_CTL_MON_SLOTS : Field := ⟨0x40, 8, 4⟩
abbrev AST_CTL_UPD : Field := ⟨0x40, 0, 4⟩
abbrev AST_STAT_ARMED : Field := ⟨0x44, 31, 1⟩
abbrev AST_STAT_AGATE : Field := ⟨0x44, 30, 1⟩
abbrev AST_STAT_AG : Field := ⟨0x44, 29, 1⟩
abbrev AST_STAT_FLT : Field := ⟨0x44, 28, 1⟩
abbrev AST_STAT_ARM_RES : Field := ⟨0x44, 26, 2⟩
abbrev AST_STAT_RZONE : Field := ⟨0x44, 16, 6⟩
abbrev AST_STAT_SP : Field := ⟨0x44, 8, 8⟩
abbrev AST_STAT_HEAD : Field := ⟨0x44, 0, 4⟩
abbrev AST_LEAD_LEAD : Field := ⟨0x48, 0, 18⟩
abbrev AST_WIN_CFG_WT_MAX : Field := ⟨0x4C, 8, 8⟩
abbrev AST_WIN_CFG_WT_MIN : Field := ⟨0x4C, 0, 8⟩
abbrev AST_WIN_STAT_DRV_OK : Field := ⟨0x50, 31, 1⟩
abbrev AST_WIN_STAT_SLIDER_OK : Field := ⟨0x50, 30, 1⟩
abbrev AST_WIN_STAT_SLIDER_T : Field := ⟨0x50, 8, 8⟩
abbrev AST_WIN_STAT_DRV_T : Field := ⟨0x50, 0, 8⟩
abbrev AST_LIM_AG_IDLE_MAX : Field := ⟨0x54, 16, 8⟩
abbrev AST_LIM_AG_MAX_ON : Field := ⟨0x54, 0, 16⟩
abbrev AST_FLT_STAT_HEAD : Field := ⟨0x58, 16, 4⟩
abbrev AST_FLT_STAT_FAULTS : Field := ⟨0x58, 0, 6⟩
abbrev AST_HD_IDX_WORD : Field := ⟨0x5C, 8, 3⟩
abbrev AST_HD_IDX_HEAD : Field := ⟨0x5C, 0, 4⟩
abbrev AST_HD_DATA_W0_KIND : Field := ⟨0x60, 30, 2⟩
abbrev AST_HD_DATA_W0_PREHEAT : Field := ⟨0x60, 16, 9⟩
abbrev AST_HD_DATA_W0_SLIDER_MAX : Field := ⟨0x60, 8, 8⟩
abbrev AST_HD_DATA_W0_BIAS : Field := ⟨0x60, 0, 8⟩
abbrev AST_HD_DATA_W1_SP_MAX : Field := ⟨0x60, 24, 8⟩
abbrev AST_HD_DATA_W1_SP_MIN : Field := ⟨0x60, 16, 8⟩
abbrev AST_HD_DATA_W1_MON_HI : Field := ⟨0x60, 8, 8⟩
abbrev AST_HD_DATA_W1_MON_LO : Field := ⟨0x60, 0, 8⟩
abbrev AST_HD_DATA_W2_A2 : Field := ⟨0x60, 16, 16⟩
abbrev AST_HD_DATA_W2_A1 : Field := ⟨0x60, 0, 16⟩
abbrev AST_HD_DATA_W3_A3 : Field := ⟨0x60, 0, 16⟩
abbrev AST_HD_DATA_W4_K3 : Field := ⟨0x60, 16, 8⟩
abbrev AST_HD_DATA_W4_K2 : Field := ⟨0x60, 8, 8⟩
abbrev AST_HD_DATA_W4_K1 : Field := ⟨0x60, 0, 8⟩
abbrev AST_ZP_IDX_AUTOINC : Field := ⟨0x64, 31, 1⟩
abbrev AST_ZP_IDX_HEAD : Field := ⟨0x64, 6, 4⟩
abbrev AST_ZP_IDX_ZONE : Field := ⟨0x64, 0, 6⟩
abbrev AST_ZP_DATA_SPZ : Field := ⟨0x68, 0, 8⟩
abbrev AST_MODEL_IDX_STATE : Field := ⟨0x6C, 4, 2⟩
abbrev AST_MODEL_IDX_HEAD : Field := ⟨0x6C, 0, 4⟩
abbrev AST_MODEL_DATA_X : Field := ⟨0x70, 0, 17⟩
abbrev AST_LIFE_IDX_CNT : Field := ⟨0x74, 8, 2⟩
abbrev AST_LIFE_IDX_HEAD : Field := ⟨0x74, 0, 4⟩
abbrev AST_UNIT_ERR_HAL_FAIL : Field := ⟨0x10, 9, 1⟩
abbrev AST_UNIT_ERR_AFAULT : Field := ⟨0x10, 8, 1⟩
abbrev SPN_UNIT_CAP_POLE_PAIRS : Field := ⟨0x4, 24, 8⟩
abbrev SPN_UNIT_CAP_PADV_ENTRIES : Field := ⟨0x4, 16, 8⟩
abbrev SPN_UNIT_CAP_DTC_KHZ : Field := ⟨0x4, 0, 16⟩
abbrev SPN_CTL_LOS_EN : Field := ⟨0x40, 2, 1⟩
abbrev SPN_CTL_PADV_EN : Field := ⟨0x40, 1, 1⟩
abbrev SPN_CTL_DIR : Field := ⟨0x40, 0, 1⟩
abbrev SPN_CMD_COAST : Field := ⟨0x44, 2, 1⟩
abbrev SPN_CMD_STOP : Field := ⟨0x44, 1, 1⟩
abbrev SPN_CMD_START : Field := ⟨0x44, 0, 1⟩
abbrev SPN_STAT_VEC : Field := ⟨0x48, 20, 3⟩
abbrev SPN_STAT_SECTOR : Field := ⟨0x48, 16, 3⟩
abbrev SPN_STAT_HOLDUP_LOW : Field := ⟨0x48, 11, 1⟩
abbrev SPN_STAT_PLOSS : Field := ⟨0x48, 10, 1⟩
abbrev SPN_STAT_CHOP_FLT : Field := ⟨0x48, 9, 1⟩
abbrev SPN_STAT_CHOP_ON : Field := ⟨0x48, 8, 1⟩
abbrev SPN_STAT_START_REF : Field := ⟨0x48, 7, 1⟩
abbrev SPN_STAT_REV_REF : Field := ⟨0x48, 6, 1⟩
abbrev SPN_STAT_EST : Field := ⟨0x48, 5, 1⟩
abbrev SPN_STAT_AT_SPEED : Field := ⟨0x48, 4, 1⟩
abbrev SPN_STAT_MODE : Field := ⟨0x48, 0, 4⟩
abbrev SPN_SPD_REF_RPM : Field := ⟨0x4C, 0, 13⟩
abbrev SPN_SPEED_VALID : Field := ⟨0x50, 31, 1⟩
abbrev SPN_SPEED_BACK : Field := ⟨0x50, 30, 1⟩
abbrev SPN_SPEED_SPEED : Field := ⟨0x50, 0, 17⟩
abbrev SPN_PERIOD_PERIOD : Field := ⟨0x54, 0, 29⟩
abbrev SPN_ILIM_ILIM_TRIP : Field := ⟨0x58, 16, 16⟩
abbrev SPN_ILIM_ILIM_RUN : Field := ⟨0x58, 0, 16⟩
abbrev SPN_HYST_FLUX_BAND : Field := ⟨0x5C, 16, 16⟩
abbrev SPN_HYST_TQ_BAND : Field := ⟨0x5C, 0, 16⟩
abbrev SPN_SPD_GAIN_KI : Field := ⟨0x60, 16, 16⟩
abbrev SPN_SPD_GAIN_KP : Field := ⟨0x60, 0, 16⟩
abbrev SPN_MOT_R_LS : Field := ⟨0x64, 16, 16⟩
abbrev SPN_MOT_R_RS : Field := ⟨0x64, 0, 16⟩
abbrev SPN_MOT_K_FLUX_REF : Field := ⟨0x68, 16, 16⟩
abbrev SPN_MOT_K_KE : Field := ⟨0x68, 0, 16⟩
abbrev SPN_DEADT_DEADT : Field := ⟨0x6C, 0, 8⟩
abbrev SPN_PADV_IDX_AUTOINC : Field := ⟨0x70, 31, 1⟩
abbrev SPN_PADV_IDX_ENTRY : Field := ⟨0x70, 0, 5⟩
abbrev SPN_PADV_DATA_ADV : Field := ⟨0x74, 0, 16⟩
abbrev SPN_EST_CFG_HFI_UP : Field := ⟨0x78, 16, 13⟩
abbrev SPN_EST_CFG_HFI_DN : Field := ⟨0x78, 0, 13⟩
abbrev SPN_INJ_CFG_INJ_PER : Field := ⟨0x7C, 8, 8⟩
abbrev SPN_INJ_CFG_TEST : Field := ⟨0x7C, 0, 8⟩
abbrev SPN_SAT_CFG_GAP : Field := ⟨0x80, 8, 8⟩
abbrev SPN_SAT_CFG_PULSE : Field := ⟨0x80, 0, 8⟩
abbrev SPN_TMO_BRAKE_TMO : Field := ⟨0x84, 8, 8⟩
abbrev SPN_TMO_SPINUP_TMO : Field := ⟨0x84, 0, 8⟩
abbrev SPN_VBUS_LIM_VBUS_TRIP : Field := ⟨0x88, 16, 16⟩
abbrev SPN_VBUS_LIM_VBUS_HI : Field := ⟨0x88, 0, 16⟩
abbrev SPN_VBUS_VBUS : Field := ⟨0x8C, 0, 16⟩
abbrev SPN_CHOP_CFG_RISE_WAIT : Field := ⟨0x90, 8, 16⟩
abbrev SPN_CHOP_CFG_FB_TMO : Field := ⟨0x90, 0, 8⟩
abbrev SPN_REGEN_REGEN_MIN : Field := ⟨0x94, 16, 13⟩
abbrev SPN_REGEN_VBUS_REG : Field := ⟨0x94, 0, 16⟩
abbrev SPN_HOLDUP_CFG_RESERVE : Field := ⟨0x98, 24, 8⟩
abbrev SPN_HOLDUP_CFG_EFF : Field := ⟨0x98, 16, 8⟩
abbrev SPN_HOLDUP_CFG_INERTIA : Field := ⟨0x98, 0, 16⟩
abbrev SPN_HOLDUP_AVAIL : Field := ⟨0x9C, 0, 16⟩
abbrev SPN_ANGLE_VALID : Field := ⟨0xA0, 31, 1⟩
abbrev SPN_ANGLE_THETA : Field := ⟨0xA0, 0, 16⟩
abbrev SPN_TORQUE_FLUX : Field := ⟨0xA4, 16, 16⟩
abbrev SPN_TORQUE_TE : Field := ⟨0xA4, 0, 16⟩
abbrev SPN_FLT_STAT_CHOP_FLT : Field := ⟨0xA8, 7, 1⟩
abbrev SPN_FLT_STAT_SENSE : Field := ⟨0xA8, 6, 1⟩
abbrev SPN_FLT_STAT_BRAKE_TMO : Field := ⟨0xA8, 5, 1⟩
abbrev SPN_FLT_STAT_START_FAIL : Field := ⟨0xA8, 4, 1⟩
abbrev SPN_FLT_STAT_LOS : Field := ⟨0xA8, 3, 1⟩
abbrev SPN_FLT_STAT_OVERCUR : Field := ⟨0xA8, 2, 1⟩
abbrev SPN_FLT_STAT_VBUS_TRIP : Field := ⟨0xA8, 1, 1⟩
abbrev SPN_FLT_STAT_STAGE : Field := ⟨0xA8, 0, 1⟩
abbrev SPN_UNIT_ERR_CHOP : Field := ⟨0x10, 9, 1⟩
abbrev SPN_UNIT_ERR_SPFAULT : Field := ⟨0x10, 8, 1⟩
abbrev BUF_UNIT_CAP_HIST_M1 : Field := ⟨0x4, 24, 8⟩
abbrev BUF_UNIT_CAP_CONTEXTS : Field := ⟨0x4, 8, 8⟩
abbrev BUF_UNIT_CAP_EV_DEPTH : Field := ⟨0x4, 0, 8⟩
abbrev BUF_CFG_INJ_EN : Field := ⟨0x40, 31, 1⟩
abbrev BUF_CFG_RATE : Field := ⟨0x40, 12, 2⟩
abbrev BUF_CFG_SIZE : Field := ⟨0x40, 8, 3⟩
abbrev BUF_CFG_DENSITY : Field := ⟨0x40, 4, 2⟩
abbrev BUF_CFG_RANKS2 : Field := ⟨0x40, 0, 1⟩
abbrev BUF_STAT_TRAINED : Field := ⟨0x44, 31, 1⟩
abbrev BUF_STAT_SELF_REF : Field := ⟨0x44, 30, 1⟩
abbrev BUF_STAT_BEHIND : Field := ⟨0x44, 29, 1⟩
abbrev BUF_STAT_FILLING : Field := ⟨0x44, 28, 1⟩
abbrev BUF_STAT_RATE : Field := ⟨0x44, 12, 2⟩
abbrev BUF_FW_PAGES_PAGES : Field := ⟨0x48, 0, 23⟩
abbrev BUF_BTT_BASE_PAGE : Field := ⟨0x4C, 0, 23⟩
abbrev BUF_HDL_LIMIT_LIMIT : Field := ⟨0x50, 0, 24⟩
abbrev BUF_BTT_IDX_HANDLE : Field := ⟨0x54, 0, 23⟩
abbrev BUF_BTT_DATA_VALID : Field := ⟨0x58, 31, 1⟩
abbrev BUF_BTT_DATA_POISON : Field := ⟨0x58, 30, 1⟩
abbrev BUF_BTT_DATA_MOVING : Field := ⟨0x58, 29, 1⟩
abbrev BUF_BTT_DATA_PPN : Field := ⟨0x58, 0, 23⟩
abbrev BUF_RET_SPARE_PPN : Field := ⟨0x5C, 0, 23⟩
abbrev BUF_RET_CMD_GO : Field := ⟨0x60, 31, 1⟩
abbrev BUF_RET_CMD_HANDLE : Field := ⟨0x60, 0, 23⟩
abbrev BUF_RET_STAT_BUSY : Field := ⟨0x64, 31, 1⟩
abbrev BUF_RET_STAT_DONE : Field := ⟨0x64, 30, 1⟩
abbrev BUF_RET_STAT_POISONED : Field := ⟨0x64, 29, 1⟩
abbrev BUF_RET_STAT_REFUSED : Field := ⟨0x64, 28, 1⟩
abbrev BUF_RET_STAT_OLD_PPN : Field := ⟨0x64, 0, 23⟩
abbrev BUF_DSR_BASE_BASE : Field := ⟨0x68, 11, 21⟩
abbrev BUF_FLT_POP_VALID : Field := ⟨0x6C, 31, 1⟩
abbrev BUF_FLT_POP_KIND : Field := ⟨0x6C, 8, 2⟩
abbrev BUF_FLT_POP_CONTEXT : Field := ⟨0x6C, 0, 6⟩
abbrev BUF_FLT_CMD_GO : Field := ⟨0x70, 31, 1⟩
abbrev BUF_FLT_CMD_ABORT : Field := ⟨0x70, 8, 1⟩
abbrev BUF_FLT_CMD_CONTEXT : Field := ⟨0x70, 0, 6⟩
abbrev BUF_FLT_CFG_USED : Field := ⟨0x74, 16, 7⟩
abbrev BUF_FLT_CFG_FLT_TMO : Field := ⟨0x74, 0, 16⟩
abbrev BUF_SCRUB_CTL_PATROL_EN : Field := ⟨0x78, 31, 1⟩
abbrev BUF_SCRUB_CTL_RANGE_EN : Field := ⟨0x78, 30, 1⟩
abbrev BUF_SCRUB_CTL_LAP_H : Field := ⟨0x78, 8, 8⟩
abbrev BUF_SCRUB_CTL_RANGE_FAST : Field := ⟨0x78, 1, 1⟩
abbrev BUF_SCRUB_CTL_RANGE_GO : Field := ⟨0x78, 0, 1⟩
abbrev BUF_SCRUB_LAP_LAP : Field := ⟨0x7C, 0, 32⟩
abbrev BUF_SCRUB_POS_LINE : Field := ⟨0x80, 0, 29⟩
abbrev BUF_RANGE_START_PAGE : Field := ⟨0x84, 0, 23⟩
abbrev BUF_RANGE_END_PAGE : Field := ⟨0x88, 0, 23⟩
abbrev BUF_RANGE_STAT_BUSY : Field := ⟨0x8C, 31, 1⟩
abbrev BUF_RANGE_STAT_DONE : Field := ⟨0x8C, 30, 1⟩
abbrev BUF_RANGE_LINES_COUNT : Field := ⟨0x90, 0, 32⟩
abbrev BUF_RANGE_CE_COUNT : Field := ⟨0x94, 0, 32⟩
abbrev BUF_RANGE_UE_COUNT : Field := ⟨0x98, 0, 32⟩
abbrev BUF_RANGE_FIRST_VALID : Field := ⟨0x9C, 31, 1⟩
abbrev BUF_RANGE_FIRST_LINE : Field := ⟨0x9C, 0, 29⟩
abbrev BUF_EV_LO_KIND : Field := ⟨0xA0, 29, 3⟩
abbrev BUF_EV_LO_ADDR : Field := ⟨0xA0, 0, 29⟩
abbrev BUF_EV_HI_SRC : Field := ⟨0xA4, 28, 4⟩
abbrev BUF_EV_HI_HVALID : Field := ⟨0xA4, 24, 1⟩
abbrev BUF_EV_HI_HANDLE : Field := ⟨0xA4, 0, 23⟩
abbrev BUF_EV_STAT_OVF : Field := ⟨0xA8, 7, 1⟩
abbrev BUF_EV_STAT_COUNT : Field := ⟨0xA8, 0, 6⟩
abbrev BUF_HIST_IDX_WORD : Field := ⟨0xAC, 8, 1⟩
abbrev BUF_HIST_IDX_ENTRY : Field := ⟨0xAC, 0, 8⟩
abbrev BUF_HIST_DATA_W0_LINE : Field := ⟨0xB0, 0, 29⟩
abbrev BUF_HIST_DATA_W1_VALID : Field := ⟨0xB0, 31, 1⟩
abbrev BUF_HIST_DATA_W1_WB : Field := ⟨0xB0, 30, 1⟩
abbrev BUF_HIST_DATA_W1_COUNT : Field := ⟨0xB0, 24, 2⟩
abbrev BUF_HIST_DATA_W1_LAP : Field := ⟨0xB0, 16, 8⟩
abbrev BUF_HIST_DATA_W1_PIN : Field := ⟨0xB0, 0, 6⟩
abbrev BUF_INJ_CTL_ARM : Field := ⟨0xB4, 31, 1⟩
abbrev BUF_INJ_CTL_TARGET : Field := ⟨0xB4, 0, 2⟩
abbrev BUF_INJ_ADDR_ADDR : Field := ⟨0xB8, 0, 29⟩
abbrev BUF_INJ_PINS_PINS : Field := ⟨0xBC, 0, 32⟩
abbrev BUF_INJ_CB_BEATS : Field := ⟨0xC0, 16, 16⟩
abbrev BUF_INJ_CB_CB : Field := ⟨0xC0, 0, 8⟩
abbrev BUF_UNIT_ERR_TRAIN : Field := ⟨0x10, 11, 1⟩
abbrev BUF_UNIT_ERR_EV_OVF : Field := ⟨0x10, 10, 1⟩
abbrev BUF_UNIT_ERR_FLT_TMO : Field := ⟨0x10, 9, 1⟩
abbrev BUF_UNIT_ERR_RECUR : Field := ⟨0x10, 8, 1⟩
abbrev SVC_VLT_CFG_FITTED : Field := ⟨0x200, 31, 1⟩
abbrev SVC_VLT_CFG_CE_EN : Field := ⟨0x200, 0, 8⟩
abbrev SVC_VLT_STAT_USABLE : Field := ⟨0x204, 31, 1⟩
abbrev SVC_VLT_STAT_ERASING : Field := ⟨0x204, 9, 1⟩
abbrev SVC_VLT_STAT_PROT : Field := ⟨0x204, 8, 1⟩
abbrev SVC_VLT_STAT_ARMED_B : Field := ⟨0x204, 5, 1⟩
abbrev SVC_VLT_STAT_ARMED_A : Field := ⟨0x204, 4, 1⟩
abbrev SVC_VLT_STAT_SAVE_B : Field := ⟨0x204, 1, 1⟩
abbrev SVC_VLT_STAT_SAVE_A : Field := ⟨0x204, 0, 1⟩
abbrev SVC_VLT_CAP_A_MIB : Field := ⟨0x208, 0, 16⟩
abbrev SVC_VLT_CAP_B_MIB : Field := ⟨0x20C, 0, 16⟩
abbrev SVC_VLT_DIRTY_LIM_MIB : Field := ⟨0x210, 0, 12⟩
abbrev SVC_VLT_EFF_LIM_MIB : Field := ⟨0x214, 0, 12⟩
abbrev SVC_VLT_CMD_GO : Field := ⟨0x218, 31, 1⟩
abbrev SVC_VLT_CMD_AREA : Field := ⟨0x218, 0, 1⟩
abbrev SVC_VLT_SAVE_STAT_VALID : Field := ⟨0x228, 31, 1⟩
abbrev SVC_VLT_SAVE_STAT_PARTIAL : Field := ⟨0x228, 30, 1⟩
abbrev SVC_VLT_SAVE_STAT_LOST : Field := ⟨0x228, 29, 1⟩
abbrev SVC_VLT_SAVE_STAT_GRANULES : Field := ⟨0x228, 0, 20⟩
abbrev CMD_UNIT_CAP_DMA_CH : Field := ⟨0x4, 24, 8⟩
abbrev CMD_UNIT_CAP_FUNCS : Field := ⟨0x4, 16, 8⟩
abbrev CMD_UNIT_CAP_LOCKS : Field := ⟨0x4, 0, 12⟩
abbrev CMD_CTL_POOL_MASK : Field := ⟨0x40, 8, 2⟩
abbrev CMD_CTL_SNOOP_EN : Field := ⟨0x40, 1, 1⟩
abbrev CMD_CTL_FP_EN : Field := ⟨0x40, 0, 1⟩
abbrev CMD_FREE_SLOTS_COUNT : Field := ⟨0x44, 0, 17⟩
abbrev CMD_FREE_LOCKS_COUNT : Field := ⟨0x48, 0, 12⟩
abbrev CMD_FREE_EXT_COUNT : Field := ⟨0x4C, 0, 18⟩
abbrev CMD_FN_IDX_FN : Field := ⟨0x50, 0, 6⟩
abbrev CMD_FN_QUOTA_MAX : Field := ⟨0x54, 16, 13⟩
abbrev CMD_FN_QUOTA_MIN : Field := ⟨0x54, 0, 13⟩
abbrev CMD_FN_ARB_WEIGHT : Field := ⟨0x58, 0, 8⟩
abbrev CMD_FN_INUSE_COUNT : Field := ⟨0x5C, 0, 17⟩
abbrev CMD_FP_CFG_MAX_NLB : Field := ⟨0x60, 0, 9⟩
abbrev CMD_PREEMPT_PE_EN : Field := ⟨0x64, 31, 1⟩
abbrev CMD_PREEMPT_QUANTUM : Field := ⟨0x64, 0, 8⟩
abbrev CMD_ABT_KEY_CID : Field := ⟨0x68, 16, 16⟩
abbrev CMD_ABT_KEY_SQID : Field := ⟨0x68, 0, 16⟩
abbrev CMD_ABT_GO_GO : Field := ⟨0x6C, 31, 1⟩
abbrev CMD_ABT_GO_FN : Field := ⟨0x6C, 0, 6⟩
abbrev CMD_ABT_RES_VALID : Field := ⟨0x70, 31, 1⟩
abbrev CMD_ABT_RES_RESULT : Field := ⟨0x70, 16, 2⟩
abbrev CMD_ABT_RES_SLOT : Field := ⟨0x70, 0, 16⟩
abbrev CMD_EXT_IDX_WORD : Field := ⟨0x74, 20, 2⟩
abbrev CMD_EXT_IDX_ENTRY : Field := ⟨0x74, 0, 17⟩
abbrev CMD_EXT_DATA_W0_VALID : Field := ⟨0x78, 31, 1⟩
abbrev CMD_EXT_DATA_W0_DIRTY : Field := ⟨0x78, 30, 1⟩
abbrev CMD_EXT_DATA_W0_NSX : Field := ⟨0x78, 0, 8⟩
abbrev CMD_EXT_DATA_W1_SLBA_LO : Field := ⟨0x78, 0, 32⟩
abbrev CMD_EXT_DATA_W2_LEN_M1 : Field := ⟨0x78, 8, 8⟩
abbrev CMD_EXT_DATA_W2_SLBA_HI : Field := ⟨0x78, 0, 3⟩
abbrev CMD_EXT_DATA_W3_HANDLE : Field := ⟨0x78, 0, 23⟩
abbrev CMD_SLOT_IDX_SLOT : Field := ⟨0x7C, 0, 16⟩
abbrev CMD_SLOT_DATA_FN : Field := ⟨0x80, 26, 6⟩
abbrev CMD_SLOT_DATA_EPOCH : Field := ⟨0x80, 8, 8⟩
abbrev CMD_SLOT_DATA_STATE : Field := ⟨0x80, 0, 4⟩
abbrev CMD_HFREE_HANDLE : Field := ⟨0x84, 8, 23⟩
abbrev CMD_HFREE_COUNT_M1 : Field := ⟨0x84, 0, 8⟩
abbrev CMD_HFREE_CNT_COUNT : Field := ⟨0x88, 0, 24⟩
abbrev CMD_DIRTY_COUNT : Field := ⟨0x8C, 0, 20⟩
abbrev CMD_UNIT_ERR_RING : Field := ⟨0x10, 10, 1⟩
abbrev CMD_UNIT_ERR_SQPAR : Field := ⟨0x10, 9, 1⟩
abbrev CMD_UNIT_ERR_EXT_FULL : Field := ⟨0x10, 8, 1⟩
abbrev PEP_UNIT_CAP_MAX_FN : Field := ⟨0x4, 16, 8⟩
abbrev PEP_UNIT_CAP_VECTORS : Field := ⟨0x4, 0, 16⟩
abbrev PEP_CFG_SPLIT : Field := ⟨0x40, 31, 1⟩
abbrev PEP_CFG_MAX_WIDTH : Field := ⟨0x40, 16, 5⟩
abbrev PEP_CFG_MAX_SPEED : Field := ⟨0x40, 8, 4⟩
abbrev PEP_CFG_L1_ALLOW : Field := ⟨0x40, 4, 1⟩
abbrev PEP_CFG_CLK_MODE : Field := ⟨0x40, 0, 2⟩
abbrev PEP_STAT_STRAP : Field := ⟨0x44, 31, 1⟩
abbrev PEP_STAT_LINK_UP : Field := ⟨0x44, 30, 1⟩
abbrev PEP_STAT_REVERSED : Field := ⟨0x44, 29, 1⟩
abbrev PEP_STAT_IN_L1 : Field := ⟨0x44, 28, 1⟩
abbrev PEP_STAT_WIDTH : Field := ⟨0x44, 16, 5⟩
abbrev PEP_STAT_SPEED : Field := ⟨0x44, 8, 4⟩
abbrev PEP_POL_INV : Field := ⟨0x48, 0, 16⟩
abbrev PEP_FN_IDX_FN : Field := ⟨0x4C, 0, 6⟩
abbrev PEP_FN_CFG_VEC : Field := ⟨0x50, 16, 12⟩
abbrev PEP_FN_CFG_QMAX : Field := ⟨0x50, 0, 11⟩
abbrev PEP_ANA_IDX_GROUP : Field := ⟨0x54, 0, 5⟩
abbrev PEP_ANA_DATA_STATE : Field := ⟨0x58, 0, 4⟩
abbrev PEP_UNIT_ERR_CFS : Field := ⟨0x10, 10, 1⟩
abbrev PEP_UNIT_ERR_UE : Field := ⟨0x10, 9, 1⟩
abbrev PEP_UNIT_ERR_LINK_DOWN : Field := ⟨0x10, 8, 1⟩
abbrev POOL_UNIT_CAP_CORES : Field := ⟨0x4, 24, 8⟩
abbrev POOL_UNIT_CAP_L2_WAYS : Field := ⟨0x4, 8, 8⟩
abbrev POOL_UNIT_CAP_MBX_DEPTH : Field := ⟨0x4, 0, 8⟩
abbrev POOL_CTL_L2_EN : Field := ⟨0x40, 31, 1⟩
abbrev POOL_CTL_CORE_HOLD : Field := ⟨0x40, 0, 8⟩
abbrev POOL_STAT_L2_ON : Field := ⟨0x44, 31, 1⟩
abbrev POOL_STAT_DRAINING : Field := ⟨0x44, 30, 1⟩
abbrev POOL_STAT_DRAINED : Field := ⟨0x44, 29, 1⟩
abbrev POOL_STAT_WAITING : Field := ⟨0x44, 8, 8⟩
abbrev POOL_STAT_HELD : Field := ⟨0x44, 0, 8⟩
abbrev POOL_RVEC_ADDR : Field := ⟨0x48, 0, 28⟩
abbrev POOL_CMO_GO : Field := ⟨0x4C, 31, 1⟩
abbrev POOL_CMO_OP : Field := ⟨0x4C, 0, 3⟩
abbrev POOL_CMO_STAT_BUSY : Field := ⟨0x50, 31, 1⟩
abbrev POOL_CMO_STAT_DONE : Field := ⟨0x50, 30, 1⟩
abbrev POOL_CMO_STAT_REFUSED : Field := ⟨0x50, 29, 1⟩
abbrev POOL_MBX_RSV_GRANTED : Field := ⟨0x54, 0, 1⟩
abbrev POOL_MBX_POP_HI_HI : Field := ⟨0x64, 0, 32⟩
abbrev POOL_MBX_STAT_DROPS : Field := ⟨0x68, 16, 16⟩
abbrev POOL_MBX_STAT_SENDER : Field := ⟨0x68, 8, 7⟩
abbrev POOL_MBX_STAT_COUNT : Field := ⟨0x68, 0, 7⟩
abbrev POOL_WB_FLT_VALID : Field := ⟨0x6C, 31, 1⟩
abbrev POOL_WB_FLT_CAUSE : Field := ⟨0x6C, 0, 4⟩
abbrev POOL_WB_ADDR_LINE : Field := ⟨0x70, 0, 32⟩
abbrev POOL_WB_FLT_LINE_LO : Field := ⟨0x6C, 4, 2⟩
abbrev POOL_LOCKOUT_L1 : Field := ⟨0x74, 8, 8⟩
abbrev POOL_LOCKOUT_L2 : Field := ⟨0x74, 0, 8⟩
abbrev POOL_Cc_CTL_L1D_EN : Field := ⟨0x100, 1, 1⟩
abbrev POOL_Cc_CTL_L1I_EN : Field := ⟨0x100, 0, 1⟩
abbrev POOL_Cc_STAT_RUN : Field := ⟨0x104, 8, 2⟩
abbrev POOL_Cc_STAT_D_DRAINING : Field := ⟨0x104, 5, 1⟩
abbrev POOL_Cc_STAT_D_DRAINED : Field := ⟨0x104, 4, 1⟩
abbrev POOL_Cc_STAT_I_ON : Field := ⟨0x104, 1, 1⟩
abbrev POOL_Cc_STAT_D_ON : Field := ⟨0x104, 0, 1⟩
abbrev POOL_Cc_FLT_VALID : Field := ⟨0x108, 31, 1⟩
abbrev POOL_Cc_FLT_KIND : Field := ⟨0x108, 8, 3⟩
abbrev POOL_Cc_FLT_CAUSE : Field := ⟨0x108, 0, 4⟩
abbrev POOL_Cc_FLT_ADDR_HI_ADDR : Field := ⟨0x110, 0, 8⟩
abbrev POOL_Cc_IRQ_CLAIM_VALID : Field := ⟨0x114, 31, 1⟩
abbrev POOL_Cc_IRQ_CLAIM_SOURCE : Field := ⟨0x114, 0, 7⟩
abbrev POOL_Cc_IRQ_EOI_SOURCE : Field := ⟨0x118, 0, 7⟩
abbrev POOL_Cc_IRQ_THR_THR : Field := ⟨0x11C, 0, 4⟩
abbrev POOL_Cc_TCM_IDX_AUTOINC : Field := ⟨0x120, 31, 1⟩
abbrev POOL_Cc_TCM_IDX_DTCM : Field := ⟨0x120, 16, 1⟩
abbrev POOL_Cc_TCM_IDX_WORD : Field := ⟨0x120, 0, 14⟩
abbrev POOL_UNIT_ERR_MBX_DROP : Field := ⟨0x10, 12, 1⟩
abbrev POOL_UNIT_ERR_LOCKOUT : Field := ⟨0x10, 11, 1⟩
abbrev POOL_UNIT_ERR_WB_FLT : Field := ⟨0x10, 10, 1⟩
abbrev POOL_UNIT_ERR_PAR_DIRTY : Field := ⟨0x10, 9, 1⟩
abbrev POOL_UNIT_ERR_CORE_STOP : Field := ⟨0x10, 8, 1⟩
abbrev DEV_IRQ_IDX_SOURCE : Field := ⟨0x80, 0, 7⟩
abbrev DEV_IRQ_ROUTE_EN : Field := ⟨0x84, 31, 1⟩
abbrev DEV_IRQ_ROUTE_PRIO : Field := ⟨0x84, 8, 4⟩
abbrev DEV_IRQ_ROUTE_TARGET : Field := ⟨0x84, 0, 5⟩
abbrev DEV_IRQ_STAT_ACTIVE : Field := ⟨0x88, 1, 1⟩
abbrev DEV_IRQ_STAT_INSERV : Field := ⟨0x88, 0, 1⟩
abbrev DEV_IRQ_SWI_SW : Field := ⟨0x8C, 0, 16⟩
abbrev DEV_IRQ_SWC_SW : Field := ⟨0x90, 0, 16⟩
abbrev HZL_UNIT_CAP_MEDIA_SLOTS : Field := ⟨0x4, 16, 13⟩
abbrev HZL_UNIT_CAP_SESSION_SLOTS : Field := ⟨0x4, 8, 5⟩
abbrev HZL_UNIT_CAP_ENGINES : Field := ⟨0x4, 0, 5⟩
abbrev HZL_STAT_READY : Field := ⟨0x40, 31, 1⟩
abbrev HZL_STAT_ST_FAIL : Field := ⟨0x40, 30, 1⟩
abbrev HZL_STAT_ST_ID : Field := ⟨0x40, 16, 8⟩
abbrev HZL_STAT_MASKREV : Field := ⟨0x40, 0, 16⟩
abbrev HZL_CFG_KPIO_BASE : Field := ⟨0x44, 0, 12⟩
abbrev HZL_ENG_STAT_OUT : Field := ⟨0x48, 24, 5⟩
abbrev HZL_ENG_STAT_SUSP : Field := ⟨0x48, 16, 6⟩
abbrev HZL_ENG_STAT_BUSY : Field := ⟨0x48, 0, 5⟩
abbrev HZL_SLOT_IDX_SESSION : Field := ⟨0x4C, 31, 1⟩
abbrev HZL_SLOT_IDX_SLOT : Field := ⟨0x4C, 0, 12⟩
abbrev HZL_SLOT_STAT_LOADED : Field := ⟨0x50, 31, 1⟩
abbrev HZL_SLOT_STAT_OLD_VALID : Field := ⟨0x50, 30, 1⟩
abbrev HZL_SLOT_STAT_PENDING : Field := ⟨0x50, 29, 1⟩
abbrev HZL_SLOT_STAT_CUR_GEN : Field := ⟨0x50, 0, 16⟩
abbrev HZL_SLOT_OLD_OLD_GEN : Field := ⟨0x54, 0, 16⟩
abbrev HZL_SLOT_CBND_COUNT : Field := ⟨0x58, 0, 17⟩
abbrev HZL_SLOT_OBND_COUNT : Field := ⟨0x5C, 0, 17⟩
abbrev HZL_SVN_MKEY : Field := ⟨0x60, 31, 1⟩
abbrev HZL_SVN_PATCH : Field := ⟨0x60, 16, 6⟩
abbrev HZL_SVN_IDSAR : Field := ⟨0x60, 8, 6⟩
abbrev HZL_SVN_FW : Field := ⟨0x60, 0, 6⟩
abbrev HZL_RQc_PUSH_ADDR : Field := ⟨0x80, 6, 26⟩
abbrev HZL_RQc_STAT_OVF : Field := ⟨0x84, 31, 1⟩
abbrev HZL_RQc_STAT_FREE : Field := ⟨0x84, 0, 4⟩
abbrev HZL_UNIT_ERR_RQ_OVF : Field := ⟨0x10, 13, 1⟩
abbrev HZL_UNIT_ERR_RSV_FAIL : Field := ⟨0x10, 12, 1⟩
abbrev HZL_UNIT_ERR_ENG_OFF : Field := ⟨0x10, 11, 1⟩
abbrev HZL_UNIT_ERR_KEY_ROT : Field := ⟨0x10, 10, 1⟩
abbrev HZL_UNIT_ERR_VFAIL : Field := ⟨0x10, 9, 1⟩
abbrev HZL_UNIT_ERR_ST_FAIL : Field := ⟨0x10, 8, 1⟩
abbrev SVC_FW_STAT_PHASE : Field := ⟨0x100, 28, 4⟩
abbrev SVC_FW_STAT_REVERT : Field := ⟨0x100, 24, 1⟩
abbrev SVC_FW_STAT_P1_SLOT : Field := ⟨0x100, 20, 2⟩
abbrev SVC_FW_STAT_P0_SLOT : Field := ⟨0x100, 16, 2⟩
abbrev SVC_FW_STAT_COMMITTED : Field := ⟨0x100, 12, 2⟩
abbrev SVC_FW_STAT_NEXT : Field := ⟨0x100, 8, 2⟩
abbrev SVC_FW_STAT_PROB_S : Field := ⟨0x100, 0, 7⟩
abbrev SVC_FW_REPLY_READY : Field := ⟨0x104, 31, 1⟩
abbrev SVC_FW_REPLY_REFUSE : Field := ⟨0x104, 30, 1⟩
abbrev SVC_FW_REPLY_REASON : Field := ⟨0x104, 8, 8⟩
abbrev SVC_FW_REPLY_HB1 : Field := ⟨0x104, 1, 1⟩
abbrev SVC_FW_REPLY_HB0 : Field := ⟨0x104, 0, 1⟩
abbrev SVC_FW_RES_VALID : Field := ⟨0x108, 31, 1⟩
abbrev SVC_FW_RES_RESULT : Field := ⟨0x108, 24, 4⟩
abbrev SVC_FW_RES_SET_DEFAULT : Field := ⟨0x108, 16, 1⟩
abbrev SVC_FW_RES_TO_SLOT : Field := ⟨0x108, 12, 2⟩
abbrev SVC_FW_RES_FROM_SLOT : Field := ⟨0x108, 8, 2⟩
abbrev SVC_FW_XFER_ADDR : Field := ⟨0x10C, 0, 28⟩
abbrev SVC_BOOT_STAT_STAGE : Field := ⟨0x40, 28, 4⟩
abbrev SVC_BOOT_STAT_ATTEMPT : Field := ⟨0x40, 24, 2⟩
abbrev SVC_BOOT_STAT_STRAP_BOOT : Field := ⟨0x40, 16, 2⟩
abbrev SVC_BOOT_STAT_WARM : Field := ⟨0x40, 8, 1⟩
abbrev SVC_BOOT_CTL_SERVING : Field := ⟨0x44, 1, 1⟩
abbrev SVC_BOOT_CTL_LOCK : Field := ⟨0x44, 0, 1⟩
abbrev SVC_BOOT_SEL_VALID : Field := ⟨0x48, 31, 1⟩
abbrev SVC_BOOT_SEL_SETPAIR : Field := ⟨0x48, 12, 1⟩
abbrev SVC_BOOT_SEL_PATCH : Field := ⟨0x48, 8, 2⟩
abbrev SVC_BOOT_SEL_IDSAR : Field := ⟨0x48, 4, 1⟩
abbrev SVC_BOOT_SEL_SLOT : Field := ⟨0x48, 0, 2⟩
abbrev SVC_FAIL_REASON : Field := ⟨0x4C, 8, 8⟩
abbrev SVC_FAIL_COUNT : Field := ⟨0x4C, 0, 2⟩
abbrev SVC_WDOG_HOLD : Field := ⟨0x50, 31, 1⟩
abbrev SVC_WDOG_KICK : Field := ⟨0x50, 0, 1⟩
abbrev SVC_WDOG_STAT_HELD : Field := ⟨0x54, 31, 1⟩
abbrev SVC_WDOG_STAT_MS : Field := ⟨0x54, 0, 16⟩
abbrev SVC_BOOT_REPLY_REFUSE : Field := ⟨0x58, 31, 1⟩
abbrev SVC_BOOT_REPLY_REASON : Field := ⟨0x58, 8, 8⟩
abbrev SVC_BOOT_REPLY_P1_READY : Field := ⟨0x58, 1, 1⟩
abbrev SVC_BOOT_REPLY_P0_READY : Field := ⟨0x58, 0, 1⟩
abbrev SVC_SAVE_PLAN_VALID : Field := ⟨0x5C, 31, 1⟩
abbrev SVC_SAVE_PLAN_ADDR : Field := ⟨0x5C, 0, 28⟩
abbrev SVC_NOR_STAT_SLOT_MIB : Field := ⟨0x60, 16, 9⟩
abbrev SVC_NOR_STAT_NOR_MIB : Field := ⟨0x60, 0, 9⟩
abbrev SVC_UNIT_ERR_NOR_ERR : Field := ⟨0x10, 9, 1⟩
abbrev SVC_UNIT_ERR_START_FAIL : Field := ⟨0x10, 8, 1⟩
abbrev HKP_UNIT_CAP_DIE_SENSORS : Field := ⟨0x4, 8, 8⟩
abbrev HKP_UNIT_CAP_CHANNELS : Field := ⟨0x4, 0, 8⟩
abbrev HKP_CH_IDX_CH : Field := ⟨0x44, 0, 6⟩
abbrev HKP_CH_DATA_VALID : Field := ⟨0x48, 31, 1⟩
abbrev HKP_CH_DATA_VALUE : Field := ⟨0x48, 0, 16⟩
abbrev HKP_CH_LIM_HI : Field := ⟨0x4C, 16, 16⟩
abbrev HKP_CH_LIM_LO : Field := ⟨0x4C, 0, 16⟩
abbrev HKP_ALIM_CH_CH : Field := ⟨0x50, 0, 6⟩
abbrev HKP_DIE_STAT_H : Field := ⟨0x54, 16, 16⟩
abbrev HKP_DIE_STAT_VALID : Field := ⟨0x54, 0, 16⟩
abbrev HKP_DIE_HOT_TDIE : Field := ⟨0x58, 16, 16⟩
abbrev HKP_DIE_HOT_HOT : Field := ⟨0x58, 0, 16⟩
abbrev HKP_THR_CFG_PT_START : Field := ⟨0x5C, 8, 8⟩
abbrev HKP_THR_CFG_MT_START : Field := ⟨0x5C, 0, 8⟩
abbrev HKP_THR_STAT_CHG : Field := ⟨0x60, 16, 1⟩
abbrev HKP_THR_STAT_LM : Field := ⟨0x60, 4, 3⟩
abbrev HKP_THR_STAT_LD : Field := ⟨0x60, 0, 3⟩
abbrev HKP_THM_STAT_ARMED : Field := ⟨0x64, 31, 1⟩
abbrev HKP_THM_STAT_SHUT : Field := ⟨0x64, 30, 1⟩
abbrev HKP_REC_SLOT_ARM : Field := ⟨0x68, 31, 1⟩
abbrev HKP_REC_SLOT_ENTRY : Field := ⟨0x68, 0, 12⟩
abbrev HKP_IN_STAT_MASK : Field := ⟨0x80, 8, 3⟩
abbrev HKP_IN_STAT_PFAIL_LATCH : Field := ⟨0x80, 6, 1⟩
abbrev HKP_IN_STAT_FILT : Field := ⟨0x80, 3, 3⟩
abbrev HKP_IN_STAT_RAW : Field := ⟨0x80, 0, 3⟩
abbrev HKP_IN_CTL_PFAIL_CLR : Field := ⟨0x84, 0, 1⟩
abbrev HKP_GPIO_IDX_PIN : Field := ⟨0x88, 0, 4⟩
abbrev HKP_GPIO_CFG_STUCK_S : Field := ⟨0x8C, 8, 8⟩
abbrev HKP_GPIO_CFG_POOL : Field := ⟨0x8C, 4, 1⟩
abbrev HKP_GPIO_CFG_OUT : Field := ⟨0x8C, 2, 1⟩
abbrev HKP_GPIO_CFG_POL : Field := ⟨0x8C, 1, 1⟩
abbrev HKP_GPIO_CFG_DIR : Field := ⟨0x8C, 0, 1⟩
abbrev HKP_GPIO_STAT_MASK : Field := ⟨0x90, 16, 16⟩
abbrev HKP_GPIO_STAT_FILT : Field := ⟨0x90, 0, 16⟩
abbrev HKP_UNIT_ERR_NO_ARM : Field := ⟨0x10, 12, 1⟩
abbrev HKP_UNIT_ERR_THERM_SHUT : Field := ⟨0x10, 11, 1⟩
abbrev HKP_UNIT_ERR_STUCK : Field := ⟨0x10, 10, 1⟩
abbrev HKP_UNIT_ERR_ALIM : Field := ⟨0x10, 9, 1⟩
abbrev HKP_UNIT_ERR_SENSOR : Field := ⟨0x10, 8, 1⟩
abbrev CMD_WQp_CTL_ENABLE : Field := ⟨0x94, 31, 1⟩
abbrev CMD_WQp_CTL_SIZE_M1 : Field := ⟨0x94, 0, 12⟩
abbrev CMD_CQp_CTL_ENABLE : Field := ⟨0xA4, 31, 1⟩
abbrev CMD_CQp_CTL_SIZE_M1 : Field := ⟨0xA4, 0, 12⟩

end F

/-- Registers of class LN, part 1. -/
def laneRegs1 : List RegDef :=
  [⟨0x40, 0x200000, 0x7FFFFF, 0x0, 0x0, 0x0, 0x0⟩,
   ⟨0x44, 0x1, 0x0, 0x0, 0x0, 0x0, 0x0⟩,
   ⟨0x48, 0x0, 0xFFFFFFC0, 0x0, 0x0, 0x0, 0x0⟩,
   ⟨0x4C, 0x0, 0x80000FFF, 0x0, 0x0, 0x0, 0x0⟩,
   ⟨0x50, 0x0, 0xFFF, 0x0, 0x0, 0x0, 0x0⟩,
   ⟨0x54, 0x0, 0x0, 0x0, 0x0, 0x0, 0x0⟩,
   ⟨0x58, 0x0, 0xFFFFFFF0, 0x0, 0x0, 0x0, 0x0⟩,
   ⟨0x5C, 0x0, 0x80000FFF, 0x0, 0x0, 0x0, 0x0⟩,
   ⟨0x60, 0x0, 0xFFF, 0x0, 0x0, 0x0, 0x0⟩,
   ⟨0x64, 0x0, 0x0, 0x0, 0x0, 0x0, 0x0⟩,
   ⟨0x68, 0x0, 0x0, 0x0, 0x0, 0x0, 0x0⟩,
   ⟨0x6C, 0x0, 0x0, 0x0, 0x0, 0x0, 0x0⟩]

/-- The registers of class LN, in the order of their offsets. -/
def laneRegs : List RegDef := laneRegs1

/-- Registers of class DEV, part 1. -/
def devRegs1 : List RegDef :=
  [⟨0x40, 0x3, 0x0, 0x0, 0x0, 0x0, 0xFFFFFFFF⟩,
   ⟨0x44, 0x1, 0x0, 0x0, 0x0, 0x0, 0xFFFFFFFF⟩,
   ⟨0x48, 0x0, 0x0, 0x0, 0x0, 0x0, 0xFFFFFFFF⟩,
   ⟨0x4C, 0x0, 0x3, 0x0, 0x0, 0x0, 0x0⟩,
   ⟨0x50, 0x0, 0x0, 0x0, 0x0, 0x0, 0x0⟩,
   ⟨0x80, 0x0, 0x7F, 0x0, 0x0, 0x0, 0x0⟩,
   ⟨0x84, 0x0, 0x80000F1F, 0x0, 0x0, 0x0, 0x0⟩,
   ⟨0x88, 0x0, 0x0, 0x0, 0x0, 0x0, 0x0⟩,
   ⟨0x8C, 0x0, 0x0, 0x0, 0xFFFF, 0x0, 0x0⟩,
   ⟨0x90, 0x0, 0x0, 0xFFFF, 0x0, 0x0, 0x0⟩]

/-- The registers of class DEV, in the order of their offsets. -/
def devRegs : List RegDef := devRegs1

/-- Registers of class MED, part 1. -/
def medRegs1 : List RegDef :=
  [⟨0x40, 0xC300, 0x0, 0x0, 0x0, 0x0, 0x0⟩,
   ⟨0x44, 0x280, 0x0, 0x0, 0x0, 0x3FF, 0x3FF⟩,
   ⟨0x48, 0x0, 0x0, 0x0, 0x0, 0x0, 0x0⟩,
   ⟨0x4C, 0x0, 0x3F, 0x0, 0x0, 0x0, 0x0⟩,
   ⟨0x50, 0x0, 0x7, 0x0, 0x0, 0x0, 0x7⟩,
   ⟨0x54, 0x400, 0x0, 0x0, 0x0, 0x0, 0x0⟩]

/-- The registers of class MED, in the order of their offsets. -/
def medRegs : List RegDef := medRegs1

/-- Registers of class CHN, part 1. -/
def chnRegs1 : List RegDef :=
  [⟨0x40, 0x3, 0x3, 0x0, 0x0, 0x0, 0x0⟩,
   ⟨0x44, 0x0, 0x10F, 0x0, 0x0, 0x0, 0x0⟩,
   ⟨0x48, 0x0, 0xFFFFFFFF, 0x0, 0x0, 0x0, 0x0⟩,
   ⟨0x4C, 0x3084, 0x7FFF, 0x0, 0x0, 0x0, 0x0⟩,
   ⟨0x50, 0xCA6, 0x1FFF, 0x0, 0x0, 0x0, 0x0⟩,
   ⟨0x54, 0xC583, 0xFFFF, 0x0, 0x0, 0x0, 0x0⟩,
   ⟨0x58, 0x8108060, 0xFFFFFFF, 0x0, 0x0, 0x0, 0x0⟩,
   ⟨0x5C, 0x0, 0x0, 0x0, 0x0, 0x0, 0x0⟩,
   ⟨0x60, 0x30000, 0x7FBFF, 0x0, 0x0, 0x0, 0x0⟩,
   ⟨0x64, 0x70000, 0x7FBFF, 0x0, 0x0, 0x0, 0x0⟩,
   ⟨0x68, 0x3A000, 0x7FBFF, 0x0, 0x0, 0x0, 0x0⟩,
   ⟨0x6C, 0x3A008, 0x7FBFF, 0x0, 0x0, 0x0, 0x0⟩,
   ⟨0x70, 0x3A0F8, 0x7FBFF, 0x0, 0x0, 0x0, 0x0⟩,
   ⟨0x74, 0x3A010, 0x7FBFF, 0x0, 0x0, 0x0, 0x0⟩,
   ⟨0x78, 0x3A0F0, 0x7FBFF, 0x0, 0x0, 0x0, 0x0⟩,
   ⟨0x7C, 0x3A000, 0x7FBFF, 0x0, 0x0, 0x0, 0x0⟩,
   ⟨0x80, 0x0, 0x3FF, 0x0, 0x0, 0x0, 0x0⟩,
   ⟨0x84, 0x0, 0x0, 0x0, 0x0, 0x0, 0x0⟩,
   ⟨0x88, 0x0, 0x0, 0x0, 0x0, 0x0, 0x0⟩,
   ⟨0x8C, 0x0, 0x0, 0x0, 0x0, 0x0, 0x0⟩,
   ⟨0x90, 0x0, 0x0, 0x0, 0x0, 0x0, 0x0⟩,
   ⟨0x94, 0x0, 0x0, 0x0, 0x0, 0x0, 0x0⟩,
   ⟨0x98, 0x0, 0x0, 0x0, 0x0, 0x0, 0x0⟩,
   ⟨0x9C, 0x0, 0xFFF, 0x0, 0x0, 0x0, 0x0⟩]

/-- Registers of class CHN, part 2. -/
def chnRegs2 : List RegDef :=
  [⟨0xA0, 0x0, 0x0, 0x0, 0x0, 0x0, 0x0⟩,
   ⟨0xA8, 0x0, 0xFFFFFFFF, 0x0, 0x0, 0x0, 0xFFFFFFFF⟩,
   ⟨0xAC, 0x0, 0xFFFFFFFF, 0x0, 0x0, 0x0, 0xFFFFFFFF⟩,
   ⟨0xB0, 0x0, 0xFFFFFFFF, 0x0, 0x0, 0x0, 0xFFFFFFFF⟩,
   ⟨0xB4, 0x0, 0xFFFFFFFF, 0x0, 0x0, 0x0, 0xFFFFFFFF⟩,
   ⟨0xB8, 0x0, 0xFFFFFFFF, 0x0, 0x0, 0x0, 0xFFFFFFFF⟩,
   ⟨0xBC, 0x0, 0xFFFFFFFF, 0x0, 0x0, 0x0, 0xFFFFFFFF⟩,
   ⟨0xC0, 0x0, 0xFFFFFFFF, 0x0, 0x0, 0x0, 0xFFFFFFFF⟩,
   ⟨0xC4, 0x0, 0xFFFFFFFF, 0x0, 0x0, 0x0, 0xFFFFFFFF⟩,
   ⟨0xC8, 0x0, 0xFFFFFFFF, 0x0, 0x0, 0x0, 0xFFFFFFFF⟩,
   ⟨0xCC, 0x0, 0xFFFFFFFF, 0x0, 0x0, 0x0, 0xFFFFFFFF⟩,
   ⟨0xD0, 0x0, 0xFFFFFFFF, 0x0, 0x0, 0x0, 0xFFFFFFFF⟩,
   ⟨0xD4, 0x0, 0xFFFFFFFF, 0x0, 0x0, 0x0, 0xFFFFFFFF⟩,
   ⟨0xD8, 0x0, 0xFFFFFFFF, 0x0, 0x0, 0x0, 0xFFFFFFFF⟩,
   ⟨0xDC, 0x0, 0xFFFFFFFF, 0x0, 0x0, 0x0, 0xFFFFFFFF⟩,
   ⟨0xE0, 0x0, 0xFFFFFFFF, 0x0, 0x0, 0x0, 0xFFFFFFFF⟩,
   ⟨0xE4, 0x0, 0xFFFFFFFF, 0x0, 0x0, 0x0, 0xFFFFFFFF⟩,
   ⟨0xE8, 0x0, 0xFFFFFFFF, 0x0, 0x0, 0x0, 0xFFFFFFFF⟩,
   ⟨0xEC, 0x0, 0xFFFFFFFF, 0x0, 0x0, 0x0, 0xFFFFFFFF⟩]

/-- The registers of class CHN, in the order of their offsets. -/
def chnRegs : List RegDef := chnRegs1 ++ chnRegs2

/-- Registers of class TSQ, part 1. -/
def tsqRegs1 : List RegDef :=
  [⟨0x40, 0x0, 0x0, 0x0, 0x0, 0x0, 0x0⟩,
   ⟨0x44, 0x0, 0xF, 0x0, 0x0, 0x0, 0x0⟩,
   ⟨0x48, 0x400, 0xFFFF, 0x0, 0x0, 0x0, 0x0⟩,
   ⟨0x4C, 0x0, 0x0, 0x0, 0x0, 0x0, 0x0⟩,
   ⟨0x50, 0x0, 0x0, 0x0, 0x0, 0x0, 0x0⟩,
   ⟨0x54, 0x0, 0x0, 0x0, 0x0, 0x0, 0x0⟩,
   ⟨0x58, 0x0, 0x0, 0x0, 0x0, 0x0, 0x0⟩,
   ⟨0x5C, 0x0, 0x0, 0x0, 0x0, 0x0, 0x0⟩,
   ⟨0x60, 0x0, 0x0, 0x0, 0x0, 0x0, 0x0⟩,
   ⟨0x64, 0x0, 0x800003FF, 0x0, 0x0, 0x0, 0x0⟩,
   ⟨0x68, 0x0, 0xFFFFFFFF, 0x0, 0x0, 0x0, 0x0⟩,
   ⟨0x6C, 0x0, 0xFFFFFFFF, 0x0, 0x0, 0x0, 0x0⟩,
   ⟨0x70, 0x0, 0xFFFFFFFF, 0x0, 0x0, 0x0, 0x0⟩,
   ⟨0x74, 0x0, 0xFFFFFFFF, 0x0, 0x0, 0x0, 0x0⟩,
   ⟨0x78, 0x0, 0x0, 0x0, 0x0, 0x0, 0x0⟩,
   ⟨0x7C, 0x0, 0xFFFF, 0x0, 0x0, 0x0, 0x0⟩,
   ⟨0x80, 0x0, 0xFFFFFFFF, 0x0, 0x0, 0x0, 0xFFFFFFFF⟩,
   ⟨0x84, 0x0, 0xFFFFFFFF, 0x0, 0x0, 0x0, 0xFFFFFFFF⟩,
   ⟨0x100, 0x0, 0x803FFFFF, 0x0, 0x0, 0x0, 0x0⟩,
   ⟨0x104, 0x0, 0x803FFFFF, 0x0, 0x0, 0x0, 0x0⟩,
   ⟨0x108, 0x0, 0x803FFFFF, 0x0, 0x0, 0x0, 0x0⟩,
   ⟨0x10C, 0x0, 0x803FFFFF, 0x0, 0x0, 0x0, 0x0⟩,
   ⟨0x110, 0x0, 0x803FFFFF, 0x0, 0x0, 0x0, 0x0⟩,
   ⟨0x114, 0x0, 0x803FFFFF, 0x0, 0x0, 0x0, 0x0⟩]

/-- Registers of class TSQ, part 2. -/
def tsqRegs2 : List RegDef :=
  [⟨0x118, 0x0, 0x803FFFFF, 0x0, 0x0, 0x0, 0x0⟩,
   ⟨0x11C, 0x0, 0x803FFFFF, 0x0, 0x0, 0x0, 0x0⟩,
   ⟨0x120, 0x0, 0x803FFFFF, 0x0, 0x0, 0x0, 0x0⟩,
   ⟨0x124, 0x0, 0x803FFFFF, 0x0, 0x0, 0x0, 0x0⟩,
   ⟨0x128, 0x0, 0x803FFFFF, 0x0, 0x0, 0x0, 0x0⟩,
   ⟨0x12C, 0x0, 0x803FFFFF, 0x0, 0x0, 0x0, 0x0⟩,
   ⟨0x130, 0x0, 0x803FFFFF, 0x0, 0x0, 0x0, 0x0⟩,
   ⟨0x134, 0x0, 0x803FFFFF, 0x0, 0x0, 0x0, 0x0⟩,
   ⟨0x138, 0x0, 0x803FFFFF, 0x0, 0x0, 0x0, 0x0⟩,
   ⟨0x13C, 0x0, 0x803FFFFF, 0x0, 0x0, 0x0, 0x0⟩,
   ⟨0x140, 0x0, 0x803FFFFF, 0x0, 0x0, 0x0, 0x0⟩,
   ⟨0x144, 0x0, 0x803FFFFF, 0x0, 0x0, 0x0, 0x0⟩,
   ⟨0x148, 0x0, 0x803FFFFF, 0x0, 0x0, 0x0, 0x0⟩,
   ⟨0x14C, 0x0, 0x803FFFFF, 0x0, 0x0, 0x0, 0x0⟩,
   ⟨0x150, 0x0, 0x803FFFFF, 0x0, 0x0, 0x0, 0x0⟩,
   ⟨0x154, 0x0, 0x803FFFFF, 0x0, 0x0, 0x0, 0x0⟩,
   ⟨0x158, 0x0, 0x803FFFFF, 0x0, 0x0, 0x0, 0x0⟩,
   ⟨0x15C, 0x0, 0x803FFFFF, 0x0, 0x0, 0x0, 0x0⟩,
   ⟨0x160, 0x0, 0x803FFFFF, 0x0, 0x0, 0x0, 0x0⟩,
   ⟨0x164, 0x0, 0x803FFFFF, 0x0, 0x0, 0x0, 0x0⟩,
   ⟨0x168, 0x0, 0x803FFFFF, 0x0, 0x0, 0x0, 0x0⟩,
   ⟨0x16C, 0x0, 0x803FFFFF, 0x0, 0x0, 0x0, 0x0⟩,
   ⟨0x170, 0x0, 0x803FFFFF, 0x0, 0x0, 0x0, 0x0⟩,
   ⟨0x174, 0x0, 0x803FFFFF, 0x0, 0x0, 0x0, 0x0⟩]

/-- Registers of class TSQ, part 3. -/
def tsqRegs3 : List RegDef :=
  [⟨0x178, 0x0, 0x803FFFFF, 0x0, 0x0, 0x0, 0x0⟩,
   ⟨0x17C, 0x0, 0x803FFFFF, 0x0, 0x0, 0x0, 0x0⟩,
   ⟨0x180, 0x0, 0x803FFFFF, 0x0, 0x0, 0x0, 0x0⟩,
   ⟨0x184, 0x0, 0x803FFFFF, 0x0, 0x0, 0x0, 0x0⟩,
   ⟨0x188, 0x0, 0x803FFFFF, 0x0, 0x0, 0x0, 0x0⟩,
   ⟨0x18C, 0x0, 0x803FFFFF, 0x0, 0x0, 0x0, 0x0⟩,
   ⟨0x190, 0x0, 0x803FFFFF, 0x0, 0x0, 0x0, 0x0⟩,
   ⟨0x194, 0x0, 0x803FFFFF, 0x0, 0x0, 0x0, 0x0⟩,
   ⟨0x198, 0x0, 0x803FFFFF, 0x0, 0x0, 0x0, 0x0⟩,
   ⟨0x19C, 0x0, 0x803FFFFF, 0x0, 0x0, 0x0, 0x0⟩,
   ⟨0x1A0, 0x0, 0x803FFFFF, 0x0, 0x0, 0x0, 0x0⟩,
   ⟨0x1A4, 0x0, 0x803FFFFF, 0x0, 0x0, 0x0, 0x0⟩,
   ⟨0x1A8, 0x0, 0x803FFFFF, 0x0, 0x0, 0x0, 0x0⟩,
   ⟨0x1AC, 0x0, 0x803FFFFF, 0x0, 0x0, 0x0, 0x0⟩,
   ⟨0x1B0, 0x0, 0x803FFFFF, 0x0, 0x0, 0x0, 0x0⟩,
   ⟨0x1B4, 0x0, 0x803FFFFF, 0x0, 0x0, 0x0, 0x0⟩,
   ⟨0x1B8, 0x0, 0x803FFFFF, 0x0, 0x0, 0x0, 0x0⟩,
   ⟨0x1BC, 0x0, 0x803FFFFF, 0x0, 0x0, 0x0, 0x0⟩,
   ⟨0x1C0, 0x0, 0x803FFFFF, 0x0, 0x0, 0x0, 0x0⟩,
   ⟨0x1C4, 0x0, 0x803FFFFF, 0x0, 0x0, 0x0, 0x0⟩,
   ⟨0x1C8, 0x0, 0x803FFFFF, 0x0, 0x0, 0x0, 0x0⟩,
   ⟨0x1CC, 0x0, 0x803FFFFF, 0x0, 0x0, 0x0, 0x0⟩,
   ⟨0x1D0, 0x0, 0x803FFFFF, 0x0, 0x0, 0x0, 0x0⟩,
   ⟨0x1D4, 0x0, 0x803FFFFF, 0x0, 0x0, 0x0, 0x0⟩]

/-- Registers of class TSQ, part 4. -/
def tsqRegs4 : List RegDef :=
  [⟨0x1D8, 0x0, 0x803FFFFF, 0x0, 0x0, 0x0, 0x0⟩,
   ⟨0x1DC, 0x0, 0x803FFFFF, 0x0, 0x0, 0x0, 0x0⟩,
   ⟨0x1E0, 0x0, 0x803FFFFF, 0x0, 0x0, 0x0, 0x0⟩,
   ⟨0x1E4, 0x0, 0x803FFFFF, 0x0, 0x0, 0x0, 0x0⟩,
   ⟨0x1E8, 0x0, 0x803FFFFF, 0x0, 0x0, 0x0, 0x0⟩,
   ⟨0x1EC, 0x0, 0x803FFFFF, 0x0, 0x0, 0x0, 0x0⟩,
   ⟨0x1F0, 0x0, 0x803FFFFF, 0x0, 0x0, 0x0, 0x0⟩,
   ⟨0x1F4, 0x0, 0x803FFFFF, 0x0, 0x0, 0x0, 0x0⟩,
   ⟨0x1F8, 0x0, 0x803FFFFF, 0x0, 0x0, 0x0, 0x0⟩,
   ⟨0x1FC, 0x0, 0x803FFFFF, 0x0, 0x0, 0x0, 0x0⟩]

/-- The registers of class TSQ, in the order of their offsets. -/
def tsqRegs : List RegDef := tsqRegs1 ++ tsqRegs2 ++ tsqRegs3 ++ tsqRegs4

/-- Registers of class PIV, part 1. -/
def pivRegs1 : List RegDef :=
  [⟨0x40, 0x0, 0x0, 0x0, 0x0, 0x0, 0x0⟩,
   ⟨0x44, 0x0, 0x0, 0x0, 0x0, 0x0, 0x0⟩,
   ⟨0x48, 0x0, 0xFFFF, 0x0, 0x0, 0x0, 0x0⟩,
   ⟨0x4C, 0x0, 0x0, 0x0, 0x0, 0x0, 0x0⟩]

/-- The registers of class PIV, in the order of their offsets. -/
def pivRegs : List RegDef := pivRegs1

/-- Registers of class SRV, part 1. -/
def srvRegs1 : List RegDef :=
  [⟨0x40, 0x3, 0x3, 0x0, 0x0, 0x0, 0x0⟩,
   ⟨0x44, 0x0, 0x0, 0x0, 0x0, 0x0, 0x0⟩,
   ⟨0x48, 0x20, 0x0, 0x0, 0x0, 0x0, 0x0⟩,
   ⟨0x4C, 0x0, 0x0, 0x0, 0x0, 0x0, 0x0⟩,
   ⟨0x50, 0x0, 0x0, 0x0, 0x0, 0x0, 0x0⟩,
   ⟨0x54, 0x818, 0xFFFF, 0x0, 0x0, 0x0, 0x0⟩,
   ⟨0x58, 0x808030C, 0xFFF0FFF, 0x0, 0x0, 0x0, 0x0⟩,
   ⟨0x5C, 0x32, 0xFF, 0x0, 0x0, 0x0, 0x0⟩,
   ⟨0x60, 0x0, 0x0, 0x0, 0x0, 0x0, 0x0⟩,
   ⟨0x64, 0x500190, 0x0, 0x0, 0x0, 0xFF0FFF, 0xFF0FFF⟩,
   ⟨0x68, 0x3210, 0x7777, 0x0, 0x0, 0x0, 0x0⟩,
   ⟨0x6C, 0x0, 0x800003FF, 0x0, 0x0, 0x0, 0x0⟩,
   ⟨0x70, 0x0, 0xFFFFFFFF, 0x0, 0x0, 0x0, 0x0⟩,
   ⟨0x74, 0x0, 0x80003FFF, 0x0, 0x0, 0x0, 0x0⟩,
   ⟨0x78, 0x0, 0xFFFFFFFF, 0x0, 0x0, 0x0, 0x0⟩,
   ⟨0x7C, 0x0, 0x3FFFFF, 0x0, 0x0, 0x0, 0x0⟩,
   ⟨0x80, 0x0, 0xFFF, 0x0, 0x0, 0x0, 0x0⟩,
   ⟨0x84, 0x0, 0x1FF, 0x0, 0x0, 0x0, 0x0⟩,
   ⟨0x88, 0x0, 0xFFFFFFFF, 0x0, 0x0, 0x0, 0x0⟩,
   ⟨0x8C, 0x0, 0x0, 0x0, 0x0, 0x0, 0x0⟩,
   ⟨0x90, 0x0, 0x0, 0x0, 0x0, 0x0, 0x0⟩,
   ⟨0x94, 0x963C32, 0x0, 0x0, 0x0, 0xFFFFFF, 0xFFFFFF⟩,
   ⟨0x98, 0x0, 0x3, 0x0, 0x0, 0x0, 0x3⟩,
   ⟨0xA0, 0x0, 0xFFFFFFFF, 0x0, 0x0, 0x0, 0xFFFFFFFF⟩]

/-- Registers of class SRV, part 2. -/
def srvRegs2 : List RegDef :=
  [⟨0xA4, 0x0, 0xFFFFFFFF, 0x0, 0x0, 0x0, 0xFFFFFFFF⟩,
   ⟨0xA8, 0x0, 0xFFFFFFFF, 0x0, 0x0, 0x0, 0xFFFFFFFF⟩,
   ⟨0xAC, 0x0, 0xFFFFFFFF, 0x0, 0x0, 0x0, 0xFFFFFFFF⟩,
   ⟨0xB0, 0x0, 0xFFFFFFFF, 0x0, 0x0, 0x0, 0xFFFFFFFF⟩,
   ⟨0xB4, 0x0, 0xFFFFFFFF, 0x0, 0x0, 0x0, 0xFFFFFFFF⟩,
   ⟨0xB8, 0x0, 0xFFFFFFFF, 0x0, 0x0, 0x0, 0xFFFFFFFF⟩,
   ⟨0xBC, 0x0, 0xFFFFFFFF, 0x0, 0x0, 0x0, 0xFFFFFFFF⟩,
   ⟨0xC0, 0x0, 0xFFFFFFFF, 0x0, 0x0, 0x0, 0xFFFFFFFF⟩,
   ⟨0xC4, 0x0, 0xFFFFFFFF, 0x0, 0x0, 0x0, 0xFFFFFFFF⟩]

/-- The registers of class SRV, in the order of their offsets. -/
def srvRegs : List RegDef := srvRegs1 ++ srvRegs2

/-- Registers of class AST, part 1. -/
def astRegs1 : List RegDef :=
  [⟨0x40, 0x80000402, 0x80000F0F, 0x0, 0x0, 0x0, 0x0⟩,
   ⟨0x44, 0x0, 0x0, 0x0, 0x0, 0x0, 0x0⟩,
   ⟨0x48, 0x0, 0x0, 0x0, 0x0, 0x0, 0x0⟩,
   ⟨0x4C, 0x3C05, 0x0, 0x0, 0x0, 0xFFFF, 0xFFFF⟩,
   ⟨0x50, 0x0, 0x0, 0x0, 0x0, 0x0, 0x0⟩,
   ⟨0x54, 0x2807D0, 0xFFFFFF, 0x0, 0x0, 0x0, 0x0⟩,
   ⟨0x58, 0x0, 0x0, 0x3F, 0x0, 0x0, 0x0⟩,
   ⟨0x5C, 0x0, 0x70F, 0x0, 0x0, 0x0, 0x0⟩,
   ⟨0x60, 0x0, 0xFFFFFFFF, 0x0, 0x0, 0x0, 0x0⟩,
   ⟨0x64, 0x0, 0x800003FF, 0x0, 0x0, 0x0, 0x0⟩,
   ⟨0x68, 0x0, 0xFF, 0x0, 0x0, 0x0, 0x0⟩,
   ⟨0x6C, 0x0, 0x3F, 0x0, 0x0, 0x0, 0x0⟩,
   ⟨0x70, 0x0, 0x1FFFF, 0x0, 0x0, 0x0, 0x0⟩,
   ⟨0x74, 0x0, 0x30F, 0x0, 0x0, 0x0, 0x0⟩,
   ⟨0x78, 0x0, 0xFFFFFFFF, 0x0, 0x0, 0x0, 0xFFFFFFFF⟩,
   ⟨0x7C, 0x0, 0xFFFFFFFF, 0x0, 0x0, 0x0, 0xFFFFFFFF⟩,
   ⟨0x80, 0x0, 0xFFFFFFFF, 0x0, 0x0, 0x0, 0xFFFFFFFF⟩,
   ⟨0x84, 0x0, 0xFFFFFFFF, 0x0, 0x0, 0x0, 0xFFFFFFFF⟩,
   ⟨0x88, 0x0, 0xFFFFFFFF, 0x0, 0x0, 0x0, 0xFFFFFFFF⟩,
   ⟨0x8C, 0x0, 0xFFFFFFFF, 0x0, 0x0, 0x0, 0xFFFFFFFF⟩]

/-- The registers of class AST, in the order of their offsets. -/
def astRegs : List RegDef := astRegs1

/-- Registers of class SPN, part 1. -/
def spnRegs1 : List RegDef :=
  [⟨0x40, 0x6, 0x7, 0x0, 0x0, 0x0, 0x0⟩,
   ⟨0x44, 0x0, 0x0, 0x0, 0x0, 0x0, 0x0⟩,
   ⟨0x48, 0x0, 0x0, 0x0, 0x0, 0x0, 0x0⟩,
   ⟨0x4C, 0x1C20, 0x1FFF, 0x0, 0x0, 0x0, 0x0⟩,
   ⟨0x50, 0x0, 0x0, 0x0, 0x0, 0x0, 0x0⟩,
   ⟨0x54, 0x0, 0x0, 0x0, 0x0, 0x0, 0x0⟩,
   ⟨0x58, 0xFA009C4, 0xFFFFFFFF, 0x0, 0x0, 0x0, 0x0⟩,
   ⟨0x5C, 0x140028, 0xFFFFFFFF, 0x0, 0x0, 0x0, 0x0⟩,
   ⟨0x60, 0x400010, 0xFFFFFFFF, 0x0, 0x0, 0x0, 0x0⟩,
   ⟨0x64, 0x0, 0x0, 0x0, 0x0, 0xFFFFFFFF, 0xFFFFFFFF⟩,
   ⟨0x68, 0x0, 0x0, 0x0, 0x0, 0xFFFFFFFF, 0xFFFFFFFF⟩,
   ⟨0x6C, 0x50, 0x0, 0x0, 0x0, 0xFF, 0xFF⟩,
   ⟨0x70, 0x0, 0x8000001F, 0x0, 0x0, 0x0, 0x0⟩,
   ⟨0x74, 0x0, 0xFFFF, 0x0, 0x0, 0x0, 0x0⟩,
   ⟨0x78, 0x2D00288, 0x1FFF1FFF, 0x0, 0x0, 0x0, 0x0⟩,
   ⟨0x7C, 0xA28, 0xFFFF, 0x0, 0x0, 0x0, 0x0⟩,
   ⟨0x80, 0x1428, 0xFFFF, 0x0, 0x0, 0x0, 0x0⟩,
   ⟨0x84, 0x3C1E, 0xFFFF, 0x0, 0x0, 0x0, 0x0⟩,
   ⟨0x88, 0x5AA0528, 0x0, 0x0, 0x0, 0xFFFFFFFF, 0xFFFFFFFF⟩,
   ⟨0x8C, 0x0, 0x0, 0x0, 0x0, 0x0, 0x0⟩,
   ⟨0x90, 0xC802, 0x0, 0x0, 0x0, 0xFFFFFF, 0xFFFFFF⟩,
   ⟨0x94, 0x708044C, 0x0, 0x0, 0x0, 0x1FFFFFFF, 0x1FFFFFFF⟩,
   ⟨0x98, 0x14A40000, 0x0, 0x0, 0x0, 0xFFFFFFFF, 0xFFFFFFFF⟩,
   ⟨0x9C, 0x0, 0x0, 0x0, 0x0, 0x0, 0x0⟩]

/-- Registers of class SPN, part 2. -/
def spnRegs2 : List RegDef :=
  [⟨0xA0, 0x0, 0x0, 0x0, 0x0, 0x0, 0x0⟩,
   ⟨0xA4, 0x0, 0x0, 0x0, 0x0, 0x0, 0x0⟩,
   ⟨0xA8, 0x0, 0x0, 0xFF, 0x0, 0x0, 0x0⟩,
   ⟨0xB0, 0x0, 0xFFFFFFFF, 0x0, 0x0, 0x0, 0xFFFFFFFF⟩,
   ⟨0xB4, 0x0, 0xFFFFFFFF, 0x0, 0x0, 0x0, 0xFFFFFFFF⟩,
   ⟨0xB8, 0x0, 0xFFFFFFFF, 0x0, 0x0, 0x0, 0xFFFFFFFF⟩,
   ⟨0xBC, 0x0, 0xFFFFFFFF, 0x0, 0x0, 0x0, 0xFFFFFFFF⟩,
   ⟨0xC0, 0x0, 0xFFFFFFFF, 0x0, 0x0, 0x0, 0xFFFFFFFF⟩,
   ⟨0xC4, 0x0, 0xFFFFFFFF, 0x0, 0x0, 0x0, 0xFFFFFFFF⟩,
   ⟨0xC8, 0x0, 0xFFFFFFFF, 0x0, 0x0, 0x0, 0xFFFFFFFF⟩,
   ⟨0xCC, 0x0, 0xFFFFFFFF, 0x0, 0x0, 0x0, 0xFFFFFFFF⟩,
   ⟨0xD0, 0x0, 0xFFFFFFFF, 0x0, 0x0, 0x0, 0xFFFFFFFF⟩,
   ⟨0xD4, 0x0, 0xFFFFFFFF, 0x0, 0x0, 0x0, 0xFFFFFFFF⟩]

/-- The registers of class SPN, in the order of their offsets. -/
def spnRegs : List RegDef := spnRegs1 ++ spnRegs2

/-- Registers of class BUF, part 1. -/
def bufRegs1 : List RegDef :=
  [⟨0x40, 0x0, 0x0, 0x0, 0x0, 0x80003731, 0x80003731⟩,
   ⟨0x44, 0x0, 0x0, 0x0, 0x0, 0x0, 0x80003000⟩,
   ⟨0x48, 0x0, 0x0, 0x0, 0x0, 0x7FFFFF, 0x7FFFFF⟩,
   ⟨0x4C, 0x0, 0x0, 0x0, 0x0, 0x7FFFFF, 0x7FFFFF⟩,
   ⟨0x50, 0x0, 0x0, 0x0, 0x0, 0xFFFFFF, 0xFFFFFF⟩,
   ⟨0x54, 0x0, 0x7FFFFF, 0x0, 0x0, 0x0, 0x0⟩,
   ⟨0x58, 0x0, 0xC07FFFFF, 0x0, 0x0, 0x0, 0x0⟩,
   ⟨0x5C, 0x0, 0x7FFFFF, 0x0, 0x0, 0x0, 0x0⟩,
   ⟨0x60, 0x0, 0x0, 0x0, 0x0, 0x0, 0x0⟩,
   ⟨0x64, 0x0, 0x0, 0x0, 0x0, 0x0, 0x0⟩,
   ⟨0x68, 0x0, 0xFFFFF800, 0x0, 0x0, 0x0, 0x0⟩,
   ⟨0x6C, 0x0, 0x0, 0x0, 0x0, 0x0, 0x0⟩,
   ⟨0x70, 0x0, 0x0, 0x0, 0x0, 0x0, 0x0⟩,
   ⟨0x74, 0x3E8, 0xFFFF, 0x0, 0x0, 0x0, 0x0⟩,
   ⟨0x78, 0x80001800, 0x2, 0x0, 0x1, 0xC000FF00, 0xC000FF00⟩,
   ⟨0x7C, 0x0, 0x0, 0x0, 0x0, 0x0, 0xFFFFFFFF⟩,
   ⟨0x80, 0x0, 0x0, 0x0, 0x0, 0x0, 0xFFFFFFFF⟩,
   ⟨0x84, 0x0, 0x7FFFFF, 0x0, 0x0, 0x0, 0x0⟩,
   ⟨0x88, 0x0, 0x7FFFFF, 0x0, 0x0, 0x0, 0x0⟩,
   ⟨0x8C, 0x0, 0x0, 0x0, 0x0, 0x0, 0x0⟩,
   ⟨0x90, 0x0, 0x0, 0x0, 0x0, 0x0, 0x0⟩,
   ⟨0x94, 0x0, 0x0, 0x0, 0x0, 0x0, 0x0⟩,
   ⟨0x98, 0x0, 0x0, 0x0, 0x0, 0x0, 0x0⟩,
   ⟨0x9C, 0x0, 0x0, 0x0, 0x0, 0x0, 0x0⟩]

/-- Registers of class BUF, part 2. -/
def bufRegs2 : List RegDef :=
  [⟨0xA0, 0x0, 0x0, 0x0, 0x0, 0x0, 0x0⟩,
   ⟨0xA4, 0x0, 0x0, 0x0, 0x0, 0x0, 0x0⟩,
   ⟨0xA8, 0x0, 0x0, 0x0, 0x0, 0x0, 0x0⟩,
   ⟨0xAC, 0x0, 0x1FF, 0x0, 0x0, 0x0, 0x0⟩,
   ⟨0xB0, 0x0, 0x0, 0x0, 0x0, 0x0, 0x0⟩,
   ⟨0xB4, 0x0, 0x80000003, 0x0, 0x0, 0x0, 0x0⟩,
   ⟨0xB8, 0x0, 0x1FFFFFFF, 0x0, 0x0, 0x0, 0x0⟩,
   ⟨0xBC, 0x0, 0xFFFFFFFF, 0x0, 0x0, 0x0, 0x0⟩,
   ⟨0xC0, 0x0, 0xFFFF00FF, 0x0, 0x0, 0x0, 0x0⟩,
   ⟨0xC8, 0x0, 0xFFFFFFFF, 0x0, 0x0, 0x0, 0xFFFFFFFF⟩,
   ⟨0xCC, 0x0, 0xFFFFFFFF, 0x0, 0x0, 0x0, 0xFFFFFFFF⟩,
   ⟨0xD0, 0x0, 0xFFFFFFFF, 0x0, 0x0, 0x0, 0xFFFFFFFF⟩,
   ⟨0xD4, 0x0, 0xFFFFFFFF, 0x0, 0x0, 0x0, 0xFFFFFFFF⟩,
   ⟨0xD8, 0x0, 0xFFFFFFFF, 0x0, 0x0, 0x0, 0xFFFFFFFF⟩,
   ⟨0xDC, 0x0, 0xFFFFFFFF, 0x0, 0x0, 0x0, 0xFFFFFFFF⟩,
   ⟨0xE0, 0x0, 0xFFFFFFFF, 0x0, 0x0, 0x0, 0xFFFFFFFF⟩,
   ⟨0xE4, 0x0, 0xFFFFFFFF, 0x0, 0x0, 0x0, 0xFFFFFFFF⟩,
   ⟨0xE8, 0x0, 0xFFFFFFFF, 0x0, 0x0, 0x0, 0xFFFFFFFF⟩,
   ⟨0xEC, 0x0, 0xFFFFFFFF, 0x0, 0x0, 0x0, 0xFFFFFFFF⟩,
   ⟨0xF0, 0x0, 0xFFFFFFFF, 0x0, 0x0, 0x0, 0xFFFFFFFF⟩,
   ⟨0xF4, 0x0, 0xFFFFFFFF, 0x0, 0x0, 0x0, 0xFFFFFFFF⟩,
   ⟨0xF8, 0x0, 0xFFFFFFFF, 0x0, 0x0, 0x0, 0xFFFFFFFF⟩,
   ⟨0xFC, 0x0, 0xFFFFFFFF, 0x0, 0x0, 0x0, 0xFFFFFFFF⟩]

/-- The registers of class BUF, in the order of their offsets. -/
def bufRegs : List RegDef := bufRegs1 ++ bufRegs2

/-- Registers of class SVC, part 1. -/
def svcRegs1 : List RegDef :=
  [⟨0x40, 0x0, 0x0, 0x0, 0x0, 0x0, 0x0⟩,
   ⟨0x44, 0x0, 0x0, 0x0, 0x3, 0x0, 0x1⟩,
   ⟨0x48, 0x0, 0x80001313, 0x0, 0x0, 0x0, 0x80001313⟩,
   ⟨0x4C, 0x0, 0xFF03, 0x0, 0x0, 0x0, 0xFF03⟩,
   ⟨0x50, 0x0, 0x80000000, 0x0, 0x1, 0x0, 0x0⟩,
   ⟨0x54, 0x0, 0x0, 0x0, 0x0, 0x0, 0x0⟩,
   ⟨0x58, 0x0, 0xFF00, 0x0, 0x80000003, 0x0, 0x0⟩,
   ⟨0x5C, 0x0, 0x8FFFFFFF, 0x0, 0x0, 0x0, 0x8FFFFFFF⟩,
   ⟨0x60, 0x0, 0x0, 0x0, 0x0, 0x0, 0x0⟩,
   ⟨0x100, 0x0, 0xF133337F, 0x0, 0x0, 0x0, 0x0⟩,
   ⟨0x104, 0x0, 0xFF00, 0x0, 0xC0000003, 0x0, 0x0⟩,
   ⟨0x108, 0x0, 0x8F013300, 0x0, 0x0, 0x0, 0x8F013300⟩,
   ⟨0x10C, 0x0, 0xFFFFFFF, 0x0, 0x0, 0x0, 0x0⟩,
   ⟨0x110, 0x0, 0xFFFFFFFF, 0x0, 0x0, 0x0, 0xFFFFFFFF⟩,
   ⟨0x114, 0x0, 0xFFFFFFFF, 0x0, 0x0, 0x0, 0xFFFFFFFF⟩,
   ⟨0x118, 0x0, 0xFFFFFFFF, 0x0, 0x0, 0x0, 0xFFFFFFFF⟩,
   ⟨0x11C, 0x0, 0xFFFFFFFF, 0x0, 0x0, 0x0, 0xFFFFFFFF⟩,
   ⟨0x200, 0x0, 0x0, 0x0, 0x0, 0x800000FF, 0x800000FF⟩,
   ⟨0x204, 0x0, 0x0, 0x0, 0x0, 0x0, 0x0⟩,
   ⟨0x208, 0x0, 0x0, 0x0, 0x0, 0x0, 0x0⟩,
   ⟨0x20C, 0x0, 0x0, 0x0, 0x0, 0x0, 0x0⟩,
   ⟨0x210, 0x800, 0xFFF, 0x0, 0x0, 0x0, 0x0⟩,
   ⟨0x214, 0x0, 0x0, 0x0, 0x0, 0x0, 0x0⟩,
   ⟨0x218, 0x0, 0x0, 0x0, 0x0, 0x0, 0x0⟩]

/-- Registers of class SVC, part 2. -/
def svcRegs2 : List RegDef :=
  [⟨0x220, 0x0, 0xFFFFFFFF, 0x0, 0x0, 0x0, 0xFFFFFFFF⟩,
   ⟨0x224, 0x0, 0xFFFFFFFF, 0x0, 0x0, 0x0, 0xFFFFFFFF⟩,
   ⟨0x228, 0x0, 0xE00FFFFF, 0x0, 0x0, 0x0, 0xE00FFFFF⟩,
   ⟨0x230, 0x0, 0xFFFFFFFF, 0x0, 0x0, 0x0, 0xFFFFFFFF⟩,
   ⟨0x234, 0x0, 0xFFFFFFFF, 0x0, 0x0, 0x0, 0xFFFFFFFF⟩]

/-- The registers of class SVC, in the order of their offsets. -/
def svcRegs : List RegDef := svcRegs1 ++ svcRegs2

/-- Registers of class CMD, part 1. -/
def cmdRegs1 : List RegDef :=
  [⟨0x40, 0x3, 0x303, 0x0, 0x0, 0x0, 0x0⟩,
   ⟨0x44, 0x10000, 0x0, 0x0, 0x0, 0x0, 0x0⟩,
   ⟨0x48, 0x800, 0x0, 0x0, 0x0, 0x0, 0x0⟩,
   ⟨0x4C, 0x20000, 0x0, 0x0, 0x0, 0x0, 0x0⟩,
   ⟨0x50, 0x0, 0x3F, 0x0, 0x0, 0x0, 0x0⟩,
   ⟨0x54, 0x10000000, 0x0, 0x0, 0x0, 0x1FFF1FFF, 0x1FFF1FFF⟩,
   ⟨0x58, 0x1, 0xFF, 0x0, 0x0, 0x0, 0x0⟩,
   ⟨0x5C, 0x0, 0x0, 0x0, 0x0, 0x0, 0x0⟩,
   ⟨0x60, 0x100, 0x1FF, 0x0, 0x0, 0x0, 0x0⟩,
   ⟨0x64, 0x80000010, 0x800000FF, 0x0, 0x0, 0x0, 0x0⟩,
   ⟨0x68, 0x0, 0xFFFFFFFF, 0x0, 0x0, 0x0, 0x0⟩,
   ⟨0x6C, 0x0, 0x0, 0x0, 0x0, 0x0, 0x0⟩,
   ⟨0x70, 0x0, 0x0, 0x0, 0x0, 0x0, 0x0⟩,
   ⟨0x74, 0x0, 0x31FFFF, 0x0, 0x0, 0x0, 0x0⟩,
   ⟨0x78, 0x0, 0xFFFFFFFF, 0x0, 0x0, 0x0, 0x0⟩,
   ⟨0x7C, 0x0, 0xFFFF, 0x0, 0x0, 0x0, 0x0⟩,
   ⟨0x80, 0x0, 0x0, 0x0, 0x0, 0x0, 0x0⟩,
   ⟨0x84, 0x0, 0x0, 0x0, 0x0, 0x0, 0x0⟩,
   ⟨0x88, 0x0, 0x0, 0x0, 0x0, 0x0, 0x0⟩,
   ⟨0x8C, 0x0, 0x0, 0x0, 0x0, 0x0, 0x0⟩,
   ⟨0x90, 0x0, 0xFFFFFF80, 0x0, 0x0, 0x0, 0x0⟩,
   ⟨0x94, 0x0, 0x80000FFF, 0x0, 0x0, 0x0, 0x0⟩,
   ⟨0x98, 0x0, 0xFFF, 0x0, 0x0, 0x0, 0x0⟩,
   ⟨0x9C, 0x0, 0x0, 0x0, 0x0, 0x0, 0x0⟩]

/-- Registers of class CMD, part 2. -/
def cmdRegs2 : List RegDef :=
  [⟨0xA0, 0x0, 0xFFFFFFF0, 0x0, 0x0, 0x0, 0x0⟩,
   ⟨0xA4, 0x0, 0x80000FFF, 0x0, 0x0, 0x0, 0x0⟩,
   ⟨0xA8, 0x0, 0xFFF, 0x0, 0x0, 0x0, 0x0⟩,
   ⟨0xAC, 0x0, 0x0, 0x0, 0x0, 0x0, 0x0⟩,
   ⟨0xB0, 0x0, 0xFFFFFF80, 0x0, 0x0, 0x0, 0x0⟩,
   ⟨0xB4, 0x0, 0x80000FFF, 0x0, 0x0, 0x0, 0x0⟩,
   ⟨0xB8, 0x0, 0xFFF, 0x0, 0x0, 0x0, 0x0⟩,
   ⟨0xBC, 0x0, 0x0, 0x0, 0x0, 0x0, 0x0⟩,
   ⟨0xC0, 0x0, 0xFFFFFFF0, 0x0, 0x0, 0x0, 0x0⟩,
   ⟨0xC4, 0x0, 0x80000FFF, 0x0, 0x0, 0x0, 0x0⟩,
   ⟨0xC8, 0x0, 0xFFF, 0x0, 0x0, 0x0, 0x0⟩,
   ⟨0xCC, 0x0, 0x0, 0x0, 0x0, 0x0, 0x0⟩,
   ⟨0xD0, 0x0, 0xFFFFFFFF, 0x0, 0x0, 0x0, 0xFFFFFFFF⟩,
   ⟨0xD4, 0x0, 0xFFFFFFFF, 0x0, 0x0, 0x0, 0xFFFFFFFF⟩,
   ⟨0xD8, 0x0, 0xFFFFFFFF, 0x0, 0x0, 0x0, 0xFFFFFFFF⟩,
   ⟨0xDC, 0x0, 0xFFFFFFFF, 0x0, 0x0, 0x0, 0xFFFFFFFF⟩,
   ⟨0xE0, 0x0, 0xFFFFFFFF, 0x0, 0x0, 0x0, 0xFFFFFFFF⟩,
   ⟨0xE4, 0x0, 0xFFFFFFFF, 0x0, 0x0, 0x0, 0xFFFFFFFF⟩,
   ⟨0xE8, 0x0, 0xFFFFFFFF, 0x0, 0x0, 0x0, 0xFFFFFFFF⟩,
   ⟨0xEC, 0x0, 0xFFFFFFFF, 0x0, 0x0, 0x0, 0xFFFFFFFF⟩,
   ⟨0xF0, 0x0, 0xFFFFFFFF, 0x0, 0x0, 0x0, 0xFFFFFFFF⟩,
   ⟨0xF4, 0x0, 0xFFFFFFFF, 0x0, 0x0, 0x0, 0xFFFFFFFF⟩,
   ⟨0xF8, 0x0, 0xFFFFFFFF, 0x0, 0x0, 0x0, 0xFFFFFFFF⟩,
   ⟨0xFC, 0x0, 0xFFFFFFFF, 0x0, 0x0, 0x0, 0xFFFFFFFF⟩]

/-- Registers of class CMD, part 3. -/
def cmdRegs3 : List RegDef :=
  [⟨0x100, 0x0, 0xFFFFFFFF, 0x0, 0x0, 0x0, 0xFFFFFFFF⟩,
   ⟨0x104, 0x0, 0xFFFFFFFF, 0x0, 0x0, 0x0, 0xFFFFFFFF⟩]

/-- The registers of class CMD, in the order of their offsets. -/
def cmdRegs : List RegDef := cmdRegs1 ++ cmdRegs2 ++ cmdRegs3

/-- Registers of class PEP, part 1. -/
def pepRegs1 : List RegDef :=
  [⟨0x40, 0x100410, 0x0, 0x0, 0x0, 0x801F0F13, 0x801F0F13⟩,
   ⟨0x44, 0x0, 0x0, 0x0, 0x0, 0x0, 0x0⟩,
   ⟨0x48, 0x0, 0x0, 0x0, 0x0, 0x0, 0x0⟩,
   ⟨0x4C, 0x0, 0x3F, 0x0, 0x0, 0x0, 0x0⟩,
   ⟨0x50, 0x0, 0x0, 0x0, 0x0, 0xFFF07FF, 0xFFF07FF⟩,
   ⟨0x54, 0x0, 0x1F, 0x0, 0x0, 0x0, 0x0⟩,
   ⟨0x58, 0x1, 0xF, 0x0, 0x0, 0x0, 0x0⟩,
   ⟨0x60, 0x0, 0xFFFFFFFF, 0x0, 0x0, 0x0, 0xFFFFFFFF⟩,
   ⟨0x64, 0x0, 0xFFFFFFFF, 0x0, 0x0, 0x0, 0xFFFFFFFF⟩,
   ⟨0x68, 0x0, 0xFFFFFFFF, 0x0, 0x0, 0x0, 0xFFFFFFFF⟩,
   ⟨0x6C, 0x0, 0xFFFFFFFF, 0x0, 0x0, 0x0, 0xFFFFFFFF⟩,
   ⟨0x70, 0x0, 0xFFFFFFFF, 0x0, 0x0, 0x0, 0xFFFFFFFF⟩,
   ⟨0x74, 0x0, 0xFFFFFFFF, 0x0, 0x0, 0x0, 0xFFFFFFFF⟩]

/-- The registers of class PEP, in the order of their offsets. -/
def pepRegs : List RegDef := pepRegs1

/-- Registers of class POOL, part 1. -/
def poolRegs1 : List RegDef :=
  [⟨0x40, 0xFF, 0x800000FF, 0x0, 0x0, 0x0, 0x0⟩,
   ⟨0x44, 0x200000FF, 0x0, 0x0, 0x0, 0x0, 0x0⟩,
   ⟨0x48, 0x0, 0xFFFFFFF, 0x0, 0x0, 0x0, 0x0⟩,
   ⟨0x4C, 0x0, 0x0, 0x0, 0x0, 0x0, 0x0⟩,
   ⟨0x50, 0x0, 0x0, 0x0, 0x0, 0x0, 0x0⟩,
   ⟨0x54, 0x0, 0x0, 0x0, 0x0, 0x0, 0x0⟩,
   ⟨0x58, 0x0, 0x0, 0x0, 0x0, 0x0, 0x0⟩,
   ⟨0x5C, 0x0, 0x0, 0x0, 0x0, 0x0, 0x0⟩,
   ⟨0x60, 0x0, 0x0, 0x0, 0x0, 0x0, 0x0⟩,
   ⟨0x64, 0x0, 0x0, 0x0, 0x0, 0x0, 0x0⟩,
   ⟨0x68, 0x0, 0x0, 0x0, 0x0, 0x0, 0x0⟩,
   ⟨0x6C, 0x0, 0x0, 0x0, 0x0, 0x0, 0x0⟩,
   ⟨0x70, 0x0, 0x0, 0x0, 0x0, 0x0, 0x0⟩,
   ⟨0x74, 0x0, 0x0, 0x0, 0x0, 0x0, 0x0⟩,
   ⟨0x78, 0x0, 0xFFFFFFFF, 0x0, 0x0, 0x0, 0xFFFFFFFF⟩,
   ⟨0x7C, 0x0, 0xFFFFFFFF, 0x0, 0x0, 0x0, 0xFFFFFFFF⟩,
   ⟨0x80, 0x0, 0xFFFFFFFF, 0x0, 0x0, 0x0, 0xFFFFFFFF⟩,
   ⟨0x84, 0x0, 0xFFFFFFFF, 0x0, 0x0, 0x0, 0xFFFFFFFF⟩,
   ⟨0x100, 0x0, 0x3, 0x0, 0x0, 0x0, 0x0⟩,
   ⟨0x104, 0x10, 0x0, 0x0, 0x0, 0x0, 0x0⟩,
   ⟨0x108, 0x0, 0x0, 0x80000000, 0x0, 0x0, 0x0⟩,
   ⟨0x10C, 0x0, 0x0, 0x0, 0x0, 0x0, 0x0⟩,
   ⟨0x110, 0x0, 0x0, 0x0, 0x0, 0x0, 0x0⟩,
   ⟨0x114, 0x0, 0x0, 0x0, 0x0, 0x0, 0x0⟩]

/-- Registers of class POOL, part 2. -/
def poolRegs2 : List RegDef :=
  [⟨0x118, 0x0, 0x0, 0x0, 0x0, 0x0, 0x0⟩,
   ⟨0x11C, 0x0, 0xF, 0x0, 0x0, 0x0, 0x0⟩,
   ⟨0x120, 0x0, 0x80013FFF, 0x0, 0x0, 0x0, 0x0⟩,
   ⟨0x124, 0x0, 0xFFFFFFFF, 0x0, 0x0, 0x0, 0x0⟩,
   ⟨0x140, 0x0, 0x3, 0x0, 0x0, 0x0, 0x0⟩,
   ⟨0x144, 0x10, 0x0, 0x0, 0x0, 0x0, 0x0⟩,
   ⟨0x148, 0x0, 0x0, 0x80000000, 0x0, 0x0, 0x0⟩,
   ⟨0x14C, 0x0, 0x0, 0x0, 0x0, 0x0, 0x0⟩,
   ⟨0x150, 0x0, 0x0, 0x0, 0x0, 0x0, 0x0⟩,
   ⟨0x154, 0x0, 0x0, 0x0, 0x0, 0x0, 0x0⟩,
   ⟨0x158, 0x0, 0x0, 0x0, 0x0, 0x0, 0x0⟩,
   ⟨0x15C, 0x0, 0xF, 0x0, 0x0, 0x0, 0x0⟩,
   ⟨0x160, 0x0, 0x80013FFF, 0x0, 0x0, 0x0, 0x0⟩,
   ⟨0x164, 0x0, 0xFFFFFFFF, 0x0, 0x0, 0x0, 0x0⟩,
   ⟨0x180, 0x0, 0x3, 0x0, 0x0, 0x0, 0x0⟩,
   ⟨0x184, 0x10, 0x0, 0x0, 0x0, 0x0, 0x0⟩,
   ⟨0x188, 0x0, 0x0, 0x80000000, 0x0, 0x0, 0x0⟩,
   ⟨0x18C, 0x0, 0x0, 0x0, 0x0, 0x0, 0x0⟩,
   ⟨0x190, 0x0, 0x0, 0x0, 0x0, 0x0, 0x0⟩,
   ⟨0x194, 0x0, 0x0, 0x0, 0x0, 0x0, 0x0⟩,
   ⟨0x198, 0x0, 0x0, 0x0, 0x0, 0x0, 0x0⟩,
   ⟨0x19C, 0x0, 0xF, 0x0, 0x0, 0x0, 0x0⟩,
   ⟨0x1A0, 0x0, 0x80013FFF, 0x0, 0x0, 0x0, 0x0⟩,
   ⟨0x1A4, 0x0, 0xFFFFFFFF, 0x0, 0x0, 0x0, 0x0⟩]

/-- Registers of class POOL, part 3. -/
def poolRegs3 : List RegDef :=
  [⟨0x1C0, 0x0, 0x3, 0x0, 0x0, 0x0, 0x0⟩,
   ⟨0x1C4, 0x10, 0x0, 0x0, 0x0, 0x0, 0x0⟩,
   ⟨0x1C8, 0x0, 0x0, 0x80000000, 0x0, 0x0, 0x0⟩,
   ⟨0x1CC, 0x0, 0x0, 0x0, 0x0, 0x0, 0x0⟩,
   ⟨0x1D0, 0x0, 0x0, 0x0, 0x0, 0x0, 0x0⟩,
   ⟨0x1D4, 0x0, 0x0, 0x0, 0x0, 0x0, 0x0⟩,
   ⟨0x1D8, 0x0, 0x0, 0x0, 0x0, 0x0, 0x0⟩,
   ⟨0x1DC, 0x0, 0xF, 0x0, 0x0, 0x0, 0x0⟩,
   ⟨0x1E0, 0x0, 0x80013FFF, 0x0, 0x0, 0x0, 0x0⟩,
   ⟨0x1E4, 0x0, 0xFFFFFFFF, 0x0, 0x0, 0x0, 0x0⟩,
   ⟨0x200, 0x0, 0x3, 0x0, 0x0, 0x0, 0x0⟩,
   ⟨0x204, 0x10, 0x0, 0x0, 0x0, 0x0, 0x0⟩,
   ⟨0x208, 0x0, 0x0, 0x80000000, 0x0, 0x0, 0x0⟩,
   ⟨0x20C, 0x0, 0x0, 0x0, 0x0, 0x0, 0x0⟩,
   ⟨0x210, 0x0, 0x0, 0x0, 0x0, 0x0, 0x0⟩,
   ⟨0x214, 0x0, 0x0, 0x0, 0x0, 0x0, 0x0⟩,
   ⟨0x218, 0x0, 0x0, 0x0, 0x0, 0x0, 0x0⟩,
   ⟨0x21C, 0x0, 0xF, 0x0, 0x0, 0x0, 0x0⟩,
   ⟨0x220, 0x0, 0x80013FFF, 0x0, 0x0, 0x0, 0x0⟩,
   ⟨0x224, 0x0, 0xFFFFFFFF, 0x0, 0x0, 0x0, 0x0⟩,
   ⟨0x240, 0x0, 0x3, 0x0, 0x0, 0x0, 0x0⟩,
   ⟨0x244, 0x10, 0x0, 0x0, 0x0, 0x0, 0x0⟩,
   ⟨0x248, 0x0, 0x0, 0x80000000, 0x0, 0x0, 0x0⟩,
   ⟨0x24C, 0x0, 0x0, 0x0, 0x0, 0x0, 0x0⟩]

/-- Registers of class POOL, part 4. -/
def poolRegs4 : List RegDef :=
  [⟨0x250, 0x0, 0x0, 0x0, 0x0, 0x0, 0x0⟩,
   ⟨0x254, 0x0, 0x0, 0x0, 0x0, 0x0, 0x0⟩,
   ⟨0x258, 0x0, 0x0, 0x0, 0x0, 0x0, 0x0⟩,
   ⟨0x25C, 0x0, 0xF, 0x0, 0x0, 0x0, 0x0⟩,
   ⟨0x260, 0x0, 0x80013FFF, 0x0, 0x0, 0x0, 0x0⟩,
   ⟨0x264, 0x0, 0xFFFFFFFF, 0x0, 0x0, 0x0, 0x0⟩,
   ⟨0x280, 0x0, 0x3, 0x0, 0x0, 0x0, 0x0⟩,
   ⟨0x284, 0x10, 0x0, 0x0, 0x0, 0x0, 0x0⟩,
   ⟨0x288, 0x0, 0x0, 0x80000000, 0x0, 0x0, 0x0⟩,
   ⟨0x28C, 0x0, 0x0, 0x0, 0x0, 0x0, 0x0⟩,
   ⟨0x290, 0x0, 0x0, 0x0, 0x0, 0x0, 0x0⟩,
   ⟨0x294, 0x0, 0x0, 0x0, 0x0, 0x0, 0x0⟩,
   ⟨0x298, 0x0, 0x0, 0x0, 0x0, 0x0, 0x0⟩,
   ⟨0x29C, 0x0, 0xF, 0x0, 0x0, 0x0, 0x0⟩,
   ⟨0x2A0, 0x0, 0x80013FFF, 0x0, 0x0, 0x0, 0x0⟩,
   ⟨0x2A4, 0x0, 0xFFFFFFFF, 0x0, 0x0, 0x0, 0x0⟩,
   ⟨0x2C0, 0x0, 0x3, 0x0, 0x0, 0x0, 0x0⟩,
   ⟨0x2C4, 0x10, 0x0, 0x0, 0x0, 0x0, 0x0⟩,
   ⟨0x2C8, 0x0, 0x0, 0x80000000, 0x0, 0x0, 0x0⟩,
   ⟨0x2CC, 0x0, 0x0, 0x0, 0x0, 0x0, 0x0⟩,
   ⟨0x2D0, 0x0, 0x0, 0x0, 0x0, 0x0, 0x0⟩,
   ⟨0x2D4, 0x0, 0x0, 0x0, 0x0, 0x0, 0x0⟩,
   ⟨0x2D8, 0x0, 0x0, 0x0, 0x0, 0x0, 0x0⟩,
   ⟨0x2DC, 0x0, 0xF, 0x0, 0x0, 0x0, 0x0⟩]

/-- Registers of class POOL, part 5. -/
def poolRegs5 : List RegDef :=
  [⟨0x2E0, 0x0, 0x80013FFF, 0x0, 0x0, 0x0, 0x0⟩,
   ⟨0x2E4, 0x0, 0xFFFFFFFF, 0x0, 0x0, 0x0, 0x0⟩]

/-- The registers of class POOL, in the order of their offsets. -/
def poolRegs : List RegDef := poolRegs1 ++ poolRegs2 ++ poolRegs3 ++ poolRegs4 ++ poolRegs5

/-- Registers of class HZL, part 1. -/
def hzlRegs1 : List RegDef :=
  [⟨0x40, 0x103, 0x0, 0x0, 0x0, 0x0, 0x0⟩,
   ⟨0x44, 0x140, 0x0, 0x0, 0x0, 0xFFF, 0xFFF⟩,
   ⟨0x48, 0x0, 0x0, 0x0, 0x0, 0x0, 0x0⟩,
   ⟨0x4C, 0x0, 0x80000FFF, 0x0, 0x0, 0x0, 0x0⟩,
   ⟨0x50, 0x0, 0x0, 0x0, 0x0, 0x0, 0x0⟩,
   ⟨0x54, 0x0, 0x0, 0x0, 0x0, 0x0, 0x0⟩,
   ⟨0x58, 0x0, 0x0, 0x0, 0x0, 0x0, 0x0⟩,
   ⟨0x5C, 0x0, 0x0, 0x0, 0x0, 0x0, 0x0⟩,
   ⟨0x60, 0x0, 0x0, 0x0, 0x0, 0x0, 0x0⟩,
   ⟨0x80, 0x0, 0x0, 0x0, 0x0, 0x0, 0x0⟩,
   ⟨0x84, 0x8, 0x0, 0x0, 0x0, 0x0, 0x0⟩,
   ⟨0x90, 0x0, 0x0, 0x0, 0x0, 0x0, 0x0⟩,
   ⟨0x94, 0x8, 0x0, 0x0, 0x0, 0x0, 0x0⟩,
   ⟨0xA0, 0x0, 0x0, 0x0, 0x0, 0x0, 0x0⟩,
   ⟨0xA4, 0x8, 0x0, 0x0, 0x0, 0x0, 0x0⟩,
   ⟨0xC0, 0x0, 0xFFFFFFFF, 0x0, 0x0, 0x0, 0xFFFFFFFF⟩,
   ⟨0xC4, 0x0, 0xFFFFFFFF, 0x0, 0x0, 0x0, 0xFFFFFFFF⟩,
   ⟨0xC8, 0x0, 0xFFFFFFFF, 0x0, 0x0, 0x0, 0xFFFFFFFF⟩,
   ⟨0xCC, 0x0, 0xFFFFFFFF, 0x0, 0x0, 0x0, 0xFFFFFFFF⟩,
   ⟨0xD0, 0x0, 0xFFFFFFFF, 0x0, 0x0, 0x0, 0xFFFFFFFF⟩,
   ⟨0xD4, 0x0, 0xFFFFFFFF, 0x0, 0x0, 0x0, 0xFFFFFFFF⟩,
   ⟨0xD8, 0x0, 0xFFFFFFFF, 0x0, 0x0, 0x0, 0xFFFFFFFF⟩,
   ⟨0xDC, 0x0, 0xFFFFFFFF, 0x0, 0x0, 0x0, 0xFFFFFFFF⟩]

/-- The registers of class HZL, in the order of their offsets. -/
def hzlRegs : List RegDef := hzlRegs1

/-- Registers of class HKP, part 1. -/
def hkpRegs1 : List RegDef :=
  [⟨0x40, 0x0, 0x0, 0x0, 0x0, 0x0, 0x0⟩,
   ⟨0x44, 0x0, 0x3F, 0x0, 0x0, 0x0, 0x0⟩,
   ⟨0x48, 0x0, 0x0, 0x0, 0x0, 0x0, 0x0⟩,
   ⟨0x4C, 0x7FFF8000, 0xFFFFFFFF, 0x0, 0x0, 0x0, 0x0⟩,
   ⟨0x50, 0x0, 0x0, 0x0, 0x0, 0x0, 0x0⟩,
   ⟨0x54, 0x0, 0x0, 0x0, 0x0, 0x0, 0x0⟩,
   ⟨0x58, 0x0, 0x0, 0x0, 0x0, 0x0, 0x0⟩,
   ⟨0x5C, 0x6E37, 0x0, 0x0, 0x0, 0xFFFF, 0xFFFF⟩,
   ⟨0x60, 0x0, 0x0, 0x0, 0x0, 0x0, 0x0⟩,
   ⟨0x64, 0x0, 0x0, 0x0, 0x0, 0x0, 0x0⟩,
   ⟨0x68, 0x0, 0x80000FFF, 0x0, 0x0, 0x0, 0x0⟩,
   ⟨0x70, 0x0, 0xFFFFFFFF, 0x0, 0x0, 0x0, 0x0⟩,
   ⟨0x74, 0x0, 0xFFFFFFFF, 0x0, 0x0, 0x0, 0x0⟩,
   ⟨0x78, 0x0, 0xFFFFFFFF, 0x0, 0x0, 0x0, 0x0⟩,
   ⟨0x7C, 0x0, 0xFFFFFFFF, 0x0, 0x0, 0x0, 0x0⟩,
   ⟨0x80, 0x0, 0x0, 0x0, 0x0, 0x0, 0x0⟩,
   ⟨0x84, 0x0, 0x0, 0x0, 0x0, 0x0, 0x0⟩,
   ⟨0x88, 0x0, 0xF, 0x0, 0x0, 0x0, 0x0⟩,
   ⟨0x8C, 0xA00, 0xFF17, 0x0, 0x0, 0x0, 0x0⟩,
   ⟨0x90, 0x0, 0x0, 0x0, 0x0, 0x0, 0x0⟩,
   ⟨0xA0, 0x0, 0xFFFFFFFF, 0x0, 0x0, 0x0, 0xFFFFFFFF⟩,
   ⟨0xA4, 0x0, 0xFFFFFFFF, 0x0, 0x0, 0x0, 0xFFFFFFFF⟩,
   ⟨0xA8, 0x0, 0xFFFFFFFF, 0x0, 0x0, 0x0, 0xFFFFFFFF⟩,
   ⟨0xAC, 0x0, 0xFFFFFFFF, 0x0, 0x0, 0x0, 0xFFFFFFFF⟩]

/-- Registers of class HKP, part 2. -/
def hkpRegs2 : List RegDef :=
  [⟨0xB0, 0x0, 0xFFFFFFFF, 0x0, 0x0, 0x0, 0xFFFFFFFF⟩,
   ⟨0xB4, 0x0, 0xFFFFFFFF, 0x0, 0x0, 0x0, 0xFFFFFFFF⟩,
   ⟨0xB8, 0x0, 0xFFFFFFFF, 0x0, 0x0, 0x0, 0xFFFFFFFF⟩,
   ⟨0xBC, 0x0, 0xFFFFFFFF, 0x0, 0x0, 0x0, 0xFFFFFFFF⟩]

/-- The registers of class HKP, in the order of their offsets. -/
def hkpRegs : List RegDef := hkpRegs1 ++ hkpRegs2

end Sys2Proof.Machine
end

