-- ==== Sys2Proof/Machine/Sparse.lean ====
section
/-! DEFINITION. Sparse tables in one canonical form: a list of (key, value) with strictly rising keys in which no entry
equals what its key reads as when it is not listed.  Registers, memory and every indexed table of the device are held
so, which makes equal contents equal data. -/

namespace Sys2Proof.Machine

variable {α : Type}

/-- The value listed for key `k`, if any. -/
def Sparse.find? (l : List (Nat × α)) (k : Nat) : Option α :=
  match l with
  | [] => none
  | (j, v) :: t => if j = k then some v else Sparse.find? t k

/-- The value at key `k`, where an unlisted key `j` reads as `d j`. -/
def Sparse.get (d : Nat → α) (l : List (Nat × α)) (k : Nat) : α := (Sparse.find? l k).getD (d k)

/-- The table without key `k`. -/
def Sparse.erase (l : List (Nat × α)) (k : Nat) : List (Nat × α) :=
  match l with
  | [] => []
  | (j, v) :: t => if j = k then Sparse.erase t k else (j, v) :: Sparse.erase t k

/-- The table with `v` listed at key `k`, in the order of the keys. -/
def Sparse.insert (l : List (Nat × α)) (k : Nat) (v : α) : List (Nat × α) :=
  match l with
  | [] => [(k, v)]
  | (j, w) :: t =>
    if k < j then (k, v) :: (j, w) :: t
    else if j = k then (k, v) :: t
    else (j, w) :: Sparse.insert t k v

/-- The table with key `k` reading as `v`: writing what an unlisted key reads as removes the entry. -/
def Sparse.set [DecidableEq α] (d : Nat → α) (l : List (Nat × α)) (k : Nat) (v : α) : List (Nat × α) :=
  if v = d k then Sparse.erase l k else Sparse.insert l k v

/-- Every key of the table is above `b`. -/
def Sparse.above (b : Nat) (l : List (Nat × α)) : Bool := l.all (fun e => decide (b < e.1))

/-- The canonical form: strictly rising keys, and no entry equal to what its key reads as when it is not listed. -/
def Sparse.wf [DecidableEq α] (d : Nat → α) (l : List (Nat × α)) : Bool :=
  match l with
  | [] => true
  | (k, v) :: t => Sparse.above k t && decide (v ≠ d k) && Sparse.wf d t

end Sys2Proof.Machine
end

