-- ==== Sys2Proof/Machine/State.lean ====
section
/-! DEFINITION. The state of the device, as plain data, and its value after the cold reset. A register that software
reads and writes whole stays a register in `regs`; state that no register holds, and state whose registers are windows
on it, stands in the structures below, each in one place. -/

namespace Sys2Proof.Machine

/-- Causes of a bus error (R29). -/
inductive BusCause where
  | noSuchUnit | unitInReset | accessSize | accessDenied | uncorrectable | poisoned | fabricParity | timeout
  | translationFault | unmapped
  deriving DecidableEq, Repr

/-- An NVMe status: its name as the manual gives it (R533). -/
inductive NvmeStatus where
  | success
  | invalidOpcode | invalidField | dataTransferError | abortRequested | internalError | namespaceNotReady
  | invalidProtection | lbaOutOfRange | capacityExceeded | unrecoveredRead | guardCheck | appTagCheck | refTagCheck
  | compareFailure | accessDenied | writeFault | writeProtected
  | zoneBoundary | zoneFull | zoneReadOnly | zoneOffline | zoneInvalidWrite | tooManyActive | tooManyOpen
  | invalidTransition
  | abortLimit | aerLimit | invalidFwSlot | invalidFwImage | fwResetSubsystem | fwResetController | fwMaxTime
  | fwProhibited | overlappingRange | nsInsufficient | nsIdUnavailable | nsAlreadyAttached | invalidQueueId
  | invalidQueueSize | invalidVector | featureNotChangeable | featureNotSaveable | featureNotNs | keyTag | keyMissing
  | sanitizeProhibited | invalidFormat | insufficientCapacity | operationDenied | invalidLogPage | nsInvalid
  | abortedBySqDeletion | cqInvalid | anaInaccessible | anaTransition | deallocatedBlock
  deriving DecidableEq, Repr

/-- What the requester of the last command has been told: nothing, a value read, a bus error, or that the event named
cannot arise in this state (DESIGN CHOICE, log entry 3), or that the work waits (DESIGN CHOICE, log entry 3). -/
inductive Resp where
  | none
  | value (w : Word)
  | data (l : List Byte)
  | busError (c : BusCause)
  | status (st : NvmeStatus)
  | mi (code : Nat)
  | ignored
  | waiting
  deriving DecidableEq, Repr

/-- Whether the device runs, or what holds it (R37, R43, R56, R518). -/
inductive Power where
  | on                    -- running
  | coldHeld              -- PWRON_N is low
  | xtalHeld              -- held in reset after 2 s without the crystal (R37)
  | thermHeld             -- thermal hold (R518)
  | off                   -- the rails have collapsed (R56)
  deriving DecidableEq, Repr

/-- An item of work that a cap level bounds (R58): a lane transferring, a seek; a cipher message holds its own level. -/
inductive CapKind where
  | transfer (n : Nat) | seek (n : Nat)
  deriving DecidableEq, Repr

/-- Clock, reset and power state of the device group that no register holds. -/
structure Device where
  power : Power
  lost50 : Bool                         -- the crystal has been away for 50 ms (R37, step 4)
  caps : List (CapKind × Nat)           -- items in flight, each with the level it started under (R60)
  ps : Nat                              -- NVMe power state in force (R61)
  lastOp : Nat                          -- last operational power state (R62)
  psWanted : Option Nat                 -- a power state being entered (R62)
  psParked : List Nat                   -- lanes that a power state unloaded and that the return from it loads (R61)
  psStopped : Bool                      -- the spindle was stopped by PS4 (R61)
  latches : List (Nat × (Nat × Word))   -- high-word latches: unit × 64 + engine to (low offset, high word) (R4)
  warmInProgress : Bool                 -- a warm reset or the start after it is in progress (R46)
  diePause : Bool                       -- a die throttle frame is in its pause (R513)
  mediaPause : Bool                     -- a media throttle frame is in its pause (R513)
  shutdown : Bool                       -- an orderly shutdown is in progress (R516)
  saveArmed : Bool                      -- the service core has (re-)armed the power-loss save (R46, R489)
  deriving DecidableEq, Repr

/-- The device group after the cold reset. -/
def Device.reset : Device :=
  { power := .on, lost50 := false, caps := [], ps := 0, lastOp := 0, psWanted := none, psParked := [], psStopped := false, latches := [],
    warmInProgress := false, diePause := false, mediaPause := false,
    shutdown := false, saveArmed := false }

/-- A dispatch held by a lane: its descriptor's sixteen words with EPOCH as stamped (R77, R158), and how far it is. -/
structure Disp where
  raw : List Word
  id : Nat
  leg : Bool              -- a leg of a dual-issue race (R85)
  announced : List Nat    -- indexes of the sectors announced (R150)
  settled : List Nat      -- indexes delivered, recovered or given up (R120), written or not (R128)
  good : List Nat         -- indexes delivered or written
  ended : Option Nat      -- sequencer status of its END (R157)
  align : Word            -- the ALIGN word (R139)
  headStop : Bool         -- stopped because its head became unusable (R91)
  deriving DecidableEq, Repr

/-- A report of R79. -/
structure Report where
  slot : Nat
  epoch : Nat
  head : Nat
  first : Nat
  delivered : Nat
  map : Word
  status : Nat
  align : Word
  stamped : Bool
  work : Option Disp      -- the dispatch it reports on, which firmware knows by its slot (R76)
  deriving DecidableEq, Repr

/-- The loops of R102: the gain in 0.125 dB and the frequency offset as CHN_LOOP_STAT gives them; the baseline and the
asymmetry of readers A and B, the phase in 1/64 bit, the ten taps of each reader's FIR and the 32 × 3 taps of the noise
predictors, each as its number of steps, which no register shows. -/
structure Loops where
  gain : Nat
  fofs : Nat
  base : List Nat
  asy : List Nat
  phase : Nat
  firA : List Nat
  firB : List Nat
  preds : List Nat
  deriving DecidableEq, Repr

/-- The loops after a reset of the channel: every value 0 (DESIGN CHOICE, log entry 118). -/
def Loops.reset : Loops :=
  { gain := 0, fofs := 0, base := [0, 0], asy := [0, 0], phase := 0, firA := List.replicate 10 0, firB := List.replicate 10 0,
    preds := List.replicate 96 0 }

/-- A stretch of the track, from a data bit of one window to a data bit of one. -/
structure BitSpan where
  fromWin : Nat
  fromPos : Nat
  toWin : Nat
  toPos : Nat
  deriving DecidableEq, Repr

/-- A sector announced by the sequencer (R150), with the identity that R109 gives a sample. -/
structure SectRef where
  dispId : Nat
  idx : Nat
  slot : Nat
  epoch : Nat
  head : Nat
  track : Nat
  sector : Nat
  handle : Nat
  write : Bool
  dual : Bool
  prof : Word             -- the recovery profile latched at the sector's start (R121)
  captured : Bool         -- false for a late announcement (R152) or a sample spoilt (R104, R109, R156)
  lockLost : Bool
  ready : Bool := false           -- its write data was whole 64 bits before its preamble (R126)
  row : Word × Word := (0, 0)     -- the head's row latched at the sector's start (R100)
  start : Loops := Loops.reset    -- the loops at the sector's start (R112)
  sm1At : Nat × Nat := (0, 0)     -- where SM1 is expected (R150)
  sm1 : Option Int := none        -- the distance at which SM1 was accepted (R115)
  sm1Split : Bool := false        -- a window ends within SM1 (R73)
  sm2Split : Bool := false        -- a window ends within SM2 (R73)
  erased : List BitSpan := []     -- spans that enter the detector as erasures (R103)
  deriving DecidableEq, Repr

/-- What happens at a timed position (R149, R150). -/
inductive TimedItem where
  | event (gmask gval : Nat) (sect : Option SectRef)
  | openCap (r : SectRef)       -- the read capture opens, 64 bits ahead of the preamble
  | ready (r : SectRef)         -- a write sector's data must be whole, 64 bits ahead of the preamble (R126)
  | acquired (r : SectRef)      -- the first 96 bits of the preamble have passed (R102, R104)
  | sm1 (r : SectRef)           -- the search for SM1 ends (R115)
  | track                       -- the loops change to their tracking gains (R102, R103)
  | dhold (r : SectRef) (up : Bool)   -- DHOLD over a mapped defect, as the ROM raises it (R159)
  | spanEnd (r : SectRef)       -- the end of the postamble
  | close (r : SectRef)         -- the read capture closes, 64 bits after SM2
  deriving DecidableEq, Repr

/-- A timed position: the data window, counted since reset, and the data bit in it. -/
structure Timed where
  win : Nat
  pos : Nat
  item : TimedItem
  deriving DecidableEq, Repr

/-- The timing unit of a lane (R148 to R156). -/
structure Timing where
  winSeq : Nat            -- data windows started since reset
  wedge : Nat             -- WIN: the true wedge number of the window in progress
  excl : Bool             -- a wedge exclusion is in progress
  bitpos : Nat            -- the latest data bit of the window at which something happened
  winbits : Nat
  timed : List Timed      -- ordered by (win, pos)
  act : List SectRef      -- sectors whose span is in progress
  caps : List SectRef     -- sectors whose capture is open
  ag : Bool
  dhold : Bool
  holdFrom : Option (Nat × Nat) -- where the hold in force began (R103)
  wreq : Bool             -- the write-gate request
  wstop : Bool
  late : Bool
  starts : Nat            -- window starts since the word in progress began
  deriving DecidableEq, Repr

/-- A lane: its clock, its dispatches and its preamplifier fault input. -/
structure Lane where
  divInForce : Word       -- the divider in force (R42)
  divPending : Option Word
  next : Option Disp      -- fetched, not started
  cur : Option Disp       -- the dispatch in progress
  tails : List Disp       -- ended, sectors not all settled
  reports : List Report   -- formed, not written
  nextId : Nat
  cancelSeen : Bool       -- condition CANCEL (R143)
  paLow : Bool            -- Ln_PA_FLT_N is low
  wgate : Bool            -- Ln_WGATE
  wd : Option (Nat × List Byte)   -- the sector on Ln_WD_P/N: its physical sector address and its bytes (R125)
  deriving DecidableEq, Repr

/-- The timing unit after a reset. -/
def Timing.reset : Timing :=
  { winSeq := 0, wedge := 0, excl := true, bitpos := 0, winbits := 0, timed := [], act := [], caps := [], ag := false,
    dhold := false, holdFrom := none, wreq := false, wstop := false, late := false, starts := 0 }

/-- A lane after the cold reset (R39: D = 32.0). -/
def Lane.reset : Lane :=
  { divInForce := 0x00200000, divPending := none, next := none, cur := none, tails := [], reports := [], nextId := 0,
    cancelSeen := false, paLow := false, wgate := false, wd := none }

/-- A pinned sample slot (R109 to R112). -/
structure Pin where
  num : Nat               -- the slot, 0 to 3
  ref : SectRef
  auto : Bool             -- waiting for or in automatic recovery
  done : Bool             -- recovered, waiting for the DMA port to deliver it (R111)
  samples : List (Nat × Nat)  -- the raw samples of readers A and B (R109)
  found : SyncFound       -- the findings of the sync search
  cmd : Bool              -- a firmware deep decode has been issued for it
  deriving DecidableEq, Repr

/-- A firmware deep-decode command (R112). -/
structure DdJob where
  num : Nat
  ref : SectRef
  released : Bool               -- its slot has been released; it stops at the next iteration boundary (R111)
  glob : Nat
  weight : Nat                  -- the weighting mode in force (R101)
  done : Bool                   -- recovered, waiting for the DMA port (R113)
  slip : Bool
  deriving DecidableEq, Repr

/-- Who recovered a sector: on-the-fly decoding, the automatic recovery of a sample slot, or a firmware command on one with
the global iterations it ran (R108, R112, R120). -/
inductive ResultPath where
  | otf
  | auto (slot : Nat)
  | command (slot globals : Nat)
  deriving DecidableEq, Repr

/-- A decoded sector that waits for the channel DMA port, with the sync events its delivery posts: kind, shift and
sample slot (R119, R130); `deep` if deep decoding recovered it. -/
structure SectResult where
  ref : SectRef
  sync : List (Nat × Int × Nat)
  path : ResultPath
  deep : Bool
  deriving DecidableEq, Repr

/-- Word data in the write FIFO (R126): the sector it is for and whether its fetch ended in a bus error, and its bytes. -/
structure WData where
  idx : Nat
  dispId : Nat
  error : Bool
  data : List Byte
  deriving DecidableEq, Repr

/-- An entry of the sync event FIFO (R130). -/
structure SyncEvent where
  lo : Word
  hi : Word
  deriving DecidableEq, Repr

/-- A channel (R97 to R134). -/
structure Channel where
  headTab : List (Nat × Word)   -- index head × 2 + word; 0 where unlisted
  due : List SectRef            -- sampled, not decoded
  pins : List Pin               -- in pinning order
  job : Option DdJob            -- the firmware command in progress
  queued : Option DdJob
  results : List SectResult     -- decoded good, waiting for the DMA port
  sync : List SyncEvent
  wfifo : List WData
  defect : Bool                 -- the defect flag is up (R103)
  loops : Loops                 -- (R102)
  acq : Bool                    -- the loops run at their acquisition gains (R102)
  deriving DecidableEq, Repr

/-- A channel after the cold reset. -/
def Channel.reset : Channel :=
  { headTab := [], due := [], pins := [], job := none, queued := none, results := [], sync := [], wfifo := [], defect := false,
    loops := Loops.reset, acq := false }

/-- A track sequencer (R135 to R169). -/
structure Sequencer where
  word : BitVec 128             -- the word in progress
  par : BitVec 16               -- its parity as read
  pc : Nat                      -- its fetch address
  running : Bool                -- a word has been fetched since the last reset
  g : Vector Word 16
  z : Bool
  nf : Bool
  c : Bool
  stack : List Nat
  tmo : Bool
  alu : Word                    -- the word's ALU result
  aluDone : Bool
  evtDone : Bool
  cmdDone : Bool
  waitDone : Bool
  headOk : Bool
  headErr : Bool
  seekDone : Bool
  seekErr : Bool
  srvOfs : Nat                  -- SRV_OFS, bits [7:0]
  align : Word
  patch : List (Nat × (BitVec 128 × BitVec 16))  -- patch RAM words and parity; all zero where unlisted
  deriving DecidableEq, Repr

/-- A sequencer after the cold reset (R136). -/
def Sequencer.reset : Sequencer :=
  { word := 0, par := 0, pc := 0, running := false, g := Vector.replicate 16 0, z := false, nf := false, c := false,
    stack := [], tmo := false, alu := 0, aluDone := false, evtDone := false, cmdDone := false, waitDone := false,
    headOk := false, headErr := false, seekDone := false, seekErr := false, srvOfs := 0, align := 0, patch := [] }

/-- A servo engine (R170 to R201). -/
structure Servo where
  coef : List (Nat × Word)      -- banks and velocity profile (R174, R176)
  rro : List (Nat × Word)       -- index head × 768 + wedge (R177)
  bofs : List (Nat × Word)      -- index entry × 2 + word (R180)
  bank : Nat                    -- SRV_BANK as taken at the last sample boundary (R175)
  bankNow : Nat                 -- the bank in use since the last sample boundary (R175)
  vlim : Nat                    -- the velocity limit in SEEK, in tracks per sample × 65,536 (R176)
  cur : Int                     -- the VCM current command, in DAC units (R189)
  bias : Int                    -- the bias current that the estimator has found, in DAC units (R173, R186)
  rIdsar : Nat                  -- coil resistance of the Idsar image, mΩ (R197, R480)
  reader : Nat                  -- reader selected at the last HEAD: 0 A, 1 B
  target : Int                  -- target position, in 1/51,200 of track pitch (R179)
  offtrk : Int                  -- OFFTRK latched at the SEEK (R179)
  band : Int                    -- band offset latched at the SEEK, 1/256 of track pitch (R180)
  moved : Bool                  -- an ST to SRV_OFS moves the target at the next sample (R179)
  pos : Int                     -- position at the last good wedge, 1/2048 of track pitch (R172)
  dtrack : Nat
  seeking : Bool                -- a SEEK has been issued and has not ended
  pendingSeek : Bool            -- issued while SLOCK is 0 (R185)
  repeatUsed : Bool             -- the SEEK has been repeated (R184)
  check : Nat                   -- wedges still to be checked after a SEEK (R184)
  settle : Nat                  -- consecutive samples inside the settle window
  missed : Bool                 -- the last wedge was missed
  lastW : Option Nat            -- wedge number of the last good wedge in ACQUIRE
  wedge : Nat                   -- wedge number under the head, read or predicted
  shockIn : Bool                -- SHOCK_N active after filtering
  shockInh : Bool               -- the shock response holds the inhibit
  shockHold : Nat               -- samples since SHOCK_N went inactive, good without a break (R192)
  offRamp : Bool                -- the stack may be off the ramp (R182)
  loadTry : Nat                 -- the load in progress: 1 the first, 2 its repeat; 0 none (R195)
  retryLoad : Bool              -- the unload in progress belongs to a failed load (R195)
  retract : Bool                -- a hardware retract is in progress
  faultAfter : Bool             -- MODE reads FAULT when the retract ends (R182)
  partnerSeq : Nat              -- the partner's SEQ at the last sample (R190)
  partnerSame : Nat             -- samples since it changed
  deriving DecidableEq, Repr

/-- A servo engine after the cold reset. -/
def Servo.reset : Servo :=
  { coef := [], rro := [], bofs := [], bank := 0x3210, bankNow := 0, vlim := 0, cur := 0, bias := 0, rIdsar := 0, reader := 0, target := 0, offtrk := 0, band := 0, moved := false, pos := 0, dtrack := 0,
    seeking := false, pendingSeek := false, repeatUsed := false, check := 0, settle := 0, missed := false,
    lastW := none, wedge := 0, shockIn := false, shockInh := false, shockHold := 0, offRamp := false, loadTry := 0,
    retryLoad := false, retract := false, faultAfter := false, partnerSeq := 0, partnerSame := 0 }

/-- A Halyard frame that is due (R219 to R222). -/
inductive Frame where
  | headSel (h : Nat)           -- HEAD frame of the sequencer
  | bias (code : Nat)           -- LASER_BIAS of the new head
  | level (addr code : Nat)     -- a set-point frame: LASER_WR or STO_BIAS
  | sliderArm                   -- read of SLIDER_T of the arming sequence
  | check (addr : Nat) (again : Bool)   -- read of LASER_MON or STO_FREQ; `again`: the check's one repeat (R212)
  | sliderCheck                 -- read of SLIDER_T after a check
  | telemetry (addr : Nat)      -- a background read
  deriving DecidableEq, Repr

/-- An assist controller and its Halyard link (R202 to R225). -/
structure Assist where
  hdTab : List (Nat × Word)     -- index head × 8 + word
  zpTab : List (Nat × Word)     -- index head × 64 + zone
  model : List (Nat × Rat)      -- index head × 4 + state: x1, x2, x3 (R210)
  usum : List (Nat × Nat)       -- DSP cycles high, per head × 2 + (0: of 16 periods, 1: of 256)
  period : Nat                  -- model periods since reset, mod 256
  life : List (Nat × Nat)       -- index head × 4 + counter: ON_TIME and ENERGY in DSP cycles, RISES
  row : List Word               -- the head row latched at AST_ARM
  spz : Nat
  arming : Bool                 -- an arming sequence is in progress
  refused : Bool                -- the last AST_ARM was refused (R206)
  queue : List Frame            -- frames due, in request order
  repeated : Option Frame       -- a frame that failed and is due its repeat
  withdrawn : Bool              -- what asked for the frame to be repeated has since been withdrawn
  wire : Nat                    -- the bits that the last frame drove on the link (R219)
  sliderRead : Bool             -- SLIDER_T of the active head has been read (R215)
  agHead : Nat                  -- head for which Ln_AGATE last rose (R210, R218)
  spWas : Option Nat            -- the set-point in force before the one acknowledged in this period (R218)
  sinceSet : Nat                -- slots since the last set-point frame
  sinceCheck : Nat
  sp : Nat                      -- SP as computed (R211)
  deriving DecidableEq, Repr

/-- An assist controller after the cold reset. -/
def Assist.reset : Assist :=
  { hdTab := [], zpTab := [], model := [], usum := [], period := 0, life := [], row := [], spz := 0, arming := false,
    refused := false, queue := [], repeated := none, withdrawn := false, wire := 0,
    sliderRead := false, agHead := 0, spWas := none, sinceSet := 0, sinceCheck := 0, sp := 0 }

/-- The spindle engine (R226 to R258). -/
structure Spindle where
  padv : List (Nat × Word)      -- phase-advance table (R234)
  open_ : Bool                  -- all switches open (R227)
  tau : Int                     -- torque comparator (R231)
  phi : Bool                    -- flux comparator
  etNeg : Bool                  -- the last torque error was negative
  tRef : Int                    -- T_ref, 1/4,096 of 10 µN·m (R235)
  integ : Int                   -- the PI controller's integral part, in the same unit
  ramp : Nat                    -- periods of the ramp of R249 passed, 0 to 8
  tripped : Bool                -- the last period ended on a current trip (R235)
  senseBad : Bool               -- the last sample failed the current sum check (R228)
  stopping : Bool               -- the braking in progress belongs to a STOP (R242)
  startTry : Nat                -- the start in progress: 1 the first, 2 its repeat; 0 none (R246)
  alignTry : Nat                -- ALIGN sequences that were indeterminate (R245)
  losOnce : Bool                -- a loss of synchronism within the last 10 s driven (R239)
  inBand : Nat                  -- consecutive revolutions within ±0.05% of SPD_REF (R240)
  outBand : Nat                 -- consecutive revolutions outside ±0.1%
  dir : Bool                    -- DIR in force (R233, R248)
  stageIn : Bool                -- SP_FLT_N active after filtering
  chopRise : Nat                -- bus voltage when SP_CHOP rose (R249)
  ticks : Nat                   -- periods since the mode was entered
  next : Option Nat             -- the vector from the next boundary on; none: all switches open (R230)
  was : Option Nat              -- the vector in force before the one in force now (R226)
  inj : Option Nat              -- the test vector that begins the period in progress (R237)
  nextInj : Option Nat          -- the test vector that begins the next period
  injCnt : Nat                  -- periods since the last injection
  injOpp : Bool                 -- the next injection is along the opposite vector
  cur : Int × Int               -- the current vector of the last sample, mA
  rise : Int × Int              -- the current rise of the last injection along the rotor axis and across it, mA
  psi : Int × Int               -- the stator flux vector estimated, pWb (R236)
  fluxOut : Nat                 -- periods with |ψ| outside 50% to 150% of FLUX_REF (R239)
  angOut : Nat                  -- periods with the two angles more than 30° apart
  clampFall : Nat               -- steps of the speed loop with T_ref at its clamp and the speed falling
  speedLost : Bool              -- AT_SPEED has cleared outside STOP and power loss (R255)
  deriving DecidableEq, Repr

/-- The spindle engine after the cold reset. -/
def Spindle.reset : Spindle :=
  { padv := [], open_ := true, tau := 0, phi := false, etNeg := false, tRef := 0, integ := 0, ramp := 0, tripped := false,
    senseBad := false, stopping := false, startTry := 0, alignTry := 0, losOnce := false, inBand := 0, outBand := 0,
    dir := false, stageIn := false, chopRise := 0, ticks := 0, next := none, was := none, inj := none, nextInj := none, injCnt := 0,
    injOpp := false, cur := (0, 0), rise := (0, 0), psi := (0, 0), fluxOut := 0, angOut := 0, clampFall := 0, speedLost := false }

/-- An entry of the correction history (R276): in use when listed. -/
structure Hist where
  line : Nat
  wb : Bool
  count : Nat
  lap : Nat                     -- lap mod 256
  pin : Nat
  deriving DecidableEq, Repr

/-- A suspended DMA and the fields of its state record (R269, R270). -/
structure DmaCtx where
  preempted : Bool              -- KIND 10b; else 01b, a translation fault
  req : Nat                     -- REQ
  tag : Nat
  hdl : Nat
  moved : Nat
  left : Nat
  gen : Nat
  kslot : Nat
  peer : Nat
  deriving DecidableEq, Repr

/-- The buffer unit (R259 to R288): what no register holds. -/
structure Buffer where
  poisoned : List Nat                   -- lines stored with the poison pattern (R264)
  flips : List (Nat × (Nat × Nat))      -- pins stored wrong by injection, per line: codeword 0, codeword 1 (R285)
  sramBad : List Nat                    -- SRAM bytes stored with wrong parity by injection (R285)
  hist : List (Nat × Hist)              -- correction history (R276)
  wbq : List Nat                        -- lines whose write-back is due (R277)
  events : List (Word × Word)           -- event FIFO, 32 entries
  notices : List Word                   -- fault notices, oldest first (R269)
  ctxs : List (Nat × DmaCtx)            -- suspended contexts
  ret : Option (Nat × Nat)              -- retirement in progress: handle, spare page (R282)
  range : Option (Nat × Nat)            -- range pass in progress: first and last page (R280)
  deriving DecidableEq, Repr

/-- The buffer unit after the cold reset. -/
def Buffer.reset : Buffer :=
  { poisoned := [], flips := [], sramBad := [], hist := [], wbq := [], events := [], notices := [], ctxs := [],
    ret := none, range := none }


/-- Zone states (R293). -/
inductive ZState where
  | empty | implOpen | explOpen | closed | full | readOnly | offline
  deriving DecidableEq, Repr

/-- A zone (R292 to R296); `wp` and `mp` count blocks from the zone start. -/
structure Zone where
  st : ZState
  wp : Nat
  mp : Nat
  void : List (Nat × Nat)       -- void runs: first block of the zone, count (R296)
  last : Nat                    -- fetch order of the write last accepted (R293)
  fin : Option Nat              -- after a Finish, the WP it found: the blocks from there on read as unwritten (R297)
  slips : List (Nat × Nat)      -- band-relative track and sector of the first sector left unwritten, as they arose (R291)
  writer : Option Nat           -- the head that last wrote the band (R92)
  offset : Option Int           -- the band's offset, as its alignment read measured it (R92, R94)
  spent : Bool                  -- the band needs a third slip: it can take no more blocks (R95, R299)
  deriving DecidableEq, Repr

/-- A zone after its namespace has been created. -/
def Zone.reset : Zone := {
  st := .empty, wp := 0, mp := 0, void := [], last := 0, fin := none, slips := [], writer := none,
  offset := none, spent := false }

/-- A namespace (R289). -/
structure Namespace where
  nsid : Nat
  zoned : Bool
  size : Nat                    -- logical blocks
  ms : Nat                      -- metadata bytes per block: 0, 8 or 16
  pi : Nat                      -- protection information type, 0 for none
  kpio : Bool                   -- Key Per I/O is enabled (R442)
  ana : Nat                     -- ANA group, 1 to 32 (R371)
  attached : List Nat           -- functions
  bands : List Band             -- each zone's band, or the physical band that holds each logical band (R292, R304)
  lens : List Nat               -- each zone's capacity, or each logical band's length (R292, R304)
  free : List Band              -- the free physical bands (R305)
  dulbe : List Nat              -- functions with Deallocated or Unwritten Logical Block Error on (R296)
  deriving DecidableEq, Repr

/-- A cached run of the media cache (R306). -/
structure CacheRun where
  nsid : Nat
  lba : Nat
  len : Nat
  pos : Nat                     -- position in the log
  seq : Nat                     -- sequence number
  deriving DecidableEq, Repr

/-- An entry of the reallocation table, or one that waits for its slot to be written (R300, R301). -/
structure Realloc where
  nsid : Nat
  lba : Nat
  slot : Nat
  valid : Bool
  deriving DecidableEq, Repr

/-- The compaction in progress (R307). -/
structure Compaction where
  nsid : Nat
  lband : Nat                   -- the logical band
  target : Band
  s : Nat                       -- S: the highest sequence number when it began
  done : Nat                    -- blocks reported written in the target
  deriving DecidableEq, Repr

/-- What firmware keeps, in DRAM and in drive metadata, of where blocks rest (R300, R301, R306, R307). -/
structure Place where
  area : List Strip             -- the reallocation area
  logArea : List Strip          -- the media cache's log
  moved : List Realloc          -- the reallocation table
  log : List CacheRun           -- the media cache index, oldest first
  logPos : Nat                  -- the head of the log
  seq : Nat                     -- the last sequence number given
  comp : Option Compaction
  rewritten : List (Nat × (Nat × Nat))   -- sectors of the conventional region rewritten in place: surface, track, sector
  dropped : List (Nat × (Nat × Nat))     -- sectors of it no longer used
  deriving DecidableEq, Repr

/-- Before drive metadata has been read. -/
def Place.empty : Place :=
  { area := [], logArea := [], moved := [], log := [], logPos := 0, seq := 0, comp := .none, rewritten := [], dropped := [] }

/-- A granule as the vault holds it, with its tag (R315). -/
structure SavedGran where
  nsid : Nat
  lba : Nat
  poison : Bool
  data : List Byte
  deriving DecidableEq, Repr

/-- An unconsumed save in an area (R315). -/
structure Save where
  seq : Nat
  planned : Nat
  partialSave : Bool
  grans : List SavedGran
  zones : List (Nat × Zone)
  lost : List (Nat × Nat)       -- lost list: namespace, LBA (R318)
  deriving DecidableEq, Repr

/-- The vault (R314 to R321): what no register holds. -/
structure Vault where
  saveA : Option Save
  saveB : Option Save
  saving : Option Save          -- the save in progress
  repeated : Bool               -- the page program in progress is the repeat of R317
  lost : List (Nat × Nat)       -- the lost list in force (R318)
  erasing : List Nat            -- the areas to be erased, the first in progress (R314, R320)
  stopped : Bool                -- the save has ended and PFAIL_N is still low (R319)
  deriving DecidableEq, Repr

/-- The vault after the cold reset: its NAND holds nothing. -/
def Vault.reset : Vault :=
  { saveA := none, saveB := none, saving := none, repeated := false, lost := [], erasing := [], stopped := false }


/-- The states of a command slot (R324). -/
inductive SlotState where
  | free | taken | lockwait | fast | work | done | aborted | drain | discard
  deriving DecidableEq, Repr

/-- A range-lock entry (R337). -/
structure RangeLock where
  nsid : Nat
  first : Nat
  count : Nat
  write : Bool
  deriving DecidableEq, Repr

/-- A completion's status: one that the device names, or the status field of a pool's ring entry (R333). -/
inductive CStatus where
  | named (st : NvmeStatus) | raw (w : Nat)
  deriving DecidableEq, Repr

/-- A completion: dwords 0 and 1 and the status. -/
structure Cpl where
  dw0 : Word
  dw1 : Word
  status : CStatus
  deriving DecidableEq, Repr

/-- A command slot that is not FREE (R324). -/
structure Slot where
  st : SlotState
  fn : Nat
  sqid : Nat
  cid : Nat
  sqe : Sqe
  order : Nat                   -- fetch order
  ordered : Bool                -- its queue was ordered when it was taken (R351)
  lock : Option RangeLock       -- its range-lock entry, if it holds one
  waitedEntry : Bool            -- has waited in TAKEN for a lock entry (REASON 05h)
  waitedLock : Bool             -- has waited in LOCKWAIT (REASON 02h)
  lba : Nat                     -- the first block, as assigned for a Zone Append
  granules : List (Nat × Nat)   -- runs (first handle, count) reserved by a write
  filled : Nat                  -- granules filled by host DMA
  inserted : Bool
  ringOwed : Bool               -- the pool still owes its completion-ring entry (R326)
  beats : Nat                   -- DMA beats outstanding
  placed : Bool                 -- handed over to a pool, or waiting for a work ring
  cpl : Option Cpl              -- the completion committed, not yet posted
  bound : Option (Nat × Nat)    -- the key slot and generation bound (R430)
  kept : Bool                   -- the slot kept for admin commands (R331)
  decoded : Bool                -- decoded and checked
  acted : Bool                  -- a zone action that has taken effect (R297)
  snap : List (Nat × (Nat × Nat))  -- dirty blocks a Flush waits for: namespace index, LBA, count (R345)
  seqno : Nat                   -- order of the commit point among all commands
  pool : Option (Fin 2)         -- the pool whose work ring it was placed in, or that has taken it over (R332, R456)
  deriving DecidableEq, Repr

/-- A dual-issue tracker (R85 to R87). -/
structure Tracker where
  slot : Nat
  epoch : Nat
  bits : List Nat               -- sectors delivered
  count : Nat
  seen : List Nat               -- lanes whose leg it has held
  active : List Nat             -- lanes whose leg has not ended
  deriving DecidableEq, Repr

/-- A retired epoch of a slot and the lanes that still owe the acknowledgement of its cancel (R80, R83). -/
structure Cancel where
  slot : Nat
  epoch : Nat
  lanes : List Nat
  deriving DecidableEq, Repr

/-- A submission queue (R327, R328). -/
structure Sq where
  fn : Nat
  sqid : Nat
  cqid : Nat
  size : Nat
  sram : Bool                   -- in the Controller Memory Buffer (R328)
  ordered : Bool
  prio : Nat                    -- 0 urgent, 1 high, 2 medium, 3 low; used under weighted round robin (R330)
  head : Nat
  tail : Nat
  fetched : Nat                 -- index of the next entry to fetch
  base : Nat                    -- its address, where it lies in the Controller Memory Buffer
  entries : List Sqe            -- fetched from host memory, not taken
  held : Bool                   -- held by an Ordered Barrier (R342)
  deriving DecidableEq, Repr

/-- A completion queue. -/
structure Cq where
  fn : Nat
  cqid : Nat
  size : Nat
  vector : Option Nat           -- none: its interrupts are not enabled
  tail : Nat                    -- next entry to write
  phase : Bool                  -- phase tag of the pass in progress
  deriving DecidableEq, Repr

/-- An entry of the buffer extent table (R338). -/
structure Extent where
  dirty : Bool
  nsx : Nat
  slba : Nat
  lenM1 : Nat
  handle : Nat
  src : Option (Nat × Nat)      -- the queue whose write it holds: function, SQID (R342)
  deriving DecidableEq, Repr

/-- A work entry that waits for a ring (R332). -/
structure WorkEntry where
  sqe : Sqe
  slot : Nat
  fn : Nat
  sqid : Nat
  reason : Nat
  kind : Nat
  handle : Nat
  count : Nat
  deriving DecidableEq, Repr

/-- A transfer on a host DMA channel (R348). -/
structure Transfer where
  slot : Nat
  handle : Nat                  -- the next granule's handle
  since : Nat                   -- granules moved since it last started
  moved : Nat                   -- granules moved in all
  left : Nat                    -- granules remaining
  toHost : Bool
  peer : Nat                    -- host address of the next granule
  deriving DecidableEq, Repr

/-- A completion entry written to the host (R333): its completion queue and place there, the submission queue and its
head, the command, the phase tag, and dwords 0 and 1 with the status. -/
structure Posted where
  fn : Nat
  cqid : Nat
  index : Nat
  sqid : Nat
  sqhd : Nat
  cid : Nat
  phase : Bool
  cpl : Cpl
  deriving DecidableEq, Repr

/-- The command engine (R324 to R356, R569). -/
structure CmdEngine where
  slots : List (Nat × Slot)             -- the slots that are not FREE
  epochs : List (Nat × Nat)             -- 0 where unlisted
  cancels : List Cancel
  trackers : List Tracker
  legMark : List Nat                    -- slots owing one leg (R85)
  nextOrder : Nat
  sqs : List Sq
  cqs : List Cq
  freeRuns : List (Nat × Nat)           -- the free-run list (R339)
  exts : List (Nat × Extent)            -- valid entries of the extent table
  idle : List (Nat × Extent)            -- words of entries freed by firmware, as last written (R355)
  staged : List (Nat × Word)            -- staging copy of words 1 to 3 (R355)
  quota : List (Nat × Word)             -- CMD_FN_QUOTA per function
  arb : List (Nat × Word)               -- CMD_FN_ARB per function
  workQ : List WorkEntry                -- waiting for a work ring
  abt : List (Nat × (Word × Word))      -- CMD_ABT_KEY and CMD_ABT_RES per requesting engine (R343)
  dma : List (Nat × Transfer)           -- transfers on the 16 channels
  dmaWait : List Transfer               -- resumed transfers that wait for a channel
  nextSeqno : Nat
  posted : List Posted                  -- completion entries posted, oldest first
  stopped : Bool                        -- PFAIL_N accepted: no fetch, no completion (R316)
  twin : List (Nat × Word)              -- Twin Read Policy per namespace (R350)
  deriving DecidableEq, Repr

/-- The command engine after the cold reset. -/
def CmdEngine.reset : CmdEngine :=
  { slots := [], epochs := [], cancels := [], trackers := [], legMark := [], nextOrder := 0, sqs := [], cqs := [],
    freeRuns := [], exts := [], idle := [], staged := [], quota := [], arb := [], workQ := [], abt := [], dma := [],
    dmaWait := [], nextSeqno := 0, posted := [], stopped := false, twin := [] }

/-- An asynchronous event: type, information and log page (R536). -/
structure AsyncEvent where
  typ : Nat
  info : Nat
  page : Nat
  deriving DecidableEq, Repr

/-- An entry of the Error Information log (R535). -/
structure ErrEntry where
  count : Nat
  sqid : Nat
  cid : Nat
  status : CStatus
  lba : Nat
  nsid : Nat
  deriving DecidableEq, Repr

/-- A controller (R360): one per function. -/
structure Ctrl where
  en : Bool                     -- CC.EN
  rdy : Bool                    -- CSTS.RDY
  cfs : Bool                    -- CSTS.CFS (R368)
  shn : Nat                     -- CSTS.SHST: 0 normal, 2 complete
  nq : Nat                      -- submission queues granted (R363); 0 before a grant
  ncq : Nat                     -- completion queues granted (R363); 0 before a grant
  wce : Bool                    -- volatile write cache enabled (R311)
  wrr : Bool                    -- weighted round robin with urgent class is selected in CC.AMS (R330)
  coal : Word                   -- Interrupt Coalescing: aggregation threshold [7:0], time [15:8] (R366)
  agg : List (Nat × Nat)        -- vectors with aggregated completions: vector, count
  aers : List Nat               -- outstanding Asynchronous Event Requests, by CID
  events : List AsyncEvent      -- pending, oldest first
  held : List AsyncEvent        -- raised and held until their log page is read (R536)
  errs : List ErrEntry          -- newest first, 256 at most
  errCount : Nat
  anaCount : Nat                -- ANA log change count (R372)
  deriving DecidableEq, Repr

/-- A controller after reset. -/
def Ctrl.reset : Ctrl :=
  { en := false, rdy := false, cfs := false, shn := 0, nq := 0, ncq := 0, wce := true, wrr := false, coal := 0, agg := [], aers := [],
    events := [], held := [], errs := [], errCount := 0, anaCount := 0 }

/-- The message control of a function's PCI configuration and its MSI-X table: off while MSI-X Enable is clear, the vectors
masked, and those pending in the PBA (R362, R366). -/
structure Msix where
  off : Bool
  masked : List Nat
  pba : List Nat
  deriving DecidableEq, Repr

/-- A function's message control and table as the host's enumeration leaves them after a reset: on, nothing masked, nothing
pending (DESIGN CHOICE, log entry 120: the table of operations has no row for a configuration write). -/
def Msix.reset : Msix := { off := false, masked := [], pba := [] }

/-- A port: what no register holds (R358 to R372). -/
structure Port where
  numVfs : Nat                  -- VFs that exist: NumVFs while VF Enable is set (R361)
  perst : Bool                  -- PE_PERSTn_N is low
  zeroing : Bool                -- its Controller Memory Buffer is being zeroed (R365)
  fnCfg : List (Nat × Word)     -- PEP_FN_CFG per function; the default of R363 where unlisted
  ana : List (Nat × Nat)        -- state per ANA group minus 1; Optimized where unlisted (R371)
  deriving DecidableEq, Repr

/-- A port after the cold reset. -/
def Port.reset : Port := { numVfs := 0, perst := true, zeroing := false, fnCfg := [], ana := [] }

/-- The management endpoint (R373 to R376). -/
structure Mgmt where
  eid : Nat                     -- MCTP endpoint ID; 0 for the null ID
  config : List (Nat × Nat)     -- NVMe-MI configuration values
  alert : Bool                  -- SMB_ALERT_N asserted
  changes : Nat                 -- change flags of the health status
  busBusy : Bool                -- the SMBus interface holds SMB_DAT
  deriving DecidableEq, Repr

/-- The management endpoint after the cold reset. -/
def Mgmt.reset : Mgmt := { eid := 0, config := [], alert := false, changes := 0, busBusy := false }

/-- What hosts and pool firmware hold of namespaces, controllers and media (R289, R360). -/
structure Hosts where
  namespaces : List Namespace
  zones : List (Nat × Zone)     -- by namespace × 2^20 + zone; a fresh zone where unlisted
  ctrls : List (Nat × Ctrl)     -- by function; reset where unlisted
  ports : Vector Port 2
  mgmt : Mgmt
  msix : List (Nat × Nat)       -- MSI-X messages sent: function, vector, oldest first
  msixTab : List (Nat × Msix)   -- MSI-X control and table per function (R362, R366)
  freeBands : List Band         -- the bands that belong to no namespace (R289)
  spareSlots : Nat              -- free reallocation slots (R300)
  allSlots : Nat
  place : Place                 -- where blocks rest on media (R300, R306)
  crit : Nat                    -- Critical Warning bits that hold (R537)
  life : List (Nat × Nat)       -- life counters as last persisted (R545, R547)
  lifeRead : List (Nat × Nat)   -- their source registers at that moment (R546)
  counts : List (Nat × Nat)     -- what the firmware-fed life counters have counted since they were persisted (R545, R547)
  clean : Bool                  -- a shutdown notification has completed since the start (R545)
  thermEvent : Bool             -- a thermal shutdown has ended and no start has served since (R536)
  deriving DecidableEq, Repr

/-- The hosts' side after the cold reset. -/
def Hosts.reset : Hosts :=
  { namespaces := [], zones := [], ctrls := [], ports := Vector.replicate 2 Port.reset, mgmt := Mgmt.reset, msix := [], msixTab := [],
    freeBands := [], spareSlots := 0, allSlots := 0, place := Place.empty, crit := 0, life := [], lifeRead := [], counts := [],
    clean := false, thermEvent := false }


/-- The caches (R394): by core for L1I, L1D and victim, by pool for L2. -/
inductive CacheId where
  | l1i (c : Nat) | l1d (c : Nat) | victim (c : Nat) | l2 (p : Nat)
  deriving DecidableEq, Repr

/-- A line held in a cache (R394); `line` is the address divided by 64. -/
structure CLine where
  cache : CacheId
  way : Nat
  line : Nat
  dirty : Bool
  bad : Bool                    -- its dirty bytes have a lasting parity error (R398)
  data : List Byte              -- a copy that may be stale (L1I, NOR lines); of a dirty line, memory proper
  deriving DecidableEq, Repr

/-- A message of a mailbox (R393). -/
structure Message where
  lo : Word
  hi : Word
  sender : Nat
  deriving DecidableEq, Repr

/-- A pool: what no register holds (R381 to R414). -/
structure Pool where
  fifo : List Message           -- oldest first
  reserved : List Nat           -- engines that hold a reservation
  low : List (Nat × Word)       -- low words held per engine
  cmo : Option Nat              -- maintenance command in progress: its OP (R405)
  l2Held : Bool                 -- a write setting L2_EN is held (R407)
  l1Held : List Nat             -- cores with a held write of L1D_EN (R406)
  locked : List (CacheId × (Nat × Nat))  -- locked-out ways: cache, set, way (R400)
  tcmBad : List Nat             -- TCM words stored with a lasting parity error, keyed as `State.tcm` (R398)
  deriving DecidableEq, Repr

/-- A pool after the cold reset. -/
def Pool.reset : Pool :=
  { fifo := [], reserved := [], low := [], cmo := none, l2Held := false, l1Held := [], locked := [], tcmBad := [] }

/-- The interrupt router (R388 to R392). -/
structure Router where
  route : List (Nat × Word)     -- DEV_IRQ_ROUTE per source; 0 where unlisted
  service : List (Nat × Nat)    -- sources in service and the core that claimed each
  delivered : List (Nat × Nat)  -- sources delivered and not claimed, with the target
  deriving DecidableEq, Repr

/-- The router after the cold reset. -/
def Router.reset : Router := { route := [], service := [], delivered := [] }


/-- A change of a key slot that is held or not yet complete (R431): an erase or a rewrite, and the request it belongs to:
channel and descriptor address. -/
structure KeyOp where
  erase : Bool
  chan : Nat
  addr : Nat
  deriving DecidableEq, Repr

/-- A media key slot without its key material (R428, R431). -/
structure KeySlot where
  loaded : Bool
  cur : Nat
  old : Option Nat
  inProg : Option KeyOp         -- the change whose old generation is not yet zeroised
  held : Option KeyOp           -- PENDING
  deriving DecidableEq, Repr

/-- A key slot after the cold reset: zeroised. -/
def KeySlot.reset : KeySlot := { loaded := false, cur := 0, old := none, inProg := none, held := none }

/-- A locking range, by the media slot of its key (R429, R442). -/
structure LockRange where
  nsid : Nat
  first : Nat
  count : Nat
  rlock : Bool
  wlock : Bool
  deriving DecidableEq, Repr

/-- A cipher message (R437, R438). -/
structure CMsg where
  id : Nat
  key : Nat                     -- key slot
  gen : Nat
  prio : Nat
  level : Option Nat            -- the cap level that it started under, once it has started (R60)
  deriving DecidableEq, Repr

/-- An AES round engine (R434 to R438). -/
structure RoundEngine where
  run : Option CMsg
  susp : List CMsg              -- the most recently suspended first
  out : Bool                    -- out of service
  keys : List (Nat × Nat)       -- the expanded keys cached: slot and generation, at most four (R435)
  deriving DecidableEq, Repr

/-- A round engine at rest. -/
def RoundEngine.idle : RoundEngine := ⟨none, [], false, []⟩

/-- An SPDM session and its key slots (R376, R433). -/
structure Session where
  id : Nat
  slots : List Nat
  counter : Nat                 -- invocation counter (R439)
  finished : Bool
  deriving DecidableEq, Repr

/-- A request that a channel holds (R420). -/
structure HzlReq where
  addr : Nat
  held : Bool                   -- set aside while a zeroisation is due (R422)
  deriving DecidableEq, Repr

/-- The enclave (R415 to R446): what no register holds. -/
structure Enclave where
  reqs : Vector (List HzlReq) 3
  turn : Nat                    -- the channel whose turn it is (R422)
  owed : List (Nat × Message)   -- completion messages that wait for a mailbox entry: pool, message (R423)
  keys : List (Nat × KeySlot)   -- by media slot
  ranges : List (Nat × LockRange)
  engines : List (Nat × RoundEngine)  -- idle and in service where unlisted
  waiting : List CMsg           -- in priority order
  sessions : List Session
  meas : List (Nat × List Byte) -- SPDM measurements by index
  sealVer : Nat                 -- current sealing key version
  sealCtr : Nat                 -- its invocation counter
  block : Nat                   -- the counter block confirmed for use (R440)
  seqRsv : Nat                  -- SEQ of the last reservation record
  standing : Option Nat         -- the service core's standing RSV_WAIT: its descriptor
  asked : Bool                  -- the next block's record has been given and not confirmed
  generate : Nat                -- DRBG generate calls since the last reseed (R418)
  entropyBad : Bool             -- FAULT until the next cold start (R418)
  tested : Bool                 -- the self-tests have ended
  deriving DecidableEq, Repr

/-- The enclave after the cold reset. -/
def Enclave.reset : Enclave :=
  { reqs := Vector.replicate 3 [], turn := 0, owed := [], keys := [], ranges := [], engines := [], waiting := [],
    sessions := [], meas := [], sealVer := 0, sealCtr := 0, block := 0, seqRsv := 0, standing := none, asked := false,
    generate := 0, entropyBad := false, tested := false }


/-- A live handover, its probation or a revert (R455 to R466). -/
structure Handover where
  fn : Nat                      -- the controller that committed the firmware
  cid : Nat                     -- its command
  slotO : Nat
  slotN : Nat
  step : Nat                    -- 3 and 6 wait for READY of pool 1 and pool 0; 7 probation (R455)
  back : Bool                   -- the images that are loaded are O again: a revert, or pool 1's return (R460, R464)
  owed : Bool                   -- the Firmware Commit has not completed
  result : Nat                  -- RESULT of the revert in progress, or 0 (R471)
  samples : Nat                 -- heartbeat samples since probation began (R463)
  miss0 : Nat                   -- samples in a row that found HB0 clear
  miss1 : Nat
  defaulted : Bool              -- N found no readable settings record and runs on defaults (R468)
  deriving DecidableEq, Repr

/-- The settings in force (R467, R468). -/
structure Settings where
  fmt : Nat                     -- FMT of the record found or saved last
  seq : Nat                     -- its SEQ
  entries : List (Nat × List Byte)  -- ID and value of each entry
  deriving DecidableEq, Repr

/-- Default settings, with no record found (R468). -/
def Settings.none : Settings := { fmt := 0, seq := 0, entries := [] }

/-- The service core's own state (R447 to R503): staging area, start and activation. -/
structure Service where
  staged : List (Nat × Byte)    -- staging area: offset, byte (R449)
  stagedLen : Nat               -- end of its highest piece
  handover : Option Handover
  strapBoot : Nat               -- STRAP_BOOT as sampled (R472)
  fallback : Bool               -- the image booted is a fallback image (R495)
  chrysalis : Bool              -- Chrysalis mode (R496)
  world : StartWorld            -- what the start in progress finds outside the device
  idsarTry : List Nat           -- the Idsar locations that this start tries (R483)
  smbAddr : Nat                 -- the Idsar image's SMBus address (R373, R480)
  budget : Nat                  -- event log budget left (R544)
  budgetAt : Nat                -- power-on seconds of its last refill
  crits : List Nat              -- power-on seconds of the severity 3 records admitted (R544)
  suppressed : Nat              -- records refused since the last one admitted
  settings : Settings           -- the settings in force (R467, R468)
  defaulted : Bool              -- the image that serves runs on defaults (R468)
  xfer : Option (Nat × Nat)     -- the state transfer area in use: its address and its records (R458)
  xferSeq : Nat                 -- SEQ of its header (R458)
  deriving DecidableEq, Repr

/-- The service core's state after the cold reset. -/
def Service.reset : Service :=
  { staged := [], stagedLen := 0, handover := none, strapBoot := 0, fallback := false, chrysalis := false,
    world := StartWorld.none, idsarTry := [], smbAddr := 0, budget := 1024, budgetAt := 0, crits := [], suppressed := 0,
    settings := Settings.none, defaulted := false, xfer := none, xferSeq := 0 }


/-- The housekeeping unit: what no register holds (R504 to R530). -/
structure House where
  readings : List (Nat × (Bool × Int))  -- last sample per channel: in range, value
  data : List (Nat × Word)      -- HKP_CH_DATA per channel
  lims : List (Nat × Word)      -- HKP_CH_LIM per channel; 0x7FFF8000 where unlisted
  excluded : List Nat           -- sensors excluded from the fast path (R507)
  above155 : List (Nat × Nat)       -- consecutive fast samples at or above 155 °C, per sensor (R516)
  peak : Int                    -- highest fast-path reading (R520)
  trig : Nat                    -- sensor that triggered (R520)
  tripped : Bool                -- THERM_TRIP_N is low (R516, R517)
  roundLate : Bool              -- no round has completed for 100 ms (R514)
  dieLevel : Nat                -- L_d as computed, before R514
  drvLevel : Nat                -- level from the drive-internal temperature (R512)
  paLevel : Nat                 -- level from the preamplifiers
  gpio : List (Nat × Word)      -- HKP_GPIO_CFG per pin
  gpioMerged : List (Nat × Nat) -- merged assertions since the last message, per pin (R526)
  shockMask : Bool              -- SHOCK_N is masked (R523)
  pfailRaw : Bool               -- PFAIL_N is active
  shockFilt : Bool              -- SHOCK_N's filtered level, masked or not (R521)
  ponRound : Nat                -- HKP_PON at the last round (R520)
  peakRound : Int               -- PEAK at the last round (R520)
  deriving DecidableEq, Repr

/-- The housekeeping unit after the cold reset. -/
def House.reset : House :=
  { readings := [], data := [], lims := [], excluded := [], above155 := [], peak := 0, trig := 0xFF, tripped := false,
    roundLate := false, dieLevel := 0, drvLevel := 0, paLevel := 0, gpio := [], gpioMerged := [], shockMask := false,
    pfailRaw := false, shockFilt := false, ponRound := 0, peakRound := 0 }


/-- The machine never stops with a fault: every command of the spec has an effect, a refusal of its own that the spec
describes (a bus error, a status), or none because its event cannot arise (DESIGN CHOICE, log entry 3). The one constructor is
raised by no meaning. -/
inductive Fault where
  /-- Raised by no meaning; safe. -/
  | unused
  deriving DecidableEq, Repr

/-- Why a command has no meaning. -/
inductive Refusal where
  /-- An arm that has no meaning yet, by its mnemonic; raised by `exec` only; safe. -/
  | notModelled (mnemonic : String)
  deriving DecidableEq, Repr


/-- The machine: every register, table, queue and counter that the spec gives it, and the commands that wait. -/
structure State where
  /-- The registers that differ from their reset value, by unit number × 0x1000 + offset (R8). -/
  regs : List (Nat × Word)
  /-- Memory bytes that differ from what an unlisted address reads as (R31). -/
  mem : List Host.Cell
  /-- Clock, reset and power of the device group. -/
  dev : Device
  /-- The lanes. -/
  lanes : Vector Lane 4
  /-- Their timing units. -/
  timing : Vector Timing 4
  /-- Their track sequencers. -/
  seqs : Vector Sequencer 4
  /-- Their channels. -/
  chns : Vector Channel 4
  /-- Their servo engines. -/
  srvs : Vector Servo 4
  /-- Their assist controllers. -/
  asts : Vector Assist 4
  /-- MED_HEAD_DATA of the 48 heads; 0 where unlisted (R90). -/
  heads : List (Nat × Word)
  /-- The spindle engine.. -/
  spn : Spindle
  /-- The buffer unit. -/
  buf : Buffer
  /-- The command engine. -/
  cmd : CmdEngine
  /-- The power-loss vault. -/
  vault : Vault
  /-- Namespaces, controllers, ports and the management endpoint. -/
  hosts : Hosts
  /-- The lines held in the caches (R394). -/
  lines : List CLine
  /-- Tightly-coupled memory words that are not zero, by (engine × 2 + data) × 2^15 + word (R382). -/
  tcm : List (Nat × Word)
  /-- The core pools. -/
  pools : Vector Pool 2
  /-- The interrupt router. -/
  irq : Router
  /-- The enclave. -/
  hzl : Enclave
  /-- The service core. -/
  svcs : Service
  /-- The housekeeping unit. -/
  house : House
  /-- The answer to the last command. -/
  resp : Resp
  /-- The model's own: how many free values have been used (DESIGN CHOICE, log entry 1). -/
  freeCtr : Nat
  /-- The commands that wait, first in first out. -/
  pending : List Instr
  deriving DecidableEq, Repr

/-- The machine right after the cold reset: every register at its reset value (R7), memory with nothing listed. -/
def State.reset : State :=
  { regs := [],
    mem := [],
    dev := Device.reset,
    lanes := Vector.replicate 4 Lane.reset,
    timing := Vector.replicate 4 Timing.reset,
    seqs := Vector.replicate 4 Sequencer.reset,
    chns := Vector.replicate 4 Channel.reset,
    srvs := Vector.replicate 4 Servo.reset,
    asts := Vector.replicate 4 Assist.reset,
    heads := [],
    spn := Spindle.reset,
    buf := Buffer.reset,
    cmd := CmdEngine.reset,
    vault := Vault.reset,
    hosts := Hosts.reset,
    lines := [],
    tcm := [],
    pools := Vector.replicate 2 Pool.reset,
    irq := Router.reset,
    hzl := Enclave.reset,
    svcs := Service.reset,
    house := House.reset,
    resp := .none,
    freeCtr := 0,
    pending := [] }

end Sys2Proof.Machine
end

