-- ==== Sys2Proof/Machine/Ops.lean ====
section
/-! DEFINITION. The named operations: the unit tree, registers and their fields, unit states and errors, memory, free
values.  Every meaning is written over these. -/

namespace Sys2Proof

open Machine

/-! ### The unit tree (R8, R10, R22, R23) -/

/-- The unit number: class in [11:8], instance in [7:0] (R10, R23). -/
def UnitId.num : UnitId → Nat
  | .dev => 0x000 | .hostg => 0x001 | .med => 0x100
  | .piv p => 0x200 + p.val | .lane n => 0x300 + n.val
  | .chn n => 0x400 + n.val | .tsq n => 0x500 + n.val | .srv n => 0x600 + n.val | .ast n => 0x700 + n.val
  | .spn => 0x800 | .buf => 0x900 | .cmd => 0xA00
  | .pep p => 0xB00 + p.val | .pool p => 0xC00 + p.val
  | .hzl => 0xD00 | .hkp => 0xE00 | .svc => 0xF00

/-- The numbers 0 to 3. -/
def lanes4 : List (Fin 4) := [0, 1, 2, 3]

/-- The numbers 0 and 1. -/
def pair : List (Fin 2) := [0, 1]

/-- The pivot that carries lane `n` (R64). -/
def pivotOf (n : Fin 4) : Fin 2 := if n.val < 2 then 0 else 1

/-- The 35 units (R23). -/
def units : List UnitId :=
  [.dev, .med] ++ pair.map UnitId.piv ++ lanes4.map UnitId.lane ++ lanes4.map UnitId.chn ++ lanes4.map UnitId.tsq
    ++ lanes4.map UnitId.srv ++ lanes4.map UnitId.ast ++ [.spn, .hostg, .cmd] ++ pair.map UnitId.pep ++ [.buf]
    ++ pair.map UnitId.pool ++ [.hzl, .hkp, .svc]

/-- The unit in slot `k` of the unit register space, if one occupies it (R6). -/
def unitOfNum (k : Nat) : Option UnitId := units.find? (fun u => u.num == k)

/-- The parent in the tree (R23). -/
def UnitId.parent : UnitId → Option UnitId
  | .dev => none
  | .hostg => some .dev | .med => some .dev
  | .piv _ => some .med
  | .lane n => some (.piv (pivotOf n))
  | .chn n => some (.lane n) | .tsq n => some (.lane n) | .srv n => some (.lane n) | .ast n => some (.lane n)
  | .spn => some .med | .buf => some .dev | .cmd => some .hostg
  | .pep _ => some .hostg | .pool _ => some .dev
  | .hzl => some .dev | .hkp => some .dev | .svc => some .dev

/-- The groups above a unit, the nearest first. -/
def UnitId.above : UnitId → List UnitId
  | .dev => []
  | .hostg => [.dev] | .med => [.dev]
  | .piv _ => [.med, .dev]
  | .lane n => [.piv (pivotOf n), .med, .dev]
  | .chn n => [.lane n, .piv (pivotOf n), .med, .dev]
  | .tsq n => [.lane n, .piv (pivotOf n), .med, .dev]
  | .srv n => [.lane n, .piv (pivotOf n), .med, .dev]
  | .ast n => [.lane n, .piv (pivotOf n), .med, .dev]
  | .spn => [.med, .dev] | .buf => [.dev] | .cmd => [.hostg, .dev]
  | .pep _ => [.hostg, .dev] | .pool _ => [.dev]
  | .hzl => [.dev] | .hkp => [.dev] | .svc => [.dev]

/-- The direct children, in sibling order (R23). -/
def UnitId.children : UnitId → List UnitId
  | .dev => [.med, .hostg, .buf, .pool 0, .pool 1, .hzl, .hkp, .svc]
  | .hostg => [.cmd, .pep 0, .pep 1]
  | .med => [.piv 0, .piv 1, .spn]
  | .piv p => if p = 0 then [.lane 0, .lane 1] else [.lane 2, .lane 3]
  | .lane n => [.chn n, .tsq n, .srv n, .ast n]
  | _ => []

/-- Whether the unit is a group (R23). -/
def UnitId.isGroup : UnitId → Bool
  | .dev => true | .hostg => true | .med => true | .piv _ => true | .lane _ => true
  | _ => false

/-- The unit and its whole subtree. -/
def UnitId.subtree (u : UnitId) : List UnitId := units.filter (fun v => v == u || v.above.contains u)

/-- The levels below the device group (R10). -/
def UnitId.depth (u : UnitId) : Nat := u.above.length

/-- UNIT_CAP: the family parameters of R2 and the capability fields of the field tables; 0 where the spec gives none
(R24; DESIGN CHOICE, log entry 4). -/
def UnitId.cap : UnitId → Word
  | .dev => 0x54150324
  | .chn _ => 0x08041404
  | .tsq _ => 0x03400804
  | .srv _ => 0x840C00FF
  | .ast _ => 0x00030C40
  | .spn => 0x042000C8
  | .buf => 0xFF004020
  | .cmd => 0x10400800
  | .pep _ => 0x00400800
  | .pool _ => 0x08001040
  | .hzl => 0x10001018
  | .hkp => 0x00001030
  | _ => 0

/-- Whether EN resets to 1 (R13). -/
def UnitId.enReset : UnitId → Bool
  | .dev => true | .hzl => true | .hkp => true | .svc => true
  | _ => false

/-- The class-specific registers of the unit's class. -/
def UnitId.regs : UnitId → List RegDef
  | .dev => devRegs | .hostg => [] | .med => medRegs
  | .piv _ => pivRegs | .lane _ => laneRegs
  | .chn _ => chnRegs | .tsq _ => tsqRegs | .srv _ => srvRegs | .ast _ => astRegs
  | .spn => spnRegs | .buf => bufRegs | .cmd => cmdRegs
  | .pep _ => pepRegs | .pool _ => poolRegs
  | .hzl => hzlRegs | .hkp => hkpRegs | .svc => svcRegs

/-- The next sibling (R22). -/
def UnitId.sibling (u : UnitId) : Option UnitId :=
  match u.parent with
  | none => none
  | some p => ((p.children.dropWhile (· != u)).drop 1).head?

namespace Machine

/-- A truth value as a bit. -/
def bit (b : Bool) : Nat := if b then 1 else 0

end Machine

/-- UNIT_ID (R10). -/
def UnitId.idWord (u : UnitId) : Word :=
  BitVec.ofNat 32 (0x01000000 + 0x100000 * bit u.isGroup + 0x10000 * u.depth + u.num)

end Sys2Proof

namespace Sys2Proof.Machine

/-! ### Registers -/

/-- The codes of STATE in UNIT_STAT (R11). -/
abbrev stOff : Nat := 0
abbrev stReset : Nat := 1
abbrev stIdle : Nat := 2
abbrev stBusy : Nat := 3
abbrev stDrain : Nat := 4
abbrev stFault : Nat := 5
abbrev stParked : Nat := 6

/-- The key of a register: unit number × 0x1000 + offset (R8). -/
def key (u : UnitId) (off : Nat) : Nat := u.num * 0x1000 + off

/-- The header registers that hold state (R9, R13, R19 to R21); a group's UNIT_ERR holds its own byte only (R19). -/
def hdrDef (u : UnitId) (off : Nat) : Option RegDef :=
  if off = Reg.UNIT_STAT then
    some ⟨off, if u.enReset then 2 else 0, 0, 0, 0, 0, 0x10000⟩
  else if off = Reg.UNIT_CTL then some ⟨off, if u.enReset then 2 else 0, 2, 0, 0, 0, 0⟩
  else if off = Reg.UNIT_ERR then some ⟨off, 0, 0, if u.isGroup then 0xFF00 else 0xFFFFFFFF, 0, 0, 0⟩
  else if off = Reg.UNIT_ERR_MASK then some ⟨off, 0, 0xFFFFFFFF, 0, 0, 0, 0⟩
  else if off = Reg.UNIT_RETRY_CNT then some ⟨off, 0, 0, 0, 0, 0, 0xFFFFFFFF⟩
  else if off = Reg.UNIT_LAST_CNT then some ⟨off, 0, 0, 0, 0, 0, 0xFFFFFFFF⟩
  else none

/-- The definition of the register at an offset of a unit, if one is there (R5). -/
def regDef (u : UnitId) (off : Nat) : Option RegDef :=
  if off < 0x40 then hdrDef u off else u.regs.find? (fun r => r.off == off)

/-- What a register reads as when nothing has changed it since the cold reset (R7). -/
def regReset (k : Nat) : Word :=
  match unitOfNum (k / 0x1000) with
  | none => 0
  | some u =>
    match regDef u (k % 0x1000) with
    | none => 0
    | some r => r.reset

/-- A register's contents. -/
def State.reg (s : State) (u : UnitId) (off : Nat) : Word := Sparse.get regReset s.regs (key u off)

/-- The state with a register's contents replaced. -/
def State.setReg (s : State) (u : UnitId) (off : Nat) (w : Word) : State :=
  { s with regs := Sparse.set regReset s.regs (key u off) w }

/-- The value of a register's field. -/
def State.f (s : State) (u : UnitId) (f : Field) : Nat := f.get (s.reg u f.off)

/-- Whether a one-bit field is 1. -/
def State.on (s : State) (u : UnitId) (f : Field) : Bool := s.f u f == 1

/-- The state with a field's value replaced. -/
def State.setF (s : State) (u : UnitId) (f : Field) (v : Nat) : State := s.setReg u f.off (f.put (s.reg u f.off) v)

/-- The state with bits of a register set. -/
def State.setBits (s : State) (u : UnitId) (off : Nat) (m : Word) : State := s.setReg u off (s.reg u off ||| m)

/-- The state with bits of a register cleared. -/
def State.clrBits (s : State) (u : UnitId) (off : Nat) (m : Word) : State := s.setReg u off (s.reg u off &&& ~~~ m)

/-- The 64-bit value of a pair of registers (R4). -/
def State.reg64 (s : State) (u : UnitId) (lo : Nat) : Nat := (s.reg u (lo + 4)).toNat * 2 ^ 32 + (s.reg u lo).toNat

/-- The state with the 64-bit value of a pair of registers replaced. -/
def State.setReg64 (s : State) (u : UnitId) (lo : Nat) (v : Nat) : State :=
  (s.setReg u lo (BitVec.ofNat 32 v)).setReg u (lo + 4) (BitVec.ofNat 32 (v / 2 ^ 32))

/-- One more in a 64-bit counter (it wraps: DEDUCED, log entry 5). -/
def State.count64 (s : State) (u : UnitId) (lo : Nat) : State := s.setReg64 u lo (s.reg64 u lo + 1)

/-- One more in a 32-bit counter that saturates. -/
def State.countSat (s : State) (u : UnitId) (off : Nat) : State :=
  s.setReg u off (if s.reg u off = 0xFFFFFFFF then 0xFFFFFFFF else s.reg u off + 1)

/-! ### Unit states, enables and errors -/

/-- The unit's own STATE (R11). -/
def State.unitState (s : State) (u : UnitId) : Nat := s.f u F.UNIT_STAT_STATE

/-- The state with a unit's STATE replaced. -/
def State.setUnitState (s : State) (u : UnitId) (st : Nat) : State := s.setF u F.UNIT_STAT_STATE st

/-- The unit's own EN (R13). -/
def State.en (s : State) (u : UnitId) : Bool := s.on u F.UNIT_CTL_EN

/-- The effective enable (R14): the unit's EN and that of every group above it. -/
def State.effEn (s : State) (u : UnitId) : Bool := s.en u && u.above.all (fun v => s.en v)

/-- The unit works: it is in IDLE or BUSY, or finishes work in DRAIN. -/
def State.live (s : State) (u : UnitId) : Bool :=
  s.unitState u == stIdle || s.unitState u == stDrain

/-- The unit's functional clock runs (R36): it is not OFF or PARKED, nor in FAULT with its effective enable 0, nor held in
RESET. -/
def State.clocked (s : State) (u : UnitId) : Bool :=
  let st := s.unitState u
  !(st == 0 || st == 1 || st == 6 || (st == 5 && !s.effEn u))

/-- The unit takes new work: it is in IDLE or BUSY (R14).  The state keeps the two as one, IDLE; which of the two STATE
shows follows from the work the unit holds (`State.statView`). -/
def State.takes (s : State) (u : UnitId) : Bool := s.unitState u == stIdle

/-- Bits of UNIT_ERR (R19). -/
abbrev eTransient : Nat := 0
abbrev eLasting : Nat := 1
abbrev eParity : Nat := 2
abbrev eUncorr : Nat := 3
abbrev eTimeout : Nat := 4
abbrev eProtocol : Nat := 5
abbrev eConfig : Nat := 6
abbrev eWdog : Nat := 7

/-- The unit sets cause `i` of UNIT_ERR; a group sets bit 8 + i of its own byte for a common cause (R19). -/
def State.err (s : State) (u : UnitId) (i : Nat) : State :=
  s.setBits u Reg.UNIT_ERR (BitVec.ofNat 32 (2 ^ (if u.isGroup then 8 + i else i)))

/-- A fault classed as transient (R21). -/
def State.transient (s : State) (u : UnitId) : State := (s.err u eTransient).countSat u Reg.UNIT_RETRY_CNT

/-- A fault classed as lasting (R21). -/
def State.lasting (s : State) (u : UnitId) : State := (s.err u eLasting).countSat u Reg.UNIT_LAST_CNT

/-- The bits of UNIT_ERR that pass the unit's mask: in a leaf all of them, in a group its own byte (R20). -/
def State.ownErr (s : State) (u : UnitId) : Word := s.reg u Reg.UNIT_ERR &&& ~~~ s.reg u Reg.UNIT_ERR_MASK

/-- The common causes that a unit shows to its parent, after its own mask (R19, R20):
a leaf its unmasked bits [7:0]; a group the OR of its children's and of its own byte, after its mask. -/
def State.commonErr (s : State) (fuel : Nat) (u : UnitId) : Word :=
  match fuel with
  | 0 => 0
  | fuel + 1 =>
    if u.isGroup then
      (((s.ownErr u >>> 8) &&& 0xFF) ||| (u.children.foldl (fun a c => a ||| s.commonErr fuel c) 0))
        &&& ~~~ s.reg u Reg.UNIT_ERR_MASK &&& 0xFF
    else s.ownErr u &&& 0xFF

/-- SUM_ERR (R11, R20): a common cause that no mask of the subtree stops at or below the unit, or a class-specific
cause of a leaf of the subtree that the leaf's own mask lets through (DEDUCED, log entry 7). -/
def State.sumErr (s : State) (u : UnitId) : Bool :=
  s.commonErr 5 u != 0 || u.subtree.any (fun v => !v.isGroup && s.ownErr v &&& 0xFFFFFF00 != 0)

/-- What UNIT_ERR reads as (R19): in a group, CHILD bit i for child i with SUM_ERR, the own byte, and the ORed common
causes. -/
def State.errView (s : State) (u : UnitId) : Word :=
  if u.isGroup then
    let own := s.reg u Reg.UNIT_ERR &&& 0xFF00
    let low := ((s.ownErr u >>> 8) &&& 0xFF) ||| (u.children.foldl (fun a c => a ||| s.commonErr 5 c) 0)
    let child := (u.children.zipIdx.foldl
      (fun a (p : UnitId × Nat) => a ||| (if s.sumErr p.1 then BitVec.ofNat 32 (2 ^ (16 + p.2)) else 0)) (0 : Word))
    child ||| own ||| (low &&& 0xFF)
  else s.reg u Reg.UNIT_ERR

/-- A fault counter as it reads: in a group the saturating sum over the subtree (R21). -/
def State.cntView (s : State) (u : UnitId) (off : Nat) : Word :=
  let n := (u.subtree.map (fun v => (s.reg v off).toNat)).foldl (· + ·) 0
  if n < 2 ^ 32 then BitVec.ofNat 32 n else 0xFFFFFFFF

/-- A link of the unit directory: a unit number, or NONE in bit 31 (R22). -/
def linkWord (u : Option UnitId) : Word :=
  match u with
  | none => 0x80000000
  | some v => BitVec.ofNat 32 v.num

/-! ### Free values -/

/-- A free number (DESIGN CHOICE, log entry 1). -/
def State.freeNat (s : State) : Nat := Config.freeNat s.freeCtr

/-- A free register content (DESIGN CHOICE, log entry 1). -/
def State.freeWord (s : State) : Word := Config.freeWord s.freeCtr

/-- A free truth value (DESIGN CHOICE, log entry 1). -/
def State.freeBool (s : State) : Bool := Config.freeBool s.freeCtr

/-- The free value has been used: the next one is another. -/
def State.spend (s : State) : State := { s with freeCtr := s.freeCtr + 1 }

/-! ### Answers -/

/-- The answer to the requester. -/
def State.answer (s : State) (r : Resp) : State := { s with resp := r }

/-- The event cannot arise in this state: nothing changes (DESIGN CHOICE, log entry 3). -/
def State.ignore (s : State) : State := { s with resp := .ignored }

/-- The work stays where it is until a condition holds (DESIGN CHOICE, log entry 3). -/
def State.wait (s : State) : State := { s with resp := .waiting }

/-- The state that a command leaves: no command touches the queue of those that wait. -/
def leave (s t : State) : Host.Outcome State Fault Refusal := .next { t with pending := s.pending }

/-- A command's outcome, the answer of the last command cleared: while the device is held in reset or without power,
no command acts (R43, R56). -/
def done (s : State) (f : State → State) : Host.Outcome State Fault Refusal :=
  leave s (if s.dev.power = .on then f { s with resp := .none } else s.ignore)

/-- A command of the hardware retract path, which works while the device is held in reset with its rails up (R48, R517). -/
def doneRetract (s : State) (f : State → State) : Host.Outcome State Fault Refusal :=
  leave s (if s.dev.power = .off then s.ignore else f { s with resp := .none })

/-- A running device's new state under a condition, and no change otherwise (DESIGN CHOICE, log entry 3). -/
def State.when (s : State) (b : Bool) (t : State) : State := if b then t else s.ignore

/-! ### Memory -/

/-- What a byte of memory that nothing has written reads as: an erased NOR byte in the NOR window, zero elsewhere
(R283, R568; DESIGN CHOICE, log entry 6). -/
def memReset (a : Nat) : Byte := if 0x40000000 ≤ a ∧ a < 0x50000000 then 0xFF else 0

/-- The byte at an address. -/
def State.byte (s : State) (a : Nat) : Byte := Sparse.get memReset s.mem a

/-- A cache of instructions, which no write reaches (R395). -/
def CacheId.isI : CacheId → Bool
  | .l1i _ => true
  | _ => false

/-- The pool that a cache belongs to. -/
def CacheId.pool : CacheId → Fin 2
  | .l1i c => if c < 8 then 0 else 1
  | .l1d c => if c < 8 then 0 else 1
  | .victim c => if c < 8 then 0 else 1
  | .l2 p => if p = 0 then 0 else 1

/-- The code of a bus error cause (R29). -/
def BusCause.code : BusCause → Nat
  | .noSuchUnit => 1 | .unitInReset => 2 | .accessSize => 3 | .accessDenied => 4 | .uncorrectable => 5 | .poisoned => 6
  | .fabricParity => 7 | .timeout => 8 | .translationFault => 9 | .unmapped => 10

/-- An address of the NOR window (R31). -/
def inNor (a : Nat) : Bool := decide (0x40000000 ≤ a ∧ a < 0x50000000)

/-- A write at an address invalidates the copies of its line in the coherent caches (R395); the NOR window is not coherent
(R396).  Memory holds what a line was last written with, whichever cache holds it dirty: a dirty line keeps what memory
proper held before, for an invalidation that discards it. -/
def keepsLine (a : Nat) (x : CLine) : Bool := x.cache.isI || x.line != a / 64 || inNor a

/-- The state with the byte at an address replaced, by any requester. -/
def State.setByte (s : State) (a : Nat) (b : Byte) : State :=
  { s with mem := Sparse.set memReset s.mem a b, lines := s.lines.filter (keepsLine a) }

/-- The state with bytes stored from an address on. -/
def State.setBytes (s : State) (a : Nat) (l : List Byte) : State :=
  match l with
  | [] => s
  | b :: t => (s.setByte a b).setBytes (a + 1) t

/-- `n` bytes from an address on. -/
def State.bytes (s : State) (a n : Nat) : List Byte := (List.range n).map (fun i => s.byte (a + i))

/-- The little-endian word at an address (DEDUCED, log entry 98). -/
def State.word (s : State) (a : Nat) : Word :=
  BitVec.ofNat 32 ((s.byte a).toNat + 2 ^ 8 * (s.byte (a + 1)).toNat + 2 ^ 16 * (s.byte (a + 2)).toNat
    + 2 ^ 24 * (s.byte (a + 3)).toNat)

/-- The bytes of a word, the lowest first. -/
def wordBytes (w : Word) : List Byte :=
  [w.extractLsb' 0 8, w.extractLsb' 8 8, w.extractLsb' 16 8, w.extractLsb' 24 8]

/-- The canonical form of memory. -/
def Memory.wf (m : List Host.Cell) : Bool := Sparse.wf memReset m

/-! ### High-word latches (R4) -/

/-- The number of an engine among the 32 (R30). -/
def engNum : Engine → Nat
  | .core c => c.val | .servo n => 16 + n.val | .sequencer n => 20 + n.val | .assist n => 24 + n.val
  | .spindle => 28 | .housekeeping => 29 | .enclave => 30 | .service => 31

/-- The unit that holds an engine (R30). -/
def engUnit : Engine → UnitId
  | .core c => .pool (if c.val < 8 then 0 else 1)
  | .servo n => .srv n | .sequencer n => .tsq n | .assist n => .ast n
  | .spindle => .spn | .housekeeping => .hkp | .enclave => .hzl | .service => .svc

/-- The latch of an engine in a unit: the low word's offset and the high word latched (R4). -/
def State.latch? (s : State) (u : UnitId) (e : Engine) : Option (Nat × Word) :=
  Sparse.find? s.dev.latches (u.num * 32 + engNum e)

/-- Loads the latch of an engine in a unit (R4). -/
def State.setLatch (s : State) (u : UnitId) (e : Engine) (lo : Nat) (hi : Word) : State :=
  { s with dev := { s.dev with latches := Sparse.insert s.dev.latches (u.num * 32 + engNum e) (lo, hi) } }

/-- A reset that reaches a unit empties its latches (R4). -/
def State.clearLatches (s : State) (u : UnitId) : State :=
  { s with dev := { s.dev with latches := s.dev.latches.filter (fun e => e.1 / 32 != u.num) } }

/-! ### Small helpers -/

/-- The two's complement value of the low `w` bits. -/
def signed (w v : Nat) : Int := if v % 2 ^ w < 2 ^ (w - 1) then (v % 2 ^ w : Int) else (v % 2 ^ w : Int) - 2 ^ w

/-- An integer as a `w`-bit two's complement number. -/
def unsigned (w : Nat) (v : Int) : Nat := (v % (2 ^ w : Int)).toNat

/-- The entry of a list at an index replaced. -/
def setNth {α : Type} (l : List α) (i : Nat) (x : α) : List α := l.set i x

/-- An element placed before the first one that it precedes or equals. -/
def placeBy {α : Type} (le : α → α → Bool) (x : α) : List α → List α
  | [] => [x]
  | y :: t => if le x y then x :: y :: t else y :: placeBy le x t

/-- A list in order; equal elements keep their places. -/
def orderBy {α : Type} (le : α → α → Bool) (l : List α) : List α := l.foldr (placeBy le) []

/-- Every word of a list with no repeats added. -/
def addOnce (l : List Nat) (x : Nat) : List Nat := if l.contains x then l else l ++ [x]

end Sys2Proof.Machine
end

