-- ==== Sys2Proof/Machine/Fabric.lean ====
section
/-! DEFINITION. The fabric: the address map and its rights (R31, R32), the checks of an access in the order of R29, the
repeat of a transaction whose parity fails (R27), and register writes by access code (R7). -/

namespace Sys2Proof.Machine

/-! ### The address map -/

/-- The regions of the firmware physical address map (R31). -/
inductive Region where
  | bootRom | sysSram | unitSpace | queueSram | nor | dram
  deriving DecidableEq, Repr

/-- What an access does. -/
inductive Access where
  | read | write | execute
  deriving DecidableEq, Repr

/-- Who presents an access. -/
inductive Requester where
  | engine (e : Engine) | dma (p : DmaPort)
  deriving DecidableEq, Repr

/-- The used DRAM size that SIZE gives, in bytes; 0 for a reserved value (R259, R32). -/
def dramSize (code : Nat) : Nat :=
  if code = 1 then 2 ^ 31 else if code = 2 then 2 ^ 32 else if code = 3 then 2 ^ 33
  else if code = 4 then 2 ^ 34 else if code = 5 then 2 ^ 35 else 0

/-- The bytes of DRAM that answer: none before training, or with a reserved SIZE (R32). -/
def State.dramUsed (s : State) : Nat :=
  if s.on .buf F.BUF_STAT_TRAINED then dramSize (s.f .buf F.BUF_CFG_SIZE) else 0

/-- The region of an address (R31, R32). -/
def State.region (s : State) (a : Nat) : Option Region :=
  if a ≤ 0x3FFFF then some .bootRom
  else if 0x10000000 ≤ a ∧ a ≤ 0x107FFFFF then some .sysSram
  else if 0x20000000 ≤ a ∧ a ≤ 0x23FFFFFF then some .unitSpace
  else if 0x30000000 ≤ a ∧ a ≤ 0x301FFFFF then some .queueSram
  else if 0x40000000 ≤ a ∧ a ≤ 0x4FFFFFFF then some .nor
  else if 0x100000000 ≤ a ∧ a < 0x100000000 + s.dramUsed then some .dram
  else none

/-- The rights of the address map table (R31), with the NOR window's refusal of writes (R32).  Of the data plane, the command
engine and the vault reach DRAM by physical address, and only within the firmware region (`State.checkMap`). -/
def rights (r : Requester) (g : Region) (k : Access) : Bool :=
  match r, g with
  | .engine .service, .bootRom => k != .write
  | .engine .service, .nor => k == .read
  | .engine .service, _ => k != .execute
  | .engine _, .bootRom => false
  | .engine _, .sysSram => true
  | .engine _, .unitSpace => k != .execute
  | .engine _, .queueSram => k != .execute
  | .engine _, .nor => k == .read
  | .engine _, .dram => true
  | .dma _, .sysSram => k != .execute
  | .dma _, .queueSram => k != .execute
  | .dma _, .nor => k == .read
  | .dma .command, .dram => k != .execute
  | .dma .vault, .dram => k != .execute
  | .dma _, _ => false

/-- An access of `n` bytes lies in the firmware region of DRAM (R265). -/
def State.inFirmware (s : State) (a n : Nat) : Bool := decide (a + n ≤ 0x100000000 + 4096 * s.f .buf F.BUF_FW_PAGES_PAGES)

/-- The requester may make an access in a region (R31): by the table, and on the data plane within the firmware region of
DRAM only. -/
def State.allowed (s : State) (r : Requester) (g : Region) (a n : Nat) (k : Access) : Bool :=
  rights r g k && (match r, g with
    | .dma _, .dram => s.inFirmware a n
    | _, _ => true)

/-- The checks of R31 on an access of `n` bytes: every byte in one region, and the region open to the requester.  No two
regions touch, so an access that leaves its region reaches an unmapped byte. -/
def State.checkMap (s : State) (r : Requester) (a n : Nat) (k : Access) : Option BusCause :=
  match s.region a with
  | none => some .unmapped
  | some g =>
    if s.region (a + n - 1) = some g then (if s.allowed r g a n k then none else some .accessDenied) else some .unmapped

/-- The unit and offset that an address of the unit register space names (R8, R26). -/
def unitAt (a : Nat) : Option (UnitId × Nat) :=
  if a < 0x21000000 then (unitOfNum ((a - 0x20000000) / 0x1000)).map (fun u => (u, a % 0x1000)) else none

/-- The unit is in RESET (R15). -/
def State.inReset (s : State) (u : UnitId) : Bool := s.unitState u == stReset

/-- A read of UNIT_ID, UNIT_CAP or UNIT_STAT, which completes while the unit is in RESET (R15). -/
def readsInReset (off : Nat) : Bool := off == Reg.UNIT_ID || off == Reg.UNIT_CAP || off == Reg.UNIT_STAT

/-- The checks of R29, in its order, on an access to the unit register space, but for a unit's own rule. -/
def State.checkReg (s : State) (r : Requester) (a n : Nat) (k : Access) : Option BusCause :=
  match s.checkMap r a n k with
  | some c => some c
  | none =>
    match unitAt a with
    | none => some .noSuchUnit
    | some (u, off) =>
      if n ≠ 4 ∨ a % 4 ≠ 0 then some .accessSize
      else if s.inReset u && !(k == .read && readsInReset off) then some .unitInReset
      else none

/-! ### Parity -/

/-- The parity check of a transaction at unit `u` (R27): a failure that the repeat cleared is a transient fault of `u`; one
that persisted is a lasting fault, and the cause "fabric parity" ends the transaction. -/
def State.parityAt (s : State) (u : UnitId) (par : Parity) : State × Option BusCause :=
  match par with
  | .ok => (s, none)
  | .transient => (s.transient u, none)
  | .lasting => (s.lasting u, some .fabricParity)

/-- A transaction with its parity outcome at unit `u` (R27).  It acts once, whether or not it was repeated, and not at all
when its repeat failed too (DESIGN CHOICE, log entry 112). -/
def State.parity (s : State) (u : UnitId) (par : Parity) (f : State → State) : State :=
  match (s.parityAt u par).2 with
  | none => f (s.parityAt u par).1
  | some c => (s.parityAt u par).1.answer (.busError c)

/-! ### Register writes -/

/-- The configuration lock (R484). -/
def State.locked (s : State) : Bool := s.on .svc F.SVC_BOOT_CTL_LOCK

/-- A register's contents after a write, by access code (R7): RW and RWS bits take the value, RWL bits while the lock is
clear, W1C bits clear and W1S bits set where a 1 is written. -/
def RegDef.write (r : RegDef) (lock : Bool) (old v : Word) : Word :=
  let m := r.rw ||| (if lock then 0 else r.rwl)
  (((old &&& ~~~ m) ||| (v &&& m)) &&& ~~~ (r.w1c &&& v)) ||| (r.w1s &&& v)

/-- A write acting on each field as its access code gives; an offset without a register ignores it (R5, R7). -/
def State.writePlain (s : State) (u : UnitId) (off : Nat) (v : Word) : State :=
  match regDef u off with
  | none => s
  | some r => s.setReg u off (r.write s.locked (s.reg u off) v)

/-! ### Bus errors as an application core receives them (R29, R384) -/

/-- The class-specific cause of a pool whose core has stopped (R413). -/
abbrev pcStop : Nat := 8

/-- The kinds of access in a fault record (R412). -/
abbrev fkLoad : Nat := 0
abbrev fkStore : Nat := 1
abbrev fkFetch : Nat := 2
abbrev fkAtomic : Nat := 3
abbrev fkMaint : Nat := 4

/-- The kind of an access in the fault record (R412). -/
def kindCode : CoreKind → Nat
  | .load => fkLoad | .store => fkStore | .fetch => fkFetch | .atomic => fkAtomic

/-- The pool of a core. -/
def poolOf (c : Fin 16) : Fin 2 := if c.val < 8 then 0 else 1
/-- A core's registers lie 0x40 × its index in the pool further on (R411). -/
def coreOff (c : Fin 16) : Nat := 0x40 * (c.val % 8)
/-- A field of a core's registers. -/
def State.cf (s : State) (c : Fin 16) (f : Field) : Nat := s.f (.pool (poolOf c)) (f.at (coreOff c))
/-- The state with a field of a core's registers replaced. -/
def State.setCf (s : State) (c : Fin 16) (f : Field) (v : Nat) : State := s.setF (.pool (poolOf c)) (f.at (coreOff c)) v

/-- A core takes an access fault: its record is written, or, while it is VALID, the core stops (R384, R386). -/
def State.coreFault (s : State) (c : Fin 16) (kind : Nat) (cause : BusCause) (addr : Nat) : State :=
  let u := UnitId.pool (poolOf c)
  let s1 :=
    if s.cf c F.POOL_Cc_FLT_VALID = 1 then (s.setCf c F.POOL_Cc_STAT_RUN 3).err u pcStop
    else
      let s2 := ((s.setCf c F.POOL_Cc_FLT_VALID 1).setCf c F.POOL_Cc_FLT_KIND kind).setCf c F.POOL_Cc_FLT_CAUSE cause.code
      (s2.setReg u (Reg.POOL_Cc_FLT_ADDR_LO + coreOff c) (BitVec.ofNat 32 addr)).setReg u
        (Reg.POOL_Cc_FLT_ADDR_HI + coreOff c) (BitVec.ofNat 32 (addr / 2 ^ 32 % 256))
  s1.answer (.busError cause)

/-- The access of a core ends as a precise access fault if it ended with a bus error (R384). -/
def State.orFault (s : State) (c : Fin 16) (k : CoreKind) (a : Nat) : State :=
  match s.resp with
  | .busError b => s.coreFault c (kindCode k) b a
  | _ => s

/-- An access of an engine has ended: an application core takes a bus error as a precise access fault (R29). -/
def State.toRequester (s : State) (e : Engine) (k : CoreKind) (a : Nat) : State :=
  match e with
  | .core c => s.orFault c k a
  | _ => s

/-! ### Register accesses that have a row of their own -/

/-- The address of a register (R8). -/
def regAddr (u : UnitId) (off : Nat) : Nat := 0x20000000 + key u off

/-- A register access is refused while the unit is in RESET, then by the unit's own rule (R29), else carried out. -/
def State.gate (s : State) (u : UnitId) (own : Option BusCause) (t : State) : State :=
  if s.inReset u then s.answer (.busError .unitInReset)
  else
    match own with
    | some c => s.answer (.busError c)
    | none => t

/-- A register access of engine `e` that has its own row: its checks, its effect, and the bus error as the engine receives
it (R29). -/
def State.access (s : State) (e : Engine) (k : CoreKind) (u : UnitId) (off : Nat) (own : Option BusCause) (t : State) : State :=
  (s.gate u own t).toRequester e k (regAddr u off)

/-- A reset of a unit returns its registers to their reset values, but for the bits that it keeps (R7, R15). -/
def State.resetRegs (s : State) (u : UnitId) : State :=
  (s.regs.filter (fun (e : Nat × Word) => e.1 / 0x1000 == u.num)).foldl
    (fun t (e : Nat × Word) =>
      match regDef u (e.1 % 0x1000) with
      | none => t
      | some r => t.setReg u r.off ((e.2 &&& r.keep) ||| (r.reset &&& ~~~ r.keep)))
    s

end Sys2Proof.Machine
end

