-- ==== Sys2Proof/Machine/Lane.lean ====
section
/-! DEFINITION. What the lane units share: access to the per-lane state, dispatch descriptors (R77, R158), slot epochs,
cancels and dual-issue trackers (R80 to R87), and the forming of reports (R79, R120, R157). -/

namespace Sys2Proof.Machine

/-! ### Access -/

/-- Lane `n`. -/
def State.lane (s : State) (n : Fin 4) : Lane := s.lanes[n]
/-- The state with lane `n` replaced. -/
def State.setLane (s : State) (n : Fin 4) (l : Lane) : State := { s with lanes := s.lanes.set n l }
/-- The timing unit of lane `n`. -/
def State.tim (s : State) (n : Fin 4) : Timing := s.timing[n]
/-- The state with the timing unit of lane `n` replaced. -/
def State.setTim (s : State) (n : Fin 4) (t : Timing) : State := { s with timing := s.timing.set n t }
/-- The sequencer of lane `n`. -/
def State.sq (s : State) (n : Fin 4) : Sequencer := s.seqs[n]
/-- The state with the sequencer of lane `n` replaced. -/
def State.setSq (s : State) (n : Fin 4) (q : Sequencer) : State := { s with seqs := s.seqs.set n q }
/-- The channel of lane `n`. -/
def State.ch (s : State) (n : Fin 4) : Channel := s.chns[n]
/-- The state with the channel of lane `n` replaced. -/
def State.setCh (s : State) (n : Fin 4) (c : Channel) : State := { s with chns := s.chns.set n c }
/-- The servo engine of lane `n`. -/
def State.sv (s : State) (n : Fin 4) : Servo := s.srvs[n]
/-- The state with the servo engine of lane `n` replaced. -/
def State.setSv (s : State) (n : Fin 4) (v : Servo) : State := { s with srvs := s.srvs.set n v }
/-- The assist controller of lane `n`. -/
def State.at (s : State) (n : Fin 4) : Assist := s.asts[n]
/-- The state with the assist controller of lane `n` replaced. -/
def State.setAt (s : State) (n : Fin 4) (a : Assist) : State := { s with asts := s.asts.set n a }

/-! ### Descriptors -/

/-- Word `i` of a dispatch's descriptor. -/
def Disp.w (d : Disp) (i : Nat) : Word := d.raw.getD i 0
/-- OP (R77). -/
def Disp.op (d : Disp) : Nat := Field.get ⟨0, 0, 8⟩ (d.w 0)
/-- EPOCH_MODE (R77). -/
def Disp.mode (d : Disp) : Nat := Field.get ⟨0, 8, 2⟩ (d.w 0)
/-- SLOT (R77). -/
def Disp.slot (d : Disp) : Nat := Field.get ⟨0, 0, 16⟩ (d.w 1)
/-- EPOCH as stamped (R77). -/
def Disp.epoch (d : Disp) : Nat := Field.get ⟨0, 16, 8⟩ (d.w 1)
/-- HEAD (R77). -/
def Disp.head (d : Disp) : Nat := Field.get ⟨0, 24, 6⟩ (d.w 1)
/-- TRACK (R77). -/
def Disp.track (d : Disp) : Nat := Field.get ⟨0, 0, 22⟩ (d.w 2)
/-- FIRST (R77). -/
def Disp.first (d : Disp) : Nat := Field.get ⟨0, 0, 11⟩ (d.w 3)
/-- COUNT (R77). -/
def Disp.count (d : Disp) : Nat := Field.get ⟨0, 16, 9⟩ (d.w 3)
/-- RZONE (R77). -/
def Disp.rzone (d : Disp) : Nat := Field.get ⟨0, 0, 6⟩ (d.w 4)
/-- DIV (R77). -/
def Disp.div (d : Disp) : Word := d.w 5
/-- HANDLE (R77). -/
def Disp.handle (d : Disp) : Nat := (d.w 6).toNat + 2 ^ 32 * (d.w 7).toNat
/-- RPROF (R158). -/
def Disp.rprof (d : Disp) : Nat := Field.get ⟨0, 0, 3⟩ (d.w 8)
/-- The dispatch is a write. -/
def Disp.isWrite (d : Disp) : Bool := d.op == 2
/-- The descriptor with EPOCH stamped. -/
def Disp.stamp (d : Disp) (e : Nat) : Disp := { d with raw := setNth d.raw 1 (Field.put ⟨0, 16, 8⟩ (d.w 1) e) }

/-! ### Head geometry (R64, R65) -/

/-- The lane of head `h`. -/
def laneOfHead (h : Nat) : Nat := h / 12
/-- The head index of head `h` within its lane. -/
def headIndex (h : Nat) : Nat := h % 12
/-- The twin of head `h`. -/
def twinHead (h : Nat) : Nat := (h + 24) % 48
/-- MED_HEAD_DATA of head `h` (R90). -/
def State.headData (s : State) (h : Nat) : Word := Sparse.get (fun _ => 0) s.heads h
/-- Head `h` is FAILED (R90). -/
def State.headFailed (s : State) (h : Nat) : Bool := F.MED_HEAD_DATA_STATE.get (s.headData h) == 2
/-- Head `h` has WR_INH (R90). -/
def State.headWrInh (s : State) (h : Nat) : Bool := F.MED_HEAD_DATA_WR_INH.get (s.headData h) == 1
/-- The lane refuses the dispatch because of its head (R91). -/
def State.headRefuses (s : State) (d : Disp) : Bool :=
  s.headFailed d.head || (d.isWrite && s.headWrInh d.head)

/-! ### Slots and epochs (R80, R83, R325, R326) -/

/-- The slot, if it is not FREE. -/
def State.slot? (s : State) (i : Nat) : Option Slot := Sparse.find? s.cmd.slots i
/-- The slot's state. -/
def State.slotState (s : State) (i : Nat) : SlotState :=
  match s.slot? i with
  | none => .free
  | some x => x.st
/-- The slot has not passed its commit point (R325). -/
def SlotState.isOpen : SlotState → Bool
  | .taken => true | .lockwait => true | .fast => true | .work => true
  | _ => false
/-- The state with a slot replaced. -/
def State.setSlot (s : State) (i : Nat) (x : Slot) : State :=
  { s with cmd := { s.cmd with slots := Sparse.insert s.cmd.slots i x } }
/-- The slot's epoch (R80); FREE does not reset it (R326). -/
def State.epoch (s : State) (slot : Nat) : Nat := Sparse.get (fun _ => 0) s.cmd.epochs slot

/-- The dispatches that a lane holds for a slot: not started, running, or ended with sectors still open. -/
def Lane.disps (l : Lane) : List Disp := l.next.toList ++ l.cur.toList ++ l.tails
/-- The lane holds work or an unwritten report of the slot (R80). -/
def Lane.holds (l : Lane) (slot : Nat) : Bool :=
  l.disps.any (fun d => d.slot == slot) || l.reports.any (fun r => r.slot == slot)
/-- The lanes that hold work of the slot. -/
def State.holders (s : State) (slot : Nat) : List Nat :=
  (lanes4.filter (fun n => (s.lane n).holds slot)).map Fin.val

/-- Releases the pinned samples of a channel that a condition picks (R111); a firmware decode of one stops at its next
iteration boundary. -/
def Channel.release (c : Channel) (p : Pin → Bool) : Channel :=
  { c with
    pins := c.pins.filter (fun x => !p x)
    job := c.job.map (fun j => if c.pins.any (fun x => x.num == j.num && p x) then { j with released := true } else j) }

/-- A firmware deep-decode command completes with a result (R132). -/
def State.ddResult (s : State) (n : Fin 4) (slot result globals : Nat) : State :=
  ((s.setF (.chn n) F.CHN_DD_STAT_RESULT result).setF (.chn n) F.CHN_DD_STAT_SLOT slot).setF (.chn n)
    F.CHN_DD_STAT_GLOB_USED globals

/-- The slot in automatic recovery: of the slots that wait for it, the one pinned longest (R112). -/
def Channel.autoSlot (c : Channel) : Option Nat := (c.pins.find? (fun p => p.auto && !p.done)).map Pin.num

/-- The engine is working: on a firmware command, or on automatic recovery (R112, R132). -/
def Channel.ddBusy (c : Channel) : Bool := c.job.isSome || c.autoSlot.isSome

/-- The pin of a slot, if it is pinned. -/
def State.pin? (s : State) (n : Fin 4) (slot : Nat) : Option Pin := (s.ch n).pins.find? (fun p => p.num == slot)

/-- The work in progress has ended: a queued firmware command runs, ahead of further automatic work (R112).  One whose slot
is no longer pinned, or is in automatic recovery, ends with RESULT 100b (DESIGN CHOICE, log entry 117: 101b would say that
its own decoding was stopped). -/
def State.ddNext (s : State) (n : Fin 4) : State :=
  let c := s.ch n
  match c.queued with
  | none => s
  | some j =>
    match s.pin? n j.num with
    | none => (s.setCh n { c with queued := none }).ddResult n j.num 4 0
    | some p =>
      if p.auto then (s.setCh n { c with queued := none }).ddResult n j.num 4 0
      else s.setCh n { c with queued := none, job := some { j with ref := p.ref } }

/-- Releases the pinned samples of one lane that a condition picks; where that ends the automatic work in progress, a queued
command runs (R111, R112). -/
def State.releaseOn (s : State) (n : Fin 4) (p : Pin → Bool) : State :=
  let c := s.ch n
  let s1 := s.setCh n (c.release p)
  if c.job.isNone && (c.release p).autoSlot != c.autoSlot then s1.ddNext n else s1

/-- TEST of a sector's latched profile (R123). -/
def SectRef.test (r : SectRef) : Bool := F.CHN_RPROF_TEST.get r.prof == 1

/-- A sector of a read under a profile with TEST is classed: transient if delivered, lasting if not (R123). -/
def State.classify (s : State) (n : Fin 4) (r : SectRef) (ok : Bool) : State :=
  if r.test && !r.write then (if ok then s.transient (.chn n) else s.lasting (.chn n)) else s

/-- The slot's epoch increments mod 256, and cancels go to every lane that holds work of the slot (R80, R83); pinned samples
of the slot go stale and are released, which ends their automatic recovery (R111); a race in progress is decided and its
tracker freed (R87). -/
def State.advanceEpoch (s : State) (slot : Nat) : State :=
  let e := s.epoch slot
  let owed := s.holders slot
  let stale := fun (d : Disp) (c : Channel) =>
    let mine := c.pins.filter (fun p => p.auto && !p.done && p.ref.dispId == d.id && p.ref.slot == slot && p.ref.epoch == e)
    { d with settled := mine.foldl (fun a p => addOnce a p.ref.idx) d.settled }
  let lanes' := s.lanes.zipWith (fun l c =>
    { l with cur := l.cur.map (fun d => stale d c), tails := l.tails.map (fun d => stale d c) }) s.chns
  let cmd' := { s.cmd with
    epochs := Sparse.set (fun _ => 0) s.cmd.epochs slot ((e + 1) % 256)
    cancels := if owed = [] then s.cmd.cancels else s.cmd.cancels ++ [Cancel.mk slot e owed]
    trackers := s.cmd.trackers.filter (fun t => t.slot != slot) }
  let s1 := { s with lanes := lanes', cmd := cmd' }
  let old := fun (x : Pin) => x.ref.slot == slot && x.ref.epoch == e
  let s2 := lanes4.foldl (fun (t : State) n =>
    ((s.ch n).pins.filter (fun x => old x && x.auto && !x.done)).foldl (fun (u : State) x => u.classify n x.ref false) t) s1
  lanes4.foldl (fun (t : State) n => t.releaseOn n old) s2

/-- The slot's retired epochs whose cancels are not all acknowledged. -/
def State.unacked (s : State) (slot : Nat) : Nat := (s.cmd.cancels.filter (fun c => c.slot == slot)).length
/-- The slot's open tracker, if any. -/
def State.tracker? (s : State) (slot : Nat) : Option Tracker := s.cmd.trackers.find? (fun t => t.slot == slot)
/-- The limit of R83: unacknowledged epochs and open trackers number three or more. -/
def State.epochLimit (s : State) (slot : Nat) : Bool := decide (3 ≤ s.unacked slot + bit (s.tracker? slot).isSome)
/-- The lane owes the acknowledgement of a cancel for the slot. -/
def State.owes (s : State) (n : Fin 4) (slot : Nat) : Bool :=
  s.cmd.cancels.any (fun c => c.slot == slot && c.lanes.contains n.val)
/-- One acknowledgement answers every cancel that the lane owes for the slot (R80). -/
def State.ackCancels (s : State) (n : Fin 4) (slot : Nat) : State :=
  let f := fun (c : Cancel) => if c.slot == slot then { c with lanes := c.lanes.filter (· != n.val) } else c
  { s with cmd := { s.cmd with cancels := (s.cmd.cancels.map f).filter (fun c => c.lanes != []) } }

/-- Media work of the slot is outstanding: a dispatch or a dual-issue leg (R326). -/
def State.mediaOutstanding (s : State) (slot : Nat) : Bool :=
  s.cmd.trackers.any (fun t => t.slot == slot)
    || lanes4.any (fun n => (s.lane n).disps.any (fun d => d.slot == slot))

/-- Replaces a slot's tracker. -/
def State.setTracker (s : State) (t : Tracker) : State :=
  { s with cmd := { s.cmd with trackers := s.cmd.trackers.map (fun x => if x.slot = t.slot then t else x) } }

/-- The race of a slot is decided when every sector bit is set, or when two legs have been fetched and both have ended
(R87).  In the second case the decision itself makes the reports just formed stale, and R79 then keeps them out of the ring,
though R87 speaks of both reports: of the two the model follows R79 (DESIGN CHOICE, log entry 116). -/
def State.raceCheck (s : State) (slot : Nat) : State :=
  match s.tracker? slot with
  | none => s
  | some t =>
    if (List.range t.count).all (fun i => t.bits.contains i) ∨ (2 ≤ t.seen.length ∧ t.active = []) then
      s.advanceEpoch slot
    else s

/-- A leg on lane `n`, stamped `epoch`, has ended: its report has been formed (R87). -/
def State.legEnded (s : State) (n : Fin 4) (slot epoch : Nat) : State :=
  match (s.tracker? slot).filter (fun t => t.epoch == epoch) with
  | none => s
  | some t => (s.setTracker { t with active := t.active.filter (· != n.val) }).raceCheck slot

/-! ### Reports (R79, R157) -/

/-- Sectors of the dispatch not delivered, among the first 32 (R79). -/
def Disp.notDelivered (d : Disp) : Word :=
  (List.range (min d.count 32)).foldl (fun a i => if d.good.contains i then a else a ||| BitVec.ofNat 32 (2 ^ i)) 0

/-- The report status for a sequencer status (R157, R91). -/
def Disp.reportStatus (d : Disp) (st : Nat) : Nat :=
  if st = 0 then (if d.op = 4 ∨ d.count ≤ d.good.length then 0 else 1)
  else if st = 1 then 1
  else if st = 2 then (if d.headStop then 3 else 2)
  else if st = 3 then 3
  else if st = 4 then 4
  else 6

/-- Lane `n` forms the report of a dispatch with a report status (R79); a leg of a race has then ended (R87). -/
def State.formReport (s : State) (n : Fin 4) (d : Disp) (status : Nat) : State :=
  let r : Report := ⟨d.slot, d.epoch, d.head, d.first, d.good.length, d.notDelivered, status,
    if status = 6 then d.align else 0, true, some d⟩
  let l := s.lane n
  let s1 := s.setLane n { l with reports := l.reports ++ [r] }
  if d.leg then s1.legEnded n d.slot d.epoch else s1

/-- Every sector announced has been delivered, has ended its recovery or has been given up (R120). -/
def Disp.allSettled (d : Disp) : Bool := d.announced.all (fun i => d.settled.contains i)

/-- Forms the reports of the ended dispatches whose sectors are all settled, the oldest first (R120). -/
def State.reportSettled (s : State) (n : Fin 4) : State :=
  let ready := (s.lane n).tails.filter Disp.allSettled
  let l := s.lane n
  let s1 := s.setLane n { l with tails := l.tails.filter (fun d => !d.allSettled) }
  ready.foldl (fun t d => t.formReport n d (d.reportStatus (d.ended.getD 0))) s1

/-- Changes the dispatch with an identity, wherever the lane holds it. -/
def Lane.updDisp (l : Lane) (id : Nat) (f : Disp → Disp) : Lane :=
  { l with
    cur := l.cur.map (fun d => if d.id = id then f d else d)
    tails := l.tails.map (fun d => if d.id = id then f d else d) }

/-- Sector `idx` of a dispatch is settled, delivered or written if `ok` (R120, R128). -/
def State.settle (s : State) (n : Fin 4) (id idx : Nat) (ok : Bool) : State :=
  let f := fun (d : Disp) => { d with settled := addOnce d.settled idx, good := if ok then addOnce d.good idx else d.good }
  (s.setLane n ((s.lane n).updDisp id f)).reportSettled n

/-- A sector's handling has ended: it is classed and settled (R120, R123). -/
def State.finish (s : State) (n : Fin 4) (r : SectRef) (ok : Bool) : State :=
  (s.classify n r ok).settle n r.dispId r.idx ok

/-- A dispatch's report is stale: the slot's epoch is no longer the one it was stamped with (R79). -/
def State.staleReport (s : State) (r : Report) : Bool := r.stamped && s.epoch r.slot != r.epoch

/-- A ring of R76: enabled, with its size, head and tail. -/
structure Ring where
  enabled : Bool
  size : Nat
  head : Nat
  tail : Nat
  deriving DecidableEq, Repr

/-- The ring is empty, or not enabled where the device reads it (R76). -/
def Ring.empty (r : Ring) : Bool := !r.enabled || r.head == r.tail
/-- The ring is full, or not enabled where the device writes it (R76). -/
def Ring.full (r : Ring) : Bool := !r.enabled || (r.tail + 1) % r.size == r.head
/-- Entries in the ring. -/
def Ring.count (r : Ring) : Nat := (r.tail + r.size - r.head) % r.size

/-- The ring whose control, head and tail registers are given. -/
def State.ring (s : State) (u : UnitId) (ctl head tail : Nat) : Ring :=
  let c := s.reg u ctl
  let size := F.LN_DQ_CTL_SIZE_M1.get c + 1
  ⟨F.LN_DQ_CTL_ENABLE.get c == 1, size, (s.reg u head).toNat % size, (s.reg u tail).toNat % size⟩

/-- The dispatch ring of lane `n`. -/
def State.dq (s : State) (n : Fin 4) : Ring := s.ring (.lane n) Reg.LN_DQ_CTL Reg.LN_DQ_HEAD Reg.LN_DQ_TAIL
/-- The report ring of lane `n`. -/
def State.rq (s : State) (n : Fin 4) : Ring := s.ring (.lane n) Reg.LN_RQ_CTL Reg.LN_RQ_HEAD Reg.LN_RQ_TAIL

/-- Lane `n`'s cap level admits one more lane transferring (R58, R60). -/
def State.capTransfers (s : State) : Nat := (s.dev.caps.filter (fun c => match c.1 with | .transfer _ => true | _ => false)).length
/-- Seeks in flight. -/
def State.capSeeks (s : State) : Nat := (s.dev.caps.filter (fun c => match c.1 with | .seek _ => true | _ => false)).length
/-- The cap level in force (R57). -/
def State.capLevel (s : State) : Nat := s.f .dev F.DEV_PWR_CAP_LEVEL
/-- Lanes transferring at once, by cap level (R58). -/
def capLanes (l : Nat) : Nat := if l ≤ 1 then 4 else if l = 2 then 2 else 1
/-- Seeks at once, by cap level (R58). -/
def capSeekLimit (l : Nat) : Nat := if l = 0 then 4 else if l = 1 then 2 else 1
/-- AES engines in use, by cap level (R58). -/
def capEngines (l : Nat) : Nat := if l = 0 then 24 else if l = 1 then 16 else if l = 2 then 12 else 6
/-- Application cores in use, by cap level (R58); firmware keeps to it. -/
def capCores (l : Nat) : Nat := if l = 0 then 16 else if l = 1 then 12 else if l = 2 then 8 else 4

/-- An item of work starts under the level in force (R60). -/
def State.capStart (s : State) (k : CapKind) : State :=
  { s with dev := { s.dev with caps := s.dev.caps ++ [(k, s.capLevel)] } }
/-- An item of work ends (R60). -/
def State.capEnd (s : State) (k : CapKind) : State :=
  { s with dev := { s.dev with caps := s.dev.caps.filter (fun c => c.1 != k) } }
/-- SETTLING (R60), of dispatches and seeks: an item started under a level looser than the one in force is still in flight. -/
def State.capSettling (s : State) : Bool := s.dev.caps.any (fun c => decide (c.2 < s.capLevel))

end Sys2Proof.Machine
end

