-- ==== Sys2Proof/Machine/Gates.lean ====
section
/-! DEFINITION. The lane's gates and what stops them: the write gate and its stop causes (R127, R128), the assist gate
(R208), assist faults (R213, R214), the write inhibit (R187), the timing unit's halt (R156) and the machine check
(R164). -/

namespace Sys2Proof.Machine

/-- Stop causes of a write (R127). -/
abbrev wsInhibit : Nat := 1
abbrev wsPreamp : Nat := 2
abbrev wsAssist : Nat := 3
abbrev wsNotReady : Nat := 4
abbrev wsBusError : Nat := 5
abbrev wsMachine : Nat := 6
abbrev wsReset : Nat := 7

/-- Servo modes (R181). -/
abbrev mOff : Nat := 0
abbrev mParked : Nat := 1
abbrev mLoading : Nat := 2
abbrev mAcquire : Nat := 3
abbrev mFollow : Nat := 4
abbrev mSeek : Nat := 5
abbrev mSettle : Nat := 6
abbrev mShock : Nat := 7
abbrev mUnloading : Nat := 8
abbrev mRetract : Nat := 9
abbrev mFault : Nat := 10

/-- MODE of servo `n` (R181). -/
def State.mode (s : State) (n : Fin 4) : Nat := s.f (.srv n) F.SRV_STAT_MODE
/-- The state with MODE of servo `n` replaced. -/
def State.setMode (s : State) (n : Fin 4) (m : Nat) : State := s.setF (.srv n) F.SRV_STAT_MODE m
/-- SLOCK of servo `n`. -/
def State.slock (s : State) (n : Fin 4) : Bool := s.on (.srv n) F.SRV_STAT_SLOCK
/-- ARMED of assist controller `n` (R207). -/
def State.armed (s : State) (n : Fin 4) : Bool := s.on (.ast n) F.AST_STAT_ARMED
/-- An assist fault is latched (R213). -/
def State.assistFaulted (s : State) (n : Fin 4) : Bool := s.f (.ast n) F.AST_FLT_STAT_FAULTS != 0
/-- SETTLED of lane `n` (R42). -/
def State.settled (s : State) (n : Fin 4) : Bool := s.on (.lane n) F.LN_CLK_STAT_SETTLED
/-- KIND of the head row latched at AST_ARM (R202). -/
def Assist.kind (a : Assist) : Nat := F.AST_HD_DATA_W0_KIND.get (a.row.getD 0 0)

/-- Ln_WGATE may be high: the request, no wedge exclusion, the lane clock settled (R153), and the conditions of R127. -/
def State.wgateCond (s : State) (n : Fin 4) : Bool :=
  (s.tim n).wreq && !(s.tim n).excl && s.settled n && s.unitState (.chn n) != stReset && !s.on (.srv n) F.SRV_STAT_WINH
    && !(s.lane n).paLow && !s.assistFaulted n && s.unitState (.tsq n) != stFault

/-- Ln_WGATE follows its conditions. -/
def State.updWgate (s : State) (n : Fin 4) : State := s.setLane n { s.lane n with wgate := s.wgateCond n }

/-- Ln_AGATE may be high (R208), which takes the lane clock settled (R153). -/
def State.agateCond (s : State) (n : Fin 4) : Bool :=
  (s.tim n).ag && s.settled n && s.armed n && ((s.at n).kind == 1 || (s.at n).kind == 2) && !s.assistFaulted n && s.slock n
    && !(s.lane n).paLow

/-- Ln_AGATE is high. -/
def State.agate (s : State) (n : Fin 4) : Bool := s.on (.ast n) F.AST_STAT_AGATE

/-- Index of a life counter: head × 4 + counter (R218). -/
def lifeKey (h c : Nat) : Nat := h * 4 + c

/-- A frame that checks the assist, asked for while Ln_AGATE is high (R212). -/
def Frame.ofGate : Frame → Bool
  | .check _ _ | .sliderCheck => true
  | _ => false

/-- A frame that an AST_ARM asks for, or a set-point of the armed head (R205, R211). -/
def Frame.ofArm : Frame → Bool
  | .level _ _ | .sliderArm => true
  | _ => false

/-- Frames of a kind are no longer asked for: those not sent yet are dropped; one that is due its repeat still has it (R220), but
its outcome serves no one (DESIGN CHOICE, log entry 122). -/
def Assist.withdraw (a : Assist) (p : Frame → Bool) : Assist :=
  { a with queue := a.queue.filter (fun f => !p f), withdrawn := a.withdrawn || a.repeated.any p }

/-- Ln_AGATE follows its conditions; each rise counts in RISES, and the first check falls in the next slot; while it is low no
check is asked for (R208, R212, R218). -/
def State.updAgate (s : State) (n : Fin 4) : State :=
  let now := s.agateCond n
  let s1 := s.setF (.ast n) F.AST_STAT_AGATE (bit now)
  if now && !s.agate n then
    let a := s1.at n
    let k := lifeKey (s1.f (.ast n) F.AST_STAT_HEAD) 2
    let v := Sparse.get (fun _ => 0) a.life k
    s1.setAt n { a with life := Sparse.set (fun _ => 0) a.life k (min (v + 1) (2 ^ 64 - 1)), sinceCheck := 0,
                        agHead := s1.f (.ast n) F.AST_STAT_HEAD }
  else if !now then s1.setAt n ((s1.at n).withdraw Frame.ofGate)
  else s1

/-- The sector that a timed item announces, if it does. -/
def Timed.sect? (x : Timed) : Option SectRef :=
  match x.item with
  | .event _ _ r => r
  | _ => none

/-- The sectors announced and not begun. -/
def Timing.waitingSects (t : Timing) : List SectRef := t.timed.filterMap Timed.sect?

/-- The timing unit stops (R156): every queued event is discarded, AG falls, the capture closes. Sectors announced and
not begun are given up; a sector being read goes to the channel to fail on the fly; one being written is incomplete. -/
def State.haltTiming (s : State) (n : Fin 4) (wstop : Bool) : State :=
  let t := s.tim n
  let waiting := t.waitingSects
  let same := fun (r q : SectRef) => r.dispId == q.dispId && r.idx == q.idx
  let reads := (t.act ++ t.caps).filter (fun r => !r.write && !waiting.any (same r))
  let cut := reads.foldl (fun (l : List SectRef) r => if l.any (same r) then l else l ++ [{ r with captured := false }]) []
  let lost := waiting ++ t.act.filter (fun r => r.write)
  let s1 := s.setTim n
    { t with timed := [], act := [], caps := [], ag := false, wreq := false, wstop := t.wstop || wstop }
  let s2 := s1.setCh n { s1.ch n with due := (s1.ch n).due ++ cut }
  let s3 := (s2.setF (.ast n) F.AST_STAT_AG 0).updWgate n
  (lost.foldl (fun u r => u.finish n r false) s3).updAgate n

/-- The sector being written, or the next one announced, if any. -/
def Timing.writeSector (t : Timing) : Nat :=
  match t.act.find? (·.write) with
  | some r => r.sector
  | none =>
    match t.waitingSects with
    | r :: _ => r.sector
    | [] => 0

/-- A write stop (R128): the gate falls, the cause and the sector are latched, one write fault is counted, and the write
dispatch ends under R156. -/
def State.writeStop (s : State) (n : Fin 4) (cause : Nat) : State :=
  let s1 := ((s.setF (.chn n) F.CHN_WR_STAT_CAUSE cause).setF (.chn n) F.CHN_WR_STAT_SECTOR (s.tim n).writeSector)
  let s2 := (s1.count64 (.chn n) Reg.CHN_CNT_WFLT_LO).err (.chn n) (if cause = 4 ∨ cause = 5 then 9 else 8)
  let s3 := s2.setCh n { s2.ch n with wfifo := [] }
  s3.haltTiming n true

/-- A write sector is in progress, or the write gate is requested. -/
def State.writing (s : State) (n : Fin 4) : Bool := (s.tim n).wreq

/-- The servo write inhibit takes a value (R187): its rise stops a write in progress with cause 001b, counted in
SRV_CNT_WINH only if Ln_WGATE was high. -/
def State.setInhibit (s : State) (n : Fin 4) (b : Bool) : State :=
  let rise := b && !s.on (.srv n) F.SRV_STAT_WINH
  let s1 := s.setF (.srv n) F.SRV_STAT_WINH (bit b)
  let s2 := if rise && (s.lane n).wgate then s1.count64 (.srv n) Reg.SRV_CNT_WINH_LO else s1
  if rise && s.writing n then s2.writeStop n wsInhibit else s2.updWgate n

/-- SLOCK falls (R156, R187, R208): the inhibit sets, and the timing unit stops. -/
def State.slockFall (s : State) (n : Fin 4) : State :=
  if s.slock n then
    let s1 := (s.setF (.srv n) F.SRV_STAT_SLOCK 0).setInhibit n true
    (s1.haltTiming n true).updAgate n
  else s.setInhibit n true

/-- ARMED clears (R207). -/
def State.disarm (s : State) (n : Fin 4) : State :=
  let s1 := s.setF (.ast n) F.AST_STAT_ARMED 0
  (s1.setAt n { (s1.at n).withdraw Frame.ofArm with arming := false }).updAgate n

/-- Condition AST_FLT (R206). -/
def State.astFlt (s : State) (n : Fin 4) : Bool := s.assistFaulted n || (s.at n).refused

/-- A write is in progress, or has sectors announced that have not begun. -/
def State.writePending (s : State) (n : Fin 4) : Bool := s.writing n || (s.tim n).waitingSects.any (·.write)

/-- An assist fault is latched (R213, R214): bit `b` of the fault table. -/
def State.assistFault (s : State) (n : Fin 4) (b : Nat) : State :=
  let first := !s.assistFaulted n
  let s1 := s.setF (.ast n) F.AST_FLT_STAT_FAULTS (s.f (.ast n) F.AST_FLT_STAT_FAULTS ||| 2 ^ b)
  let s2 := if first then s1.setF (.ast n) F.AST_FLT_STAT_HEAD (s1.f (.ast n) F.AST_STAT_HEAD) else s1
  let s3 := ((s2.err (.ast n) 8).lasting (.ast n)).count64 (.ast n) Reg.AST_CNT_FLT_LO
  let s4 := s3.disarm n
  if s4.writePending n then s4.writeStop n wsAssist else s4.updWgate n

/-- A machine check (R163, R164): the gates fall, the record is latched, the unit enters FAULT, an outstanding cancel is
acknowledged, and the dispatch ends with status 1.  Stop cause 110b is latched where the write gate is requested; without a
request there is no gate to fall (DESIGN CHOICE, log entry 117). -/
def State.mcheck (s : State) (n : Fin 4) (cause : Nat) : State :=
  let q := s.sq n
  let s1 := if s.writing n then s.writeStop n wsMachine else s.haltTiming n false
  let s2 := (((s1.setF (.tsq n) F.TSQ_MCHK_VALID 1).setF (.tsq n) F.TSQ_MCHK_PC q.pc).setF (.tsq n) F.TSQ_MCHK_CAUSE cause)
  let s3 := [0, 1, 2, 3].foldl
    (fun t i => t.setReg (.tsq n) (Reg.TSQ_MCHK_W + 4 * i) (q.word.extractLsb' (32 * i) 32)) s2
  let s4 := s3.setReg (.tsq n) Reg.TSQ_MCHK_PAR (q.par.zeroExtend 32)
  let s5 := (s4.setUnitState (.tsq n) stFault).err (.tsq n) 8
  let s6 := if cause = 10 then s5.err (.tsq n) eWdog else s5
  let s7 := if cause = 1 ∨ cause = 2 then (s6.err (.tsq n) eParity).lasting (.tsq n) else s6
  let s8 := s7.setSq n { q with running := false }
  let s9 := s8.disarm n
  match (s9.lane n).cur with
  | none => s9
  | some d =>
    let l := s9.lane n
    let s10 := s9.setLane n { l with cur := none, cancelSeen := false, tails := l.tails ++ [{ d with ended := some 1 }] }
    ((s10.ackCancels n d.slot).capEnd (.transfer n.val)).reportSettled n

end Sys2Proof.Machine
end

