-- ==== Sys2Proof/Machine/Media.lean ====
section
/-! DEFINITION. Dual-pivot media geometry and lanes (R63 to R96): dispatch fetch, epochs and dual-issue trackers, cancels,
reports, head states; and the geometry that firmware and format builder use (R69 to R74). -/

namespace Sys2Proof.Machine

/-! ### Geometry -/

/-- The surface of head `h` (R64). -/
def surfaceOfHead (h : Nat) : Nat := h % 24
/-- The pivot of head `h` (R64). -/
def pivotOfHead (h : Nat) : Nat := h / 24
/-- The wedge under a pivot-1 head when a pivot-0 head at the same radius is over wedge `w` of `W` (R66). -/
def wedgeOpposite (W w : Nat) : Nat := (w + W / 2) % W

/-- A zone record (R69). -/
structure ZoneRecord where
  firstTrack : Nat
  div : Nat
  winBits : Nat
  spt : Nat
  skew : Nat
  deriving DecidableEq, Repr

/-- The zone record of sixteen bytes given as four words (R69). -/
def zoneRecord (w0 w1 w2 w3 : Word) : ZoneRecord :=
  ⟨Field.get ⟨0, 0, 22⟩ w0, w1.toNat, Field.get ⟨0, 0, 18⟩ w2, Field.get ⟨0, 0, 11⟩ w3, Field.get ⟨0, 16, 10⟩ w3⟩

/-- The rules of R70 on a zone table: FIRST_TRACK rises strictly, and D stays in range and does not decrease. -/
def zoneTableOk : List ZoneRecord → Bool
  | [] => true
  | [r] => decide (0x000CCCCD ≤ r.div ∧ r.div ≤ 0x00400000)
  | r :: t :: l => decide (0x000CCCCD ≤ r.div ∧ r.div ≤ 0x00400000) && decide (r.firstTrack < t.firstTrack)
      && decide (r.div ≤ t.div) && zoneTableOk (t :: l)

/-- The window in which sector 0 of track `t` begins (R74). -/
def startWindow (z : ZoneRecord) (W t : Nat) : Nat := ((t - z.firstTrack) * z.skew) % W

/-- Bits of a physical sector and of a resync field (R71, R73). -/
abbrev sectorBits : Nat := 37064
abbrev resyncBits : Nat := 40
/-- Where SM1, SM2 and the end of SM2 lie in a sector (R71). -/
abbrev sm1Bit : Nat := 120
abbrev sm2Bit : Nat := 37016
abbrev sm2End : Nat := 37048

/-- The physical sector address that seeds the CRC (R72). -/
def sectorAddress (surface track sector : Nat) : Nat := surface * 2 ^ 33 + track * 2 ^ 11 + sector

/-- One bit of a CRC-64 with the ECMA-182 polynomial (R72). -/
def crc64Bit (crc : BitVec 64) (b : Bool) : BitVec 64 :=
  if crc.getMsbD 0 != b then (crc <<< 1) ^^^ 0x42F0E1EBA9EA3693 else crc <<< 1

/-- The CRC over data bits in order, from the sector's seed (R72). -/
def crc64 (seed : Nat) (bits : List Bool) : BitVec 64 := bits.foldl crc64Bit (BitVec.ofNat 64 seed)

/-! ### Dispatch fetch (R76, R78, R80, R85) -/

/-- The descriptor at an address of system SRAM (R77). -/
def State.descriptorAt (s : State) (a id : Nat) : Disp :=
  { raw := (List.range 16).map (fun i => s.word (a + 4 * i)), id := id, leg := false, announced := [], settled := [],
    good := [], ended := none, align := 0, headStop := false }

/-- A descriptor that the lane refuses (R78, R121). -/
def State.badDescriptor (s : State) (n : Fin 4) (d : Disp) : Bool :=
  !(d.op == 1 || d.op == 2 || d.op == 3 || d.op == 4) || d.mode == 3 || laneOfHead d.head != n.val
    || d.count == 0 || decide (256 < d.count) || (d.mode == 2 && (decide (32 < d.count) || d.op != 1))
    || decide (40 < (signed 8 ((F.CHN_RPROF_OFFTRK.at (4 * d.rprof)).get
        (s.reg (.chn n) (Reg.CHN_RPROF + 4 * d.rprof)))).natAbs)

/-- The lane forms a report at once, without media work (R78, R85, R91). -/
def State.reportNow (s : State) (n : Fin 4) (d : Disp) (status : Nat) (stamped : Bool) : State :=
  let r : Report := ⟨d.slot, d.epoch, d.head, d.first, 0, d.notDelivered, status, 0, stamped, none⟩
  let l := s.lane n
  let s1 := s.setLane n { l with reports := l.reports ++ [r] }
  if d.leg then s1.legEnded n d.slot d.epoch else s1

/-- The dispatch waits in the lane to start, or is refused because of its head (R91). -/
def State.admitDisp (s : State) (n : Fin 4) (d : Disp) : State :=
  if s.headRefuses d then s.reportNow n d 3 true
  else s.setLane n { s.lane n with next := some d }

/-- The slot owes one leg (R85). -/
def State.setLegMark (s : State) (slot : Nat) (b : Bool) : State :=
  { s with cmd := { s.cmd with legMark := if b then addOnce s.cmd.legMark slot
                                           else s.cmd.legMark.filter (· != slot) } }

/-- The descriptor at the head of the ring waits there: of dual legs, one that would allocate a tracker (R83, R85). -/
def State.fetchWaits (s : State) (d : Disp) : Bool :=
  (s.slotState d.slot).isOpen && s.epochLimit d.slot
    && (d.mode == 1
      || (d.mode == 2 && (s.tracker? d.slot).isNone && !s.cmd.legMark.contains d.slot
        && decide (s.cmd.trackers.length < 1024)))

/-- A dual leg is stamped: it allocates a tracker, joins one, or is declined (R85). -/
def State.joinLeg (s : State) (n : Fin 4) (d0 : Disp) : State :=
  let d := d0.stamp (s.epoch d0.slot)
  match s.tracker? d.slot with
  | some t =>
    if t.seen.contains n.val ∨ 2 ≤ t.seen.length then s.reportNow n d 5 true
    else
      ((s.setTracker { t with seen := t.seen ++ [n.val], active := t.active ++ [n.val] }).setLegMark d.slot false).admitDisp n
        { d with leg := true }
  | none =>
    if s.cmd.legMark.contains d.slot then (s.setLegMark d.slot false).reportNow n d 5 true
    else if 1024 ≤ s.cmd.trackers.length then (s.setLegMark d.slot true).admitDisp n d
    else
      (({ s with cmd := { s.cmd with trackers := s.cmd.trackers ++ [⟨d.slot, d.epoch, [], d.count, [n.val], [n.val]⟩] } }
        : State).setLegMark d.slot true).admitDisp n { d with leg := true }

/-- The lane takes a descriptor off its ring: checked, stamped and admitted (R78, R80, R85). -/
def State.takeDescriptor (s : State) (n : Fin 4) (d : Disp) : State :=
  if s.badDescriptor n d then (s.err (.lane n) eConfig).reportNow n d 4 false
  else if !(s.slotState d.slot).isOpen then s.reportNow n (d.stamp (s.epoch d.slot)) 2 true
  else if d.mode = 0 then s.admitDisp n (d.stamp (s.epoch d.slot))
  else if d.mode = 1 then
    let s1 := s.advanceEpoch d.slot
    s1.admitDisp n (d.stamp (s1.epoch d.slot))
  else s.joinLeg n d

/-- The lane may fetch a dispatch: it takes work, holds none unstarted, its sequencer is not in FAULT, and its report ring
has room (R14, R76, R164). -/
def State.fetchReady (s : State) (n : Fin 4) : Bool :=
  s.takes (.lane n) && (s.lane n).next.isNone && (s.lane n).reports == [] && !(s.dq n).empty && !(s.rq n).full
    && s.unitState (.tsq n) == stIdle

/-- The descriptor that lane `n` fetches next. -/
def State.nextDescriptor (s : State) (n : Fin 4) : Disp :=
  s.descriptorAt ((s.reg (.lane n) Reg.LN_DQ_BASE).toNat + 64 * (s.dq n).head) (s.lane n).nextId

/-- The epoch that the fetch writes into bytes 4 to 7 of the descriptor (R77, R80). -/
def State.writeStamp (s : State) (n : Fin 4) (d : Disp) : State :=
  if s.badDescriptor n d then s
  else
    let e := if (s.slotState d.slot).isOpen && d.mode == 1 then (s.epoch d.slot + 1) % 256 else s.epoch d.slot
    s.setByte ((s.reg (.lane n) Reg.LN_DQ_BASE).toNat + 64 * (s.dq n).head + 6) (BitVec.ofNat 8 e)

/-- The lanes fetch no dispatch: a throttle frame is in its pause, or the device shuts down (R513, R516). -/
def State.fetchHeld (s : State) : Bool := s.dev.diePause || s.dev.mediaPause || s.dev.shutdown

/-- DISPATCH_FETCH. -/
def State.dispatchFetch (s : State) (n : Fin 4) : State :=
  let d := s.nextDescriptor n
  if !s.fetchReady n then s.ignore
  else if s.fetchHeld || (!s.badDescriptor n d && s.fetchWaits d) then s.wait
  else
    let s1 := s.writeStamp n d
    let s2 := s1.setReg (.lane n) Reg.LN_DQ_HEAD (BitVec.ofNat 32 (((s.dq n).head + 1) % (s.dq n).size))
    let s3 := s2.setLane n { s2.lane n with nextId := (s2.lane n).nextId + 1 }
    s3.takeDescriptor n d

/-- DISPATCH_FETCH (R76, R78, R80, R83, R85, R91). -/
def execDispatchFetch (n : Fin 4) (s : State) : Host.Outcome State Fault Refusal := done s (fun s => s.dispatchFetch n)

/-! ### Cancels (R80) -/

/-- The dispatch carries an older epoch of the slot. -/
def State.staleDisp (s : State) (slot : Nat) (d : Disp) : Bool := d.slot == slot && d.epoch != s.epoch slot

/-- Reports of the lane that carry an older epoch of the slot are discarded and counted (R79). -/
def State.dropStaleReports (s : State) (n : Fin 4) (slot : Nat) : State :=
  let l := s.lane n
  let gone := l.reports.filter (fun r => r.slot == slot && s.staleReport r)
  gone.foldl (fun t _ => t.countSat (.lane n) Reg.LN_EPOCH_DISC)
    (s.setLane n { l with reports := l.reports.filter (fun r => !(r.slot == slot && s.staleReport r)) })

/-- CANCEL_RECEIVE: work of the slot under an older epoch that has not started ends at once, work in progress is told to
stop at its next sector boundary, and a lane that then holds none acknowledges at once (R80). -/
def State.cancelReceive (s : State) (n : Fin 4) (slot : Nat) : State :=
  if !s.owes n slot then s.ignore
  else
    let l := s.lane n
    let s1 :=
      match l.next with
      | some d => if s.staleDisp slot d then (s.setLane n { l with next := none }).reportNow n d 2 true else s
      | none => s
    let s2 := (s1.reportSettled n).dropStaleReports n slot
    let l2 := s2.lane n
    let running := match l2.cur with | some d => s2.staleDisp slot d | none => false
    if running then s2.setLane n { l2 with cancelSeen := true }
    else if l2.tails.any (s2.staleDisp slot) then s2
    else s2.ackCancels n slot

/-- CANCEL_RECEIVE (R80). -/
def execCancelReceive (n : Fin 4) (slot : Nat) (s : State) : Host.Outcome State Fault Refusal :=
  done s (fun s => s.cancelReceive n slot)

/-- CANCEL_ACK: with no media work of the slot under an older epoch in progress, one acknowledgement answers every cancel
that the lane owes for the slot (R80). -/
def State.cancelAck (s : State) (n : Fin 4) (slot : Nat) : State :=
  let busy := ((s.lane n).next.toList ++ (s.lane n).cur.toList).any (s.staleDisp slot)
  s.when (s.owes n slot && !busy) (s.ackCancels n slot)

/-- CANCEL_ACK (R80). -/
def execCancelAck (n : Fin 4) (slot : Nat) (s : State) : Host.Outcome State Fault Refusal :=
  done s (fun s => s.cancelAck n slot)

/-! ### Reports (R76, R79) -/

/-- The sixteen bytes of a report: the fields of R79, whose places the spec does not give (DESIGN CHOICE, log entry 9). -/
def Report.bytes (r : Report) : List Byte :=
  let fields := [r.slot, r.epoch, r.head, r.first, r.delivered, if r.status = 6 then r.align.toNat else r.map.toNat,
    r.status]
  (List.range 16).map (fun i => Config.layout fields i)

/-- Media work of the slot under an older epoch, on the lane (R80). -/
def State.olderWork (s : State) (n : Fin 4) (slot : Nat) : Bool := (s.lane n).disps.any (s.staleDisp slot)

/-- REPORT_WRITE: the oldest report goes into the ring; one with a stale epoch is discarded, counted, and acknowledges the
cancel that made it stale, unless work of the slot that the cancel also stops still goes on in the lane (R76, R79, R80). -/
def State.reportWrite (s : State) (n : Fin 4) : State :=
  let l := s.lane n
  match l.reports with
  | [] => s.ignore
  | r :: rest =>
    let s1 := s.setLane n { l with reports := rest }
    if s.staleReport r then
      let s2 := s1.countSat (.lane n) Reg.LN_EPOCH_DISC
      if s2.olderWork n r.slot then s2 else s2.ackCancels n r.slot
    else if (s.rq n).full then s.wait
    else
      let q := s.rq n
      (s1.setBytes ((s.reg (.lane n) Reg.LN_RQ_BASE).toNat + 16 * q.tail) r.bytes).setReg (.lane n) Reg.LN_RQ_TAIL
        (BitVec.ofNat 32 ((q.tail + 1) % q.size))

/-! ### Head state (R88 to R91) -/

/-- The lane of a head. -/
def headLane (h : Nat) : Fin 4 := if h < 12 then 0 else if h < 24 then 1 else if h < 36 then 2 else 3

/-- Work of the lane on a head that has become unusable for it: what has not started is refused, what runs is stopped at
its next sector boundary (R91). -/
def State.stopHead (s : State) (h : Nat) : State :=
  let n := headLane h
  let l := s.lane n
  let hit := fun (d : Disp) => d.head == h && s.headRefuses d
  let s1 :=
    match l.next with
    | some d => if hit d then (s.setLane n { l with next := none }).reportNow n d 3 true else s
    | none => s
  let l1 := s1.lane n
  match l1.cur with
  | some d => if hit d then s1.setLane n { l1 with cur := some { d with headStop := true }, cancelSeen := true } else s1
  | none => s1

/-- HEAD_STATE_WRITE: MED_HEAD_DATA of the head that MED_HEAD_IDX selects; STATE 11b leaves STATE unchanged, and an index
of 48 or more selects no head (R88, R90, R91). -/
def State.headStateWrite (s : State) (v : Word) : State :=
  let h := (s.reg .med Reg.MED_HEAD_IDX).toNat % 64
  if 48 ≤ h then s
  else
    let st := F.MED_HEAD_DATA_STATE.get v
    let w := F.MED_HEAD_DATA_WR_INH.put (if st = 3 then s.headData h else F.MED_HEAD_DATA_STATE.put (s.headData h) st)
      (F.MED_HEAD_DATA_WR_INH.get v)
    ({ s with heads := Sparse.set (fun _ => 0) s.heads h w } : State).stopHead h

end Sys2Proof.Machine
end

