-- ==== Sys2Proof/Machine/Channel.lean ====
section
/-! DEFINITION. The read/write channel (R97 to R134): loop events, on-the-fly decoding, the sample buffer, the
deep-decode engine, and sync events. -/

namespace Sys2Proof.Machine

/-! ### Sync events (R116, R119, R130) -/

/-- The search for SM1: of the differing bits at −48 to +48, in time order, the first with no more than 2 (R115). -/
def sm1Find (d : List Nat) : Option Int :=
  ((List.range 97).find? (fun i => decide (i < d.length) && decide (d.getD i 32 ≤ 2))).map (fun i => (i : Int) - 48)

/-- The search for SM2 within `radius` bits: no more than 2 differing bits, the fewest, then the nearest to the predicted
place (R116); of two equally near the earlier (DESIGN CHOICE, log entry 117). -/
def sm2Find (radius : Nat) (d : List Nat) : Option Int :=
  let ok := (List.range 129).filter (fun i => decide (i < d.length) && decide (d.getD i 32 ≤ 2)
    && decide (((i : Int) - 64).natAbs ≤ radius))
  let rank := fun (i : Nat) => d.getD i 32 * 1000 + ((i : Int) - 64).natAbs
  (ok.foldl (fun (b : Option Nat) i => match b with
    | none => some i
    | some j => if rank i < rank j then some i else some j) none).map (fun i => (i : Int) - 64)

/-- The search for a resync mark within 12 bits: no more than 1 differing bit, the first in time (R117; which of several
DESIGN CHOICE, log entry 117).  Missed, the timing count places the continuation. -/
def resyncFind (d : List Nat) : Option Int :=
  ((List.range 25).find? (fun i => decide (i < d.length) && decide (d.getD i 16 ≤ 1))).map (fun i => (i : Int) - 12)

/-- SM1 was accepted, or the resync mark of a split stands in for it (R73, R115). -/
def SectRef.sm1Found (r : SectRef) : Bool := r.sm1.isSome || r.sm1Split

/-- k of the sector: where SM2 was found from where SM1 predicts it; a split SM2 is not searched, and the resync mark that
stands in for it agrees (R73, R116; DEDUCED, log entry 117). -/
def SectRef.sm2At (r : SectRef) (f : SyncFound) : Option Int :=
  if r.sm2Split then some 0 else sm2Find (if r.sm1Found && !r.lockLost then 16 else 64) f.sm2

/-- The event that the anchor of a sector calls for, as kind, shift and sample slot (R116). -/
def SectRef.anchorEvent (r : SectRef) (f : SyncFound) : List (Nat × Int × Nat) :=
  match r.sm2At f with
  | none => []
  | some k =>
    if r.lockLost then [(1, 0, 0)]
    else if r.sm1Found then (if k = 0 then [] else if k.natAbs ≤ 8 then [(2, k, 0)] else [(1, 0, 0)])
    else [(1, 0, 0)]

/-- The sector stands on an SM1 anchor with k = 0: its delivery raises no sync event, whichever path decoded it (R116). -/
def SectRef.plainAnchor (r : SectRef) (f : SyncFound) : Bool := r.sm1Found && !r.lockLost && r.sm2At f == some 0

/-- The 64 bits of a sync event (R130). -/
def SyncEvent.make (kind : Nat) (shift : Int) (sbuf : Nat) (r : SectRef) : SyncEvent :=
  ⟨BitVec.ofNat 32 (unsigned 5 shift * 2 ^ 27 + sbuf % 4 * 2 ^ 25 + kind % 8 * 2 ^ 22 + r.track % 2 ^ 22),
   BitVec.ofNat 32 (r.head % 64 * 2 ^ 11 + r.sector % 2 ^ 11)⟩

/-- SYNC_EVENT_POST: an event goes into the FIFO, or is lost with OVF and SEV_OVF when it holds 64 (R130). -/
def State.postSync (s : State) (n : Fin 4) (kind : Nat) (shift : Int) (sbuf : Nat) (r : SectRef) : State :=
  let c := s.ch n
  if 64 ≤ c.sync.length then (s.setF (.chn n) F.CHN_SEV_STAT_OVF 1).err (.chn n) 11
  else s.setCh n { c with sync := c.sync ++ [SyncEvent.make kind shift sbuf r] }

/-- The counter that a delivery under a kind of event counts in (R119, R131). -/
def State.countSync (s : State) (n : Fin 4) (kind : Nat) : State :=
  if kind = 1 then s.count64 (.chn n) Reg.CHN_CNT_SM2_LO
  else if kind = 2 then s.count64 (.chn n) Reg.CHN_CNT_REALIGN_LO
  else if kind = 3 then s.count64 (.chn n) Reg.CHN_CNT_SLIP_LO
  else if kind = 7 then s.count64 (.chn n) Reg.CHN_CNT_DEEP_LO
  else s

/-- SYNC_EVENT_POP: a read of CHN_SEV_LO removes the oldest entry and latches its high word; an empty FIFO reads 0, and the
latch takes 0.  OVF clears when the FIFO becomes empty (R4, R130, R132). -/
def State.syncEventPop (s : State) (eng : Engine) (n : Fin 4) : State :=
  let c := s.ch n
  match c.sync with
  | [] => (s.setLatch (.chn n) eng Reg.CHN_SEV_LO 0).answer (.value 0)
  | e :: rest =>
    let s1 := (s.setCh n { c with sync := rest }).setLatch (.chn n) eng Reg.CHN_SEV_LO e.hi
    (if rest = [] then s1.setF (.chn n) F.CHN_SEV_STAT_OVF 0 else s1).answer (.value e.lo)

/-! ### Loops and defects (R103, R104) -/

/-- A capture is open: the read gate is active (R42, R150). -/
def State.readGate (s : State) (n : Fin 4) : Bool := (s.tim n).caps != []

/-! ### The combiner and the loops (R101 to R105) -/

/-- The weighting mode in force: mode 00b behaves as the other reader's mode where one reader of the head is bad (R101). -/
def weightMode (weight : Nat) (row1 : Word) : Nat :=
  let a := F.CHN_HD_DATA_W1_A_BAD.get row1 == 1
  let b := F.CHN_HD_DATA_W1_B_BAD.get row1 == 1
  if weight = 0 then (if a && !b then 2 else if b && !a then 1 else 0) else weight

/-- WEIGHT in force for a sector under its profile and its head's row (R101, R121). -/
def SectRef.mode (r : SectRef) : Nat := weightMode (F.CHN_RPROF_WEIGHT.get r.prof) r.row.2

/-- The FIR of a reader adapts under a weighting mode: both in mode 00b, the one of modes 01b and 10b, none in mode 11b
(R101). -/
def firAdapts (mode : Nat) (readerB : Bool) : Bool := mode == 0 || mode == (if readerB then 2 else 1)

/-- FROZEN (R103, R105): the loops hold over a defect, a defect hold or a wedge exclusion. -/
def State.frozen (s : State) (n : Fin 4) : Bool :=
  (s.ch n).defect || (s.tim n).dhold || ((s.tim n).excl && s.readGate n)

/-- `k` free values, each below `m`. -/
def State.freeList (s : State) (k m : Nat) : List Nat := (List.range k).map (fun i => Config.freeNat (s.freeCtr + i) % m)

/-- The loops after they have run for a while, which the spec does not compute: free values in their ranges (R102, R132;
DESIGN CHOICE, log entry 1).  The gain, the baseline and the timing run always; the asymmetry, the FIRs that the weighting
mode and FIR_FRZ let adapt, and the predictors run at the tracking gains only. -/
def State.loopsMoved (s : State) (n : Fin 4) (mode : Nat) : Loops :=
  let l := (s.ch n).loops
  let f := s.freeList 126 (2 ^ 32)
  let trk := !(s.ch n).acq
  let fir := trk && !s.on (.chn n) F.CHN_LOOP_CTL_FIR_FRZ
  { gain := f.getD 0 0 % 241, fofs := unsigned 12 ((f.getD 1 0 % 2001 : Nat) - 1000 : Int), base := (f.drop 2).take 2,
    phase := f.getD 4 0 % 64, asy := if trk then (f.drop 5).take 2 else l.asy,
    firA := if fir && firAdapts mode false then (f.drop 7).take 10 else l.firA,
    firB := if fir && firAdapts mode true then (f.drop 17).take 10 else l.firB,
    preds := if trk then (f.drop 27).take 96 else l.preds }

/-- The read sector whose span is in progress. -/
def Timing.reading (t : Timing) : Option SectRef := t.act.find? (fun r => !r.write)

/-- The loops have run up to now; while they hold they keep their values, and outside a capture they have nothing to run on
(R102, R103, R105). -/
def State.runLoops (s : State) (n : Fin 4) : State :=
  if s.frozen n || !s.readGate n then s
  else
    let mode := match (s.tim n).reading with | some r => r.mode | none => 0
    let s1 := s.setCh n { s.ch n with loops := s.loopsMoved n mode }
    { s1 with freeCtr := s1.freeCtr + 126 }

/-! ### Positions (R73, R148, R149) -/

/-- Two references name one sector. -/
def SectRef.same (r q : SectRef) : Bool := r.dispId == q.dispId && r.idx == q.idx

/-- Changes a sector that the timing unit reads, in its span and in its capture. -/
def Timing.mapRead (t : Timing) (p : SectRef → Bool) (f : SectRef → SectRef) : Timing :=
  let g := fun (r : SectRef) => if p r && !r.write then f r else r
  { t with act := t.act.map g, caps := t.caps.map g }

/-- A position comes before another. -/
def before (w1 p1 w2 p2 : Nat) : Bool := decide (w1 < w2 ∨ (w1 = w2 ∧ p1 < p2))

/-- A timed item takes its place; items of one position keep their order (R149). -/
def insertTimed (l : List Timed) (x : Timed) : List Timed :=
  match l with
  | [] => [x]
  | y :: t => if before x.win x.pos y.win y.pos then x :: y :: t else y :: insertTimed t x

/-- A timed item is put into the timing unit. -/
def State.addTimed (s : State) (n : Fin 4) (win pos : Nat) (item : TimedItem) : State :=
  s.setTim n { s.tim n with timed := insertTimed (s.tim n).timed ⟨win, pos, item⟩ }

/-- The position `len` data bits after (win, pos) within a sector, with the 40-bit resync field at each split; an end at the
window's last bit is no split (R148, R151). -/
def advanceBits (winbits : Nat) (fuel win pos len : Nat) : Nat × Nat :=
  match fuel with
  | 0 => (win, pos + len)
  | fuel + 1 =>
    if pos + len ≤ winbits then (win, pos + len)
    else advanceBits winbits fuel (win + 1) resyncBits (len - (winbits - pos))

/-- The position `len` data bits ahead of (win, pos). -/
def backBits (winbits win pos len : Nat) : Nat × Nat :=
  if len ≤ pos then (win, pos - len) else (win - 1, winbits - (len - pos))

/-- The position `len` data bits after (win, pos), with no sector between and so no resync field. -/
def forthBits (winbits win pos len : Nat) : Nat × Nat :=
  if pos + len ≤ winbits then (win, pos + len) else (win + 1, len - (winbits - pos))

/-! ### Holds (R103, R154) -/

/-- A hold begins at a data bit: the loops keep what they have reached (R103). -/
def State.holdStart (s : State) (n : Fin 4) (win pos : Nat) : State :=
  let s1 := s.runLoops n
  s1.setTim n { s1.tim n with holdFrom := (s1.tim n).holdFrom.orElse (fun _ => some (win, pos)) }

/-- The span of a hold that ends at a data bit, extended by 8 bits on each side (R103, R154). -/
def Timing.holdSpan (t : Timing) (win pos : Nat) : List BitSpan :=
  match t.holdFrom with
  | none => []
  | some a =>
    let b := backBits t.winbits a.1 a.2 8
    let e := forthBits t.winbits win pos 8
    [⟨b.1, b.2, e.1, e.2⟩]

/-- When the last flag falls, at a data bit, the span enters the detector as erasures, and the loops run at their acquisition
gains for 64 bits (R103, R154). -/
def State.holdEnd (s : State) (n : Fin 4) (win pos : Nat) : State :=
  if (s.ch n).defect || (s.tim n).dhold then s
  else
    let t := s.tim n
    let t1 := t.mapRead (fun r => t.act.any (fun q => q.same r)) (fun r => { r with erased := r.erased ++ t.holdSpan win pos })
    let s1 := s.setTim n { t1 with holdFrom := none }
    let e := forthBits t.winbits win pos 64
    if s1.readGate n then (s1.setCh n { s1.ch n with acq := true }).addTimed n e.1 e.2 .track else s1

/-- DEFECT_DETECT: with DEFECT_EN, the defect flag rises and every loop holds (R103). -/
def execDefectDetect (d : DefectPoint) (s : State) : Host.Outcome State Fault Refusal :=
  let n := d.lane
  done s (fun s => s.when (s.live (.chn n) && s.readGate n && !(s.tim n).excl && s.on (.chn n) F.CHN_CTL_DEFECT_EN)
    (let s1 := s.holdStart n (s.tim n).winSeq d.bit
     s1.setCh n { s1.ch n with defect := true }))

/-- DEFECT_END: the defect flag falls, and, unless a defect hold lasts, the loops run again (R103). -/
def execDefectEnd (d : DefectPoint) (s : State) : Host.Outcome State Fault Refusal :=
  let n := d.lane
  done s (fun s => s.when (s.ch n).defect
    ((s.setCh n { s.ch n with defect := false }).holdEnd n (s.tim n).winSeq d.bit))

/-- The sector whose span is in progress has lost timing lock (R104). -/
def Timing.loseLock (t : Timing) : Timing :=
  t.mapRead (fun r => t.act.any (fun q => q.same r)) (fun r => { r with lockLost := true })

/-- TIMING_LOCK_LOST: LOCKED clears, LOCK_LOST sets, and the sector is not decoded on the fly (R104). -/
def State.timingLockLost (s : State) (n : Fin 4) : State :=
  s.when (s.live (.chn n) && s.readGate n)
    (((s.setF (.chn n) F.CHN_LOOP_STAT_LOCKED 0).err (.chn n) 10).setTim n (s.tim n).loseLock)

/-- TIMING_LOCK_LOST (R104). -/
def execTimingLockLost (n : Fin 4) (s : State) : Host.Outcome State Fault Refusal :=
  done s (fun s => s.timingLockLost n)

/-! ### Profiles (R121) -/

/-- DDGLOB, with 21 to 31 taken as 20 (R132). -/
def SectRef.ddglob (r : SectRef) : Nat := min (F.CHN_RPROF_DDGLOB.get r.prof) 20

/-! ### The sample buffer (R109 to R111) -/

/-- Slip hypotheses are tried for the sector (R118). -/
def State.slipAllowed (s : State) (n : Fin 4) (want : Bool) : Bool := want && s.on (.chn n) F.CHN_CTL_SLIP_EN

/-- Automatic recovery has something to try on the sector (R120). -/
def State.autoWanted (s : State) (n : Fin 4) (r : SectRef) : Bool :=
  s.slipAllowed n (F.CHN_RPROF_SLIP.get r.prof == 1) || r.ddglob != 0

/-- SAMPLE_PIN: a sector that failed on the fly under a profile with PIN is pinned if fewer than two slots are, with event
100b; else it is refused with event 101b (R110, R120). -/
def State.pinOrGiveUp (s : State) (n : Fin 4) (slot : Nat) (found : SyncFound) (samples : List (Nat × Nat)) (r : SectRef)
    (auto : Bool) : State :=
  if F.CHN_RPROF_PIN.get r.prof = 0 then s.finish n r false
  else if 2 ≤ (s.ch n).pins.length then
    (((s.postSync n 5 0 0 r).count64 (.chn n) Reg.CHN_CNT_SBUF_FULL_LO).err (.chn n) 12).finish n r false
  else
    let a := auto && s.autoWanted n r
    let s1 := s.setCh n { s.ch n with pins := (s.ch n).pins ++ [⟨slot, r, a, false, samples, found, false⟩] }
    let s2 := s1.postSync n 4 0 slot r
    if a then s2 else s2.finish n r false

/-- A slot's pin goes; a sector still in automatic recovery is given up (R111). -/
def State.unpin (s : State) (n : Fin 4) (slot : Nat) : State :=
  match s.pin? n slot with
  | none => s
  | some p =>
    let s1 := s.releaseOn n (fun x => x.num == slot)
    if p.auto && !p.done then s1.finish n p.ref false else s1

/-- The lane starts sampling a sector: a pin of the same head, track and sector goes (R111). -/
def State.unpinSame (s : State) (n : Fin 4) (r : SectRef) : State :=
  (s.ch n).pins.foldl
    (fun (t : State) (p : Pin) => if p.ref.head = r.head ∧ p.ref.track = r.track ∧ p.ref.sector = r.sector then t.unpin n p.num else t) s

/-! ### On-the-fly decoding (R107, R108) -/

/-- A sector whose decode was good waits for the channel DMA port. -/
def State.pushResult (s : State) (n : Fin 4) (r : SectRef) (sync : List (Nat × Int × Nat)) (path : ResultPath) (deep : Bool) :
    State :=
  s.setCh n { s.ch n with results := (s.ch n).results ++ [⟨r, sync, path, deep⟩] }

/-- SECTOR_DECODE: the oldest sampled sector is decoded on the fly (R104, R107 to R110, R116). -/
def State.sectorDecode (s : State) (n : Fin 4) (slot : Nat) (found : SyncFound) (samples : List (Nat × Nat)) (res : Decoded) :
    State :=
  match (s.ch n).due with
  | [] => s.ignore
  | r :: rest =>
    if !s.live (.chn n) || (s.pin? n slot).isSome then s.ignore
    else
      let s0 := s.setCh n { s.ch n with due := rest }
      if !r.captured then (s0.count64 (.chn n) Reg.CHN_CNT_OTF_FAIL_LO).finish n r false
      else if res = .sampleParity then
        ((s0.err (.chn n) eParity).count64 (.chn n) Reg.CHN_CNT_OTF_FAIL_LO).finish n r false
      else if r.lockLost then
        (s0.count64 (.chn n) Reg.CHN_CNT_OTF_FAIL_LO).pinOrGiveUp n slot found samples r true
      else
        let s1 := s0.count64 (.chn n) Reg.CHN_CNT_SECT_LO
        match res with
        | .good => s1.pushResult n r (r.anchorEvent found) .otf false
        | .crcFail =>
          (((s1.count64 (.chn n) Reg.CHN_CNT_CRC_LO).postSync n 6 0 0 r).count64 (.chn n)
            Reg.CHN_CNT_OTF_FAIL_LO).pinOrGiveUp n slot found samples r false
        | _ => (s1.count64 (.chn n) Reg.CHN_CNT_OTF_FAIL_LO).pinOrGiveUp n slot found samples r true

/-- SECTOR_DECODE (R108). -/
def execSectorDecode (n : Fin 4) (slot : Fin 4) (x : Sampled) (res : Decoded) (s : State) : Host.Outcome State Fault Refusal :=
  done s (fun s => s.sectorDecode n slot.val x.found x.raw res)

/-! ### The deep-decode engine (R112, R113, R118, R120) -/

/-- The sync events that a deep-decoded sector posts when it is delivered: the one its anchor calls for, then 111b, but none
on an SM1 anchor with k = 0 (R116, R130; both, in this order, DESIGN CHOICE, log entry 117). -/
def Pin.deepEvents (p : Pin) : List (Nat × Int × Nat) :=
  if p.ref.plainAnchor p.found then [] else p.ref.anchorEvent p.found ++ [(7, 0, p.num)]

/-- A slip hypothesis that R118 tries, where slips are allowed. -/
def slipOk (allowed : Bool) (slip : Option Int) : Bool :=
  match slip with
  | none => true
  | some k => allowed && decide (1 ≤ k.natAbs ∧ k.natAbs ≤ 4)

/-- Changes the pin of a slot. -/
def Channel.mapPin (c : Channel) (slot : Nat) (f : Pin → Pin) : Channel :=
  { c with pins := c.pins.map (fun x => if x.num = slot then f x else x) }

/-- AUTO_RECOVERY: the automatic recovery of the slot pinned longest ends (R112, R118, R120).  A sector recovered waits for
the DMA port, and its slot stays pinned until it has been delivered (R111, R113). -/
def State.autoRecovery (s : State) (n : Fin 4) (slip : Option Int) (res : Decoded) : State :=
  match (s.ch n).job, (s.ch n).pins.find? (fun p => p.auto && !p.done) with
  | none, some p =>
    let allowed := s.slipAllowed n (F.CHN_RPROF_SLIP.get p.ref.prof == 1)
    if !slipOk allowed slip || (slip.isNone && res == .good && p.ref.ddglob == 0) then s.ignore
    else
      let off := s.setCh n ((s.ch n).mapPin p.num (fun x => { x with auto := false }))
      let kept := s.setCh n ((s.ch n).mapPin p.num (fun x => { x with done := true }))
      let gone := s.setCh n { s.ch n with pins := (s.ch n).pins.filter (fun (x : Pin) => x.num != p.num) }
      let s1 :=
        match slip, res with
        | some k, _ => kept.pushResult n p.ref [(3, k, 0)] (.auto p.num) false
        | none, .good => kept.pushResult n p.ref p.deepEvents (.auto p.num) true
        | none, .crcFail => ((off.count64 (.chn n) Reg.CHN_CNT_CRC_LO).postSync n 6 0 0 p.ref).finish n p.ref false
        | none, .sampleParity => (gone.err (.chn n) eParity).finish n p.ref false
        | none, .notConverged => off.finish n p.ref false
      s1.ddNext n
  | _, _ => s.ignore

/-- AUTO_RECOVERY (R120). -/
def execAutoRecovery (n : Fin 4) (slip : Option Int) (res : Decoded) (_globals : Nat) (s : State) :
    Host.Outcome State Fault Refusal :=
  done s (fun s => s.when (s.live (.chn n)) (s.autoRecovery n slip res))

/-- DEEP_DECODE_CMD: a write of CHN_DD_CMD, with GO a command of the deep-decode engine (R112, R132).  A command written
while one is queued is refused whatever it asks; any other is accepted and clears REJ, one that completes at once too; a bad
GLOB is answered before an unavailable slot (DESIGN CHOICE, log entry 117). -/
def State.deepDecodeCmd (s : State) (n : Fin 4) (v : Word) : State :=
  let s0 := s.writePlain (.chn n) Reg.CHN_DD_CMD v
  let c := s0.ch n
  let slot := F.CHN_DD_CMD_SLOT.get v
  let glob := F.CHN_DD_CMD_GLOB.get v
  if F.CHN_DD_CMD_GO.get v = 0 then s0
  else if c.queued.isSome then s0.setF (.chn n) F.CHN_DD_STAT_REJ 1
  else
    let s1 := s0.setF (.chn n) F.CHN_DD_STAT_REJ 0
    if glob = 0 ∨ 20 < glob then (s1.ddResult n slot 2 0).err (.chn n) eConfig
    else
      match s1.pin? n slot with
      | none => s1.ddResult n slot 4 0
      | some p =>
        if p.auto then s1.ddResult n slot 4 0
        else
          let j : DdJob := { num := slot, ref := p.ref, released := false, glob := glob,
                             weight := weightMode (F.CHN_DD_CMD_WEIGHT.get v) p.ref.row.2, done := false,
                             slip := F.CHN_DD_CMD_SLIP.get v == 1 }
          let c1 := c.mapPin slot (fun x => { x with cmd := true })
          s1.setCh n (if c.ddBusy then { c1 with queued := some j } else { c1 with job := some j })

/-- DEEP_DECODE_CMD (R112). -/
def execDeepDecodeCmd (eng : Engine) (n : Fin 4) (v : Word) (s : State) : Host.Outcome State Fault Refusal :=
  done s (fun s => s.access eng .store (.chn n) Reg.CHN_DD_CMD none (s.deepDecodeCmd n v))

/-- The epoch of a sector is no longer its slot's (R81). -/
def State.staleSector (s : State) (r : SectRef) : Bool := s.epoch r.slot != r.epoch

/-- A firmware command has ended, with its result (R112, R132). -/
def State.jobEnd (s : State) (n : Fin 4) (slot result globals : Nat) : State :=
  ((s.setCh n { s.ch n with job := none }).ddResult n slot result globals).ddNext n

/-- DEEP_DECODE_DONE: the decoding of the firmware command in progress ends (R107, R111 to R113).  A sector recovered waits
for the DMA port, whose epoch check decides the command's RESULT (R113). -/
def State.deepDecodeDone (s : State) (n : Fin 4) (slip : Option Int) (res : Decoded) (globals : Nat) : State :=
  match (s.ch n).job with
  | none => s.ignore
  | some j =>
    let good := slip.isSome || res == .good
    let kept := s.setCh n { s.ch n with job := some { j with done := true } }
    let path := ResultPath.command j.num globals
    if j.done || !slipOk (s.slipAllowed n j.slip) slip then s.ignore
    else if good && s.staleSector j.ref then (s.countSat (.lane n) Reg.LN_EPOCH_DISC).jobEnd n j.num 6 globals
    else
      match s.pin? n j.num, j.released with
      | some p, false =>
        match slip, res with
        | some k, _ => kept.pushResult n j.ref [(3, k, 0)] path false
        | none, .good => kept.pushResult n j.ref p.deepEvents path true
        | none, .crcFail => ((s.count64 (.chn n) Reg.CHN_CNT_CRC_LO).postSync n 6 0 0 j.ref).jobEnd n j.num 3 globals
        | none, .sampleParity => ((s.err (.chn n) eParity).unpin n j.num).jobEnd n j.num 5 globals
        | none, .notConverged => s.jobEnd n j.num 2 globals
      | _, _ => s.jobEnd n j.num 5 globals

/-- DEEP_DECODE_DONE (R112, R113). -/
def execDeepDecodeDone (n : Fin 4) (slip : Option Int) (res : Decoded) (globals : Nat) (s : State) :
    Host.Outcome State Fault Refusal :=
  done s (fun s => s.when (s.live (.chn n)) (s.deepDecodeDone n slip res globals))

/-- SBUF_RELEASE: each 1 in REL releases its slot (R111, R132). -/
def execSbufRelease (eng : Engine) (n : Fin 4) (v : Word) (s : State) : Host.Outcome State Fault Refusal :=
  done s (fun s => s.access eng .store (.chn n) Reg.CHN_SBUF_REL none
    (([0, 1, 2, 3].filter (fun i => v.getLsbD i)).foldl (fun t i => t.unpin n i) s))

/-- PIN_TIMEOUT: 1 s after pinning, a slot that no deep-decode command has named is released (R111). -/
def State.pinTimeout (s : State) (n : Fin 4) (slot : Nat) : State :=
  match s.pin? n slot with
  | none => s.ignore
  | some p => if p.cmd then s.ignore else s.unpin n slot

/-- PIN_TIMEOUT (R111). -/
def execPinTimeout (n : Fin 4) (slot : Fin 4) (s : State) : Host.Outcome State Fault Refusal :=
  done s (fun s => s.pinTimeout n slot.val)

/-! ### Writing (R127 to R129) -/

/-- PA_FAULT_INPUT: the level of Ln_PA_FLT_N; low, it stops a write in progress with cause 010b and drops Ln_AGATE (R127,
R128, R208). -/
def State.paFaultInput (s : State) (n : Fin 4) (low : Bool) : State :=
  let s1 := s.setLane n { s.lane n with paLow := low }
  let s2 := if low && s1.writing n then s1.writeStop n wsPreamp else s1.updWgate n
  s2.updAgate n

/-- PA_FAULT_INPUT (R127). -/
def execPaFaultInput (n : Fin 4) (low : Bool) (s : State) : Host.Outcome State Fault Refusal :=
  done s (fun s => s.paFaultInput n low)

end Sys2Proof.Machine
end

