-- ==== Sys2Proof/Machine/Buffer.lean ====
section
/-! DEFINITION. Buffer memory and data integrity (R259 to R288): line reads and writes with the symbol code, poison, the
correction history and its write-backs, the translation table, scrubbing, page retirement and fault injection. -/

namespace Sys2Proof.Machine

/-- Class-specific bits of the buffer's UNIT_ERR (R288). -/
abbrev beRecur : Nat := 8
abbrev beFltTmo : Nat := 9
abbrev beEvOvf : Nat := 10
abbrev beTrain : Nat := 11

/-- Event kinds (R287). -/
abbrev evWritten : Nat := 1
abbrev evRecur : Nat := 2
abbrev evUncorr : Nat := 3
abbrev evPoison : Nat := 4
abbrev evSys : Nat := 5
abbrev evQueue : Nat := 6

/-! ### Pages and the translation table (R265 to R267) -/

/-- The first byte of DRAM (R31). -/
abbrev dramBase : Nat := 0x100000000

/-- The pages that SIZE gives (R265); 0 for a reserved value. -/
def State.dramPages (s : State) : Nat := dramSize (s.f .buf F.BUF_CFG_SIZE) / 4096

/-- A page of the pool (R265). -/
def State.inPool (s : State) (p : Nat) : Bool := decide (s.f .buf F.BUF_FW_PAGES_PAGES ≤ p ∧ p < s.dramPages)

/-- A physical page that holds entries of the table (R266). -/
def State.inBtt (s : State) (p : Nat) : Bool :=
  let b := s.f .buf F.BUF_BTT_BASE_PAGE
  decide (b ≤ p ∧ p * 4096 < b * 4096 + 4 * s.f .buf F.BUF_HDL_LIMIT_LIMIT)

/-- The address of a handle's entry (R266). -/
def State.bttAddr (s : State) (h : Nat) : Nat := dramBase + s.f .buf F.BUF_BTT_BASE_PAGE * 4096 + 4 * h

/-- A handle's entry; 0 at or above HDL_LIMIT (R266, R287). -/
def State.btt (s : State) (h : Nat) : Word := if h < s.f .buf F.BUF_HDL_LIMIT_LIMIT then s.word (s.bttAddr h) else 0

/-- The state with a handle's entry replaced (R267). -/
def State.setBtt (s : State) (h : Nat) (w : Word) : State :=
  if h < s.f .buf F.BUF_HDL_LIMIT_LIMIT then s.setBytes (s.bttAddr h) (wordBytes w) else s

/-- The fields of an entry. -/
def bttValid (w : Word) : Bool := F.BUF_BTT_DATA_VALID.get w == 1
def bttPoison (w : Word) : Bool := F.BUF_BTT_DATA_POISON.get w == 1
def bttMoving (w : Word) : Bool := F.BUF_BTT_DATA_MOVING.get w == 1
def bttPpn (w : Word) : Nat := F.BUF_BTT_DATA_PPN.get w

/-- A granule's POISON set or cleared (R268, R273). -/
def State.setPoison (s : State) (h : Nat) (p : Bool) : State :=
  s.setBtt h (F.BUF_BTT_DATA_POISON.put (s.btt h) (bit p))

/-- BTT_WRITE: the whole entry of the selected handle is replaced (R267). -/
def State.bttWrite (s : State) (v : Word) : State :=
  let h := s.f .buf F.BUF_BTT_IDX_HANDLE
  let old := s.btt h
  if s.f .buf F.BUF_HDL_LIMIT_LIMIT ≤ h then s
  else if (bttValid v && !s.inPool (bttPpn v)) || bttMoving v != bttMoving old || bttMoving old then s.err .buf eConfig
  else s.setBtt h (v &&& 0xC07FFFFF)

/-- BTT_WRITE (R267). -/
def execBttWrite (eng : Engine) (v : Word) (s : State) : Host.Outcome State Fault Refusal :=
  done s (fun s => s.access eng .store .buf Reg.BUF_BTT_DATA none (s.bttWrite v))

/-! ### Events -/

/-- An event is posted, or lost when 32 wait (R287, R288). -/
def State.bufEvent (s : State) (kind addr src : Nat) (h : Option Nat) : State :=
  if 32 ≤ s.buf.events.length then (s.setF .buf F.BUF_EV_STAT_OVF 1).err .buf beEvOvf
  else
    let lo := BitVec.ofNat 32 (kind * 2 ^ 29 + addr % 2 ^ 29)
    let hi := BitVec.ofNat 32 (src * 2 ^ 28 + (match h with | some x => 2 ^ 24 + x % 2 ^ 23 | none => 0))
    { s with buf := { s.buf with events := s.buf.events ++ [(lo, hi)] } }

/-- BUF_EV_POP: the oldest event is removed and its high word latched (R4, R287). -/
def State.bufEvPop (s : State) (e : Engine) : State :=
  match s.buf.events with
  | [] => (s.setLatch .buf e Reg.BUF_EV_LO 0).answer (.value 0)
  | (lo, hi) :: t =>
    let s1 : State := { s with buf := { s.buf with events := t } }
    let s2 := if t.isEmpty then s1.setF .buf F.BUF_EV_STAT_OVF 0 else s1
    (s2.setLatch .buf e Reg.BUF_EV_LO hi).answer (.value lo)

/-- BUF_EV_POP (R4). -/
def execBufEvPop (eng : Engine) (s : State) : Host.Outcome State Fault Refusal :=
  done s (fun s => s.access eng .load .buf Reg.BUF_EV_LO none (s.bufEvPop eng))

/-! ### The symbol code (R262 to R264) -/

/-- How a codeword is decoded (R263); `miss` when a pattern beyond the code's reach passes for a good one. -/
inductive CwKind where
  | clean | corrected | poisoned | uncorr | miss
  deriving DecidableEq, Repr

/-- The pins of a mask, the lowest first. -/
def pinList (m : Nat) : List Nat := (List.range 40).filter (fun i => m.testBit i)

/-- The decoding of one codeword: stored normally or with the poison pattern, with symbols in error on `pins` (R263). -/
def cwDecode (pois : Bool) (pins : Nat) (far : Far) : CwKind :=
  let n := (pinList pins).length
  if n ≤ 2 then (if pois then .poisoned else if n = 0 then .clean else .corrected)
  else
    match far with
    | .poison => .poisoned
    | .uncorr => .uncorr
    | .miss => if !pois && decide (n ≤ 6) then .uncorr else .miss

/-- The pins stored wrong in a line (R285). -/
def State.flip (s : State) (l : Nat) : Nat × Nat := Sparse.get (fun _ => (0, 0)) s.buf.flips l

/-- The decoding of a line: what it is as a whole (R263), the codewords corrected and the lowest pin corrected (R287). -/
structure LineKind where
  kind : CwKind
  ce : Nat
  pin : Nat
  miss : Bool
  deriving DecidableEq, Repr

/-- A line is poisoned if either codeword is, uncorrectable if either is and neither is poisoned (R263). -/
def State.decodeLine (s : State) (l : Nat) (x : LineRead) : LineKind :=
  let p := s.buf.poisoned.contains l
  let pa := (s.flip l).1 ||| x.a.pins
  let pb := (s.flip l).2 ||| x.b.pins
  let ka := cwDecode p pa x.a.far
  let kb := cwDecode p pb x.b.far
  let has := fun k => ka == k || kb == k
  let kind := if has .poisoned then CwKind.poisoned else if has .uncorr then .uncorr
    else if has .corrected then .corrected else .clean
  let pins := (if ka = .corrected then pinList pa else []) ++ (if kb = .corrected then pinList pb else [])
  ⟨kind, bit (ka == .corrected) + bit (kb == .corrected), pins.foldl Nat.min 63 % 63, has .miss⟩

/-! ### The correction history (R276, R277) -/

/-- The lap in progress, mod 256 (R276). -/
def State.lap (s : State) : Nat := (s.reg .buf Reg.BUF_SCRUB_LAP).toNat % 256

/-- The entry that a line maps to (R276). -/
def histIndex (l : Nat) : Nat :=
  Nat.xor (Nat.xor (l % 256) (l / 2 ^ 8 % 256)) (Nat.xor (l / 2 ^ 16 % 256) (l / 2 ^ 24 % 32))

/-- An entry of the history, if it is in use. -/
def State.histAt (s : State) (h : Nat) : Option Hist := Sparse.find? s.buf.hist h

/-- The state with an entry of the history replaced. -/
def State.setHist (s : State) (h : Nat) (e : Hist) : State :=
  { s with buf := { s.buf with hist := Sparse.insert s.buf.hist h e } }

/-- A write-back of a line becomes due, once. -/
def State.dueWriteBack (s : State) (l : Nat) : State := { s with buf := { s.buf with wbq := addOnce s.buf.wbq l } }

/-- HISTORY_UPDATE: a corrected read of a line (R276). -/
def State.histUpdate (s : State) (l pin src : Nat) (hdl : Option Nat) : State :=
  let i := histIndex l
  let n := s.lap
  let fresh : Hist := ⟨l, false, 1, n, pin⟩
  match s.histAt i with
  | none => s.setHist i fresh
  | some e =>
    if e.line = l then
      if e.wb then
        ((((s.setHist i { e with pin := pin }).bufEvent evRecur l src hdl).err .buf beRecur).count64 .buf
          Reg.BUF_CNT_RECUR_LO)
      else if e.lap = n then
        let c := min (e.count + 1) 3
        let s1 := s.setHist i { e with count := c, pin := pin }
        if c = 3 then s1.dueWriteBack l else s1
      else s.setHist i { e with count := 1, lap := n, pin := pin }
    else if e.wb && (e.lap == n || e.lap == (n + 255) % 256) then s.count64 .buf Reg.BUF_CNT_HMISS_LO
    else s.setHist i fresh

/-- WB is set with LAP = N (R277). -/
def State.markWb (s : State) (l : Nat) : State :=
  match s.histAt (histIndex l) with
  | some e => if e.line = l then s.setHist (histIndex l) { e with wb := true, lap := s.lap } else s
  | none => s

/-- A line is no longer due for a write-back. -/
def State.dropWriteBack (s : State) (l : Nat) : State :=
  { s with buf := { s.buf with wbq := s.buf.wbq.filter (· != l) } }

/-! ### Reads of a line -/

/-- How a read of a line ends: the state, the bus error, the codewords corrected, and whether the data delivered is not
what was stored. -/
structure LineRes where
  s : State
  cause : Option BusCause
  ce : Nat
  miss : Bool

/-- A corrected read: its counts and the history (R276). -/
def State.corrected (s : State) (l src : Nat) (h : Option Nat) (k : LineKind) : State :=
  if k.kind = .corrected then
    (s.setReg64 .buf Reg.BUF_CNT_CE_LO (s.reg64 .buf Reg.BUF_CNT_CE_LO + k.ce)).histUpdate l k.pin src h
  else s

/-- A granule's POISON on a read that came through a handle (R273). -/
def State.poisonVia (s : State) (h : Option Nat) : State :=
  match h with
  | some x => s.setPoison x true
  | none => s

/-- A poisoned line met (R273, R274). -/
def State.metPoison (s : State) (l src : Nat) (h : Option Nat) : State :=
  match h with
  | some x => (s.setPoison x true).bufEvent evPoison l src h
  | none => s

/-- The buffer poisons a line: its data as last read, with the poison pattern (R264, R273). -/
def State.poisonLine (s : State) (l : Nat) : State :=
  ({ s with buf := { s.buf with poisoned := addOnce s.buf.poisoned l
                                flips := Sparse.set (fun _ => (0, 0)) s.buf.flips l (0, 0) } } : State).dropWriteBack l

/-- UNCORRECTABLE_REREAD's lasting end (R273). -/
def State.metUncorr (s : State) (l src : Nat) (h : Option Nat) : State :=
  (((((s.poisonLine l).poisonVia h).err .buf eUncorr).lasting .buf).count64 .buf Reg.BUF_CNT_UE_LO).bufEvent evUncorr l src h

/-- DRAM_READ: a read of line `l` for requester `src`, through handle `h` if one is given (R263, R273, R276). -/
def State.readLine (s : State) (l src : Nat) (h : Option Nat) (first again : LineRead) : LineRes :=
  let k := s.decodeLine l first
  if k.kind = .poisoned then ⟨s.metPoison l src h, some .poisoned, 0, false⟩
  else if k.kind = .uncorr then
    let k2 := s.decodeLine l again
    if k2.kind = .poisoned then ⟨s.metPoison l src h, some .poisoned, 0, false⟩
    else if k2.kind = .uncorr then ⟨s.metUncorr l src h, some .uncorrectable, 0, false⟩
    else ⟨(s.transient .buf).corrected l src h k2, none, k2.ce, k2.miss⟩
  else ⟨s.corrected l src h k, none, k.ce, k.miss⟩

/-- The address of a line. -/
def lineAddr (l : Nat) : Nat := dramBase + 64 * l

/-- The 64 bytes of a line as a read delivers them: as stored, or free where the code was deceived. -/
def State.lineData (s : State) (l : Nat) (miss : Bool) : List Byte :=
  if miss then (List.range 64).map (Config.freeByte s.freeCtr) else s.bytes (lineAddr l) 64

/-! ### Writes of a line -/

/-- A line has been written whole: its poison and its stored errors are gone (R264), its write-back is done (R277), and an
armed injection inverts the bits on its pins (R285). -/
def State.lineWritten (s : State) (l : Nat) : State :=
  let b := s.buf
  let s1 : State := { s with buf := { b with poisoned := b.poisoned.filter (· != l)
                                             flips := Sparse.set (fun _ => (0, 0)) b.flips l (0, 0) } }
  let s2 := if b.wbq.contains l then (s1.dropWriteBack l).markWb l else s1
  if s2.on .buf F.BUF_INJ_CTL_ARM && s2.f .buf F.BUF_INJ_CTL_TARGET == 0 && s2.f .buf F.BUF_INJ_ADDR_ADDR == l then
    let pins := (s2.reg .buf Reg.BUF_INJ_PINS).toNat + 2 ^ 32 * s2.f .buf F.BUF_INJ_CB_CB
    let beats := s2.f .buf F.BUF_INJ_CB_BEATS
    let fl := (if beats % 256 = 0 then 0 else pins, if beats / 256 = 0 then 0 else pins)
    let s3 := s2.setF .buf F.BUF_INJ_CTL_ARM 0
    { s3 with buf := { s3.buf with flips := Sparse.set (fun _ => (0, 0)) s3.buf.flips l fl } }
  else s2

/-- DRAM_LINE_WRITE: a write of the whole line (R264). -/
def State.writeLine (s : State) (l : Nat) (data : List Byte) : State :=
  (s.setBytes (lineAddr l) (data.take 64)).lineWritten l

/-- DRAM_PARTIAL_WRITE: a read-modify-write of the whole line, which does not take place when the read ends in an error
(R264). -/
def State.writePart (s : State) (l off : Nat) (data : List Byte) (src : Nat) (h : Option Nat) (first again : LineRead) :
    State × Option BusCause :=
  let r := s.readLine l src h first again
  match r.cause with
  | some c => (r.s, some c)
  | none =>
    let old := r.s.lineData l r.miss
    let t := if r.miss then r.s.spend else r.s
    ((t.writeLine l ((old.take off ++ data ++ old.drop (off + data.length)).take 64)), none)

/-! ### Accesses to one line by a requester -/

/-- SRC of a requester (R287). -/
def srcNum : DramSrc → Nat
  | .engine _ => 0 | .handle _ => 1 | .dataPlane _ => 5

/-- The handle of a requester. -/
def srcHandle : DramSrc → Option Nat
  | .handle h => some h | _ => none

/-- The requester of a physical access to a line; a handle is translated instead (R31). -/
def dramRequester : DramSrc → Option Requester
  | .engine e => some (.engine e)
  | .dataPlane p => some (.dma p)
  | .handle _ => none

/-- The checks of the address map on an access to a line (R31, R32): no DRAM there, or no right to it. -/
def State.lineMap (s : State) (src : DramSrc) (l : Nat) (write : Bool) : Option BusCause :=
  if s.dramUsed ≤ 64 * l then some .unmapped
  else
    match dramRequester src with
    | none => none
    | some r => if s.allowed r .dram (lineAddr l) 64 (if write then .write else .read) then none else some .accessDenied

/-- What stands before an access to a line, in the order of R29: the address map (R31, R32), the unit in RESET (R15), then a
translation fault, a POISON granule on a read, or the table's pages on an engine's write (R266, R268).  The line named must
lie in the page that the handle's entry names. -/
def State.lineGate (s : State) (src : DramSrc) (l : Nat) (write : Bool) : Option BusCause :=
  if (s.lineMap src l write).isSome then s.lineMap src l write
  else if s.inReset .buf then some .unitInReset
  else
    match src with
    | .engine _ => if write && s.inBtt (l / 64) then some .accessDenied else none
    | .dataPlane _ => none
    | .handle h =>
      let e := s.btt h
      if !bttValid e || bttPpn e != l / 64 then some .translationFault
      else if bttPoison e && !write then some .poisoned
      else none

/-- The access stalls while its handle is being moved (R282). -/
def State.lineStalls (s : State) (src : DramSrc) : Bool :=
  match src with
  | .handle h => bttMoving (s.btt h)
  | _ => false

/-- DRAM_READ (R263). -/
def State.dramRead (s : State) (src : DramSrc) (l : Nat) (first again : LineRead) : State :=
  match s.lineGate src l false with
  | some c => s.answer (.busError c)
  | none =>
    if s.lineStalls src then s.wait
    else
      let r := s.readLine l (srcNum src) (srcHandle src) first again
      match r.cause with
      | some c => r.s.answer (.busError c)
      | none => (if r.miss then r.s.spend else r.s).answer (.data (r.s.lineData l r.miss))

/-- An engine's access to a line has ended: an application core takes a bus error as a precise access fault (R29). -/
def State.lineEnd (s : State) (src : DramSrc) (k : CoreKind) (l : Nat) : State :=
  match src with
  | .engine e => s.toRequester e k (lineAddr l)
  | _ => s

/-- DRAM_READ (R263). -/
def execDramRead (src : DramSrc) (line : Nat) (first again : LineRead) (s : State) : Host.Outcome State Fault Refusal :=
  done s (fun s => (s.dramRead src line first again).lineEnd src .load line)

/-- DRAM_LINE_WRITE (R264). -/
def State.dramLineWrite (s : State) (src : DramSrc) (l : Nat) (data : List Byte) : State :=
  match s.lineGate src l true with
  | some c => s.answer (.busError c)
  | none => if s.lineStalls src then s.wait else s.writeLine l data

/-- DRAM_LINE_WRITE (R264). -/
def execDramLineWrite (src : DramSrc) (line : Nat) (data : List Byte) (s : State) : Host.Outcome State Fault Refusal :=
  done s (fun s => (s.dramLineWrite src line data).lineEnd src .store line)

/-- DRAM_PARTIAL_WRITE (R264). -/
def State.dramPartialWrite (s : State) (src : DramSrc) (l off : Nat) (data : List Byte) (first again : LineRead) : State :=
  match s.lineGate src l true with
  | some c => s.answer (.busError c)
  | none =>
    if s.lineStalls src then s.wait
    else
      let r := s.writePart l off data (srcNum src) (srcHandle src) first again
      match r.2 with
      | some c => r.1.answer (.busError c)
      | none => r.1

/-- DRAM_PARTIAL_WRITE (R264). -/
def execDramPartialWrite (src : DramSrc) (line off : Nat) (data : List Byte) (first again : LineRead) (s : State) :
    Host.Outcome State Fault Refusal :=
  done s (fun s => (s.dramPartialWrite src line off data first again).lineEnd src .store line)

/-! ### Reads and writes of many lines -/

/-- A read without a symbol in error. -/
def goodRead : LineRead := ⟨⟨0, .uncorr⟩, ⟨0, .uncorr⟩⟩

/-- The lines from `base` on, `n` of them, that a read finds or stores hold in error, in line order. -/
def State.badLines (s : State) (base n : Nat) (found : List LineFound) : List (Nat × LineFound) :=
  let inside := fun (l : Nat) => decide (base ≤ l ∧ l < base + n)
  let stored := ((s.buf.flips.map Prod.fst) ++ s.buf.poisoned).filter inside
  let t := stored.foldl (fun t l => Sparse.insert t l ⟨l - base, goodRead, goodRead⟩) ([] : List (Nat × LineFound))
  (found.filter (fun (f : LineFound) => decide (f.line < n))).foldl (fun t f => Sparse.insert t (base + f.line) f) t

/-- The pool whose cache holds, dirty, a line of the `n` bytes from `a` on with a lasting parity error (R398). -/
def State.badCached (s : State) (a n : Nat) : Option (Fin 2) :=
  (s.lines.find? (fun (x : CLine) => x.bad && decide (a / 64 ≤ x.line ∧ x.line ≤ (a + n - 1) / 64))).map
    (fun x => x.cache.pool)

/-- A lasting parity error on a dirty line or in a TCM of pool `p` (R398). -/
def State.parDirty (s : State) (p : Fin 2) : State :=
  ((s.err (.pool p) 9).lasting (.pool p)).count64 (.pool p) Reg.POOL_CNT_PDIRTY_LO

/-- A granule is read through its handle, to the first line that is not delivered (R268, R273); one whose newest bytes lie in
a cache in error is not delivered either (R398). -/
def State.readGranule (s : State) (h page src : Nat) (found : List LineFound) : State × Option BusCause :=
  match s.badCached (dramBase + page * 4096) 4096 with
  | some p => (s.parDirty p, some .uncorrectable)
  | none =>
    (s.badLines (page * 64) 64 found).foldl
      (fun (a : State × Option BusCause) (p : Nat × LineFound) =>
        match a.2 with
        | some _ => a
        | none =>
          let r := a.1.readLine p.1 src (some h) p.2.first p.2.again
          (r.s, r.cause))
      (s, none)

/-- A line of a granule that a read takes for good although it is not (R263): the bytes delivered are free. -/
def State.granuleMiss (s : State) (page : Nat) (found : List LineFound) : Bool :=
  (s.badLines (page * 64) 64 found).any (fun p => (s.readLine p.1 1 none p.2.first p.2.again).miss)

/-- The bytes of a granule as a read delivers them. -/
def State.granuleData (s : State) (page : Nat) (miss : Bool) : List Byte :=
  if miss then (List.range 4096).map (Config.freeByte s.freeCtr) else s.bytes (dramBase + page * 4096) 4096

/-- All 4,096 bytes of a granule are written through its handle, which clears POISON (R268). -/
def State.writeGranule (s : State) (h page : Nat) (data : List Byte) : State :=
  let s1 := (s.setBytes (dramBase + page * 4096) (data.take 4096)).setPoison h false
  (List.range 64).foldl (fun t i => t.lineWritten (page * 64 + i)) s1

/-- How a handle translates (R268, R282). -/
inductive Trans where
  | page (p : Nat) | stall | fault (c : BusCause)
  deriving DecidableEq, Repr

/-- The translation of a handle for a read or a whole-granule write (R268, R282). -/
def State.translate (s : State) (h : Nat) (write : Bool) : Trans :=
  let e := s.btt h
  if s.inReset .buf then .fault .unitInReset
  else if !bttValid e then .fault .translationFault
  else if bttMoving e then .stall
  else if bttPoison e && !write then .fault .poisoned
  else .page (bttPpn e)

/-! ### Write-backs and scrubbing -/

/-- WRITE_BACK: the line is read, corrected and written whole (R277). -/
def State.writeBack (s : State) (first again : LineRead) : State :=
  match s.buf.wbq with
  | [] => s.ignore
  | l :: _ =>
    let k1 := s.decodeLine l first
    let k := if k1.kind = .uncorr then s.decodeLine l again else k1
    let s1 := if k1.kind = .uncorr && k.kind != .uncorr && k.kind != .poisoned then s.transient .buf else s
    let s2 := s1.dropWriteBack l
    if k.kind = .uncorr then s2.metUncorr l 4 none
    else if k.kind = .poisoned then s2
    else
      let s3 := s2.setReg64 .buf Reg.BUF_CNT_CE_LO (s2.reg64 .buf Reg.BUF_CNT_CE_LO + k.ce)
      let data := s3.lineData l k.miss
      let s4 := (((if k.miss then s3.spend else s3).writeLine l data).markWb l).bufEvent evWritten l 4 none
      s4.count64 .buf Reg.BUF_CNT_WB_LO

/-- WRITE_BACK (R277). -/
def execWriteBack (first again : LineRead) (s : State) : Host.Outcome State Fault Refusal :=
  done s (fun s => s.when (s.live .buf) (s.writeBack first again))

/-- The patrol runs (R279): on, with trained DRAM, outside the fill and a range pass. -/
def State.patrolRuns (s : State) : Bool :=
  s.live .buf && s.on .buf F.BUF_SCRUB_CTL_PATROL_EN && decide (0 < s.dramUsed) && !s.on .buf F.BUF_STAT_FILLING
    && s.buf.range.isNone

/-- The end of a lap: entries written back before the lap that ends are free (R277, R279). -/
def State.lapEnd (s : State) : State :=
  let s1 := (s.setReg .buf Reg.BUF_SCRUB_LAP (s.reg .buf Reg.BUF_SCRUB_LAP + 1)).setReg .buf Reg.BUF_SCRUB_POS 0
  let m := s1.lap
  let keep := fun (e : Nat × Hist) => !e.2.wb || e.2.lap == m || e.2.lap == (m + 255) % 256
  { s1 with buf := { s1.buf with hist := s1.buf.hist.filter keep } }

/-- PATROL_SCRUB_READ: the line that is due (R279). -/
def State.patrol (s : State) (behind : Bool) (first again : LineRead) : State :=
  let l := s.f .buf F.BUF_SCRUB_POS_LINE
  let s1 := (s.readLine l 2 none first again).s.setF .buf F.BUF_STAT_BEHIND (bit behind)
  if s1.dramUsed ≤ 64 * (l + 1) then s1.lapEnd else s1.setReg .buf Reg.BUF_SCRUB_POS (BitVec.ofNat 32 (l + 1))

/-- PATROL_SCRUB_READ (R279). -/
def execPatrolScrubRead (behind : Bool) (first again : LineRead) (s : State) : Host.Outcome State Fault Refusal :=
  done s (fun s => s.when s.patrolRuns (s.patrol behind first again))

/-- RANGE_GO: a write of BUF_SCRUB_CTL; with RANGE_GO it starts a pass or is refused (R280). -/
def State.rangeGo (s : State) (v : Word) : State :=
  let go := F.BUF_SCRUB_CTL_RANGE_GO.get v == 1
  let s0 := s.writePlain .buf Reg.BUF_SCRUB_CTL (v &&& ~~~ (1 : Word))
  let a := s0.f .buf F.BUF_RANGE_START_PAGE
  let b := s0.f .buf F.BUF_RANGE_END_PAGE
  let n := s0.dramUsed / 4096
  if !go || !s0.on .buf F.BUF_SCRUB_CTL_RANGE_EN then s0
  else if s0.buf.range.isSome || decide (b < a) || decide (n ≤ b) || !s0.takes .buf then s0.err .buf eConfig
  else
    let s1 := (s0.setF .buf F.BUF_SCRUB_CTL_RANGE_GO 1).setReg .buf Reg.BUF_RANGE_STAT 0x80000000
    { s1 with buf := { s1.buf with range := some (a, b) } }

/-- RANGE_GO (R280). -/
def execRangeGo (eng : Engine) (v : Word) (s : State) : Host.Outcome State Fault Refusal :=
  done s (fun s => s.access eng .store .buf Reg.BUF_SCRUB_CTL none (s.rangeGo v))

/-- What a range pass has found so far: codewords corrected, uncorrectable lines and the first of them (R280). -/
structure RangeSum where
  s : State
  ce : Nat
  ue : Nat
  first : Option Nat

/-- RANGE_PASS_DONE: the lines of the pass have been read; the summary (R280). -/
def State.rangeDone (s : State) (found : List LineFound) : State :=
  match s.buf.range with
  | none => s.ignore
  | some (a, b) =>
    let r := (s.badLines (a * 64) ((b + 1 - a) * 64) found).foldl
      (fun (x : RangeSum) (p : Nat × LineFound) =>
        let y := x.s.readLine p.1 3 none p.2.first p.2.again
        if y.cause = some .uncorrectable then ⟨y.s, x.ce, x.ue + 1, some (x.first.getD p.1)⟩
        else ⟨y.s, x.ce + y.ce, x.ue, x.first⟩)
      ⟨s, 0, 0, none⟩
    let s1 := ((r.s.setReg .buf Reg.BUF_RANGE_LINES (BitVec.ofNat 32 ((b + 1 - a) * 64))).setReg .buf Reg.BUF_RANGE_CE
      (BitVec.ofNat 32 r.ce)).setReg .buf Reg.BUF_RANGE_UE (BitVec.ofNat 32 r.ue)
    let s2 := s1.setReg .buf Reg.BUF_RANGE_FIRST
      (match r.first with | some l => BitVec.ofNat 32 (2 ^ 31 + l % 2 ^ 29) | none => 0)
    let s3 := (s2.setReg .buf Reg.BUF_RANGE_STAT 0x40000000).setF .buf F.BUF_SCRUB_CTL_RANGE_GO 0
    { s3 with buf := { s3.buf with range := none } }

/-- RANGE_PASS_DONE (R280). -/
def execRangePassDone (found : List LineFound) (s : State) : Host.Outcome State Fault Refusal :=
  done s (fun s => s.when (s.live .buf) (s.rangeDone found))

/-- ZERO_FILL_DONE: FILLING clears (R568). -/
def execZeroFillDone (s : State) : Host.Outcome State Fault Refusal :=
  done s (fun s => s.when (s.on .buf F.BUF_STAT_FILLING) (s.setF .buf F.BUF_STAT_FILLING 0))

/-! ### Page retirement (R281, R282) -/

/-- RETIRE_GO: a write of BUF_RET_CMD; with GO it starts a retirement or is refused (R281, R282).  A unit that takes no new
work (R14) refuses it too (DESIGN CHOICE, log entry 111). -/
def State.retireGo (s : State) (v : Word) : State :=
  let h := F.BUF_RET_CMD_HANDLE.get v
  let spare := s.f .buf F.BUF_RET_SPARE_PPN
  if F.BUF_RET_CMD_GO.get v = 0 then s
  else
    let s0 := s.setF .buf F.BUF_RET_STAT_DONE 0
    if s.buf.ret.isSome || !bttValid (s.btt h) || !s.inPool spare || !s.takes .buf then
      (s0.setF .buf F.BUF_RET_STAT_REFUSED 1).err .buf eConfig
    else
      let s1 := (s0.setReg .buf Reg.BUF_RET_STAT 0x80000000).setBtt h (F.BUF_BTT_DATA_MOVING.put (s.btt h) 1)
      { s1 with buf := { s1.buf with ret := some (h, spare) } }

/-- RETIRE_GO (R281). -/
def execRetireGo (eng : Engine) (v : Word) (s : State) : Host.Outcome State Fault Refusal :=
  done s (fun s => s.access eng .store .buf Reg.BUF_RET_CMD none (s.retireGo v))

/-- The lines of the old page are copied, in line order; a line that stays bad is written poisoned (R282, step 3). -/
def State.copyPage (s : State) (h old spare : Nat) (found : List LineFound) : State :=
  let bad := s.badLines (old * 64) 64 found
  let s1 := (s.setBytes (dramBase + spare * 4096) (s.bytes (dramBase + old * 4096) 4096))
  let s2 := (List.range 64).foldl (fun t i => t.lineWritten (spare * 64 + i)) s1
  bad.foldl
    (fun (t : State) (p : Nat × LineFound) =>
      let r := t.readLine p.1 4 (some h) p.2.first p.2.again
      let l := spare * 64 + (p.1 - old * 64)
      match r.cause with
      | some _ => ((r.s.poisonLine l).setPoison h true).setF .buf F.BUF_RET_STAT_POISONED 1
      | none => if r.miss then r.s.spend.writeLine l (r.s.lineData l true) else r.s)
    s2

/-- RETIRE_DONE: the copy, the new page, the report (R282, steps 3 and 4). -/
def State.retireDone (s : State) (found : List LineFound) : State :=
  match s.buf.ret with
  | none => s.ignore
  | some (h, spare) =>
    let old := bttPpn (s.btt h)
    let s1 := s.copyPage h old spare found
    let s2 := s1.setBtt h (F.BUF_BTT_DATA_MOVING.put (F.BUF_BTT_DATA_PPN.put (s1.btt h) spare) 0)
    let w := s2.reg .buf Reg.BUF_RET_STAT
    let s3 := s2.setReg .buf Reg.BUF_RET_STAT ((w &&& 0x30000000) ||| BitVec.ofNat 32 (0x40000000 + old))
    ({ s3 with buf := { s3.buf with ret := none } } : State).count64 .buf Reg.BUF_CNT_RETIRE_LO

/-- RETIRE_DONE (R282). -/
def execRetireDone (found : List LineFound) (s : State) : Host.Outcome State Fault Refusal :=
  done s (fun s => s.when (s.live .buf) (s.retireDone found))

/-! ### Injection and SRAM parity (R283, R285) -/

/-- What stands before a write to an injection register (R285). -/
def State.injGate (s : State) : Option BusCause := if s.on .buf F.BUF_CFG_INJ_EN then none else some .accessDenied

/-- INJECT_ARM: a write of BUF_INJ_CTL (R285). -/
def execInjectArm (eng : Engine) (v : Word) (s : State) : Host.Outcome State Fault Refusal :=
  done s (fun s => s.access eng .store .buf Reg.BUF_INJ_CTL s.injGate (s.writePlain .buf Reg.BUF_INJ_CTL v))

/-- The first byte of the SRAM that an injection targets (R285, R287). -/
def sramOfTarget (t : Nat) : Option Nat := if t = 1 then some 0x10000000 else if t = 2 then some 0x30000000 else none

/-- INJECTED_WRITE into an SRAM: the bytes from `a` on, `n` of them, have been written with fresh parity; an armed fault
at that word inverts the parity of the bytes that its mask selects (R283, R285). -/
def State.sramWritten (s : State) (a n : Nat) : State :=
  let s1 : State := { s with buf := { s.buf with sramBad := s.buf.sramBad.filter (fun b => !decide (a ≤ b ∧ b < a + n)) } }
  match sramOfTarget (s1.f .buf F.BUF_INJ_CTL_TARGET) with
  | none => s1
  | some base =>
    let w := base + 4 * s1.f .buf F.BUF_INJ_ADDR_ADDR
    if s1.on .buf F.BUF_INJ_CTL_ARM && decide (a < w + 4 ∧ w < a + n) then
      let m := s1.reg .buf Reg.BUF_INJ_PINS
      let bad := ([0, 1, 2, 3].filter (fun i => m.getLsbD i && decide (a ≤ w + i ∧ w + i < a + n))).map (w + ·)
      let s2 := s1.setF .buf F.BUF_INJ_CTL_ARM 0
      { s2 with buf := { s2.buf with sramBad := s2.buf.sramBad ++ bad } }
    else s1

/-- A read of `n` bytes of system SRAM or queue SRAM from `a` on, and its parity (R283): stored wrong, it is in error both
times. -/
def State.sramRead (s : State) (a n : Nat) (par : Parity) : State × Option BusCause :=
  let bad := s.buf.sramBad.any (fun b => decide (a ≤ b ∧ b < a + n))
  let p : Parity := if bad then .lasting else par
  let q := decide (0x30000000 ≤ a)
  match p with
  | .ok => (s, none)
  | .transient => (s.transient .buf, none)
  | .lasting =>
    ((((s.err .buf eParity).lasting .buf).count64 .buf Reg.BUF_CNT_SPAR_LO).bufEvent (if q then evQueue else evSys)
      ((a - if q then 0x30000000 else 0x10000000) / 4) 0 none, some .uncorrectable)

end Sys2Proof.Machine
end

