-- ==== Sys2Proof/Machine/Hosts.lean ====
section
/-! DEFINITION. What the host-facing families share: functions and controllers (R360, R361), namespaces and zones (R289,
R292), asynchronous events and the error log (R535, R536), the dirty limit (R310) and the key choice (R429, R430). -/

namespace Sys2Proof.Machine

/-! ### Functions and controllers -/

/-- x8 + x8 mode (R358). -/
def State.split (s : State) : Bool := s.on (.pep 0) F.PEP_STAT_STRAP
/-- The port of a function (R360). -/
def State.fnPort (s : State) (fn : Nat) : Fin 2 := if s.split && decide (32 ≤ fn) then 1 else 0
/-- The function is a physical function (R360). -/
def State.isPf (s : State) (fn : Nat) : Bool := fn == 0 || (s.split && fn == 32)
/-- The VF number of a function within its port (R360). -/
def State.vfNum (s : State) (fn : Nat) : Nat := if s.split then fn % 32 else fn
/-- Port `p`. -/
def State.port (s : State) (p : Fin 2) : Port := s.hosts.ports[p]
/-- The state with port `p` replaced. -/
def State.setPort (s : State) (p : Fin 2) (x : Port) : State :=
  { s with hosts := { s.hosts with ports := s.hosts.ports.set p x } }
/-- The function's controller exists (R361, R496). -/
def State.fnExists (s : State) (fn : Nat) : Bool :=
  if s.svcs.chrysalis then fn == 0
  else decide (fn < 64) && (s.isPf fn || decide (s.vfNum fn ≤ (s.port (s.fnPort fn)).numVfs))
/-- The functions of a port (R360). -/
def State.portFns (s : State) (p : Fin 2) : List Nat := (List.range 64).filter (fun f => s.fnPort f == p)

/-- The controller of a function. -/
def State.ctrl (s : State) (fn : Nat) : Ctrl := Sparse.get (fun _ => Ctrl.reset) s.hosts.ctrls fn
/-- The state with a controller replaced. -/
def State.setCtrl (s : State) (fn : Nat) (c : Ctrl) : State :=
  { s with hosts := { s.hosts with ctrls := Sparse.set (fun _ => Ctrl.reset) s.hosts.ctrls fn c } }
/-- The controller serves commands: it exists, is ready and has not failed (R368). -/
def State.ctrlServes (s : State) (fn : Nat) : Bool := s.fnExists fn && (s.ctrl fn).rdy && (s.ctrl fn).en && !(s.ctrl fn).cfs

/-! ### Interrupt messages (R366) -/

/-- A function's MSI-X control and table. -/
def State.msixOf (s : State) (fn : Nat) : Msix := Sparse.get (fun _ => Msix.reset) s.hosts.msixTab fn

/-- The state with a function's MSI-X control and table replaced. -/
def State.setMsix (s : State) (fn : Nat) (m : Msix) : State :=
  { s with hosts := { s.hosts with msixTab := Sparse.set (fun _ => Msix.reset) s.hosts.msixTab fn m } }

/-- An MSI-X message is sent from the function's own table; with the vector masked or MSI-X off it is held pending in the PBA
(R362, R366). -/
def State.sendMsix (s : State) (fn vec : Nat) : State :=
  let m := s.msixOf fn
  if m.off || m.masked.contains vec then s.setMsix fn { m with pba := addOnce m.pba vec }
  else { s with hosts := { s.hosts with msix := s.hosts.msix ++ [(fn, vec)] } }

/-- A completion entry has been posted to a queue with this vector: its message goes out, or is aggregated under Interrupt
Coalescing, which does not hold the admin queue's (R366). -/
def State.completionMsix (s : State) (fn cqid vec : Nat) : State :=
  let c := s.ctrl fn
  let thr := c.coal.toNat % 256
  let time := c.coal.toNat / 256 % 256
  if cqid = 0 ∨ time = 0 ∨ thr = 0 then s.sendMsix fn vec
  else
    let n := (Sparse.find? c.agg vec).getD 0 + 1
    if thr < n then (s.setCtrl fn { c with agg := Sparse.erase c.agg vec }).sendMsix fn vec
    else s.setCtrl fn { c with agg := Sparse.insert c.agg vec n }

/-! ### Completion entries (R326, R333) -/

/-- A submission queue. -/
def State.subq? (s : State) (fn sqid : Nat) : Option Sq := s.cmd.sqs.find? (fun q => q.fn == fn && q.sqid == sqid)
/-- The state with a submission queue replaced. -/
def State.setSubq (s : State) (q : Sq) : State :=
  { s with cmd := { s.cmd with sqs := s.cmd.sqs.map (fun x => if x.fn = q.fn ∧ x.sqid = q.sqid then q else x) } }
/-- A completion queue. -/
def State.compq? (s : State) (fn cqid : Nat) : Option Cq := s.cmd.cqs.find? (fun q => q.fn == fn && q.cqid == cqid)
/-- The state with a completion queue replaced. -/
def State.setCompq (s : State) (q : Cq) : State :=
  { s with cmd := { s.cmd with cqs := s.cmd.cqs.map (fun x => if x.fn = q.fn ∧ x.cqid = q.cqid then q else x) } }

/-- The engine writes a completion entry: it fills in the CID, SQID, SQ head and phase tag itself (R333), and the
interrupt message follows (R366). -/
def State.postCpl (s : State) (fn sqid cid : Nat) (c : Cpl) : State :=
  match s.subq? fn sqid with
  | none => s
  | some q =>
    match s.compq? fn q.cqid with
    | none => s
    | some cq =>
      let e : Posted := ⟨fn, cq.cqid, cq.tail, sqid, q.head, cid, cq.phase, c⟩
      let last := decide (cq.size ≤ cq.tail + 1)
      let s1 := s.setCompq { cq with tail := if last then 0 else cq.tail + 1, phase := if last then !cq.phase else cq.phase }
      let s2 : State := { s1 with cmd := { s1.cmd with posted := s1.cmd.posted ++ [e] } }
      match cq.vector with
      | some v => s2.completionMsix fn cq.cqid v
      | none => s2

/-! ### Asynchronous events and the error log -/

/-- The oldest pending event goes to the oldest outstanding request (R536). -/
def State.deliverEvent (s : State) (fn : Nat) : State :=
  let c := s.ctrl fn
  match c.aers, c.events with
  | cid :: aers, e :: events =>
    if s.cmd.stopped then s
    else
      (s.setCtrl fn { c with aers := aers, events := events }).postCpl fn 0 cid
        ⟨BitVec.ofNat 32 (e.typ + e.info * 2 ^ 8 + e.page * 2 ^ 16), 0, .named .success⟩
  | _, _ => s

/-- Pending events go to outstanding requests, oldest first (R536). -/
def State.deliverEvents (s : State) (fn : Nat) : State := (s.ctrl fn).events.foldl (fun t _ => t.deliverEvent fn) s

/-- An asynchronous event is raised for a controller, unless it is held already; an event without a log page is not held
(R536). -/
def State.raise (s : State) (fn : Nat) (e : AsyncEvent) : State :=
  let c := s.ctrl fn
  if c.held.contains e then s
  else
    (s.setCtrl fn { c with held := if e.page = 0 then c.held else c.held ++ [e],
                           events := c.events ++ [e] }).deliverEvents fn

/-- The host has read a log page with Retain Asynchronous Event clear: its events are held no longer (R536). -/
def State.pageRead (s : State) (fn page : Nat) : State :=
  let c := s.ctrl fn
  s.setCtrl fn { c with held := c.held.filter (fun e => e.page != page) }

/-- An asynchronous event is raised for every controller that serves. -/
def State.raiseAll (s : State) (e : AsyncEvent) : State :=
  ((List.range 64).filter s.ctrlServes).foldl (fun t f => t.raise f e) s

/-- The composite health status changes: a change flag sets and SMB_ALERT_N asserts (R374).  Flag 0 is Critical Warning, flag
1 CSTS.CFS, flag 2 CSTS.RDY (PRESUMED, log entry 23). -/
def State.healthChange (s : State) (flag : Nat) : State :=
  let m := s.hosts.mgmt
  { s with hosts := { s.hosts with mgmt := { m with alert := true, changes := m.changes ||| 2 ^ flag } } }

/-- Bits of Critical Warning set, each raising its event (R537). -/
def State.setCrit (s : State) (b : Nat) : State :=
  if s.hosts.crit.testBit b then s
  else
    (({ s with hosts := { s.hosts with crit := s.hosts.crit + 2 ^ b } } : State).healthChange 0).raiseAll
      ⟨1, if b = 0 then 2 else if b = 1 then 1 else 0, 2⟩

/-- A bit of Critical Warning cleared (R537). -/
def State.clrCrit (s : State) (b : Nat) : State :=
  if s.hosts.crit.testBit b then
    ({ s with hosts := { s.hosts with crit := s.hosts.crit - 2 ^ b } } : State).healthChange 0
  else s

/-- An entry of the Error Information log (R535). -/
def State.logError (s : State) (fn sqid cid : Nat) (st : CStatus) (lba nsid : Nat) : State :=
  let c := s.ctrl fn
  s.setCtrl fn { c with errCount := c.errCount + 1,
                        errs := (⟨c.errCount + 1, sqid, cid, st, lba, nsid⟩ :: c.errs).take 256 }

/-- The life counters that firmware feeds: 512-byte units read and written, host read and write commands, media and data
integrity errors (R545). -/
abbrev lifeRead512 : Nat := 3
abbrev lifeWrite512 : Nat := 4
abbrev lifeReads : Nat := 5
abbrev lifeWrites : Nat := 6
abbrev lifeMedia : Nat := 7

/-- A firmware-fed life counter counts (R545). -/
def State.countLife (s : State) (k n : Nat) : State :=
  { s with hosts := { s.hosts with
      counts := Sparse.set (fun _ => 0) s.hosts.counts k (Sparse.get (fun _ => 0) s.hosts.counts k + n) } }

/-! ### Namespaces and zones -/

/-- A namespace. -/
def State.ns? (s : State) (nsid : Nat) : Option Namespace := s.hosts.namespaces.find? (fun n => n.nsid == nsid)
/-- Blocks of a zone's address range (R292). -/
abbrev zoneSize : Nat := 131072
/-- The key of a zone. -/
def zoneKey (nsid z : Nat) : Nat := nsid * 2 ^ 20 + z
/-- A zone. -/
def State.zone (s : State) (nsid z : Nat) : Zone := Sparse.get (fun _ => Zone.reset) s.hosts.zones (zoneKey nsid z)
/-- The state with a zone replaced. -/
def State.setZone (s : State) (nsid z : Nat) (x : Zone) : State :=
  { s with hosts := { s.hosts with zones := Sparse.set (fun _ => Zone.reset) s.hosts.zones (zoneKey nsid z) x } }
/-- ZCAP: the capacity of the zone's band (R292). -/
def Namespace.cap (n : Namespace) (z : Nat) : Nat := n.lens.getD z 0
/-- Open zone states. -/
def ZState.isOpen : ZState → Bool
  | .implOpen => true | .explOpen => true | _ => false
/-- Active zone states. -/
def ZState.isActive : ZState → Bool
  | .implOpen => true | .explOpen => true | .closed => true | _ => false
/-- The zones of a namespace that are not as created. -/
def State.zonesOf (s : State) (nsid : Nat) : List (Nat × Zone) := s.hosts.zones.filter (fun e => e.1 / 2 ^ 20 == nsid)

/-- Room for one more open zone: as it is, after closing the implicitly opened zone written least recently, or none
(R293). -/
def State.roomToOpen (s : State) (nsid : Nat) : Option State :=
  let l := (s.zonesOf nsid).filter (fun e => e.2.st.isOpen)
  if l.length < 128 then some s
  else
    let imp := l.filter (fun e => e.2.st == .implOpen)
    match imp with
    | [] => none
    | e :: t =>
      let m := t.foldl (fun (a b : Nat × Zone) => if b.2.last < a.2.last then b else a) e
      some (s.setZone nsid (m.1 % 2 ^ 20) { m.2 with st := .closed })

/-- A zone opens for a write or at the host's request, within the limits of R293. -/
def State.openZone (s : State) (nsid z : Nat) (st : ZState) : State ⊕ NvmeStatus :=
  let x := s.zone nsid z
  let active := ((s.zonesOf nsid).filter (fun e => e.2.st.isActive)).length
  if x.st.isOpen then .inl (s.setZone nsid z { x with st := if x.st = .explOpen then .explOpen else st })
  else if x.st = .empty ∧ 256 ≤ active then .inr .tooManyActive
  else
    match s.roomToOpen nsid with
    | none => .inr .tooManyOpen
    | some t => .inl (t.setZone nsid z { t.zone nsid z with st := st })

/-- ZONE_WRITE_CHECK: a write or Zone Append of `count` blocks at its acceptance: the first block it is given, with WP
advanced, or the status it fails with (R294). -/
def State.zoneAccept (s : State) (n : Namespace) (slba count order : Nat) (append : Bool) : (State × Nat) ⊕ NvmeStatus :=
  let z := slba / zoneSize
  let x := s.zone n.nsid z
  let off := if append then x.wp else slba % zoneSize
  if append ∧ 256 < count then .inr .invalidField
  else if append ∧ slba % zoneSize ≠ 0 then .inr .invalidField
  else if x.st = .full then .inr .zoneFull
  else if x.st = .readOnly then .inr .zoneReadOnly
  else if x.st = .offline then .inr .zoneOffline
  else if n.cap z < off + count then .inr .zoneBoundary
  else if off ≠ x.wp then .inr .zoneInvalidWrite
  else
    match s.openZone n.nsid z .implOpen with
    | .inr st => .inr st
    | .inl t =>
      let y := t.zone n.nsid z
      let wp := y.wp + count
      .inl (t.setZone n.nsid z { y with wp := wp, last := order, st := if wp = n.cap z then .full else y.st },
        z * zoneSize + off)

/-- Finish: WP to the end, and the zone Full; the blocks from the old WP upwards stay unwritten (R297). -/
def State.finishZone (s : State) (n : Namespace) (z : Nat) : State :=
  let x := s.zone n.nsid z
  s.setZone n.nsid z { x with wp := n.cap z, st := .full, fin := if x.wp < n.cap z then some x.wp else x.fin }

/-- A run of blocks added to a list of runs, joined with the runs that it touches (R296). -/
def addRun (l : List (Nat × Nat)) (a n : Nat) : List (Nat × Nat) :=
  let touch := fun (r : Nat × Nat) => decide (r.1 + r.2 = a ∨ a + n = r.1)
  let near := l.filter touch
  let lo := near.foldl (fun m (r : Nat × Nat) => min m r.1) a
  let hi := near.foldl (fun m (r : Nat × Nat) => max m (r.1 + r.2)) (a + n)
  l.filter (fun r => !touch r) ++ [(lo, hi - lo)]

/-- The blocks of a write that was accepted and did not complete are void (R296). -/
def State.voidBlocks (s : State) (nsid lba count : Nat) : State :=
  match s.ns? nsid with
  | none => s
  | some n =>
    if !n.zoned || count == 0 then s
    else
      let z := lba / zoneSize
      let x := s.zone nsid z
      s.setZone nsid z { x with void := addRun x.void (lba % zoneSize) count }

/-! ### Keys (R429, R430) -/

/-- KPIO_BASE. -/
def State.kpioBase (s : State) : Nat := s.f .hzl F.HZL_CFG_KPIO_BASE
/-- A media key slot. -/
def State.keySlot (s : State) (k : Nat) : KeySlot := Sparse.get (fun _ => KeySlot.reset) s.hzl.keys k
/-- The state with a media key slot replaced. -/
def State.setKeySlot (s : State) (k : Nat) (x : KeySlot) : State :=
  { s with hzl := { s.hzl with keys := Sparse.set (fun _ => KeySlot.reset) s.hzl.keys k x } }
/-- The media slot and range lock that a block of a namespace uses: by key tag with Key Per I/O, else by the locking range
that holds the block, else the global range (R429, R430). -/
def State.keyFor (s : State) (n : Namespace) (lba tag : Nat) : Option Nat × Option LockRange :=
  if n.kpio then
    (if s.kpioBase + tag ≤ 4095 then some (s.kpioBase + tag) else none, none)
  else
    let own := s.hzl.ranges.filter (fun (e : Nat × LockRange) => e.2.nsid == n.nsid)
    match own.find? (fun (e : Nat × LockRange) => decide (256 ≤ e.1 ∧ e.2.first ≤ lba ∧ lba < e.2.first + e.2.count)) with
    | some e => (some e.1, some e.2)
    | none => (some (n.nsid - 1), (own.find? (fun (e : Nat × LockRange) => decide (e.1 < 256))).map Prod.snd)

/-- KEY_BIND's check: Access Denied, Key Not Present, or the slot and its current generation (R430). -/
def State.keyCheck (s : State) (n : Namespace) (lba tag : Nat) (write : Bool) : (Nat × Nat) ⊕ NvmeStatus :=
  let k := s.keyFor n lba tag
  let denied := match k.2 with | some r => if write then r.wlock else r.rlock | none => false
  if denied then .inr .accessDenied
  else
    match k.1 with
    | none => .inr .keyMissing
    | some i => if (s.keySlot i).loaded then .inl (i, (s.keySlot i).cur) else .inr .keyMissing

/-! ### The dirty limit (R303, R310 to R312) -/

/-- A vault is fitted (R323). -/
def State.vaultFitted (s : State) : Bool := s.on .svc F.SVC_VLT_CFG_FITTED && s.f .svc F.SVC_VLT_CFG_CE_EN != 0
/-- The good capacity of the armed area that protects, in MiB; 0 while none is armed (R310). -/
def State.armedCap (s : State) : Nat :=
  let a := if s.on .svc F.SVC_VLT_STAT_ARMED_A then s.f .svc F.SVC_VLT_CAP_A_MIB else 0
  let b := if s.on .svc F.SVC_VLT_STAT_ARMED_B then s.f .svc F.SVC_VLT_CAP_B_MIB else 0
  let own := if s.on .svc F.SVC_VLT_STAT_PROT then b else a
  if own = 0 then max a b else own
/-- The effective dirty limit in MiB (R310, R312). -/
def State.effLim (s : State) : Nat :=
  let lim := s.f .svc F.SVC_VLT_DIRTY_LIM_MIB
  if s.vaultFitted then
    let m := min lim (s.armedCap - 64)
    if m < 256 then 0 else m
  else lim
/-- Granules reserved by writes whose extents are not inserted. -/
def State.reservedGranules (s : State) : Nat :=
  s.cmd.slots.foldl (fun a (e : Nat × Slot) =>
    if e.2.inserted then a else a + e.2.granules.foldl (fun b r => b + r.2) 0) 0
/-- Granules of dirty extents. -/
def State.dirtyGranules (s : State) : Nat :=
  s.cmd.exts.foldl (fun a (e : Nat × Extent) => if e.2.dirty then a + e.2.lenM1 + 1 else a) 0
/-- CMD_DIRTY (R354). -/
def State.dirtyCount (s : State) : Nat := s.reservedGranules + s.dirtyGranules
/-- Every write completes only when its blocks are on media (R303, R311, R312). -/
def State.writeThrough (s : State) (fn : Nat) (fua : Bool) : Bool :=
  (if s.vaultFitted then s.effLim == 0 else fua || !(s.ctrl fn).wce)
    || decide (s.hosts.spareSlots < s.effLim * 256)
/-- A write of `n` blocks stays within the limit; while writes go through to media, DIRTY_LIM bounds it (R310, R312). -/
def State.withinLimit (s : State) (n : Nat) : Bool :=
  let lim := if s.vaultFitted && s.effLim == 0 then s.f .svc F.SVC_VLT_DIRTY_LIM_MIB else s.effLim
  decide (s.dirtyCount + n ≤ lim * 256)
/-- The write window of a lane is closed: the drive-internal condition, or the slider condition of the active head once its
SLIDER_T has been read (R215; DEDUCED, log entry 122). -/
def State.laneClosed (s : State) (n : Fin 4) : Bool :=
  !s.on (.ast n) F.AST_WIN_STAT_DRV_OK || ((s.at n).sliderRead && !s.on (.ast n) F.AST_WIN_STAT_SLIDER_OK)

/-- The write window of some lane is closed (R215, R217). -/
def State.windowClosed (s : State) : Bool := lanes4.any (fun n => s.live (.ast n) && s.laneClosed n)

end Sys2Proof.Machine
end

