-- ==== Sys2Proof/Machine/Bands.lean ====
section
/-! DEFINITION. Bands and the conventional region (R289 to R291), and where a block rests: the buffer, the media cache, a
reallocation slot or its band (R300, R304, R306). -/

namespace Sys2Proof

/-- A band's capacity: BT × SPT blocks, rounded down to a multiple of 256 (R290). -/
def Band.cap (b : Band) : Nat := b.bt * b.spt / 256 * 256

/-- The tracks of a band: data, two spare, guard gap (R290). -/
def Band.tracks (b : Band) : Nat := b.bt + 2 + b.gt

/-- A band as the format builder makes it: a guard gap, and 65,536 to 131,072 blocks (R290). -/
def Band.ok (b : Band) : Bool := decide (1 ≤ b.gt ∧ 65536 ≤ b.cap ∧ b.cap ≤ 131072)

/-- Two bands share no track. -/
def Band.apart (a b : Band) : Bool :=
  a.surface != b.surface || decide (a.first + a.tracks ≤ b.first ∨ b.first + b.tracks ≤ a.first)

/-- A track of a surface lies within the band's data and spare tracks, the ones that the lanes write (R290). -/
def Band.holds (b : Band) (surface track : Nat) : Bool :=
  b.surface == surface && decide (b.first ≤ track ∧ track < b.first + b.bt + 2)

end Sys2Proof

namespace Sys2Proof.Machine

/-! ### Placing a block (R291) -/

/-- The sector position of block `k` of a band, slips skipped (R291). -/
def placePos (spt : Nat) (slips : List (Nat × Nat)) (k : Nat) : Nat :=
  slips.foldl (fun p s => if s.1 * spt + s.2 ≤ p then p + (spt - s.2) else p) k

/-- Block `k` of a band: band-relative track and sector (R291). -/
def placeBlock (spt : Nat) (slips : List (Nat × Nat)) (k : Nat) : Nat × Nat :=
  (placePos spt slips k / spt, placePos spt slips k % spt)

/-- The block at a sector position of a band; none where a slip skips it. -/
def blockAt (spt : Nat) (slips : List (Nat × Nat)) (p : Nat) : Option Nat :=
  slips.reverse.foldl (fun o s => o.bind (fun q =>
    if s.1 * spt + s.2 + (spt - s.2) ≤ q then some (q - (spt - s.2)) else if s.1 * spt + s.2 ≤ q then none else some q)) (some p)

/-- Bands that the format record may name: each as R290 has it, and apart from those before it. -/
def soundBands (l : List Band) : List Band :=
  l.foldl (fun a b => if b.ok && a.all (fun c => c.apart b) then a ++ [b] else a) []

/-! ### The conventional region -/

/-- Sectors of a list of strips. -/
def stripSize (l : List Strip) : Nat := l.foldl (fun n s => n + s.tracks * s.spt) 0

/-- Surface, track and sector of position `p` of a list of strips. -/
def stripAt : List Strip → Nat → Option (Nat × (Nat × Nat))
  | [], _ => none
  | s :: t, p => if p < s.tracks * s.spt then some (s.surface, (s.first + p / s.spt, p % s.spt)) else stripAt t (p - s.tracks * s.spt)

/-- The position of a sector in a list of strips. -/
def stripFind : List Strip → Nat → Nat → Nat → Option Nat
  | [], _, _, _ => none
  | s :: t, surface, track, sector =>
    if s.surface = surface ∧ s.first ≤ track ∧ track < s.first + s.tracks ∧ sector < s.spt then some ((track - s.first) * s.spt + sector)
    else (stripFind t surface track sector).map (fun p => p + s.tracks * s.spt)

/-! ### Heads and surfaces (R65, R90, R96) -/

/-- STATE of a head (R90). -/
def State.headState (s : State) (h : Nat) : Nat := F.MED_HEAD_DATA_STATE.get (s.headData h)
/-- How many of a surface's two heads, 24 apart, are FAILED (R65). -/
def State.twinsFailed (s : State) (surface : Nat) : Nat :=
  bit (s.headState surface == 2) + bit (s.headState (surface + 24) == 2)
/-- Both twins of the surface are FAILED: it is lost (R96). -/
def State.surfaceLost (s : State) (surface : Nat) : Bool := s.twinsFailed surface == 2
/-- The head can write: it is neither FAILED nor write-inhibited (R90). -/
def State.headWrites (s : State) (h : Nat) : Bool := s.headState h != 2 && F.MED_HEAD_DATA_WR_INH.get (s.headData h) == 0
/-- Neither twin of the surface can write, and one can read (R299). -/
def State.readOnlySurface (s : State) (surface : Nat) : Bool :=
  !s.headWrites surface && !s.headWrites (surface + 24) && !s.surfaceLost surface

/-! ### Where a block rests (R300, R304) -/

/-- The zone or logical band of a block, and the block within it (R292, R304). -/
def locate (zoned : Bool) (lens : List Nat) (lba : Nat) : Nat × Nat :=
  if zoned then (lba / zoneSize, lba % zoneSize)
  else
    match lens with
    | [] => (0, lba)
    | n :: t => if lba < n then (0, lba) else let r := locate false t (lba - n); (r.1 + 1, r.2)

/-- The first LBA of a zone or logical band. -/
def Namespace.firstLba (n : Namespace) (z : Nat) : Nat :=
  if n.zoned then z * zoneSize else (n.lens.take z).foldl (· + ·) 0

/-- What firmware keeps of where blocks rest. -/
def State.place (s : State) : Place := s.hosts.place
/-- The state with it replaced. -/
def State.setPlace (s : State) (p : Place) : State := { s with hosts := { s.hosts with place := p } }

/-- The newest cached run that holds a block: the highest sequence number wins (R306). -/
def Place.cached (p : Place) (nsid lba : Nat) : Option CacheRun :=
  (p.log.filter (fun r => r.nsid == nsid && decide (r.lba ≤ lba ∧ lba < r.lba + r.len))).foldl
    (fun b r => match b with | none => some r | some c => if c.seq < r.seq then some r else b) none

/-- The valid reallocation entry of a block (R300). -/
def Place.slotOf (p : Place) (nsid lba : Nat) : Option Nat :=
  (p.moved.find? (fun e => e.valid && e.nsid == nsid && e.lba == lba)).map Realloc.slot

/-- Where the newest copy of a block rests (R300). -/
inductive Source where
  | buffer (handle : Nat)
  | media (surface track sector : Nat)
  | nowhere
  deriving DecidableEq, Repr

/-- A place in a list of strips, as a source. -/
def stripSource (l : List Strip) (p : Nat) : Source :=
  match stripAt l p with
  | some (a, (t, k)) => .media a t k
  | none => .nowhere

/-- The newest copy of a block, in R300's order: the buffer, the media cache of a conventional namespace, a reallocation entry,
the band (R291, R300). -/
def State.newest (s : State) (n : Namespace) (lba : Nat) : Source :=
  match s.cmd.exts.find? (fun (e : Nat × Extent) => e.2.nsx == (n.nsid - 1) % 256 && decide (e.2.slba ≤ lba ∧ lba ≤ e.2.slba + e.2.lenM1)) with
  | some e => .buffer (e.2.handle + (lba - e.2.slba))
  | none =>
    match (if n.zoned then none else s.place.cached n.nsid lba) with
    | some r => stripSource s.place.logArea (r.pos + (lba - r.lba))
    | none =>
      match s.place.slotOf n.nsid lba with
      | some k => stripSource s.place.area k
      | none =>
        let zk := locate n.zoned n.lens lba
        match n.bands[zk.1]? with
        | none => .nowhere
        | some b =>
          let ts := placeBlock b.spt (s.zone n.nsid zk.1).slips zk.2
          .media b.surface (b.first + ts.1) ts.2

/-- The only copy of a block is on a lost surface (R96). -/
def State.blockGone (s : State) (n : Namespace) (lba : Nat) : Bool :=
  match s.newest n lba with
  | .media a _ _ => s.surfaceLost a
  | _ => false

/-- A block of a range is on a lost surface only (R96). -/
def State.rangeGone (s : State) (nsid lba count : Nat) : Bool :=
  (List.range 24).any s.surfaceLost &&
    (match s.ns? nsid with
     | none => false
     | some n => (List.range count).any (fun i => s.blockGone n (lba + i)))

/-! ### The media cache's fill (R306, R308) -/

/-- Sectors of the log that cached runs hold. -/
def Place.logUsed (p : Place) : Nat := p.log.foldl (fun n r => n + r.len) 0

/-- The media cache is filled to a percentage or more; without a log it is not (R308). -/
def Place.filled (p : Place) (percent : Nat) : Bool :=
  decide (0 < stripSize p.logArea ∧ percent * stripSize p.logArea ≤ 100 * p.logUsed)

/-! ### Reallocation slots (R300, R301, R303) -/

/-- Entries of the table that a condition picks are freed, with their slots (R300). -/
def State.releaseSlots (s : State) (gone : Realloc → Bool) : State :=
  let k := (s.place.moved.filter gone).length
  { s with hosts := { s.hosts with spareSlots := s.hosts.spareSlots + k
                                   place := { s.place with moved := s.place.moved.filter (fun e => !gone e) } } }

/-- Blocks are written again: their entries, valid or not, are freed (R300, R301). -/
def State.blocksWritten (s : State) (nsid lba n : Nat) : State :=
  if s.place.moved = [] then s
  else s.releaseSlots (fun e => e.nsid == nsid && decide (lba ≤ e.lba ∧ e.lba < lba + n))

/-- The lowest slot that no entry uses and that is still in use. -/
def State.freeSlot (s : State) : Option Nat :=
  (List.range s.hosts.allSlots).find? (fun k => !s.place.moved.any (fun e => e.slot == k) &&
    (match stripAt s.place.area k with | some x => !s.place.dropped.contains x | none => true))

/-- A slot is taken for a block, its entry not valid until the slot has been reported written (R301); `reserve`: a move of
R299, which alone draws on the reserve of R303. -/
def State.takeSlot (s : State) (nsid lba : Nat) (reserve : Bool) : State :=
  if s.hosts.spareSlots = 0 ∨ (!reserve ∧ s.hosts.spareSlots ≤ s.dirtyCount)
      ∨ s.place.moved.any (fun e => e.nsid == nsid && e.lba == lba) then s
  else
    match s.freeSlot with
    | none => s
    | some k =>
      { s with hosts := { s.hosts with spareSlots := s.hosts.spareSlots - 1
                                       place := { s.place with moved := s.place.moved ++ [⟨nsid, lba, k, false⟩] } } }

end Sys2Proof.Machine
end

