-- ==== Sys2Proof/Machine/Slots.lean ====
section
/-! DEFINITION. Command slots: the fields of a submission entry (PRESUMED, log entry 20), the commit point (R325, R326), what a
slot gives up there, the posting of completions (R326, R341), range locks (R337), quotas (R331), hand-over to the pools
(R332) and the steps of a controller reset (R346). -/

namespace Sys2Proof.Machine

/-! ### The fields of a submission entry (PRESUMED, log entry 20) -/

/-- Dword `i` of a submission entry. -/
def sqeDw (e : Sqe) (i : Nat) : Word := e.getD i 0
/-- Bits of a dword of a submission entry. -/
def sqeBits (e : Sqe) (i lo w : Nat) : Nat := Field.get ⟨0, lo, w⟩ (sqeDw e i)
/-- Opcode. -/
def sqeOp (e : Sqe) : Nat := sqeBits e 0 0 8
/-- Command identifier. -/
def sqeCid (e : Sqe) : Nat := sqeBits e 0 16 16
/-- Namespace identifier. -/
def sqeNsid (e : Sqe) : Nat := (sqeDw e 1).toNat
/-- Starting LBA. -/
def sqeLba (e : Sqe) : Nat := (sqeDw e 10).toNat + 2 ^ 32 * (sqeDw e 11).toNat
/-- Number of logical blocks: NLB + 1. -/
def sqeCount (e : Sqe) : Nat := sqeBits e 12 0 16 + 1
/-- Force Unit Access. -/
def sqeFua (e : Sqe) : Bool := sqeBits e 12 30 1 == 1
/-- The key tag. -/
def sqeTag (e : Sqe) : Nat := sqeBits e 13 0 16

/-- The opcodes of the supported I/O commands (R349). -/
abbrev opFlush : Nat := 0x00
abbrev opWrite : Nat := 0x01
abbrev opRead : Nat := 0x02
abbrev opWriteUnc : Nat := 0x04
abbrev opCompare : Nat := 0x05
abbrev opWriteZeroes : Nat := 0x08
abbrev opDsm : Nat := 0x09
abbrev opZoneSend : Nat := 0x79
abbrev opZoneRecv : Nat := 0x7A
abbrev opZoneAppend : Nat := 0x7D
abbrev opBarrier : Nat := 0x8C

/-- The supported I/O opcodes (R349). -/
def ioOpcodes : List Nat :=
  [opFlush, opWrite, opRead, opWriteUnc, opCompare, opWriteZeroes, opDsm, opZoneSend, opZoneRecv, opZoneAppend, opBarrier]

/-- A write that the engine carries out itself (R339). -/
def Slot.engineWrite (x : Slot) : Bool := sqeOp x.sqe == opWrite || sqeOp x.sqe == opZoneAppend
/-- A write of blocks: it is checked against its zone and holds a write lock (R294, R337). -/
def Slot.anyWrite (x : Slot) : Bool :=
  x.engineWrite || sqeOp x.sqe == opWriteZeroes || sqeOp x.sqe == opWriteUnc
/-- An I/O command. -/
def Slot.io (x : Slot) : Bool := x.sqid != 0 && decide (x.sqid < 65536)
/-- The queue identifier that stands for a command tunnelled over NVMe-MI, which no submission queue has (R375). -/
abbrev tunnelSqid : Nat := 65536
/-- An admin command: from the admin queue, or tunnelled. -/
def Slot.admin (x : Slot) : Bool := x.sqid == 0 || x.sqid == tunnelSqid
/-- The zone of a slot's write. -/
def Slot.zoneOf (x : Slot) : Nat := x.lba / zoneSize

/-! ### Statuses -/

/-- A named status as a completion. -/
def Cpl.ofStatus (st : NvmeStatus) : Cpl := ⟨0, 0, .named st⟩

/-- DNR of a status that the device gives under R534. -/
def NvmeStatus.dnr : NvmeStatus → Bool
  | .unrecoveredRead => true | .guardCheck => true | .appTagCheck => true | .refTagCheck => true
  | .keyMissing => true | .accessDenied => true
  | _ => false

/-- The command has completed successfully. -/
def CStatus.ok : CStatus → Bool
  | .named st => st == .success
  | .raw w => w / 2 % 2 ^ 11 == 0

/-- The statuses of R534 that add an entry to the Error Information log, by name or by their type and code. -/
def CStatus.logged : CStatus → Bool
  | .named st =>
    [NvmeStatus.unrecoveredRead, .internalError, .dataTransferError, .guardCheck, .appTagCheck, .refTagCheck, .keyMissing,
      .accessDenied, .writeFault].contains st
  | .raw w =>
    [(0, 0x04), (0, 0x06), (2, 0x80), (2, 0x81), (2, 0x82), (2, 0x83), (2, 0x84), (2, 0x86), (7, 0xC0)].contains
      (w / 2 ^ 9 % 8, w / 2 % 2 ^ 8)

/-! ### Range locks (R337) -/

/-- Two entries conflict: their ranges overlap in one namespace and one of them is a write (R337). -/
def RangeLock.conflicts (a b : RangeLock) : Bool :=
  a.nsid == b.nsid && decide (a.first < b.first + b.count ∧ b.first < a.first + a.count) && (a.write || b.write)

/-- The range-lock entries in use. -/
def State.locksUsed (s : State) : Nat := (s.cmd.slots.filter (fun (e : Nat × Slot) => e.2.lock.isSome)).length

/-- An entry of a command taken earlier conflicts with the lock (R337). -/
def State.lockConflict (s : State) (x : Slot) (l : RangeLock) : Bool :=
  s.cmd.slots.any (fun (e : Nat × Slot) =>
    decide (e.2.order < x.order) && (match e.2.lock with | some m => l.conflicts m | none => false))

/-- A command taken earlier waits in TAKEN for a range-lock entry (R337). -/
def State.entryWaiter (s : State) (x : Slot) : Bool :=
  s.cmd.slots.any (fun (e : Nat × Slot) =>
    decide (e.2.order < x.order) && e.2.st == .taken && e.2.waitedEntry && e.2.lock.isNone && e.2.decoded && !e.2.placed)

/-! ### What a slot gives up -/

/-- Runs of handles go to the free-run list (R339). -/
def State.freeHandles (s : State) (l : List (Nat × Nat)) : State :=
  { s with cmd := { s.cmd with freeRuns := s.cmd.freeRuns ++ l } }

/-- A granule of a run of runs, by its index. -/
def nthHandle : List (Nat × Nat) → Nat → Nat
  | [], _ => 0
  | (h, n) :: t, i => if i < n then h + i else nthHandle t (i - n)

/-- A slot's granules that no extent holds are released, and in a zoned namespace its blocks are void (R296, R344). -/
def State.releaseWrite (s : State) (i : Nat) : State :=
  match s.slot? i with
  | none => s
  | some x =>
    if !x.anyWrite || !x.decoded then s
    else
      let s1 := if x.inserted then s else (s.setSlot i { x with granules := [], filled := 0 }).freeHandles x.granules
      s1.voidBlocks (sqeNsid x.sqe) x.lba (sqeCount x.sqe)

/-- Host DMA of a slot has stopped: its transfers are gone (R344). -/
def State.dropTransfers (s : State) (i : Nat) : State :=
  { s with cmd := { s.cmd with dma := s.cmd.dma.filter (fun (e : Nat × Transfer) => e.2.slot != i),
                               dmaWait := s.cmd.dmaWait.filter (fun (t : Transfer) => t.slot != i) } }

/-- The area of state records (R269); none while BUF_DSR_BASE names no area in system SRAM. -/
def State.dsrBase (s : State) : Option Nat :=
  let b := (s.reg .buf Reg.BUF_DSR_BASE).toNat
  if 0x10000000 ≤ b ∧ b + 0x7FF ≤ 0x107FFFFF then some b else none

/-- STATE of a context's record is rewritten (R270). -/
def State.recordState (s : State) (ctx v : Nat) : State :=
  match s.dsrBase with
  | none => s
  | some b => s.setByte (b + 32 * ctx + 4) (BitVec.ofNat 8 v)

/-- The suspended contexts of a slot that a condition picks are freed, their records marked dropped (R272). -/
def State.dropContexts (s : State) (i : Nat) (p : DmaCtx → Bool) : State :=
  let pick := fun (e : Nat × DmaCtx) => decide (e.2.req < 2) && e.2.tag == i && p e.2
  let s1 := (s.buf.ctxs.filter pick).foldl (fun t (e : Nat × DmaCtx) => t.recordState e.1 4) s
  { s1 with buf := { s1.buf with ctxs := s1.buf.ctxs.filter (fun e => !pick e) } }

/-- A slot holds a suspended context. -/
def State.hasContext (s : State) (i : Nat) : Bool :=
  s.buf.ctxs.any (fun (e : Nat × DmaCtx) => decide (e.2.req < 2) && e.2.tag == i)

/-- The work entry of a slot's command that waits for a ring is withdrawn. -/
def State.dropWork (s : State) (i : Nat) : State :=
  { s with cmd := { s.cmd with workQ := s.cmd.workQ.filter (fun (w : WorkEntry) => !(w.slot == i && w.kind != 1)) } }

/-- A seventeenth void run finishes the zone, once the writes to it that were accepted have completed (R296). -/
def State.voidFinish (s : State) (nsid z : Nat) : State :=
  match s.ns? nsid with
  | none => s
  | some n =>
    let x := s.zone nsid z
    let openWrite := s.cmd.slots.any (fun (e : Nat × Slot) =>
      e.2.st.isOpen && e.2.anyWrite && e.2.decoded && sqeNsid e.2.sqe == nsid && e.2.zoneOf == z)
    if n.zoned && decide (16 < x.void.length) && !openWrite && x.st != .full then
      (s.finishZone n z).raiseAll ⟨2, 0xEF, 0xBF⟩
    else s

/-! ### Posting (R326, R341) -/

/-- The slot's completion entry may be written: in an ordered queue every earlier ordered command's has been (R341). -/
def State.postable (s : State) (x : Slot) : Bool :=
  (x.st == .done || x.st == .aborted)
    && (!x.ordered || !s.cmd.slots.any (fun (e : Nat × Slot) =>
        e.2.fn == x.fn && e.2.sqid == x.sqid && e.2.ordered && decide (e.2.order < x.order)
          && (e.2.st.isOpen || e.2.st == .done || e.2.st == .aborted)))

/-- The slot whose entry is written next: of those that may be, the first that passed its commit point (R326). -/
def State.nextPost (s : State) : Option (Nat × Slot) :=
  (s.cmd.slots.filter (fun (e : Nat × Slot) => s.postable e.2)).foldl
    (fun (a : Option (Nat × Slot)) (e : Nat × Slot) =>
      match a with
      | none => some e
      | some b => if e.2.seqno < b.2.seqno then some e else some b)
    none

/-- One completion entry is written, and its slot enters DRAIN (R326); a tunnelled command is answered by its NVMe-MI response
instead (R375). -/
def State.postOne (s : State) : State :=
  match s.nextPost with
  | none => s
  | some (i, x) =>
    match x.cpl with
    | none => s.setSlot i { x with st := .drain }
    | some c =>
      let t := s.setSlot i { x with st := .drain }
      if x.sqid = tunnelSqid then t.answer (.value c.dw0) else t.postCpl x.fn x.sqid x.cid c

/-- Every completion entry that may be written is written; none after PFAIL_N was accepted (R316). -/
def State.postAll (s : State) : State :=
  if s.cmd.stopped then s else s.cmd.slots.foldl (fun t _ => t.postOne) s

/-! ### The commit point (R325, R326, R344) -/

/-- A block of the Read stands in the lost list in force (R318), or rests only on a lost surface (R96). -/
def State.readsLost (s : State) (x : Slot) : Bool :=
  s.vault.lost.any (fun (b : Nat × Nat) => b.1 == sqeNsid x.sqe && decide (x.lba ≤ b.2 ∧ b.2 < x.lba + sqeCount x.sqe))
    || s.rangeGone (sqeNsid x.sqe) x.lba (sqeCount x.sqe)

/-- The completion counts a media and data integrity error: a block of the lost list, or an Unrecovered Read Error in which a
pool's recovery ended; the entry does not say whether one with DNR set came from the buffer, which counts none (R534). -/
def State.countMedia (s : State) (x : Slot) (st : CStatus) : State :=
  match st with
  | .named .unrecoveredRead => if s.readsLost x then s.countLife lifeMedia 1 else s
  | .named _ => s
  | .raw w =>
    if w / 2 % 2 ^ 11 ≠ 0x281 then s
    else if w / 2 ^ 15 % 2 = 0 ∨ s.readsLost x then s.countLife lifeMedia 1
    else (if s.freeBool then s.countLife lifeMedia 1 else s).spend

/-- What a command's completion leaves in the life counters and in the events held (R534, R536, R545). -/
def State.account (s : State) (x : Slot) (st : CStatus) : State :=
  let op := sqeOp x.sqe
  let n := sqeCount x.sqe
  if !st.ok then s.countMedia x st
  else if x.admin then
    (if op = 2 ∧ sqeBits x.sqe 10 15 1 = 0 then s.pageRead x.fn (sqeBits x.sqe 10 0 8) else s)
  else if op = opRead ∨ op = opCompare then (s.countLife lifeRead512 (8 * n)).countLife lifeReads 1
  else if x.engineWrite then (s.countLife lifeWrite512 (8 * n)).countLife lifeWrites 1
  else s


/-- COMMIT_POINT: the passage of a slot into DONE, ABORTED or DISCARD.  Its epoch advances if media work of it is
outstanding; a slot that leaves WORK otherwise than by the pool's own entry still owes that entry (R326).  A slot in
DISCARD keeps its lock and granules until its cancels are acknowledged (R346). -/
def State.commit (s : State) (i : Nat) (dest : SlotState) (c : Option Cpl) (ring : Bool) : State :=
  match s.slot? i with
  | none => s
  | some x =>
    if !x.st.isOpen || s.cmd.stopped then s
    else
      let s1 := if s.mediaOutstanding i then s.advanceEpoch i else s
      let good := dest == .done && (match c with | some y => y.status.ok | none => false)
      let s2 := ((s1.dropTransfers i).dropWork i).dropContexts i (fun d => d.preempted || dest == .discard)
      let s3 := if dest == .discard || good then s2 else s2.releaseWrite i
      let y := (s3.slot? i).getD x
      let y1 := { y with st := dest, cpl := c, beats := 0, bound := none, seqno := s3.cmd.nextSeqno,
                         ringOwed := y.ringOwed || (y.st == .work && !ring),
                         lock := if dest == .discard then y.lock else none }
      let s4 := s3.setSlot i y1
      let s5 : State := { s4 with cmd := { s4.cmd with nextSeqno := s4.cmd.nextSeqno + 1 } }
      let s6 := match c with
        | some k =>
          (if k.status.logged then s5.logError x.fn x.sqid x.cid k.status x.lba (sqeNsid x.sqe) else s5).account x k.status
        | none => s5
      let s7 := if x.anyWrite && x.decoded then s6.voidFinish (sqeNsid x.sqe) x.zoneOf else s6
      s7.postAll

/-- The engine completes a command itself. -/
def State.complete (s : State) (i : Nat) (st : NvmeStatus) : State := s.commit i .done (some (Cpl.ofStatus st)) false

/-! ### SLOT_FREE and the later steps of a controller reset (R326, R346) -/

/-- Steps 5 and 6 of R346 for a discarded slot: its cancels are acknowledged and its media work has stopped, so its lock
and its granules are released and its blocks are void; it enters DRAIN. -/
def State.discardEnd (s : State) (i : Nat) : State :=
  match s.slot? i with
  | none => s
  | some x =>
    if x.st = .discard ∧ s.unacked i = 0 ∧ !s.mediaOutstanding i then
      let s1 := s.releaseWrite i
      let y := (s1.slot? i).getD x
      let s2 := s1.setSlot i { y with st := .drain, lock := none }
      if x.anyWrite && x.decoded then s2.voidFinish (sqeNsid x.sqe) x.zoneOf else s2
    else s

/-- What keeps a slot in DRAIN (R326). -/
def State.drainHeld (s : State) (i : Nat) (x : Slot) : Bool :=
  s.mediaOutstanding i || decide (0 < s.unacked i) || s.hasContext i || decide (0 < x.beats) || x.ringOwed

/-- Step 7 of R346: RDY reads 0 once no slot of the controller is in DISCARD. -/
def State.resetEnd (s : State) (fn : Nat) : State :=
  if !(s.ctrl fn).en && (s.ctrl fn).rdy
      && !s.cmd.slots.any (fun (e : Nat × Slot) => e.2.fn == fn && e.2.st == .discard) then
    s.setCtrl fn { s.ctrl fn with rdy := false }
  else s

/-- SLOT_FREE: a slot in DRAIN goes FREE when nothing of R326 remains; FREE keeps the epoch and clears the mark of R85. -/
def State.slotFree (s : State) (i : Nat) : State :=
  match s.slot? i with
  | none => s.ignore
  | some x0 =>
    let s1 := s.discardEnd i
    let x := (s1.slot? i).getD x0
    let s2 := s1.resetEnd x.fn
    if x.st != .drain then (if x0.st = .discard then s2.wait else s2.ignore)
    else if s2.drainHeld i x then s2.wait
    else
      { s2 with cmd := { s2.cmd with slots := Sparse.erase s2.cmd.slots i,
                                     legMark := s2.cmd.legMark.filter (· != i) } }

/-- SLOT_FREE (R326). -/
def execSlotFree (slot : Nat) (s : State) : Host.Outcome State Fault Refusal :=
  done s (fun s => s.slotFree slot)

/-! ### Hand-over to the pools (R332) -/

/-- The command is handed over: it waits in TAKEN for a work ring. -/
def State.handOver (s : State) (i reason kind : Nat) : State :=
  match s.slot? i with
  | none => s
  | some x =>
    let w : WorkEntry := ⟨x.sqe, i, x.fn, x.sqid, reason, kind, 0, 0⟩
    let s1 := s.setSlot i { x with st := .taken, placed := true }
    { s1 with cmd := { s1.cmd with workQ := s1.cmd.workQ ++ [w] } }

/-- A Read is handed to a pool (R334, R353). -/
def State.passRead (s : State) (i reason : Nat) : State :=
  (s.count64 .cmd Reg.CMD_CNT_FP_PASS_LO).handOver i reason 0

/-- A superseded run is reported to a pool, under the write that superseded it (R339). -/
def State.reportRun (s : State) (i handle count : Nat) : State :=
  match s.slot? i with
  | none => s
  | some x => { s with cmd := { s.cmd with workQ := s.cmd.workQ ++ [⟨x.sqe, i, x.fn, x.sqid, 0, 1, handle, count⟩] } }

/-- The registers of pool `p`'s rings lie 0x20 × p further on (R353). -/
def ringOff (p : Fin 2) : Nat := 0x20 * p.val
/-- Pool `p`'s work ring. -/
def State.workRing (s : State) (p : Fin 2) : Ring :=
  s.ring .cmd (Reg.CMD_WQp_CTL + ringOff p) (Reg.CMD_WQp_HEAD + ringOff p) (Reg.CMD_WQp_TAIL + ringOff p)
/-- Pool `p`'s completion ring. -/
def State.cplRing (s : State) (p : Fin 2) : Ring :=
  s.ring .cmd (Reg.CMD_CQp_CTL + ringOff p) (Reg.CMD_CQp_HEAD + ringOff p) (Reg.CMD_CQp_TAIL + ringOff p)

/-- The ring that new work goes to: the one that POOL_MASK names; of two, the one with fewer entries, pool 0's when they
are equal (R332). -/
def State.workPool (s : State) : Option (Fin 2) :=
  let m := s.f .cmd F.CMD_CTL_POOL_MASK
  if m = 0 then none
  else if m = 1 then some 0
  else if m = 2 then some 1
  else if (s.workRing 1).count < (s.workRing 0).count then some 1 else some 0

/-- A 16-bit value's bytes, the lowest first. -/
def halfBytes (n : Nat) : List Byte := [BitVec.ofNat 8 n, BitVec.ofNat 8 (n / 2 ^ 8)]

/-- The 128 bytes of a work entry (R332). -/
def workBytes (w : WorkEntry) : List Byte :=
  (List.range 16).flatMap (fun i => wordBytes (sqeDw w.sqe i))
    ++ halfBytes w.slot ++ [BitVec.ofNat 8 w.fn, BitVec.ofNat 8 w.reason] ++ halfBytes w.sqid
    ++ [BitVec.ofNat 8 w.kind, 0] ++ wordBytes (BitVec.ofNat 32 w.handle) ++ halfBytes w.count
    ++ List.replicate 50 0

/-- WORK_ENTRY_WRITE: the oldest waiting work entry is placed, and its command is in WORK (R332). -/
def State.workEntryWrite (s : State) : State :=
  match s.cmd.workQ with
  | [] => s.ignore
  | w :: t =>
    match s.workPool with
    | none => s.wait
    | some p =>
      let r := s.workRing p
      if r.full then s.wait
      else
        let a := (s.reg .cmd (Reg.CMD_WQp_BASE + ringOff p)).toNat / 128 * 128 + 128 * r.tail
        let s1 := ((s.setBytes a (workBytes w)).sramWritten a 128).setReg .cmd (Reg.CMD_WQp_TAIL + ringOff p)
          (BitVec.ofNat 32 ((r.tail + 1) % r.size))
        let s2 : State := { s1 with cmd := { s1.cmd with workQ := t } }
        match s2.slot? w.slot with
        | some y => if w.kind = 1 then s2 else s2.setSlot w.slot { y with st := .work, pool := some p }
        | none => s2

/-- WORK_ENTRY_WRITE (R332). -/
def execWorkEntryWrite (s : State) : Host.Outcome State Fault Refusal :=
  done s (fun s => s.when (s.live .cmd && !s.cmd.stopped) s.workEntryWrite)

/-! ### Quotas (R331) -/

/-- CMD_FN_QUOTA of a function. -/
def State.quota (s : State) (fn : Nat) : Word := Sparse.get (fun _ => 0x10000000) s.cmd.quota fn
/-- Slots that a function holds. -/
def State.slotsOf (s : State) (fn : Nat) : Nat := (s.cmd.slots.filter (fun (e : Nat × Slot) => e.2.fn == fn)).length
/-- The sum of MIN over all functions (R331). -/
def State.minSum (s : State) : Nat :=
  ((List.range 64).map (fun f => F.CMD_FN_QUOTA_MIN.get (s.quota f))).foldl (· + ·) 0
/-- MIN of a function in slots; 0 for all when the sum exceeds 4,096 (R331), and of an absent function (R361). -/
def State.minSlots (s : State) (fn : Nat) : Nat :=
  if 4096 < s.minSum || !s.fnExists fn then 0 else 16 * F.CMD_FN_QUOTA_MIN.get (s.quota fn)
/-- Slots that other commands may take: one is kept per function for admin commands (R331). -/
def State.freeSlots (s : State) : Nat :=
  let kept := (s.cmd.slots.filter (fun (e : Nat × Slot) => e.2.kept)).length
  65536 - s.cmd.slots.length - (64 - kept)
/-- A command of the function may take a slot (R331). -/
def State.mayTake (s : State) (fn : Nat) : Bool :=
  let held := s.slotsOf fn
  let owed := ((List.range 64).map (fun g => if g = fn then 0 else s.minSlots g - s.slotsOf g)).foldl (· + ·) 0
  decide (0 < s.freeSlots) &&
    (decide (held < s.minSlots fn)
      || (decide (held < 16 * F.CMD_FN_QUOTA_MAX.get (s.quota fn)) && decide (owed < s.freeSlots)))
/-- The slot kept for the function's admin commands is free (R331). -/
def State.keptFree (s : State) (fn : Nat) : Bool :=
  !s.cmd.slots.any (fun (e : Nat × Slot) => e.2.fn == fn && e.2.kept)

end Sys2Proof.Machine
end

