-- ==== Sys2Proof/Machine/Dma.lean ====
section
/-! DEFINITION. Granule moves, suspended transfers and their contexts (R268 to R272, R348), and the key binding that a
command's first granule makes (R430). -/

namespace Sys2Proof.Machine

/-! ### Key binding (R430) -/

/-- KEY_BIND: the second key check, at the command's first cipher work: the generation bound, or the status of a failed
check (R430). -/
def State.bindKey (s : State) (i : Nat) : State ⊕ NvmeStatus :=
  match s.slot? i with
  | none => .inl s
  | some x =>
    if x.bound.isSome then .inl s
    else
      match s.ns? (sqeNsid x.sqe) with
      | none => .inl s
      | some n =>
        match s.keyCheck n x.lba (sqeTag x.sqe) x.anyWrite with
        | .inr st => .inr st
        | .inl b => .inl (s.setSlot i { x with bound := some b })

/-! ### State records and contexts (R269, R270) -/

/-- The 32 bytes of a state record (R270). -/
def dsrBytes (ctx st : Nat) (d : DmaCtx) : List Byte :=
  let w := fun (n : Nat) => wordBytes (BitVec.ofNat 32 n)
  w (ctx + 2 ^ 8 * (if d.preempted then 2 else 1) + 2 ^ 12 * d.req + 2 ^ 16 * (d.tag % 2 ^ 16)) ++ w st ++ w d.hdl
    ++ w (d.moved % 2 ^ 16 + 2 ^ 16 * (d.left % 2 ^ 16)) ++ w (d.gen % 2 ^ 16 + 2 ^ 16 * d.kslot) ++ w 0
    ++ w d.peer ++ w (d.peer / 2 ^ 32)

/-- The context of a transfer. -/
def State.ctxOf (s : State) (t : Transfer) (preempted : Bool) : DmaCtx :=
  let b := match s.slot? t.slot with | some x => x.bound.getD (0, 0) | none => (0, 0)
  ⟨preempted, bit t.toHost, t.slot, t.handle, t.moved, t.left, b.2, b.1, t.peer⟩

/-- A context is written with its record (R269). -/
def State.storeCtx (s : State) (base ctx : Nat) (d : DmaCtx) : State :=
  let a := base + 32 * ctx
  let s1 := (s.setBytes a (dsrBytes ctx 1 d)).sramWritten a 32
  { s1 with buf := { s1.buf with ctxs := Sparse.insert s1.buf.ctxs ctx d } }

/-- A fault notice of a context (R269). -/
def State.postNotice (s : State) (ctx : Nat) : State :=
  { s with buf := { s.buf with notices := s.buf.notices ++ [BitVec.ofNat 32 (2 ^ 31 + 2 ^ 8 + ctx)] } }

/-- A context. -/
def State.ctx? (s : State) (c : Nat) : Option DmaCtx := Sparse.find? s.buf.ctxs c

/-- The context is freed. -/
def State.freeCtx (s : State) (c : Nat) : State := { s with buf := { s.buf with ctxs := Sparse.erase s.buf.ctxs c } }

/-- TRANSLATION_FAULT on a command-engine DMA: it suspends in the free context given, or ends with cause 0x9 when none is
free (R269), which completes the command with Internal Error (R534). -/
def State.dmaFault (s : State) (t : Transfer) (ctx : Nat) : State :=
  match s.dsrBase with
  | none => s.complete t.slot .internalError
  | some b =>
    if 64 ≤ s.buf.ctxs.length then s.complete t.slot .internalError
    else if (s.ctx? ctx).isSome then s.ignore
    else ((s.dropTransfers t.slot).storeCtx b ctx (s.ctxOf t false)).postNotice ctx

/-! ### Channels (R348) -/

/-- The transfer on a DMA channel. -/
def State.chan? (s : State) (ch : Nat) : Option Transfer := Sparse.find? s.cmd.dma ch
/-- The state with the transfer on a channel replaced. -/
def State.setChan (s : State) (ch : Nat) (t : Transfer) : State :=
  { s with cmd := { s.cmd with dma := Sparse.insert s.cmd.dma ch t } }
/-- The channel is freed. -/
def State.freeChan (s : State) (ch : Nat) : State := { s with cmd := { s.cmd with dma := Sparse.erase s.cmd.dma ch } }
/-- The channel that carries a slot's transfer. -/
def State.chanOf (s : State) (i : Nat) : Option Nat :=
  (s.cmd.dma.find? (fun (e : Nat × Transfer) => e.2.slot == i)).map Prod.fst

/-- The transfer of a slot that takes, holds or waits for channel `ch`: the one that runs there, one that waits and finds
the channel free, or a fresh one. -/
def State.transferOn (s : State) (ch : Nat) (fresh : Transfer) : Option Transfer :=
  match s.chan? ch with
  | some t => if t.slot = fresh.slot then some t else none
  | none =>
    if (s.chanOf fresh.slot).isSome then none
    else some ((s.cmd.dmaWait.find? (fun (t : Transfer) => t.slot == fresh.slot)).getD fresh)

/-- A transfer waits for a channel while all sixteen are taken (R348). -/
def State.waitChannel (s : State) (fresh : Transfer) : State :=
  if s.cmd.dma.length < 16 || (s.chanOf fresh.slot).isSome then s.ignore
  else if s.cmd.dmaWait.any (fun (t : Transfer) => t.slot == fresh.slot) then s.wait
  else ({ s with cmd := { s.cmd with dmaWait := s.cmd.dmaWait ++ [fresh] } } : State).wait

/-- One granule of the transfer has moved: it goes on with the next handle, or ends and frees its channel. -/
def State.stepChan (s : State) (ch : Nat) (t : Transfer) (next : Nat) : State :=
  let s1 : State := { s with cmd := { s.cmd with dmaWait := s.cmd.dmaWait.filter (fun (w : Transfer) => w.slot != t.slot) } }
  if t.left ≤ 1 then s1.freeChan ch
  else s1.setChan ch { t with handle := next, since := t.since + 1, moved := t.moved + 1, left := t.left - 1 }

/-! ### DMA_GRANULE (R268) -/

/-- The tweak of a block: (NSID << 40) OR LBA in 16 bytes, the lowest first (R436). -/
def xtsTweak (nsid lba : Nat) : List Byte :=
  (List.range 16).map (fun i => BitVec.ofNat 8 ((nsid * 2 ^ 40 ||| lba) / 2 ^ (8 * i)))

/-- The XTS bytes of a granule under the command's key (R33, R436; DESIGN CHOICE, log entry 2). -/
def Slot.xts (x : Slot) (lba : Nat) (enc : Bool) (data : List Byte) : List Byte :=
  let b := x.bound.getD (0, 0)
  (List.range 4096).map (Config.xts b.1 b.2 (xtsTweak (sqeNsid x.sqe) lba) enc data)

/-- A granule of a write arrives from the host and is written, encrypted, to its handle (R268, R339). -/
def State.hostIn (s : State) (ch i peer : Nat) (data : List Byte) (ctx : Nat) (par : Parity) : State :=
  match s.slot? i with
  | none => s.ignore
  | some x =>
    let n := sqeCount x.sqe
    if x.st != .taken || !x.engineWrite || x.lock.isNone || x.granules == [] || x.inserted || decide (n ≤ x.filled)
        || s.hasContext i then s.ignore
    else if s.dev.diePause then s.wait
    else
      let h := nthHandle x.granules x.filled
      let fresh : Transfer := ⟨i, h, 0, x.filled, n - x.filled, false, peer⟩
      match s.transferOn ch fresh with
      | none => s.waitChannel fresh
      | some t =>
        if par = .lasting then (s.lasting .buf).complete i .internalError
        else
          let s0 := if par = .transient then s.transient .buf else s
          match s0.bindKey i with
          | .inr st => s0.complete i st
          | .inl s1 =>
            match s1.translate h true with
            | .stall => s.wait
            | .fault .translationFault => s1.dmaFault { t with handle := h, peer := peer } ctx
            | .fault _ => s1.complete i .internalError
            | .page p =>
              let y := (s1.slot? i).getD x
              let s2 := s1.writeGranule h p (y.xts (x.lba + x.filled) true data)
              (s2.setSlot i { y with filled := x.filled + 1 }).stepChan ch { t with peer := peer }
                (nthHandle x.granules (x.filled + 1))

/-- A granule goes to the host for a command that a pool holds, decrypted; data that cannot be read completes the command
with Unrecovered Read Error (R268, R274); `u` detects a parity failure (R27). -/
def State.hostOut (s : State) (ch i h peer : Nat) (found : List LineFound) (ctx : Nat) (par : Parity) (u : UnitId) : State :=
  match s.slot? i with
  | none => s.ignore
  | some x =>
    if x.st != .work || s.hasContext i then s.ignore
    else if s.dev.diePause then s.wait
    else
      let fresh : Transfer := ⟨i, h, 0, 0, sqeCount x.sqe, true, peer⟩
      match s.transferOn ch fresh with
      | none => s.waitChannel fresh
      | some t =>
        if par = .lasting then (s.lasting u).complete i .internalError
        else
          let s0 := if par = .transient then s.transient u else s
          match s0.bindKey i with
          | .inr st => s0.complete i st
          | .inl s1 =>
            match s1.translate h false with
            | .stall => s.wait
            | .fault .translationFault => s1.dmaFault { t with handle := h, peer := peer } ctx
            | .fault .poisoned => s1.complete i .unrecoveredRead
            | .fault _ => s1.complete i .internalError
            | .page p =>
              let r := s1.readGranule h p 1 found
              match r.2 with
              | some _ => r.1.complete i .unrecoveredRead
              | none =>
                let y := (r.1.slot? i).getD x
                let miss := s1.granuleMiss p found
                let data := y.xts (x.lba + t.moved) false (r.1.granuleData p miss)
                ((if miss then r.1.spend else r.1).stepChan ch { t with peer := peer } (h + 1)).answer (.data data)

/-- The channel DMA port fetches the next sector of the write in progress; a bus error of any kind, a translation fault
too, keeps the sector from being started (R126, R269, R274). -/
def State.fetchSector (s : State) (n : Fin 4) (found : List LineFound) (par : Parity) (u : UnitId) : State :=
  match (s.lane n).cur with
  | none => s.ignore
  | some d =>
    let c := s.ch n
    let taken := fun (i : Nat) => c.wfifo.any (fun w => w.dispId == d.id && w.idx == i) || d.settled.contains i
    match (List.range d.count).find? (fun i => !taken i) with
    | none => s.ignore
    | some i =>
      if !d.isWrite || d.ended.isSome then s.ignore
      else if 3 ≤ c.wfifo.length then s.wait
      else
        let h := d.handle + i
        let put := fun (t : State) (e : Bool) (b : List Byte) =>
          t.setCh n { t.ch n with wfifo := (t.ch n).wfifo ++ [⟨i, d.id, e, b⟩] }
        if par = .lasting then put (s.lasting u) true []
        else
          let s0 := if par = .transient then s.transient u else s
          match s0.translate h false with
          | .stall => s.wait
          | .fault _ => put s0 true []
          | .page p =>
            let r := s0.readGranule h p 1 found
            let miss := s0.granuleMiss p found
            put (if miss then r.1.spend else r.1) r.2.isSome (if r.2.isSome then [] else r.1.granuleData p miss)

/-- DMA_GRANULE (R268).  A parity check fails at the buffer's port, or, of read data on its way back, at the requester's
(R27). -/
def State.dmaGranule (s : State) (m : DmaMove) (ctx : Nat) (par : Parity) (back : Bool) : State :=
  match m with
  | .hostIn ch i peer data => s.when (s.live .cmd && !s.cmd.stopped) (s.hostIn ch.val i peer data ctx par)
  | .hostOut ch i h peer found => s.when (s.live .cmd && !s.cmd.stopped) (s.hostOut ch.val i h peer found ctx par (if back then .cmd else .buf))
  | .fetch n found => s.when (s.live (.chn n)) (s.fetchSector n found par (if back then .chn n else .buf))

/-- DMA_GRANULE (R268). -/
def execDmaGranule (m : DmaMove) (ctx : Fin 64) (par : WayParity) (s : State) :
    Host.Outcome State Fault Refusal :=
  done s (fun s => s.dmaGranule m ctx.val par.outcome par.back)

/-! ### Acting on contexts (R271) -/

/-- The transfer that a context holds. -/
def DmaCtx.transfer (d : DmaCtx) : Transfer := ⟨d.tag, d.hdl, 0, d.moved, d.left, d.req == 1, d.peer⟩

/-- A transfer waits for a channel again. -/
def State.resumeCtx (s : State) (c : Nat) (d : DmaCtx) : State :=
  let s1 := (s.recordState c 2).freeCtx c
  { s1 with cmd := { s1.cmd with dmaWait := s1.cmd.dmaWait ++ [d.transfer] } }

/-- FLT_RESUME: NEXT_HDL is translated again; while it is still not valid, a new fault is recorded in the same context
(R271).  A context whose command has passed its commit point is only freed. -/
def State.fltResume (s : State) (c : Nat) : State :=
  match s.ctx? c with
  | none => s.err .buf eConfig
  | some d =>
    if d.preempted then s.err .buf eConfig
    else if d.req < 2 && !(s.slotState d.tag).isOpen then (s.recordState c 3).freeCtx c
    else if bttValid (s.btt d.hdl) then s.resumeCtx c d
    else
      match s.dsrBase with
      | none => s.postNotice c
      | some b => (s.storeCtx b c d).postNotice c

/-- FLT_RESUME (R271). -/
def execFltResume (eng : Engine) (ctx : Fin 64) (s : State) : Host.Outcome State Fault Refusal :=
  done s (fun s => s.access eng .store .buf Reg.BUF_FLT_CMD none (s.fltResume ctx.val))

/-- The DMA of a context ends with cause 0x9, which completes its command with Internal Error (R271, R534). -/
def State.abortCtx (s : State) (c : Nat) (d : DmaCtx) : State :=
  let s1 := (s.recordState c 3).freeCtx c
  if d.req < 2 then s1.complete d.tag .internalError else s1

/-- FLT_ABORT (R271). -/
def State.fltAbort (s : State) (c : Nat) : State :=
  match s.ctx? c with
  | none => s.err .buf eConfig
  | some d => if d.preempted then s.err .buf eConfig else s.abortCtx c d

/-- FLT_ABORT (R271). -/
def execFltAbort (eng : Engine) (ctx : Fin 64) (s : State) : Host.Outcome State Fault Refusal :=
  done s (fun s => s.access eng .store .buf Reg.BUF_FLT_CMD none (s.fltAbort ctx.val))

/-- FLT_TMO: the buffer aborts a context that firmware has not acted on (R271). -/
def State.fltTmo (s : State) (c : Nat) : State :=
  match s.ctx? c with
  | none => s.ignore
  | some d => if d.preempted then s.ignore else (s.err .buf beFltTmo).abortCtx c d

/-- FLT_TMO (R271). -/
def execFltTmo (ctx : Fin 64) (s : State) : Host.Outcome State Fault Refusal :=
  done s (fun s => s.when (s.live .buf) (s.fltTmo ctx.val))

/-- FLT_POP: the oldest fault notice is removed and returned (R269). -/
def State.fltPop (s : State) : State :=
  match s.buf.notices with
  | [] => s.answer (.value 0)
  | w :: t => ({ s with buf := { s.buf with notices := t } } : State).answer (.value w)

/-- FLT_POP (R269). -/
def execFltPop (eng : Engine) (s : State) : Host.Outcome State Fault Refusal :=
  done s (fun s => s.access eng .load .buf Reg.BUF_FLT_POP none s.fltPop)

/-! ### Pre-emption (R348) -/

/-- The slot's command came from an urgent-class queue (R330, R348). -/
def State.isUrgent (s : State) (i : Nat) : Bool :=
  match s.slot? i with
  | none => false
  | some x => (s.ctrl x.fn).wrr && (match s.subq? x.fn x.sqid with | some q => q.prio == 0 | none => false)

/-- A transfer of an urgent-class queue waits for a channel: one that has asked for a channel, or a write whose granules
are reserved and that is on none (R348). -/
def State.urgentWaits (s : State) : Bool :=
  decide (16 ≤ s.cmd.dma.length) &&
    (s.cmd.dmaWait.any (fun (t : Transfer) => s.isUrgent t.slot)
      || s.cmd.slots.any (fun (e : Nat × Slot) =>
          s.isUrgent e.1 && e.2.st == .taken && e.2.engineWrite && e.2.lock.isSome && e.2.granules != []
            && decide (e.2.filled < sqeCount e.2.sqe) && (s.chanOf e.1).isNone && !s.hasContext e.1))

/-- QUANTUM; 0 is taken as 1 (R354). -/
def State.quantum (s : State) : Nat := max 1 (s.f .cmd F.CMD_PREEMPT_QUANTUM)

/-- DMA_PREEMPT: a transfer is suspended for an urgent one, with a record of KIND 10b and no notice (R348). -/
def State.dmaPreempt (s : State) (ch ctx : Nat) : State :=
  match s.chan? ch, s.dsrBase with
  | some t, some b =>
    if s.on .cmd F.CMD_PREEMPT_PE_EN && decide (s.quantum ≤ t.since) && s.urgentWaits && (s.ctx? ctx).isNone then
      ((s.freeChan ch).storeCtx b ctx (s.ctxOf t true)).count64 .cmd Reg.CMD_CNT_PREEMPT_LO
    else s.ignore
  | _, _ => s.ignore

/-- DMA_PREEMPT (R348). -/
def execDmaPreempt (ch : Fin 16) (ctx : Fin 64) (s : State) : Host.Outcome State Fault Refusal :=
  done s (fun s => s.when (s.live .cmd) (s.dmaPreempt ch.val ctx.val))

/-- DMA_RESUME: a pre-empted transfer goes on when no urgent transfer waits (R348). -/
def State.dmaResume (s : State) (ch ctx : Nat) : State :=
  match s.ctx? ctx with
  | none => s.ignore
  | some d =>
    if !d.preempted then s.ignore
    else if s.urgentWaits || (s.chan? ch).isSome || s.dev.diePause then s.wait
    else ((s.recordState ctx 2).freeCtx ctx).setChan ch d.transfer

/-- DMA_RESUME (R348). -/
def execDmaResume (ch : Fin 16) (ctx : Fin 64) (s : State) : Host.Outcome State Fault Refusal :=
  done s (fun s => s.when (s.live .cmd && !s.cmd.stopped) (s.dmaResume ch.val ctx.val))

end Sys2Proof.Machine
end

