-- ==== Sys2Proof/Machine/Rounds.lean ====
section
/-! DEFINITION. The AES round engines: the messages that run, wait or are suspended (R434 to R438), under the cap level
(R57 to R60). -/

namespace Sys2Proof.Machine

/-! ### The round engines (R434 to R438) -/

/-- A round engine. -/
def State.rEng (s : State) (e : Nat) : RoundEngine := Sparse.get (fun _ => RoundEngine.idle) s.hzl.engines e
/-- The state with a round engine replaced. -/
def State.setREng (s : State) (e : Nat) (x : RoundEngine) : State :=
  { s with hzl := { s.hzl with engines := Sparse.set (fun _ => RoundEngine.idle) s.hzl.engines e x } }

/-- A message joins those that wait: in priority order, and within one priority in arrival order (R437). -/
def waitIn (l : List CMsg) (m : CMsg) : List CMsg :=
  l.takeWhile (fun x => decide (x.prio ≤ m.prio)) ++ [m] ++ l.dropWhile (fun x => decide (x.prio ≤ m.prio))

/-- Engines in use (R58). -/
def State.enginesUsed (s : State) : Nat := ((List.range 24).filter (fun e => (s.rEng e).run.isSome)).length

/-- One more message may run under the cap level (R58, R60). -/
def State.messageRoom (s : State) : Bool := decide (s.enginesUsed < capEngines s.capLevel)

/-- The messages that have started and not ended, running or suspended. -/
def RoundEngine.started (x : RoundEngine) : List CMsg := x.run.toList ++ x.susp

/-- A message started under a level looser than the one in force has not ended (R60). -/
def State.msgSettling (s : State) : Bool :=
  s.hzl.engines.any (fun (e : Nat × RoundEngine) =>
    e.2.started.any (fun m => match m.level with | some l => decide (l < s.capLevel) | none => false))

/-- The expanded keys of an engine after it has used one: a fifth replaces one of the four, which the manual does not say, so a
free one (R435; DESIGN CHOICE, log entry 1). -/
def State.cacheKey (s : State) (e k g : Nat) : State :=
  let x := s.rEng e
  if x.keys.contains (k, g) then s
  else if x.keys.length < 4 then s.setREng e { x with keys := x.keys ++ [(k, g)] }
  else (s.setREng e { x with keys := x.keys.set (s.freeNat % 4) (k, g) }).spend

/-- Every expanded copy of a slot and generation is cleared (R431). -/
def State.dropKey (s : State) (k g : Nat) : State :=
  (List.range 24).foldl (fun (t : State) e => t.setREng e { t.rEng e with keys := (t.rEng e).keys.filter (· != (k, g)) }) s

/-- A message starts, under the level in force, or goes on, on engine `e` (R60, R435). -/
def State.runMsg (s0 : State) (e : Nat) (m : CMsg) : State :=
  let s := s0.cacheKey e m.key m.gen
  s.setREng e { s.rEng e with run := some { m with level := some (m.level.getD s.capLevel) } }

/-- An idle engine in service. -/
def State.idleEng (s : State) : Option Nat :=
  (List.range 24).find? (fun e => (s.rEng e).run.isNone && (s.rEng e).susp.isEmpty && !(s.rEng e).out)

/-- The engine whose message is suspended for a more urgent one: the largest priority number above `prio` on an engine with
a free context (R437). -/
def State.suspendable (s : State) (prio : Nat) : Option Nat :=
  (List.range 24).foldl
    (fun (a : Option Nat) e =>
      match (s.rEng e).run with
      | none => a
      | some m =>
        if m.prio ≤ prio || decide (2 ≤ (s.rEng e).susp.length) then a
        else
          match a with
          | none => some e
          | some b => (match (s.rEng b).run with | some y => if y.prio < m.prio then some e else some b | none => some e))
    none

/-- The scheduler places a message: an idle engine within the cap, a suspension, or the wait (R437). -/
def State.placeMsg (s : State) (m : CMsg) : State :=
  match (if s.messageRoom then s.idleEng else none) with
  | some e => s.runMsg e m
  | none =>
    match s.suspendable m.prio with
    | some e =>
      match (s.rEng e).run with
      | some old =>
        let s1 := s.setREng e { s.rEng e with run := none, susp := old :: (s.rEng e).susp }
        (s1.runMsg e m).count64 .hzl Reg.HZL_CNT_SUSP_LO
      | none => s
    | none => { s with hzl := { s.hzl with waiting := waitIn s.hzl.waiting m } }

/-- What an engine that has become free takes: its most recently suspended message, before waiting work that is not strictly
more urgent (R438). -/
def State.refill (s : State) (e : Nat) : State :=
  let x := s.rEng e
  if x.run.isSome || x.out || !s.messageRoom then s
  else
    let takeW := fun (m : CMsg) (t : List CMsg) =>
      ({ s with hzl := { s.hzl with waiting := t } } : State).runMsg e m
    match x.susp, s.hzl.waiting with
    | [], [] => s
    | [], m :: t => takeW m t
    | r :: rs, [] => (s.setREng e { x with susp := rs }).runMsg e r
    | r :: rs, m :: t => if m.prio < r.prio then takeW m t else (s.setREng e { x with susp := rs }).runMsg e r

/-- Every engine takes what it may. -/
def State.refillAll (s : State) : State := (List.range 24).foldl State.refill s

/-- The cap level takes a value; a looser one frees held messages at once (R60). -/
def State.setCapLevel (s : State) (l : Nat) : State :=
  let t := s.setF .dev F.DEV_PWR_CAP_LEVEL l
  if t.capLevel < s.capLevel then t.refillAll else t

end Sys2Proof.Machine
end

