-- ==== Sys2Proof/Machine/Assist.lean ====
section
/-! DEFINITION. Energy-assisted recording (R202 to R225): arming, the thermal model and its set-points, checks and faults,
the write window, and the Halyard link; with the lane clock divider (R38 to R42) and the pre-heat lead that follows it
(R209). -/

namespace Sys2Proof.Machine

/-- Bits of the assist fault table (R213). -/
abbrev afNotArmed : Nat := 0
abbrev afHal : Nat := 1
abbrev afMon : Nat := 2
abbrev afSlider : Nat := 3
abbrev afIdle : Nat := 4
abbrev afOntime : Nat := 5

/-- Halyard addresses (R222). -/
abbrev halPaId : Nat := 0x00
abbrev halHeadSel : Nat := 0x01
abbrev halWrCur : Nat := 0x02
abbrev halHeaterRd : Nat := 0x03
abbrev halHeaterWr : Nat := 0x04
abbrev halRdrBias : Nat := 0x05
abbrev halLaserBias : Nat := 0x10
abbrev halLaserWr : Nat := 0x11
abbrev halStoBias : Nat := 0x12
abbrev halLaserMon : Nat := 0x18
abbrev halStoFreq : Nat := 0x19
abbrev halSliderT : Nat := 0x1A
abbrev halPaFlt : Nat := 0x1B

/-- The registers that a write frame may name, and those that a read frame may name; any other address is reserved (R222). -/
def halWrites : List Nat := [halHeadSel, halWrCur, halHeaterRd, halHeaterWr, halRdrBias, halLaserBias, halLaserWr, halStoBias]
def halReads : List Nat := [halPaId, halLaserMon, halStoFreq, halSliderT, halPaFlt]

/-! ### Frame words (R219) -/

/-- CRC-8 of a number's `w` bits, the most significant first: x^8 + x^2 + x + 1 from 0xFF (R219). -/
def crc8 (w x : Nat) : Nat :=
  (List.range w).foldl (fun c i => if xor (x.testBit (w - 1 - i)) (c.testBit 7) then (2 * c % 256) ^^^ 7 else 2 * c % 256) 0xFF

/-- The frame is a write (R219). -/
def Frame.isWrite : Frame → Bool
  | .headSel _ | .bias _ | .level _ _ => true
  | _ => false

/-- ADDR (R222). -/
def Frame.addr : Frame → Nat
  | .headSel _ => halHeadSel
  | .bias _ => halLaserBias
  | .level a _ => a
  | .sliderArm | .sliderCheck => halSliderT
  | .check a _ => a
  | .telemetry a => a

/-- DATA of a write frame: a HEAD frame enables the readers with the head index (R222; DESIGN CHOICE, log entry 122). -/
def Frame.data : Frame → Nat
  | .headSel h => 16 + h % 16
  | .bias c | .level _ c => c
  | _ => 0

/-- The bits that the 7904 drives: direction, ADDR, DATA of a write, CRC-8 (R219). -/
def Frame.word (f : Frame) : Nat :=
  if f.isWrite then (f.addr * 65536 + f.data) * 256 + crc8 24 (f.addr * 65536 + f.data)
  else (128 + f.addr) * 256 + crc8 8 (128 + f.addr)

/-- The ACK of a write that the preamplifier takes, and of one that it refuses (R219). -/
abbrev halAccepted : Nat := 0xC5
abbrev halRefused : Nat := 0x3A

/-! ### Tables -/

/-- Word `w` of head row `h` of the assist controller (R223). -/
def Assist.hdWord (a : Assist) (h w : Nat) : Word := Sparse.get (fun _ => 0) a.hdTab (h * 8 + w)
/-- The head table with nothing but KIND, whose bits are RWL and outlast every reset but the cold reset (R7, R202). -/
def Assist.kinds (a : Assist) : List (Nat × Word) :=
  (List.range 12).foldl (fun t h => Sparse.set (fun _ => 0) t (h * 8) (a.hdWord h 0 &&& F.AST_HD_DATA_W0_KIND.mask)) []
/-- SPZ of head `h` in zone `z` (R204). -/
def Assist.spz? (a : Assist) (h z : Nat) : Nat := (Sparse.get (fun _ => 0) a.zpTab (h * 64 + z)).toNat % 256
/-- Model state `i` (0 to 2) of head `h` (R210). -/
def Assist.x (a : Assist) (h i : Nat) : Rat := Sparse.get (fun _ => 0) a.model (h * 4 + i)
/-- The controller with a model state replaced. -/
def Assist.setX (a : Assist) (h i : Nat) (v : Rat) : Assist :=
  { a with model := Sparse.set (fun _ => 0) a.model (h * 4 + i) v }
/-- Word `w` of the head row latched at AST_ARM (R205). -/
def Assist.armed? (a : Assist) (w : Nat) : Word := a.row.getD w 0
/-- A life counter in the units it is kept in: ON_TIME in DSP cycles, ENERGY in code × DSP cycles, RISES (R218). -/
def Assist.lifeRaw (a : Assist) (h c : Nat) : Nat := Sparse.get (fun _ => 0) a.life (lifeKey h c)
/-- A life counter as it reads: 10 ns are 4 DSP cycles, 1 µs is 400; it saturates at all ones (R218). -/
def Assist.lifeRead (a : Assist) (h c : Nat) : Nat :=
  min (a.lifeRaw h c / (if c = 0 then 4 else if c = 1 then 400 else 1)) (2 ^ 64 - 1)

/-- The active head's index in its lane (R185). -/
def State.activeHead (s : State) (n : Fin 4) : Nat := s.f (.srv n) F.SRV_STAT_HEAD

/-! ### The pre-heat lead and the lane clock divider -/

/-- PREHEAT × 768 ÷ D, rounded up, with D = `div` ÷ 65,536 (R209). -/
def leadBits (preheat div : Nat) : Nat := if div = 0 then 0 else (preheat * 768 * 65536 + div - 1) / div

/-- LEAD_RECOMPUTE: AST_LEAD for the active head and the divider in force (R209). -/
def State.leadUpdate (s : State) (n : Fin 4) : State :=
  s.setF (.ast n) F.AST_LEAD_LEAD
    (leadBits (F.AST_HD_DATA_W0_PREHEAT.get ((s.at n).hdWord (s.activeHead n) 0)) (s.lane n).divInForce.toNat)

/-- The range of D that LN_CLK_DIV accepts (R41). -/
def divAccepted (v : Word) : Bool := decide (0x000CCCCD ≤ v.toNat ∧ v.toNat ≤ 0x00400000)

/-- A write of LN_CLK_DIV, by firmware or by the lane itself (R40 to R42, R78). -/
def State.divWrite (s : State) (n : Fin 4) (v : Word) : State :=
  let d := v &&& 0x007FFFFF
  if divAccepted d then
    ((s.setF (.lane n) F.LN_CLK_STAT_RANGE_ERR 0).setF (.lane n) F.LN_CLK_STAT_PENDING 1).setReg (.lane n)
      Reg.LN_CLK_DIV d |>.setLane n { s.lane n with divPending := some d }
  else s.setF (.lane n) F.LN_CLK_STAT_RANGE_ERR 1

/-- LN_CLK_DIV_WRITE (R41, R42). -/
def execLnClkDivWrite (eng : Engine) (n : Fin 4) (v : Word) (s : State) : Host.Outcome State Fault Refusal :=
  done s (fun s => s.access eng .store (.lane n) Reg.LN_CLK_DIV none (s.divWrite n v))

/-- CLK_DIV_TAKE_EFFECT: with the read gate, Ln_WGATE and Ln_AGATE inactive, the pending value comes into force, and
SETTLED clears (R42). -/
def State.divEffect (s : State) (n : Fin 4) : State :=
  match (s.lane n).divPending with
  | none => s.ignore
  | some d =>
    if s.readGate n || (s.lane n).wgate || s.agate n then s.wait
    else
      ((s.setF (.lane n) F.LN_CLK_STAT_PENDING 0).setF (.lane n) F.LN_CLK_STAT_SETTLED 0).setLane n
        { s.lane n with divInForce := d, divPending := none }

/-- CLK_DIV_TAKE_EFFECT (R42). -/
def execClkDivTakeEffect (n : Fin 4) (s : State) : Host.Outcome State Fault Refusal :=
  done s (fun s => s.when (s.clocked (.lane n)) (s.divEffect n))

/-- LCLK_SETTLED: SETTLED sets again, AST_LEAD takes its new value in the same cycle, and a gate that waited for it may open
(R42, R153, R209). -/
def execLclkSettled (n : Fin 4) (s : State) : Host.Outcome State Fault Refusal :=
  done s (fun s => s.when (s.clocked (.lane n) && !s.settled n) (((s.setF (.lane n) F.LN_CLK_STAT_SETTLED 1).leadUpdate n).updWgate n |>.updAgate n))

/-! ### Set-points (R211) -/

/-- The nearest whole number to a rational, a tie going up (DESIGN CHOICE, log entry 11). -/
def roundNearest (q : Rat) : Int := (q + 1 / 2).floor

/-- SP of the head latched at AST_ARM, under the model rules (R211). -/
def Assist.setPoint (a : Assist) (h : Nat) (modelEn : Bool) : Nat :=
  let w1 := a.armed? 1
  let k := a.armed? 4
  let raw : Int :=
    if a.kind = 1 ∧ modelEn then
      let th : Rat := (F.AST_HD_DATA_W4_K1.get k * a.x h 0 + F.AST_HD_DATA_W4_K2.get k * a.x h 1
        + F.AST_HD_DATA_W4_K3.get k * a.x h 2) / 256
      roundNearest (a.spz * (1 - th))
    else a.spz
  (min (max raw (F.AST_HD_DATA_W1_SP_MIN.get w1)) (F.AST_HD_DATA_W1_SP_MAX.get w1)).toNat

/-- SP for the armed head now. -/
def State.setPoint (s : State) (n : Fin 4) : Nat :=
  (s.at n).setPoint (s.f (.ast n) F.AST_STAT_HEAD) (s.on (.ast n) F.AST_CTL_MODEL_EN)

/-- The level register that carries SP (R203). -/
def Assist.levelAddr (a : Assist) : Nat := if a.kind = 1 then halLaserWr else halStoBias

/-- A frame becomes due (R221). -/
def State.queueFrame (s : State) (n : Fin 4) (f : Frame) : State :=
  s.setAt n { s.at n with queue := (s.at n).queue ++ [f] }

/-! ### Arming (R205 to R207) -/

/-- The last AST_ARM is refused (R205, R206). -/
def State.armRefuse (s : State) (n : Fin 4) (res : Nat) : State :=
  let s1 := (s.setF (.ast n) F.AST_STAT_ARM_RES res).setAt n { s.at n with refused := true, arming := false }
  if res = 2 then s1.count64 (.ast n) Reg.AST_CNT_REFUSE_LO else s1

/-- ARMED sets, and AST_READY rises (R205). -/
def State.armReady (s : State) (n : Fin 4) : State :=
  let s1 := (s.setF (.ast n) F.AST_STAT_ARMED 1).setF (.ast n) F.AST_STAT_ARM_RES 1
  (s1.setAt n { s1.at n with arming := false }).updAgate n

/-- AST_ARM at the controller: the row, the zone and its set-point are latched, and the arming sequence begins or is
refused (R205). -/
def State.arm (s : State) (n : Fin 4) (rzone : Nat) : State :=
  let h := s.activeHead n
  let a := s.at n
  let row := (List.range 5).map (fun w => a.hdWord h w)
  let s0 := ((s.disarm n).setF (.ast n) F.AST_STAT_HEAD h).setF (.ast n) F.AST_STAT_RZONE rzone
  let s1 := s0.setAt n { s0.at n with row := row, spz := a.spz? h rzone, refused := false, arming := false }
  let kind := F.AST_HD_DATA_W0_KIND.get (row.getD 0 0)
  let w1 := row.getD 1 0
  if s1.assistFaulted n then s1.armRefuse n 3
  else if kind = 3 ∨ F.AST_HD_DATA_W1_SP_MAX.get w1 < F.AST_HD_DATA_W1_SP_MIN.get w1 then
    (s1.armRefuse n 3).err (.ast n) eConfig
  else if kind = 0 then s1.armReady n
  else if !s1.on (.ast n) F.AST_WIN_STAT_DRV_OK then s1.armRefuse n 2
  else (s1.setAt n { s1.at n with arming := true }).queueFrame n .sliderArm

/-- AST_DISARM at the controller: ARMED clears, no fault is latched, and a refusal stops counting (R206 to R208). -/
def State.astDisarm (s : State) (n : Fin 4) : State :=
  let s1 := s.disarm n
  s1.setAt n { s1.at n with refused := false }

/-! ### Halyard frames (R219 to R222) -/

/-- The rank of a frame among those due (R221).  The repeat of a check that failed takes the next slot, as R212 says, like the
repeat of a frame; a LASER_BIAS frame ranks with the set-point frames (DEDUCED, log entry 122). -/
def Frame.rank : Frame → Nat
  | .check _ true => 0
  | .headSel _ => 1
  | .bias _ | .level _ _ => 2
  | .sliderArm | .check _ false | .sliderCheck => 3
  | .telemetry _ => 4

/-- The frame that a slot carries, where one is due: a repeat, else the first of the highest priority (R221). -/
def Assist.dueFrame (a : Assist) : Option Frame :=
  match a.repeated with
  | some f => some f
  | none => (List.range 5).findSome? (fun r => a.queue.find? (fun f => f.rank == r))

/-- The frame of a slot as it is sent: a set-point frame carries the SP of its slot (R211), and a slot with no frame due carries
a background read, of a register that no rule names (R221; a free choice among those of R222, DESIGN CHOICE, log entry 122). -/
def State.slotFrame (s : State) (n : Fin 4) : Frame :=
  match (s.at n).dueFrame with
  | some (.level a c) => if (s.at n).repeated.isSome then .level a c else .level a (s.setPoint n)
  | some f => f
  | none => .telemetry (halReads.getD (s.freeNat % halReads.length) halPaId)

/-- The unit that asked for a frame (R220). -/
def Frame.requester (n : Fin 4) : Frame → UnitId
  | .headSel _ => .tsq n
  | _ => .ast n

/-- The reply accepts the frame: ACK 0xC5 for a write, data with a matching CRC-8 for a read (R219, R220). -/
def Frame.accepted (f : Frame) : HalReply → Bool
  | .silent => false
  | .ack c => f.isWrite && c == halAccepted
  | .data v crc => !f.isWrite && decide (v < 65536) && crc == crc8 16 v

/-- The data of a read frame's reply. -/
def replyValue : HalReply → Nat
  | .data v _ => v
  | _ => 0

/-- SLIDER_MAX of the active head: the row latched at AST_ARM for the armed head (R205), else its row of the table. -/
def State.sliderMax (s : State) (n : Fin 4) : Int :=
  let w := if s.armed n || (s.at n).arming then (s.at n).armed? 0 else (s.at n).hdWord (s.activeHead n) 0
  signed 8 (F.AST_HD_DATA_W0_SLIDER_MAX.get w)

/-- SLIDER_T has been read: the reading and SLIDER_OK (R215), and the fault SLIDER when Ln_AGATE is high (R213). -/
def State.readSlider (s : State) (n : Fin 4) (v : Nat) : State :=
  let t := signed 8 (v % 256)
  let hot := decide (s.sliderMax n < t)
  let s1 := ((s.setF (.ast n) F.AST_WIN_STAT_SLIDER_T (v % 256)).setF (.ast n) F.AST_WIN_STAT_SLIDER_OK (bit (!hot))).setAt n
    { s.at n with sliderRead := true }
  if hot && s.agate n then s1.assistFault n afSlider else s1

/-- The monitor reading passes the check of the armed head's kind (R212). -/
def State.monOk (s : State) (n : Fin 4) (r : Nat) : Bool :=
  let w1 := (s.at n).armed? 1
  let lo := F.AST_HD_DATA_W1_MON_LO.get w1
  let hi := F.AST_HD_DATA_W1_MON_HI.get w1
  let sp := s.f (.ast n) F.AST_STAT_SP
  let v := r % 256
  if (s.at n).kind = 1 then decide (lo * sp ≤ v * 64 ∧ v * 64 ≤ hi * sp)
  else decide (r / 2 ^ 15 % 2 = 1 ∧ lo ≤ v ∧ v ≤ hi)

/-- A check's reading: a pass is followed by the SLIDER_T read, a failure by the one repeat in the next slot, and that one's
failure by the fault MON (R212, R213). -/
def State.checkRead (s : State) (n : Fin 4) (addr : Nat) (again : Bool) (v : Nat) : State :=
  if s.monOk n v then (if again then s.transient (.ast n) else s).queueFrame n .sliderCheck
  else if again then s.assistFault n afMon
  else s.queueFrame n (.check addr true)

/-- A set-point is in force from its ACK on (R211, R218). -/
def State.spAcked (s : State) (n : Fin 4) (code : Nat) : State :=
  (s.setAt n { s.at n with spWas := some ((s.at n).spWas.getD (s.f (.ast n) F.AST_STAT_SP)) }).setF (.ast n) F.AST_STAT_SP code

/-- What a frame does when it succeeds (R205, R211, R212, R222); `wd`: its request was withdrawn before its repeat. -/
def State.frameDone (s : State) (n : Fin 4) (f : Frame) (wd : Bool) (v : Nat) : State :=
  match f with
  | .headSel h =>
    let s1 := s.setSq n { s.sq n with headOk := true }
    let w0 := (s1.at n).hdWord h 0
    if F.AST_HD_DATA_W0_KIND.get w0 = 1 then s1.queueFrame n (.bias (F.AST_HD_DATA_W0_BIAS.get w0)) else s1
  | .bias _ => s
  | .level _ code =>
    let s1 := s.spAcked n code
    if wd || !(s1.at n).arming then s1
    else if s1.on (.ast n) F.AST_WIN_STAT_SLIDER_OK then s1.armReady n
    else s1.armRefuse n 2
  | .sliderArm =>
    if wd then s
    else
      let s1 := s.readSlider n v
      s1.queueFrame n (.level (s1.at n).levelAddr (s1.setPoint n))
  | .check a again => if wd then s else s.checkRead n a again v
  | .sliderCheck => if wd then s else s.readSlider n v
  | .telemetry a => if a = halSliderT then s.readSlider n v else s

/-- The frame is one of the assist's own: not the sequencer's HEAD frame, nor a background read. -/
def Frame.isAssist : Frame → Bool
  | .headSel _ | .telemetry _ => false
  | _ => true

/-- What a frame does when its repeat fails: HAL_FAIL and one lasting fault, and for an assist frame while ARMED or during an
AST_ARM the fault HAL (R213, R220). -/
def State.frameFailed (s : State) (n : Fin 4) (f : Frame) (wd : Bool) : State :=
  match f with
  | .headSel _ =>
    let s1 := (s.err (.tsq n) 10).lasting (.tsq n)
    s1.setSq n { s1.sq n with headErr := true }
  | _ =>
    let s1 := s.err (.ast n) 9
    if f.isAssist && !wd && (s1.at n).arming then (s1.setF (.ast n) F.AST_STAT_ARM_RES 3).assistFault n afHal
    else if f.isAssist && !wd && s1.armed n then s1.assistFault n afHal
    else s1.lasting (.ast n)

/-- A frame leaves the queue and goes out in its slot (R219, R221). -/
def State.sendFrame (s : State) (n : Fin 4) (f : Frame) : State :=
  let a := s.at n
  let q := match a.repeated, a.dueFrame with | none, some g => a.queue.erase g | _, _ => a.queue
  s.setAt n { a with repeated := none, withdrawn := false, wire := f.word, queue := q,
                     sinceSet := if f matches .level _ _ then 0 else a.sinceSet }

/-- HALYARD_FRAME: one slot of the link (R219 to R221). -/
def State.halyardFrame (s : State) (n : Fin 4) (r : HalReply) : State :=
  let f := s.slotFrame n
  let again := (s.at n).repeated.isSome
  let wd := (s.at n).withdrawn
  let s0 := s.sendFrame n f
  let s1 := if (s.at n).dueFrame.isNone then s0.spend else s0
  if f.accepted r then (if again then s1.transient (f.requester n) else s1).frameDone n f wd (replyValue r)
  else if again then s1.frameFailed n f wd
  else s1.setAt n { s1.at n with repeated := some f }

/-- HALYARD_FRAME (R219). -/
def execHalyardFrame (n : Fin 4) (r : HalReply) (s : State) : Host.Outcome State Fault Refusal :=
  done s (fun s => s.when (s.live (.ast n)) (s.halyardFrame n r))

/-! ### The thermal model (R210, R211, R218) -/

/-- The head row that the model uses: the latched one for the head of AST_STAT (R205). -/
def State.modelRow (s : State) (n : Fin 4) (h w : Nat) : Word :=
  if s.f (.ast n) F.AST_STAT_HEAD = h ∧ (s.at n).row ≠ [] then (s.at n).armed? w else (s.at n).hdWord h w

/-- One period of one head's three states: `u` is the period's fraction with Ln_AGATE high, `c` DSP cycles of 512
(R210). -/
def stepHead (a : Assist) (p h c : Nat) (a1 a2 a3 : Nat) : Assist :=
  let s16 := Sparse.get (fun _ => 0) a.usum (h * 2) + c
  let s256 := Sparse.get (fun _ => 0) a.usum (h * 2 + 1) + c
  let b1 := a.setX h 0 (a.x h 0 + (a1 / 65536 : Rat) * ((c / 512 : Rat) - a.x h 0))
  let b2 := if p % 16 = 0 then b1.setX h 1 (b1.x h 1 + (a2 / 65536 : Rat) * ((s16 / 8192 : Rat) - b1.x h 1)) else b1
  let b3 := if p % 256 = 0 then b2.setX h 2 (b2.x h 2 + (a3 / 65536 : Rat) * ((s256 / 131072 : Rat) - b2.x h 2)) else b2
  { b3 with usum := Sparse.set (fun _ => 0) (Sparse.set (fun _ => 0) b3.usum (h * 2) (if p % 16 = 0 then 0 else s16))
              (h * 2 + 1) (if p % 256 = 0 then 0 else s256) }

/-- The life counters after `c` DSP cycles with Ln_AGATE high and `e` more code × cycles (R218). -/
def Assist.addLife (a : Assist) (h c e : Nat) : Assist :=
  { a with life := Sparse.set (fun _ => 0) (Sparse.set (fun _ => 0) a.life (lifeKey h 0) (a.lifeRaw h 0 + c))
             (lifeKey h 1) (a.lifeRaw h 1 + e) }

/-- The set-point frame of an armed head falls due: SP differs from the value last acknowledged, and UPD slots have
passed since the last one (R211).  One not sent yet is due only while that holds. -/
def State.setPointDue (s : State) (n : Fin 4) : State :=
  let sp := s.setPoint n
  let a := s.at n
  let isSet := fun (f : Frame) => f matches .level _ _
  if a.arming then s.setAt n { a with sp := sp }
  else
    let q := a.queue.filter (fun f => !isSet f)
    let due := s.armed n && a.kind != 0 && sp != s.f (.ast n) F.AST_STAT_SP && !a.repeated.any isSet
      && decide (max (s.f (.ast n) F.AST_CTL_UPD) 1 ≤ a.sinceSet)
    s.setAt n { a with sp := sp, queue := if due then q ++ [.level a.levelAddr sp] else q }

/-- ENERGY's part of a period: the cycles before a set-point was acknowledged at the old one, the others at the new (R218). -/
def Assist.energy (a : Assist) (high before sp : Nat) : Nat :=
  match a.spWas with
  | none => high * sp
  | some old => before * old + (high - before) * sp

/-- ASSIST_MODEL_PERIOD: the states of all twelve heads advance, the life counters take the period's on-time, and SP is
recomputed (R210, R211, R218). -/
def State.modelPeriod (s : State) (n : Fin 4) (high before : Nat) : State :=
  let a := s.at n
  let p := (a.period + 1) % 256
  let b := (List.range 12).foldl (fun b h =>
    let w2 := s.modelRow n h 2
    stepHead b p h (if h = a.agHead then high else 0) (F.AST_HD_DATA_W2_A1.get w2) (F.AST_HD_DATA_W2_A2.get w2)
      (F.AST_HD_DATA_W3_A3.get (s.modelRow n h 3))) a
  let b1 := b.addLife a.agHead high (a.energy high before (s.f (.ast n) F.AST_STAT_SP))
  (s.setAt n { b1 with period := p, spWas := none, sinceSet := a.sinceSet + 1, sinceCheck := a.sinceCheck - 1 }).setPointDue n

/-- ASSIST_MODEL_PERIOD (R210). -/
def execAssistModelPeriod (n : Fin 4) (g : GateTime) (s : State) : Host.Outcome State Fault Refusal :=
  done s (fun s => s.when (s.live (.ast n) && decide (g.before ≤ g.high ∧ g.high ≤ 512)) (s.modelPeriod n g.high g.before))

/-! ### Checks (R212, R213) -/

/-- The check that falls due is asked for, of the monitor of the armed head's kind (R212, R222). -/
def State.checkDue (s : State) (n : Fin 4) : State :=
  let a := s.at n
  if a.sinceCheck = 0 then
    (s.setAt n { a with sinceCheck := max (s.f (.ast n) F.AST_CTL_MON_SLOTS) 2 }).queueFrame n
      (.check (if a.kind = 1 then halLaserMon else halStoFreq) false)
  else s

/-- ASSIST_CHECK: a check that falls due is asked for, and goes out in this slot unless another frame holds it; then it waits for
a later slot (R212, R221). -/
def State.assistCheck (s : State) (n : Fin 4) (r : HalReply) : State :=
  let s1 := s.checkDue n
  if (s1.at n).dueFrame matches some (.check _ _) then s1.halyardFrame n r else s1

/-- ASSIST_CHECK (R212). -/
def execAssistCheck (n : Fin 4) (driven : Bool) (v crc : Nat) (s : State) : Host.Outcome State Fault Refusal :=
  let r := if driven then HalReply.data v crc else .silent
  done s (fun s => s.when (s.live (.ast n) && s.agate n) (s.assistCheck n r))

/-- AG_IDLE_TIMEOUT: Ln_AGATE high with Ln_WGATE low throughout latches the fault IDLE (R213). -/
def execAgIdleTimeout (n : Fin 4) (s : State) : Host.Outcome State Fault Refusal :=
  done s (fun s => s.when (s.agate n && !(s.lane n).wgate) (s.assistFault n afIdle))

/-- AG_ONTIME_TIMEOUT: Ln_AGATE high without a break latches the fault ONTIME (R213). -/
def execAgOntimeTimeout (n : Fin 4) (s : State) : Host.Outcome State Fault Refusal :=
  done s (fun s => s.when (s.agate n) (s.assistFault n afOntime))

/-! ### The write window (R215) -/

/-- The drive-internal reading of the last round in 0.25 °C, if it is valid (R504). -/
def State.driveReading (s : State) : Option Int :=
  let w := Sparse.get (fun _ => (0 : Word)) s.house.data 16
  if F.HKP_CH_DATA_VALID.get w = 1 then some (signed 16 (F.HKP_CH_DATA_VALUE.get w)) else none

/-- DRV_OK from the drive-internal reading in 0.25 °C, if it is valid, with 2 °C of hysteresis (R215, R504). -/
def State.driveWindow (s : State) (n : Fin 4) (reading : Option Int) : State :=
  let lo := signed 8 (s.f (.ast n) F.AST_WIN_CFG_WT_MIN)
  let hi := signed 8 (s.f (.ast n) F.AST_WIN_CFG_WT_MAX)
  let s1 := if hi < lo + 4 then s.err (.ast n) eConfig else s
  let ok :=
    match reading with
    | none => false
    | some t =>
      if lo < -5 ∨ hi < lo + 4 then false
      else if s.on (.ast n) F.AST_WIN_STAT_DRV_OK then decide (4 * lo ≤ t ∧ t ≤ 4 * hi)
      else decide (4 * (lo + 2) ≤ t ∧ t ≤ 4 * (hi - 2))
  let s2 := match reading with | some t => s1.setF (.ast n) F.AST_WIN_STAT_DRV_T (unsigned 8 (t.ediv 4)) | none => s1
  s2.setF (.ast n) F.AST_WIN_STAT_DRV_OK (bit ok)

end Sys2Proof.Machine
end

