-- ==== Sys2Proof/Machine/Servo.lean ====
section
/-! DEFINITION. Servo and actuators (R170 to R201): the sample at each wedge, lock, seeks, the write inhibit, shock, the
pivot mailbox, unload and the hardware retract. -/

namespace Sys2Proof

/-! ### The servo field (R170 to R172) -/

/-- The SAM was accepted at a position searched: the first at which no more than 1 of the 16 bits differs (R171). -/
def WedgeRead.samFound (r : WedgeRead) (positions : Nat) : Bool := (r.sam.take positions).any (fun d => decide (d ≤ 1))

/-- The number of ones among the low `w` bits of a number is odd. -/
def oddOnes (w x : Nat) : Bool := ((List.range w).filter (fun i => x.testBit i)).length % 2 == 1

/-- PAR agrees: bit 1 with the even parity over TID, bit 0 with the even parity over WNUM (R170). -/
def WedgeRead.parityOk (r : WedgeRead) : Bool :=
  oddOnes 22 r.tid.toNat == r.par.getLsbD 1 && oddOnes 10 r.wn.toNat == r.par.getLsbD 0

/-- A good wedge: the SAM within ±8 servo bits, and both parities (R171). -/
def WedgeRead.ok (r : WedgeRead) : Bool := r.samFound 17 && r.parityOk

/-- A good wedge in ACQUIRE, where the search covers the whole wedge interval (R186). -/
def WedgeRead.okAnywhere (r : WedgeRead) : Bool := r.samFound r.sam.length && r.parityOk

/-- The number that a Gray code of `w` bits stands for. -/
def grayDecode (w x : Nat) : Nat := (List.range w).foldl (fun a k => a ^^^ (x >>> k)) 0

/-- The track that TID names (R170). -/
def WedgeRead.track (r : WedgeRead) : Nat := grayDecode 22 r.tid.toNat

/-- The wedge number (R170). -/
def WedgeRead.wnum (r : WedgeRead) : Nat := r.wn.toNat

/-- The head's radial position in units of 1/2048 of track pitch, formed from TID and the bursts (R172). -/
def WedgeRead.pos (r : WedgeRead) : Int := r.track * 2048 + r.frac

end Sys2Proof

namespace Sys2Proof.Machine

/-! ### Access -/

/-- W (R66). -/
def State.wedges (s : State) : Nat := s.f .med F.MED_WEDGE_CFG_WEDGES
/-- The engine closes its position loop: ACQUIRE to SHOCK (R189). -/
def closedLoop (m : Nat) : Bool := decide (mAcquire ≤ m ∧ m ≤ mShock)
/-- The modes in which a SEEK or HOLD ends at once with SEEK_ERR (R185). -/
def cannotSeek (m : Nat) : Bool := !closedLoop m
/-- The stack may be off the ramp (R182). -/
def State.maybeOffRamp (s : State) (n : Fin 4) : Bool :=
  decide (mLoading ≤ s.mode n ∧ s.mode n ≤ mUnloading) || (s.mode n == mFault && (s.sv n).offRamp)
/-- The mailbox slot that lane `n` writes (R189). -/
def mbxOff (n : Fin 4) : Nat := if n.val % 2 = 0 then Reg.PIV_MBX0 else Reg.PIV_MBX1
/-- The mailbox slot of lane `n`'s partner. -/
def partnerOff (n : Fin 4) : Nat := if n.val % 2 = 0 then Reg.PIV_MBX1 else Reg.PIV_MBX0
/-- Lane `n`'s pivot group. -/
def pivUnit (n : Fin 4) : UnitId := .piv (pivotOf n)

/-- MODE takes a value: leaving FOLLOW sets the write inhibit (R187), and outside the closed-loop modes the engine clears VALID
of its mailbox slot (R181, R189). -/
def State.enterMode (s : State) (n : Fin 4) (m : Nat) : State :=
  let s1 := if m = mFollow then s.setMode n m else (s.setMode n m).setInhibit n true
  if closedLoop m then s1
  else s1.setReg (pivUnit n) (mbxOff n) (F.PIV_MBX0_VALID.put (s1.reg (pivUnit n) (mbxOff n)) 0)

/-! ### Target and error (R172, R177, R179, R180) -/

/-- Units of the target position in one track. -/
abbrev unitsPerTrack : Int := 51200

/-- OFS of the lowest valid entry of the band offset table that covers a head and track (R180). -/
def Servo.bandOffset (v : Servo) (head track : Nat) : Int :=
  match (List.range 256).find? (fun e =>
    let w0 := Sparse.get (fun _ => 0) v.bofs (e * 2)
    let w1 := Sparse.get (fun _ => 0) v.bofs (e * 2 + 1)
    F.SRV_BOFS_DATA_W0_VALID.get w0 == 1 && F.SRV_BOFS_DATA_W0_HEAD.get w0 == head
      && decide (F.SRV_BOFS_DATA_W0_FIRST.get w0 ≤ track ∧ track ≤ F.SRV_BOFS_DATA_W1_LAST.get w1)) with
  | some e => signed 8 (F.SRV_BOFS_DATA_W1_OFS.get (Sparse.get (fun _ => 0) v.bofs (e * 2 + 1)))
  | none => 0

/-- The target: DTRACK's centre, plus the offsets in 0.5% of track pitch, plus the band offset in 1/256 (R179). -/
def targetOf (dtrack : Nat) (ofs band : Int) : Int := dtrack * unitsPerTrack + ofs * 256 + band * 200

/-- An offset beyond ±30% of track pitch (R179). -/
def beyond30 (ofs band : Int) : Bool := decide (15360 < (ofs * 256 + band * 200).natAbs)

/-- The runout correction at a wedge and track, in 1/2048 of track pitch, rounded towards zero (R177). -/
def State.runout (s : State) (n : Fin 4) (wedge track : Nat) (par : Parity) : Int :=
  if !s.on (.srv n) F.SRV_CTL_RRO_EN ∨ par = .lasting then 0
  else
    let w := Sparse.get (fun _ => 0) (s.sv n).rro (s.activeHead n * 768 + wedge)
    let od := signed 16 (F.SRV_RRO_DATA_RRO_OD.get w)
    let id := signed 16 (F.SRV_RRO_DATA_RRO_ID.get w)
    let span := s.f (.srv n) F.SRV_RRO_SPAN_TRACKS
    if span = 0 then od else Int.tdiv (od * span + (id - od) * track) span

/-- SRV_PES.ERR: e in 1/2048 of track pitch, saturating at ±0x7FFF (R172); `e` is in 1/51,200, and the cut to 1/2048, where
the target is fractional, is towards zero (DESIGN CHOICE, log entry 121). -/
def pesErr (e : Int) : Int := max (-0x7FFF) (min 0x7FFF (Int.tdiv e 25))

/-- |e| beyond a limit in 0.5% of track pitch (R187). -/
def beyond (e : Int) (halfPercent : Nat) : Bool := decide (halfPercent * 256 < e.natAbs)

/-- The write-inhibit threshold in 0.5% of track pitch: WI_THR held between 0x04 and 0x18 (R187). -/
def State.wiThr (s : State) (n : Fin 4) : Nat := max 4 (min 0x18 (s.f (.srv n) F.SRV_PES_THR_WI_THR))

/-- OPW: the dispatch in progress is a write (condition 15). -/
def State.opw (s : State) (n : Fin 4) : Bool := match (s.lane n).cur with | some d => d.isWrite | none => false

/-- The settle window, a write window no wider than the inhibit threshold, and the settle count (R183). -/
def State.settleWin (s : State) (n : Fin 4) : Nat :=
  if s.opw n then min (s.f (.srv n) F.SRV_SETTLE_WR_WIN) (s.wiThr n) else s.f (.srv n) F.SRV_SETTLE_RD_WIN
/-- The settle count; 0 is taken as 1. -/
def State.settleCnt (s : State) (n : Fin 4) : Nat :=
  max 1 (if s.opw n then s.f (.srv n) F.SRV_SETTLE_WR_CNT else s.f (.srv n) F.SRV_SETTLE_RD_CNT)

/-! ### The rotational position (R67) -/

/-- MED_ROT_POS takes a wedge read by lane `n`, in pivot-0 numbering (R67). -/
def State.rotPos (s : State) (n : Fin 4) (wnum : Nat) : State :=
  let w := s.wedges
  let p := if n.val < 2 then wnum else (wnum + w - w / 2) % w
  (((s.setF .med F.MED_ROT_POS_VALID 1).setF .med F.MED_ROT_POS_WEDGE p).setF .med F.MED_ROT_POS_FRAC 0)

/-- VALID of MED_ROT_POS is 0 while no lane has servo lock; the rest keeps what it had advanced to, which no rule gives
(R67; DESIGN CHOICE, log entry 1). -/
def State.rotValid (s : State) : State :=
  if lanes4.any (fun n => s.slock n) then s
  else if s.on .med F.MED_ROT_POS_VALID then
    ((s.setF .med F.MED_ROT_POS_VALID 0).setF .med F.MED_ROT_POS_FRAC s.freeNat).spend
  else s

/-! ### Seeks (R183 to R185) -/

/-- SRV_SEEK_STAT after the end of a seek (R183, R200). -/
def State.seekStat (s : State) (n : Fin 4) (result us : Nat) : State :=
  ((((s.setF (.srv n) F.SRV_SEEK_STAT_VALID 1).setF (.srv n) F.SRV_SEEK_STAT_RESULT result).setF (.srv n)
    F.SRV_SEEK_STAT_REPEAT (bit (s.sv n).repeatUsed)).setF (.srv n) F.SRV_SEEK_STAT_TIME (min us 0xFFFFF))

/-- A SEEK to these offsets starts a move, or waits for lock: its mode can seek, and the target is in range (R179, R185). -/
def State.seekStarts (s : State) (n : Fin 4) (dtrack : Nat) (ofs : Int) : Bool :=
  !cannotSeek (s.mode n) && !beyond30 ofs ((s.sv n).bandOffset (s.activeHead n) dtrack)

/-- A SEEK in progress is over (R58). -/
def State.seekOver (s : State) (n : Fin 4) : State :=
  (s.setSv n { s.sv n with seeking := false, pendingSeek := false, check := 0 }).capEnd (.seek n.val)

/-- The SEEK ends with SEEK_ERR (R184, R185). -/
def State.seekError (s : State) (n : Fin 4) (us : Nat) : State :=
  let s1 := (s.seekStat n 2 us).seekOver n
  s1.setSq n { s1.sq n with seekErr := true }

/-- The SEEK ends with SEEK_DONE (R183); a repeated one that passed its check was a transient fault (R184). -/
def State.seekDone (s : State) (n : Fin 4) (us : Nat) : State :=
  let s0 := if (s.sv n).repeatUsed then s.transient (.srv n) else s
  let s1 := (s0.seekStat n 1 us).seekOver n
  s1.setSq n { s1.sq n with seekDone := true }

/-- The move towards the target begins: 4 tracks or fewer go through SETTLE, more through SEEK (R183). -/
def State.startMove (s : State) (n : Fin 4) : State :=
  let v := s.sv n
  let s1 := s.setSv n { v with settle := 0, check := 0, pendingSeek := false }
  if 4 * unitsPerTrack < ((v.pos * 25 - v.target).natAbs : Int) then s1.enterMode n mSeek else s1.enterMode n mSettle

/-- A SEEK command at the engine (R179, R180, R183, R185). -/
def State.servoSeek (s : State) (n : Fin 4) (dtrack : Nat) (offtrk ofs : Int) : State :=
  let band := (s.sv n).bandOffset (s.activeHead n) dtrack
  let s0 := s.setSq n { s.sq n with seekDone := false, seekErr := false }
  let s1 := s0.setSv n { s0.sv n with repeatUsed := false }
  if cannotSeek (s.mode n) then s1.seekError n 0
  else if beyond30 (offtrk + ofs) band then (s1.err (.srv n) eConfig).seekError n 0
  else
    let v := { s1.sv n with dtrack := dtrack, offtrk := offtrk, band := band, moved := false, seeking := true,
                            target := targetOf dtrack (offtrk + ofs) band }
    let s2 := if (s1.sv n).seeking then s1.setSv n v else (s1.setSv n v).capStart (.seek n.val)
    if s2.slock n then s2.startMove n else s2.setSv n { s2.sv n with pendingSeek := true }

/-- The track under the head, rounded towards the target (R185). -/
def Servo.trackTowards (v : Servo) : Int :=
  if v.pos * 25 < v.target then -((-v.pos) / 2048) else v.pos / 2048

/-- A HOLD command at the engine (R185). -/
def State.servoHold (s : State) (n : Fin 4) (us : Nat) : State :=
  if cannotSeek (s.mode n) then s.setSq n { s.sq n with seekErr := true }
  else if !(s.sv n).seeking then s
  else
    let s1 := (s.seekStat n 3 us).seekOver n
    let s2 := s1.setSv n { s1.sv n with target := (s1.sv n).trackTowards * unitsPerTrack, settle := 0 }
    if s2.slock n then s2.enterMode n mSettle else s2

/-- A HEAD command at the engine: the new head and its reader, SLOCK cleared, ACQUIRE (R185).  In a mode with no position loop
to acquire with, the head and its reader change and the mode stays (DESIGN CHOICE, log entry 121). -/
def State.servoHead (s : State) (n : Fin 4) (h : Nat) : State :=
  let srdr := (s.f (.srv n) F.SRV_HD_SRDR_SRDR) / 2 ^ h % 2
  let s1 := (s.setF (.srv n) F.SRV_STAT_HEAD h).setSv n { s.sv n with reader := srdr, lastW := none }
  if closedLoop (s.mode n) then
    let s2 := (s1.slockFall n).enterMode n mAcquire
    (s2.setSv n { s2.sv n with pendingSeek := (s1.sv n).seeking, lastW := none, cur := (s2.sv n).bias }).rotValid
  else s1

/-! ### The sample at a wedge (R171, R173, R183 to R187, R189, R190, R192) -/

/-- Lock is regained at two good wedges whose numbers follow one another (R186), which may let Ln_AGATE rise (R208); a load
then counts (R195), and a SEEK that waits for lock starts (R185). -/
def State.regainLock (s : State) (n : Fin 4) (track : Nat) : State :=
  let v := s.sv n
  let s0 := (s.setF (.srv n) F.SRV_STAT_SLOCK 1).updAgate n
  let s1 := if v.loadTry = 0 then s0 else
    (if v.loadTry = 2 then s0.transient (.srv n) else s0).count64 (.srv n) Reg.SRV_CNT_LOAD_LO
  let s2 := s1.setSv n { v with loadTry := 0, retryLoad := false, lastW := none, missed := false, settle := 0 }
  if v.seeking then s2.startMove n
  else (s2.setSv n { s2.sv n with target := track * unitsPerTrack }).enterMode n mSettle

/-- A wedge in ACQUIRE (R186): one that is missed counts as such (R171); the repeat of R171 is for a wedge missed under lock
(DEDUCED, log entry 121). -/
def State.acquireWedge (s : State) (n : Fin 4) (r : WedgeRead) : State :=
  let v := s.sv n
  if !r.okAnywhere then
    ((s.count64 (.srv n) Reg.SRV_CNT_MISS_LO).setF (.srv n) F.SRV_PES_MISS 1).setSv n { v with lastW := none }
  else
    let s1 := ((((s.setF (.srv n) F.SRV_TRACK_VALID 1).setF (.srv n) F.SRV_TRACK_TRACK r.track).setF (.srv n)
      F.SRV_PES_MISS 0).setF (.srv n) F.SRV_PES_WEDGE r.wnum).setSv n
      { v with lastW := some r.wnum, wedge := r.wnum, pos := r.pos }
    if v.lastW.any (fun w => r.wnum == (w + 1) % s.wedges) then (s1.regainLock n r.track).rotPos n r.wnum else s1

/-- WEDGE_LOCK_LOSS: the engine holds the last bias current (R186, R156). -/
def State.lockLoss (s : State) (n : Fin 4) : State :=
  let s1 := ((s.slockFall n).err (.srv n) 8).enterMode n mAcquire
  (s1.setSv n { s1.sv n with lastW := none, settle := 0, check := 0, pendingSeek := (s1.sv n).seeking,
                             cur := (s1.sv n).bias }).rotValid

/-- The runout word read for the sample (R178). -/
def State.runoutFault (s : State) (n : Fin 4) (par : Parity) : State :=
  match par with
  | .ok => s
  | .transient => s.transient (.srv n)
  | .lasting => (s.err (.srv n) eParity).lasting (.srv n)

/-- The track check of the first two wedges in FOLLOW after a SEEK (R184). -/
def State.seekCheck (s : State) (n : Fin 4) (track : Option Nat) (us : Nat) : State :=
  let v := s.sv n
  if v.check = 0 then s
  else if track = some v.dtrack then
    if v.check = 1 then (s.setSv n { v with check := 0 }).seekDone n us else s.setSv n { v with check := v.check - 1 }
  else if !v.repeatUsed then
    (s.setSv n { v with repeatUsed := true, check := 0 }).startMove n
  else
    let s1 := ((s.err (.srv n) 9).lasting (.srv n)).seekError n us
    s1.setSv n { s1.sv n with target := (track.getD v.dtrack : Nat) * unitsPerTrack }

/-- FOLLOW is entered; after a SEEK the track check begins (R183, R184). -/
def State.enterFollow (s : State) (n : Fin 4) : State :=
  let s1 := s.enterMode n mFollow
  s1.setSv n { s1.sv n with check := if (s1.sv n).seeking then 2 else 0, settle := 0 }

/-- The shock response at a sample: with SHOCK_N inactive, SHOCK_HOLD good samples after the first end it (R192). -/
def State.shockStep (s : State) (n : Fin 4) (good : Bool) : State :=
  let v := s.sv n
  if !v.shockInh || v.shockIn then s
  else
    let k := if v.shockHold = 0 then 1 else if good then v.shockHold + 1 else 1
    if max 1 (s.f (.srv n) F.SRV_PES_THR_SHOCK_HOLD) < k then
      let s1 := (s.setSv n { v with shockInh := false, shockHold := 0 }).setF (.srv n) F.SRV_STAT_SHOCK 0
      if s1.mode n = mShock then s1.enterFollow n else s1
    else s.setSv n { v with shockHold := k }

/-- The mode after a sample with error `e` (R183, R184). -/
def State.modeStep (s : State) (n : Fin 4) (e : Int) (track : Option Nat) (us : Nat) : State :=
  let v := s.sv n
  if s.mode n = mSeek then
    if (e.natAbs : Int) ≤ 4 * unitsPerTrack then (s.setSv n { v with settle := 0 }).enterMode n mSettle else s
  else if s.mode n = mSettle then
    if beyond e (s.settleWin n) then s.setSv n { v with settle := 0 }
    else if s.settleCnt n ≤ v.settle + 1 then s.enterFollow n
    else s.setSv n { v with settle := v.settle + 1 }
  else if s.mode n = mFollow then s.seekCheck n track us
  else s

/-- SERVO_WRITE_INHIBIT: the inhibit from the sample's error, the miss, lock, mode and shock (R187). -/
def State.inhibitStep (s : State) (n : Fin 4) (e : Int) : State :=
  s.setInhibit n (beyond e (s.wiThr n) || (s.sv n).missed || !s.slock n || s.mode n != mFollow || (s.sv n).shockInh)

/-- The feed-forward of the partner's VCM command: G × U with G in 1/128, and 0 while it is off, the slot is not valid or it
is stale (R190). -/
def State.rtcTerm (s : State) (n : Fin 4) : Int :=
  let w := s.reg (pivUnit n) (partnerOff n)
  let g := signed 8 (s.f (pivUnit n) (if n.val % 2 = 0 then F.PIV_RTC_GAIN_G_UPPER else F.PIV_RTC_GAIN_G_LOWER))
  if s.on (.srv n) F.SRV_CTL_RTC_EN && F.PIV_MBX0_VALID.get w == 1 && !s.on (.srv n) F.SRV_STAT_STALE then
    Int.fdiv (g * signed 16 (F.PIV_MBX0_U.get w)) 128
  else 0

/-- A number held within 16 signed bits. -/
def sat16 (x : Int) : Int := max (-32768) (min 32767 x)

/-- The control law of a sample: the current command of the loop's own, which the manual leaves to its coefficients (a free
value; R173, R174; DESIGN CHOICE, log entry 1), and the partner's feed-forward added to it (R190), within the range of the
mailbox slot; the bias that the estimator has found is free too.  In ACQUIRE the last bias current is held (R186). -/
def State.controlLaw (s : State) (n : Fin 4) : State :=
  if s.mode n = mAcquire then s
  else
    let own := signed 16 (s.freeNat % 2 ^ 16)
    let s1 := s.spend
    (s1.setSv n { s1.sv n with cur := sat16 (own + s.rtcTerm n), bias := signed 16 (s1.freeNat % 2 ^ 16) }).spend

/-- The codes of Ln_VCM_DAC and Ln_MA_DAC after a sample: the voltage that drives the current, and the microactuator's
command, free values (R173; DESIGN CHOICE, log entry 1); in ACQUIRE they are held with the current (R186). -/
def State.dacCodes (s : State) (n : Fin 4) : State :=
  if s.mode n = mAcquire then s
  else
    let s1 := (s.setF (.srv n) F.SRV_VCM_OUT_VCM s.freeNat).spend
    (s1.setF (.srv n) F.SRV_VCM_OUT_MA s1.freeNat).spend

/-- PIVOT_MAILBOX_WRITE: the engine writes its current command into its slot and increments SEQ (R189). -/
def State.mailboxWrite (s : State) (n : Fin 4) : State :=
  if closedLoop (s.mode n) then
    let w := s.reg (pivUnit n) (mbxOff n)
    s.setReg (pivUnit n) (mbxOff n)
      (F.PIV_MBX0_U.put (F.PIV_MBX0_SEQ.put (F.PIV_MBX0_VALID.put w 1) (F.PIV_MBX0_SEQ.get w + 1)) (unsigned 16 (s.sv n).cur))
  else s

/-- The DAC update of a sample (R173, R189). -/
def State.dacUpdate (s : State) (n : Fin 4) : State := ((s.controlLaw n).dacCodes n).mailboxWrite n

/-- The bank that a mode uses (R175, R181). -/
def bankOf (mode bank : Nat) : Nat :=
  let f := fun (x : Field) => x.get (BitVec.ofNat 32 bank)
  if mode = mSeek then f F.SRV_BANK_SEEK
  else if mode = mSettle then f F.SRV_BANK_SETTLE
  else if mode = mShock then f F.SRV_BANK_SHOCK
  else f F.SRV_BANK_FOLLOW

/-- SRV_BANK and the bank of the mode come into force at a sample boundary (R175). -/
def State.takeBank (s : State) (n : Fin 4) : State :=
  let b := (s.reg (.srv n) Reg.SRV_BANK).toNat
  s.setSv n { s.sv n with bank := b, bankNow := bankOf (s.mode n) b }

/-- The velocity limit at `d` tracks from the target, in tracks per sample × 65,536: entry i where 2^i ≤ d < 2^(i+1), going
linearly to entry i + 1 within the octave (R176).  The cut to a whole unit, and entry 31 beyond its own octave, are the
model's (DESIGN CHOICE, log entry 121). -/
def Servo.velocityLimit (v : Servo) (d : Nat) : Nat :=
  let i := min 31 (Nat.log2 d)
  let e := fun (k : Nat) => (Sparse.get (fun _ => (0 : Word)) v.coef (512 + min 31 k)).toNat
  ((e i : Int) + Int.fdiv (((e (i + 1) : Int) - e i) * ((d : Int) - 2 ^ i)) (2 ^ i)).toNat

/-- Whole tracks between the head and its target. -/
def Servo.distance (v : Servo) : Nat := (v.pos * 25 - v.target).natAbs / unitsPerTrack.toNat

/-- In SEEK the velocity profile bounds the move (R176, R183). -/
def State.seekProfile (s : State) (n : Fin 4) : State :=
  let v := s.sv n
  s.setSv n { v with vlim := if s.mode n = mSeek then v.velocityLimit v.distance else 0 }

/-- The partner's slot at a sample: stale when SEQ has not changed over two samples (R190). -/
def State.partnerStep (s : State) (n : Fin 4) : State :=
  let w := s.reg (pivUnit n) (partnerOff n)
  let v := s.sv n
  let seq := F.PIV_MBX0_SEQ.get w
  let same := if F.PIV_MBX0_VALID.get w = 1 ∧ seq = v.partnerSeq then v.partnerSame + 1 else 0
  let stale := s.on (.srv n) F.SRV_CTL_RTC_EN && decide (2 ≤ same)
  let s1 := (s.setSv n { v with partnerSeq := seq, partnerSame := same }).setF (.srv n) F.SRV_STAT_STALE (bit stale)
  let fld := if n.val % 2 = 0 then F.PIV_RTC_STAT_STALE1 else F.PIV_RTC_STAT_STALE0
  if stale then s1.setF (pivUnit n) fld (min (s1.f (pivUnit n) fld + 1) 0xFFFF) else s1

/-- An ST to SRV_OFS moves the target at the sample boundary, through SETTLE; one beyond ±30% outside a SEEK sets CONFIG and
leaves the target (R179; DESIGN CHOICE, log entry 121). -/
def State.applyMove (s : State) (n : Fin 4) : State :=
  let v := s.sv n
  if !v.moved then s
  else
    let ofs := signed 8 (s.sq n).srvOfs
    let t := if beyond30 (v.offtrk + ofs) v.band then v.target else targetOf v.dtrack (v.offtrk + ofs) v.band
    let s1 := s.setSv n { v with moved := false, settle := 0, target := t }
    let s2 := if beyond30 (v.offtrk + ofs) v.band then s1.err (.srv n) eConfig else s1
    if s2.mode n = mFollow then s2.enterMode n mSettle else s2

/-- A good wedge with lock (R171, R172). -/
def State.goodWedge (s : State) (n : Fin 4) (r : WedgeRead) (us : Nat) : State :=
  let s0 := if (s.sv n).missed then s.transient (.srv n) else s
  let s1 := (s0.runoutFault n r.runout).rotPos n r.wnum
  let e := r.pos * 25 - (s1.sv n).target - s1.runout n r.wnum r.track r.runout * 25
  let s2 := (((((s1.setF (.srv n) F.SRV_TRACK_VALID 1).setF (.srv n) F.SRV_TRACK_TRACK r.track).setF (.srv n)
    F.SRV_PES_MISS 0).setF (.srv n) F.SRV_PES_WEDGE r.wnum).setF (.srv n) F.SRV_PES_ERR (unsigned 16 (pesErr e)))
  let s3 := s2.setSv n { s2.sv n with missed := false, wedge := r.wnum, pos := r.pos }
  ((s3.modeStep n e (some r.track) us).shockStep n (!beyond e (s3.wiThr n))).inhibitStep n e

/-- MISSED_WEDGE: the estimator's prediction, which the manual leaves to its coefficients, stands for the measurement: a
free value (R171; DESIGN CHOICE, log entry 1); the second miss in succession loses lock (R186). -/
def State.missedWedge (s : State) (n : Fin 4) (us : Nat) : State :=
  let v := s.sv n
  let s1 := (s.count64 (.srv n) Reg.SRV_CNT_MISS_LO).setF (.srv n) F.SRV_PES_MISS 1
  let w := (v.wedge + 1) % s.wedges
  if v.missed then ((s1.setSv n { v with wedge := w }).lasting (.srv n)).lockLoss n
  else
    let e : Int := 25 * signed 16 s1.freeNat
    let s2 := (s1.setF (.srv n) F.SRV_PES_ERR (unsigned 16 (pesErr e))).spend
    let s3 := s2.setSv n { v with missed := true, wedge := w }
    ((s3.modeStep n e none us).shockStep n false).inhibitStep n e

/-- SERVO_WEDGE: one control sample (R173). -/
def State.servoWedge (s : State) (n : Fin 4) (r : WedgeRead) (us : Nat) : State :=
  if !(s.live (.srv n) && closedLoop (s.mode n) && decide (r.wnum < s.wedges)) then s.ignore
  else
    let s00 := s.runLoops n
    let s0 := s00.setTim n { s00.tim n with excl := true }
    let s1 := s0.takeBank n
    let s2 :=
      if s1.mode n = mAcquire then s1.acquireWedge n r
      else if r.ok then (s1.applyMove n).goodWedge n r us
      else (s1.applyMove n).missedWedge n us
    (((s2.seekProfile n).partnerStep n).dacUpdate n).updWgate n

/-- SERVO_WEDGE (R173). -/
def execServoWedge (n : Fin 4) (r : WedgeRead) (us : Nat) (s : State) : Host.Outcome State Fault Refusal :=
  done s (fun s => s.servoWedge n r us)

/-- The code of Ln_VCM_DAC that puts a voltage across the coil: 20 × 0.600 V is full scale (R559); outward is positive, as
VRET's reset value shows, and the cut to a whole code is downwards (DESIGN CHOICE, log entry 121). -/
def vcmCode (mV : Nat) : Nat := mV * 32768 / 12000

/-- The voltage across the coil that a code gives, in mV (R559). -/
def vcmVolts (code : Int) : Int := Int.fdiv (code * 12000) 32768

/-- The coil resistance in mΩ: RCOIL, or the Idsar image's before the first load (R197). -/
def State.coilR (s : State) (n : Fin 4) : Nat :=
  if s.f (.srv n) F.SRV_VCM_CAL_RCOIL = 0 then (s.sv n).rIdsar else s.f (.srv n) F.SRV_VCM_CAL_RCOIL

/-- The back-EMF in mV at a coil current in mA: V − I × RCOIL (R195, R197). -/
def State.bemf (s : State) (n : Fin 4) (ma : Int) : Int :=
  vcmVolts (signed 16 (s.f (.srv n) F.SRV_VCM_OUT_VCM)) - Int.fdiv (ma * s.coilR n) 1000

/-- The voltage command of the inner loops: in the modes that control position, the loop on Ln_VCM_ISNS sets it (R173); in a
load or an unload the back-EMF control does (R195, R196); both free values (DESIGN CHOICE, log entry 1).  In a hardware retract
the path lowers it whenever the back-EMF exceeds BEMF_MAX (R197), by an amount that is free; that it looks when the inner
loop runs is the model's choice (DESIGN CHOICE, log entry 121). -/
def State.vcmLoop (s : State) (n : Fin 4) (ma : Int) : State :=
  if s.mode n = mRetract then
    let code := s.f (.srv n) F.SRV_VCM_OUT_VCM
    if 10 * (s.f (.srv n) F.SRV_RETRACT_BEMF_MAX : Int) < s.bemf n ma ∧ 0 < code then
      (s.setF (.srv n) F.SRV_VCM_OUT_VCM (s.freeNat % code)).spend
    else s
  else (s.setF (.srv n) F.SRV_VCM_OUT_VCM s.freeNat).spend

/-- VCM_CURRENT_LOOP (R173, R195 to R197). -/
def execVcmCurrentLoop (x : CoilSense) (s : State) : Host.Outcome State Fault Refusal :=
  let n := x.lane
  doneRetract s (fun s => s.when (s.mode n == mRetract || (s.live (.srv n) && decide (mLoading ≤ s.mode n ∧ s.mode n ≤ mUnloading)))
    (s.vcmLoop n x.ma))

/-! ### Unload and retract (R186, R195 to R198) -/

/-- A SEEK in progress ends with SEEK_ERR because its mode can no longer seek (R185); the time since the SEEK, which no operand
carries here, is a free value (R200; DESIGN CHOICE, log entry 1). -/
def State.endSeekForMode (s : State) (n : Fin 4) : State :=
  if (s.sv n).seeking then (s.seekError n s.freeNat).spend else s

/-- Back-EMF control drives the stack: its voltage is a free value (R195, R196; DESIGN CHOICE, log entry 1). -/
def State.bemfDrive (s : State) (n : Fin 4) : State := (s.setF (.srv n) F.SRV_VCM_OUT_VCM s.freeNat).spend

/-- An unload begins: the write inhibit sets, SLOCK clears, MODE is UNLOADING under back-EMF control (R156, R196). -/
def State.beginUnload (s : State) (n : Fin 4) : State :=
  let s1 := (((s.slockFall n).endSeekForMode n).enterMode n mUnloading).bemfDrive n
  (s1.setSv n { s1.sv n with offRamp := true }).rotValid

/-- LOCK_REGAIN_TIMEOUT: two revolutions in ACQUIRE without lock, outside a load, unload the stack (R186). -/
def execLockRegainTimeout (n : Fin 4) (s : State) : Host.Outcome State Fault Refusal :=
  done s (fun s => s.when (s.mode n == mAcquire && (s.sv n).loadTry == 0) (s.beginUnload n))

/-- SEEK_TIMEOUT: the SEEK ends with SEEK_ERR and WDOG, and the head follows the track it stands on (R185). -/
def State.seekTimeout (s : State) (n : Fin 4) (us : Nat) : State :=
  let s1 := (s.err (.srv n) eWdog).seekError n us
  let s2 := s1.setSv n { s1.sv n with target := (s1.f (.srv n) F.SRV_TRACK_TRACK : Nat) * unitsPerTrack, settle := 0 }
  if s2.mode n = mSeek then s2.enterMode n mSettle else s2

/-- SEEK_TIMEOUT (R185). -/
def execSeekTimeout (c : SeekClock) (s : State) : Host.Outcome State Fault Refusal :=
  done s (fun s => s.when (s.sv c.lane).seeking (s.seekTimeout c.lane c.us))

/-- A voltage outward across the coil, and no microactuator deflection (R195, R197, R559). -/
def State.voltageOut (s : State) (n : Fin 4) (mV : Nat) : State :=
  (s.setF (.srv n) F.SRV_VCM_OUT_VCM (vcmCode mV)).setF (.srv n) F.SRV_VCM_OUT_MA 0

/-- HW_RETRACT: the hardware retract path takes the actuator, at VRET (R182, R197, R198).  It ends a load in progress, unless
it only finishes the unload of a load that failed (`failing`; R195, R196). -/
def State.hwRetract (s : State) (n : Fin 4) (failing : Bool) : State :=
  let fault := s.mode n == mFault
  let s1 := (((s.slockFall n).endSeekForMode n).enterMode n mRetract).voltageOut n (20 * s.f (.srv n) F.SRV_RETRACT_VRET)
  let v := s1.sv n
  let s2 := s1.setSv n
    { v with retract := true, offRamp := true, loadTry := if failing then v.loadTry else 0,
             retryLoad := failing && v.retryLoad, faultAfter := fault, shockInh := false }
  (s2.setF (.srv n) F.SRV_STAT_SHOCK 0).rotValid

/-- A trigger of the hardware retract reaches a lane: it overrides every state, and a retract in progress goes on, with no load
to follow it (R197, R198). -/
def State.retractLane (s : State) (n : Fin 4) : State :=
  if s.mode n = mRetract then s.setSv n { s.sv n with loadTry := 0, retryLoad := false } else s.hwRetract n false

/-- The lanes that a trigger reaches: the triggers for one lane act with heads loaded, the others on every lane (R198). -/
def State.retractHits (s : State) (n : Fin 4) (t : RetractTrigger) : Bool :=
  match t with
  | .pfail | .spFault | .thermalTrip => true
  | _ => s.maybeOffRamp n

/-- HW_RETRACT (R197, R198). -/
def execHwRetract (n : Fin 4) (t : RetractTrigger) (s : State) : Host.Outcome State Fault Refusal :=
  done s (fun s => s.when (s.retractHits n t) (s.retractLane n))

/-- A load starts, or starts again: 0.20 V outward against the parking stop (R195). -/
def State.beginLoad (s : State) (n : Fin 4) (try_ : Nat) : State :=
  let s1 := (s.enterMode n mLoading).voltageOut n 200
  s1.setSv n { s1.sv n with loadTry := try_, retryLoad := false, offRamp := false, lastW := none }

/-- The stack of a load that failed is parked: the load is repeated once, and a second failure is lasting, with the unit in
FAULT (R195, step 5). -/
def State.loadFailed (s : State) (n : Fin 4) : State :=
  if (s.sv n).loadTry = 1 then s.beginLoad n 2
  else
    let s1 := ((s.err (.srv n) 10).lasting (.srv n)).setSv n { s.sv n with loadTry := 0, retryLoad := false }
    (s1.setUnitState (.srv n) stFault).enterMode n mFault

/-- The retract has ended: MODE becomes PARKED, or FAULT for a unit in FAULT, or OFF for a unit whose enable has fallen
(R182, R197); the unload of a load that failed has ended with it (R195). -/
def State.retractEnd (s : State) (n : Fin 4) : State :=
  let v := s.sv n
  let s1 := (s.setSv n { v with retract := false, offRamp := false, faultAfter := false }).setF (.srv n)
    F.SRV_VCM_OUT_VCM 0
  if v.faultAfter then s1.enterMode n mFault
  else if s1.unitState (.srv n) = stDrain then
    if s1.effEn (.srv n) then (s1.setUnitState (.srv n) stIdle).enterMode n mParked
    else (s1.setUnitState (.srv n) stOff).enterMode n mOff
  else if s1.unitState (.srv n) = stOff then s1.enterMode n mOff
  else if v.retryLoad && s1.unitState (.srv n) = stIdle then s1.loadFailed n
  else s1.enterMode n mParked

/-- RETRACT_PARKED: DONE, and one retract counted (R197). -/
def execRetractParked (n : Fin 4) (s : State) : Host.Outcome State Fault Refusal :=
  doneRetract s (fun s => s.when (s.mode n == mRetract)
    ((((s.setF (.srv n) F.SRV_RET_STAT_DONE 1).setF (.srv n) F.SRV_RET_STAT_INCOMPLETE 0).count64 (.srv n)
      Reg.SRV_CNT_RETRACT_LO).retractEnd n))

/-- RETRACT_TIMEOUT: the drive is removed anyway; INCOMPLETE and RET_INC (R197). -/
def execRetractTimeout (n : Fin 4) (s : State) : Host.Outcome State Fault Refusal :=
  doneRetract s (fun s => s.when (s.mode n == mRetract)
    ((((s.setF (.srv n) F.SRV_RET_STAT_DONE 0).setF (.srv n) F.SRV_RET_STAT_INCOMPLETE 1).err (.srv n) 11).retractEnd n))

/-- UNLOAD: from ACQUIRE to SHOCK the stack moves to the ramp (R196). -/
def execServoUnload (eng : Engine) (n : Fin 4) (s : State) : Host.Outcome State Fault Refusal :=
  done s (fun s => s.access eng .store (.srv n) Reg.SRV_CMD none (if closedLoop (s.mode n) then s.beginUnload n else s))

/-- UNLOAD_PARKED: MODE becomes PARKED, or the load that failed is repeated or given up (R195, R196). -/
def State.unloadParked (s : State) (n : Fin 4) : State :=
  let v := s.sv n
  let s1 := (s.setSv n { v with offRamp := false }).setF (.srv n) F.SRV_VCM_OUT_VCM 0
  if v.retryLoad then s1.loadFailed n else s1.enterMode n mParked

/-- UNLOAD_PARKED (R196). -/
def execUnloadParked (n : Fin 4) (s : State) : Host.Outcome State Fault Refusal :=
  done s (fun s => s.when (s.mode n == mUnloading) (s.unloadParked n))

/-- UNLOAD_TIMEOUT: the hardware retract path takes over (R196, R198). -/
def execUnloadTimeout (n : Fin 4) (s : State) : Host.Outcome State Fault Refusal :=
  done s (fun s => s.when (s.mode n == mUnloading) (s.hwRetract n true))

/-- LOAD_RCOIL_MEASURED: step 1 of a load ends with the coil resistance, and back-EMF control drives the stack down the ramp
(R195). -/
def execLoadRcoilMeasured (n : Fin 4) (mohm : Nat) (s : State) : Host.Outcome State Fault Refusal :=
  done s (fun s => s.when (s.mode n == mLoading && decide (mohm < 2 ^ 16)) ((s.setF (.srv n) F.SRV_VCM_CAL_RCOIL mohm).bemfDrive n))

/-- HEADS_OFF_RAMP: the SAM search starts (R195, step 3). -/
def execHeadsOffRamp (n : Fin 4) (s : State) : Host.Outcome State Fault Refusal :=
  done s (fun s => s.when (s.mode n == mLoading)
    ((s.setSv n { s.sv n with offRamp := true, lastW := none }).enterMode n mAcquire))

/-- LOAD_LOCK_TIMEOUT: no lock 100 ms after LOAD: the engine unloads, to load again or to fail (R195, step 5). -/
def execLoadLockTimeout (n : Fin 4) (s : State) : Host.Outcome State Fault Refusal :=
  done s (fun s => s.when ((s.mode n == mLoading || s.mode n == mAcquire) && (s.sv n).loadTry != 0)
    (let s1 := s.beginUnload n
     s1.setSv n { s1.sv n with retryLoad := true }))

/-! ### Coefficients (R174 to R176) -/

/-- SRV_BANK names the bank for some state (R175). -/
def State.bankNamed (s : State) (n : Fin 4) (b : Nat) : Bool :=
  [s.f (.srv n) F.SRV_BANK_SHOCK, s.f (.srv n) F.SRV_BANK_FOLLOW, s.f (.srv n) F.SRV_BANK_SETTLE,
    s.f (.srv n) F.SRV_BANK_SEEK].contains b

/-- The unit's own rule on a coefficient write (R175, R176). -/
def State.coefRefused (s : State) (n : Fin 4) : Option BusCause :=
  let i := s.f (.srv n) F.SRV_COEF_IDX_INDEX
  if i < 512 then (if s.bankNamed n (i / 64) then some .accessDenied else none)
  else if i < 544 then (if s.mode n = mSeek then some .accessDenied else none)
  else none

/-- AUTOINC advances an index field after a data access. -/
def State.advance (s : State) (u : UnitId) (auto idx : Field) (size : Nat) : State :=
  if s.on u auto then s.setF u idx ((s.f u idx + 1) % size) else s

/-- COEF_WRITE: the coefficient at SRV_COEF_IDX (R174 to R176, R200). -/
def State.coefWrite (s : State) (n : Fin 4) (v : Word) : State :=
  let i := s.f (.srv n) F.SRV_COEF_IDX_INDEX
  let s1 := if i < 544 then s.setSv n { s.sv n with coef := Sparse.set (fun _ => 0) (s.sv n).coef i v } else s
  s1.advance (.srv n) F.SRV_COEF_IDX_AUTOINC F.SRV_COEF_IDX_INDEX 1024

/-- COEF_WRITE (R175). -/
def execCoefWrite (eng : Engine) (n : Fin 4) (v : Word) (s : State) : Host.Outcome State Fault Refusal :=
  done s (fun s => s.access eng .store (.srv n) Reg.SRV_COEF_DATA (s.coefRefused n) (s.coefWrite n v))

/-- A channel's reading of the last round: valid, and its value. -/
def State.chan (s : State) (c : Nat) : Bool × Int :=
  let w := Sparse.get (fun _ => (0 : Word)) s.house.data c
  (F.HKP_CH_DATA_VALID.get w == 1, signed 16 (F.HKP_CH_DATA_VALUE.get w))

/-! ### Loads (R194) -/

/-- SRV_WEDGE_CFG is accepted (R188). -/
def State.wedgeCfgOk (s : State) (n : Fin 4) : Bool :=
  let g := s.f (.srv n) F.SRV_WEDGE_CFG_POSTG
  decide (0x40 ≤ g ∧ 216 + g + 40 ≤ s.f (.srv n) F.SRV_WEDGE_CFG_EXCL)

/-- The drive-internal temperature of the housekeeping engine is −5 °C or above (R194, R504). -/
def State.warmEnough (s : State) : Bool := (s.chan 16).1 && decide (-20 ≤ (s.chan 16).2)

/-- A write of LOAD (R194). -/
def State.servoLoad (s : State) (n : Fin 4) : State :=
  let s1 := if s.wedgeCfgOk n then s else s.err (.srv n) eConfig
  if s.mode n ≠ mParked then s1.err (.srv n) eConfig
  else if s.on .spn F.SPN_STAT_AT_SPEED && s.warmEnough && s.wedgeCfgOk n then
    (s1.setF (.srv n) F.SRV_STAT_LOAD_REF 0).beginLoad n 1
  else s1.setF (.srv n) F.SRV_STAT_LOAD_REF 1

/-- LOAD (R194). -/
def execServoLoad (eng : Engine) (n : Fin 4) (s : State) : Host.Outcome State Fault Refusal :=
  done s (fun s => s.access eng .store (.srv n) Reg.SRV_CMD none (s.servoLoad n))

/-- Lanes that a power state unloaded load once the spindle is at speed (R61, R194). -/
def State.loadParked (s : State) : State :=
  if !s.on .spn F.SPN_STAT_AT_SPEED then s
  else
    let s1 := (lanes4.filter (fun n => s.dev.psParked.contains n.val)).foldl
      (fun (t : State) n => if t.mode n = mParked then t.servoLoad n else t) s
    { s1 with dev := { s1.dev with psParked := [] } }

end Sys2Proof.Machine
end

