-- ==== Sys2Proof/Machine/Spindle.lean ====
section
/-! DEFINITION. Spindle motor control (R226 to R258): direct torque and flux control, the speed loop, starting, catching and
braking, the chopper, power-loss regeneration and faults. -/

namespace Sys2Proof.Machine

/-- Spindle modes (R241). -/
abbrev spOff : Nat := 0
abbrev spStopped : Nat := 1
abbrev spMeasure : Nat := 2
abbrev spBrake : Nat := 3
abbrev spHold : Nat := 4
abbrev spAlign : Nat := 5
abbrev spAccel : Nat := 6
abbrev spRun : Nat := 7
abbrev spDecel : Nat := 8
abbrev spCoast : Nat := 9
abbrev spRegen : Nat := 10
abbrev spFault : Nat := 11

/-- Bits of SPN_FLT_STAT (R257). -/
abbrev sfStage : Nat := 0
abbrev sfVbusTrip : Nat := 1
abbrev sfOvercur : Nat := 2
abbrev sfLos : Nat := 3
abbrev sfStartFail : Nat := 4
abbrev sfBrakeTmo : Nat := 5
abbrev sfSense : Nat := 6
abbrev sfChop : Nat := 7

/-! ### Modes and speed -/

/-- MODE (R241). -/
def State.spMode (s : State) : Nat := s.f .spn F.SPN_STAT_MODE
/-- The modes in which torque drives the motor (R239). -/
def spDriving (m : Nat) : Bool := m == spAccel || m == spRun || m == spDecel || m == spRegen
/-- The speed relative to DIR, in 1/16 rpm; 0 while none has been measured. -/
def State.spSpeed (s : State) : Int :=
  let v : Int := s.f .spn F.SPN_SPEED_SPEED
  if !s.on .spn F.SPN_SPEED_VALID then 0 else if s.on .spn F.SPN_SPEED_BACK then -v else v
/-- The speed's size. -/
def State.spAbs (s : State) : Nat := s.spSpeed.natAbs
/-- The chopper fault is latched (R249). -/
def State.chopFlt (s : State) : Bool := (s.reg .spn Reg.SPN_FLT_STAT).getLsbD sfChop
/-- PLOSS (R250). -/
def State.ploss (s : State) : Bool := s.on .spn F.SPN_STAT_PLOSS

/-- The vector in force; none: all switches open (R227). -/
def State.spInForce (s : State) : Option Nat := if s.spn.open_ then none else some (s.f .spn F.SPN_STAT_VEC)

/-- The switches open: no vector, no sector (R227). -/
def State.spOpen (s : State) : State :=
  { (s.setF .spn F.SPN_STAT_VEC 0).setF .spn F.SPN_STAT_SECTOR 0 with
    spn := { s.spn with open_ := true, tau := 0, was := s.spInForce, next := none, inj := none, nextInj := none } }

/-- A vector is in force from now on (R227). -/
def State.spVector (s : State) (v : Nat) : State :=
  { s.setF .spn F.SPN_STAT_VEC v with
    spn := { s.spn with open_ := false, was := s.spInForce, next := some v, inj := none, nextInj := none } }

/-! ### The six switch commands (R226, R227, R233) -/

/-- The upper commands of V0 to V7, in the order U, V, W (R227). -/
def vectorUpper (v : Nat) : List Bool :=
  [[false, false, false], [true, false, false], [true, true, false], [false, true, false], [false, true, true],
    [false, false, true], [true, false, true], [true, true, true]].getD v [false, false, false]

/-- The level of a phase's upper command under a vector; none: both its switches are open. -/
def phaseLevel (v : Option Nat) (ph : Nat) : Option Bool := v.map (fun k => (vectorUpper k).getD ph false)

/-- DEADT in DSP cycles, at least 0x10 (R226, R257). -/
def State.spDead (s : State) : Nat := max 0x10 (s.f .spn F.SPN_DEADT_DEADT)

/-- The DSP cycles of a test vector: TEST × 10 ns (R237). -/
def State.testCycles (s : State) : Nat := 4 * s.f .spn F.SPN_INJ_CFG_TEST

/-- The vectors before and after the last change at `cycle` DSP cycles after the vector in force was applied, and the cycle of
that change: a test vector takes the first part of its period (R237). -/
def State.spSegment (s : State) (cycle : Nat) : Option Nat × Option Nat × Nat :=
  match s.spn.inj with
  | none => (s.spn.was, s.spInForce, 0)
  | some t => if cycle < s.testCycles then (s.spn.was, some t, 0) else (some t, s.spInForce, s.testCycles)

/-- The phase of the motor that the engine's phase drives or senses: V and W change places for the reverse direction (R233). -/
def swapPhase (dir : Bool) (ph : Nat) : Nat := if dir then (if ph = 1 then 2 else if ph = 2 then 1 else ph) else ph

/-- The upper and the lower command of phase `ph` (0 U, 1 V, 2 W): SP_UH and SP_UL to SP_WH and SP_WL.  Both stay low for the dead
time after a change of the phase's state, and with its switches open (R226, R227). -/
def State.spGate (s : State) (ph cycle : Nat) : Bool × Bool :=
  let g := s.spSegment cycle
  let p := swapPhase s.spn.dir ph
  match phaseLevel g.2.1 p with
  | none => (false, false)
  | some up => if phaseLevel g.1 p ≠ some up ∧ cycle - g.2.2 < s.spDead then (false, false) else (up, !up)

/-- AT_SPEED clears; outside power loss the engine's error interrupt rises, and STOP takes that back (R255). -/
def State.spSlowed (s : State) : State :=
  { s.setF .spn F.SPN_STAT_AT_SPEED 0 with
    spn := { s.spn with speedLost := s.spn.speedLost || (s.on .spn F.SPN_STAT_AT_SPEED && !s.ploss) } }

/-- A mode is entered; AT_SPEED clears at once on leaving RUN (R240, R241). -/
def State.spEnter (s : State) (m : Nat) : State :=
  let s1 := s.setF .spn F.SPN_STAT_MODE m
  let k := if spDriving m then 1 else 0
  let s2 := { s1 with spn := { s1.spn with ticks := 0, inBand := 0, outBand := 0, ramp := 0, fluxOut := k * s1.spn.fluxOut,
                                           angOut := k * s1.spn.angOut, clampFall := k * s1.spn.clampFall } }
  let s3 := if m = spRun then s2 else s2.spSlowed
  if spDriving m ∨ m = spBrake ∨ m = spHold ∨ m = spAlign then s3 else s3.spOpen

/-- All switches open: COAST or STOPPED by speed (R241, R242). -/
def State.spRelease (s : State) : State := s.spEnter (if 60 * 16 ≤ s.spAbs then spCoast else spStopped)

/-- A start, or its repeat, begins: the switches open for 20 ms (R243). -/
def State.spMeasure (s : State) : State := s.spEnter Machine.spMeasure

/-- Braking begins; it belongs to a STOP or to a start (R242, R244). -/
def State.spBrakeIn (s : State) (stopping : Bool) : State :=
  let s1 := s.spEnter spBrake
  ({ s1 with spn := { s1.spn with stopping := stopping } } : State).spVector 0

/-- A fault of SPN_FLT_STAT [6:0] is latched (R254). -/
def State.spLatch (s : State) (b : Nat) : State :=
  let s1 := s.setBits .spn Reg.SPN_FLT_STAT (BitVec.ofNat 32 (2 ^ b))
  if !s.live .spn then s1
  else
    let s2 := ((s1.err .spn 8).lasting .spn).spEnter Machine.spFault
    let s3 := { s2 with spn := { s2.spn with startTry := 0, alignTry := 0, losOnce := false, stopping := false } }
    s3.setUnitState .spn stFault

/-- A chopper fault (R249): SP_CHOP stays low, and DECEL goes on by zero-vector braking. -/
def State.spChopFault (s : State) : State :=
  let s1 := ((s.setBits .spn Reg.SPN_FLT_STAT 0x80).err .spn 9).setF .spn F.SPN_STAT_CHOP_ON 0
  if s1.spMode = spDecel then s1.spBrakeIn true else s1

/-! ### Commands (R242, R247, R248) -/

/-- START is refused by the motor configuration (R247). -/
def State.spConfigBad (s : State) : Bool :=
  let f := s.f .spn
  let lam := f F.SPN_MOT_K_FLUX_REF
  let ls := f F.SPN_MOT_R_LS
  let hi := f F.SPN_VBUS_LIM_VBUS_HI
  let trip := f F.SPN_VBUS_LIM_VBUS_TRIP
  let reg := f F.SPN_REGEN_VBUS_REG
  let emf := f F.SPN_MOT_K_KE * f F.SPN_SPD_REF_RPM
  f F.SPN_MOT_R_RS == 0 || ls == 0 || f F.SPN_MOT_K_KE == 0 || lam == 0 || f F.SPN_HOLDUP_CFG_INERTIA == 0
    || decide (f F.SPN_ILIM_ILIM_TRIP ≤ f F.SPN_ILIM_ILIM_RUN)
    || decide (f F.SPN_ILIM_ILIM_TRIP * ls < lam * 1000)
    || decide (trip < 50 ∨ (10000 * (trip - 50)) ^ 2 < 3 * emf ^ 2)
    || decide (f F.SPN_EST_CFG_HFI_UP ≤ f F.SPN_EST_CFG_HFI_DN)
    || !(decide (reg < hi) && decide (hi < trip))

/-- START (R242, R243, R247, R250). -/
def State.spStart (s : State) : State :=
  let m := s.spMode
  if m = Machine.spFault ∨ m = spRegen ∨ s.ploss then s.setF .spn F.SPN_STAT_START_REF 1
  else if m = spStopped ∨ m = spCoast ∨ m = spDecel ∨ m = spBrake ∨ m = spHold then
    if s.spConfigBad then (s.setF .spn F.SPN_STAT_START_REF 1).err .spn eConfig
    else
      let s1 := (s.setF .spn F.SPN_STAT_START_REF 0).spMeasure
      { s1 with spn := { s1.spn with startTry := 1, alignTry := 0, losOnce := false, stopping := false, speedLost := false,
                                     dir := s1.on .spn F.SPN_CTL_DIR } }
  else s

/-- START (R243). -/
def execSpindleStart (eng : Engine) (s : State) : Host.Outcome State Fault Refusal :=
  done s (fun s => s.access eng .store .spn Reg.SPN_CMD none s.spStart)

/-- A start or catch in progress is abandoned (R242). -/
def State.spAbandon (s : State) : State :=
  { s with spn := { s.spn with startTry := 0, alignTry := 0, losOnce := false } }

/-- STOP's effect on the motor (R242, R250). -/
def State.spStopMotor (s : State) : State :=
  let m := s.spMode
  if s.ploss then s
  else if m = spAccel ∨ m = spRun then
    let s1 := s.spAbandon
    if s1.chopFlt then s1.spBrakeIn true
    else
      let s2 := s1.spEnter spDecel
      { s2 with spn := { s2.spn with stopping := true } }
  else if m = Machine.spMeasure ∨ m = spAlign ∨ m = spCoast then
    let s1 := s.spAbandon
    if 60 * 16 ≤ s1.spAbs then s1.spBrakeIn true else s1.spEnter spStopped
  else s

/-- STOP (R242, R250); AT_SPEED that clears at it raises no interrupt (R255). -/
def State.spStop (s : State) : State :=
  let t := s.spStopMotor
  { t with spn := { t.spn with speedLost := s.spn.speedLost } }

/-- STOP (R242). -/
def execSpindleStop (eng : Engine) (s : State) : Host.Outcome State Fault Refusal :=
  done s (fun s => s.access eng .store .spn Reg.SPN_CMD none s.spStop)

/-- COAST: all switches open, in any mode but OFF and FAULT (R242, R253). -/
def State.spCoastCmd (s : State) : State :=
  if s.spMode = spOff ∨ s.spMode = Machine.spFault then s else s.spAbandon.spRelease

/-- COAST (R242). -/
def execSpindleCoast (eng : Engine) (s : State) : Host.Outcome State Fault Refusal :=
  done s (fun s => s.access eng .store .spn Reg.SPN_CMD none s.spCoastCmd)

/-- DIR_WRITE: SPN_CTL is written; a new DIR while the motor is driven at 60 rpm or above brakes and starts again in the
new direction (R248). -/
def State.spDirWrite (s : State) (v : Word) : State :=
  let s1 := s.writePlain .spn Reg.SPN_CTL v
  let d := s1.on .spn F.SPN_CTL_DIR
  if d = s1.spn.dir ∨ !(s1.spMode = spAccel ∨ s1.spMode = spRun) ∨ s1.spAbs < 60 * 16 then s1
  else
    let s2 := ((s1.setF .spn F.SPN_STAT_REV_REF 1).setF .spn F.SPN_SPEED_BACK
      (1 - s1.f .spn F.SPN_SPEED_BACK)).spBrakeIn false
    { s2 with spn := { s2.spn with dir := d, startTry := 1, alignTry := 0 } }

/-- DIR_WRITE (R248). -/
def execDirWrite (eng : Engine) (v : Word) (s : State) : Host.Outcome State Fault Refusal :=
  done s (fun s => s.access eng .store .spn Reg.SPN_CTL none (s.spDirWrite v))

/-! ### Direct torque and flux control (R230 to R234) -/

/-- The advance at a speed in 1/16 rpm, interpolated between the entries at i × 250 rpm (R234). -/
def State.advanceAt (s : State) (speed16 : Nat) : Nat :=
  let e := fun (i : Nat) => (Sparse.get (fun _ => 0) s.spn.padv i).toNat % 65536
  let i := speed16 / 4000
  if 31 ≤ i then e 31
  else ((e i : Int) + ((e (i + 1) : Int) - e i) * (speed16 % 4000 : Nat) / 4000).toNat

/-- The flux sector of an angle: sector k covers ±30° of V(k) (R232). -/
def fluxSector (angle : Nat) : Nat := ((angle + 5461) % 65536) * 6 / 65536 + 1

/-- A vector index taken in 1 to 6, cyclically (R232). -/
def cyc6 (k : Int) : Nat := ((k - 1) % 6).toNat + 1

/-- The zero vector that moves one phase only (R232). -/
def zeroVector (inForce : Nat) : Nat :=
  if inForce = 0 ∨ inForce = 1 ∨ inForce = 3 ∨ inForce = 5 then 0 else 7

/-- The switching table (R232). -/
def switchTable (phi : Bool) (tau : Int) (k inForce : Nat) : Nat :=
  if tau = 0 then zeroVector inForce
  else if phi then cyc6 (k + tau) else cyc6 (k + 2 * tau)

/-- The torque comparator (R231): `et` the error and `band`, both in 1/4,096 of 10 µN·m. -/
def torqueComp (tau : Int) (wasNeg : Bool) (et band : Int) : Int :=
  if band < et then 1 else if et < -band then -1 else if wasNeg != decide (et < 0) then 0 else tau

/-- The flux comparator (R231): flux in µWb, the band in 1/1,024 of the reference. -/
def fluxComp (phi : Bool) (ref flux band : Nat) : Bool :=
  let e : Int := ((ref : Int) - flux) * 1024
  if (band * ref : Int) < e then true else if e < -(band * ref : Int) then false else phi

/-- The torque reference with the regenerative part ramped to 0 over 8 periods (R249). -/
def Spindle.tEff (p : Spindle) : Int := if p.tRef < 0 then p.tRef * (8 - min p.ramp 8) / 8 else p.tRef

/-! ### Estimates (R228, R236 to R239) -/

/-- The sine of an angle of 0 to 16,384 (1/65,536 revolution), × 2^30, from its series to the eleventh power. -/
def sineQuarter (r : Nat) : Int :=
  let one : Int := 2 ^ 30
  let x : Int := (r * 1686629713 / 16384 : Nat)
  let q := x * x / one
  let t3 := x * q / one / 6
  let t5 := t3 * q / one / 20
  let t7 := t5 * q / one / 42
  let t9 := t7 * q / one / 72
  x - t3 + t5 - t7 + t9 - t9 * q / one / 110

/-- The sine of an angle in 1/65,536 revolution, × 2^30. -/
def sineOf (a : Nat) : Int :=
  let r := a % 16384
  match a / 16384 % 4 with
  | 0 => sineQuarter r
  | 1 => sineQuarter (16384 - r)
  | 2 => -sineQuarter r
  | _ => -sineQuarter (16384 - r)

/-- The cosine. -/
def cosineOf (a : Nat) : Int := sineOf (a + 16384)

/-- The angle of a vector in its first quadrant, in 1/65,536 revolution, rounded down. -/
def angleQuarter (x y : Int) : Nat :=
  (List.range 14).foldl (fun r i => let c := r + 2 ^ (13 - i); if x * sineOf c ≤ y * cosineOf c then c else r) 0

/-- The angle of a vector, in 1/65,536 revolution. -/
def angleOf (v : Int × Int) : Nat :=
  if 0 < v.1 ∧ 0 ≤ v.2 then angleQuarter v.1 v.2
  else if v.1 ≤ 0 ∧ 0 < v.2 then 16384 + angleQuarter v.2 (-v.1)
  else if v.1 < 0 then 32768 + angleQuarter (-v.1) (-v.2)
  else if v.2 < 0 then 49152 + angleQuarter (-v.2) v.1
  else 0

/-- The length of a vector in millionths of its unit, at most 0xFFFF, rounded down. -/
def lengthOf (v : Int × Int) : Nat :=
  (List.range 16).foldl (fun r i =>
    let c := r + 2 ^ (15 - i); if ((c * 1000000 : Nat) : Int) ^ 2 ≤ v.1 ^ 2 + v.2 ^ 2 then c else r) 0

/-- The two-axis vector of three phase quantities, U along the first axis; 619,925,131 ÷ 2^30 is 1/√3. -/
def phaseVector (u v w : Int) : Int × Int := ((2 * u - v - w) / 3, (v - w) * 619925131 / 2 ^ 30)

/-- The samples as the engine takes them: with DIR in force phases V and W change places (R233). -/
def State.sensed (s : State) (x : DtcSample) : DtcSample :=
  if s.spn.dir then { x with iv := x.iw, iw := x.iv, vv := x.vw, vw := x.vv } else x

/-- The current vector of a sample, in mA. -/
def currentOf (x : DtcSample) : Int × Int := phaseVector x.iu x.iv x.iw

/-- The current model LS × i + λ e^(jθ), in pWb (R236). -/
def State.currentModel (s : State) (i : Int × Int) (theta : Nat) : Int × Int :=
  let ls : Int := s.f .spn F.SPN_MOT_R_LS
  let lam : Int := s.f .spn F.SPN_MOT_K_FLUX_REF
  (1000 * ls * i.1 + lam * 1000000 * cosineOf theta / 2 ^ 30, 1000 * ls * i.2 + lam * 1000000 * sineOf theta / 2 ^ 30)

/-- The observer: the integral of v − RS × i over the period, and its correction towards the current model by the sample's share
(R236).  Under injection the current model at the injection's angle stands for the flux, so that each estimator starts from
the other's angle (R237, R238; DEDUCED, log entry 123). -/
def State.fluxStep (s : State) (x : DtcSample) : Int × Int :=
  let i := currentOf x
  let m := s.currentModel i x.rotor
  if s.on .spn F.SPN_STAT_EST then
    let rs : Int := s.f .spn F.SPN_MOT_R_RS
    let v := phaseVector x.vu x.vv x.vw
    let a := s.spn.psi.1 + 50000 * v.1 - 5 * rs * i.1
    let b := s.spn.psi.2 + 50000 * v.2 - 5 * rs * i.2
    (a + (m.1 - a) * min x.gain 65536 / 65536, b + (m.2 - b) * min x.gain 65536 / 65536)
  else m

/-- The torque 1.5 × 4 × (ψ × i) in 10 µN·m, cut towards zero (R236). -/
def torqueOf (psi i : Int × Int) : Int := Int.tdiv (6 * (psi.1 * i.2 - psi.2 * i.1)) 10000000000

/-- How far two angles lie apart, at most half a revolution. -/
def angleApart (a b : Nat) : Nat := min ((a + 65536 - b % 65536) % 65536) ((b + 65536 - a % 65536) % 65536)

/-- The estimator's part of a boundary: flux, torque and angle as registers show them, the rise of an injection along the rotor
axis and across it, which drives the tracking loop (R237), and how long the signs of a loss of synchronism have stood
(R239). -/
def State.spEstimates (s : State) (x : DtcSample) : State :=
  let p := s.spn
  let i := currentOf x
  let psi := s.fluxStep x
  let flux := lengthOf psi
  let ref := s.f .spn F.SPN_MOT_K_FLUX_REF
  let di := (i.1 - p.cur.1, i.2 - p.cur.2)
  let c := cosineOf x.rotor
  let n := sineOf x.rotor
  let rise := if p.inj.isSome then ((di.1 * c + di.2 * n) / 2 ^ 30, (di.2 * c - di.1 * n) / 2 ^ 30) else p.rise
  let out := decide (2 * flux < ref ∨ 3 * ref < 2 * flux)
  let far := decide (5461 < angleApart (angleOf psi) (angleOf (s.currentModel i x.rotor)))
  let drv := spDriving s.spMode
  let s1 : State := { s with spn := { p with psi := psi, cur := i, rise := rise,
                                             fluxOut := if drv && out then min (p.fluxOut + 1) 200 else 0,
                                             angOut := if drv && far then min (p.angOut + 1) 400 else 0 } }
  (((s1.setF .spn F.SPN_ANGLE_THETA x.rotor).setF .spn F.SPN_ANGLE_VALID (bit drv)).setF .spn
    F.SPN_TORQUE_FLUX flux).setF .spn F.SPN_TORQUE_TE (unsigned 16 (torqueOf psi i))

/-- A condition of R239 has stood long enough: 1 ms of flux, 2 ms of angle, 100 ms at the clamp. -/
def State.syncLost (s : State) : Bool := decide (200 ≤ s.spn.fluxOut ∨ 400 ≤ s.spn.angOut ∨ 1000 ≤ s.spn.clampFall)

/-! ### The vector of the next period (R230 to R232, R237) -/

/-- The angle that gives the flux sector, before the advance: the flux vector's, or under injection the rotor's (R232, R237). -/
def State.sectorAngle (s : State) : Nat :=
  if s.on .spn F.SPN_STAT_EST then angleOf s.spn.psi else s.f .spn F.SPN_ANGLE_THETA

/-- One step of the comparators and the switching table, on the estimates of the boundary: the vector of the next period
(R230 to R232). -/
def State.dtcStep (s : State) : State :=
  let p := s.spn
  let adv := if s.on .spn F.SPN_CTL_PADV_EN then s.advanceAt s.spAbs else 0
  let k := fluxSector (s.sectorAngle + adv)
  let et := p.tEff - torqueOf p.psi p.cur * 4096
  let tau := torqueComp p.tau p.etNeg et (s.f .spn F.SPN_HYST_TQ_BAND * 4096)
  let phi := fluxComp p.phi (s.f .spn F.SPN_MOT_K_FLUX_REF) (lengthOf p.psi) (s.f .spn F.SPN_HYST_FLUX_BAND)
  let v := switchTable phi tau k (s.f .spn F.SPN_STAT_VEC)
  { s.setF .spn F.SPN_STAT_SECTOR k with spn := { p with tau := tau, phi := phi, etNeg := decide (et < 0), next := some v } }

/-- Under injection every INJ_PER periods the next period begins with the active vector nearest the rotor axis, and the injection
after it with the opposite one (R237). -/
def State.injectStep (s : State) : State :=
  let p := s.spn
  if s.on .spn F.SPN_STAT_EST then { s with spn := { p with injCnt := 0, nextInj := none } }
  else if p.injCnt + 1 < max 1 (s.f .spn F.SPN_INJ_CFG_INJ_PER) then { s with spn := { p with injCnt := p.injCnt + 1 } }
  else
    let k := fluxSector (s.f .spn F.SPN_ANGLE_THETA)
    { s with spn := { p with injCnt := 0, injOpp := !p.injOpp, nextInj := some (if p.injOpp then cyc6 (k + 3) else k) } }

/-- ALIGN's pulses along V1 to V6, each followed by the zero vector (R245). -/
def State.alignVector (s : State) : Nat :=
  let pulse := s.f .spn F.SPN_SAT_CFG_PULSE
  let span := pulse + 10 * s.f .spn F.SPN_SAT_CFG_GAP
  let t := 5 * s.spn.ticks
  if span = 0 then 0 else if t % span < pulse ∧ t / span < 6 then t / span + 1 else 0

/-- The next period's vector is `v`. -/
def State.spNext (s : State) (v : Option Nat) : State := { s with spn := { s.spn with next := v } }

/-- The vector of a mode for the next period (R230, R232, R237, R244, R245, R251). -/
def State.spVectorStep (s : State) (x : DtcSample) : State :=
  let m := s.spMode
  let s1 :=
    if spDriving m then
      if m = spRegen ∧ s.chopFlt ∧ s.f .spn F.SPN_VBUS_LIM_VBUS_HI < x.vbus then
        ({ s with spn := { s.spn with tau := 0, ramp := 9 } } : State).spNext (some (zeroVector (s.f .spn F.SPN_STAT_VEC)))
      else if s.spn.ramp = 9 ∧ s.f .spn F.SPN_REGEN_VBUS_REG + 50 < x.vbus then s
      else ({ s with spn := { s.spn with ramp := if s.spn.ramp = 9 then 0 else s.spn.ramp } } : State).dtcStep.injectStep
    else if m = spBrake then s.spNext (some (if s.spn.ticks / 200 % 2 = 0 then 0 else 7))
    else if m = spHold then s.spNext (some 0)
    else if m = spAlign then s.spNext (some s.alignVector)
    else s.spNext none
  { s1 with spn := { s1.spn with ticks := s1.spn.ticks + 1 } }

/-- The boundary applies the vector chosen at the last one (R230). -/
def State.spApply (s : State) : State :=
  let p := s.spn
  let t : State := { s with spn := { p with was := s.spInForce, open_ := p.next.isNone, inj := p.nextInj, nextInj := none } }
  if p.next.isNone then (t.setF .spn F.SPN_STAT_VEC 0).setF .spn F.SPN_STAT_SECTOR 0 else t.setF .spn F.SPN_STAT_VEC (p.next.getD 0)

/-- The chopper on the bus voltage of the boundary (R249): each drive of SP_CHOP counts. -/
def State.spChopStep (s : State) (vbus : Nat) : State :=
  let hi := s.f .spn F.SPN_VBUS_LIM_VBUS_HI
  let on := s.on .spn F.SPN_STAT_CHOP_ON
  let regen := decide (s.spn.tRef < 0) && spDriving s.spMode
  let s0 := { s with spn := { s.spn with
    ramp := if s.spn.ramp = 9 then 9 else if hi < vbus ∧ regen then min 8 (s.spn.ramp + 1)
            else if vbus ≤ hi - 30 then 0 else s.spn.ramp } }
  if s.chopFlt then s0
  else if !on && decide (hi < vbus) then
    let s1 := (s0.setF .spn F.SPN_STAT_CHOP_ON 1).count64 .spn Reg.SPN_CNT_CHOP_LO
    { s1 with spn := { s1.spn with chopRise := vbus } }
  else if on && decide (vbus < hi - 30) then s0.setF .spn F.SPN_STAT_CHOP_ON 0
  else s0

/-- A phase current exceeds ILIM_TRIP (R235). -/
def State.overTrip (s : State) (x : DtcSample) : Bool :=
  let l := s.f .spn F.SPN_ILIM_ILIM_TRIP
  decide (l < x.iu.natAbs) || decide (l < x.iv.natAbs) || decide (l < x.iw.natAbs)

/-- The phase currents sum to less than 10% of ILIM_TRIP (R228). -/
def State.sumOk (s : State) (x : DtcSample) : Bool :=
  decide ((x.iu + x.iv + x.iw).natAbs * 10 < s.f .spn F.SPN_ILIM_ILIM_TRIP)

/-- The current trip: with a vector in force, the switches open for the rest of the period; a trip in the next period too latches
OVERCUR, and a period without one makes the first a transient fault (R235). -/
def State.tripStep (s : State) (x : DtcSample) : State :=
  let p := s.spn
  if s.overTrip x && (p.tripped || !p.open_) then
    if p.tripped then ({ s with spn := { p with tripped := false } } : State).spLatch sfOvercur
    else
      let t := s.spOpen
      { t with spn := { t.spn with tripped := true } }
  else if p.tripped then ({ s with spn := { p with tripped := false } } : State).transient .spn
  else s

/-- DTC_PERIOD: the boundary applies its vector; then the checks of the samples, the bus limits, the estimates, and the
vector of the next period; faults that arise in one period are all latched (R228, R230, R235, R249, R254). -/
def State.dtcPeriod (s : State) (raw : DtcSample) : State :=
  let x := s.sensed raw
  let s1 := s.spApply.setF .spn F.SPN_VBUS_VBUS x.vbus
  let s2 := if s1.f .spn F.SPN_VBUS_LIM_VBUS_TRIP < x.vbus then s1.spLatch sfVbusTrip else s1.spChopStep x.vbus
  if !s2.sumOk x then
    if s2.spn.senseBad then
      ({ s2 with spn := { s2.spn with senseBad := false } } : State).spLatch sfSense
    else { s2 with spn := { s2.spn with senseBad := true } }
  else
    let s3 := if s2.spn.senseBad then
      ({ s2 with spn := { s2.spn with senseBad := false } } : State).transient .spn else s2
    ((s3.tripStep x).spEstimates x).spVectorStep x

/-- DTC_PERIOD (R230): in every mode in which the engine's clock runs (R36, R228). -/
def execDtcPeriod (x : DtcSample) (s : State) : Host.Outcome State Fault Refusal :=
  done s (fun s => s.when (s.clocked .spn) (s.dtcPeriod x))

/-! ### Speed (R235, R238, R240, R252) -/

/-- The clamp of T_ref, ±1.5 × 4 × FLUX_REF × ILIM_RUN, in 1/4,096 of 10 µN·m (R235). -/
def State.torqueClamp (s : State) : Int :=
  6 * s.f .spn F.SPN_MOT_K_FLUX_REF * s.f .spn F.SPN_ILIM_ILIM_RUN * 4096 / 10000

/-- The PI controller on the speed error, in 1/16 rpm (R235). -/
def State.piStep (s : State) (e16 : Int) : State :=
  let integ := s.spn.integ + s.f .spn F.SPN_SPD_GAIN_KI * e16
  let raw := s.f .spn F.SPN_SPD_GAIN_KP * e16 * 256 + integ
  let c := s.torqueClamp
  { s with spn := { s.spn with integ := integ, tRef := max (-c) (min c raw) } }

/-- T_ref at its clamp while the speed falls from `old`, in 1/16 rpm: one more step of the 100 ms of R239. -/
def State.clampStep (s : State) (old : Nat) : State :=
  let hit := spDriving s.spMode && decide (s.torqueClamp ≤ s.spn.tRef.natAbs ∧ s.spAbs < old)
  { s with spn := { s.spn with clampFall := if hit then min (s.spn.clampFall + 1) 1000 else 0 } }

/-- The speed as SPN_SPEED shows it (R244, R257). -/
def State.setSpeed (s : State) (speed : Option Int) : State :=
  match speed with
  | none => (s.setF .spn F.SPN_SPEED_SPEED 0).setF .spn F.SPN_SPEED_BACK 0
  | some v => ((s.setF .spn F.SPN_SPEED_VALID 1).setF .spn F.SPN_SPEED_BACK (bit (decide (v < 0)))).setF .spn
      F.SPN_SPEED_SPEED (min v.natAbs 0x1FFFF)

/-- The estimator in force: observer at and above HFI_UP, injection below HFI_DN, unchanged between (R238). -/
def State.setEst (s : State) : State :=
  if s.f .spn F.SPN_EST_CFG_HFI_UP * 16 ≤ s.spAbs then s.setF .spn F.SPN_STAT_EST 1
  else if s.spAbs < s.f .spn F.SPN_EST_CFG_HFI_DN * 16 then s.setF .spn F.SPN_STAT_EST 0
  else s

/-- The speed error against SPD_REF, in 1/16 rpm. -/
def State.speedErr (s : State) : Int := (s.f .spn F.SPN_SPD_REF_RPM * 16 : Nat) - s.spSpeed

/-- The speed lies within ±1/den of SPD_REF. -/
def State.withinRef (s : State) (den : Nat) : Bool := decide (s.speedErr.natAbs * den ≤ s.f .spn F.SPN_SPD_REF_RPM * 16)

/-- RUN is reached: a start in progress has completed, on its repeat as a transient fault (R246). -/
def State.spReachRun (s : State) : State :=
  let s1 := if s.spn.startTry = 0 then s else s.count64 .spn Reg.SPN_CNT_START_LO
  let s2 := if s.spn.startTry = 2 then s1.transient .spn else s1
  ({ s2 with spn := { s2.spn with startTry := 0, alignTry := 0 } } : State).spEnter spRun

/-- The changes of mode that a speed brings (R241 to R244, R250, R253). -/
def State.spBySpeed (s : State) : State :=
  let m := s.spMode
  let v := s.spAbs
  let regenMin := s.f .spn F.SPN_REGEN_REGEN_MIN * 16
  if m = spAccel then (if s.withinRef 1000 then s.spReachRun else s)
  else if m = spDecel then (if v < regenMin then s.spBrakeIn true else s)
  else if m = spBrake then
    (if 60 * 16 ≤ v then s else if s.spn.stopping then s.spEnter spStopped else (s.spEnter spHold).spVector 0)
  else if m = spCoast then (if v < 60 * 16 then s.spEnter spStopped else s)
  else if m = spStopped then (if v < 60 * 16 then s else s.spEnter spCoast)
  else if m = spRegen then (if v < regenMin then s.spRelease else s)
  else s

/-- SPEED_LOOP: the speed measured, T_ref, the estimator and the mode (R235, R238).  In DECEL the torque is the regenerative
limit (DESIGN CHOICE, log entry 12); in REGEN the bus loop sets a regenerative torque that the manual does not compute, a free
value (R250; DESIGN CHOICE, log entry 1). -/
def State.speedLoop (s : State) (speed : Option Int) : State :=
  let s1 := (s.setSpeed speed).setEst
  let m := s1.spMode
  let s2 :=
    if m = spAccel ∨ m = spRun then s1.piStep s1.speedErr
    else if m = spDecel then { s1 with spn := { s1.spn with tRef := -s1.torqueClamp } }
    else if m = spRegen then
      let t : Int := -(s1.freeNat % (s1.torqueClamp.toNat + 1) : Nat)
      ({ s1 with spn := { s1.spn with tRef := t } } : State).spend
    else { s1 with spn := { s1.spn with tRef := 0, integ := 0 } }
  (s2.clampStep s.spAbs).spBySpeed

/-- SPEED_LOOP (R235). -/
def execSpeedLoop (speed : Option Int) (s : State) : Host.Outcome State Fault Refusal :=
  done s (fun s => s.when (s.live .spn && s.spMode != spOff) (s.speedLoop speed))

/-- π² to sixteen places, for the energy of R252. -/
def piSquared : Rat := 98696044010893586 / 10 ^ 16

/-- AVAIL in 10 mJ at a speed in rpm: EFF × ½ × J × (ω² − ω_min²), with ω = 2π × rpm ÷ 60 (R252),
computed exactly and rounded down (DEDUCED, log entry 96). -/
def availEnergy (eff inertia rpmMin : Nat) (rpm : Rat) : Nat :=
  let j : Rat := inertia / 10 ^ 7
  let w2 : Rat := piSquared / 900 * (rpm * rpm - rpmMin * rpmMin)
  (eff / 256 * (1 / 2) * j * w2 * 100).floor.toNat

/-- The spindle is at speed: the lanes that a power state unloaded load, unless another unloads them (R61). -/
def State.wakeLoad (s : State) : State := if s.dev.ps < 3 ∧ s.dev.psWanted = none then s.loadParked else s

/-- AT_SPEED after a revolution of `period` DSP cycles: set after 64 within ±0.05%, cleared after 4 outside ±0.1%
(R240). -/
def State.atSpeedStep (s : State) (period : Nat) : State :=
  let ref := s.f .spn F.SPN_SPD_REF_RPM * period
  let dev := ((24000000000 : Int) - ref).natAbs
  let inb := if dev * 2000 ≤ ref then s.spn.inBand + 1 else 0
  let outb := if ref < dev * 1000 then s.spn.outBand + 1 else 0
  let s1 := { s with spn := { s.spn with inBand := min inb 64, outBand := min outb 4 } }
  if s.spMode ≠ spRun then s1
  else if 64 ≤ inb then
    ({ s1.setF .spn F.SPN_STAT_AT_SPEED 1 with spn := { s1.spn with speedLost := false } } : State).wakeLoad
  else if 4 ≤ outb then s1.spSlowed
  else s1

/-- REVOLUTION: the period, the revolution counter, AT_SPEED and the recoverable energy (R240, R252). -/
def State.revolution (s : State) (period : Nat) : State :=
  let s1 := (s.setF .spn F.SPN_PERIOD_PERIOD (min period 0x1FFFFFFF)).count64 .spn Reg.SPN_CNT_REV_LO
  let a := availEnergy (s1.f .spn F.SPN_HOLDUP_CFG_EFF) (s1.f .spn F.SPN_HOLDUP_CFG_INERTIA)
    (s1.f .spn F.SPN_REGEN_REGEN_MIN) (24000000000 / (period : Rat))
  let s2 := s1.setF .spn F.SPN_HOLDUP_AVAIL (min a 0xFFFF)
  (s2.setF .spn F.SPN_STAT_HOLDUP_LOW (bit (decide (a ≤ s2.f .spn F.SPN_HOLDUP_CFG_RESERVE * 10)))).atSpeedStep period

/-- REVOLUTION (R240). -/
def execRevolution (period : Nat) (s : State) : Host.Outcome State Fault Refusal :=
  done s (fun s => s.when (s.live .spn && s.spMode != spOff && period != 0) (s.revolution period))

/-! ### Starting, catching and braking (R243 to R246) -/

/-- The estimator in force starts from an angle: the flux is the current model's at no current (R238, R243). -/
def State.startEstimator (s : State) (angle : Nat) : State :=
  let s1 := (s.setF .spn F.SPN_ANGLE_THETA angle).setF .spn F.SPN_ANGLE_VALID 1
  { s1 with spn := { s1.spn with psi := s1.currentModel (0, 0) angle } }

/-- MEASURE_END: the start decision table; a catch starts the estimator from what was measured, and a re-catch that ends in
braking is a lasting loss of synchronism (R239, R243). -/
def State.measureEnd (s : State) (speed : Int) (angle : Nat) : State :=
  let s1 := (s.setSpeed (some speed)).setEst
  if 300 * 16 < speed then
    let s2 := s1.startEstimator angle
    if s2.withinRef 1000 then s2.spReachRun else s2.spEnter spAccel
  else if 60 * 16 ≤ speed.natAbs then (if s1.spn.losOnce then s1.spLatch sfLos else s1.spBrakeIn false)
  else (s1.spEnter spHold).spVector 0

/-- MEASURE_END (R243). -/
def execMeasureEnd (x : RotorFix) (s : State) : Host.Outcome State Fault Refusal :=
  done s (fun s => s.when (s.live .spn && s.spMode == spMeasure && decide (x.angle < 65536)) (s.measureEnd x.speed x.angle))

/-- HOLD_END: ALIGN begins (R244). -/
def execHoldEnd (s : State) : Host.Outcome State Fault Refusal :=
  done s (fun s => s.when (s.live .spn && s.spMode == spHold) (s.spEnter spAlign))

/-- The rotor's north end from the six peak currents: the peak-weighted mean direction of the two largest adjacent peaks, the
first such pair in the order of the pulses; indeterminate where their mean and that of the two peaks opposite differ by less
than 2% of the larger (R245; DEDUCED, log entry 123). -/
def alignAngle (peaks : List Nat) : Option Nat :=
  let p := fun (k : Nat) => peaks.getD (k % 6) 0
  let sum := fun (k : Nat) => p k + p (k + 1)
  let k := (List.range 6).foldl (fun b i => if sum b < sum i then i else b) 0
  if sum k = 0 ∨ 100 * (sum k - sum (k + 3)) < 2 * sum k then none
  else some (65536 * (k * sum k + p (k + 1)) / (6 * sum k) % 65536)

/-- ALIGN_DONE: ACCEL begins from the angle found, or the pulses are repeated once, or the start has failed (R245, R246,
R248). -/
def State.alignDone (s : State) (peaks : List Nat) : State :=
  match alignAngle peaks with
  | some a =>
    let s1 := if s.spn.alignTry = 1 then s.transient .spn else s
    let s2 := (s1.startEstimator a).setF .spn F.SPN_STAT_EST 0
    let s3 := (s2.setF .spn F.SPN_STAT_REV_REF 0).spEnter spAccel
    { s3 with spn := { s3.spn with alignTry := 0, integ := 0, tRef := s3.torqueClamp } }
  | none =>
    if s.spn.alignTry = 0 then
      let s1 := s.spEnter spAlign
      { s1 with spn := { s1.spn with alignTry := 1 } }
    else s.spLatch sfStartFail

/-- ALIGN_DONE (R245). -/
def execAlignDone (peaks : List Nat) (s : State) : Host.Outcome State Fault Refusal :=
  done s (fun s => s.when (s.live .spn && s.spMode == spAlign) (s.alignDone peaks))

/-- SPINUP_TIMEOUT: the start is repeated once through MEASURE, then has failed (R246). -/
def State.spinupTimeout (s : State) : State :=
  if s.spn.startTry = 1 then
    let s1 := s.spMeasure
    { s1 with spn := { s1.spn with startTry := 2, alignTry := 0 } }
  else s.spLatch sfStartFail

/-- SPINUP_TIMEOUT (R246). -/
def execSpinupTimeout (s : State) : Host.Outcome State Fault Refusal :=
  done s (fun s => s.when (s.live .spn && s.spMode == spAccel && s.spn.startTry != 0) s.spinupTimeout)

/-- BRAKE_TIMEOUT latches BRAKE_TMO (R244). -/
def execBrakeTimeout (s : State) : Host.Outcome State Fault Refusal :=
  done s (fun s => s.when (s.live .spn && s.spMode == spBrake) (s.spLatch sfBrakeTmo))

/-- LOSS_OF_SYNC: the switches open and the motor is caught again, or the second loss within 10 s, or one in REGEN, latches
LOS (R239, R251). -/
def State.lossOfSync (s : State) : State :=
  let s1 := s.count64 .spn Reg.SPN_CNT_LOS_LO
  if s.spMode = spRegen ∨ s.spn.losOnce then s1.spLatch sfLos
  else
    let s2 := s1.spMeasure
    { s2 with spn := { s2.spn with losOnce := true } }

/-- LOSS_OF_SYNC (R239). -/
def execLossOfSync (s : State) : Host.Outcome State Fault Refusal :=
  done s (fun s => s.when (s.live .spn && spDriving s.spMode && s.on .spn F.SPN_CTL_LOS_EN && s.syncLost) s.lossOfSync)

/-- LOS_CLEAR_TIMER: 10 s driven without a further loss class it as transient (R239). -/
def execLosClearTimer (s : State) : Host.Outcome State Fault Refusal :=
  done s (fun s => s.when (s.live .spn && spDriving s.spMode && s.spn.losOnce)
    (({ s with spn := { s.spn with losOnce := false } } : State).transient .spn))

/-! ### The chopper (R249) -/

/-- CHOP_FEEDBACK_TIMEOUT latches CHOP_FLT (R249). -/
def execChopFeedbackTimeout (s : State) : Host.Outcome State Fault Refusal :=
  done s (fun s => s.when (s.on .spn F.SPN_STAT_CHOP_ON) s.spChopFault)

/-- CHOP_RISE_TEST: a bus still at or above its value at the rise latches CHOP_FLT (R249). -/
def execChopRiseTest (vbus : Nat) (s : State) : Host.Outcome State Fault Refusal :=
  done s (fun s => s.when (s.on .spn F.SPN_STAT_CHOP_ON) (if s.spn.chopRise ≤ vbus then s.spChopFault else s))

/-! ### Faults and power loss (R229, R250, R253, R254) -/

/-- SPINDLE_FAULT_CLEAR: 1 clears a latched fault, but not STAGE while SP_FLT_N is active (R525); with every bit of [6:0]
clear, FAULT ends (R254). -/
def State.spFaultClear (s : State) (v : Word) : State :=
  let v1 := if s.spn.stageIn then v &&& ~~~ (1 : Word) else v
  let s1 := s.clrBits .spn Reg.SPN_FLT_STAT (v1 &&& 0xFF)
  if s1.spMode = Machine.spFault ∧ s1.reg .spn Reg.SPN_FLT_STAT &&& 0x7F = 0 then
    if s1.effEn .spn then (s1.setUnitState .spn stIdle).spRelease else (s1.setUnitState .spn stOff).spEnter spOff
  else s1

/-- SPINDLE_FAULT_CLEAR (R254). -/
def execSpindleFaultClear (eng : Engine) (v : Word) (s : State) : Host.Outcome State Fault Refusal :=
  done s (fun s => s.access eng .store .spn Reg.SPN_FLT_STAT none (s.spFaultClear v))

/-- A trigger retracts every lane whose stack may be off the ramp (R198). -/
def State.retractAll (s : State) : State :=
  lanes4.foldl (fun t n => t.retractLane n) s

/-- SP_FLT_ACCEPT: all switches open, STAGE is latched, and the lanes retract (R198, R229). -/
def execSpFltAccept (s : State) : Host.Outcome State Fault Refusal :=
  done s (fun s => (({ s with spn := { s.spn with stageIn := true } } : State).spLatch sfStage).retractAll)

/-- SP_FLT_N_RELEASE: the filtered level goes inactive, after which a write of 1 clears STAGE (R525). -/
def execSpFltNRelease (s : State) : Host.Outcome State Fault Refusal :=
  done s (fun s => s.when s.spn.stageIn { s with spn := { s.spn with stageIn := false } })

/-- An accepted PFAIL_N at the spindle: PLOSS, and REGEN where the speed allows (R250, R253). -/
def State.spPowerLoss (s : State) : State :=
  let s1 := s.setF .spn F.SPN_STAT_PLOSS 1
  let m := s1.spMode
  if m = spOff ∨ m = Machine.spFault ∨ !s1.live .spn then s1
  else if (spDriving m || m == spCoast || m == Machine.spMeasure)
      && decide (s1.f .spn F.SPN_REGEN_REGEN_MIN * 16 ≤ s1.spAbs) then
    (s1.spAbandon.spEnter spRegen).count64 .spn Reg.SPN_CNT_PLOSS_LO
  else s1.spAbandon.spRelease

/-- PLOSS clears with the PFAIL_N latch (R253). -/
def State.spPowerBack (s : State) : State := s.setF .spn F.SPN_STAT_PLOSS 0

end Sys2Proof.Machine
end

