-- ==== Sys2Proof/Machine/Command.lean ====
section
/-! DEFINITION. The command engine's rows (R324 to R356): taking commands, decoding them, range locks, reads on the
Swallowtail path, writes and the extent table, completion rings, aborts, queue features. -/

namespace Sys2Proof.Machine

/-! ### Submission queues (R327, R328) -/

/-- SQ_DOORBELL: the new tail of a submission queue (R327). -/
def State.sqDoorbell (s : State) (fn sqid tail : Nat) : State :=
  match s.subq? fn sqid with
  | none => s.ignore
  | some q => s.when (s.ctrlServes fn && decide (tail < q.size)) (s.setSubq { q with tail := tail })

/-- SQ_DOORBELL (R327). -/
def execSqDoorbell (fn : Fin 64) (sqid tail : Nat) (s : State) : Host.Outcome State Fault Refusal :=
  done s (fun s => s.sqDoorbell fn.val sqid tail)

/-- The engine takes new work: it is enabled, PFAIL_N has not been accepted, and no orderly shutdown runs (R316, R516). -/
def State.engineRuns (s : State) : Bool := s.takes .cmd && !s.cmd.stopped && !s.dev.shutdown

/-- SQ_FETCH_COMPLETE: up to eight entries of a queue in host memory, not beyond its end or its tail (R327). -/
def State.sqFetched (s : State) (fn sqid : Nat) (l : List Sqe) : State :=
  match s.subq? fn sqid with
  | none => s.ignore
  | some q =>
    let ok := !q.sram && decide (1 ≤ l.length ∧ l.length ≤ 8 ∧ q.fetched + l.length ≤ q.size)
      && decide (l.length ≤ (q.tail + q.size - q.fetched) % q.size)
    s.when (ok && s.engineRuns && s.ctrlServes fn)
      (s.setSubq { q with fetched := (q.fetched + l.length) % q.size, entries := q.entries ++ l })

/-- SQ_FETCH_COMPLETE (R327). -/
def execSqFetchComplete (fn : Fin 64) (sqid : Nat) (entries : List Sqe) (s : State) : Host.Outcome State Fault Refusal :=
  done s (fun s => s.sqFetched fn.val sqid entries)

/-- The address of entry `i` of a queue in the Controller Memory Buffer. -/
def Sq.addr (q : Sq) (i : Nat) : Nat := q.base + 64 * i
/-- An address in queue SRAM (R31). -/
def inQueueSram (a : Nat) : Bool := decide (0x30000000 ≤ a ∧ a < 0x30200000)

/-- Bytes are written at an address of the Controller Memory Buffer: queue SRAM with fresh parity, or DRAM (R283, R364). -/
def State.cmbStore (s : State) (a : Nat) (l : List Byte) : State :=
  let s1 := s.setBytes a l
  if inQueueSram a then s1.sramWritten a l.length else s1

/-- QUEUE_SRAM_ENTRY_WRITE: all 64 bytes of an entry have been written by the host; while the buffer is being zeroed the
write is discarded (R328, R365).  The pre-decode shows nowhere: the entry is read when it is taken. -/
def State.sramEntry (s : State) (fn sqid i : Nat) (e : Sqe) : State :=
  match s.subq? fn sqid with
  | none => s.ignore
  | some q =>
    if !q.sram || decide (q.size ≤ i) then s.ignore
    else if (s.port (s.fnPort fn)).zeroing then s
    else s.cmbStore (q.addr i) ((List.range 16).flatMap (fun k => wordBytes (sqeDw e k)))

/-- QUEUE_SRAM_ENTRY_WRITE (R328). -/
def execQueueSramEntryWrite (fn : Fin 64) (sqid idx : Nat) (e : Sqe) (s : State) : Host.Outcome State Fault Refusal :=
  done s (fun s => s.sramEntry fn.val sqid idx e)

/-! ### COMMAND_TAKE (R324, R329 to R331) -/

/-- The queue has an entry that a doorbell covers and that has arrived. -/
def Sq.ready (q : Sq) : Bool := if q.sram then q.head != q.tail else q.entries != []

/-- The next entry of a queue. -/
def State.nextEntry (s : State) (q : Sq) : Sqe :=
  if q.sram then (List.range 16).map (fun k => s.word (q.addr q.head + 4 * k)) else q.entries.headD []

/-- The queue after its next entry has been taken. -/
def Sq.advance (q : Sq) : Sq := { q with head := (q.head + 1) % q.size, entries := q.entries.drop 1 }

/-- Another queue of the controller comes first: the admin queue, and under weighted round robin an urgent queue
(R330). -/
def State.yields (s : State) (q : Sq) : Bool :=
  q.sqid != 0 && s.cmd.sqs.any (fun (o : Sq) =>
    o.fn == q.fn && o.ready && !o.held && (o.sqid == 0 || ((s.ctrl q.fn).wrr && o.prio == 0 && q.prio != 0)))

/-- Where a lasting parity error of the next entry lies: as found now, or as stored by an injected fault (R285, R329). -/
def State.entryParity (s : State) (q : Sq) (par : SqParity) : SqParity :=
  let a := q.addr q.head
  let bad := fun (lo n : Nat) => s.buf.sramBad.any (fun b => decide (a + lo ≤ b ∧ b < a + lo + n))
  if !q.sram || !inQueueSram a then .none
  else if bad 0 4 || par == .withinCid then .withinCid
  else if bad 4 60 || par == .outsideCid then .outsideCid
  else .none

/-- The status with which an I/O command ends as it is taken: a parity error, an opcode that is not supported, or the
state of its namespace's ANA group (R329, R349, R372). -/
def State.takeStatus (s : State) (fn : Nat) (e : Sqe) (par : SqParity) : Option NvmeStatus :=
  if par = .outsideCid then some .dataTransferError
  else if !ioOpcodes.contains (sqeOp e) then some .invalidOpcode
  else
    match s.ns? (sqeNsid e) with
    | none => none
    | some n =>
      let st := Sparse.get (fun _ => 1) (s.port (s.fnPort fn)).ana (n.ana - 1)
      if sqeOp e = opBarrier then none
      else if st = 3 then some .anaInaccessible else if st = 15 then some .anaTransition else none

/-- A slot for a command just taken. -/
def freshSlot (q : Sq) (e : Sqe) (order : Nat) (kept : Bool) : Slot :=
  { st := .taken, fn := q.fn, sqid := q.sqid, cid := sqeCid e, sqe := e, order := order, ordered := q.ordered, lock := none,
    waitedEntry := false, waitedLock := false, lba := sqeLba e, granules := [], filled := 0, inserted := false,
    ringOwed := false, beats := 0, placed := false, cpl := none, bound := none, kept := kept, decoded := false,
    acted := false, snap := [], seqno := 0, pool := none }

/-- SQ_ENTRY_PARITY: SQPAR and its count; the buffer sees the parity error (R283, R329). -/
def State.sqpar (s : State) (q : Sq) : State :=
  ((s.sramRead (q.addr q.head) 64 .lasting).1.setF .cmd F.CMD_UNIT_ERR_SQPAR 1).count64 .cmd Reg.CMD_CNT_SQPAR_LO

/-! ### The return from a non-operational power state (R61, R62) -/

/-- The media side of an operational state: the spindle that PS4 stopped starts, and the lanes that the power state unloaded
load, at once or when the spindle is at speed. -/
def State.wakeMedia (s : State) : State :=
  let s1 := if s.dev.psStopped && s.takes .spn then s.spStart else s
  ({ s1 with dev := { s1.dev with psStopped := false } } : State).loadParked

/-- An I/O command that arrives in a non-operational power state returns the device to the last operational one, with its
cap level (R61, R62). -/
def State.wakePower (s : State) : State :=
  if s.dev.ps < 3 then s
  else
    (({ s with dev := { s.dev with ps := s.dev.lastOp, psWanted := none } } : State).setCapLevel s.dev.lastOp).wakeMedia

/-- The command of an entry is in slot `i`: an admin command goes to a pool; an I/O command wakes the device (R62), and one
that ends at once completes; a barrier holds its queue (R331, R332, R342, R349). -/
def State.takeInto (s : State) (q : Sq) (e : Sqe) (i : Nat) (kept : Bool) (par : SqParity) : State :=
  let s1 := (s.setSubq q.advance).setSlot i (freshSlot q e s.cmd.nextOrder kept)
  let s2 : State := { s1 with cmd := { s1.cmd with nextOrder := s1.cmd.nextOrder + 1 } }
  if q.sqid = 0 then
    (if par = .outsideCid then s2.complete i .dataTransferError else s2.handOver i 0 0)
  else
    let s3 := s2.wakePower
    match s3.takeStatus q.fn e par with
    | some st => s3.complete i st
    | none => if sqeOp e = opBarrier then s3.setSubq { q.advance with held := true } else s3

/-- COMMAND_TAKE (R324, R329, R330, R331). -/
def State.commandTake (s : State) (fn sqid i : Nat) (par0 : SqParity) : State :=
  match s.subq? fn sqid with
  | none => s.ignore
  | some q =>
    if !s.engineRuns || !s.ctrlServes fn || !q.ready || decide (65536 ≤ i) || (s.slot? i).isSome then s.ignore
    else if q.held || s.dev.diePause || s.yields q then s.wait
    else
      let par := s.entryParity q par0
      let e := s.nextEntry q
      let s1 := if par = .none then s else s.sqpar q
      if par = .withinCid then
        ((s1.setSubq q.advance).logError fn sqid 0xFFFF (.named .dataTransferError) 0 0).raise fn ⟨0, 4, 1⟩
      else if s.mayTake fn then s1.takeInto q e i false par
      else if sqid = 0 ∧ s.keptFree fn then s1.takeInto q e i true par
      else s.wait

/-- COMMAND_TAKE (R324). -/
def execCommandTake (fn : Fin 64) (sqid slot : Nat) (par : SqParity) (s : State) : Host.Outcome State Fault Refusal :=
  done s (fun s => s.commandTake fn.val sqid slot par)

/-! ### Extents (R338, R339) -/

/-- An extent's block count. -/
def Extent.count (e : Extent) : Nat := e.lenM1 + 1
/-- An extent overlaps `n` blocks from `a` on of a namespace index. -/
def Extent.meets (e : Extent) (nsx a n : Nat) : Bool :=
  e.nsx == nsx && decide (e.slba < a + n ∧ a < e.slba + e.count)
/-- An extent holds a block. -/
def Extent.holds (e : Extent) (nsx lba : Nat) : Bool := e.nsx == nsx && decide (e.slba ≤ lba ∧ lba < e.slba + e.count)
/-- The namespace index of an NSID (R354). -/
def nsxOf (nsid : Nat) : Nat := (nsid - 1) % 256

/-- The extents that `n` blocks touch. -/
def State.touched (s : State) (nsx a n : Nat) : List (Nat × Extent) :=
  s.cmd.exts.filter (fun (e : Nat × Extent) => e.2.meets nsx a n)
/-- Valid extents wholly cover the blocks (R334, R338). -/
def State.covered (s : State) (nsx a n : Nat) : Bool :=
  (s.touched nsx a n).foldl (fun t (e : Nat × Extent) =>
    t + (min (a + n) (e.2.slba + e.2.count) - max a e.2.slba)) 0 == n
/-- The handle that holds a block. -/
def State.handleOf (s : State) (nsx lba : Nat) : Option Nat :=
  (s.cmd.exts.find? (fun (e : Nat × Extent) => e.2.holds nsx lba)).map (fun e => e.2.handle + (lba - e.2.slba))

/-- Runs of handles for blocks from `a` on, cut at multiples of 256 blocks (R338, R339): first block, first handle, count. -/
def cutRuns (fuel : Nat) (a : Nat) (l : List (Nat × Nat)) : List (Nat × (Nat × Nat)) :=
  match fuel, l with
  | 0, _ => []
  | _, [] => []
  | fuel + 1, (h, n) :: t =>
    let room := 256 - a % 256
    if n = 0 then cutRuns fuel a t
    else if n ≤ room then (a, (h, n)) :: cutRuns fuel (a + n) t
    else (a, (h, room)) :: cutRuns fuel (a + room) ((h + room, n - room) :: t)

/-- Neighbouring runs of consecutive handles joined. -/
def joinRuns (l : List (Nat × Nat)) : List (Nat × Nat) :=
  l.foldl (fun (acc : List (Nat × Nat)) (r : Nat × Nat) =>
    match acc.reverse with
    | [] => [r]
    | x :: t => if x.1 + x.2 = r.1 then (t.reverse ++ [(x.1, x.2 + r.2)]) else acc ++ [r]) []

/-- What is left of an extent below and above `n` blocks from `a` on. -/
def Extent.pieces (e : Extent) (a n : Nat) : List Extent :=
  (if e.slba < a then [{ e with lenM1 := a - e.slba - 1 }] else [])
    ++ (if a + n < e.slba + e.count then
          [{ e with slba := a + n, lenM1 := e.slba + e.count - (a + n) - 1, handle := e.handle + (a + n - e.slba) }]
        else [])

/-- The lowest entry numbers of the extent table that hold no valid extent, `n` of them. -/
def freeEntries (exts : List (Nat × Extent)) : Nat → Nat → List Nat
  | 0, _ => []
  | fuel + 1, k => if (Sparse.find? exts k).isSome then freeEntries exts fuel (k + 1) else k :: freeEntries exts fuel (k + 1)

/-- Extents placed in the lowest free entries. -/
def State.placeExts (s : State) (l : List Extent) : State :=
  let free := freeEntries s.cmd.exts (l.length + s.cmd.exts.length) 0
  { s with cmd := { s.cmd with exts := (free.zip l).foldl (fun t (p : Nat × Extent) => Sparse.insert t p.1 p.2) s.cmd.exts } }

/-- The dirty granules of an extent that `n` blocks from `a` on supersede. -/
def Extent.superseded (e : Extent) (a n : Nat) : Nat × Nat :=
  let lo := max a e.slba
  (e.handle + (lo - e.slba), min (a + n) (e.slba + e.count) - lo)

/-- EXTENT_INSERT: the write's dirty extents replace what they overlap, with its superseded runs reported; its lock is
released, and it commits, or goes to a pool until its blocks are on media (R339).  It waits with EXT_FULL while the net
need exceeds the free entries. -/
def State.extentInsert (s : State) (i : Nat) : State :=
  match s.slot? i with
  | none => s.ignore
  | some x =>
    let n := sqeCount x.sqe
    if x.st != .taken || !x.engineWrite || x.granules == [] || x.inserted || decide (x.filled < n) then s.ignore
    else
      let nsx := nsxOf (sqeNsid x.sqe)
      let old := s.touched nsx x.lba n
      let runs := cutRuns (n + x.granules.length) x.lba (joinRuns x.granules)
      let fresh := runs.map (fun (r : Nat × (Nat × Nat)) => (⟨true, nsx, r.1, r.2.2 - 1, r.2.1, some (x.fn, x.sqid)⟩ : Extent))
      let keep := old.flatMap (fun (e : Nat × Extent) => e.2.pieces x.lba n)
      if 131072 < s.cmd.exts.length - old.length + keep.length + fresh.length then
        (s.setF .cmd F.CMD_UNIT_ERR_EXT_FULL 1).wait
      else
        let s1 : State := { s with cmd := { s.cmd with exts := s.cmd.exts.filter (fun (e : Nat × Extent) => !e.2.meets nsx x.lba n) } }
        let s2 := (s1.placeExts keep).placeExts fresh
        let s3 := (old.filter (fun (e : Nat × Extent) => e.2.dirty)).foldl
          (fun t (e : Nat × Extent) => t.reportRun i (e.2.superseded x.lba n).1 (e.2.superseded x.lba n).2) s2
        let lost := s3.vault.lost.filter (fun (b : Nat × Nat) => !(b.1 == sqeNsid x.sqe && decide (x.lba ≤ b.2 ∧ b.2 < x.lba + n)))
        let s4 := ({ s3 with vault := { s3.vault with lost := lost } } : State).blocksWritten (sqeNsid x.sqe) x.lba n
        let s5 := s4.setSlot i { (s4.slot? i).getD x with inserted := true, lock := none }
        if s5.writeThrough x.fn (sqeFua x.sqe) then s5.handOver i 0 2
        else s5.commit i .done (some ⟨BitVec.ofNat 32 (if sqeOp x.sqe = opZoneAppend then x.lba else 0),
          BitVec.ofNat 32 (if sqeOp x.sqe = opZoneAppend then x.lba / 2 ^ 32 else 0), .named .success⟩) false

/-- EXTENT_INSERT (R339). -/
def execExtentInsert (slot : Nat) (s : State) : Host.Outcome State Fault Refusal :=
  done s (fun s => s.when (s.live .cmd && !s.cmd.stopped) (s.extentInsert slot))

/-- HFREE_WRITE: a run of handles joins the free-run list (R339). -/
def execHfreeWrite (eng : Engine) (v : Word) (s : State) : Host.Outcome State Fault Refusal :=
  done s (fun s => s.access eng .store .cmd Reg.CMD_HFREE none (s.freeHandles [(F.CMD_HFREE_HANDLE.get v, F.CMD_HFREE_COUNT_M1.get v + 1)]))

/-- Blocks that have reached media leave the lists of the Flushes and barriers that wait for them (R342, R345). -/
def State.onMedia (s : State) (nsx a n : Nat) : State :=
  let cut := fun (r : Nat × (Nat × Nat)) =>
    if r.1 = nsx ∧ r.2.1 < a + n ∧ a < r.2.1 + r.2.2 then
      (if r.2.1 < a then [(r.1, (r.2.1, a - r.2.1))] else [])
        ++ (if a + n < r.2.1 + r.2.2 then [(r.1, (a + n, r.2.1 + r.2.2 - (a + n)))] else [])
    else [r]
  { s with cmd := { s.cmd with slots := s.cmd.slots.map (fun (e : Nat × Slot) => (e.1, { e.2 with snap := e.2.snap.flatMap cut })) } }

/-- The blocks of an extent are on media: firmware has cleared its DIRTY bit (R355). -/
def State.cleaned (s : State) (e : Extent) : State := s.onMedia e.nsx e.slba e.count

/-- The word `w` of the entry that CMD_EXT_IDX selects, as committed (R354). -/
def State.extWord (s : State) (entry w : Nat) : Word :=
  let x := Sparse.find? s.cmd.exts entry
  match x.orElse (fun _ => Sparse.find? s.cmd.idle entry) with
  | none => 0
  | some e =>
    if w = 0 then BitVec.ofNat 32 (2 ^ 31 * bit x.isSome + 2 ^ 30 * bit e.dirty + e.nsx)
    else if w = 1 then BitVec.ofNat 32 e.slba
    else if w = 2 then BitVec.ofNat 32 (2 ^ 8 * e.lenM1 + e.slba / 2 ^ 32 % 8)
    else BitVec.ofNat 32 e.handle

/-- Word 1, 2 or 3 as it reads: the staged value while one is held (R355). -/
def State.extRead (s : State) (entry w : Nat) : Word :=
  if w = 0 then s.extWord entry 0 else (Sparse.find? s.cmd.staged w).getD (s.extWord entry w)

/-- EXT_DATA_COMMIT: a write of word 0 of the selected extent entry (R355). -/
def State.extCommit (s : State) (v : Word) : State :=
  let i := s.f .cmd F.CMD_EXT_IDX_ENTRY
  let w1 := s.extRead i 1
  let w2 := s.extRead i 2
  let w3 := s.extRead i 3
  let slba := w1.toNat + 2 ^ 32 * F.CMD_EXT_DATA_W2_SLBA_HI.get w2
  let e : Extent := ⟨F.CMD_EXT_DATA_W0_DIRTY.get v == 1, F.CMD_EXT_DATA_W0_NSX.get v, slba, F.CMD_EXT_DATA_W2_LEN_M1.get w2,
    F.CMD_EXT_DATA_W3_HANDLE.get w3, (Sparse.find? s.cmd.exts i).bind Extent.src⟩
  let s0 : State := { s with cmd := { s.cmd with staged := [] } }
  if F.CMD_EXT_DATA_W0_VALID.get v = 0 then
    let s1 : State := { s0 with cmd := { s0.cmd with exts := Sparse.erase s0.cmd.exts i, idle := Sparse.insert s0.cmd.idle i e } }
    match Sparse.find? s.cmd.exts i with
    | some o => if o.dirty then s1.cleaned o else s1
    | none => s1
  else if s.cmd.exts.any (fun (o : Nat × Extent) => o.1 != i && o.2.meets e.nsx e.slba e.count)
      || decide (255 < slba % 256 + e.lenM1) || decide (s.f .buf F.BUF_HDL_LIMIT_LIMIT ≤ e.handle + e.lenM1) then
    s0.err .cmd eConfig
  else
    let s1 : State := { s0 with cmd := { s0.cmd with exts := Sparse.insert s0.cmd.exts i e } }
    match Sparse.find? s.cmd.exts i with
    | some o => if o.dirty && !e.dirty then s1.cleaned o else s1
    | none => s1

/-- EXT_DATA_COMMIT (R355). -/
def execExtDataCommit (eng : Engine) (v : Word) (s : State) : Host.Outcome State Fault Refusal :=
  done s (fun s => s.access eng .store .cmd Reg.CMD_EXT_DATA none (s.extCommit v))

/-! ### Decoding a command -/

/-- A Zone Management Send action names zone `z` of a namespace (R297; PRESUMED, log entry 20). -/
def Slot.actsOn (x : Slot) (nsid z : Nat) : Bool :=
  sqeOp x.sqe == opZoneSend && sqeNsid x.sqe == nsid && (sqeBits x.sqe 13 8 1 == 1 || sqeLba x.sqe / zoneSize == z)

/-- An action on the zone of a write, fetched before it, has not taken effect: the write is held (R297). -/
def State.heldByAction (s : State) (x : Slot) : Bool :=
  x.anyWrite && s.cmd.slots.any (fun (e : Nat × Slot) =>
    decide (e.2.order < x.order) && e.2.st.isOpen && e.2.decoded && !e.2.acted && e.2.actsOn (sqeNsid x.sqe) x.zoneOf)

/-- A command of the same namespace whose blocks lie in the zone of a held write (R297). -/
def Slot.nearZone (x : Slot) (nsid z : Nat) : Bool :=
  sqeNsid x.sqe == nsid && (x.actsOn nsid z || decide (x.zoneOf ≤ z ∧ z ≤ (x.lba + sqeCount x.sqe - 1) / zoneSize))

/-- Slot `i` holds the next I/O command to be decoded, with opcode `op`: commands are decoded in fetch order, but for
those that overtake a write held by a zone action on another zone (R297, R324, R337). -/
def State.nextDecode (s : State) (i op : Nat) : Option Slot :=
  match s.slot? i with
  | none => none
  | some x =>
    if x.st == .taken && x.io && !x.decoded && sqeOp x.sqe == op && s.engineRuns
        && !s.cmd.slots.any (fun (e : Nat × Slot) =>
          e.2.st == .taken && e.2.io && !e.2.decoded && decide (e.2.order < x.order)
            && !(s.heldByAction e.2 && !x.nearZone (sqeNsid e.2.sqe) e.2.zoneOf)) then some x
    else none

/-- The namespace of a command that the controller may reach, or the status it completes with. -/
def State.nsFor (s : State) (x : Slot) : Namespace ⊕ NvmeStatus :=
  match s.ns? (sqeNsid x.sqe) with
  | none => .inr .nsInvalid
  | some n => if n.attached.contains x.fn then .inl n else .inr .invalidField

/-- The namespace of a command on a range of blocks that lies inside it; a transfer is at most MDTS, 256 blocks (R349). -/
def State.rangeFor (s : State) (x : Slot) (data : Bool) : Namespace ⊕ NvmeStatus :=
  match s.nsFor x with
  | .inr st => .inr st
  | .inl n =>
    if data ∧ 256 < sqeCount x.sqe then .inr .invalidField
    else if n.size < sqeLba x.sqe + sqeCount x.sqe then .inr .lbaOutOfRange
    else .inl n

/-! ### Locks and what follows them (R334, R337) -/

/-- The longest read on the path (R354). -/
def State.maxNlb (s : State) : Nat :=
  let m := s.f .cmd F.CMD_FP_CFG_MAX_NLB
  if m = 0 ∨ 256 < m then 256 else m

/-- The data pointer suits the path: a PRP pair or list, or one SGL Data Block descriptor that covers the transfer, with
metadata interleaved or contiguous (R334). -/
def pointerOk (n : Namespace) (e : Sqe) : Bool :=
  let psdt := sqeBits e 0 14 2
  psdt == 0 || (psdt == 1 && sqeBits e 9 28 4 == 0 && decide (sqeCount e * 4096 ≤ (sqeDw e 8).toNat)
    && decide (n.ms ≤ 16))

/-- Why the Swallowtail path does not serve a Read; none if it does (R332, R334). -/
def State.readReason (s : State) (x : Slot) (n : Namespace) : Option Nat :=
  let c := sqeCount x.sqe
  let nsx := nsxOf (sqeNsid x.sqe)
  if x.waitedLock then some 2
  else if x.waitedEntry then some 5
  else if !s.on .cmd F.CMD_CTL_FP_EN then some 6
  else if sqeBits x.sqe 0 8 2 ≠ 0 ∨ sqeFua x.sqe then some 0
  else if s.maxNlb < c then some 4
  else if !pointerOk n x.sqe then some 0
  else if !(n.pi == 0 || n.pi == 1 || n.pi == 3) then some 0
  else if !s.covered nsx x.lba c || decide (4 < (s.touched nsx x.lba c).length) then some 1
  else
    match s.keyCheck n x.lba (sqeTag x.sqe) false with
    | .inr _ => some 3
    | .inl _ => none

/-- A Read whose lock is granted enters FAST with its generation bound, or goes to a pool; a Read of a lost block completes
with Unrecovered Read Error (R318, R334, R335). -/
def State.proceedRead (s : State) (i : Nat) (x : Slot) : State :=
  match s.ns? (sqeNsid x.sqe) with
  | none => s.passRead i 0
  | some n =>
    if s.readsLost x then s.complete i .unrecoveredRead
    else
    match s.readReason x n with
    | some r => s.passRead i r
    | none =>
      match s.bindKey i with
      | .inr _ => s.passRead i 3
      | .inl t =>
        (t.setSlot i { (t.slot? i).getD x with st := .fast }).count64 .cmd Reg.CMD_CNT_FP_LO

/-- What follows the grant of a command's lock: a Read is served or handed on, a write of the engine goes on with its
data, the rest goes to a pool (R332, R334, R339). -/
def State.proceed (s : State) (i : Nat) : State :=
  match s.slot? i with
  | none => s
  | some x =>
    if sqeOp x.sqe = opRead then s.proceedRead i x
    else if x.engineWrite then s
    else s.handOver i 0 0

/-- A command takes its range-lock entry, or waits in TAKEN for one; with a conflict it enters LOCKWAIT, else it goes on
(R337). -/
def State.takeLock (s : State) (i : Nat) (l : RangeLock) : State :=
  match s.slot? i with
  | none => s
  | some x =>
    if 2048 ≤ s.locksUsed ∨ s.entryWaiter x then s.setSlot i { x with decoded := true, waitedEntry := true }
    else if s.lockConflict x l then
      (s.setSlot i { x with decoded := true, lock := some l, st := .lockwait, waitedLock := true }).count64 .cmd
        Reg.CMD_CNT_LOCKWAIT_LO
    else (s.setSlot i { x with decoded := true, lock := some l }).proceed i

/-- The lock a command takes (R337); the ranges of a Dataset Management lie in host memory, so its entry names the whole
namespace (DEDUCED, log entry 21). -/
def Slot.wants (x : Slot) (n : Namespace) : RangeLock :=
  if sqeOp x.sqe = opDsm then ⟨n.nsid, 0, n.size, true⟩ else ⟨n.nsid, x.lba, sqeCount x.sqe, x.anyWrite⟩

/-- LOCK_GRANT: a command that waits for an entry takes it, or one in LOCKWAIT is granted, in fetch order (R337). -/
def State.lockGrant (s : State) (i : Nat) : State :=
  match s.slot? i with
  | none => s.ignore
  | some x =>
    match x.lock with
    | some l =>
      if x.st != .lockwait then s.ignore
      else if s.lockConflict x l then s.wait
      else (s.setSlot i { x with st := .taken }).proceed i
    | none =>
      if x.st != .taken || !x.decoded || !x.waitedEntry || x.placed || x.inserted then s.ignore
      else
        match s.ns? (sqeNsid x.sqe) with
        | none => s.ignore
        | some n => if 2048 ≤ s.locksUsed ∨ s.entryWaiter x then s.wait else s.takeLock i (x.wants n)

/-- LOCK_GRANT (R337). -/
def execLockGrant (slot : Nat) (s : State) : Host.Outcome State Fault Refusal :=
  done s (fun s => s.when (s.live .cmd && !s.cmd.stopped) (s.lockGrant slot))

/-! ### Read and Compare -/

/-- The lines found in error in granule `k` of the data, counted from the granule's first line. -/
def endLines (r : FastEnd) (k : Nat) : List LineFound :=
  match r with
  | .lines l => (l.filter (fun f => f.line / 64 == k)).map (fun f => { f with line := f.line % 64 })
  | _ => []

/-- The blocks of a Read in FAST, decrypted in order under the command's key (R33, R335); a granule that is not mapped,
poisoned or uncorrectable spoils the data (R268, R273). -/
def State.fastRead (s : State) (x : Slot) (e : FastEnd) : State × Option BusCause × List Byte :=
  (List.range (sqeCount x.sqe)).foldl
    (fun (a : State × Option BusCause × List Byte) (k : Nat) =>
      match a.2.1 with
      | some _ => a
      | none =>
        match a.1.handleOf (nsxOf (sqeNsid x.sqe)) (x.lba + k) with
        | none => (a.1, some .translationFault, a.2.2)
        | some h =>
          match a.1.translate h false with
          | .stall => a
          | .fault c => (a.1, some c, a.2.2)
          | .page p =>
            let r := a.1.readGranule h p 1 (endLines e k)
            let miss := a.1.granuleMiss p (endLines e k)
            (if miss then r.1.spend else r.1, r.2, a.2.2 ++ x.xts (x.lba + k) false (r.1.granuleData p miss)))
    (s, none, [])

/-- A granule of the Read is being moved, so its data waits (R282). -/
def State.fastStalls (s : State) (x : Slot) : Bool :=
  (List.range (sqeCount x.sqe)).any (fun k =>
    match s.handleOf (nsxOf (sqeNsid x.sqe)) (x.lba + k) with
    | none => false
    | some h => s.translate h false == .stall)

/-- SWALLOWTAIL_PATH, steps 3 to 7: the Read ends as its data turns out.  The tags are checked before the first data TLP; data
that a guard mismatch follows has been sent and is not recalled (R335, R274). -/
def State.fastEnd (s : State) (i : Nat) (x : Slot) (r : FastEnd) : State :=
  if s.fastStalls x || s.dev.diePause then s.wait
  else
    let d := s.fastRead x r
    match d.2.1 with
    | some .poisoned => d.1.complete i .unrecoveredRead
    | some .uncorrectable => d.1.complete i .unrecoveredRead
    | some _ => d.1.complete i .internalError
    | none =>
      match r with
      | .good => (d.1.complete i .success).answer (.data d.2.2)
      | .lines _ => (d.1.complete i .success).answer (.data d.2.2)
      | .guardMismatch => (d.1.complete i .guardCheck).answer (.data d.2.2)
      | .refTag => d.1.complete i .refTagCheck
      | .appTag => d.1.complete i .appTagCheck

/-- READ (R334, R335). -/
def State.nvmRead (s : State) (i : Nat) (r : FastEnd) : State :=
  match s.slot? i with
  | none => s.ignore
  | some x =>
    if x.st = .fast then s.when (s.live .cmd && !s.cmd.stopped) (s.fastEnd i x r)
    else
      match s.nextDecode i opRead with
      | none => s.ignore
      | some x =>
        match s.rangeFor x true with
        | .inr st => s.complete i st
        | .inl n => s.takeLock i (x.wants n)

/-- READ (R334). -/
def execNvmRead (slot : Nat) (r : FastEnd) (s : State) : Host.Outcome State Fault Refusal :=
  done s (fun s => s.nvmRead slot r)

/-- A command that a pool carries out under a lock is decoded: its range, its key and for a write its zone are checked
(R294, R337, R349, R430). -/
def State.poolCommand (s : State) (i op : Nat) (data : Bool) : State :=
  match s.nextDecode i op with
  | none => s.ignore
  | some x =>
    if s.heldByAction x then s.wait
    else
    match s.rangeFor x data with
    | .inr st => s.complete i st
    | .inl n =>
      match (if data then s.keyCheck n x.lba (sqeTag x.sqe) x.anyWrite else .inl (0, 0)) with
      | .inr st => s.complete i st
      | .inl _ =>
        if x.anyWrite && n.zoned then
          match s.zoneAccept n x.lba (sqeCount x.sqe) x.order false with
          | .inr st => s.complete i st
          | .inl (t, _) => t.takeLock i (x.wants n)
        else s.takeLock i (x.wants n)

/-- COMPARE (R349). -/
def execNvmCompare (slot : Nat) (s : State) : Host.Outcome State Fault Refusal :=
  done s (fun s => s.poolCommand slot opCompare true)

/-- WRITE_UNCORRECTABLE (R349). -/
def execNvmWriteUncorrectable (slot : Nat) (s : State) : Host.Outcome State Fault Refusal :=
  done s (fun s => s.poolCommand slot opWriteUnc false)

/-- WRITE_ZEROES (R349). -/
def execNvmWriteZeroes (slot : Nat) (s : State) : Host.Outcome State Fault Refusal :=
  done s (fun s => s.poolCommand slot opWriteZeroes false)

/-- DATASET_MANAGEMENT: a write lock when it deallocates, else none (R337). -/
def State.nvmDsm (s : State) (i : Nat) : State :=
  match s.nextDecode i opDsm with
  | none => s.ignore
  | some x =>
    match s.nsFor x with
    | .inr st => s.complete i st
    | .inl n =>
      if sqeBits x.sqe 11 2 1 = 1 then s.takeLock i (x.wants n)
      else (s.setSlot i { x with decoded := true }).handOver i 0 0

/-- DATASET_MANAGEMENT (R337). -/
def execNvmDatasetManagement (slot : Nat) (s : State) : Host.Outcome State Fault Refusal :=
  done s (fun s => s.nvmDsm slot)

/-! ### Write and Zone Append (R339) -/

/-- `n` granules from the front of a list of runs. -/
def takeRuns (l : List (Nat × Nat)) (n : Nat) : List (Nat × Nat) × List (Nat × Nat) :=
  match l with
  | [] => ([], [])
  | (h, c) :: t =>
    if n = 0 then ([], (h, c) :: t)
    else if c ≤ n then let r := takeRuns t (n - c); ((h, c) :: r.1, r.2)
    else ([(h, n)], (h + n, c - n) :: t)

/-- Granules on the free-run list. -/
def State.freeGranules (s : State) : Nat := s.cmd.freeRuns.foldl (fun a (r : Nat × Nat) => a + r.2) 0

/-- A write taken earlier waits for granules (R339). -/
def State.granuleWaiter (s : State) (x : Slot) : Bool :=
  s.cmd.slots.any (fun (e : Nat × Slot) =>
    decide (e.2.order < x.order) && e.2.st.isOpen && e.2.engineWrite && e.2.decoded && !e.2.inserted && e.2.granules == [])

/-- A write to a conventional namespace waits for compaction to free space: the media cache is filled to 95% (R308). -/
def State.cacheHolds (s : State) (x : Slot) : Bool :=
  s.place.filled 95 && (match s.ns? (sqeNsid x.sqe) with | some n => !n.zoned | none => false)

/-- A write reserves its granules, or waits in fetch order: for the media cache, for the limit of R310, or for handles.  At the
limit with the write window closed it completes with Namespace Not Ready (R217, R308, R310, R339). -/
def State.reserve (s : State) (i : Nat) : State :=
  match s.slot? i with
  | none => s.ignore
  | some x =>
    let n := sqeCount x.sqe
    if !x.st.isOpen || !x.engineWrite || !x.decoded || x.inserted || x.granules != [] then s.ignore
    else if s.granuleWaiter x || s.cacheHolds x then s.wait
    else if !s.withinLimit n then
      (if s.windowClosed then s.complete i .namespaceNotReady else s.wait)
    else if s.freeGranules < n then s.wait
    else
      let r := takeRuns s.cmd.freeRuns n
      let s1 := s.setSlot i { x with granules := r.1 }
      { s1 with cmd := { s1.cmd with freeRuns := r.2 } }

/-- The acceptance of a Write or Zone Append: its checks in fetch order, the zone's WP advanced, its lock and its granules
(R294, R337, R339, R430). -/
def State.acceptWrite (s : State) (i : Nat) (x : Slot) (append : Bool) : State :=
  match s.rangeFor x true with
  | .inr st => s.complete i st
  | .inl n =>
    if append && !n.zoned then s.complete i .invalidOpcode
    else
      match s.keyCheck n x.lba (sqeTag x.sqe) true with
      | .inr st => s.complete i st
      | .inl _ =>
        if !n.zoned then (s.takeLock i (x.wants n)).reserve i
        else
          match s.zoneAccept n x.lba (sqeCount x.sqe) x.order append with
          | .inr st => s.complete i st
          | .inl (t, lba) =>
            let y := { x with lba := lba }
            ((t.setSlot i y).takeLock i (y.wants n)).reserve i

/-- WRITE and ZONE_APPEND: the command is decoded, or looked at again while it waits for granules. -/
def State.engineWrite (s : State) (i op : Nat) : State :=
  match s.nextDecode i op with
  | some x => if s.heldByAction x then s.wait else s.acceptWrite i x (op == opZoneAppend)
  | none =>
    match s.slot? i with
    | none => s.ignore
    | some x => s.when (sqeOp x.sqe == op && x.io && s.live .cmd && !s.cmd.stopped) (s.reserve i)

/-- WRITE (R339). -/
def execNvmWrite (slot : Nat) (s : State) : Host.Outcome State Fault Refusal :=
  done s (fun s => s.engineWrite slot opWrite)

/-- ZONE_APPEND (R294). -/
def execZoneAppend (slot : Nat) (s : State) : Host.Outcome State Fault Refusal :=
  done s (fun s => s.engineWrite slot opZoneAppend)

/-! ### Flush and Ordered Barrier (R342, R345) -/

/-- The dirty blocks of extents that a condition picks. -/
def State.dirtyBlocks (s : State) (p : Extent → Bool) : List (Nat × (Nat × Nat)) :=
  (s.cmd.exts.filter (fun (e : Nat × Extent) => e.2.dirty && p e.2)).map (fun e => (e.2.nsx, (e.2.slba, e.2.count)))

/-- A command that waits for blocks to reach media completes when none is left. -/
def State.flushLook (s : State) (i : Nat) : State :=
  match s.slot? i with
  | none => s.ignore
  | some x => if x.snap = [] then s.complete i .success else s.wait

/-- FLUSH (R311, R345). -/
def State.nvmFlush (s : State) (i : Nat) : State :=
  match s.nextDecode i opFlush with
  | some x =>
    let all := sqeNsid x.sqe == 0xFFFFFFFF
    match (if all then Sum.inr NvmeStatus.success else s.nsFor x) with
    | .inr .success =>
      if s.vaultFitted then s.complete i .success
      else
        let own := fun (e : Extent) => s.hosts.namespaces.any (fun n => n.attached.contains x.fn && nsxOf n.nsid == e.nsx)
        (s.setSlot i { x with decoded := true, acted := true, snap := s.dirtyBlocks own }).flushLook i
    | .inr st => s.complete i st
    | .inl n =>
      if s.vaultFitted then s.complete i .success
      else
        (s.setSlot i { x with decoded := true, acted := true, snap := s.dirtyBlocks (fun e => e.nsx == nsxOf n.nsid) }).flushLook i
  | none =>
    match s.slot? i with
    | none => s.ignore
    | some x =>
      s.when (x.st == .taken && x.io && x.decoded && sqeOp x.sqe == opFlush && s.live .cmd && !s.cmd.stopped) (s.flushLook i)

/-- FLUSH (R345). -/
def execNvmFlush (slot : Nat) (s : State) : Host.Outcome State Fault Refusal :=
  done s (fun s => s.nvmFlush slot)

/-- The barrier's queue goes on (R342). -/
def State.releaseBarrier (s : State) (x : Slot) : State :=
  match s.subq? x.fn x.sqid with
  | none => s
  | some q => s.setSubq { q with held := false }

/-- ORDERED_BARRIER: it completes when every command of its queue taken earlier has completed, and with DURABLE and a
volatile cache when the queue's completed writes are on media (R342). -/
def State.barrierLook (s : State) (i : Nat) (x : Slot) : State :=
  let earlier := s.cmd.slots.any (fun (e : Nat × Slot) =>
    e.2.fn == x.fn && e.2.sqid == x.sqid && decide (e.2.order < x.order) && e.2.st.isOpen)
  if earlier then (s.setSlot i { x with decoded := true }).wait
  else
    let durable := sqeBits x.sqe 10 0 1 == 1 && !s.vaultFitted
    let snap := if x.acted then x.snap
      else if durable then s.dirtyBlocks (fun e => e.src == some (x.fn, x.sqid)) else []
    let s1 := s.setSlot i { x with decoded := true, acted := true, snap := snap }
    if snap = [] then (s1.releaseBarrier x).complete i .success else s1.wait

/-- ORDERED_BARRIER (R342). -/
def State.orderedBarrier (s : State) (i : Nat) : State :=
  match s.nextDecode i opBarrier with
  | some x => s.barrierLook i x
  | none =>
    match s.slot? i with
    | none => s.ignore
    | some x =>
      s.when (x.st == .taken && x.io && x.decoded && sqeOp x.sqe == opBarrier && s.live .cmd && !s.cmd.stopped)
        (s.barrierLook i x)

/-- ORDERED_BARRIER (R342). -/
def execOrderedBarrier (slot : Nat) (s : State) : Host.Outcome State Fault Refusal :=
  done s (fun s => s.orderedBarrier slot)

/-! ### Completion rings and aborts -/

/-- COMPLETION_RING_ENTRY: the next entry of a pool's ring commits its slot, or is discarded (R333). -/
def State.completionRing (s : State) (p : Fin 2) : State :=
  let r := s.cplRing p
  if r.empty then s.ignore
  else
    let a := (s.reg .cmd (Reg.CMD_CQp_BASE + ringOff p)).toNat / 16 * 16 + 16 * r.head
    let w2 := s.word (a + 8)
    let i := w2.toNat % 2 ^ 16
    let c : Cpl := ⟨s.word a, s.word (a + 4), .raw (w2.toNat / 2 ^ 16 / 2 * 2)⟩
    let s1 := s.setReg .cmd (Reg.CMD_CQp_HEAD + ringOff p) (BitVec.ofNat 32 ((r.head + 1) % r.size))
    match s1.slot? i with
    | none => s1.setF .cmd F.CMD_UNIT_ERR_RING 1
    | some x =>
      if x.st = .fast then s1.setF .cmd F.CMD_UNIT_ERR_RING 1
      else if x.st.isOpen then s1.commit i .done (some c) true
      else (s1.setSlot i { x with ringOwed := false }).count64 .cmd Reg.CMD_CNT_LATE_CPL_LO

/-- COMPLETION_RING_ENTRY (R333). -/
def execCompletionRingEntry (p : Fin 2) (s : State) : Host.Outcome State Fault Refusal :=
  done s (fun s => s.when (s.live .cmd && !s.cmd.stopped) (s.completionRing p))

/-- The abort of a slot wins its commit point (R343, R344); an aborted barrier releases its queue at once (R342). -/
def State.abortSlot (s : State) (i : Nat) (x : Slot) : State :=
  let s1 := (s.commit i .aborted (some (Cpl.ofStatus .abortRequested)) false).count64 .cmd Reg.CMD_CNT_ABORT_LO
  if sqeOp x.sqe = opBarrier ∧ x.io then s1.releaseBarrier x else s1

/-- The attempt of an abort: the slot found, the state after it, and its result code (R343). -/
def State.abortTry (s : State) (fn sqid cid : Nat) : State × (Nat × Nat) :=
  let hit := fun (e : Nat × Slot) => e.2.fn == fn && e.2.sqid == sqid && e.2.cid == cid && sqid != 0
  match s.cmd.slots.find? (fun e => hit e && e.2.st.isOpen) with
  | some (i, x) => if s.cmd.stopped then (s, (i, 2)) else (s.abortSlot i x, (i, 1))
  | none =>
    match s.cmd.slots.find? hit with
    | some (i, _) => (s, (i, 2))
    | none => (s, (0, 3))

/-- CMD_ABT_KEY and CMD_ABT_RES of a requesting engine (R343). -/
def State.abt (s : State) (e : Engine) : Word × Word := (Sparse.find? s.cmd.abt (engNum e)).getD (0, 0)
/-- The state with them replaced. -/
def State.setAbt (s : State) (e : Engine) (w : Word × Word) : State :=
  { s with cmd := { s.cmd with abt := Sparse.insert s.cmd.abt (engNum e) w } }

/-- ABORT_ATTEMPT: a write of CMD_ABT_GO (R343). -/
def State.abortGo (s : State) (e : Engine) (v : Word) : State :=
  if F.CMD_ABT_GO_GO.get v = 0 then s
  else
    let key := (s.abt e).1
    let r := s.abortTry (F.CMD_ABT_GO_FN.get v) (F.CMD_ABT_KEY_SQID.get key) (F.CMD_ABT_KEY_CID.get key)
    r.1.setAbt e (key, BitVec.ofNat 32 (2 ^ 31 + 2 ^ 16 * r.2.2 + r.2.1))

/-- ABORT_ATTEMPT (R343). -/
def execAbortAttempt (eng : Engine) (v : Word) (s : State) : Host.Outcome State Fault Refusal :=
  done s (fun s => s.access eng .store .cmd Reg.CMD_ABT_GO none (s.abortGo eng v))

/-! ### Vendor-specific features (R350 to R352) -/

/-- An admin command of a controller acts and is answered (DESIGN CHOICE, log entry 22). -/
def State.admin (s : State) (fn : Nat) (t : State) : State := s.when (s.ctrlServes fn) t

/-- A feature command that the Chrysalis controller does not accept (R497). -/
def State.feature (s : State) (t : State) : State := if s.svcs.chrysalis then s.answer (.status .invalidOpcode) else t

/-- SET_QUEUE_ORDERING (R351). -/
def State.setOrdering (s : State) (fn : Nat) (v : Word) : State :=
  let sqid := v.toNat % 2 ^ 16
  match s.subq? fn sqid with
  | none => s.answer (.status .invalidField)
  | some q =>
    if sqid = 0 then s.answer (.status .invalidField)
    else (s.setSubq { q with ordered := v.getLsbD 31 }).answer (.status .success)

/-- SET_QUEUE_ORDERING (R351). -/
def execSetQueueOrdering (fn : Fin 64) (cdw11 : Word) (s : State) : Host.Outcome State Fault Refusal :=
  done s (fun s => s.admin fn.val (s.feature (s.setOrdering fn.val cdw11)))

/-- GET_QUEUE_ORDERING (R350). -/
def State.getOrdering (s : State) (fn : Nat) (v : Word) : State :=
  let sqid := v.toNat % 2 ^ 16
  match s.subq? fn sqid with
  | none => s.answer (.status .invalidField)
  | some q =>
    if sqid = 0 then s.answer (.status .invalidField)
    else s.answer (.value (BitVec.ofNat 32 (2 ^ 31 * bit q.ordered + sqid)))

/-- GET_QUEUE_ORDERING (R350). -/
def execGetQueueOrdering (fn : Fin 64) (cdw11 : Word) (s : State) : Host.Outcome State Fault Refusal :=
  done s (fun s => s.admin fn.val (s.feature (s.getOrdering fn.val cdw11)))

/-- Twin Read Policy of a namespace: DUAL_NLB 32 and automatic unless set (R350). -/
def State.twinPolicy (s : State) (nsid : Nat) : Word := Sparse.get (fun _ => 0x2000) s.cmd.twin nsid

/-- SET_TWIN_READ_POLICY (R352). -/
def State.setTwin (s : State) (nsid : Nat) (v : Word) : State :=
  let n := v.toNat / 2 ^ 8 % 2 ^ 9
  match s.ns? nsid with
  | none => s.answer (.status .nsInvalid)
  | some _ =>
    if n = 0 ∨ 256 < n then s.answer (.status .invalidField)
    else
      ({ s with cmd := { s.cmd with twin := Sparse.set (fun _ => 0x2000) s.cmd.twin nsid (v &&& 0x0001FF03) } } : State).answer
        (.status .success)

/-- GET_TWIN_READ_POLICY (R350). -/
def execGetTwinReadPolicy (nsid : Nat) (s : State) : Host.Outcome State Fault Refusal :=
  done s (fun s => s.feature
    (match s.ns? nsid with
     | none => s.answer (.status .nsInvalid)
     | some _ => s.answer (.value (s.twinPolicy nsid))))

/-- SET_THERMAL_THROTTLE_REPORT: the feature is not changeable (R352). -/
def execSetThermalThrottleReport (_cdw11 : Word) (s : State) : Host.Outcome State Fault Refusal :=
  done s (fun s => s.feature (s.answer (.status .featureNotChangeable)))

end Sys2Proof.Machine
end

