-- ==== Sys2Proof/Machine/Zones.lean ====
section
/-! DEFINITION. Zone management (R292 to R298) and the admin Abort command (R343). -/

namespace Sys2Proof.Machine

/-! ### Zone Management Send (R297) -/

/-- The codes of the send actions (PRESUMED, log entry 20). -/
abbrev zaClose : Nat := 1
abbrev zaFinish : Nat := 2
abbrev zaOpen : Nat := 3
abbrev zaReset : Nat := 4
abbrev zaOffline : Nat := 5

/-- The action of a Zone Management Send. -/
def sqeZsa (e : Sqe) : Nat := sqeBits e 13 0 8

/-- Write dispatches whose granules a condition picks are cancelled by the epoch rule (R80, R297). -/
def State.cancelWrites (s : State) (p : Nat → Bool) : State :=
  let slots := lanes4.flatMap (fun n => ((s.lane n).disps.filter (fun (d : Disp) =>
    d.isWrite && (List.range d.count).any (fun i => p (d.handle + i)))).map Disp.slot)
  (slots.foldl addOnce []).foldl (fun t i => t.advanceEpoch i) s

/-- Reset: the zone's granules are discarded and its write dispatches cancelled; its void runs go, WP and MP return to the
start, its slips and reallocation entries are freed, and the zone is Empty (R297).  Its blocks leave the vault's lost list
(R318). -/
def State.resetZone (s : State) (n : Namespace) (z : Nat) : State :=
  let nsx := nsxOf n.nsid
  let a := z * zoneSize
  let own := s.touched nsx a zoneSize
  let inOwn := fun (h : Nat) => own.any (fun (e : Nat × Extent) => decide (e.2.handle ≤ h ∧ h < e.2.handle + e.2.count))
  let s1 := s.cancelWrites inOwn
  let s2 : State := { s1 with cmd := { s1.cmd with exts := s1.cmd.exts.filter (fun (e : Nat × Extent) => !e.2.meets nsx a zoneSize) } }
  let s3 := (s2.freeHandles (own.map (fun (e : Nat × Extent) => (e.2.handle, e.2.count)))).onMedia nsx a zoneSize
  let lost := s3.vault.lost.filter (fun (b : Nat × Nat) => !(b.1 == n.nsid && b.2 / zoneSize == z))
  let s4 := s3.blocksWritten n.nsid a zoneSize
  ({ s4 with vault := { s4.vault with lost := lost } } : State).setZone n.nsid z Zone.reset

/-- An action on one zone: the state, or the status it fails with (R293, R297). -/
def State.zoneAct (s : State) (n : Namespace) (z act : Nat) : State ⊕ NvmeStatus :=
  let x := s.zone n.nsid z
  let set := fun (st : ZState) => Sum.inl (s.setZone n.nsid z { x with st := st })
  if act = zaReset then
    (if x.st = .readOnly ∨ x.st = .offline then .inr .invalidTransition else .inl (s.resetZone n z))
  else if act = zaFinish then
    (if x.st = .readOnly ∨ x.st = .offline then .inr .invalidTransition
     else if x.st = .full then .inl s else .inl (s.finishZone n z))
  else if act = zaOpen then
    (if x.st = .explOpen then .inl s
     else if x.st = .implOpen then set .explOpen
     else if x.st = .empty ∨ x.st = .closed then s.openZone n.nsid z .explOpen
     else .inr .invalidTransition)
  else if act = zaClose then
    (if x.st.isOpen then set .closed else if x.st = .closed then .inl s else .inr .invalidTransition)
  else
    (if x.st = .readOnly then set .offline else if x.st = .offline then .inl s else .inr .invalidTransition)

/-- The zones that an action with Select All acts on. -/
def actsOnAll (act : Nat) (st : ZState) : Bool :=
  if act = zaReset then st.isActive || st == .full
  else if act = zaFinish then st.isActive
  else if act = zaOpen then st == .closed
  else if act = zaClose then st.isOpen
  else st == .readOnly

/-- A write to a zone of the action, fetched before it, has not completed, or an earlier action on it has not taken
effect (R297). -/
def State.actionWaits (s : State) (x : Slot) : Bool :=
  s.cmd.slots.any (fun (e : Nat × Slot) =>
    decide (e.2.order < x.order) && e.2.st.isOpen && e.2.io &&
      ((e.2.anyWrite && x.actsOn (sqeNsid e.2.sqe) e.2.zoneOf)
        || (sqeOp e.2.sqe == opZoneSend && !e.2.acted && sqeNsid e.2.sqe == sqeNsid x.sqe
            && (sqeBits e.2.sqe 13 8 1 == 1 || x.actsOn (sqeNsid e.2.sqe) (sqeLba e.2.sqe / zoneSize)))))

/-- The action of slot `i` takes effect, with its outcome. -/
def State.zoneApply (s : State) (x : Slot) (n : Namespace) (act : Nat) : State × NvmeStatus :=
  if sqeBits x.sqe 13 8 1 = 1 then
    ((List.range n.bands.length).foldl (fun t z =>
      if actsOnAll act (t.zone n.nsid z).st then (match t.zoneAct n z act with | .inl u => u | .inr _ => t) else t) s, .success)
  else
    match s.zoneAct n (sqeLba x.sqe / zoneSize) act with
    | .inl t => (t, .success)
    | .inr st => (s, st)

/-- A Zone Management Send: decoded and handed to a pool; in WORK, its action takes effect, and the pool completes it with
the status answered (R297). -/
def State.zoneSend (s : State) (i act : Nat) : State :=
  match s.slot? i with
  | none => s.ignore
  | some x =>
    if sqeOp x.sqe != opZoneSend || sqeZsa x.sqe != act || !x.io then s.ignore
    else if x.st = .work then
      if x.acted || !s.live .cmd then s.ignore
      else if s.actionWaits x then s.wait
      else
        match s.ns? (sqeNsid x.sqe) with
        | none => s.ignore
        | some n =>
          let r := s.zoneApply x n act
          (r.1.setSlot i { (r.1.slot? i).getD x with acted := true }).answer (.status r.2)
    else
      match s.nextDecode i opZoneSend with
      | none => s.ignore
      | some x =>
        match s.nsFor x with
        | .inr st => s.complete i st
        | .inl n =>
          if !n.zoned then s.complete i .invalidOpcode
          else if sqeBits x.sqe 13 8 1 = 0 ∧ n.size ≤ sqeLba x.sqe then s.complete i .lbaOutOfRange
          else if sqeBits x.sqe 13 8 1 = 0 ∧ sqeLba x.sqe % zoneSize ≠ 0 then s.complete i .invalidField
          else (s.setSlot i { x with decoded := true }).handOver i 0 0

/-- ZONE_RESET (R297). -/
def execZoneReset (slot : Nat) (s : State) : Host.Outcome State Fault Refusal := done s (fun s => s.zoneSend slot zaReset)
/-- ZONE_FINISH (R297). -/
def execZoneFinish (slot : Nat) (s : State) : Host.Outcome State Fault Refusal := done s (fun s => s.zoneSend slot zaFinish)
/-- ZONE_OPEN (R297). -/
def execZoneOpen (slot : Nat) (s : State) : Host.Outcome State Fault Refusal := done s (fun s => s.zoneSend slot zaOpen)
/-- ZONE_CLOSE (R297). -/
def execZoneClose (slot : Nat) (s : State) : Host.Outcome State Fault Refusal := done s (fun s => s.zoneSend slot zaClose)
/-- ZONE_OFFLINE (R297). -/
def execZoneOffline (slot : Nat) (s : State) : Host.Outcome State Fault Refusal := done s (fun s => s.zoneSend slot zaOffline)

/-! ### Zone Management Receive (R292) -/

/-- The code of a zone state (PRESUMED, log entry 20). -/
def ZState.code : ZState → Nat
  | .empty => 1 | .implOpen => 2 | .explOpen => 3 | .closed => 4 | .readOnly => 13 | .full => 14 | .offline => 15

/-- Reporting option `f` picks a zone state (PRESUMED, log entry 20). -/
def zonePicked (f : Nat) (st : ZState) : Bool :=
  f == 0 || (f == 1 && st == .empty) || (f == 2 && st == .implOpen) || (f == 3 && st == .explOpen)
    || (f == 4 && st == .closed) || (f == 5 && st == .full) || (f == 6 && st == .readOnly) || (f == 7 && st == .offline)

/-- A 64-bit value's bytes, the lowest first. -/
def quadBytes (n : Nat) : List Byte := wordBytes (BitVec.ofNat 32 n) ++ wordBytes (BitVec.ofNat 32 (n / 2 ^ 32))

/-- A zone descriptor: 64 bytes with no extension (R292; PRESUMED, log entry 20). -/
def State.zoneDescriptor (s : State) (n : Namespace) (z : Nat) : List Byte :=
  let x := s.zone n.nsid z
  [2, BitVec.ofNat 8 (16 * x.st.code), 0, 0, 0, 0, 0, 0] ++ quadBytes (n.cap z) ++ quadBytes (z * zoneSize)
    ++ quadBytes (z * zoneSize + x.wp) ++ List.replicate 32 0

/-- The report of a Zone Management Receive: the count of zones, and descriptors (R292). -/
def State.zoneReport (s : State) (x : Slot) (n : Namespace) : List Byte :=
  let from0 := sqeLba x.sqe / zoneSize
  let zs := (List.range n.bands.length).filter (fun z =>
    decide (from0 ≤ z) && zonePicked (sqeBits x.sqe 13 8 8) (s.zone n.nsid z).st)
  let room := ((sqeDw x.sqe 12).toNat + 1) * 4
  let partialRep := sqeBits x.sqe 13 16 1 == 1
  let fit := zs.take ((room - 64) / 64)
  (quadBytes (if partialRep then fit.length else zs.length) ++ List.replicate 56 0
    ++ fit.flatMap (fun z => s.zoneDescriptor n z)).take room

/-- ZONE_MANAGEMENT_RECEIVE: decoded and handed to a pool; in WORK, its report is returned (R292). -/
def State.zoneReceive (s : State) (i : Nat) : State :=
  match s.slot? i with
  | none => s.ignore
  | some x =>
    if sqeOp x.sqe != opZoneRecv || !x.io then s.ignore
    else if x.st = .work then
      match s.ns? (sqeNsid x.sqe) with
      | none => s.ignore
      | some n => if sqeBits x.sqe 13 0 8 = 0 then s.answer (.data (s.zoneReport x n)) else s.answer (.status .invalidField)
    else
      match s.nextDecode i opZoneRecv with
      | none => s.ignore
      | some x =>
        match s.nsFor x with
        | .inr st => s.complete i st
        | .inl n =>
          if !n.zoned then s.complete i .invalidOpcode
          else if n.size ≤ sqeLba x.sqe then s.complete i .lbaOutOfRange
          else (s.setSlot i { x with decoded := true }).handOver i 0 0

/-- ZONE_MANAGEMENT_RECEIVE (R292). -/
def execZoneReceive (slot : Nat) (s : State) : Host.Outcome State Fault Refusal := done s (fun s => s.zoneReceive slot)

/-! ### The admin Abort command (R343) -/

/-- The opcode of Abort (PRESUMED, log entry 20). -/
abbrev opAbort : Nat := 0x08

/-- ABORT: the pool writes the key and makes its attempt; the Abort completes with bit 0 of dword 0 clear if it won.  Four
may be outstanding (R343). -/
def State.abortAdmin (s : State) (e : Engine) (i : Nat) : State :=
  match s.slot? i with
  | none => s.ignore
  | some x =>
    if x.st != .work || x.sqid != 0 || sqeOp x.sqe != opAbort || x.acted || !s.live .cmd then s.ignore
    else
      let before := (s.cmd.slots.filter (fun (y : Nat × Slot) =>
        y.2.fn == x.fn && y.2.sqid == 0 && sqeOp y.2.sqe == opAbort && y.2.st.isOpen && decide (y.2.order < x.order))).length
      if 4 ≤ before then (s.setSlot i { x with acted := true }).answer (.status .abortLimit)
      else
        let key := sqeDw x.sqe 10
        let s1 := (s.setSlot i { x with acted := true }).setAbt e (key, (s.abt e).2)
        let r := s1.abortTry x.fn (F.CMD_ABT_KEY_SQID.get key) (F.CMD_ABT_KEY_CID.get key)
        (r.1.setAbt e (key, BitVec.ofNat 32 (2 ^ 31 + 2 ^ 16 * r.2.2 + r.2.1))).answer (.value (if r.2.2 = 1 then 0 else 1))

/-- ABORT (R343). -/
def execAbortCommand (eng : Engine) (slot : Nat) (s : State) : Host.Outcome State Fault Refusal :=
  done s (fun s => s.abortAdmin eng slot)

end Sys2Proof.Machine
end

