-- ==== Sys2Proof/Machine/Ports.lean ====
section
/-! DEFINITION. PCI Express ports, functions, controllers and their queues (R43, R44, R346, R357 to R372), the Controller
Memory Buffer (R364, R365) and the life counters (R545 to R547). -/

namespace Sys2Proof.Machine

/-! ### The Controller Memory Buffer (R364) -/

/-- The bytes of a Controller Memory Buffer. -/
abbrev cmbSize : Nat := 0x4000000
/-- The queue-SRAM part of port `p`'s buffer, in bytes (R364). -/
def State.cmbSram (s : State) : Nat := if s.split then 0x100000 else 0x200000
/-- The address of byte `off` of port `p`'s buffer: queue SRAM first, then DRAM (R364; DESIGN CHOICE, log entry 13). -/
def State.cmbAddr (s : State) (p : Fin 2) (off : Nat) : Nat :=
  if off < s.cmbSram then 0x30000000 + p.val * 0x100000 + off
  else dramBase + 64 * Config.cmbDram p.val + (off - s.cmbSram)
/-- Port `p` offers a Controller Memory Buffer: its physical function exists (R364, R496). -/
def State.hasCmb (s : State) (p : Fin 2) : Bool := !s.svcs.chrysalis && (p == 0 || s.split)
/-- Bytes of the buffer of port `p` lie within it and on one side of its queue-SRAM part. -/
def State.cmbRange (s : State) (off n : Nat) : Bool :=
  decide (0 < n ∧ off + n ≤ cmbSize) && (decide (off + n ≤ s.cmbSram) || decide (s.cmbSram ≤ off))

/-- Bytes of memory go back to what nothing has written. -/
def State.zeroBytes (s : State) (a n : Nat) : State :=
  { s with mem := s.mem.filter (fun (c : Nat × Byte) => !decide (a ≤ c.1 ∧ c.1 < a + n)) }

/-- The whole of a port's buffer is zeroed: its SRAM with good parity, its DRAM lines without poison (R264, R283, R365). -/
def State.cmbZero (s : State) (p : Fin 2) : State :=
  let a := s.cmbAddr p 0
  let n := s.cmbSram
  let d := s.cmbAddr p n
  let m := cmbSize - n
  let l0 := (d - dramBase) / 64
  let inDram := fun (l : Nat) => decide (l0 ≤ l ∧ l < l0 + m / 64)
  let s1 := (s.zeroBytes a n).zeroBytes d m
  { s1 with buf := { s1.buf with sramBad := s1.buf.sramBad.filter (fun b => !decide (a ≤ b ∧ b < a + n))
                                 poisoned := s1.buf.poisoned.filter (fun l => !inDram l)
                                 flips := s1.buf.flips.filter (fun (e : Nat × (Nat × Nat)) => !inDram e.1) } }

/-- CMB_ZEROING_DONE (R365). -/
def State.cmbZeroed (s : State) (p : Fin 2) : State :=
  s.when (s.port p).zeroing ((s.cmbZero p).setPort p { s.port p with zeroing := false })

/-- CMB_ZEROING_DONE (R365). -/
def execCmbZeroingDone (p : Fin 2) (s : State) : Host.Outcome State Fault Refusal := done s (fun s => s.cmbZeroed p)

/-- The link of port `p` is up. -/
def State.linkIsUp (s : State) (p : Fin 2) : Bool := s.on (.pep p) F.PEP_STAT_LINK_UP

/-- A read of lines of DRAM by physical address, to the first that is not delivered. -/
def State.spanRead (s : State) (a n src : Nat) (found : List LineFound) : State × Option BusCause :=
  let l0 := (a - dramBase) / 64
  let l1 := (a + n - 1 - dramBase) / 64
  (s.badLines l0 (l1 + 1 - l0) found).foldl
    (fun (x : State × Option BusCause) (p : Nat × LineFound) =>
      match x.2 with
      | some _ => x
      | none =>
        let r := x.1.readLine p.1 src none p.2.first p.2.again
        (r.s, r.cause))
    (s, none)

/-- CMB_READ: zeros while the buffer is being zeroed; EP, shown as the bus error, on data with a lasting error, which the
port reports (R284, R365, R369, R538). -/
def State.cmbRead (s : State) (p : Fin 2) (off n : Nat) (par : Parity) (found : List LineFound) : State :=
  if !s.hasCmb p || !s.linkIsUp p || !s.cmbRange off n then s.ignore
  else if (s.port p).zeroing then s.answer (.data (List.replicate n 0))
  else
    let a := s.cmbAddr p off
    let r := if off < s.cmbSram then s.sramRead a n par else s.spanRead a n 0 found
    match r.2 with
    | some c => r.1.answer (.busError c)
    | none => r.1.answer (.data (r.1.bytes a n))

/-- CMB_READ (R284, R365). -/
def execCmbRead (p : Fin 2) (off n : Nat) (par : Parity) (found : List LineFound) (s : State) :
    Host.Outcome State Fault Refusal :=
  done s (fun s => s.cmbRead p off n par found)

/-- Bytes stored in DRAM by physical address, line by line: a whole line as R264 writes it, part of one by
read-modify-write. -/
def State.spanWrite (s : State) (fuel a : Nat) (data : List Byte) : State × Option BusCause :=
  match fuel with
  | 0 => (s, none)
  | fuel + 1 =>
    if data.isEmpty then (s, none)
    else
      let l := (a - dramBase) / 64
      let off := (a - dramBase) % 64
      let part := data.take (64 - off)
      let r := if part.length = 64 then (s.writeLine l part, none) else s.writePart l off part 0 none goodRead goodRead
      match r.2 with
      | some c => (r.1, some c)
      | none => r.1.spanWrite fuel (a + part.length) (data.drop part.length)

/-- CMB_WRITE: discarded while the buffer is being zeroed (R365). -/
def State.cmbWrite (s : State) (p : Fin 2) (off : Nat) (data : List Byte) : State :=
  if !s.hasCmb p || !s.linkIsUp p || !s.cmbRange off data.length then s.ignore
  else if (s.port p).zeroing then s
  else
    let a := s.cmbAddr p off
    if off < s.cmbSram then s.cmbStore a data
    else (s.spanWrite (data.length + 1) a data).1

/-- CMB_WRITE (R365). -/
def execCmbWrite (p : Fin 2) (off : Nat) (data : List Byte) (s : State) : Host.Outcome State Fault Refusal :=
  done s (fun s => s.cmbWrite p off data)

/-! ### Controller resets (R43, R346) -/

/-- Steps 2 and 3 of R346 for one slot: before its commit point it enters DISCARD; in DONE or ABORTED with its entry not yet
written, it writes none. -/
def State.discardSlot (s : State) (i : Nat) : State :=
  match s.slot? i with
  | none => s
  | some x =>
    if x.st.isOpen then s.commit i .discard none false
    else if x.st = .done ∨ x.st = .aborted then s.setSlot i { x with st := .drain, cpl := none }
    else s

/-- The controller after a reset: its error log and its counts stay (R535). -/
def Ctrl.afterReset (c : Ctrl) : Ctrl :=
  { Ctrl.reset with rdy := c.rdy, errs := c.errs, errCount := c.errCount, anaCount := c.anaCount }

/-- CONTROLLER_RESET: the steps of R346, each as early as its condition allows. -/
def State.ctrlReset (s : State) (fn : Nat) : State :=
  let slots := (s.cmd.slots.filter (fun (e : Nat × Slot) => e.2.fn == fn)).map Prod.fst
  let s1 := slots.foldl State.discardSlot (s.setCtrl fn (s.ctrl fn).afterReset)
  let s2 : State := { s1 with cmd := { s1.cmd with sqs := s1.cmd.sqs.filter (fun (q : Sq) => q.fn != fn)
                                                   cqs := s1.cmd.cqs.filter (fun (q : Cq) => q.fn != fn) } }
  (slots.foldl State.discardEnd s2).resetEnd fn

/-- An FLR of a virtual function, or of a physical function's own part (R43). -/
def State.vfReset (s : State) (fn : Nat) : State := (s.ctrlReset fn).setMsix fn Msix.reset

/-- The number of VFs of a port becomes `n`: each VF that ceases to exist is reset as by an FLR (R361, R367). -/
def State.setVfs (s : State) (p : Fin 2) (n : Nat) : State :=
  let gone := (s.portFns p).filter (fun f => !s.isPf f && decide (n < s.vfNum f) && s.fnExists f)
  (gone.foldl State.vfReset s).setPort p { (gone.foldl State.vfReset s).port p with numVfs := n }

/-- FUNCTION_LEVEL_RESET: as a controller reset, with the function's PCI configuration and MSI-X table; a physical function's
also resets its VFs and zeroes its Controller Memory Buffer (R43, R365, R367). -/
def State.flr (s : State) (fn : Nat) : State :=
  let p := s.fnPort fn
  if s.isPf fn then
    let s1 := (s.setVfs p 0).vfReset fn
    s1.setPort p { s1.port p with zeroing := s1.hasCmb p }
  else s.vfReset fn

/-- CONTROLLER_RESET (R346). -/
def execControllerReset (fn : Fin 64) (s : State) : Host.Outcome State Fault Refusal :=
  done s (fun s => s.when (s.fnExists fn.val && s.linkIsUp (s.fnPort fn.val)) (s.ctrlReset fn.val))

/-- FUNCTION_LEVEL_RESET (R346). -/
def execFunctionLevelReset (fn : Fin 64) (s : State) : Host.Outcome State Fault Refusal :=
  done s (fun s => s.when (s.fnExists fn.val && s.linkIsUp (s.fnPort fn.val)) (s.flr fn.val))

/-- PORT_RESET: the port unit and its link, and every controller of the port as in a controller reset (R43).  The unit's
enable and state stay, so that the link can train again (DEDUCED, log entry 31). -/
def State.portReset (s : State) (p : Fin 2) : State :=
  let u := UnitId.pep p
  let ctl := s.reg u Reg.UNIT_CTL
  let stat := s.reg u Reg.UNIT_STAT
  let s1 := ((s.portFns p).filter s.fnExists).foldl State.vfReset s
  let strap := s.f u F.PEP_STAT_STRAP
  let s2 := (((s1.resetRegs u).setReg u Reg.UNIT_CTL ctl).setReg u Reg.UNIT_STAT stat).setF u F.PEP_STAT_STRAP strap
  (s2.clearLatches u).setPort p { s2.port p with numVfs := 0, ana := [], zeroing := s2.hasCmb p }

/-! ### Links (R358, R359, R367) -/

/-- MAX_WIDTH as taken (R359, R379, R496). -/
def State.maxWidth (s : State) (p : Fin 2) : Nat :=
  let w := s.f (.pep p) F.PEP_CFG_MAX_WIDTH
  let v := if [1, 2, 4, 8, 16].contains w then w else 16
  if s.svcs.chrysalis then 4 else if s.split then min v 8 else v
/-- MAX_SPEED as taken (R379, R496). -/
def State.maxSpeed (s : State) (p : Fin 2) : Nat :=
  let v := s.f (.pep p) F.PEP_CFG_MAX_SPEED
  if s.svcs.chrysalis || v == 0 || decide (4 < v) then 4 else v

/-- LINK_UP (R359). -/
def State.linkUp (s : State) (p : Fin 2) (width speed : Nat) (reversed : Bool) (inv : Word) : State :=
  let u := UnitId.pep p
  if !s.takes u || s.linkIsUp p || (s.port p).perst || !([1, 2, 4, 8, 16].contains width) || speed == 0
      || decide (4 < speed) then s.ignore
  else
    let s1 := ((s.setF u F.PEP_STAT_LINK_UP 1).setF u F.PEP_STAT_WIDTH (min width (s.maxWidth p))).setF u F.PEP_STAT_SPEED
      (min speed (s.maxSpeed p))
    (s1.setF u F.PEP_STAT_REVERSED (bit reversed)).setF u F.PEP_POL_INV (inv.toNat % 2 ^ 16)

/-- LINK_UP (R359). -/
def execLinkUp (p : Fin 2) (width speed : Nat) (reversed : Bool) (inverted : Word) (s : State) :
    Host.Outcome State Fault Refusal :=
  done s (fun s => s.linkUp p width speed reversed inverted)

/-- The class-specific causes of a port (R380). -/
abbrev peLinkDown : Nat := 8
abbrev peUe : Nat := 9
abbrev peCfs : Nat := 10

/-- LINK_DOWN: a port reset, and the cause (R367, R380). -/
def State.linkDown (s : State) (p : Fin 2) : State :=
  s.when (s.linkIsUp p) ((s.portReset p).err (.pep p) peLinkDown)

/-- LINK_DOWN (R367). -/
def execLinkDown (p : Fin 2) (s : State) : Host.Outcome State Fault Refusal := done s (fun s => s.linkDown p)

/-- TotalVFs of a port (R361, R496). -/
def State.totalVfs (s : State) : Nat := if s.svcs.chrysalis then 0 else if s.split then 31 else 63

/-- VF_ENABLE_SET: the covered VF controllers come into existence (R361). -/
def State.vfEnable (s : State) (p : Fin 2) (n : Nat) : State :=
  s.when (s.hasCmb p && s.linkIsUp p && decide ((s.port p).numVfs ≤ n ∧ n ≤ s.totalVfs))
    (s.setPort p { s.port p with numVfs := n })

/-- VF_ENABLE_SET (R361). -/
def execVfEnableSet (p : Fin 2) (num : Nat) (s : State) : Host.Outcome State Fault Refusal := done s (fun s => s.vfEnable p num)

/-- VF_ENABLE_CLEAR (R367). -/
def execVfEnableClear (p : Fin 2) (num : Nat) (s : State) : Host.Outcome State Fault Refusal :=
  done s (fun s => s.when (s.linkIsUp p && decide (num ≤ (s.port p).numVfs)) (s.setVfs p num))

/-! ### Function limits (R363) -/

/-- The default of PEP_FN_CFG (R363). -/
def State.fnCfgDefault (s : State) (fn : Nat) : Word :=
  let v := fun (q n : Nat) => F.PEP_FN_CFG_VEC.put (F.PEP_FN_CFG_QMAX.put 0 q) n
  if s.split then (if s.isPf fn then v 512 64 else v 48 64) else (if s.isPf fn then v 1024 64 else v 48 31)
/-- PEP_FN_CFG of a function (R363). -/
def State.fnCfg (s : State) (fn : Nat) : Word :=
  Sparse.get (fun f => s.fnCfgDefault f) (s.port (s.fnPort fn)).fnCfg fn
/-- QMAX of a function; a Chrysalis controller has no I/O queue (R497). -/
def State.qmax (s : State) (fn : Nat) : Nat := if s.svcs.chrysalis then 0 else F.PEP_FN_CFG_QMAX.get (s.fnCfg fn)
/-- VEC of a function (R363, R496). -/
def State.vec (s : State) (fn : Nat) : Nat := if s.svcs.chrysalis then 1 else F.PEP_FN_CFG_VEC.get (s.fnCfg fn)

/-- The limits of R363 hold on a port: each function's fields in their ranges, and the sum of VEC. -/
def State.portLimitsOk (s : State) (p : Fin 2) : Bool :=
  let fns := s.portFns p
  fns.all (fun f => decide (1 ≤ s.qmax f ∧ s.qmax f ≤ 1024 ∧ 1 ≤ s.vec f ∧ s.vec f ≤ (if s.isPf f then 2048 else 64)))
    && decide ((fns.map s.vec).foldl (· + ·) 0 ≤ 2048)

/-- The sum of QMAX over all functions is within R363. -/
def State.queueSumOk (s : State) : Bool := decide ((((List.range 64).map s.qmax).foldl (· + ·) 0) ≤ 4096)

/-! ### Controllers and queues -/

/-- Controllers may become ready: the device serves, or Chrysalis mode offers its controller (R479, R496). -/
def State.serves (s : State) : Bool := s.on .svc F.SVC_BOOT_CTL_SERVING || s.svcs.chrysalis

/-- CONTROLLER_ENABLE: CC.EN sets and the admin queues exist; CSTS.RDY sets once the device serves (R479).  The controller of
an earlier enable must have left reset. -/
def State.controllerEnable (s : State) (fn asqs acqs : Nat) (cmb : Option Nat) (wrr : Bool) : State :=
  let p := s.fnPort fn
  let c := s.ctrl fn
  if !s.fnExists fn || !s.linkIsUp p || c.en || decide (asqs < 2) || decide (acqs < 2) then s.ignore
  else if c.rdy then s.wait
  else if cmb.isSome && !(s.isPf fn && s.hasCmb p) then s.ignore
  else
    let sq : Sq := ⟨fn, 0, 0, asqs, cmb.isSome, false, 0, 0, 0, 0, (match cmb with | some o => s.cmbAddr p o | none => 0), [], false⟩
    let cq : Cq := ⟨fn, 0, acqs, some 0, 0, true⟩
    let s1 := s.setCtrl fn { c with en := true, rdy := s.serves, wrr := wrr, shn := 0 }
    { s1 with cmd := { s1.cmd with sqs := s1.cmd.sqs ++ [sq], cqs := s1.cmd.cqs ++ [cq] } }

/-- CONTROLLER_ENABLE (R479). -/
def execControllerEnable (fn : Fin 64) (asqs acqs : Nat) (cmb : Option Nat) (wrr : Bool) (s : State) :
    Host.Outcome State Fault Refusal :=
  done s (fun s => s.controllerEnable fn.val asqs acqs cmb wrr)

/-- The device has begun to serve: every enabled controller becomes ready (R479). -/
def State.readyAll (s : State) : State :=
  (List.range 64).foldl (fun t f => if (t.ctrl f).en && t.fnExists f then t.setCtrl f { t.ctrl f with rdy := true } else t) s

/-- An I/O queue identifier that the controller may use where `n` queues of its kind are granted (R363); before a Set Features of
Number of Queues, up to QMAX. -/
def State.queueIdOk (s : State) (fn n q : Nat) : Bool :=
  decide (0 < q ∧ q ≤ (if n = 0 then s.qmax fn else n))

/-- CREATE_IO_COMPLETION_QUEUE (R366); queues are physically contiguous (R327). -/
def State.createCq (s : State) (fn cqid size : Nat) (pc : Bool) (vector : Option Nat) : State :=
  if s.svcs.chrysalis then s.answer (.status .invalidOpcode)
  else if !s.queueIdOk fn (s.ctrl fn).ncq cqid || (s.compq? fn cqid).isSome then s.answer (.status .invalidQueueId)
  else if size < 2 ∨ 65536 < size then s.answer (.status .invalidQueueSize)
  else if !pc then s.answer (.status .invalidField)
  else if (match vector with | some v => decide (s.vec fn ≤ v) | none => false) then s.answer (.status .invalidVector)
  else ({ s with cmd := { s.cmd with cqs := s.cmd.cqs ++ [⟨fn, cqid, size, vector, 0, true⟩] } } : State).answer
    (.status .success)

/-- CREATE_IO_COMPLETION_QUEUE (R366). -/
def execCreateIoCompletionQueue (fn : Fin 64) (cqid size : Nat) (pc : Bool) (vector : Option Nat) (s : State) :
    Host.Outcome State Fault Refusal :=
  done s (fun s => s.admin fn.val (s.createCq fn.val cqid size pc vector))

/-- CREATE_IO_SUBMISSION_QUEUE: unordered, in host memory or in the Controller Memory Buffer (R327, R328, R351). -/
def State.createSq (s : State) (fn sqid cqid size : Nat) (pc : Bool) (prio : Nat) (cmb : Option Nat) : State :=
  let p := s.fnPort fn
  if s.svcs.chrysalis then s.answer (.status .invalidOpcode)
  else if !s.queueIdOk fn (s.ctrl fn).nq sqid || (s.subq? fn sqid).isSome then s.answer (.status .invalidQueueId)
  else if cqid = 0 ∨ (s.compq? fn cqid).isNone then s.answer (.status .cqInvalid)
  else if size < 2 ∨ 65536 < size then s.answer (.status .invalidQueueSize)
  else if !pc || (match cmb with | some o => !(s.isPf fn && s.hasCmb p) || decide (cmbSize < o + 64 * size) | none => false)
    then s.answer (.status .invalidField)
  else
    let base := match cmb with | some o => s.cmbAddr p o | none => 0
    let q : Sq := ⟨fn, sqid, cqid, size, cmb.isSome, false, prio, 0, 0, 0, base, [], false⟩
    ({ s with cmd := { s.cmd with sqs := s.cmd.sqs ++ [q] } } : State).answer (.status .success)

/-- CREATE_IO_SUBMISSION_QUEUE (R351). -/
def execCreateIoSubmissionQueue (fn : Fin 64) (sqid cqid size : Nat) (pc : Bool) (prio : Fin 4) (cmb : Option Nat)
    (s : State) : Host.Outcome State Fault Refusal :=
  done s (fun s => s.admin fn.val (s.createSq fn.val sqid cqid size pc prio.val cmb))

/-- DELETE_IO_SUBMISSION_QUEUE: commands taken from it that have not reached their commit point end with Command Aborted due
to SQ Deletion; the queue goes with its ordering mode (R351). -/
def State.deleteSq (s : State) (fn sqid : Nat) : State :=
  if sqid = 0 ∨ (s.subq? fn sqid).isNone then s.answer (.status .invalidQueueId)
  else if s.cmd.stopped then s.wait
  else
    let slots := s.cmd.slots.filter (fun (e : Nat × Slot) => e.2.fn == fn && e.2.sqid == sqid && e.2.st.isOpen)
    let s1 := slots.foldl (fun t (e : Nat × Slot) =>
      t.commit e.1 .aborted (some (Cpl.ofStatus .abortedBySqDeletion)) false) s
    ({ s1 with cmd := { s1.cmd with sqs := s1.cmd.sqs.filter (fun (q : Sq) => !(q.fn == fn && q.sqid == sqid)) } } : State).answer
      (.status .success)

/-- DELETE_IO_SUBMISSION_QUEUE (R351). -/
def execDeleteIoSubmissionQueue (fn : Fin 64) (sqid : Nat) (s : State) : Host.Outcome State Fault Refusal :=
  done s (fun s => s.admin fn.val (s.deleteSq fn.val sqid))

/-! ### Interrupts and features (R311, R363, R366) -/

/-- AGGREGATION_TIME_EXPIRY: the message held back goes out (R366). -/
def State.aggExpiry (s : State) (fn v : Nat) : State :=
  match Sparse.find? (s.ctrl fn).agg v with
  | none => s.ignore
  | some _ => (s.setCtrl fn { s.ctrl fn with agg := Sparse.erase (s.ctrl fn).agg v }).sendMsix fn v

/-- AGGREGATION_TIME_EXPIRY (R366). -/
def execAggregationTimeExpiry (fn : Fin 64) (vector : Nat) (s : State) : Host.Outcome State Fault Refusal :=
  done s (fun s => s.aggExpiry fn.val vector)

/-- SET_VOLATILE_WRITE_CACHE: a disable completes once every dirty granule is on media; with a vault no volatile cache is
reported, and the feature names no cache (R311). -/
def State.setCache (s : State) (fn : Nat) (on : Bool) : State :=
  if s.svcs.chrysalis then s.answer (.status .invalidOpcode)
  else if s.vaultFitted then s.answer (.status .invalidField)
  else
    let s1 := s.setCtrl fn { s.ctrl fn with wce := on }
    if on || s.dirtyGranules == 0 then s1.answer (.status .success) else s1.wait

/-- SET_VOLATILE_WRITE_CACHE (R311). -/
def execSetVolatileWriteCache (fn : Fin 64) (on : Bool) (s : State) : Host.Outcome State Fault Refusal :=
  done s (fun s => s.admin fn.val (s.setCache fn.val on))

/-- SET_NUMBER_OF_QUEUES: each kind is granted the smaller of the number requested and QMAX; the answer is dword 0, 0's
based (R363). -/
def State.setQueues (s : State) (fn nsq ncq : Nat) : State :=
  if s.svcs.chrysalis then s.answer (.status .invalidOpcode)
  else if 65535 ≤ nsq ∨ 65535 ≤ ncq then s.answer (.status .invalidField)
  else
    let a := min (nsq + 1) (s.qmax fn)
    let b := min (ncq + 1) (s.qmax fn)
    (s.setCtrl fn { s.ctrl fn with nq := a, ncq := b }).answer (.value (BitVec.ofNat 32 ((b - 1) * 2 ^ 16 + (a - 1))))

/-- SET_NUMBER_OF_QUEUES (R363). -/
def execSetNumberOfQueues (fn : Fin 64) (nsq ncq : Nat) (s : State) : Host.Outcome State Fault Refusal :=
  done s (fun s => s.admin fn.val (s.setQueues fn.val nsq ncq))

/-- SET_INTERRUPT_COALESCING (R366). -/
def State.setCoalescing (s : State) (fn : Nat) (v : Word) : State :=
  if s.svcs.chrysalis then s.answer (.status .invalidOpcode)
  else (s.setCtrl fn { s.ctrl fn with coal := v &&& 0xFFFF }).answer (.status .success)

/-- SET_INTERRUPT_COALESCING (R366). -/
def execSetInterruptCoalescing (fn : Fin 64) (cdw11 : Word) (s : State) : Host.Outcome State Fault Refusal :=
  done s (fun s => s.admin fn.val (s.setCoalescing fn.val cdw11))

/-- ASYNC_EVENT_REQUEST: outstanding until an event is there for it (R536). -/
def State.aer (s : State) (fn cid : Nat) : State :=
  if s.svcs.chrysalis then s.answer (.status .invalidOpcode)
  else (s.setCtrl fn { s.ctrl fn with aers := (s.ctrl fn).aers ++ [cid] }).deliverEvents fn

/-- ASYNC_EVENT_REQUEST (R536). -/
def execAsyncEventRequest (fn : Fin 64) (cid : Nat) (s : State) : Host.Outcome State Fault Refusal :=
  done s (fun s => s.admin fn.val (s.aer fn.val cid))

/-! ### Host read failures (R368, R538) -/

/-- A non-fatal error is reported through AER: it counts, and UE sets (R538). -/
def State.pcieUe (s : State) (p : Fin 2) : State := (s.count64 (.pep p) Reg.PEP_CNT_UE_LO).err (.pep p) peUe

/-- The controller sets CSTS.CFS, takes no further command, and waits for a controller reset (R368). -/
def State.setCfs (s : State) (p : Fin 2) (fn : Nat) : State :=
  ((s.setCtrl fn { s.ctrl fn with cfs := true }).err (.pep p) peCfs).healthChange 1

/-- HOST_READ_FAIL: the failed request is repeated once; the outcome is R368's. -/
def State.hostReadFail (s : State) (p : Fin 2) (fn : Nat) (what : HostRead) (again : Bool) : State :=
  let u := UnitId.pep p
  if s.fnPort fn != p || !s.ctrlServes fn then s.ignore
  else if again then (s.transient u).pcieUe p
  else
    let s1 := (s.lasting u).pcieUe p
    match what with
    | .data i =>
      match s.slot? i with
      | some x => if x.fn = fn ∧ x.st.isOpen then s1.complete i .dataTransferError else s.ignore
      | none => s.ignore
    | .queue q => if (s.subq? fn q).isSome then s1.setCfs p fn else s.ignore
    | .list i =>
      match s.slot? i with
      | some x => if x.fn = fn ∧ x.st.isOpen then s1.setCfs p fn else s.ignore
      | none => s.ignore

/-- HOST_READ_FAIL (R368). -/
def execHostReadFail (p : Fin 2) (fn : Fin 64) (what : HostRead) (again : Bool) (s : State) :
    Host.Outcome State Fault Refusal :=
  done s (fun s => s.hostReadFail p fn.val what again)

/-- POISONED_WRITE_RECEIVED: discarded and reported (R368, R538). -/
def execPoisonedWriteReceived (p : Fin 2) (s : State) : Host.Outcome State Fault Refusal :=
  done s (fun s => s.when (s.linkIsUp p) (s.pcieUe p))

/-! ### Asymmetric namespace access (R371, R372) -/

/-- The states that a write of PEP_ANA_DATA may give (R372, R379). -/
def anaStates : List Nat := [1, 2, 3, 15]

/-- ANA_STATE_WRITE: the group's state on the port, the change counts and the events (R372). -/
def State.anaWrite (s : State) (p : Fin 2) (v : Word) : State :=
  let st := F.PEP_ANA_DATA_STATE.get v
  if !anaStates.contains st then s.err (.pep p) eConfig
  else
    let g := s.f (.pep p) F.PEP_ANA_IDX_GROUP
    let s1 := s.setPort p { s.port p with ana := Sparse.set (fun _ => 1) (s.port p).ana g st }
    let fns := (s1.portFns p).filter s1.fnExists
    let s2 := fns.foldl (fun t f => t.setCtrl f { t.ctrl f with anaCount := (t.ctrl f).anaCount + 1 }) s1
    (fns.filter s2.ctrlServes).foldl (fun t f => t.raise f ⟨2, 3, 0x0C⟩) s2

/-- ANA_STATE_WRITE (R372). -/
def execAnaStateWrite (eng : Engine) (p : Fin 2) (v : Word) (s : State) : Host.Outcome State Fault Refusal :=
  done s (fun s => s.access eng .store (.pep p) Reg.PEP_ANA_DATA none (s.anaWrite p v))

/-! ### Life counters (R545 to R547) and shutdown -/

/-- The life counters with a source register, by number: the loads and the hardware retracts of the lanes, spindle
revolutions, starts and ride-throughs, vault saves, activations, reverts, throttled time (R545). -/
def lifeSources : List (Nat × (UnitId × Nat)) :=
  lanes4.map (fun n => (16 + n.val, (UnitId.srv n, Reg.SRV_CNT_LOAD_LO)))
    ++ lanes4.map (fun n => (20 + n.val, (UnitId.srv n, Reg.SRV_CNT_RETRACT_LO)))
    ++ [(24, (.spn, Reg.SPN_CNT_REV_LO)), (25, (.spn, Reg.SPN_CNT_START_LO)), (26, (.spn, Reg.SPN_CNT_PLOSS_LO)),
        (27, (.svc, Reg.SVC_VLT_CNT_SAVE_LO)), (28, (.svc, Reg.SVC_FW_CNT_ACT_LO)), (29, (.svc, Reg.SVC_FW_CNT_REV_LO)),
        (30, (.hkp, Reg.HKP_CNT_THR_MS_LO))]

/-- The numbers of the life counters that no register feeds: power-on seconds, power cycles, unsafe shutdowns. -/
abbrev lifePon : Nat := 0
abbrev lifeCycles : Nat := 1
abbrev lifeUnsafe : Nat := 2

/-- A life counter: as persisted, and what its register has counted since (R546). -/
def State.life (s : State) (k : Nat) : Nat :=
  let base := Sparse.get (fun _ => 0) s.hosts.life k + Sparse.get (fun _ => 0) s.hosts.counts k
  match lifeSources.find? (fun (e : Nat × (UnitId × Nat)) => e.1 == k) with
  | none => base
  | some e => base + (s.reg64 e.2.1 e.2.2 - Sparse.get (fun _ => 0) s.hosts.lifeRead k)

/-- Assist life counters of the heads, in DSP cycles or rises (R218, R545). -/
def lifeHead (h c : Nat) : Nat := 64 + 4 * h + c

/-- The life counters are persisted (R547): for every source register, its increase since the last reading is added; the
counters of R218 are read and cleared (R546). -/
def State.lifePersist (s : State) : State :=
  let regs := lifeSources.foldl (fun (l : List (Nat × Nat)) (e : Nat × (UnitId × Nat)) =>
    Sparse.set (fun _ => 0) l e.1 (s.life e.1))
    (s.hosts.counts.foldl (fun (l : List (Nat × Nat)) (e : Nat × Nat) => Sparse.set (fun _ => 0) l e.1 (s.life e.1)) s.hosts.life)
  let read := lifeSources.foldl (fun (l : List (Nat × Nat)) (e : Nat × (UnitId × Nat)) =>
    Sparse.set (fun _ => 0) l e.1 (s.reg64 e.2.1 e.2.2)) s.hosts.lifeRead
  let heads := lanes4.foldl (fun (l : List (Nat × Nat)) n =>
    ((s.at n).life.foldl (fun (l : List (Nat × Nat)) (e : Nat × Nat) =>
      let k := lifeHead (12 * n.val + e.1 / 4) (e.1 % 4)
      Sparse.set (fun _ => 0) l k (Sparse.get (fun _ => 0) l k + e.2)) l)) regs
  let pon := max (Sparse.get (fun _ => 0) heads lifePon) (s.reg64 .hkp Reg.HKP_PON_LO)
  let s1 : State := { s with hosts := { s.hosts with
    life := Sparse.set (fun _ => 0) heads lifePon pon
    lifeRead := read
    counts := [] } }
  lanes4.foldl (fun t n => t.setAt n { t.at n with life := [] }) s1

/-- SHUTDOWN_NOTIFICATION: the state is persisted and the notification completes; without a vault, dirty granules are on
media before it does (R303, R547). -/
def State.shutdownNotify (s : State) (fn : Nat) : State :=
  let c := s.ctrl fn
  if !s.fnExists fn || !c.en || c.shn == 2 then s.ignore
  else if !s.vaultFitted && s.dirtyGranules != 0 then (s.setCtrl fn { c with shn := 1 }).wait
  else
    let s1 := s.lifePersist
    ({ s1 with hosts := { s1.hosts with clean := true } } : State).setCtrl fn { s1.ctrl fn with shn := 2 }

/-- SHUTDOWN_NOTIFICATION (R547). -/
def execShutdownNotification (fn : Fin 64) (s : State) : Host.Outcome State Fault Refusal :=
  done s (fun s => s.shutdownNotify fn.val)

end Sys2Proof.Machine
end

