-- ==== Sys2Proof/Machine/Pools.lean ====
section
/-! DEFINITION. Core pools: mailboxes (R393), the interrupt router (R388 to R392), caches and their maintenance (R394 to
R410), core faults (R384 to R387). -/

namespace Sys2Proof.Machine

/-- Pool `p`. -/
def State.pl (s : State) (p : Fin 2) : Pool := s.pools[p]
/-- The state with pool `p` replaced. -/
def State.setPl (s : State) (p : Fin 2) (x : Pool) : State := { s with pools := s.pools.set p x }
/-- The 16 cores. -/
def cores : List (Fin 16) := [0, 1, 2, 3, 4, 5, 6, 7, 8, 9, 10, 11, 12, 13, 14, 15]
/-- The cores of a pool. -/
def coresOf (p : Fin 2) : List (Fin 16) := cores.filter (fun c => poolOf c == p)
/-- An application core or the service core. -/
def engMain : Engine → Bool
  | .core _ => true | .service => true | _ => false
/-- An application core. -/
def engCore : Engine → Bool
  | .core _ => true | _ => false

/-- The class-specific causes of a pool (R413). -/
abbrev pcParDirty : Nat := 9
abbrev pcWbFlt : Nat := 10
abbrev pcLockout : Nat := 11
abbrev pcMbxDrop : Nat := 12

/-! ### Mailboxes (R393) -/

/-- The sender number of an engine (R412; DESIGN CHOICE, log entry 24). -/
def senderNum : Engine → Nat
  | .core c => c.val | .service => 16 | .enclave => 17 | .housekeeping => 18
  | e => Config.sender (engNum e) % 128

/-- Entries held or reserved. -/
def Pool.used (x : Pool) : Nat := x.fifo.length + x.reserved.length

/-- MBX_RESERVE: an entry is reserved for the reader, who holds at most one. -/
def State.mbxReserve (s : State) (p : Fin 2) (e : Nat) : State × Bool :=
  let x := s.pl p
  if x.reserved.contains e then (s, true)
  else if x.used < 64 then (s.setPl p { x with reserved := x.reserved ++ [e] }, true)
  else (s, false)

/-- MBX_RESERVE (R393). -/
def execMbxReserve (eng : Engine) (p : Fin 2) (s : State) : Host.Outcome State Fault Refusal :=
  done s (fun s => s.access eng .load (.pool p) Reg.POOL_MBX_RSV none
    ((s.mbxReserve p (engNum eng)).1.answer (.value (BitVec.ofNat 32 (bit (s.mbxReserve p (engNum eng)).2)))))

/-- MBX_LO_WRITE (R393). -/
def execMbxLoWrite (eng : Engine) (p : Fin 2) (v : Word) (s : State) : Host.Outcome State Fault Refusal :=
  done s (fun s => s.access eng .store (.pool p) Reg.POOL_MBX_LO none
    (s.setPl p { s.pl p with low := Sparse.insert (s.pl p).low (engNum eng) v }))

/-- A message is pushed: it consumes the sender's reservation, or uses a free entry, or is discarded (R393). -/
def State.mbxPush (s : State) (p : Fin 2) (e : Nat) (m : Message) : State :=
  let x := s.pl p
  if x.reserved.contains e then s.setPl p { x with reserved := x.reserved.filter (· != e), fifo := x.fifo ++ [m] }
  else if x.used < 64 then s.setPl p { x with fifo := x.fifo ++ [m] }
  else
    let d := s.f (.pool p) F.POOL_MBX_STAT_DROPS
    (s.err (.pool p) pcMbxDrop).setF (.pool p) F.POOL_MBX_STAT_DROPS (min (d + 1) 0xFFFF)

/-- MBX_PUSH (R393). -/
def execMbxPush (eng : Engine) (p : Fin 2) (v : Word) (s : State) : Host.Outcome State Fault Refusal :=
  done s (fun s => s.access eng .store (.pool p) Reg.POOL_MBX_HI none
    (s.mbxPush p (engNum eng) ⟨(Sparse.find? (s.pl p).low (engNum eng)).getD 0, v, senderNum eng⟩))

/-- MBX_POP: the oldest entry is removed, its high word and its sender latched (R4, R393). -/
def State.mbxPop (s : State) (e : Engine) (p : Fin 2) : State :=
  match (s.pl p).fifo with
  | [] => (s.setLatch (.pool p) e Reg.POOL_MBX_POP_LO 0).answer (.value 0)
  | m :: t =>
    let s1 := (s.setPl p { s.pl p with fifo := t }).setF (.pool p) F.POOL_MBX_STAT_SENDER m.sender
    (s1.setLatch (.pool p) e Reg.POOL_MBX_POP_LO m.hi).answer (.value m.lo)

/-- MBX_POP (R393). -/
def execMbxPop (eng : Engine) (p : Fin 2) (s : State) : Host.Outcome State Fault Refusal :=
  done s (fun s => s.access eng .load (.pool p) Reg.POOL_MBX_POP_LO none (s.mbxPop eng p))

/-- A reservation is cancelled (R393). -/
def State.mbxCancel (s : State) (p : Fin 2) (e : Nat) : State :=
  s.setPl p { s.pl p with reserved := (s.pl p).reserved.filter (· != e) }

/-- The engines of a unit, by number. -/
def unitEngines (u : UnitId) : List Nat :=
  match u with
  | .pool p => (List.range 8).map (8 * p.val + ·)
  | .srv n => [16 + n.val] | .tsq n => [20 + n.val] | .ast n => [24 + n.val]
  | .spn => [28] | .hkp => [29] | .hzl => [30] | .svc => [31]
  | _ => []

/-- The reservations of a unit's engines are cancelled: their holders are reset (R393). -/
def State.mbxDrop (s : State) (u : UnitId) : State :=
  (unitEngines u).foldl (fun t e => pair.foldl (fun x p => x.mbxCancel p e) t) s

/-- MBX_RESERVATION_TIMEOUT (R393). -/
def execMbxReservationTimeout (eng : Engine) (p : Fin 2) (s : State) : Host.Outcome State Fault Refusal :=
  done s (fun s => s.when ((s.pl p).reserved.contains (engNum eng)) (s.mbxCancel p (engNum eng)))

/-! ### The interrupt router (R388 to R392) -/

/-- A source of the table (R388). -/
def irqSource (n : Nat) : Bool :=
  decide (n ≤ 0x1A) || decide (0x20 ≤ n ∧ n ≤ 0x28) || decide (0x2C ≤ n ∧ n ≤ 0x33) || n == 0x38 || n == 0x39
    || decide (0x40 ≤ n ∧ n ≤ 0x4F)

/-- The leaf unit of an error source. -/
def irqUnit (n : Nat) : Option UnitId :=
  let l := lanes4.getD (n % 4) 0
  if n < 0x04 then some (.chn l) else if n < 0x08 then some (.tsq l) else if n < 0x0C then some (.srv l)
  else if n < 0x10 then some (.ast l)
  else if n = 0x10 then some .spn else if n = 0x11 then some .buf else if n = 0x12 then some .cmd
  else if n = 0x13 then some (.pep 0) else if n = 0x14 then some (.pep 1)
  else if n = 0x15 then some (.pool 0) else if n = 0x16 then some (.pool 1)
  else if n = 0x17 then some .hzl else if n = 0x18 then some .hkp else if n = 0x19 then some .svc
  else none

/-- The source's condition holds (R388). -/
def State.irqActive (s : State) (n : Nat) : Bool :=
  match irqUnit n with
  | some u => s.ownErr u != 0 || (u == .spn && s.spn.speedLost)
  | none =>
    let l := lanes4.getD (n % 4) 0
    if n = 0x1A then units.any (fun u => u.isGroup && s.ownErr u &&& 0xFF00 != 0)
    else if 0x20 ≤ n ∧ n ≤ 0x23 then !(s.rq l).empty
    else if n = 0x24 then !(s.workRing 0).empty
    else if n = 0x25 then !(s.workRing 1).empty
    else if n = 0x26 then s.buf.notices != []
    else if n = 0x27 then s.on .buf F.BUF_RANGE_STAT_DONE
    else if n = 0x28 then s.buf.events != []
    else if 0x2C ≤ n ∧ n ≤ 0x2F then (s.ch l).sync != []
    else if n = 0x30 then s.on .dev F.DEV_CLK_STAT_HOLDOVER
    else if n = 0x31 then s.on .hkp F.HKP_IN_STAT_PFAIL_LATCH
    else if n = 0x32 then s.on .spn F.SPN_STAT_HOLDUP_LOW
    else if n = 0x33 then s.on .hkp F.HKP_THR_STAT_CHG
    else if n = 0x38 then (s.pl 0).fifo != []
    else if n = 0x39 then (s.pl 1).fifo != []
    else if 0x40 ≤ n ∧ n ≤ 0x4F then (s.reg .dev Reg.DEV_IRQ_SWI).getLsbD (n - 0x40)
    else false

/-- DEV_IRQ_ROUTE of a source. -/
def State.route (s : State) (n : Nat) : Word := Sparse.get (fun _ => 0) s.irq.route n
/-- A source in service. -/
def State.inService (s : State) (n : Nat) : Bool := (Sparse.find? s.irq.service n).isSome
/-- The threshold of a target; the service core has no threshold register. -/
def State.irqThr (s : State) (t : Nat) : Nat :=
  match cores.find? (fun c => c.val == t) with
  | some c => s.cf c F.POOL_Cc_IRQ_THR_THR
  | none => 0
/-- A source is deliverable to target `t` (R389). -/
def State.deliverable (s : State) (n t : Nat) : Bool :=
  let r := s.route n
  irqSource n && s.irqActive n && F.DEV_IRQ_ROUTE_EN.get r == 1 && F.DEV_IRQ_ROUTE_TARGET.get r == t
    && F.DEV_IRQ_ROUTE_PRIO.get r != 0 && decide (s.irqThr t < F.DEV_IRQ_ROUTE_PRIO.get r) && !s.inService n

/-- The core executes instructions: its pool runs, and it is neither held nor stopped (R386, R408). -/
def State.coreRuns (s : State) (c : Fin 16) : Bool :=
  let u := UnitId.pool (poolOf c)
  s.live u && !(s.reg u Reg.POOL_CTL).getLsbD (c.val % 8) && (s.cf c F.POOL_Cc_STAT_RUN == 1 || s.cf c F.POOL_Cc_STAT_RUN == 2)

/-- IRQ_DELIVER: the source reaches its target, or is withdrawn where it is no longer deliverable; one routed to a core that
is held, or whose pool is in reset or off, stays pending (R389, R391).  A core in wait-for-interrupt runs again. -/
def State.irqDeliver (s : State) (n : Nat) : State :=
  let t := F.DEV_IRQ_ROUTE_TARGET.get (s.route n)
  if !s.deliverable n t then { s with irq := { s.irq with delivered := Sparse.erase s.irq.delivered n } }
  else if (Sparse.find? s.irq.delivered n).isSome then s.ignore
  else
    let put := fun (x : State) => { x with irq := { x.irq with delivered := Sparse.insert x.irq.delivered n t } }
    match cores.find? (fun c => c.val == t) with
    | some c =>
      if s.coreRuns c then put (if s.cf c F.POOL_Cc_STAT_RUN = 2 then s.setCf c F.POOL_Cc_STAT_RUN 1 else s) else s.wait
    | none => put s

/-- IRQ_DELIVER (R389). -/
def execIrqDeliver (src : Fin 128) (s : State) : Host.Outcome State Fault Refusal := done s (fun s => s.irqDeliver src.val)

/-- The deliverable source of highest priority of a target, the lowest number on a tie (R390). -/
def State.bestIrq (s : State) (t : Nat) : Option Nat :=
  ((List.range 0x50).filter (fun n => s.deliverable n t)).foldl
    (fun (a : Option Nat) n =>
      match a with
      | none => some n
      | some m =>
        if F.DEV_IRQ_ROUTE_PRIO.get (s.route m) < F.DEV_IRQ_ROUTE_PRIO.get (s.route n) then some n else some m)
    none

/-- IRQ_CLAIM (R390). -/
def State.irqClaim (s : State) (t : Nat) : State :=
  match s.bestIrq t with
  | none => s.answer (.value 0)
  | some n =>
    ({ s with irq := { s.irq with service := Sparse.insert s.irq.service n t,
                                  delivered := Sparse.erase s.irq.delivered n } } : State).answer
      (.value (BitVec.ofNat 32 (2 ^ 31 + n)))

/-- IRQ_CLAIM (R390). -/
def execIrqClaim (eng : Engine) (c : Fin 16) (s : State) : Host.Outcome State Fault Refusal :=
  done s (fun s => s.access eng .load (.pool (poolOf c)) (Reg.POOL_Cc_IRQ_CLAIM + coreOff c) none (s.irqClaim c.val))

/-- IRQ_EOI: service ends when the core that claimed the source writes its number; any other write is ignored (R390). -/
def State.irqEoi (s : State) (e : Engine) (c : Fin 16) (v : Word) : State :=
  let n := F.POOL_Cc_IRQ_EOI_SOURCE.get v
  if e = .core c ∧ Sparse.find? s.irq.service n = some c.val then
    { s with irq := { s.irq with service := Sparse.erase s.irq.service n } }
  else s

/-- IRQ_EOI (R390). -/
def execIrqEoi (eng : Engine) (c : Fin 16) (v : Word) (s : State) : Host.Outcome State Fault Refusal :=
  done s (fun s => s.access eng .store (.pool (poolOf c)) (Reg.POOL_Cc_IRQ_EOI + coreOff c) none (s.irqEoi eng c v))

/-- The router's registers are written by application cores and the service core (R392, R414). -/
def irqGate (e : Engine) : Option BusCause := if engMain e then none else some .accessDenied

/-- IRQ_ROUTE_WRITE: a source delivered but not claimed is withdrawn (R391); a target of 17 to 31 makes the write void
(R389; DESIGN CHOICE, log entry 32). -/
def State.irqRoute (s : State) (v : Word) : State :=
  let n := s.f .dev F.DEV_IRQ_IDX_SOURCE
  if !irqSource n then s
  else if 17 ≤ F.DEV_IRQ_ROUTE_TARGET.get v then s.err .dev eConfig
  else
    let w := v &&& 0x80000F1F
    { s with irq := { s.irq with route := Sparse.set (fun _ => 0) s.irq.route n w,
                                 delivered := Sparse.erase s.irq.delivered n } }

/-- IRQ_ROUTE_WRITE (R391). -/
def execIrqRouteWrite (eng : Engine) (v : Word) (s : State) : Host.Outcome State Fault Refusal :=
  done s (fun s => s.access eng .store .dev Reg.DEV_IRQ_ROUTE (irqGate eng) (s.irqRoute v))

/-- IRQ_SWI (R392). -/
def execIrqSwi (eng : Engine) (v : Word) (s : State) : Host.Outcome State Fault Refusal :=
  done s (fun s => s.access eng .store .dev Reg.DEV_IRQ_SWI (irqGate eng) (s.setBits .dev Reg.DEV_IRQ_SWI (v &&& 0xFFFF)))

/-- IRQ_SWC (R392). -/
def execIrqSwc (eng : Engine) (v : Word) (s : State) : Host.Outcome State Fault Refusal :=
  done s (fun s => s.access eng .store .dev Reg.DEV_IRQ_SWC (irqGate eng) (s.clrBits .dev Reg.DEV_IRQ_SWI (v &&& 0xFFFF)))

/-! ### Cache lines (R394, R395) -/

/-- The set of a line in a cache (R394). -/
def CacheId.setOf : CacheId → Nat → Nat
  | .l1i _, l => l % 128 | .l1d _, l => l % 128 | .victim _, _ => 0 | .l2 _, l => l % 2048

/-- The line that a cache holds. -/
def State.cl? (s : State) (k : CacheId) (l : Nat) : Option CLine := s.lines.find? (fun x => x.cache == k && x.line == l)
/-- The line in a way of a set. -/
def State.clAt? (s : State) (k : CacheId) (set way : Nat) : Option CLine :=
  s.lines.find? (fun x => x.cache == k && k.setOf x.line == set && x.way == way)
/-- Lines that a condition picks are gone from the caches. -/
def State.dropLines (s : State) (p : CLine → Bool) : State := { s with lines := s.lines.filter (fun x => !p x) }
/-- The lines are replaced one by one. -/
def State.mapLines (s : State) (f : CLine → CLine) : State := { s with lines := s.lines.map f }

/-- A line that holds the newest bytes (R395). -/
def CLine.live (x : CLine) : Bool := x.dirty && !x.cache.isI

/-- The dirty line is written to memory, poisoned if its bytes are bad (R398), and is clean. -/
def State.lineBack (s : State) (x : CLine) : State :=
  let a := 64 * x.line
  let dram := decide (dramBase ≤ a)
  let l := (a - dramBase) / 64
  let s1 :=
    if x.bad then
      (if dram then s.poisonLine l
       else { s with buf := { s.buf with sramBad := ((List.range 64).map (a + ·)).foldl addOnce s.buf.sramBad } })
    else if dram then s.lineWritten l
    else s.sramWritten a 64
  s1.mapLines (fun y => if y.cache = x.cache ∧ y.line = x.line then { y with dirty := false, bad := false, data := [] } else y)

/-- The dirty line is discarded: memory is what it was (R402, R405). -/
def State.lineLost (s : State) (x : CLine) : State :=
  if !x.live then s
  else
    { s with mem := (x.data.zipIdx).foldl (fun m (b : Byte × Nat) => Sparse.set memReset m (64 * x.line + b.2) b.1) s.mem }

/-- Every dirty line that a condition picks is written to memory. -/
def State.cleanLines (s : State) (p : CLine → Bool) : State := (s.lines.filter (fun x => p x && x.live)).foldl State.lineBack s

/-- Every line that a condition picks is discarded. -/
def State.loseLines (s : State) (p : CLine → Bool) : State :=
  ((s.lines.filter (fun x => p x && x.live)).foldl State.lineLost s).dropLines p

/-- A line of the coherent caches of a pool. -/
def CLine.inPool (x : CLine) (p : Fin 2) : Bool := !x.cache.isI && x.cache.pool == p
/-- A line of a core's L1D or victim cache. -/
def CLine.inL1 (x : CLine) (c : Fin 16) : Bool := x.cache == .l1d c.val || x.cache == .victim c.val
/-- A line of a core's L1I. -/
def CLine.inL1i (x : CLine) (c : Fin 16) : Bool := x.cache == .l1i c.val

/-! ### Maintenance by address, and by set and way (R402) -/

/-- A maintenance operation by address: clean, discard and invalidate, over the coherent caches of both pools. -/
def State.dcAddr (s : State) (addr : Nat) (clean inval : Bool) : State :=
  let l := addr / 64
  let p := fun (x : CLine) => !x.cache.isI && x.line == l
  if !inval then s.cleanLines p
  else if clean then (s.cleanLines p).dropLines p
  else s.loseLines p

/-- The lines that a set-and-way operation names (R402).  Level 1, set 0: ways 0 to 7 name the victim lines, and ways 0 to 3
also the L1D's set 0 (DEDUCED, log entry 33).  Level 2 takes the copies above it, by inclusion. -/
def State.swPick (s : State) (c : Fin 16) (level set way : Nat) : CLine → Bool :=
  if level = 1 then
    (fun x => (x.cache == .l1d c.val && x.line % 128 == set && x.way == way)
      || (x.cache == .victim c.val && set == 0 && x.way == way))
  else
    match s.clAt? (.l2 (poolOf c).val) set way with
    | none => fun _ => false
    | some y => fun x => x.inPool (poolOf c) && x.line == y.line

/-- A set-and-way operation. -/
def State.dcSw (s : State) (c : Fin 16) (level set way : Nat) (clean inval : Bool) : State :=
  let p := s.swPick c level set way
  if !inval then s.cleanLines p
  else if clean then (s.cleanLines p).dropLines p
  else s.loseLines p

/-- DC.I and DC.ISW need the higher privilege level (R402). -/
def State.maint (s : State) (c : Fin 16) (high : Bool) (addr : Nat) (t : State) : State :=
  if !s.coreRuns c then s.ignore
  else if high then t
  else s.coreFault c fkMaint .accessDenied addr

/-- DC_C (R402). -/
def execDcC (c : Fin 16) (addr : Nat) (s : State) : Host.Outcome State Fault Refusal :=
  done s (fun s => s.maint c true addr (s.dcAddr addr true false))
/-- DC_CI (R402). -/
def execDcCi (c : Fin 16) (addr : Nat) (s : State) : Host.Outcome State Fault Refusal :=
  done s (fun s => s.maint c true addr (s.dcAddr addr true true))
/-- DC_I (R402). -/
def execDcI (c : Fin 16) (high : Bool) (addr : Nat) (s : State) : Host.Outcome State Fault Refusal :=
  done s (fun s => s.maint c high addr (s.dcAddr addr false true))
/-- IC_I (R402). -/
def execIcI (c : Fin 16) (addr : Nat) (s : State) : Host.Outcome State Fault Refusal :=
  done s (fun s => s.maint c true addr (s.dropLines (fun x => x.cache.isI && x.line == addr / 64)))
/-- DC_CSW (R402). -/
def execDcCsw (c : Fin 16) (level set way : Nat) (s : State) : Host.Outcome State Fault Refusal :=
  done s (fun s => s.maint c true 0 (s.dcSw c level set way true false))
/-- DC_CISW (R402). -/
def execDcCisw (c : Fin 16) (level set way : Nat) (s : State) : Host.Outcome State Fault Refusal :=
  done s (fun s => s.maint c true 0 (s.dcSw c level set way true true))
/-- DC_ISW (R402). -/
def execDcIsw (c : Fin 16) (high : Bool) (level set way : Nat) (s : State) : Host.Outcome State Fault Refusal :=
  done s (fun s => s.maint c high 0 (s.dcSw c level set way false true))
/-- IC_IALL (R402). -/
def execIcIall (c : Fin 16) (s : State) : Host.Outcome State Fault Refusal :=
  done s (fun s => s.maint c true 0 (s.dropLines (fun x => x.inL1i c)))
/-- MSYNC: every earlier access and maintenance operation is complete in this model when the next command runs (R402). -/
def execMsync (c : Fin 16) (s : State) : Host.Outcome State Fault Refusal := done s (fun s => s.maint c true 0 s)
/-- ISYNC: the model holds no instruction fetched ahead (R402). -/
def execIsync (c : Fin 16) (s : State) : Host.Outcome State Fault Refusal := done s (fun s => s.maint c true 0 s)

/-! ### Whole-pool maintenance (R405) -/

/-- Every core of the pool is held and swept. -/
def State.allHeld (s : State) (p : Fin 2) : Bool := s.f (.pool p) F.POOL_STAT_HELD == 0xFF

/-- A write of POOL_CMO with GO: refused while one is busy, for a reserved OP, and for OP 011b with a core running. -/
def State.cmo (s : State) (p : Fin 2) (op : Nat) : State :=
  let u := UnitId.pool p
  if (s.pl p).cmo.isSome || op == 0 || decide (3 < op) || (op == 3 && !s.allHeld p) then
    (s.setF u F.POOL_CMO_STAT_REFUSED 1).err u eConfig
  else
    let s1 := ((s.setF u F.POOL_CMO_STAT_REFUSED 0).setF u F.POOL_CMO_STAT_DONE 0).setF u F.POOL_CMO_STAT_BUSY 1
    let s2 := s1.setPl p { s1.pl p with cmo := some op }
    let pick := fun (x : CLine) => x.inPool p
    if op = 1 then s2.cleanLines pick
    else if op = 2 then (s2.cleanLines pick).dropLines pick
    else s2.loseLines pick

/-- POOL_CMO is written by the service core and the application cores (R405). -/
def State.cmoBy (s : State) (e : Engine) (p : Fin 2) (op : Nat) : State :=
  s.access e .store (.pool p) Reg.POOL_CMO (if engMain e then none else some .accessDenied) (s.cmo p op)

/-- POOL_CMO_CLEAN (R405). -/
def execPoolCmoClean (eng : Engine) (p : Fin 2) (s : State) : Host.Outcome State Fault Refusal :=
  done s (fun s => s.cmoBy eng p 1)
/-- POOL_CMO_CLEAN_INVALIDATE (R405). -/
def execPoolCmoCleanInvalidate (eng : Engine) (p : Fin 2) (s : State) : Host.Outcome State Fault Refusal :=
  done s (fun s => s.cmoBy eng p 2)
/-- POOL_CMO_INVALIDATE (R405). -/
def execPoolCmoInvalidate (eng : Engine) (p : Fin 2) (s : State) : Host.Outcome State Fault Refusal :=
  done s (fun s => s.cmoBy eng p 3)

/-- POOL_CMO_DONE (R405). -/
def State.cmoDone (s : State) (p : Fin 2) : State :=
  if (s.pl p).cmo.isNone then s.ignore
  else
    ((s.setPl p { s.pl p with cmo := none }).setF (.pool p) F.POOL_CMO_STAT_BUSY 0).setF (.pool p) F.POOL_CMO_STAT_DONE 1

/-- POOL_CMO_DONE (R405). -/
def execPoolCmoDone (p : Fin 2) (s : State) : Host.Outcome State Fault Refusal := done s (fun s => s.cmoDone p)

/-! ### Enables and sweeps (R406, R407) -/

/-- A core's L1 is swept: its lines are cleaned and invalidated. -/
def State.sweepL1 (s : State) (c : Fin 16) : State :=
  (s.cleanLines (fun x => x.inL1 c)).dropLines (fun x => x.inL1 c)

/-- A core's L1D comes into use, if the pool's L2 is (R406, R407). -/
def State.l1dOn (s : State) (c : Fin 16) : State :=
  let s1 := s.setCf c F.POOL_Cc_CTL_L1D_EN 1
  if s1.on (.pool (poolOf c)) F.POOL_STAT_L2_ON then (s1.setCf c F.POOL_Cc_STAT_D_ON 1).setCf c F.POOL_Cc_STAT_D_DRAINED 0
  else s1

/-- A write of L1D_EN (R406). -/
def State.l1dCtl (s : State) (c : Fin 16) (en : Bool) : State :=
  let p := poolOf c
  let x := s.pl p
  let draining := s.cf c F.POOL_Cc_STAT_D_DRAINING == 1
  if en then
    (if draining then s.setPl p { x with l1Held := addOnce x.l1Held c.val }
     else if s.cf c F.POOL_Cc_CTL_L1D_EN = 1 then s else s.l1dOn c)
  else if draining then s.setPl p { x with l1Held := x.l1Held.filter (· != c.val) }
  else if s.cf c F.POOL_Cc_CTL_L1D_EN = 0 then s
  else
    (((s.setCf c F.POOL_Cc_CTL_L1D_EN 0).setCf c F.POOL_Cc_STAT_D_ON 0).setCf c F.POOL_Cc_STAT_D_DRAINING 1).setCf c
      F.POOL_Cc_STAT_D_DRAINED 0

/-- A write of L1I_EN: clearing it invalidates the cache (R406). -/
def State.l1iCtl (s : State) (c : Fin 16) (en : Bool) : State :=
  if en then
    (s.setCf c F.POOL_Cc_CTL_L1I_EN 1).setCf c F.POOL_Cc_STAT_I_ON (bit (s.on (.pool (poolOf c)) F.POOL_STAT_L2_ON))
  else ((s.setCf c F.POOL_Cc_CTL_L1I_EN 0).setCf c F.POOL_Cc_STAT_I_ON 0).dropLines (fun x => x.inL1i c)

/-- A write of POOL_Cc_CTL. -/
def State.coreCtl (s : State) (c : Fin 16) (v : Word) : State :=
  (s.l1dCtl c (F.POOL_Cc_CTL_L1D_EN.get v == 1)).l1iCtl c (F.POOL_Cc_CTL_L1I_EN.get v == 1)

/-- L1D_DISABLE (R406). -/
def execL1dDisable (eng : Engine) (c : Fin 16) (s : State) : Host.Outcome State Fault Refusal :=
  done s (fun s => s.access eng .store (.pool (poolOf c)) (Reg.POOL_Cc_CTL + coreOff c) none (s.l1dCtl c false))

/-- L1I_DISABLE (R406). -/
def execL1iDisable (eng : Engine) (c : Fin 16) (s : State) : Host.Outcome State Fault Refusal :=
  done s (fun s => s.access eng .store (.pool (poolOf c)) (Reg.POOL_Cc_CTL + coreOff c) none (s.l1iCtl c false))

/-- L1D_SWEEP_DONE: D_DRAINED sets, and an enable held takes effect (R406). -/
def State.l1dSwept (s : State) (c : Fin 16) : State :=
  let p := poolOf c
  if s.cf c F.POOL_Cc_STAT_D_DRAINING = 0 then s.ignore
  else
    let s1 := (((s.sweepL1 c).setCf c F.POOL_Cc_STAT_D_DRAINING 0).setCf c F.POOL_Cc_STAT_D_DRAINED 1)
    let x := s1.pl p
    if x.l1Held.contains c.val then (s1.setPl p { x with l1Held := x.l1Held.filter (· != c.val) }).l1dOn c else s1

/-- L1D_SWEEP_DONE (R406). -/
def execL1dSweepDone (c : Fin 16) (s : State) : Host.Outcome State Fault Refusal := done s (fun s => s.l1dSwept c)

/-- The L2 comes into use, and with it the L1 caches that are enabled (R407). -/
def State.l2On (s : State) (p : Fin 2) : State :=
  let u := UnitId.pool p
  let s1 := ((s.setF u F.POOL_CTL_L2_EN 1).setF u F.POOL_STAT_L2_ON 1).setF u F.POOL_STAT_DRAINED 0
  (coresOf p).foldl (fun t c =>
    let t1 := if t.cf c F.POOL_Cc_CTL_L1D_EN = 1 ∧ t.cf c F.POOL_Cc_STAT_D_DRAINING = 0 then t.l1dOn c else t
    t1.setCf c F.POOL_Cc_STAT_I_ON (t1.cf c F.POOL_Cc_CTL_L1I_EN)) s1

/-- A write of L2_EN (R407).  While it is clear, the pool's L1 caches act as disabled. -/
def State.l2Ctl (s : State) (p : Fin 2) (en : Bool) : State :=
  let u := UnitId.pool p
  let x := s.pl p
  let draining := s.on u F.POOL_STAT_DRAINING
  if en then
    (if draining then s.setPl p { x with l2Held := true } else if s.on u F.POOL_CTL_L2_EN then s else s.l2On p)
  else if draining then s.setPl p { x with l2Held := false }
  else if !s.on u F.POOL_CTL_L2_EN then s
  else
    let s1 := (((s.setF u F.POOL_CTL_L2_EN 0).setF u F.POOL_STAT_L2_ON 0).setF u F.POOL_STAT_DRAINING 1).setF u
      F.POOL_STAT_DRAINED 0
    ((coresOf p).foldl (fun t c => (t.setCf c F.POOL_Cc_STAT_D_ON 0).setCf c F.POOL_Cc_STAT_I_ON 0) s1).dropLines
      (fun y => y.cache.isI && y.cache.pool == p)

/-- L2_DISABLE (R407). -/
def execL2Disable (eng : Engine) (p : Fin 2) (s : State) : Host.Outcome State Fault Refusal :=
  done s (fun s => s.access eng .store (.pool p) Reg.POOL_CTL none (s.l2Ctl p false))

/-- L2_SWEEP_DONE (R407). -/
def State.l2Swept (s : State) (p : Fin 2) : State :=
  let u := UnitId.pool p
  if !s.on u F.POOL_STAT_DRAINING then s.ignore
  else
    let pick := fun (x : CLine) => x.inPool p
    let s1 := ((((s.cleanLines pick).dropLines pick).setF u F.POOL_STAT_DRAINING 0).setF u F.POOL_STAT_DRAINED 1)
    if (s1.pl p).l2Held then (s1.setPl p { s1.pl p with l2Held := false }).l2On p else s1

/-- L2_SWEEP_DONE (R407). -/
def execL2SweepDone (p : Fin 2) (s : State) : Host.Outcome State Fault Refusal := done s (fun s => s.l2Swept p)

/-! ### Holding cores (R408, R409) -/

/-- The core's HELD bit. -/
def State.heldBit (s : State) (c : Fin 16) : Bool := (s.reg (.pool (poolOf c)) Reg.POOL_STAT).getLsbD (c.val % 8)
/-- The core's CORE_HOLD bit. -/
def State.holdBit (s : State) (c : Fin 16) : Bool := (s.reg (.pool (poolOf c)) Reg.POOL_CTL).getLsbD (c.val % 8)
/-- The bit of a core in its pool's masks. -/
def coreBit (c : Fin 16) : Word := BitVec.ofNat 32 (2 ^ (c.val % 8))

/-- CORE_HOLD: the core stops at its next instruction boundary (R409). -/
def State.hold (s : State) (c : Fin 16) : State := s.setBits (.pool (poolOf c)) Reg.POOL_CTL (coreBit c)

/-- CORE_HELD: its L1 is swept, its L1I invalidated, and HELD sets; its mailbox reservations are cancelled (R393, R409). -/
def State.held (s : State) (c : Fin 16) : State :=
  if !s.holdBit c || s.heldBit c then s.ignore
  else
    let s1 := (((s.sweepL1 c).dropLines (fun x => x.inL1i c)).setBits (.pool (poolOf c)) Reg.POOL_STAT (coreBit c)).setCf c
      F.POOL_Cc_STAT_RUN 0
    pair.foldl (fun t p => t.mbxCancel p c.val) s1

/-- CORE_RELEASE: the core starts at POOL_RVEC, its fault record cleared (R409).  A core whose sweep has not ended is swept
first. -/
def State.release (s : State) (c : Fin 16) : State :=
  if !s.holdBit c then s
  else
    let s1 := if s.heldBit c then s else s.held c
    let s2 := (s1.clrBits (.pool (poolOf c)) Reg.POOL_CTL (coreBit c)).clrBits (.pool (poolOf c)) Reg.POOL_STAT (coreBit c)
    let u := UnitId.pool (poolOf c)
    ((((s2.setCf c F.POOL_Cc_STAT_RUN 1).setReg u (Reg.POOL_Cc_FLT + coreOff c) 0).setReg u
      (Reg.POOL_Cc_FLT_ADDR_LO + coreOff c) 0).setReg u (Reg.POOL_Cc_FLT_ADDR_HI + coreOff c) 0)

/-- CORE_HOLD (R409). -/
def execCoreHold (eng : Engine) (c : Fin 16) (s : State) : Host.Outcome State Fault Refusal :=
  done s (fun s => s.access eng .store (.pool (poolOf c)) Reg.POOL_CTL none (s.hold c))
/-- CORE_HELD (R409). -/
def execCoreHeld (c : Fin 16) (s : State) : Host.Outcome State Fault Refusal :=
  done s (fun s => s.when (s.live (.pool (poolOf c))) (s.held c))
/-- CORE_RELEASE (R409). -/
def execCoreRelease (eng : Engine) (c : Fin 16) (s : State) : Host.Outcome State Fault Refusal :=
  done s (fun s => s.access eng .store (.pool (poolOf c)) Reg.POOL_CTL none (s.release c))

/-- A write of POOL_CTL: the hold bits that change, and L2_EN. -/
def State.poolCtl (s : State) (p : Fin 2) (v : Word) : State :=
  ((coresOf p).foldl (fun t c => if v.getLsbD (c.val % 8) then t.hold c else t.release c) s).l2Ctl p (v.getLsbD 31)

/-! ### Tightly-coupled memories (R382) -/

/-- The key of a TCM word: engine, instruction or data, word. -/
def tcmKey (e : Nat) (data : Bool) (w : Nat) : Nat := (e * 2 + bit data) * 2 ^ 15 + w
/-- A TCM word. -/
def State.tcmWord (s : State) (k : Nat) : Word := Sparse.get (fun _ => 0) s.tcm k
/-- A TCM word written, with good parity. -/
def State.setTcm (s : State) (k : Nat) (w : Word) : State :=
  let s1 : State := { s with tcm := Sparse.set (fun _ => 0) s.tcm k w }
  pair.foldl (fun t p => t.setPl p { t.pl p with tcmBad := (t.pl p).tcmBad.filter (· != k) }) s1

/-- A read of a TCM word with its parity outcome; a word in error stays so until it is written (R398). -/
def State.tcmRead (s : State) (p : Fin 2) (k : Nat) (par : Parity) : State × Option BusCause :=
  let q : Parity := if (s.pl p).tcmBad.contains k then .lasting else par
  match q with
  | .ok => (s, none)
  | .transient => (s.transient (.pool p), none)
  | .lasting => ((s.setPl p { s.pl p with tcmBad := addOnce (s.pl p).tcmBad k }).parDirty p, some .uncorrectable)

/-- TCM_PORT_ACCESS: the service core's access to the TCM of a held core (R382, R412). -/
def State.tcmPort (s : State) (c : Fin 16) (write : Option Word) (par : Parity) : State :=
  let w := s.cf c F.POOL_Cc_TCM_IDX_WORD
  let k := tcmKey c.val (s.cf c F.POOL_Cc_TCM_IDX_DTCM == 1) w
  let step := fun (t : State) =>
    if t.cf c F.POOL_Cc_TCM_IDX_AUTOINC = 1 then t.setCf c F.POOL_Cc_TCM_IDX_WORD ((w + 1) % 2 ^ 14) else t
  match write with
  | some v => step (s.setTcm k v)
  | none =>
    let r := s.tcmRead (poolOf c) k par
    match r.2 with
    | some e => r.1.answer (.busError e)
    | none => (step r.1).answer (.value (s.tcmWord k))

/-- TCM_PORT_ACCESS (R382). -/
def execTcmPortAccess (eng : Engine) (c : Fin 16) (write : Option Word) (par : Parity) (s : State) :
    Host.Outcome State Fault Refusal :=
  done s (fun s => s.access eng (if write.isSome then .store else .load) (.pool (poolOf c)) (Reg.POOL_Cc_TCM_DATA + coreOff c) (if eng = .service ∧ s.heldBit c then none else some .accessDenied)
    (s.tcmPort c write par))

/-! ### Write-back faults and small engines (R387, R399) -/

/-- EVICTION_WRITEBACK: the first fault is recorded until firmware clears WB_FLT; the line's bytes do not reach memory
(R399). -/
def State.wbFault (s : State) (p : Fin 2) (l cause : Nat) : State :=
  let u := UnitId.pool p
  if !s.lines.any (fun x => x.inPool p && x.line == l && x.live) then s.ignore
  else
    let s1 := s.loseLines (fun x => x.inPool p && x.line == l)
    let s2 :=
      if s1.on u F.POOL_WB_FLT_VALID then s1
      else
        (((s1.setF u F.POOL_WB_FLT_VALID 1).setF u F.POOL_WB_FLT_CAUSE cause).setF u F.POOL_WB_FLT_LINE_LO (l % 4)).setReg u
          Reg.POOL_WB_ADDR (BitVec.ofNat 32 (l / 4))
    s2.err u pcWbFlt

/-- EVICTION_WRITEBACK (R399). -/
def execEvictionWriteback (p : Fin 2) (line : Nat) (cause : Fin 16) (s : State) : Host.Outcome State Fault Refusal :=
  done s (fun s => s.wbFault p line cause.val)

/-- A small engine stops: its unit is in FAULT, and its outputs go to R387's states. -/
def State.smallStop (s : State) (e : Engine) : State :=
  let t := s.setUnitState (engUnit e) stFault
  match e with
  | .servo n =>
    let u := (t.setInhibit n true).setF (.srv n) F.SRV_VCM_OUT_MA 0
    u.setSv n { u.sv n with cur := (u.sv n).bias }
  | .assist n => t.disarm n
  | .spindle => t.spEnter spFault
  | _ => t

/-- SMALL_ENGINE_BUS_ERROR: the exception into the fault handler, or the stop (R387). -/
def State.smallError (s : State) (e : Engine) (what : SmallFault) : State :=
  let u := engUnit e
  match what with
  | .first c => s.err u (if c.val = 8 then eTimeout else eUncorr)
  | .second => s.smallStop e
  | .itcm => ((s.err u eParity).lasting u).smallStop e

/-- A small engine runs an NE32 program (R381, R387). -/
def engSmall : Engine → Bool
  | .servo _ => true | .assist _ => true | .spindle => true | .housekeeping => true | .service => true | .enclave => true
  | _ => false

/-- SMALL_ENGINE_BUS_ERROR (R387). -/
def execSmallEngineBusError (eng : Engine) (what : SmallFault) (s : State) : Host.Outcome State Fault Refusal :=
  done s (fun s => s.when (engSmall eng && s.live (engUnit eng)) (s.smallError eng what))

end Sys2Proof.Machine
end

