-- ==== Sys2Proof/Machine/Enclave.lean ====
section
/-! DEFINITION. The Hizal enclave: request channels (R419 to R423), signed images (R424 to R427), the key store (R428 to
R433), sealing and its counters (R439 to R441), TCG and SPDM (R376, R442, R443), and the round engines (R434 to R438). -/

namespace Sys2Proof.Machine

/-- The class-specific causes of the enclave (R446). -/
abbrev heStFail : Nat := 8
abbrev heVfail : Nat := 9
abbrev heKeyRot : Nat := 10
abbrev heEngOff : Nat := 11
abbrev heRsvFail : Nat := 12
abbrev heRqOvf : Nat := 13

/-- Status codes (R420). -/
abbrev hsOk : Nat := 0x00
abbrev hsChannel : Nat := 0x01
abbrev hsBad : Nat := 0x02
abbrev hsSig : Nat := 0x03
abbrev hsSvn : Nat := 0x04
abbrev hsDigest : Nat := 0x05
abbrev hsNoKey : Nat := 0x06
abbrev hsNoSlot : Nat := 0x07
abbrev hsRotate : Nat := 0x08
abbrev hsReset : Nat := 0x09
abbrev hsNotReady : Nat := 0x0A
abbrev hsTcg : Nat := 0x0B

/-! ### Memory accesses of the enclave -/

/-- Bytes lie in system SRAM or in DRAM (R420). -/
def State.inWork (s : State) (a n : Nat) : Bool :=
  n == 0 || (match s.region a with
    | some .sysSram => s.region (a + n - 1) == some .sysSram
    | some .dram => s.region (a + n - 1) == some .dram
    | _ => false)

/-- Bytes stored in system SRAM or in DRAM; none are stored elsewhere. -/
def State.memPut (s : State) (a : Nat) (l : List Byte) : State :=
  if !s.inWork a l.length then s
  else if dramBase ≤ a then (s.spanWrite (l.length + 1) a l).1 else (s.setBytes a l).sramWritten a l.length

/-- A 64-bit value in memory. -/
def State.quad (s : State) (a : Nat) : Nat := (s.word a).toNat + 2 ^ 32 * (s.word (a + 4)).toNat

/-- A little-endian number from bytes. -/
def leNat : List Byte → Nat
  | [] => 0
  | b :: t => b.toNat + 256 * leNat t

/-- Bytes `a` to `a + n - 1` of a list. -/
def slice (l : List Byte) (a n : Nat) : List Byte := (l.drop a).take n

/-- Free bytes. -/
def State.freeBytes (s : State) (n : Nat) : List Byte := (List.range n).map (Config.freeByte s.freeCtr)

/-- The bits of a run of bytes, in the order that the CRC takes them: bytes in order, the most significant bit first. -/
def bitsOf (l : List Byte) : List Bool :=
  l.flatMap (fun b => [b.getLsbD 7, b.getLsbD 6, b.getLsbD 5, b.getLsbD 4, b.getLsbD 3, b.getLsbD 2, b.getLsbD 1, b.getLsbD 0])

/-- CRC-64 of the records in NOR and in the vault: the polynomial of R72, initial value 0 (R440, R477). -/
def crcRecord (l : List Byte) : Nat := (crc64 0 (bitsOf l)).toNat

/-! ### Request channels (R419 to R423) -/

/-- The requests that channel `c` holds. -/
def State.rqs (s : State) (c : Nat) : List HzlReq := s.hzl.reqs.toList.getD c []
/-- The state with channel `c`'s requests replaced. -/
def State.setRqs (s : State) (c : Nat) (l : List HzlReq) : State :=
  { s with hzl := { s.hzl with reqs := s.hzl.reqs.setIfInBounds c l } }
/-- OVF of a channel. -/
def rqOvf (c : Nat) : Field := F.HZL_RQc_STAT_OVF.at (0x10 * c)

/-- The owner of a channel (R419). -/
def rqOwner (e : Engine) (c : Nat) : Bool :=
  match e with
  | .service => c == 0
  | .core k => decide (c = (poolOf k).val + 1)
  | _ => false

/-- HZL_REQUEST_PUSH: ignored in a full channel, with OVF and RQ_OVF (R420). -/
def State.rqPush (s : State) (c : Nat) (v : Word) : State :=
  let l := s.rqs c
  if 8 ≤ l.length then (s.setF .hzl (rqOvf c) 1).err .hzl heRqOvf
  else s.setRqs c (l ++ [⟨v.toNat / 64 * 64, false⟩])

/-- HZL_REQUEST_PUSH (R420). -/
def execHzlRequestPush (eng : Engine) (c : Fin 3) (v : Word) (s : State) : Host.Outcome State Fault Refusal :=
  done s (fun s => s.access eng .store .hzl (Reg.HZL_RQc_PUSH + 0x10 * c.val) (if rqOwner eng c.val then none else some .accessDenied) (s.rqPush c.val v))

/-- The fields of a descriptor (R420). -/
def State.dOp (s : State) (a : Nat) : Nat := (s.word a).toNat % 2 ^ 16
def State.dTag (s : State) (a : Nat) : Nat := (s.word a).toNat / 2 ^ 16
def State.dSrc (s : State) (a : Nat) : Nat := s.quad (a + 8)
def State.dSrcLen (s : State) (a : Nat) : Nat := (s.word (a + 16)).toNat
def State.dDst (s : State) (a : Nat) : Nat := s.quad (a + 24)
def State.dDstLen (s : State) (a : Nat) : Nat := (s.word (a + 32)).toNat
/-- Byte `i` of the descriptor. -/
def State.dByte (s : State) (a i : Nat) : Nat := (s.byte (a + i)).toNat
/-- The input bytes. -/
def State.dIn (s : State) (a : Nat) : List Byte := s.bytes (s.dSrc a) (s.dSrcLen a)

/-- The operations (R420). -/
abbrev hoVerify : Nat := 0x01
abbrev hoPatch : Nat := 0x02
abbrev hoMeasure : Nat := 0x03
abbrev hoSvn : Nat := 0x04
abbrev hoSpdm : Nat := 0x05
abbrev hoRsvWait : Nat := 0x06
abbrev hoRsvDone : Nat := 0x07
abbrev hoRsvLoad : Nat := 0x08
abbrev hoSecSend : Nat := 0x10
abbrev hoSecRecv : Nat := 0x11
abbrev hoNsKey : Nat := 0x12
abbrev hoNsErase : Nat := 0x13
abbrev hoSeal : Nat := 0x14
abbrev hoUnseal : Nat := 0x15

/-- An operation of the table. -/
def hoKnown (op : Nat) : Bool := decide (1 ≤ op ∧ op ≤ 8) || decide (0x10 ≤ op ∧ op ≤ 0x15)
/-- The channels that an operation is permitted on. -/
def hoChannel (op c : Nat) : Bool :=
  if op = hoSpdm then true else if op ≤ 8 then c == 0 else c == 1 || c == 2

/-- The PARAM bytes that an operation names (R421). -/
def hoNamed (op : Nat) : List Nat :=
  if op = hoVerify then [40, 41] else if op = hoMeasure then [40] else if op = hoSvn then [40, 41]
  else if op = hoSpdm then [40, 41, 42]
  else if op = hoRsvDone then [40, 41, 42, 43, 44, 45, 46, 47]
  else if op = hoRsvLoad then [40, 41, 42, 43]
  else if op = hoSecSend ∨ op = hoSecRecv then [40, 42, 43, 44, 45, 46, 47, 48, 49, 50, 51, 52, 53]
  else if op = hoNsKey ∨ op = hoNsErase then [44, 45, 46, 47]
  else []

/-- The descriptor is good: it lies in system SRAM, its addresses, and the PARAM bytes not named (R420, R421). -/
def State.dOk (s : State) (a : Nat) : Bool :=
  let op := s.dOp a
  s.region a == some .sysSram && s.inWork (s.dSrc a) (s.dSrcLen a)
    && (op == hoPatch || s.dDst a == 0 || s.inWork (s.dDst a) (s.dDstLen a))
    && (List.range 24).all (fun i => (hoNamed op).contains (40 + i) || s.dByte a (40 + i) == 0)

/-- The next request: the oldest of the channel whose turn it is, in round-robin order, past those held aside (R422). -/
def State.nextReq (s : State) : Option (Nat × Nat) :=
  ([0, 1, 2].map (fun k => (s.hzl.turn + k) % 3)).findSome? (fun c =>
    ((s.rqs c).find? (fun r => !r.held)).map (fun r => (c, r.addr)))

/-- A completion message goes to the pool's mailbox, or waits for an entry (R423); a pool in reset gets none. -/
def State.tell (s : State) (p : Fin 2) (m : Message) : State :=
  if s.unitState (.pool p) = stReset ∨ s.unitState (.pool p) = stOff then s
  else
    let r := s.mbxReserve p (engNum .enclave)
    if r.2 then r.1.mbxPush p (engNum .enclave) m
    else { s with hzl := { s.hzl with owed := s.hzl.owed ++ [(p.val, m)] } }

/-- A request completes: its output, OUT_LEN, STATUS with DONE, the channel's entry, the message (R423). -/
def State.finishReq (s : State) (c a st : Nat) (out : List Byte) : State :=
  let s1 := if out.isEmpty then s else s.memPut (s.dDst a) out
  let s2 := (s1.memPut (a + 36) (wordBytes (BitVec.ofNat 32 out.length))).memPut (a + 4)
    (wordBytes (BitVec.ofNat 32 (2 ^ 31 + st)))
  let l := (s2.rqs c).filter (fun r => r.addr != a)
  let s3 := s2.setRqs c l
  let s4 := if l.isEmpty then s3.setF .hzl (rqOvf c) 0 else s3
  if c = 0 then s4
  else
    s4.tell (if c = 1 then 0 else 1)
      ⟨BitVec.ofNat 32 (s.dTag a + 2 ^ 16 * c), BitVec.ofNat 32 (2 ^ 31 + st), 17⟩

/-- The request is held aside, and later ones run meanwhile (R422). -/
def State.holdReq (s : State) (c a : Nat) (b : Bool) : State :=
  s.setRqs c ((s.rqs c).map (fun r => if r.addr = a then { r with held := b } else r))

/-- The enclave executes its next request: refused while it is not ready, on another channel than the operation's, or with a
bad descriptor; a request of a reserved operation is refused by whichever row takes it (R417, R420). -/
def State.request (s : State) (op : Nat) (act : State → Nat → Nat → State) : State :=
  if s.inReset .hzl then s.ignore
  else
    match s.nextReq with
    | none => s.ignore
    | some (c, a) =>
      let t : State := { s with hzl := { s.hzl with turn := (c + 1) % 3 } }
      if s.on .hzl F.HZL_STAT_ST_FAIL then t.finishReq c a hsNotReady []
      else if !s.on .hzl F.HZL_STAT_READY then s.wait
      else if !hoKnown (s.dOp a) then t.finishReq c a hsBad []
      else if s.dOp a != op then s.ignore
      else if !hoChannel op c then t.finishReq c a hsChannel []
      else if !s.dOk a then t.finishReq c a hsBad []
      else act t c a

/-- A request completes with output, if it fits in DST_LEN (R420). -/
def State.deliverReq (s : State) (c a : Nat) (out : List Byte) : State :=
  if s.dDst a = 0 then s.finishReq c a hsOk []
  else if s.dDstLen a < out.length then s.finishReq c a hsBad []
  else s.finishReq c a hsOk out

/-- ENCLAVE_MBX_RETRY (R423). -/
def State.mbxRetry (s : State) (p : Fin 2) : State :=
  match s.hzl.owed.find? (fun (e : Nat × Message) => e.1 == p.val) with
  | none => s.ignore
  | some e =>
    if s.unitState (.pool p) = stReset ∨ s.unitState (.pool p) = stOff then
      { s with hzl := { s.hzl with owed := s.hzl.owed.erase e } }
    else
      let r := s.mbxReserve p (engNum .enclave)
      if r.2 then
        ({ r.1 with hzl := { r.1.hzl with owed := r.1.hzl.owed.erase e } } : State).mbxPush p (engNum .enclave) e.2
      else s.wait

/-- ENCLAVE_MBX_RETRY (R423). -/
def execEnclaveMbxRetry (p : Fin 2) (s : State) : Host.Outcome State Fault Refusal :=
  done s (fun s => s.when (!s.inReset .hzl) (s.mbxRetry p))

/-! ### Signed images (R424 to R427) -/

/-- SHA-384 (DESIGN CHOICE, log entry 2). -/
def sha384 (l : List Byte) : List Byte := (List.range 48).map (Config.digest l)

/-- The OTP security version of a kind (R427). -/
def svnField (kind : Nat) : Field := if kind = 1 then F.HZL_SVN_FW else if kind = 2 then F.HZL_SVN_IDSAR else F.HZL_SVN_PATCH

/-- The fields of an envelope (R424). -/
def envMagic (l : List Byte) : Nat := leNat (slice l 0 4)
def envKind (l : List Byte) : Nat := leNat (slice l 4 2)
def envSigner (l : List Byte) : Nat := leNat (slice l 6 1)
def envSvn (l : List Byte) : Nat := leNat (slice l 7 1)
def envLength (l : List Byte) : Nat := leNat (slice l 8 4)
def envEnc (l : List Byte) : Bool := leNat (slice l 12 4) % 2 == 1
def envBody (l : List Byte) : List Byte := slice l 192 (envLength l)

/-- The signer that R425 names for a kind. -/
def State.signerOk (s : State) (kind signer : Nat) : Bool :=
  if kind = 3 then signer == 0 else if s.on .hzl F.HZL_SVN_MKEY then signer == 1 else signer == 0

/-- Verification of a signed image: 0, or the status it fails with (R424, R425, R427). -/
def State.verify (s : State) (kind : Nat) (l : List Byte) : Nat :=
  if envMagic l != 0x487A5331 || envKind l != kind || !s.signerOk kind (envSigner l) then hsSig
  else if !Config.sigOk (slice l 0 96 ++ slice l 96 96) then hsSig
  else if (envBody l).length != envLength l || sha384 (envBody l) != slice l 32 48 then hsDigest
  else if envSvn l < s.f .hzl (svnField kind) then hsSvn
  else hsOk

/-- The count of images verified or refused (R444, R446). -/
def State.verified (s : State) (st : Nat) : State :=
  if st = hsOk then s.count64 .hzl Reg.HZL_CNT_VERIFY_LO else (s.count64 .hzl Reg.HZL_CNT_VFAIL_LO).err .hzl heVfail

/-- VERIFY (R424). -/
def execHzlVerify (s : State) : Host.Outcome State Fault Refusal :=
  done s (fun s => s.request hoVerify (fun t c a =>
    let kind := t.dByte a 40 + 256 * t.dByte a 41
    if kind ≠ 1 ∧ kind ≠ 2 then t.finishReq c a hsBad []
    else
      let l := t.dIn a
      let st := t.verify kind l
      if st = hsOk then
        (if t.dDst a ≠ 0 ∧ t.dDstLen a < envLength l then t.finishReq c a hsBad []
         else (t.verified st).deliverReq c a (envBody l))
      else (t.verified st).finishReq c a st []))

/-- The words of a run of bytes, the last one filled with zeros. -/
def toWords (fuel : Nat) (l : List Byte) : List Word :=
  match fuel with
  | 0 => []
  | fuel + 1 => if l.isEmpty then [] else BitVec.ofNat 32 (leNat (l.take 4)) :: toWords fuel (l.drop 4)

/-- The decrypted body of a patch (R426; DESIGN CHOICE, log entry 2). -/
def patchPlain (l : List Byte) : List Byte := (List.range (envLength l)).map (Config.digest (slice l 16 12 ++ envBody l))

/-- PATCH: verified, decrypted, and written to the service core's data TCM at offset DST (R426). -/
def State.patch (s : State) (c a : Nat) : State :=
  let l := s.dIn a
  let st0 := s.verify 3 l
  let st := if st0 != hsOk then st0 else if !envEnc l then hsSig else if !Config.sigOk (slice l 80 16 ++ envBody l) then hsDigest else hsOk
  if st = hsOk then
    (if 65536 < s.dDst a + envLength l ∨ s.dDst a % 4 ≠ 0 then s.finishReq c a hsBad []
     else
       let ws := toWords (envLength l) (patchPlain l)
       let s1 := ws.zipIdx.foldl (fun t (w : Word × Nat) => t.setTcm (tcmKey (engNum .service) true (s.dDst a / 4 + w.2)) w.1) s
       (s1.verified st).finishReq c a hsOk [])
  else (s.verified st).finishReq c a st []

/-- PATCH (R426). -/
def execHzlPatch (s : State) : Host.Outcome State Fault Refusal := done s (fun s => s.request hoPatch State.patch)

/-- A measurement recorded (R377, R421). -/
def State.setMeas (s : State) (i : Nat) (l : List Byte) : State :=
  { s with hzl := { s.hzl with meas := Sparse.insert s.hzl.meas i l } }

/-- MEASURE (R421). -/
def execHzlMeasure (s : State) : Host.Outcome State Fault Refusal :=
  done s (fun s => s.request hoMeasure (fun t c a =>
    let i := t.dByte a 40
    if i < 3 ∨ 7 < i ∨ t.dSrcLen a ≠ (if i = 6 then 4 else 48) then t.finishReq c a hsBad []
    else (t.setMeas i (t.dIn a)).finishReq c a hsOk []))

/-- SVN_ADVANCE: raises the OTP value, never lowers it (R427). -/
def execSvnAdvance (s : State) : Host.Outcome State Fault Refusal :=
  done s (fun s => s.request hoSvn (fun t c a =>
    let k := t.dByte a 40
    let v := t.dByte a 41
    if k = 0 ∨ 3 < k ∨ 63 < v then t.finishReq c a hsBad []
    else (t.setF .hzl (svnField k) (max v (t.f .hzl (svnField k)))).finishReq c a hsOk []))

/-! ### The key store (R428 to R433) -/

/-- The commands bound to a generation of a slot (R428). -/
def State.bindCount (s : State) (k g : Nat) : Nat :=
  (s.cmd.slots.filter (fun (e : Nat × Slot) => e.2.bound == some (k, g))).length

/-- A key change completes: the request's completion, or, for an admin command, its status (R431). -/
def State.finishKey (s : State) (op : KeyOp) : State :=
  if op.chan = 3 then s.answer (.status .success)
  else if s.dOp op.addr = hoSecSend then s.finishReq op.chan op.addr hsTcg []
  else s.finishReq op.chan op.addr hsOk []

/-- A change of the same request is still under way in some slot. -/
def State.keyBusy (s : State) (op : KeyOp) : Bool :=
  s.hzl.keys.any (fun (e : Nat × KeySlot) =>
    (match e.2.inProg with | some o => o.chan == op.chan && o.addr == op.addr | none => false)
      || (match e.2.held with | some o => o.chan == op.chan && o.addr == op.addr | none => false))

/-- The new generation is installed; the material it replaces becomes OLD (R431). -/
def State.keyInstall (s : State) (k : Nat) (op : KeyOp) : State :=
  let x := s.keySlot k
  s.setKeySlot k { loaded := !op.erase, cur := (x.cur + 1) % 65536, old := if x.loaded then some x.cur else none,
                   inProg := some op, held := none }

/-- OLD is zeroised once no command is bound to it, with every expanded copy of it: the change completes, and a change that
was held is installed (R431). -/
def State.zeroise (s : State) (fuel k : Nat) : State :=
  match fuel with
  | 0 => s
  | fuel + 1 =>
    let x := s.keySlot k
    match x.inProg with
    | none => s
    | some op =>
      if (match x.old with | some g => decide (0 < s.bindCount k g) | none => false) then s
      else
        let s1 := match x.old with | some g => (s.dropKey k g).count64 .hzl Reg.HZL_CNT_ZERO_LO | none => s
        let s2 := s1.setKeySlot k { x with old := none, inProg := none, held := none }
        let s3 := match x.held with | some o => s2.keyInstall k o | none => s2
        let s4 := if s3.keyBusy op then s3 else s3.finishKey op
        s4.zeroise fuel k

/-- A rewrite or an erase of a slot: at once, or held while the slot still holds OLD (R431). -/
def State.keyChange (s : State) (k : Nat) (op : KeyOp) : State :=
  let x := s.keySlot k
  if x.inProg.isSome then s.setKeySlot k { x with held := some op } else s.keyInstall k op

/-- A third change of a slot waits for the second (R431). -/
def State.keyFull (s : State) (k : Nat) : Bool := (s.keySlot k).held.isSome

/-- Changes of several slots on behalf of one request: all start, and the request completes when the last is zeroised. -/
def State.keyChanges (s : State) (ks : List Nat) (op : KeyOp) : State :=
  if ks.isEmpty then s.finishKey op
  else
    let s1 := ks.foldl (fun t k => t.keyChange k op) s
    let s2 := if op.chan = 3 then s1 else s1.holdReq op.chan op.addr true
    ks.foldl (fun t k => t.zeroise 3 k) s2

/-- KEY_UNBIND (R431). -/
def State.unbind (s : State) (k : Nat) : State :=
  let x := s.keySlot k
  match x.old with
  | none => s.ignore
  | some g => if 0 < s.bindCount k g then s.wait else s.zeroise 3 k

/-- KEY_UNBIND (R431). -/
def execKeyUnbind (k : Fin 4096) (s : State) : Host.Outcome State Fault Refusal := done s (fun s => s.unbind k.val)

/-- The media slots of a namespace's locking ranges: the global range's and the others' (R429, R432). -/
def State.nsSlots (s : State) (nsid : Nat) : List Nat :=
  addOnce ((s.hzl.ranges.filter (fun (e : Nat × LockRange) => e.2.nsid == nsid)).map Prod.fst) (nsid - 1)

/-- A DRBG generate call (R418). -/
def State.drbg (s : State) : State := { s with hzl := { s.hzl with generate := s.hzl.generate + 1 } }
/-- The DRBG must be reseeded first (R418). -/
def State.drbgDue (s : State) : Bool := decide (2 ^ 20 ≤ s.hzl.generate)

/-- NS_KEY for a namespace, on behalf of a request or an admin command (R432). -/
def State.nsKey (s : State) (nsid : Nat) (op : KeyOp) : State := s.drbg.keyChanges [nsid - 1] op
/-- NS_ERASE for a namespace (R432). -/
def State.nsErase (s : State) (nsid : Nat) (op : KeyOp) : State := s.keyChanges (s.nsSlots nsid) op

/-- The NSID of a request (R421). -/
def State.dNsid (s : State) (a : Nat) : Nat := (s.word (a + 44)).toNat

/-- NS_KEY (R432). -/
def execNsKey (s : State) : Host.Outcome State Fault Refusal :=
  done s (fun s => s.request hoNsKey (fun t c a =>
    let n := t.dNsid a
    if n = 0 ∨ 256 < n then t.finishReq c a hsBad []
    else if t.kpioBase ≤ n - 1 then t.finishReq c a hsNoSlot []
    else if t.drbgDue || t.keyFull (n - 1) then s.wait
    else t.nsKey n ⟨false, c, a⟩))

/-- NS_ERASE (R432). -/
def execNsErase (s : State) : Host.Outcome State Fault Refusal :=
  done s (fun s => s.request hoNsErase (fun t c a =>
    let n := t.dNsid a
    if n = 0 ∨ 256 < n then t.finishReq c a hsBad []
    else if (t.nsSlots n).any t.keyFull then s.wait
    else t.nsErase n ⟨true, c, a⟩))

/-- ENTROPY_HEALTH_FAIL: FAULT until the next cold start; the number of the test is free (R417, R418; DESIGN CHOICE, log entry
1). -/
def State.entropyFail (s : State) : State :=
  let s1 : State := { s with hzl := { s.hzl with entropyBad := true } }
  ((((s1.setF .hzl F.HZL_STAT_READY 0).setF .hzl F.HZL_STAT_ST_FAIL 1).setF .hzl F.HZL_STAT_ST_ID s.freeNat).err .hzl
    heStFail).setUnitState .hzl stFault |>.spend

/-- ENTROPY_HEALTH_FAIL (R418). -/
def execEntropyHealthFail (s : State) : Host.Outcome State Fault Refusal :=
  done s (fun s => s.when (!s.inReset .hzl) s.entropyFail)

/-- DRBG_RESEED (R418). -/
def execDrbgReseed (s : State) : Host.Outcome State Fault Refusal :=
  done s (fun s => s.when s.drbgDue { s with hzl := { s.hzl with generate := 0 } })

/-! ### Counter reservation (R440) -/

/-- A reservation record (R421). -/
def rsvRecord (key block seq : Nat) : List Byte :=
  let b := wordBytes 0x52535652 ++ wordBytes (BitVec.ofNat 32 key) ++ quadBytes block ++ quadBytes seq
  b ++ quadBytes (crcRecord b)

/-- The next record is due: three quarters of the block in use are used, or none is confirmed (R440). -/
def State.rsvDue (s : State) : Bool := decide (s.hzl.block * 65536 ≤ s.hzl.sealCtr + 16384) && !s.hzl.asked

/-- A standing RSV_WAIT completes when a record is due (R440). -/
def State.rsvCheck (s : State) : State :=
  match s.hzl.standing with
  | none => s
  | some a =>
    if !s.rsvDue then s
    else
      let seq := s.hzl.seqRsv + 1
      let s1 : State := { s with hzl := { s.hzl with standing := none, asked := true, seqRsv := seq } }
      s1.deliverReq 0 a (rsvRecord s.hzl.sealVer s.hzl.block seq)

/-- RSV_WAIT (R440). -/
def execRsvWait (s : State) : Host.Outcome State Fault Refusal :=
  done s (fun s => s.request hoRsvWait (fun t c a =>
    ({ (t.holdReq c a true) with hzl := { (t.holdReq c a true).hzl with standing := some a } } : State).rsvCheck))

/-- Requests for sealing that were held aside are taken again. -/
def State.unholdSeals (s : State) : State :=
  [1, 2].foldl (fun t c => t.setRqs c ((t.rqs c).map (fun r => if t.dOp r.addr = hoSeal then { r with held := false } else r))) s

/-- RSV_DONE: the block of the record given is confirmed for use; any other block changes nothing (R440). -/
def execRsvDone (s : State) : Host.Outcome State Fault Refusal :=
  done s (fun s => s.request hoRsvDone (fun t c a =>
    let b := t.quad (a + 40)
    if t.hzl.asked && b == t.hzl.block then
      ((({ t with hzl := { t.hzl with block := b + 1, asked := false } } : State).unholdSeals).finishReq c a hsOk []).rsvCheck
    else t.finishReq c a hsOk []))

/-- A stored record is good (R440). -/
def rsvOk (l : List Byte) : Bool :=
  l.length == 32 && leNat (slice l 0 4) == 0x52535652 && leNat (slice l 24 8) == crcRecord (slice l 0 24)

/-- RSV_LOAD: the key begins at the start of the block after the recorded one (R440). -/
def execRsvLoad (s : State) : Host.Outcome State Fault Refusal :=
  done s (fun s => s.request hoRsvLoad (fun t c a =>
    let n := (t.word (a + 40)).toNat
    if t.dSrcLen a < 32 * n then t.finishReq c a hsBad []
    else
      let recs := ((List.range n).map (fun i => slice (t.dIn a) (32 * i) 32)).filter rsvOk
      let best := recs.foldl (fun (m : Option (List Byte)) r =>
        match m with
        | none => some r
        | some x => if leNat (slice x 16 8) < leNat (slice r 16 8) then some r else some x) none
      match best with
      | none => t.finishReq c a hsOk []
      | some r =>
        let b := leNat (slice r 8 8)
        (({ t with hzl := { t.hzl with sealVer := leNat (slice r 4 4), block := b + 1, sealCtr := (b + 1) * 65536,
                                       seqRsv := leNat (slice r 16 8), asked := false } } : State).finishReq c a hsOk []).rsvCheck))

/-- RSV_DONE_TIMEOUT: encryption that waits fails with status 08h (R440). -/
def State.rsvTimeout (s : State) : State :=
  let ws := [1, 2].flatMap (fun c => ((s.rqs c).filter (fun r => r.held && s.dOp r.addr == hoSeal)).map (fun r => (c, r.addr)))
  if ws.isEmpty then s.ignore
  else (ws.foldl (fun t (w : Nat × Nat) => t.finishReq w.1 w.2 hsRotate []) s).err .hzl heRsvFail

/-- RSV_DONE_TIMEOUT (R440). -/
def execRsvDoneTimeout (s : State) : Host.Outcome State Fault Refusal := done s (fun s => s.rsvTimeout)

/-! ### Sealing (R439, R441) -/

/-- The IV of a GCM encryption: the key's fixed field, then its invocation counter (R439). -/
def gcmIv (fixed ctr : Nat) : List Byte := wordBytes (BitVec.ofNat 32 fixed) ++ quadBytes ctr

/-- A sealing key past its limit is rotated (R439). -/
def State.sealKey (s : State) : State :=
  if 2 ^ 48 ≤ s.hzl.sealCtr then
    { s with hzl := { s.hzl with sealVer := s.hzl.sealVer + 1, sealCtr := 0, block := 0, asked := false } }
  else s

/-- The sealing key's next invocation is reserved (R440). -/
def State.sealReady (s : State) : Bool := decide (s.hzl.sealCtr < s.hzl.block * 65536)

/-- IV, ciphertext and tag of a plaintext (R439, R441). -/
def State.sealed (s : State) (l : List Byte) : State × List Byte :=
  let iv := gcmIv s.hzl.sealVer s.hzl.sealCtr
  let t : State := { s with hzl := { s.hzl with sealCtr := s.hzl.sealCtr + 1 } }
  (if t.hzl.sealCtr = 2 ^ 48 then t.err .hzl heKeyRot else t,
    iv ++ (List.range (l.length + 16)).map (Config.digest (1 :: iv ++ l)))

/-- SEAL: the sealing key past its limit is rotated first (R439, R441). -/
def State.doSeal (s : State) (c a : Nat) : State :=
  let n := s.dSrcLen a
  if 65536 < n ∨ s.dDst a = 0 ∨ s.dDstLen a < n + 28 then s.finishReq c a hsBad []
  else
    let s1 := s.sealKey
    if !s1.sealReady then ((s1.holdReq c a true).rsvCheck).wait
    else
      let r := s1.sealed (s1.dIn a)
      (r.1.finishReq c a hsOk r.2).rsvCheck

/-- SEAL (R441). -/
def execHzlSeal (s : State) : Host.Outcome State Fault Refusal := done s (fun s => s.request hoSeal State.doSeal)

/-- The version of a sealed input is the current or the previous one (R439). -/
def State.sealKnown (s : State) (l : List Byte) : Bool :=
  leNat (slice l 0 4) == s.hzl.sealVer || leNat (slice l 0 4) + 1 == s.hzl.sealVer

/-- The plaintext of a sealed input (R441). -/
def unsealBytes (l : List Byte) : List Byte := (List.range (l.length - 28)).map (Config.digest (2 :: l))

/-- UNSEAL: nothing is released unless the tag verifies (R439, R441). -/
def State.doUnseal (s : State) (c a : Nat) : State :=
  let n := s.dSrcLen a
  let l := s.dIn a
  if n < 28 ∨ 65536 < n ∨ s.dDst a = 0 ∨ s.dDstLen a < n - 28 then s.finishReq c a hsBad []
  else if !s.sealKnown l then s.finishReq c a hsNoKey []
  else if !Config.sigOk l then s.finishReq c a hsDigest []
  else s.finishReq c a hsOk (unsealBytes l)

/-- What UNSEAL releases of an input (R441). -/
def State.unseal (s : State) (l : List Byte) : Option (List Byte) :=
  if s.sealKnown l && Config.sigOk l then some (unsealBytes l) else none

/-- UNSEAL (R441). -/
def execHzlUnseal (s : State) : Host.Outcome State Fault Refusal := done s (fun s => s.request hoUnseal State.doUnseal)

/-! ### TCG (R442, R443) -/

/-- The host security protocols (R442). -/
def secProtocols : List Nat := [0x00, 0x01, 0x02, 0xEA]

/-- A range whose slot lies at or above KPIO_BASE is not offered (R429). -/
def State.offered (s : State) (slot : Nat) : Bool := decide (slot < s.kpioBase)

/-- A locking range written. -/
def State.setRange (s : State) (slot : Nat) (r : LockRange) : State :=
  { s with hzl := { s.hzl with ranges := Sparse.insert s.hzl.ranges slot r } }

/-- The namespace and extent of a range's slot: of a global range's, its namespace (R429). -/
def State.rangeAt (s : State) (slot : Nat) : LockRange :=
  (Sparse.find? s.hzl.ranges slot).getD ⟨if slot < 256 then slot + 1 else 0, 0, 0, false, false⟩

/-- A TCG method takes effect; one that changes a key completes under R431 (R442, R443). -/
def State.tcg (s : State) (c a : Nat) (m : Tcg) : State :=
  let fin := fun (t : State) => t.finishReq c a hsTcg (if t.dDst a = 0 then [] else t.freeBytes (t.freeNat % (t.dDstLen a + 1)))
  let fin1 := fun (t : State) => { (fin t) with freeCtr := t.freeCtr + 1 }
  match m with
  | .other => fin1 s
  | .lock slot r w =>
    fin1 (if s.offered slot then s.setRange slot { s.rangeAt slot with rlock := r, wlock := w } else s)
  | .range slot nsid first count =>
    fin1 (if s.offered slot && decide (256 ≤ slot ∧ slot < 320) then
      s.setRange slot { s.rangeAt slot with nsid := nsid, first := first, count := count } else s)
  | .genKey slot =>
    if !s.offered slot then fin1 s
    else if s.drbgDue || s.keyFull slot then s.wait
    else s.drbg.keyChanges [slot] ⟨false, c, a⟩
  | .inject tag wrapped =>
    if !wrapped || decide (4095 < s.kpioBase + tag) then fin1 s
    else if s.keyFull (s.kpioBase + tag) then s.wait
    else s.keyChanges [s.kpioBase + tag] ⟨false, c, a⟩
  | .eraseTag tag =>
    if 4095 < s.kpioBase + tag then fin1 s
    else if s.keyFull (s.kpioBase + tag) then s.wait
    else s.keyChanges [s.kpioBase + tag] ⟨true, c, a⟩
  | .kpio nsid on =>
    fin1 { s with hosts := { s.hosts with namespaces := s.hosts.namespaces.map (fun (n : Namespace) =>
      if n.nsid = nsid then { n with kpio := on } else n) } }
  | .revert nsid =>
    if (s.nsSlots nsid).any s.keyFull || s.drbgDue then s.wait else s.drbg.keyChanges (s.nsSlots nsid) ⟨false, c, a⟩

/-- SEC_SEND (R442). -/
def execSecSend (m : Tcg) (s : State) : Host.Outcome State Fault Refusal :=
  done s (fun s => s.request hoSecSend (fun t c a =>
    t.tcg c a (if secProtocols.contains (t.dByte a 40) then m else .other)))

/-- SEC_RECV: the response payload, whose contents TCG defines (R442). -/
def execSecRecv (s : State) : Host.Outcome State Fault Refusal :=
  done s (fun s => s.request hoSecRecv (fun t c a => t.tcg c a .other))

/-! ### SPDM (R376, R433, R439) -/

/-- A session. -/
def State.session? (s : State) (id : Nat) : Option Session := s.hzl.sessions.find? (fun x => x.id == id)
/-- The sessions replaced. -/
def State.setSessions (s : State) (l : List Session) : State := { s with hzl := { s.hzl with sessions := l } }
/-- A session ends, and its slots are zeroised (R433). -/
def State.endSession (s : State) (id : Nat) : State := s.setSessions (s.hzl.sessions.filter (fun x => x.id != id))

/-- SPDM error codes, as the response carries them (PRESUMED, log entry 25). -/
abbrev spdmUnexpected : Nat := 0x04
abbrev spdmSessionLimit : Nat := 0x0A

/-- The outcome of an SPDM message: a response with bytes of this model, a response whose bytes SPDM defines, an SPDM error,
or a session key at its invocation limit. -/
inductive SpdmOut where
  | bytes (l : List Byte) | response | error (code : Nat) | rotate
  deriving DecidableEq, Repr

/-- One message within a session: its response is encrypted, which takes an invocation of the key (R439). -/
def State.inSession (s : State) (id : Nat) (f : Session → Session) : State × SpdmOut :=
  match s.session? id with
  | none => (s, .error spdmUnexpected)
  | some x =>
    if 2 ^ 48 ≤ x.counter then (s, .rotate)
    else
      let y := f x
      let z := { y with counter := y.counter + 1 }
      let s1 := s.setSessions (s.hzl.sessions.map (fun w => if w.id = id then z else w))
      (if z.counter = 2 ^ 48 then s1.err .hzl heKeyRot else s1, .response)

/-- The lowest session number that is free. -/
def State.newSession (s : State) : Nat := ((List.range 4).find? (fun i => (s.session? i).isNone)).getD 4

/-- The measurement of an index (R377). -/
def State.measurement (s : State) (i : Nat) : List Byte :=
  match Sparse.find? s.hzl.meas i with
  | some l => l
  | none => if i = 5 then sha384 [] else if i = 1 ∨ i = 2 then sha384 [BitVec.ofNat 8 i] else []

/-- The responder takes one SPDM message; after FINISH the session goes on under keys of its own, whose counters start at 0 (R376,
R440). -/
def State.spdm (s : State) (m : SpdmMsg) : State × SpdmOut :=
  match m with
  | .getVersion => (s, .response)
  | .getCapabilities => (s, .response)
  | .negotiate => (s, .response)
  | .getDigests => (s, .response)
  | .getCertificate => (s, .response)
  | .challenge => (s, .response)
  | .getMeasurements i => (s, .bytes (s.measurement i))
  | .keyExchange =>
    let i := s.newSession
    if 4 ≤ s.hzl.sessions.length ∨ i = 4 then (s, .error spdmSessionLimit)
    else (s.drbg.setSessions (s.hzl.sessions ++ [⟨i, [4 * i, 4 * i + 1, 4 * i + 2, 4 * i + 3], 0, false⟩]), .response)
  | .finish id =>
    let r := s.inSession id (fun x => { x with finished := true })
    (r.1.setSessions (r.1.hzl.sessions.map (fun w => if w.id = id then { w with counter := 0 } else w)), r.2)
  | .heartbeat id => s.inSession id id1
  | .keyUpdate id =>
    match s.session? id with
    | none => (s, .error spdmUnexpected)
    | some x => (s.setSessions (s.hzl.sessions.map (fun w => if w.id = x.id then { w with counter := 0 } else w)), .response)
  | .endSession id => if (s.session? id).isSome then (s.endSession id, .response) else (s, .error spdmUnexpected)
where
  /-- The session unchanged. -/
  id1 (x : Session) : Session := x

/-- The enclave answers SPDM messages while it is ready (R417). -/
def State.spdmRow (s : State) (m : SpdmMsg) : State :=
  if !s.clocked .hzl || !s.on .hzl F.HZL_STAT_READY then s.ignore
  else
    let r := s.spdm m
    match r.2 with
    | .bytes l => r.1.answer (.data l)
    | .response => (r.1.answer (.data (r.1.freeBytes (r.1.freeNat % 4225)))).spend
    | .error c => r.1.answer (.mi c)
    | .rotate => r.1.answer (.mi hsRotate)

/-- SPDM: the request of a channel (R420). -/
def execHzlSpdm (m : SpdmMsg) (s : State) : Host.Outcome State Fault Refusal :=
  done s (fun s => s.request hoSpdm (fun t c a =>
    let r := t.spdm m
    let n := r.1.freeNat % (r.1.dDstLen a + 1)
    match r.2 with
    | .rotate => r.1.finishReq c a hsRotate []
    | _ => { (r.1.finishReq c a hsOk (if r.1.dDst a = 0 then [] else r.1.freeBytes n)) with freeCtr := r.1.freeCtr + 1 }))

/-- GET_VERSION (R376). -/
def execGetVersion (s : State) : Host.Outcome State Fault Refusal := done s (fun s => s.spdmRow .getVersion)
/-- GET_CAPABILITIES (R376). -/
def execGetCapabilities (s : State) : Host.Outcome State Fault Refusal := done s (fun s => s.spdmRow .getCapabilities)
/-- NEGOTIATE_ALGORITHMS (R376). -/
def execNegotiateAlgorithms (s : State) : Host.Outcome State Fault Refusal := done s (fun s => s.spdmRow .negotiate)
/-- GET_DIGESTS (R376). -/
def execGetDigests (s : State) : Host.Outcome State Fault Refusal := done s (fun s => s.spdmRow .getDigests)
/-- GET_CERTIFICATE (R376). -/
def execGetCertificate (s : State) : Host.Outcome State Fault Refusal := done s (fun s => s.spdmRow .getCertificate)
/-- CHALLENGE (R376). -/
def execSpdmChallenge (s : State) : Host.Outcome State Fault Refusal := done s (fun s => s.spdmRow .challenge)
/-- GET_MEASUREMENTS (R377). -/
def execGetMeasurements (index : Nat) (s : State) : Host.Outcome State Fault Refusal :=
  done s (fun s => s.spdmRow (.getMeasurements index))
/-- KEY_EXCHANGE (R376). -/
def execKeyExchange (s : State) : Host.Outcome State Fault Refusal := done s (fun s => s.spdmRow .keyExchange)
/-- FINISH (R376). -/
def execSpdmFinish (id : Nat) (s : State) : Host.Outcome State Fault Refusal := done s (fun s => s.spdmRow (.finish id))
/-- HEARTBEAT (R376). -/
def execSpdmHeartbeat (id : Nat) (s : State) : Host.Outcome State Fault Refusal := done s (fun s => s.spdmRow (.heartbeat id))
/-- KEY_UPDATE (R439). -/
def execKeyUpdate (id : Nat) (s : State) : Host.Outcome State Fault Refusal := done s (fun s => s.spdmRow (.keyUpdate id))
/-- END_SESSION (R433). -/
def execEndSession (id : Nat) (s : State) : Host.Outcome State Fault Refusal := done s (fun s => s.spdmRow (.endSession id))
/-- HEARTBEAT_EXPIRY (R433). -/
def execHeartbeatExpiry (id : Nat) (s : State) : Host.Outcome State Fault Refusal :=
  done s (fun s => s.when (s.clocked .hzl && (s.session? id).isSome) (s.endSession id))

/-! ### Cipher messages (R430, R435 to R438) -/

/-- The engine that runs a message. -/
def State.engOf (s : State) (id : Nat) : Option Nat :=
  (List.range 24).find? (fun e => match (s.rEng e).run with | some m => m.id == id | none => false)

/-- ENGINE_PARITY: a block met a parity error; if its recomputation fails, the engine goes out of service and the message
goes on elsewhere (R435). -/
def State.engParity (s : State) (id : Nat) (par : Parity) : State :=
  match par with
  | .ok => s
  | .transient => s.transient .hzl
  | .lasting =>
    match s.engOf id with
    | none => s
    | some e =>
      let s1 := ((s.setREng e { RoundEngine.idle with out := true }).lasting .hzl).err .hzl heEngOff
      (s.rEng e).started.foldl State.placeMsg s1

/-- CIPHER_MESSAGE_START: the message's command binds its key first (R430, R437). -/
def State.cipherStart (s : State) (id : Nat) (what : CipherFor) (prio : Nat) (par : Parity) : State :=
  if !s.live .hzl || !s.on .hzl F.HZL_STAT_READY then s.ignore
  else if s.dev.diePause || !s.takes .hzl then s.wait
  else
    let go := fun (t : State) (k g : Nat) => (t.placeMsg ⟨id, k, g, prio, none⟩).engParity id par
    match what with
    | .own k g => go s k g
    | .slot i =>
      match s.slot? i with
      | none => s.ignore
      | some x =>
        if !x.st.isOpen then s.ignore
        else
          match s.bindKey i with
          | .inr st => s.complete i st
          | .inl t => match (t.slot? i) with
            | some y => let b := y.bound.getD (0, 0); go t b.1 b.2
            | none => t

/-- CIPHER_MESSAGE_START (R437). -/
def execCipherMessageStart (id : Nat) (what : CipherFor) (prio : Fin 4) (par : Parity) (s : State) :
    Host.Outcome State Fault Refusal :=
  done s (fun s => s.cipherStart id what prio.val par)

/-- CIPHER_MESSAGE_END (R438). -/
def State.cipherEnd (s : State) (e : Nat) : State :=
  match (s.rEng e).run with
  | none => s.ignore
  | some _ => ((s.setREng e { s.rEng e with run := none }).refill e).refillAll

/-- CIPHER_MESSAGE_END (R438). -/
def execCipherMessageEnd (e : Fin 24) (s : State) : Host.Outcome State Fault Refusal :=
  done s (fun s => s.when (s.live .hzl) (s.cipherEnd e.val))

end Sys2Proof.Machine
end

