-- ==== Sys2Proof/Machine/Operands.lean ====
section
/-! DEFINITION. The fields of a control-store word (R137), the operands they name (R138), the condition bits (R143), and
the fetch through patch vectors with its parity check (R140, R162). -/

namespace Sys2Proof.Machine

/-! ### Fields of the word (R137) -/

/-- `w` bits of a control-store word from bit `lo`. -/
def cw (x : BitVec 128) (lo w : Nat) : Nat := (x.extractLsb' lo w).toNat

namespace CsWord

def next (x : BitVec 128) : Nat := cw x 0 12
def seq (x : BitVec 128) : Nat := cw x 12 3
def brGrp (x : BitVec 128) : Nat := cw x 15 3
def brMask (x : BitVec 128) : Nat := cw x 18 4
def waitEn (x : BitVec 128) : Bool := x.getLsbD 22
def waitSel (x : BitVec 128) : Nat := cw x 23 5
def waitPol (x : BitVec 128) : Bool := x.getLsbD 28
def waitCx (x : BitVec 128) : Bool := x.getLsbD 29
def tmoUnit (x : BitVec 128) : Nat := cw x 30 2
def tmo (x : BitVec 128) : Nat := cw x 32 16
def aluOp (x : BitVec 128) : Nat := cw x 48 4
def dst (x : BitVec 128) : Nat := cw x 52 4
def sa (x : BitVec 128) : Nat := cw x 56 4
def sb (x : BitVec 128) : Nat := cw x 60 4
def sbImm (x : BitVec 128) : Bool := x.getLsbD 64
def evtEn (x : BitVec 128) : Bool := x.getLsbD 65
def evtWin (x : BitVec 128) : Nat := cw x 66 1
def evtSrc (x : BitVec 128) : Bool := x.getLsbD 67
def gmask (x : BitVec 128) : Nat := cw x 68 4
def gval (x : BitVec 128) : Nat := cw x 72 4
def cmd (x : BitVec 128) : Nat := cw x 76 4
def imm (x : BitVec 128) : Nat := cw x 80 24
def creg (x : BitVec 128) : Nat := cw x 104 4

end CsWord

/-! ### Registers and operands (R136, R138) -/

/-- General register `i`; G0 reads 0 (R136). -/
def Sequencer.greg (q : Sequencer) (i : Nat) : Word := if i % 16 = 0 then 0 else q.g.getD (i % 16) 0
/-- The sequencer with a general register written; a write of G0 is discarded (R136). -/
def Sequencer.setGreg (q : Sequencer) (i : Nat) (v : Word) : Sequencer :=
  if i % 16 = 0 then q else { q with g := q.g.set! (i % 16) v }
/-- Operand A. -/
def Sequencer.opA (q : Sequencer) : Word := q.greg (CsWord.sa q.word)
/-- Operand B: register SB, or IMM zero-extended (R137). -/
def Sequencer.opB (q : Sequencer) : Word :=
  if CsWord.sbImm q.word then BitVec.ofNat 32 (CsWord.imm q.word) else q.greg (CsWord.sb q.word)

/-! ### Conditions (R143) -/

/-- The queue holds events (R149). -/
def Timing.evq (t : Timing) : Nat := (t.timed.filter (fun x => x.item matches .event _ _ _)).length

/-- The lane is held from starting media dispatches: crystal lost, throttle pause or shutdown (R37, R513, R516). -/
def State.mediaHeld (s : State) : Bool :=
  s.on .dev F.DEV_CLK_STAT_HOLDOVER || s.dev.diePause || s.dev.mediaPause || s.dev.shutdown

/-- DISP: a descriptor waits to be started (R160), and nothing holds it back: a write of mode 01b waits for every cancel it
caused (R82), a transfer for room under the cap (R58, R60). -/
def State.dispWaits (s : State) (n : Fin 4) : Bool :=
  match (s.lane n).next with
  | none => false
  | some d =>
    (s.lane n).cur.isNone && !s.mediaHeld
      && !(d.isWrite && d.mode == 1 && s.unacked d.slot != 0)
      && (d.op == 4 || decide (s.capTransfers < capLanes s.capLevel))

/-- The condition bits (R143). -/
def State.cond (s : State) (n : Fin 4) (i : Nat) : Bool :=
  let q := s.sq n
  let t := s.tim n
  match i with
  | 0 => q.tmo | 1 => q.z | 2 => q.nf | 3 => q.c
  | 4 => t.starts != 0 | 5 => t.excl | 6 => s.settled n | 7 => s.slock n
  | 8 => t.evq == 0 | 9 => decide (8 ≤ t.evq) | 10 => t.act != [] | 11 => t.late
  | 12 => (s.lane n).cancelSeen | 13 => t.wstop | 14 => s.dispWaits n | 15 => s.opw n
  | 16 => q.seekDone | 17 => q.seekErr | 18 => q.headOk | 19 => q.headErr
  | 20 => s.armed n | 21 => s.astFlt n | 22 => (s.lane n).paLow
  | 24 => (s.f (.tsq n) F.TSQ_SWCOND_SW).testBit 0 | 25 => (s.f (.tsq n) F.TSQ_SWCOND_SW).testBit 1
  | 26 => (s.f (.tsq n) F.TSQ_SWCOND_SW).testBit 2 | 27 => (s.f (.tsq n) F.TSQ_SWCOND_SW).testBit 3
  | 28 => true
  | _ => false

/-- The four condition bits of a group, bit i from condition 4 × group + i (R142). -/
def State.condGroup (s : State) (n : Fin 4) (g : Nat) : Nat :=
  bit (s.cond n (4 * g)) + 2 * bit (s.cond n (4 * g + 1)) + 4 * bit (s.cond n (4 * g + 2)) + 8 * bit (s.cond n (4 * g + 3))

/-! ### Fetch (R140, R162) -/

/-- Odd parity of a control-store word: bit i covers byte i (R162). -/
def oddParity (x : BitVec 128) : BitVec 16 :=
  (List.range 16).foldl (fun a i =>
    let ones := ((List.range 8).filter (fun j => x.getLsbD (8 * i + j))).length
    if ones % 2 = 0 then a ||| BitVec.ofNat 16 (2 ^ i) else a) 0

/-- The address after vector substitution: the lowest-numbered enabled vector whose MATCH is the address (R140). -/
def State.vectored (s : State) (n : Fin 4) (a : Nat) : Nat :=
  if 0xC00 ≤ a then a
  else
    match (List.range 64).find? (fun k =>
      let v := s.reg (.tsq n) (Reg.TSQ_PV + 4 * k)
      F.TSQ_PV_EN.get v == 1 && F.TSQ_PV_MATCH.get v == a) with
    | some k => 0xC00 + F.TSQ_PV_TARGET.get (s.reg (.tsq n) (Reg.TSQ_PV + 4 * k))
    | none => a

/-- The patch RAM word at an offset and its stored parity (R166). -/
def Sequencer.patchWord (q : Sequencer) (k : Nat) : BitVec 128 × BitVec 16 := Sparse.get (fun _ => (0, 0)) q.patch k

/-- The word at a fetch address, with its parity as read (R135, R162). -/
def State.storeWord (s : State) (n : Fin 4) (a : Nat) : BitVec 128 × BitVec 16 :=
  if a < 0xC00 then (Config.seqRom a, oddParity (Config.seqRom a)) else (s.sq n).patchWord (a - 0xC00)

/-- The sequencer fetches the word at an address; a parity failure that the repeat clears is a transient fault, a lasting
one a machine check (R140, R162). -/
def State.seqFetch (s : State) (n : Fin 4) (addr : Nat) (par : Parity) : State :=
  let a := s.vectored n (addr % 4096)
  let w := s.storeWord n a
  let s1 := (s.setSq n { s.sq n with word := w.1, par := w.2, pc := a, running := true, aluDone := false, evtDone := false,
                                     cmdDone := false, waitDone := false, alu := 0 }).setTim n { s.tim n with starts := 0 }
  if w.2 ≠ oddParity w.1 ∨ par = .lasting then s1.mcheck n (if a < 0xC00 then 1 else 2)
  else if par = .transient then s1.transient (.tsq n)
  else s1

end Sys2Proof.Machine
end

