-- ==== Sys2Proof/Machine/Resets.lean ====
section
/-! DEFINITION. Resets and their reach (R14 to R18, R43 to R49), the enable tree (R14), the power domains of the pools
(R53), the power states of NVM Express (R57 to R62) and the loss of power. -/

namespace Sys2Proof.Machine

/-! ### Work that a unit holds (R11, R14) -/

/-- A leaf, or a lane as fetcher of dispatches, holds outstanding work. -/
def State.ownWork (s : State) (u : UnitId) : Bool :=
  match u with
  | .lane n => (s.lane n).disps != [] || (s.lane n).reports != []
  | .chn n => (s.ch n).pins != [] || (s.ch n).due != [] || (s.ch n).results != [] || (s.ch n).job.isSome
      || (s.tim n).act != [] || (s.tim n).caps != []
  | .tsq n => (s.lane n).cur.isSome
  | .srv n => s.mode n == mSeek || s.mode n == mSettle || s.mode n == mLoading || s.mode n == mAcquire
      || s.mode n == mUnloading || s.mode n == mRetract
  | .ast n => (s.at n).arming || s.armed n
  | .buf => s.buf.ret.isSome || s.buf.range.isSome || s.buf.wbq != [] || s.buf.ctxs != []
  | .cmd => s.cmd.slots != []
  | .pep p => s.cmd.slots.any (fun (e : Nat × Slot) => s.fnPort e.2.fn == p)
  | .pool p => (s.pl p).cmo.isSome || (coresOf p).any s.coreRuns
  | .hzl => [0, 1, 2].any (fun c => s.rqs c != []) || (List.range 24).any (fun e => (s.rEng e).run.isSome)
  | .svc => s.svcs.handover.isSome || s.dev.warmInProgress
  | _ => false

/-- The unit, or a unit of its subtree, holds outstanding work. -/
def State.unitWork (s : State) (u : UnitId) : Bool := u.subtree.any s.ownWork

/-- A unit works without holding work that would have to end (R11): the spindle engine controls the motor in every mode but
OFF, STOPPED, COAST and FAULT, and the housekeeping engine samples (DEDUCED, log entry 115). -/
def State.runs (s : State) (u : UnitId) : Bool :=
  match u with
  | .spn => !(s.spMode == spOff || s.spMode == spStopped || s.spMode == spCoast || s.spMode == spFault)
  | .hkp => s.house.readings != []
  | _ => false

/-- The unit, or a unit of its subtree, works (R11). -/
def State.busy (s : State) (u : UnitId) : Bool := s.unitWork u || u.subtree.any s.runs

/-- UNIT_STAT as it reads (R11): STATE with BUSY for a unit that works, and the summaries over the subtree. -/
def State.statView (s : State) (u : UnitId) : Word :=
  let st := s.unitState u
  let shown := if st == stIdle && s.busy u then stBusy else st
  let any := fun (v : Nat) => bit (u.subtree.any (fun w => s.unitState w == v))
  BitVec.ofNat 32 (shown + 8 * bit (s.sumErr u) + 16 * any stReset + 32 * any stFault + 64 * any stDrain
    + 256 * u.children.length + 65536 * bit (s.f u F.UNIT_STAT_CFG_LOCK == 1))

/-! ### What a reset does in a unit besides its registers (R15, R47) -/

/-- A lane's reset: its dispatches are dropped and every cancel it owes is acknowledged; the clock runs at its reset divider. -/
def State.resetLane (s : State) (n : Fin 4) : State :=
  let legs := ((s.lane n).disps.filter (fun (d : Disp) => d.leg)).map (fun (d : Disp) => (d.slot, d.epoch))
  let s1 := s.setLane n { Lane.reset with nextId := (s.lane n).nextId, paLow := (s.lane n).paLow }
  let f := fun (c : Cancel) => { c with lanes := c.lanes.filter (· != n.val) }
  let s2 : State := { s1 with cmd := { s1.cmd with cancels := (s1.cmd.cancels.map f).filter (fun c => c.lanes != []) } }
  legs.foldl (fun t (i : Nat × Nat) => t.legEnded n i.1 i.2) (s2.capEnd (.transfer n.val))

/-- A channel's reset: a write in progress stops with cause 111b; samples and results are given up (R111, R127, R133). -/
def State.resetChn (s : State) (n : Fin 4) : State :=
  let s0 := if s.writing n then s.writeStop n wsReset else s
  let c := s0.ch n
  let lost := c.due ++ c.pins.map (fun (p : Pin) => p.ref) ++ c.results.map (fun (r : SectResult) => r.ref)
  let s1 := s0.setCh n Channel.reset
  let t := s1.tim n
  let gone := fun (r : SectRef) => { r with captured := false }
  let s2 := s1.setTim n { t with act := t.act.map gone, caps := t.caps.map gone }
  lost.foldl (fun u r => u.finish n r false) s2

/-- A track sequencer's reset: steps 1, 3 and 4 of R164 for a running dispatch; the patch RAM stays (R136, R165). -/
def State.resetTsq (s : State) (n : Fin 4) : State :=
  let s1 := if s.writing n then s.writeStop n wsMachine else s.haltTiming n false
  let s2 := (s1.disarm n).setSq n { Sequencer.reset with patch := (s1.sq n).patch }
  let s3 :=
    match (s2.lane n).cur with
    | none => s2
    | some d =>
      let l := s2.lane n
      let t := s2.setLane n { l with cur := none, cancelSeen := false, tails := l.tails ++ [{ d with ended := some 1 }] }
      ((t.ackCancels n d.slot).capEnd (.transfer n.val)).reportSettled n
  s3.setTim n { Timing.reset with winSeq := (s3.tim n).winSeq, act := (s3.tim n).act, caps := (s3.tim n).caps }

/-- A servo's reset: with heads loaded, the retract path takes the actuator, and the unit stays in RESET until the retract
ends (R48). -/
def State.resetSrv (s : State) (n : Fin 4) : State :=
  let s1 := if s.maybeOffRamp n && !(s.sv n).retract then s.hwRetract n false else (s.slockFall n).endSeekForMode n
  let v := s1.sv n
  s1.setSv n { Servo.reset with offRamp := v.offRamp, retract := v.retract, shockIn := v.shockIn, rIdsar := v.rIdsar }

/-- An assist controller's reset: Ln_AGATE falls and the set-points are zero; the life counters and KIND (RWL) stay (R7, R47,
R210). -/
def State.resetAst (s : State) (n : Fin 4) : State :=
  let s1 := s.disarm n
  let s2 := if s1.writing n then s1.writeStop n wsAssist else s1
  s2.setAt n { Assist.reset with life := (s2.at n).life, hdTab := (s2.at n).kinds }

/-- The spindle engine's reset: the six switches open and the spindle coasts (R49). -/
def State.resetSpn (s : State) : State :=
  { s.spOpen with spn := { Spindle.reset with stageIn := s.spn.stageIn } }

/-- The buffer unit's reset (R45, R47, R272, R282): DRAM that has been trained goes into self-refresh; suspended DMAs, and
those stalled on a retirement, end with an error; no state record is written; the copy stops and MOVING clears. -/
def State.resetBuf (s : State) : State :=
  let owners := (s.buf.ctxs.filter (fun (e : Nat × DmaCtx) => decide (e.2.req < 2))).map (fun (e : Nat × DmaCtx) => e.2.tag)
  let stalled := match s.buf.ret with
    | none => []
    | some (h, _) => (s.cmd.dma.filter (fun (e : Nat × Transfer) => e.2.handle == h)).map (fun (e : Nat × Transfer) => e.2.slot)
  let s1 := match s.buf.ret with
    | none => s
    | some (h, _) => s.setBtt h (s.btt h &&& ~~~ (BitVec.ofNat 32 (2 ^ 29)))
  let b := { Buffer.reset with poisoned := s1.buf.poisoned, flips := s1.buf.flips, sramBad := s1.buf.sramBad }
  (owners ++ stalled).foldl (fun (t : State) i => t.complete i .internalError)
    (({ s1 with buf := b } : State).setF .buf F.BUF_STAT_SELF_REF (bit (s.on .buf F.BUF_STAT_TRAINED)))

/-- One slot after a reset of the command engine (R569): before its commit point it is discarded, its granules and locks go,
and it is FREE unless R326 holds it in DRAIN. -/
def State.wipeSlot (s : State) (i : Nat) : State :=
  let s1 := s.discardSlot i
  match s1.slot? i with
  | none => s1
  | some x =>
    let s2 :=
      if x.st = .discard then
        let t := s1.releaseWrite i
        let t1 := t.setSlot i { (t.slot? i).getD x with st := .drain, lock := none }
        if x.anyWrite && x.decoded then t1.voidFinish (sqeNsid x.sqe) x.zoneOf else t1
      else s1
    match s2.slot? i with
    | none => s2
    | some y =>
      if y.st = .drain && !s2.drainHeld i y then
        { s2 with cmd := { s2.cmd with slots := Sparse.erase s2.cmd.slots i,
                                       legMark := s2.cmd.legMark.filter (· != i) } }
      else s2

/-- The command engine's reset (R569); CMD_FN_QUOTA is RWL and stays (R7). -/
def State.resetCmd (s : State) : State :=
  let s0 : State := { s with cmd := { s.cmd with stopped := false } }
  let s1 := ((List.range 64).filter s0.fnExists).foldl State.ctrlReset s0
  let s2 := (s1.cmd.slots.map Prod.fst).foldl State.wipeSlot s1
  let c := s2.cmd
  let s3 : State := { s2 with cmd := { CmdEngine.reset with
    slots := c.slots, epochs := c.epochs, cancels := c.cancels, trackers := c.trackers, legMark := c.legMark,
    nextOrder := c.nextOrder, freeRuns := c.freeRuns, exts := c.exts, idle := c.idle, nextSeqno := c.nextSeqno, posted := c.posted,
    workQ := c.workQ.filter (fun (w : WorkEntry) => w.kind == 1), quota := c.quota } }
  (List.range 64).foldl (fun t f => if (t.ctrl f).rdy then t.setCtrl f { t.ctrl f with rdy := false } else t) s3

/-- A pool's reset (R401, R393): dirty data is lost, the mailbox is emptied, its cores are held, lockouts end; with the domain
switched on, its memories are zero. -/
def State.resetPool (s : State) (p : Fin 2) (domain : Bool) : State :=
  let s1 := (s.loseLines (fun x => x.inPool p)).dropLines (fun x => x.cache.isI && x.cache.pool == p)
  let s2 := s1.mbxDrop (.pool p)
  let mine := fun (k : Nat) => (coresOf p).any (fun c => k / 2 ^ 16 == c.val)
  let s3 := s2.setPl p { Pool.reset with tcmBad := if domain then [] else (s2.pl p).tcmBad }
  let s4 : State := if domain then { s3 with tcm := s3.tcm.filter (fun (e : Nat × Word) => !mine e.1) } else s3
  let c := fun (t : Nat) => (coresOf p).any (fun x => x.val == t)
  { s4 with irq := { s4.irq with service := s4.irq.service.filter (fun (e : Nat × Nat) => !c e.2)
                                 delivered := s4.irq.delivered.filter (fun (e : Nat × Nat) => !c e.2) } }

/-- The enclave's reset: the key store stays, sessions end, round engines stop; requests stay to be answered after the restart
(R423, R433, R47). -/
def State.resetHzl (s : State) : State :=
  let h := s.hzl
  { s with hzl := { Enclave.reset with
    reqs := h.reqs, owed := h.owed, keys := h.keys, ranges := h.ranges, sealVer := h.sealVer, sealCtr := h.sealCtr,
    block := h.block, seqRsv := h.seqRsv, meas := h.meas, entropyBad := h.entropyBad } }

/-- After the restart, requests that have taken no effect complete with status 09h (R423). -/
def State.answerReset (s : State) : State :=
  [0, 1, 2].foldl (fun (t : State) c =>
    let owed := (t.rqs c).filter (fun (r : HzlReq) =>
      !t.hzl.keys.any (fun (e : Nat × KeySlot) => match e.2.inProg with | some o => o.chan == c && o.addr == r.addr | none => false))
    owed.foldl (fun (u : State) (r : HzlReq) => u.finishReq c r.addr hsReset []) t) s

/-- The housekeeping unit's reset leaves the always-on input latches and the thermal trip (R47). -/
def State.resetHkp (s : State) : State :=
  { s with house := { House.reset with shockMask := s.house.shockMask, pfailRaw := s.house.pfailRaw, tripped := s.house.tripped } }

/-- The action of a reset in one unit. -/
def State.unitAction (s : State) (u : UnitId) : State :=
  match u with
  | .lane n => s.resetLane n
  | .chn n => s.resetChn n
  | .tsq n => s.resetTsq n
  | .srv n => s.resetSrv n
  | .ast n => s.resetAst n
  | .spn => s.resetSpn
  | .buf => s.resetBuf
  | .cmd => s.resetCmd
  | .pep p => s.portReset p
  | .pool p => s.resetPool p false
  | .hzl => s.resetHzl
  | .hkp => s.resetHkp
  | .svc => { s with svcs := { Service.reset with strapBoot := s.svcs.strapBoot, xferSeq := s.svcs.xferSeq } }
  | .dev => { s with irq := Router.reset }
  | _ => s

/-- Registers that a reset of the unit keeps besides the RWS and RWL fields: the state of the root PLL, the patch vectors,
what the DRAM's training left and the patrol's place, the always-on latches, OTP, the state of the vault's NAND (DEDUCED, log
entry 34), the strap, the timing unit's AG as AST_STAT shows it (R224), and a retract in progress (R45, R47, R48). -/
def State.keptRegs (s : State) (u : UnitId) : List (Nat × Word) :=
  match u with
  | .dev => [(Reg.DEV_CLK_STAT, s.reg u Reg.DEV_CLK_STAT)]
  | .tsq _ => (List.range 64).map (fun i => (Reg.TSQ_PV + 4 * i, s.reg u (Reg.TSQ_PV + 4 * i)))
  | .buf => [Reg.BUF_STAT, Reg.BUF_SCRUB_LAP, Reg.BUF_SCRUB_POS].map (fun o => (o, s.reg u o))
  | .hzl => [(Reg.HZL_SVN, s.reg u Reg.HZL_SVN)]
  | .svc => [Reg.SVC_VLT_STAT, Reg.SVC_VLT_CAP_A, Reg.SVC_VLT_CAP_B].map (fun o => (o, s.reg u o))
  | .hkp => [(Reg.HKP_IN_STAT, s.reg u Reg.HKP_IN_STAT)]
  | .ast n => [(Reg.AST_STAT, F.AST_STAT_AG.put 0 (bit (s.tim n).ag))]
  | .srv n => if s.mode n = mRetract then [(Reg.SRV_STAT, s.reg u Reg.SRV_STAT), (Reg.SRV_VCM_OUT, s.reg u Reg.SRV_VCM_OUT)] else []
  | .pep _ => [(Reg.PEP_STAT, F.PEP_STAT_STRAP.put 0 (s.f u F.PEP_STAT_STRAP))]
  | _ => []

/-- The unit enters RESET (R15): its action, its registers, its latches (R4). -/
def State.enterReset (s : State) (u : UnitId) : State :=
  let s1 := (s.unitAction u).mbxDrop u
  let kept := s1.keptRegs u
  let s2 := kept.foldl (fun t (e : Nat × Word) => t.setReg u e.1 e.2) ((s1.resetRegs u).clearLatches u)
  let s3 := match u with
    | .pool p => (coresOf p).foldl (fun (t : State) c =>
        (t.setBits u Reg.POOL_CTL (coreBit c)).setBits u Reg.POOL_STAT (coreBit c)) s2
    | .srv n => if s2.mode n = mRetract then s2 else s2.enterMode n mOff
    | _ => s2
  s3.setUnitState u stReset

/-- A unit and its subtree enter RESET, the leaves first (R15, R16). -/
def State.resetTree (s : State) (u : UnitId) : State := (u.subtree.reverse).foldl State.enterReset s

/-! ### Warm and cold resets (R43 to R46) -/

/-- The bit of DEV_RST_CAUSE of a warm reset (R52). -/
def warmBit : WarmCause → Nat
  | .service => 2 | .watchdog => 3 | .subsystem => 4

/-- A handover or its probation is abandoned: RESULT 8h (R462). -/
def State.abandonHandover (s : State) : State :=
  match s.svcs.handover with
  | none => s
  | some h =>
    let s1 := ({ s with svcs := { s.svcs with handover := none } } : State).setReg .svc Reg.SVC_FW_RES
      (BitVec.ofNat 32 (2 ^ 31 + 8 * 2 ^ 24 + bit h.defaulted * 2 ^ 16 + h.slotN * 2 ^ 12 + h.slotO * 2 ^ 8))
    ((s1.setF .svc F.SVC_FW_STAT_PHASE 0).setF .svc F.SVC_FW_STAT_REVERT 0).setF .svc F.SVC_FW_STAT_PROB_S 0

/-- A warm reset: every unit resets, both links go down; DEV_RST_CAUSE and DEV_WARM_CNT are rewritten (R43, R50, R52). -/
def State.warmReset (s : State) (c : WarmCause) : State :=
  let s1 := s.abandonHandover.resetTree .dev
  let s2 := (s1.setReg .dev Reg.DEV_RST_CAUSE (BitVec.ofNat 32 (2 ^ warmBit c))).countSat .dev Reg.DEV_WARM_CNT
  { s2 with dev := { s2.dev with caps := [], ps := 0, lastOp := 0, psWanted := none, psParked := [], psStopped := false, latches := [],
                                 warmInProgress := true, diePause := false, mediaPause := false, shutdown := false, saveArmed := false }
            vault := { s2.vault with saving := none, repeated := false, erasing := [], stopped := false }
            hosts := { s2.hosts with mgmt := Mgmt.reset, place := { s2.place with comp := none } } }

/-- WARM_RESET (R43). -/
def execWarmReset (c : WarmCause) (s : State) : Host.Outcome State Fault Refusal := done s (fun s => s.warmReset c)

/-- NVM_SUBSYSTEM_RESET: written by a host through one of its controllers (R43, R45). -/
def execNvmSubsystemReset (fn : Fin 64) (s : State) : Host.Outcome State Fault Refusal :=
  done s (fun s => s.when (s.fnExists fn.val && s.linkIsUp (s.fnPort fn.val)) (s.warmReset .subsystem))

/-- The bytes that no supply holds: all but the NOR window's (R31, R283, R568). -/
def keepNor (m : List Host.Cell) : List Host.Cell := m.filter (fun (c : Nat × Byte) => inNor c.1)

/-- Every lane whose stack may be off the ramp is with its hardware retract path (R48). -/
def State.retractLoaded (s : State) : State :=
  lanes4.foldl (fun (t : State) n => if t.maybeOffRamp n && t.mode n != mRetract then t.hwRetract n false else t) s

/-- The retracts in progress go on while a reset has taken the rest of the state: each such servo unit is in RESET until its
retract has ended (R48, R517). -/
def State.carryRetracts (s t : State) : State :=
  lanes4.foldl (fun (u : State) n =>
    if s.mode n = mRetract then
      ((((u.setReg (.srv n) Reg.SRV_STAT (s.reg (.srv n) Reg.SRV_STAT)).setReg (.srv n) Reg.SRV_VCM_OUT
        (s.reg (.srv n) Reg.SRV_VCM_OUT)).setSv n
          { Servo.reset with retract := true, offRamp := true, rIdsar := (s.sv n).rIdsar })).setUnitState (.srv n) stReset
    else u) t

/-- The cold reset reaches everything but what NOR, the vault's NAND, one-time fuses and drive metadata hold, a hardware
retract while the rails stand (R48), the outside world's inputs and this model's own counters (R43; DEDUCED, log entry 34). -/
def State.coldReset (s0 : State) (cause : Nat) (p : Power) : State :=
  let s := if p = .off then s0 else s0.retractLoaded
  let t : State := { State.reset with
    mem := keepNor s.mem
    vault := { Vault.reset with saveA := s.vault.saveA, saveB := s.vault.saveB, lost := s.vault.lost }
    hosts := { Hosts.reset with namespaces := s.hosts.namespaces, zones := s.hosts.zones, freeBands := s.hosts.freeBands,
                                spareSlots := s.hosts.spareSlots, allSlots := s.hosts.allSlots,
                                place := { s.place with comp := none }, life := s.hosts.life,
                                clean := s.hosts.clean, thermEvent := s.hosts.thermEvent }
    house := { House.reset with shockMask := false, pfailRaw := s.house.pfailRaw }
    dev := { Device.reset with power := p }
    freeCtr := s.freeCtr
    pending := s.pending }
  let t1 := (t.setReg .dev Reg.DEV_RST_CAUSE (BitVec.ofNat 32 (2 ^ cause))).setReg .hzl Reg.HZL_SVN (s.reg .hzl Reg.HZL_SVN)
  if p = .off then t1 else s.carryRetracts t1

/-- PWRON_N_FALL: the device is held in cold reset (R43, R56). -/
def execPwronNFall (s : State) : Host.Outcome State Fault Refusal :=
  leave s (s.coldReset 0 .coldHeld)

/-- UNPLANNED_POWER_LOSS: the rails collapse, and the device stops until a cold start (R56, R549). -/
def execUnplannedPowerLoss (s : State) : Host.Outcome State Fault Refusal :=
  leave s (s.coldReset 0 .off)

/-! ### Unit resets (R15 to R18) -/

/-- The unit's own rule on a write of RST (R17). -/
def resetRefused (e : Engine) (u : UnitId) : Option BusCause :=
  if e = .service ∧ u = .dev then none
  else if u.subtree.contains (engUnit e) then some .accessDenied
  else if (u = .hzl ∨ u = .svc ∨ u = .dev) ∧ e ≠ .service then some .accessDenied
  else none

/-- A reset of a pool by its own RST keeps its enable, and so its domain on (R53; DEDUCED, log entry 36). -/
def State.poolReset (s : State) (p : Fin 2) : State :=
  (s.enterReset (.pool p)).setF (.pool p) F.UNIT_CTL_EN (bit (s.en (.pool p)))

/-- UNIT_RESET: the EN written with RST is discarded; the service core's write to the device group is a warm reset
(R15 to R17). -/
def State.unitReset (s : State) (e : Engine) (u : UnitId) : State :=
  s.gate u (resetRefused e u)
    (match u with
     | .dev => s.warmReset .service
     | .pool p => s.poolReset p
     | _ => s.resetTree u)

/-- UNIT_RESET (R15). -/
def execUnitReset (eng : Engine) (u : UnitId) (_en : Bool) (s : State) : Host.Outcome State Fault Refusal :=
  done s (fun s => (s.unitReset eng u).toRequester eng .store (regAddr u Reg.UNIT_CTL))

/-- The mode that a spindle whose enable has risen finds: by its speed, or FAULT with a fault latched that was accepted while it
was off (R241, R254). -/
def State.spEnabled (s : State) : State :=
  if s.reg .spn Reg.SPN_FLT_STAT &&& 0x7F = 0 then s.spRelease
  else (s.spEnter Machine.spFault).setUnitState .spn stFault

/-- The unit leaves OFF, or RESET with EN at 1, for IDLE: the engine's first mode, and the
sequencer's first word, at the reset vector (R161, R165, R181, R241, R261). -/
def State.enterIdle (s : State) (u : UnitId) : State :=
  let t := s.setUnitState u stIdle
  match u with
  | .srv n => t.enterMode n mParked
  | .tsq n => if (t.sq n).running then t else t.seqFetch n 0 .ok
  | .spn => t.spEnabled
  | _ => t

/-- UNIT_RESET_COMPLETE: a leaf whose actions have ended, or a group whose subtree has left RESET; a servo waits for its
retract, and a pool whose domain has just switched on for its memories (R15, R47, R48, R53). -/
def State.resetComplete (s : State) (u : UnitId) : State :=
  if !s.inReset u then s.ignore
  else if u.isGroup && u.subtree.any (fun v => v != u && s.inReset v) then s.wait
  else if (match u with | .srv n => s.mode n == mRetract | _ => false) then s.wait
  else
    let s1 := if s.effEn u then s.enterIdle u else s.setUnitState u stOff
    match u with
    | .srv n => if s.effEn u then s1 else s1.enterMode n mOff
    | .hzl => s1.answerReset
    | .buf => s1.setF .buf F.BUF_STAT_SELF_REF 0
    | .pep p => if p = 1 ∧ (!s1.split ∨ s1.svcs.chrysalis) then s1.setUnitState u stParked else s1
    | _ => s1

/-! ### Enables (R14, R53, R182) -/

/-- Every core of a pool is held (R53). -/
def State.holdAll (s : State) (p : Fin 2) : State :=
  (coresOf p).foldl (fun (t : State) c =>
    (t.setBits (.pool p) Reg.POOL_CTL (coreBit c)).setBits (.pool p) Reg.POOL_STAT (coreBit c)) s

/-- A pool's domain switches off: what its memories and caches held is lost (R53). -/
def State.poolOff (s : State) (p : Fin 2) : State := ((s.resetPool p true).setUnitState (.pool p) stOff).holdAll p

/-- The unit enters OFF. -/
def State.enterOff (s : State) (u : UnitId) : State :=
  match u with
  | .pool p => s.poolOff p
  | .srv n => (s.setUnitState u stOff).enterMode n mOff
  | .spn => ((s.setF .spn F.SPN_STAT_CHOP_ON 0).spEnter spOff).setUnitState u stOff
  | _ => s.setUnitState u stOff

/-- The effective enable of a unit has fallen (R14, R182): DRAIN with outstanding work, else OFF; a servo off the ramp hands
its actuator to the retract path; a unit in FAULT, RESET or PARKED stays so. -/
def State.enableFall (s : State) (u : UnitId) : State :=
  let st := s.unitState u
  match u with
  | .srv n =>
    if st = stFault then (if s.maybeOffRamp n && s.mode n != mRetract then s.hwRetract n false else s)
    else if st = stIdle then
      if s.mode n = mRetract then s.setUnitState u stDrain
      else if s.maybeOffRamp n then (s.setUnitState u stDrain).hwRetract n false
      else s.enterOff u
    else s
  | .spn => if st = stIdle then s.enterOff u else s
  | _ =>
    if st = stIdle then (if s.unitWork u then s.setUnitState u stDrain else s.enterOff u) else s

/-- The effective enable of a unit has risen (R14, R53): from OFF to IDLE, a pool by way of RESET with its memories zeroed. -/
def State.enableRise (s : State) (u : UnitId) : State :=
  if s.unitState u = stOff then
    match u with
    | .pool p => ((s.resetPool p true).holdAll p).setUnitState u stReset
    | .pep p => if p = 1 ∧ !s.split then s else s.enterIdle u
    | _ => s.enterIdle u
  else s

/-- EN of a unit takes a value, and the units of its subtree follow their effective enable (R14). -/
def State.enableSet (s : State) (u : UnitId) (en : Bool) : State :=
  let s1 := s.setF u F.UNIT_CTL_EN (bit en)
  (u.subtree.reverse).foldl
    (fun t v => if s.effEn v == s1.effEn v then t else if s1.effEn v then t.enableRise v else t.enableFall v) s1

/-- UNIT_ENABLE_CHANGE (R14). -/
def execUnitEnableChange (eng : Engine) (u : UnitId) (en : Bool) (s : State) : Host.Outcome State Fault Refusal :=
  done s (fun s => s.access eng .store u Reg.UNIT_CTL none (s.enableSet u en))

/-- UNIT_DRAIN_END: a unit whose outstanding work has ended enters OFF, or IDLE where its enable has risen again (R14); a
pool's transactions have all completed (R53). -/
def State.drainEnd (s : State) (u : UnitId) : State :=
  if s.unitState u != stDrain then s.ignore
  else
    let held := match u with
      | .pool p => (s.pl p).cmo.isSome
      | .srv n => s.mode n == mRetract
      | _ => s.unitWork u
    if held then s.wait
    else if s.effEn u then s.enterIdle u
    else s.enterOff u

/-- UNIT_DRAIN_END (R14). -/
def execUnitDrainEnd (u : UnitId) (s : State) : Host.Outcome State Fault Refusal := done s (fun s => s.drainEnd u)

/-! ### Port resets (R43, R365, R367) -/

/-- PERST_ASSERT (R43). -/
def execPerstAssert (p : Fin 2) (s : State) : Host.Outcome State Fault Refusal :=
  done s (fun s => s.when (!(s.port p).perst)
    (let s1 := s.portReset p
     s1.setPort p { s1.port p with perst := true }))

/-- PERST_DEASSERT: the port reset ends, and training may start (R43, R359). -/
def execPerstDeassert (p : Fin 2) (s : State) : Host.Outcome State Fault Refusal :=
  done s (fun s => s.when (s.port p).perst (s.setPort p { s.port p with perst := false }))

/-- HOT_RESET (R43). -/
def execHotReset (p : Fin 2) (s : State) : Host.Outcome State Fault Refusal :=
  done s (fun s => s.when (s.linkIsUp p) (s.portReset p))

/-! ### Fabric time-outs (R28) -/

/-- FABRIC_TIMEOUT: the transaction ends with the cause "timeout", and the requesting unit sets TIMEOUT (R28); a core takes
the bus error as a precise access fault, and a command completes with Internal Error (R29, R534). -/
def State.fabricTimeout (s : State) (w : TimedOut) : State :=
  match w with
  | .unit u => s.when (!s.inReset u) ((s.err u eTimeout).answer (.busError .timeout))
  | .core c k a => s.when (s.coreRuns c) ((s.err (.pool (poolOf c)) eTimeout).coreFault c (kindCode k) .timeout a)
  | .command i => s.when (s.slot? i).isSome ((s.err .cmd eTimeout).complete i .internalError)

/-- FABRIC_TIMEOUT (R28). -/
def execFabricTimeout (w : TimedOut) (s : State) : Host.Outcome State Fault Refusal :=
  done s (fun s => s.fabricTimeout w)

/-! ### Power caps and power states (R57 to R62) -/

/-- A write of DEV_PWR_CAP: the level holds for work that starts after it, and a looser one frees held messages at once; what
else is held is looked at again by its own command (R57, R60). -/
def State.capWrite (s : State) (v : Word) : State := s.setCapLevel (F.DEV_PWR_CAP_LEVEL.get v)

/-- PWR_CAP_WRITE (R60). -/
def execPwrCapWrite (eng : Engine) (v : Word) (s : State) : Host.Outcome State Fault Refusal :=
  done s (fun s => s.access eng .store .dev Reg.DEV_PWR_CAP none (s.capWrite v))

/-- A pool's domain is on: its effective enable is 1, or it still drains (R53). -/
def State.domainOn (s : State) (p : Fin 2) : Bool := s.effEn (.pool p) || s.unitState (.pool p) == stDrain

/-- DEV_PWR_STAT as it reads (R53, R59). -/
def State.pwrStat (s : State) : Word :=
  BitVec.ofNat 32 (s.capLevel + 4 * bit (s.capSettling || s.msgSettling) + 256 * bit (s.domainOn 0) + 512 * bit (s.domainOn 1))

/-- Every lane in closed loop unloads (R196, R198). -/
def State.unloadAll (s : State) : State :=
  lanes4.foldl (fun t n => if closedLoop (t.mode n) then t.beginUnload n else t) s

/-- The lanes in closed loop, which a non-operational power state unloads and the return from it loads (R61). -/
def State.loadedLanes (s : State) : List Nat := (lanes4.filter (fun n => closedLoop (s.mode n))).map Fin.val

/-- No stack is off the ramp. -/
def State.allParked (s : State) : Bool := lanes4.all (fun n => !s.maybeOffRamp n && s.mode n != mRetract)

/-- A power state is in force, with its cap level (R61). -/
def State.psSet (s : State) (ps last level : Nat) (wanted : Option Nat) : State :=
  ({ s with dev := { s.dev with ps := ps, lastOp := last, psWanted := wanted } } : State).setCapLevel level

/-- PS4 stops the spindle, which the return from it starts again (R61). -/
def State.psStop (s : State) : State :=
  if s.takes .spn && !(s.spMode == spStopped) then
    { s.spStop with dev := { s.spStop.dev with psStopped := true } }
  else s

/-- A power state is entered (R61, R62): PS4 only after dirty granules are on media, where a volatile cache is reported; the
spindle stops after the heads are unloaded, and the life counters are persisted (R547).  While the write window keeps dirty
granules from media, the device waits for PS4 in PS3 (R217).  A return to an operational state starts the spindle and loads
the heads. -/
def State.enterPs (s : State) (ps : Nat) (ok : State → State) : State :=
  let want : State := { s with dev := { s.dev with psWanted := some ps, psParked := s.loadedLanes.foldl addOnce s.dev.psParked } }
  if ps < 3 then ok (s.psSet ps ps ps none).wakeMedia
  else if ps = 4 ∧ !s.vaultFitted ∧ s.dirtyGranules ≠ 0 then
    (if !s.windowClosed || s.dev.ps == 3 then want
     else if !s.allParked then want.unloadAll
     else want.psSet 3 s.dev.lastOp 3 (some 4)).wait
  else if !s.allParked then want.unloadAll.wait
  else
    let t := s.psSet ps s.dev.lastOp 3 none
    ok (if ps < 4 then t else t.psStop.lifePersist)

/-- SET_POWER_MANAGEMENT (R61, R62). -/
def State.setPower (s : State) (ps : Nat) : State :=
  if s.svcs.chrysalis then s.answer (.status .invalidOpcode)
  else if 5 ≤ ps then s.answer (.status .invalidField)
  else s.enterPs ps (fun t => t.answer (.status .success))

/-- SET_POWER_MANAGEMENT (R61). -/
def execSetPowerManagement (fn : Fin 64) (ps : Nat) (s : State) : Host.Outcome State Fault Refusal :=
  done s (fun s => s.admin fn.val (s.setPower ps))

/-- APST_TRANSITION: into PS3 or PS4, from an operational state or from PS3 (R62). -/
def execApstTransition (ps : Nat) (s : State) : Host.Outcome State Fault Refusal :=
  done s (fun s => s.when (decide ((ps = 3 ∨ ps = 4) ∧ s.dev.ps < ps) && !s.svcs.chrysalis) (s.enterPs ps id))

end Sys2Proof.Machine
end

