-- ==== Sys2Proof/Machine/Vault.lean ====
section
/-! DEFINITION. The power-loss vault (R46, R310 to R323, R519) and the PFAIL_N input (R524). -/

namespace Sys2Proof.Machine

/-! ### Areas (R314) -/

/-- The fields of SVC_VLT_STAT and SVC_VLT_CAP of an area: 0 A, 1 B. -/
def armedField (a : Nat) : Field := if a = 0 then F.SVC_VLT_STAT_ARMED_A else F.SVC_VLT_STAT_ARMED_B
/-- SAVE_A or SAVE_B. -/
def saveField (a : Nat) : Field := if a = 0 then F.SVC_VLT_STAT_SAVE_A else F.SVC_VLT_STAT_SAVE_B
/-- CAP_A or CAP_B. -/
def capField (a : Nat) : Field := if a = 0 then F.SVC_VLT_CAP_A_MIB else F.SVC_VLT_CAP_B_MIB
/-- PROT: the protecting area. -/
def State.protArea (s : State) : Nat := s.f .svc F.SVC_VLT_STAT_PROT
/-- The unconsumed save of an area. -/
def State.saveOf (s : State) (a : Nat) : Option Save := if a = 0 then s.vault.saveA else s.vault.saveB
/-- The save of an area replaced, with SAVE_A or SAVE_B. -/
def State.setSave (s : State) (a : Nat) (x : Option Save) : State :=
  let v := if a = 0 then { s.vault with saveA := x } else { s.vault with saveB := x }
  ({ s with vault := v } : State).setF .svc (saveField a) (bit x.isSome)

/-- Bit 4 of Critical Warning follows the protection (R312). -/
def State.vaultCrit (s : State) : State :=
  if !s.vaultFitted then s else if s.effLim = 0 then s.setCrit 4 else s.clrCrit 4

/-- An area is to be erased: it is not armed, and ERASING reads 1 (R314). -/
def State.eraseArea (s : State) (a : Nat) : State :=
  (({ s with vault := { s.vault with erasing := addOnce s.vault.erasing a } } : State).setF .svc (armedField a) 0).setF .svc
    F.SVC_VLT_STAT_ERASING 1

/-- VAULT_AREA_ERASE: the protecting area, or one with an unconsumed save, is not erased, and CONFIG sets (R323). -/
def State.vaultErase (s : State) (v : Word) : State :=
  let a := F.SVC_VLT_CMD_AREA.get v
  if F.SVC_VLT_CMD_GO.get v = 0 then s
  else if a = s.protArea ∨ (s.saveOf a).isSome then s.err .svc eConfig
  else (s.eraseArea a).vaultCrit

/-- The vault's registers are reached by the application cores and the service core (R322). -/
def vaultGate (e : Engine) : Option BusCause := if engMain e then none else some .accessDenied

/-- VAULT_AREA_ERASE (R323). -/
def execVaultAreaErase (eng : Engine) (v : Word) (s : State) : Host.Outcome State Fault Refusal :=
  done s (fun s => s.access eng .store .svc Reg.SVC_VLT_CMD (vaultGate eng) (s.vaultErase v))

/-- AREA_ERASE_DONE: the area is armed with its good capacity; it protects if the protecting area is not armed (R314, R320). -/
def State.areaErased (s : State) (mib : Nat) : State :=
  match s.vault.erasing with
  | [] => s.ignore
  | a :: t =>
    let s1 : State := { s with vault := { s.vault with erasing := t } }
    let s2 := ((s1.setF .svc (armedField a) 1).setF .svc (capField a) mib).setF .svc F.SVC_VLT_STAT_ERASING (bit (t != []))
    let s3 := if s2.on .svc (armedField s2.protArea) then s2 else s2.setF .svc F.SVC_VLT_STAT_PROT a
    s3.vaultCrit

/-- AREA_ERASE_DONE (R314). -/
def execAreaEraseDone (mib : Nat) (s : State) : Host.Outcome State Fault Refusal := done s (fun s => s.areaErased mib)

/-! ### The save (R315 to R319) -/

/-- The granules of a dirty extent, with their tags (R315). -/
def State.extGrans (s : State) (e : Extent) : List SavedGran :=
  (List.range e.count).map (fun i =>
    let w := s.btt (e.handle + i)
    ⟨e.nsx + 1, e.slba + i, bttPoison w, if bttValid w then s.granuleData (bttPpn w) false else []⟩)

/-- The dirty granules in extent order. -/
def State.dirtyGrans (s : State) : List SavedGran :=
  (s.cmd.exts.filter (fun (e : Nat × Extent) => e.2.dirty)).flatMap (fun (e : Nat × Extent) => s.extGrans e.2)

/-- The writes of a zone accepted and not completed, as runs from the zone's start. -/
def State.openRuns (s : State) (nsid z : Nat) : List (Nat × Nat) :=
  (s.cmd.slots.filter (fun (e : Nat × Slot) => e.2.st.isOpen && e.2.anyWrite && e.2.decoded && e.2.nearZone nsid z)).map
    (fun (e : Nat × Slot) => (e.2.lba % zoneSize, sqeCount e.2.sqe))

/-- The write pointer brought down past the open writes that end at it. -/
def trimWp (fuel wp : Nat) (l : List (Nat × Nat)) : Nat :=
  match fuel with
  | 0 => wp
  | fuel + 1 =>
    match l.find? (fun r => decide (0 < r.2) && r.1 + r.2 == wp) with
    | some r => trimWp fuel r.1 l
    | none => wp

/-- A zone record frozen for the save: WP at the end of the highest completed write, void runs below it (R316). -/
def State.frozenZone (s : State) (k : Nat) (x : Zone) : Zone :=
  let runs := s.openRuns (k / 2 ^ 20) (k % 2 ^ 20)
  let wp := trimWp runs.length x.wp runs
  (runs.filter (fun r => decide (r.1 + r.2 ≤ wp))).foldl (fun (y : Zone) r => { y with void := addRun y.void r.1 r.2 }) { x with wp := wp }

/-- The save begins in the protecting area (R315, R316). -/
def State.beginSave (s : State) : State :=
  let g := s.dirtyGrans
  let zones := s.hosts.zones.map (fun (e : Nat × Zone) => (e.1, s.frozenZone e.1 e.2))
  let x : Save := ⟨s.reg64 .svc Reg.SVC_VLT_SEQ_LO + 1, g.length, false, g, zones, s.vault.lost⟩
  let s1 : State := { s with vault := { s.vault with saving := some x } }
  (s1.setReg64 .svc Reg.SVC_VLT_SEQ_LO x.seq).lifePersist

/-- A save is armed: the service core has armed it, and the protecting area is erased (R46, R489). -/
def State.saveReady (s : State) : Bool := s.dev.saveArmed && s.vaultFitted && s.on .svc (armedField s.protArea)

/-- The pool that does not save: pool 1, and pool 0 between the switch of a handover and its return (R316, R461). -/
def State.heldPool (s : State) : Fin 2 :=
  match s.svcs.handover with
  | some h => if h.step = 6 then 0 else 1
  | none => 1

/-- The clean stop of a pool: every core held and swept, every dirty line written back (R410). -/
def State.cleanStop (s : State) (p : Fin 2) : State :=
  let s1 := (coresOf p).foldl (fun t c =>
    let u := t.hold c
    if u.heldBit c then u else u.held c) s
  s1.cleanLines (fun x => x.inPool p)

/-- A clean stop; then the service core clears the pool's EN, and its domain is off (R53, R316, R410). -/
def State.holdPool (s : State) (p : Fin 2) : State := ((s.cleanStop p).setF (.pool p) F.UNIT_CTL_EN 0).poolOff p

/-- PFAIL_ACCEPT: the latch, the retracts, the regeneration and the save, once (R46, R198, R250, R316, R524). -/
def State.pfailAccept (s : State) : State :=
  let s0 : State := { s with house := { s.house with pfailRaw := true } }
  if s.on .hkp F.HKP_IN_STAT_PFAIL_LATCH then s0
  else
    let s1 := ({ s0 with cmd := { s0.cmd with stopped := true } } : State).setF .hkp F.HKP_IN_STAT_PFAIL_LATCH 1
    let s2 := (s1.retractAll).spPowerLoss
    if s2.saveReady && s2.vault.saving.isNone then (s2.beginSave).holdPool s2.heldPool
    else if s2.vault.saving.isNone && s2.dev.warmInProgress && s2.spMode == spRegen then s2.spCoastCmd
    else s2

/-- PFAIL_ACCEPT (R316). -/
def execPfailAccept (s : State) : Host.Outcome State Fault Refusal := done s State.pfailAccept

/-- PAGE_PROGRAM_FAIL: a program that its repeat saves is a transient fault; else its granules enter the lost list (R317). -/
def State.pageFail (s : State) (gs : List Nat) (again : Bool) : State :=
  match s.vault.saving with
  | none => s.ignore
  | some x =>
    if again then s.transient .svc
    else
      let bad := (x.grans.zipIdx.filter (fun (g : SavedGran × Nat) => gs.contains g.2)).map (fun (g : SavedGran × Nat) => (g.1.nsid, g.1.lba))
      let keep := x.grans.filter (fun (g : SavedGran) => !bad.contains (g.nsid, g.lba))
      ({ s with vault := { s.vault with saving := some { x with grans := keep, lost := x.lost ++ bad } } } : State).lasting .svc

/-- PAGE_PROGRAM_FAIL (R317). -/
def execPageProgramFail (grans : List Nat) (again : Bool) (s : State) : Host.Outcome State Fault Refusal :=
  done s (fun s => s.pageFail grans again)

/-- The save as its closing record leaves it: PARTIAL when HOLDUP_LOW cut it, with the rest on the lost list (R317, R318). -/
def Save.closed (x : Save) (low : Bool) (saved : Nat) : Save :=
  if low && decide (saved < x.grans.length) then
    { x with partialSave := true, grans := x.grans.take saved,
             lost := x.lost ++ (x.grans.drop saved).map (fun (g : SavedGran) => (g.nsid, g.lba)) }
  else x

/-- SVC_VLT_SAVE_STAT after a save (R323). -/
def State.saveStat (s : State) (x : Save) : State :=
  ((((s.setF .svc F.SVC_VLT_SAVE_STAT_VALID 1).setF .svc F.SVC_VLT_SAVE_STAT_PARTIAL (bit x.partialSave)).setF .svc
    F.SVC_VLT_SAVE_STAT_LOST (bit (x.lost != []))).setF .svc F.SVC_VLT_SAVE_STAT_GRANULES
    (min x.grans.length 524288)).count64 .svc Reg.SVC_VLT_CNT_SAVE_LO

/-- The PFAIL latch clears, and with it PLOSS (R253, R524). -/
def State.pfailCleared (s : State) : State := (s.setF .hkp F.HKP_IN_STAT_PFAIL_LATCH 0).spPowerBack

/-- SAVE_COMPLETE: the area holds the save; after a power loss the service core writes COAST, and then starts a warm reset or
stops every unit but its own and the housekeeping unit; during a thermal shutdown, R516's last step follows
(R316, R319, R519). -/
def State.saveComplete (s : State) (saved : Nat) (high : Bool) : State :=
  match s.vault.saving with
  | none => s.ignore
  | some x0 =>
    let a := s.protArea
    let x := x0.closed (s.on .spn F.SPN_STAT_HOLDUP_LOW) saved
    let s1 : State := { s with vault := { s.vault with saving := none } }
    let s2 := ((s1.setSave a (some x)).setF .svc (armedField a) 0).saveStat x
    if !s2.on .hkp F.HKP_IN_STAT_PFAIL_LATCH then s2
    else
      let s3 := s2.spCoastCmd
      if s3.on .hkp F.HKP_THM_STAT_SHUT then s3
      else if high then
        (({ s3 with house := { s3.house with pfailRaw := false } } : State).pfailCleared).warmReset .service
      else
        let s4 := [UnitId.med, .hostg, .buf, .pool 0, .pool 1, .hzl].foldl State.resetTree s3
        { s4 with vault := { s4.vault with stopped := true } }

/-- SAVE_COMPLETE (R319). -/
def execSaveComplete (saved : Nat) (high : Bool) (s : State) : Host.Outcome State Fault Refusal :=
  done s (fun s => s.saveComplete saved high)

/-- PFAIL_HIGH_10MS: after a save the service core clears the latch and starts a warm reset (R319). -/
def State.pfailHigh (s : State) : State :=
  let s1 : State := { s with house := { s.house with pfailRaw := false } }
  if s.vault.stopped then (s1.pfailCleared).warmReset .service else s1

/-- PFAIL_HIGH_10MS (R319). -/
def execPfailHigh10ms (s : State) : Host.Outcome State Fault Refusal := done s State.pfailHigh

/-- PFAIL_CLR: written by the service core; ignored while the input is active (R524, R528). -/
def State.pfailClr (s : State) (v : Word) (active : Bool) : State :=
  let s1 : State := { s with house := { s.house with pfailRaw := active } }
  if F.HKP_IN_CTL_PFAIL_CLR.get v = 1 ∧ !active then s1.pfailCleared else s1

/-- Registers that only the service core writes (R501, R528). -/
def svcOnly (e : Engine) : Option BusCause := if e = .service then none else some .accessDenied

/-- PFAIL_CLR (R524). -/
def execPfailClr (eng : Engine) (v : Word) (active : Bool) (s : State) : Host.Outcome State Fault Refusal :=
  done s (fun s => s.access eng .store .hkp Reg.HKP_IN_CTL (svcOnly eng) (s.pfailClr v active))

/-! ### The restore (R320, R321) -/

/-- The area of the newest unconsumed save. -/
def State.newestSave (s : State) : Option (Nat × Save) :=
  match s.vault.saveA, s.vault.saveB with
  | some a, some b => if a.seq < b.seq then some (1, b) else some (0, a)
  | some a, none => some (0, a)
  | none, some b => some (1, b)
  | none, none => none

/-- A granule is read into a free handle: its data with POISON from its tag, and a dirty extent (R320, step 5). -/
def State.restoreGran (s : State) (h : Nat) (g : SavedGran) : State :=
  let w := s.btt h
  let s1 := if bttValid w then (s.writeGranule h (bttPpn w) g.data).setPoison h g.poison else s
  s1.placeExts [{ dirty := true, nsx := nsxOf g.nsid, slba := g.lba, lenM1 := 0, handle := h, src := none }]

/-- Protection passes away from area `a`, whose save is consumed; the other area is armed, and `a` is erased in the
background (R320, steps 6 to 8). -/
def State.consume (s : State) (a : Nat) : State :=
  let b := 1 - a
  let s1 := (((s.setSave a none).setSave b none).setF .svc (armedField b) 1).setF .svc F.SVC_VLT_STAT_PROT b
  (({ s1 with vault := { s1.vault with erasing := s1.vault.erasing.filter (· != b) } } : State).eraseArea a)

/-- The vault stage of a start (R320): restore from the newest save if a copy of its metadata is good, else the whole save is
lost; without a save, areas that are not armed are erased.  The save is then armed. -/
def State.restore (s : State) (metaOk : Bool) : State :=
  if !s.vaultFitted then s
  else
    let armed := fun (t : State) => ({ t with dev := { t.dev with saveArmed := true } } : State).vaultCrit
    let s := (s.setSave 0 s.vault.saveA).setSave 1 s.vault.saveB
    match s.newestSave with
    | none =>
      armed ([0, 1].foldl (fun (t : State) a => if t.on .svc (armedField a) then t else t.eraseArea a) s)
    | some (a, x) =>
      let s1 :=
        if metaOk then
          let r := takeRuns s.cmd.freeRuns x.grans.length
          let hs := r.1.flatMap (fun (q : Nat × Nat) => (List.range q.2).map (q.1 + ·))
          let s2 : State := { s with
            cmd := { s.cmd with freeRuns := r.2 }
            vault := { s.vault with lost := x.lost }
            hosts := { s.hosts with zones := x.zones.foldl (fun l (e : Nat × Zone) =>
              Sparse.set (fun _ => Zone.reset) l e.1 e.2) s.hosts.zones } }
          (hs.zip x.grans).foldl (fun t (p : Nat × SavedGran) => t.restoreGran p.1 p.2) s2
        else s
      armed ((s1.setReg64 .svc Reg.SVC_VLT_SEQ_LO x.seq).consume a)

/-- The free handles suffice for the restore (R320). -/
def State.restoreFits (s : State) : Bool :=
  match s.newestSave with
  | none => true
  | some (_, x) => decide (x.grans.length ≤ s.freeGranules)

end Sys2Proof.Machine
end

