-- ==== Sys2Proof/Machine/Nor.lean ====
section
/-! DEFINITION. The NOR and its records (R472 to R478, R499, R520, R543, R544), signed images in it (R448, R480, R481) and
the records of shutdowns and starts. -/

namespace Sys2Proof.Machine

/-! ### Programming (R21, R32, R451, R474) -/

/-- The NOR read window (R473). -/
abbrev norBase : Nat := 0x40000000

/-- `n` bytes of the NOR from an offset on. -/
def State.norBytes (s : State) (off n : Nat) : List Byte := s.bytes (norBase + off) n

/-- Bytes of the NOR are erased. -/
def State.norErase (s : State) (off n : Nat) : State :=
  { s with mem := s.mem.filter (fun (c : Nat × Byte) => !decide (norBase + off ≤ c.1 ∧ c.1 < norBase + off + n)) }

/-- Bytes are programmed: a bit that is 0 stays 0. -/
def State.norProgram (s : State) (off : Nat) (l : List Byte) : State :=
  match l with
  | [] => s
  | b :: t => (s.setByte (norBase + off) (b &&& s.byte (norBase + off))).norProgram (off + 1) t

/-- NOR_ERR of the service core (R503). -/
abbrev seNor : Nat := 9
/-- START_FAIL of the service core (R503). -/
abbrev seStart : Nat := 8

/-- A program with its outcome: one that fails its repeat leaves the record unwritten (R21, R478, R503). -/
def State.norTry (s : State) (prog : Parity) (t : State → State) : State × Bool :=
  match prog with
  | .ok => (t s, true)
  | .transient => (t (s.transient .svc), true)
  | .lasting => ((s.lasting .svc).err .svc seNor, false)

/-- The 64-byte entries of a region of `blocks` blocks of 1,024 that hold any programmed byte. -/
def State.norEntries (s : State) (base blocks : Nat) : List Nat :=
  (s.mem.filter (fun (c : Nat × Byte) => decide (norBase + base ≤ c.1 ∧ c.1 < norBase + base + blocks * 65536))).foldl
    (fun (l : List Nat) (c : Nat × Byte) => addOnce l ((c.1 - norBase - base) / 64)) []

/-- An entry of a region. -/
def State.norEntry (s : State) (base e : Nat) : List Byte := s.norBytes (base + 64 * e) 64

/-- The CRC of a 64-byte record is good (R477). -/
def recordOk (l : List Byte) : Bool := leNat (slice l 56 8) == crcRecord (slice l 0 56)

/-- `n` bytes, the lowest first. -/
def leBytes (n v : Nat) : List Byte := (List.range n).map (fun i => BitVec.ofNat 8 (v / 2 ^ (8 * i)))

/-- A record with its CRC (R477). -/
def withCrc (l : List Byte) : List Byte := l ++ leBytes 8 (crcRecord l)

/-- The good records of a region, with their entries; `seqAt` is where SEQ lies. -/
def State.norRecords (s : State) (base blocks : Nat) : List (Nat × List Byte) :=
  ((s.norEntries base blocks).map (fun e => (e, s.norEntry base e))).filter (fun (r : Nat × List Byte) => recordOk r.2)

/-- SEQ of a record. -/
def seqOf (seqAt : Nat) (l : List Byte) : Nat := leNat (slice l seqAt 8)

/-- The record with the highest SEQ. -/
def newestRec (seqAt : Nat) (l : List (Nat × List Byte)) : Option (Nat × List Byte) :=
  l.foldl (fun a r =>
    match a with
    | none => some r
    | some q => if seqOf seqAt q.2 < seqOf seqAt r.2 then some r else some q) none

/-- Records in order, newest first. -/
def newestFirst (seqAt : Nat) (l : List (Nat × List Byte)) : List (List Byte) :=
  orderBy (fun a b => decide (seqOf seqAt b ≤ seqOf seqAt a)) (l.map Prod.snd)

/-- The first erased entry of a block. -/
def State.blankEntry (s : State) (base blocks b : Nat) : Option Nat :=
  let used := s.norEntries base blocks
  ((List.range 1024).map (b * 1024 + ·)).find? (fun e => !used.contains e)

/-- Where the next record goes: the first erased entry of the block that holds the newest record; when that block is full,
the next block is erased first (R478, R543). -/
def State.norPlace (s : State) (base blocks seqAt : Nat) : State × Nat :=
  let b := match newestRec seqAt (s.norRecords base blocks) with
    | some r => r.1 / 1024
    | none => 0
  match s.blankEntry base blocks b with
  | some e => (s, e)
  | none =>
    let n := (b + 1) % blocks
    (s.norErase (base + n * 65536) 65536, n * 1024)

/-- A record is appended to a region. -/
def State.norAppend (s : State) (base blocks seqAt : Nat) (l : List Byte) : State :=
  let p := s.norPlace base blocks seqAt
  p.1.norProgram (base + 64 * p.2) l

/-! ### The boot record (R477, R478) -/

/-- The fields of a boot record. -/
structure BootRec where
  seq : Nat
  committed : Nat
  next : Nat
  idsarNext : Nat
  patchNext : Nat               -- 0 A, 1 B, 0xFF none
  setPair : Nat
  deriving DecidableEq, Repr

/-- Where the patch locations lie (R474). -/
def patchAt (k : Nat) : Nat := 0x400000 + 0x10000 * k
/-- Where the Idsar locations lie (R474). -/
def idsarAt (k : Nat) : Nat := 0x200000 + 0x100000 * k
/-- The envelope's MAGIC (R424). -/
abbrev envMagicValue : Nat := 0x487A5331
/-- A location holds an image: its envelope opens with MAGIC. -/
def State.holdsImage (s : State) (off : Nat) : Bool := envMagic (s.norBytes off 4) == envMagicValue
/-- The envelope and body at a location of a given size; nothing where there is no image that fits. -/
def State.imageAt (s : State) (off size : Nat) : List Byte :=
  if !s.holdsImage off then []
  else
    let n := envLength (s.norBytes off 192)
    if size < 192 + n then [] else s.norBytes off (192 + n)

/-- The boot record in force (R478). -/
def State.bootRec (s : State) : BootRec :=
  match newestRec 8 ((s.norRecords 0 2).filter (fun (r : Nat × List Byte) => leNat (slice r.2 0 4) == 0x42524543)) with
  | some r =>
    let b := fun (i : Nat) => leNat (slice r.2 i 1)
    ⟨seqOf 8 r.2, b 16, b 17, b 18, b 19, b 20⟩
  | none => ⟨0, 1, 1, 0, if s.holdsImage (patchAt 0) then 0 else 0xFF, 0⟩

/-- A boot record's 64 bytes (R477). -/
def BootRec.bytes (r : BootRec) : List Byte :=
  withCrc (leBytes 4 0x42524543 ++ leBytes 4 0 ++ leBytes 8 r.seq
    ++ [r.committed, r.next, r.idsarNext, r.patchNext, r.setPair].map (BitVec.ofNat 8) ++ List.replicate 35 0)

/-- A boot record is programmed, one SEQ on (R478). -/
def State.bootProgram (s : State) (r : BootRec) (prog : Parity) : State × Bool :=
  s.norTry prog (fun t => t.norAppend 0 2 8 { r with seq := s.bootRec.seq + 1 }.bytes)

/-! ### Firmware slots and images (R448, R475) -/

/-- SLOT_SIZE in MiB for a NOR of `mib` MiB (R475). -/
def slotMib (mib : Nat) : Nat := if mib = 64 then 16 else 25
/-- SLOT_SIZE in bytes, as SVC_NOR_STAT gives it. -/
def State.slotSize (s : State) : Nat := s.f .svc F.SVC_NOR_STAT_SLOT_MIB * 2 ^ 20
/-- Where slot `k` lies (R474). -/
def State.slotAt (s : State) (k : Nat) : Nat := 0x1000000 + (k - 1) * s.slotSize
/-- The image in a slot. -/
def State.slotImage (s : State) (k : Nat) : List Byte := s.imageAt (s.slotAt k) s.slotSize

/-- Header fields of a firmware image's body (R448). -/
def fwRev (body : List Byte) : List Byte := slice body 0 8
def fwField (body : List Byte) (at_ : Nat) : Nat := leNat (slice body at_ 2)
def fwEntry (body : List Byte) : Nat := leNat (slice body 28 4)

/-- The section directory: TYPE, OFFSET and LENGTH of its entries up to one of TYPE 0 (R485). -/
def fwSections (body : List Byte) : List (Nat × (Nat × Nat)) :=
  ((List.range 8).map (fun i =>
    let e := slice body (64 + 16 * i) 16
    (leNat (slice e 0 2), (leNat (slice e 4 4), leNat (slice e 8 4))))).takeWhile (fun e => e.1 != 0)

/-- A firmware body is well-formed (R448). -/
def fwBodyOk (body : List Byte) : Bool :=
  decide (64 ≤ body.length ∧ body.length ≤ 25165824) && leNat (slice body 8 4) == 0x4E504F4C
    && decide (fwField body 14 ≤ fwField body 12 ∧ fwField body 18 ≤ fwField body 16 ∧ fwField body 20 ≤ fwField body 16
        ∧ fwField body 24 ≤ fwField body 22 ∧ fwField body 26 ≤ fwField body 22)
    && fwEntry body % 4096 == 0
    && (fwSections body).any (fun e => e.1 == 1 && decide (e.2.1 ≤ fwEntry body ∧ fwEntry body < e.2.1 + e.2.2))

/-- A slot's image passes VERIFY and its header is valid. -/
def State.slotValid (s : State) (k : Nat) : Bool :=
  let l := s.slotImage k
  !l.isEmpty && s.verify 1 l == hsOk && fwBodyOk (envBody l)

/-- FWREV of a slot, or zeros (R453). -/
def State.slotRev (s : State) (k : Nat) : List Byte :=
  let l := s.slotImage k
  if l.isEmpty then List.replicate 8 0 else fwRev (envBody l)

/-- `n` tagged items, if they end within the bytes: a 16-bit tag, a 16-bit length and the value, padded to 4 bytes (R467,
R480). -/
def tagItems (n : Nat) (l : List Byte) : Option (List (Nat × List Byte)) :=
  match n with
  | 0 => some []
  | n + 1 =>
    let k := leNat (slice l 2 2)
    let m := 4 + (k + 3) / 4 * 4
    if l.length < m then none
    else (tagItems n (l.drop m)).map (fun t => (leNat (slice l 0 2), slice l 4 k) :: t)

/-! ### Boot history (R499) -/

/-- The boot history's good records. -/
def State.history (s : State) : List (Nat × List Byte) :=
  (s.norRecords 0x20000 2).filter (fun (r : Nat × List Byte) => leNat (slice r.2 0 4) == 0x42485354)

/-- The number of the last start. -/
def State.startSeq (s : State) : Nat :=
  match newestRec 8 s.history with
  | some r => seqOf 8 r.2
  | none => 0

/-- SEL of a history record (R499), from SVC_BOOT_SEL. -/
def State.histSel (s : State) : Nat :=
  s.f .svc F.SVC_BOOT_SEL_IDSAR
    + 2 * (if s.f .svc F.SVC_BOOT_SEL_PATCH = 2 then 3 else s.f .svc F.SVC_BOOT_SEL_PATCH)
    + 8 * s.f .svc F.SVC_BOOT_SEL_SETPAIR + 16 * s.svcs.strapBoot

/-- A record of the boot history (R499): its kind, start number, result and reason, and the milliseconds of an end record. -/
def State.histBytes (s : State) (kind seq result reason ms : Nat) : List Byte :=
  let chr := s.svcs.chrysalis
  let slot := if chr then 0 else s.f .svc F.SVC_BOOT_SEL_SLOT
  withCrc (leBytes 4 0x42485354 ++ [kind, s.f .svc F.SVC_BOOT_STAT_ATTEMPT, slot, s.histSel].map (BitVec.ofNat 8)
    ++ leBytes 8 seq ++ leBytes 8 (s.life lifePon)
    ++ [(s.reg .dev Reg.DEV_RST_CAUSE).toNat % 128, result, reason, s.f .svc F.SVC_FAIL_COUNT].map (BitVec.ofNat 8)
    ++ leBytes 4 ms ++ (if chr then List.replicate 8 0 else s.slotRev slot) ++ List.replicate 16 0)

/-- A record of the boot history is appended (R478, R499). -/
def State.histAppend (s : State) (l : List Byte) : State := s.norAppend 0x20000 2 8 l

/-- The end record of a start, with the time it took, which the model does not count (DESIGN CHOICE, log entry 1). -/
def State.histEnd (s : State) (result reason : Nat) : State :=
  (s.histAppend (s.histBytes 2 s.startSeq result reason s.freeNat)).spend

/-- The loss of dirty data without a vault is recorded in the boot history (R37, R517), under the number of the start that
served; the manual gives the record no kind of its own (DESIGN CHOICE, log entry 114). -/
def State.lossRecord (s : State) : State :=
  if s.vaultFitted || s.dirtyGranules == 0 then s else s.histAppend (s.histBytes 4 s.startSeq 0 0 0)

/-- The begin record of the last start, if it has no end record (R492). -/
def State.openStart (s : State) : Option (List Byte) :=
  let own := s.history.filter (fun (r : Nat × List Byte) => seqOf 8 r.2 == s.startSeq)
  let kind := fun (k : Nat) => own.find? (fun (r : Nat × List Byte) => leNat (slice r.2 4 1) == k)
  match kind 1, kind 2 with
  | some r, none => some r.2
  | _, _ => none

/-- The end record of a start that ended in another way than by its own record: by the start watchdog, failed with the
reason in SVC_FAIL; else abandoned, RESULT 02h (R491, R492, R499; DEDUCED, log entry 40). -/
def State.closeStart (s : State) (l : List Byte) : State :=
  let w := s.on .dev F.DEV_RST_CAUSE_WARM_WDOG
  (s.histAppend (withCrc (slice l 0 4 ++ [2] ++ slice l 5 20 ++ [if w then 1 else 2, if w then BitVec.ofNat 8 (s.f .svc F.SVC_FAIL_REASON) else 0,
    BitVec.ofNat 8 (s.f .svc F.SVC_FAIL_COUNT)] ++ leBytes 4 s.freeNat ++ slice l 32 24))).spend

/-- The begin record of a start, or its Chrysalis record (R492, R496). -/
def State.histBegin (s : State) (kind reason : Nat) : State :=
  s.histAppend (s.histBytes kind (s.startSeq + 1) 0 reason 0)

/-! ### Thermal shutdown records (R520) -/

/-- Where the records lie. -/
abbrev shutBase : Nat := 0xC0000

/-- The service core arms an entry at a start: the first erased entry of the block with the highest SEQ, or, when that block
is full, the first of the block that it erases, the one with the lowest (R520). -/
def State.armRecord (s : State) : State :=
  let p := s.norPlace shutBase 4 8
  let seq := match newestRec 8 (s.norRecords shutBase 4) with
    | some r => seqOf 8 r.2 + 1
    | none => 1
  ((((p.1.setF .hkp F.HKP_REC_SLOT_ENTRY p.2).setReg64 .hkp Reg.HKP_REC_SEQ_LO seq).setF .hkp F.HKP_REC_SLOT_ARM 1).setF .hkp
    F.HKP_THM_STAT_ARMED 1)

/-- A reading in whole °C, rounded down, as a signed byte. -/
def wholeC (v : Int) : Nat := unsigned 8 (v.ediv 4)

/-- The shutdown record of a kind (R520). -/
def State.shutBytes (s : State) (kind trig : Nat) : List Byte :=
  let lv := s.reg .hkp Reg.HKP_THR_STAT
  let t := fun (c : Nat) => if (s.chan c).1 then wholeC (s.chan c).2 else 0x80
  withCrc (leBytes 4 0x54485244
    ++ [kind, trig, F.HKP_THR_STAT_LD.get lv, F.HKP_THR_STAT_LM.get lv].map (BitVec.ofNat 8)
    ++ leBytes 8 (s.reg64 .hkp Reg.HKP_REC_SEQ_LO) ++ leBytes 8 s.house.ponRound
    ++ (List.range 16).map (fun c => BitVec.ofNat 8 (t c)) ++ ([16, 17, 18, 19, 20].map (fun c => BitVec.ofNat 8 (t c))) ++ [0]
    ++ leBytes 2 (s.f .hkp F.HKP_DIE_STAT_VALID) ++ leBytes 2 (s.f .hkp F.HKP_DIE_HOT_HOT)
    ++ leBytes 2 (unsigned 16 s.house.peakRound) ++ List.replicate 4 0)

/-- SHUTDOWN_RECORD_COMMIT: the armed record is programmed, and ARM clears (R520). -/
def State.commitRecord (s : State) (kind trig : Nat) : State :=
  if !s.on .hkp F.HKP_THM_STAT_ARMED then s
  else
    let e := s.f .hkp F.HKP_REC_SLOT_ENTRY
    ((s.norProgram (shutBase + 64 * e) (s.shutBytes kind trig)).setF .hkp F.HKP_REC_SLOT_ARM 0).setF .hkp F.HKP_THM_STAT_ARMED 0

/-! ### The event log (R543, R544) -/

/-- Where the event log lies. -/
abbrev eventBase : Nat := 0x100000

/-- The budget at `pon` power-on seconds: one record more every 2 s, up to 1,024 (R544). -/
def Service.refill (v : Service) (pon : Nat) : Service :=
  let n := (pon - v.budgetAt) / 2
  { v with budget := min 1024 (v.budget + n), budgetAt := v.budgetAt + 2 * n,
           crits := v.crits.filter (fun t => decide (pon < t + 3600)) }

/-- A record of the event log (R543). -/
def State.eventBytes (s : State) (pon cls sev unit : Nat) (data : List Byte) : List Byte :=
  let seq := match newestRec 0 (s.norRecords eventBase 5) with
    | some r => seqOf 0 r.2 + 1
    | none => 1
  withCrc (leBytes 8 seq ++ leBytes 8 pon ++ leBytes 2 cls ++ [BitVec.ofNat 8 sev, 0] ++ leBytes 2 unit ++ leBytes 2 0
    ++ (data ++ List.replicate 24 0).take 24 ++ leBytes 4 s.svcs.suppressed ++ leBytes 4 0)

/-- A record is programmed within its budget, or refused and counted in the next one admitted (R544). -/
def State.eventRecord (s : State) (pon cls sev unit : Nat) (data : List Byte) (prog : Parity) : State :=
  let v := s.svcs.refill pon
  let room := if 3 ≤ sev then decide (v.crits.length < 64) else decide (0 < v.budget)
  if !room then { s with svcs := { v with suppressed := v.suppressed + 1 } }
  else
    let l := s.eventBytes pon cls sev unit data
    let v1 := if 3 ≤ sev then { v with crits := v.crits ++ [pon] } else { v with budget := v.budget - 1 }
    let r := ({ s with svcs := v1 } : State).norTry prog (fun t => t.norAppend eventBase 5 0 l)
    if r.2 then { r.1 with svcs := { r.1.svcs with suppressed := 0 } } else r.1

/-- EVENT_RECORD_PROGRAM: programmed by the service core (R543). -/
def execEventRecordProgram (pon : Nat) (cls : BitVec 16) (sev : Fin 4) (unit : BitVec 16) (data : List Byte) (prog : Parity)
    (s : State) : Host.Outcome State Fault Refusal :=
  done s (fun s => s.when (s.live .svc) (s.eventRecord pon cls.toNat sev.val unit.toNat data prog))

end Sys2Proof.Machine
end

