-- ==== Sys2Proof/Machine/Place.lean ====
section
/-! DEFINITION. What firmware does with the reports of the lanes and with recovered sectors: media pointers, the media cache, the
reallocation area, compaction, and bands that can no longer be written (R95, R96, R295, R299, R301, R306 to R308). -/

namespace Sys2Proof.Machine

/-! ### Bands and sectors -/

/-- The zone or logical band that a sector lies in: namespace, number, band. -/
def State.bandAt (s : State) (surface track : Nat) : Option (Namespace × (Nat × Band)) :=
  s.hosts.namespaces.findSome? (fun n =>
    ((n.bands.zipIdx).find? (fun (e : Band × Nat) => e.1.holds surface track)).map (fun e => (n, (e.2, e.1))))

/-- The block of a band that a sector holds, slips skipped (R291). -/
def State.blockIn (s : State) (nsid z : Nat) (b : Band) (track sector : Nat) : Option Nat :=
  blockAt b.spt (s.zone nsid z).slips ((track - b.first) * b.spt + sector)

/-- The block that a granule holds, by the extent that names its handle: NSID and LBA. -/
def State.blockOf (s : State) (h : Nat) : Option (Nat × Nat) :=
  (s.cmd.exts.find? (fun (e : Nat × Extent) => decide (e.2.handle ≤ h ∧ h < e.2.handle + e.2.count))).map
    (fun e => (e.2.nsx + 1, e.2.slba + (h - e.2.handle)))

/-! ### A sector reported written (R295, R301, R306, R307) -/

/-- A block stands in the log at a position: it joins the newest run of the same report, of at most 256 blocks, or begins one
with the next sequence number (R306). -/
def Place.logged (p : Place) (fresh : Bool) (nsid lba pos : Nat) : Place :=
  let begin_ := { p with log := p.log ++ [⟨nsid, lba, 1, pos, p.seq + 1⟩], seq := p.seq + 1, logPos := pos + 1 }
  match p.log.getLast? with
  | none => begin_
  | some r =>
    if !fresh && r.nsid == nsid && lba == r.lba + r.len && pos == r.pos + r.len && decide (r.len < 256) then
      { p with log := p.log.dropLast ++ [{ r with len := r.len + 1 }], logPos := pos + 1 }
    else begin_

/-- The band that a compaction fills takes its next block (R307). -/
def State.compWrote (s : State) (c : Compaction) (track sector : Nat) : State :=
  if (track - c.target.first) * c.target.spt + sector = c.done then
    s.setPlace { s.place with comp := some { c with done := c.done + 1 } }
  else s

/-- A zone's band takes a block: MP advances over it only from its value, and the head that wrote it is the band's writing head
(R92, R295). -/
def State.zoneWrote (s : State) (n : Namespace) (z : Nat) (b : Band) (head track sector : Nat) : State :=
  let x := s.zone n.nsid z
  let y := { x with writer := some head }
  s.setZone n.nsid z (if s.blockIn n.nsid z b track sector = some x.mp then { y with mp := x.mp + 1 } else y)

/-- A sector has been reported written under a matching epoch, with the granule that it holds: in the log, in a reallocation slot,
whose entry becomes valid, in the band that a compaction fills, or in its band (R295, R301, R306, R307). -/
def State.wrote (s : State) (fresh : Bool) (head track sector handle : Nat) : State :=
  let a := surfaceOfHead head
  let p := s.place
  match stripFind p.logArea a track sector with
  | some pos =>
    (match s.blockOf handle with
     | some b => s.setPlace (p.logged fresh b.1 b.2 pos)
     | none => s)
  | none =>
    match stripFind p.area a track sector with
    | some k => s.setPlace { p with moved := p.moved.map (fun e => if e.slot = k then { e with valid := true } else e) }
    | none =>
      match p.comp.filter (fun c => c.target.holds a track) with
      | some c => s.compWrote c track sector
      | none =>
        match s.bandAt a track with
        | some (n, (z, b)) => s.zoneWrote n z b head track sector
        | none => s

/-! ### Compaction (R305, R307, R308) -/

/-- A run lies in a logical band of the namespace. -/
def Namespace.runIn (n : Namespace) (lband : Nat) (r : CacheRun) : Bool :=
  r.nsid == n.nsid && (locate n.zoned n.lens r.lba).1 == lband

/-- Step 4: every sector of the logical band has been reported written; the band map names the new physical band, the old one is
free, the runs of the logical band up to S leave the index, and its reallocation entries are freed (R300, R307). -/
def State.commitComp (s : State) : State :=
  match s.place.comp with
  | none => s
  | some c =>
    match s.ns? c.nsid with
    | none => s
    | some n =>
      match n.bands[c.lband]? with
      | none => s
      | some old =>
        if c.done < n.cap c.lband then s
        else
          let m := { n with bands := n.bands.set c.lband c.target, free := n.free.erase c.target ++ [old] }
          let s1 : State := { s with hosts := { s.hosts with
            namespaces := s.hosts.namespaces.map (fun y => if y.nsid = n.nsid then m else y) } }
          let s2 := s1.setPlace { s1.place with
            comp := none, log := s1.place.log.filter (fun r => !(n.runIn c.lband r && decide (r.seq ≤ c.s))) }
          (s2.releaseSlots (fun e => e.nsid == n.nsid && (locate n.zoned n.lens e.lba).1 == c.lband)).setZone n.nsid c.lband Zone.reset

/-- The smallest free band that holds a logical band (R305). -/
def Namespace.target (n : Namespace) (lband : Nat) : Option Band :=
  (n.free.filter (fun b => decide (n.cap lband ≤ b.cap))).foldl
    (fun o b => match o with | none => some b | some c => if b.cap < c.cap then some b else o) none

/-- Step 1: the compaction of the logical band of the oldest run begins, with S the highest sequence number (R307; which logical
band comes first is the model's choice, DESIGN CHOICE, log entry 125). -/
def State.beginComp (s : State) : State :=
  match s.place.comp, s.place.log with
  | none, r :: _ =>
    (match s.ns? r.nsid with
     | none => s
     | some n =>
       let k := (locate n.zoned n.lens r.lba).1
       match n.target k with
       | none => s
       | some b => s.setPlace { s.place with comp := some ⟨n.nsid, k, b, s.place.seq, 0⟩ })
  | _, _ => s

/-- Compaction is scheduled: at 75% fill at all times, at 10% while the host is idle (R308). -/
def State.compDue (s : State) (idle : Bool) : Bool := s.place.filled 75 || (idle && s.place.filled 10)

/-! ### Bands that can no longer be written (R95, R96, R299) -/

/-- The end of the blocks that a zone has accepted. -/
def Zone.accepted (x : Zone) : Nat := x.fin.getD x.wp

/-- The block of a zone is void (R296). -/
def Zone.isVoid (x : Zone) (k : Nat) : Bool := x.void.any (fun r => decide (r.1 ≤ k ∧ k < r.1 + r.2))

/-- The state that a zone goes to once its blocks have been moved: Full when both spare tracks are used up, Read Only when neither
twin can write (R299); none while its band can be written. -/
def State.movesTo (s : State) (n : Namespace) (z : Nat) (b : Band) : Option ZState :=
  let x := s.zone n.nsid z
  if !n.zoned || x.st == .readOnly || x.st == .offline then none
  else if x.spent then (if x.st == .full && decide (x.accepted ≤ x.mp) then none else some .full)
  else if s.readOnlySurface b.surface && decide (x.mp < x.accepted) then some .readOnly
  else none

/-- The blocks of a zone from MP up to WP go into the reallocation area, out of the reserve, and the zone's state changes when
each of them stands there; WP is unchanged (R299, R303). -/
def State.moveZone (s : State) (n : Namespace) (z : Nat) (st : ZState) : State :=
  let x := s.zone n.nsid z
  let blocks := ((List.range (x.accepted - x.mp)).map (fun i => x.mp + i)).filter (fun k => !x.isVoid k)
  let lba := fun k => z * zoneSize + k
  let s1 := blocks.foldl (fun t k =>
    match t.newest n (lba k) with
    | .buffer _ => t.takeSlot n.nsid (lba k) true
    | _ => t) s
  if blocks.all (fun k => (s1.place.slotOf n.nsid (lba k)).isSome) then s1.setZone n.nsid z { s1.zone n.nsid z with st := st } else s1

/-- Every zone whose band has lost the means to be written (R299). -/
def State.moveZones (s : State) : State :=
  s.hosts.namespaces.foldl (fun t n =>
    (n.bands.zipIdx).foldl (fun (u : State) (e : Band × Nat) =>
      match u.movesTo n e.2 e.1 with
      | some st => u.moveZone n e.2 st
      | none => u) t) s

/-- A zone changes, wherever a condition on its namespace, its number and its band holds. -/
def State.eachZone (s : State) (f : State → Namespace → Nat → Band → Zone) : State :=
  s.hosts.namespaces.foldl (fun t n =>
    if n.zoned then (n.bands.zipIdx).foldl (fun (u : State) (e : Band × Nat) => u.setZone n.nsid e.2 (f u n e.2 e.1)) t else t) s

/-- The zones of lost surfaces go Offline (R96). -/
def State.offlineZones (s : State) : State :=
  if (List.range 24).any s.surfaceLost then
    s.eachZone (fun u n z b => if u.surfaceLost b.surface then { u.zone n.nsid z with st := .offline } else u.zone n.nsid z)
  else s

/-- A head has become FAILED: in each zone that it was writing the rest of the track in progress stays unwritten, as a slip,
or the zone is finished when it has two already (R91, R95, R291). -/
def State.headLeaves (s : State) (h : Nat) : State :=
  s.eachZone (fun u n z b =>
    let x := u.zone n.nsid z
    let p := placeBlock b.spt x.slips x.mp
    if x.writer ≠ some h ∨ p.2 = 0 ∨ x.st = .full ∧ x.accepted ≤ x.mp then x
    else if x.slips.length < 2 then { x with slips := x.slips ++ [p] }
    else { x with spent := true })

/-! ### What firmware looks at -/

/-- What firmware does next: moves, a compaction's commit, and the start of one that is scheduled (R299, R307, R308). -/
def State.mediaLook (s : State) (idle : Bool) : State :=
  let t := s.moveZones.commitComp
  if t.compDue idle then t.beginComp else t

/-- The offset of a band as an alignment read measured it; beyond ±10% of track pitch the change is refused (R92, R93). -/
def State.aligned (s : State) (d : Disp) (align : Int) : State :=
  match s.bandAt (surfaceOfHead d.head) d.track with
  | none => s
  | some (n, (z, _)) => if 20 < align.natAbs then s else s.setZone n.nsid z { s.zone n.nsid z with offset := some align }

/-- Firmware takes a report: each sector of a write that the map shows written, and the centre that an alignment read measured
(R79, R92, R295). -/
def State.reported (s : State) (r : Report) : State :=
  match r.work with
  | none => s
  | some d =>
    if d.isWrite then
      let good := (List.range d.count).filter d.good.contains
      ((good.foldl (fun (a : Bool × State) i =>
        (false, a.2.wrote a.1 d.head d.track (d.first + i) (d.handle + i))) (true, s)).2).mediaLook false
    else if r.status = 6 then s.aligned d (signed 8 (r.align.toNat % 256))
    else s

/-- REPORT_WRITE with what firmware makes of the report; a stale one reaches no firmware (R79, R82). -/
def State.reportTaken (s : State) (n : Fin 4) : State :=
  let t := s.reportWrite n
  match (s.lane n).reports with
  | [] => t
  | r :: _ => if s.staleReport r || (s.rq n).full then t else t.reported r

/-- REPORT_WRITE (R76, R79). -/
def execReportWrite (n : Fin 4) (s : State) : Host.Outcome State Fault Refusal := done s (fun s => s.reportTaken n)

/-! ### Recovered sectors (R300 to R302) -/

/-- A recurrence at a sector already rewritten in place: it is used no more.  A run of the media cache held there goes to the
head of the log, and a reallocation entry to another slot (R301; DESIGN CHOICE, log entry 125). -/
def State.dropSector (s : State) (x : Nat × (Nat × Nat)) : State :=
  let p := s.place
  let s1 := s.setPlace { p with dropped := p.dropped ++ [x] }
  match stripFind p.logArea x.1 x.2.1 x.2.2, stripFind p.area x.1 x.2.1 x.2.2 with
  | some pos, _ =>
    let size := stripSize p.logArea
    (match p.log.find? (fun r => decide (r.pos ≤ pos ∧ pos < r.pos + r.len)) with
     | none => s1
     | some r => s1.setPlace { s1.place with
         log := s1.place.log.map (fun y => if y = r then { r with pos := if size < p.logPos + r.len then 0 else p.logPos } else y)
         logPos := (if size < p.logPos + r.len then 0 else p.logPos) + r.len })
  | none, some k =>
    (match s1.freeSlot with
     | none => s1
     | some j => s1.setPlace { s1.place with
         moved := s1.place.moved.map (fun e => if e.slot = k then { e with slot := j, valid := false } else e) })
  | none, none => s1

/-- A sector has been recovered: one of a band is to be written into a free slot; one of the conventional region is rewritten in
place, and used no more when that has been done before (R301, R302). -/
def State.recovered (s : State) (surface track sector : Nat) : State :=
  match s.bandAt surface track with
  | some (n, (z, b)) =>
    (match s.blockIn n.nsid z b track sector with
     | some k => if k < n.cap z then s.takeSlot n.nsid (n.firstLba z + k) false else s
     | none => s)
  | none =>
    let x := (surface, (track, sector))
    if s.place.rewritten.contains x then s.dropSector x
    else s.setPlace { s.place with rewritten := s.place.rewritten ++ [x] }

/-- Firmware takes a sync event: a delivery through an SM2 anchor, a slip hypothesis or deep decoding is a recovery (R119,
R124, R130, R301). -/
def State.eventTaken (s : State) (e : SyncEvent) : State :=
  let kind := e.lo.toNat / 2 ^ 22 % 8
  if kind = 1 ∨ kind = 3 ∨ kind = 7 then
    s.recovered (surfaceOfHead (e.hi.toNat / 2 ^ 11 % 64)) (e.lo.toNat % 2 ^ 22) (e.hi.toNat % 2 ^ 11)
  else s

/-- A read of CHN_SEV_LO with what firmware makes of the event. -/
def State.eventPopped (s : State) (eng : Engine) (n : Fin 4) : State :=
  match (s.ch n).sync with
  | [] => s.syncEventPop eng n
  | e :: _ => (s.syncEventPop eng n).eventTaken e

/-- SYNC_EVENT_POP (R130). -/
def execSyncEventPop (eng : Engine) (n : Fin 4) (s : State) : Host.Outcome State Fault Refusal :=
  done s (fun s => s.access eng .load (.chn n) Reg.CHN_SEV_LO none (s.eventPopped eng n))

/-! ### An empty queue -/

/-- With no command waiting, time passes without host I/O, and firmware goes on with what R299, R307 and R308 have it do (DESIGN
CHOICE, log entry 3). -/
def State.background (s : State) : State :=
  if s.dev.power = .on ∧ s.on .svc F.SVC_BOOT_CTL_SERVING = true ∧ s.live (.pool 0) = true then s.mediaLook true else s

end Sys2Proof.Machine
end

