-- ==== Sys2Proof/Machine/Health.lean ====
section
/-! DEFINITION. The health that the device reports: Critical Warning (R302, R303, R537), lost surfaces and lanes left OFF
(R96, R533, R542), and the events of head state (R90, R536). -/

namespace Sys2Proof.Machine

/-! ### Surfaces and lanes (R65, R90, R96, R533) -/

/-- The lane's servo or its group is disabled while the device serves: the lane is left OFF (R533). -/
def State.laneOff (s : State) (n : Fin 4) : Bool :=
  s.on .svc F.SVC_BOOT_CTL_SERVING && (s.unitState (.srv n) == stOff || s.unitState (.lane n) == stOff)

/-! ### Critical Warning (R302, R303, R537) -/

/-- Available Spare: the free reallocation slots outside the reserve, in percent of all slots outside it; 0 where there is none
outside it (R302, R303). -/
def State.availSpare (s : State) : Nat :=
  let r := s.dirtyCount
  if s.hosts.allSlots ≤ r then 0 else 100 * (s.hosts.spareSlots - r) / (s.hosts.allSlots - r)

/-- Composite Temperature: the drive-internal reading in kelvin, while its channel is valid (R515). -/
def State.composite (s : State) : Option Int := if (s.chan 16).1 then some ((s.chan 16).2.ediv 4 + 273) else none

/-- The bit of Critical Warning becomes as its condition holds (R537). -/
def State.critIs (s : State) (b : Nat) (on : Bool) : State := if on then s.setCrit b else s.clrCrit b

/-- Bits 0 to 2 of Critical Warning follow their conditions while the device serves (R302, R303, R537). -/
def State.lookCrit (s : State) : State :=
  if !s.on .svc F.SVC_BOOT_CTL_SERVING then s
  else
    let s1 := s.critIs 0 (decide (s.availSpare < 10) || decide (s.hosts.spareSlots < s.effLim * 256))
    let s2 := match s1.composite with
      | some k => s1.critIs 1 (decide (333 < k) || decide (k < 278))
      | none => s1
    s2.critIs 2 ((List.range 24).any s2.surfaceLost || lanes4.any s2.laneOff)

/-- HEAD_STATE_WRITE: a change of STATE or WR_INH raises its event; a lost surface is a Critical Warning, and takes its zones
Offline; a band that a failed head was writing slips, and one that neither twin can write is moved (R91, R95, R96, R299, R536,
R537). -/
def State.headWrite (s : State) (v : Word) : State :=
  let t := s.headStateWrite v
  let h := (s.reg .med Reg.MED_HEAD_IDX).toNat % 64
  let t1 := if t.headState h = 2 ∧ s.headState h ≠ 2 then t.headLeaves h else t
  if t.heads = s.heads then t else ((t1.offlineZones.mediaLook false).raiseAll ⟨7, 3, 0xC3⟩).lookCrit

/-- HEAD_STATE_WRITE (R88, R90, R91). -/
def execHeadStateWrite (eng : Engine) (v : Word) (s : State) : Host.Outcome State Fault Refusal :=
  done s (fun s => s.access eng .store .med Reg.MED_HEAD_DATA none (s.headWrite v))

end Sys2Proof.Machine
end

