-- ==== Sys2Proof/Machine/House.lean ====
section
/-! DEFINITION. The housekeeping unit (R504 to R530): the round and its sensors, throttling, thermal shutdown, and the input
filters with the shock response of the servo engines (R192, R193). -/

namespace Sys2Proof.Machine

/-- The class-specific causes of the housekeeping unit (R530). -/
abbrev hkSensor : Nat := 8
abbrev hkAlim : Nat := 9
abbrev hkStuck : Nat := 10
abbrev hkShut : Nat := 11
abbrev hkNoArm : Nat := 12

/-- The state with the housekeeping unit's hidden part replaced. -/
def State.setHouse (s : State) (h : House) : State := { s with house := h }

/-! ### Channels (R504 to R506) -/

/-- A reading of a channel is in range (R505); channels 45 to 47 are compared with a nominal that the outside gives. -/
def inRange (c : Nat) (v : Int) (nominal : Bool) : Bool :=
  if c < 16 then decide (-180 ≤ v ∧ v ≤ 700)
  else if c = 16 then decide (-160 ≤ v ∧ v ≤ 400)
  else if c ≤ 20 then decide (-160 ≤ v ∧ v ≤ 600)
  else if 45 ≤ c then nominal
  else true

/-- CHANNEL_SAMPLE: a sample out of range is converted once more (R505). -/
def State.channelSample (s : State) (c : Nat) (first again : Int) (nom nom2 : Bool) : State :=
  let put := fun (t : State) (ok : Bool) (v : Int) =>
    t.setHouse { t.house with readings := Sparse.insert t.house.readings c (ok, v) }
  if inRange c first nom then put s true first
  else if inRange c again nom2 then put (s.transient .hkp) true again
  else put (s.lasting .hkp) false again

/-- The housekeeping engine's program runs (R387). -/
def State.houseRuns (s : State) : Bool := s.live .hkp

/-- CHANNEL_SAMPLE (R505). -/
def execChannelSample (c : Fin 48) (first again : Int) (nominal nominalAgain : Bool) (s : State) :
    Host.Outcome State Fault Refusal :=
  done s (fun s => s.when s.houseRuns (s.channelSample c.val first again nominal nominalAgain))

/-- The limits of a channel (R506). -/
def State.chLim (s : State) (c : Nat) : Word := Sparse.get (fun _ => (0x7FFF8000 : Word)) s.house.lims c

/-- A channel's reading at the end of the round: valid unless its sample was out of range or one of channels 45 to 47 was
(R505). -/
def State.sampled (s : State) (c : Nat) : Bool × Int :=
  let ok := fun (k : Nat) => match Sparse.find? s.house.readings k with
    | some r => r.1
    | none => false
  let v := match Sparse.find? s.house.readings c with
    | some r => r.2
    | none => 0
  (ok c && ok 45 && ok 46 && ok 47, v)

/-- HKP_CH_DATA of every channel, and the limit checks of R506. -/
def State.roundData (s : State) : State :=
  (List.range 48).foldl (fun (t : State) c =>
    let r := s.sampled c
    let w := F.HKP_CH_DATA_VALUE.put (F.HKP_CH_DATA_VALID.put 0 (bit r.1)) (unsigned 16 r.2)
    let t1 := t.setHouse { t.house with data := Sparse.set (fun _ => 0) t.house.data c w }
    let l := s.chLim c
    if r.1 && (decide (r.2 < signed 16 (F.HKP_CH_LIM_LO.get l)) || decide (signed 16 (F.HKP_CH_LIM_HI.get l) < r.2)) then
      (t1.err .hkp hkAlim).setF .hkp F.HKP_ALIM_CH_CH c
    else t1) s

/-! ### Die sensors (R507 to R510) -/

/-- The orthogonal neighbours of a die sensor in the 4 × 4 grid. -/
def dieNeighbours (k : Nat) : List Nat :=
  let r := k / 4
  let c := k % 4
  (if 0 < r then [k - 4] else []) ++ (if 0 < c then [k - 1] else []) ++ (if c < 3 then [k + 1] else [])
    ++ (if r < 3 then [k + 4] else [])

/-- Twice the median of readings (R508). -/
def median2 (l : List Int) : Option Int :=
  let q := orderBy (fun a b => decide (a ≤ b)) l
  let n := q.length
  if n = 0 then none
  else if n % 2 = 1 then some (2 * q.getD (n / 2) 0)
  else some (q.getD (n / 2 - 1) 0 + q.getD (n / 2) 0)

/-- The readings of the die sensors at the end of a round, in range or none. -/
def State.dieReadings (s : State) : List (Option Int) :=
  (List.range 16).map (fun k => if (s.sampled k).1 then some (s.sampled k).2 else none)

/-- Sensor `k` is suspect: it differs by more than 10 °C from the median of its neighbours in range (R508). -/
def dieSuspect (l : List (Option Int)) (k : Nat) : Bool :=
  match l.getD k none, median2 ((dieNeighbours k).filterMap (fun j => l.getD j none)) with
  | some v, some m => decide (80 < (2 * v - m).natAbs)
  | _, _ => false

/-- The valid sensors (R508). -/
def dieValid (l : List (Option Int)) : List Nat :=
  (List.range 16).filter (fun k => (l.getD k none).isSome && !dieSuspect l k)

/-- Two valid readings of the region of `k` lie within 10 °C of each other (R509). -/
def dieConfirmed (l : List (Option Int)) (valid : List Nat) (k : Nat) : Bool :=
  let v := ((k :: dieNeighbours k).filter valid.contains).filterMap (fun j => l.getD j none)
  (List.range v.length).any (fun i => (List.range v.length).any (fun j =>
    decide (i < j ∧ (v.getD i 0 - v.getD j 0).natAbs ≤ 40)))

/-- The regions taken as hot (R509). -/
def dieHot (l : List (Option Int)) (valid : List Nat) : List Nat :=
  if valid.isEmpty then [] else (List.range 16).filter (fun k => !dieConfirmed l valid k)

/-- A list of bit numbers as a mask. -/
def maskOf (l : List Nat) : Nat := (l.map (fun k => 2 ^ k)).foldl (· + ·) 0

/-- The hottest valid reading. -/
def dieHottest (l : List (Option Int)) (valid : List Nat) : Option Int :=
  (valid.filterMap (fun k => l.getD k none)).foldl (fun a v => match a with | none => some v | some m => some (max m v)) none

/-! ### Throttle levels (R511, R512, R514, R515) -/

/-- The level that a reading enters: level n at `start + (n - 1) * step`. -/
def levelEntered (start step v : Int) : Nat := if v < start then 0 else min 7 ((v - start).ediv step + 1).toNat

/-- L_d after a round: it may rise by several levels and falls by one (R511). -/
def dieLevelNext (cur : Nat) (t : Int) : Nat :=
  let e := levelEntered 540 10 t
  if cur ≤ e then e
  else if t < 540 + (cur - 1) * 10 - 8 then cur - 1
  else cur

/-- A media level after a round: left `hyst` below its entry (R512). -/
def mediaLevelNext (cur : Nat) (start step hyst : Int) (v : Option Int) : Nat :=
  match v with
  | none => 0
  | some t =>
    let e := levelEntered start step t
    if cur ≤ e then e else min cur (levelEntered start step (t + hyst))

/-- HKP_THR_STAT takes the levels in force; CHG sets on a change (R514, R515). -/
def State.setLevels (s : State) : State :=
  let ld := if s.house.roundLate then 7 else s.house.dieLevel
  let lm := max s.house.drvLevel s.house.paLevel
  let changed := s.f .hkp F.HKP_THR_STAT_LD != ld || s.f .hkp F.HKP_THR_STAT_LM != lm
  let s1 := (s.setF .hkp F.HKP_THR_STAT_LD ld).setF .hkp F.HKP_THR_STAT_LM lm
  if changed then s1.setF .hkp F.HKP_THR_STAT_CHG 1 else s1

/-! ### Shutdown (R516 to R519) -/

/-- ORDERLY_SHUTDOWN begins: no command is fetched, no completion posted, no dispatch fetched; the save of step 4 begins unless
one is in progress; without a vault, dirty data is lost (R462, R516, R519). -/
def State.orderlyShutdown (s : State) (trig : Nat) : State :=
  if s.on .hkp F.HKP_THM_STAT_SHUT then s
  else
    let s1 := (s.setF .hkp F.HKP_THM_STAT_SHUT 1).err .hkp hkShut
    let s2 : State := { s1 with dev := { s1.dev with shutdown := true }
                                cmd := { s1.cmd with stopped := true }
                                house := { s1.house with trig := trig } }
    let s3 := s2.abandonHandover
    if s3.saveReady && s3.vault.saving.isNone then s3.beginSave else s3.lossRecord

/-- The thermal hold begins: THERM_TRIP_N is low, and every unit outside the always-on domain is held in reset with both
links down; a servo unit that retracts goes on with it (R48, R517, R518; `State.coldReset`). -/
def State.thermalHold (s : State) : State :=
  let t0 := s.coldReset 0 .thermHeld
  let t : State := { t0 with hosts := { t0.hosts with thermEvent := true } }
  t.setHouse { t.house with tripped := true, excluded := s.house.excluded }

/-- HARDWARE_TRIP: the gates drop, the heads retract, the spindle's switches open, the record is committed as kind 2, and the
thermal hold follows (R517, R520). -/
def State.hardwareTrip (s : State) (trig : Nat) : State :=
  let s1 := lanes4.foldl (fun (t : State) n => if t.writing n then t.writeStop n wsReset else t.haltTiming n true) s
  let s2 := (s1.retractAll).spOpen
  (s2.commitRecord 2 trig).thermalHold

/-- FAST_PATH_SAMPLE: each sensor that is not excluded is compared with 160 °C and 155 °C (R507, R516, R517). -/
def State.fastPath (s : State) (t : List Int) : State :=
  let live := (t.zipIdx.filter (fun (e : Int × Nat) => !s.house.excluded.contains e.2 && decide (e.2 < 16)))
  let peak := live.foldl (fun m (e : Int × Nat) => max m e.1) s.house.peak
  let cnt := live.foldl (fun (l : List (Nat × Nat)) (e : Int × Nat) =>
    Sparse.set (fun _ => 0) l e.2 (if 620 ≤ e.1 then Sparse.get (fun _ => 0) l e.2 + 1 else 0)) s.house.above155
  let s1 := s.setHouse { s.house with peak := peak, above155 := cnt }
  match live.find? (fun (e : Int × Nat) => decide (640 ≤ e.1)) with
  | some e => s1.hardwareTrip e.2
  | none =>
    match live.find? (fun (e : Int × Nat) => decide (21 ≤ Sparse.get (fun _ => 0) cnt e.2)) with
    | some e => s1.orderlyShutdown e.2
    | none => s1

/-- FAST_PATH_SAMPLE (R507). -/
def execFastPathSample (t : List Int) (s : State) : Host.Outcome State Fault Refusal := done s (fun s => s.fastPath t)

/-- SHUTDOWN_FINAL: the save has ended and the spindle has stopped, or 20 s have passed: the record is committed as kind 1 and
the thermal hold begins (R516, R519). -/
def State.shutdownFinal (s : State) (late : Bool) : State :=
  if !s.on .hkp F.HKP_THM_STAT_SHUT then s.ignore
  else if s.vault.saving.isSome then s.wait
  else if !late && s.spMode != spStopped && s.spMode != spOff then s.wait
  else (s.commitRecord 1 s.house.trig).thermalHold

/-- SHUTDOWN_FINAL (R516). -/
def execShutdownFinal (late : Bool) (s : State) : Host.Outcome State Fault Refusal := done s (fun s => s.shutdownFinal late)

/-- ROUND_END: the readings, the limits, the die temperature, the levels, the write window of the lanes (R508 to R515), and
the health that follows from them; the life counters are persisted at least once an hour (R537, R547). -/
def State.roundEnd (s : State) : State :=
  let l := s.dieReadings
  let valid := dieValid l
  let hot := dieHot l valid
  let h : Int := match dieHottest l valid with
    | some v => v
    | none => signed 16 s.freeNat
  let s0 := if valid.isEmpty then s.spend else s
  let tdie : Int := if valid.isEmpty then 600 else if hot.isEmpty then h else h + 40
  let s1 := s0.roundData.setReg .hkp Reg.HKP_ROUND (s.reg .hkp Reg.HKP_ROUND + 1)
  let s2 := (s1.setF .hkp F.HKP_DIE_STAT_H (unsigned 16 h)).setF .hkp F.HKP_DIE_STAT_VALID (maskOf valid)
  let s3 := (s2.setF .hkp F.HKP_DIE_HOT_TDIE (unsigned 16 tdie)).setF .hkp F.HKP_DIE_HOT_HOT (maskOf hot)
  let s4 := if valid.length < 16 || !hot.isEmpty then s3.err .hkp hkSensor else s3
  let drv := if (s.sampled 16).1 then some (s.sampled 16).2 else none
  let pa := ([17, 18, 19, 20].filter (fun c => (s.sampled c).1)).foldl
    (fun (a : Option Int) c => match a with | none => some (s.sampled c).2 | some m => some (max m (s.sampled c).2)) none
  let mt : Int := 4 * s.f .hkp F.HKP_THR_CFG_MT_START
  let pt : Int := 4 * s.f .hkp F.HKP_THR_CFG_PT_START
  let s5 := s4.setHouse { s4.house with
    excluded := (List.range 16).filter (fun k => !valid.contains k)
    roundLate := false
    dieLevel := dieLevelNext s.house.dieLevel tdie
    drvLevel := mediaLevelNext s.house.drvLevel mt 4 4 drv
    paLevel := mediaLevelNext s.house.paLevel pt 8 8 pa
    ponRound := s.reg64 .hkp Reg.HKP_PON_LO
    peakRound := s.house.peak }
  let s6 := lanes4.foldl (fun t n => t.driveWindow n drv) s5.setLevels
  let s7 := s6.lookCrit
  let s8 := if Sparse.get (fun _ => 0) s7.hosts.life lifePon + 3600 ≤ s7.reg64 .hkp Reg.HKP_PON_LO then s7.lifePersist else s7
  if !hot.isEmpty && decide (620 ≤ h + 40) then s8.orderlyShutdown 0xFE else s8

/-- ROUND_END (R508). -/
def execRoundEnd (s : State) : Host.Outcome State Fault Refusal := done s (fun s => s.when s.houseRuns s.roundEnd)

/-- ROUND_TIMEOUT (R514). -/
def execRoundTimeout (s : State) : Host.Outcome State Fault Refusal :=
  done s (fun s => (s.setHouse { s.house with roundLate := true }).setLevels)

/-- DIE_THROTTLE_FRAME: a frame begins with a pause while L_d is above 0; a millisecond with a level above 0 is counted
(R513, R529). -/
def State.dieFrame (s : State) (begins : Bool) : State :=
  let ld := s.f .hkp F.HKP_THR_STAT_LD
  let lm := s.f .hkp F.HKP_THR_STAT_LM
  let s1 : State := { s with dev := { s.dev with diePause := begins && decide (0 < ld) } }
  if begins && (decide (0 < ld) || decide (0 < lm)) then s1.count64 .hkp Reg.HKP_CNT_THR_MS_LO else s1

/-- DIE_THROTTLE_FRAME (R513). -/
def execDieThrottleFrame (begins : Bool) (s : State) : Host.Outcome State Fault Refusal := done s (fun s => s.dieFrame begins)

/-- MEDIA_THROTTLE_FRAME (R513). -/
def execMediaThrottleFrame (begins : Bool) (s : State) : Host.Outcome State Fault Refusal :=
  done s (fun s => { s with dev := { s.dev with mediaPause := begins && decide (0 < s.f .hkp F.HKP_THR_STAT_LM) } })

/-- THR_STAT_READ: CHG clears (R515). -/
def State.thrStat (s : State) : State :=
  (s.setF .hkp F.HKP_THR_STAT_CHG 0).answer (.value (s.reg .hkp Reg.HKP_THR_STAT))

/-- THR_STAT_READ (R515). -/
def execThrStatRead (eng : Engine) (s : State) : Host.Outcome State Fault Refusal :=
  done s (fun s => s.access eng .load .hkp Reg.HKP_THR_STAT none s.thrStat)

/-- REC_SLOT_ARM: written by the service core; ARM arms ENTRY and SEQ (R520, R528). -/
def State.recSlot (s : State) (v : Word) : State :=
  ((s.setF .hkp F.HKP_REC_SLOT_ARM (F.HKP_REC_SLOT_ARM.get v)).setF .hkp F.HKP_REC_SLOT_ENTRY (F.HKP_REC_SLOT_ENTRY.get v)).setF
    .hkp F.HKP_THM_STAT_ARMED (F.HKP_REC_SLOT_ARM.get v)

/-- REC_SLOT_ARM (R520). -/
def execRecSlotArm (eng : Engine) (v : Word) (s : State) : Host.Outcome State Fault Refusal :=
  done s (fun s => s.access eng .store .hkp Reg.HKP_REC_SLOT (svcOnly eng) (s.recSlot v))

/-! ### SHOCK_N (R192, R193, R521 to R523) -/

/-- A servo engine meets an accepted assertion of SHOCK_N (R192). -/
def State.shockOn (s : State) (n : Fin 4) : State :=
  if !s.live (.srv n) then s.setSv n { s.sv n with shockIn := true }
  else
    let s1 := (s.setSv n { s.sv n with shockIn := true, shockInh := true, shockHold := 0 }).setF (.srv n) F.SRV_STAT_SHOCK 1
    let s2 := (s1.setInhibit n true).count64 (.srv n) Reg.SRV_CNT_SHOCK_LO
    if s2.mode n = mFollow ∨ s2.mode n = mSettle then s2.enterMode n mShock else s2

/-- The engines see SHOCK_N inactive (R192, R193). -/
def State.shockOff (s : State) : State :=
  lanes4.foldl (fun (t : State) n => t.setSv n { t.sv n with shockIn := false, shockHold := 0 }) s

/-- SHOCK_N_ACCEPT: a merged assertion extends the activation and is counted; a masked input reaches no engine (R192, R522,
R523). -/
def State.shockAccept (s : State) (merged : Bool) : State :=
  if merged then
    (if s.house.shockFilt then s.count64 .hkp Reg.HKP_CNT_SHOCK_MRG_LO else s.ignore)
  else if s.house.shockFilt then s.ignore
  else
    let s1 := s.setHouse { s.house with shockFilt := true }
    if s.house.shockMask then s1 else lanes4.foldl State.shockOn s1

/-- SHOCK_N_ACCEPT (R192). -/
def execShockNAccept (merged : Bool) (s : State) : Host.Outcome State Fault Refusal := done s (fun s => s.shockAccept merged)

/-- SHOCK_N_RELEASE (R192, R521). -/
def State.shockRelease (s : State) : State :=
  if !s.house.shockFilt then s.ignore
  else
    let s1 := s.setHouse { s.house with shockFilt := false }
    if s.house.shockMask then s1 else s1.shockOff

/-- SHOCK_N_RELEASE (R192). -/
def execShockNRelease (s : State) : Host.Outcome State Fault Refusal := done s State.shockRelease

/-! ### GPIO inputs and masks (R522, R523, R526) -/

/-- HKP_GPIO_CFG of a pin. -/
def State.gpioCfg (s : State) (i : Nat) : Word := Sparse.get (fun _ => (0x0A00 : Word)) s.house.gpio i

/-- A bit of a 16-bit field replaced. -/
def putBit (w : Nat) (i : Nat) (b : Bool) : Nat := if w.testBit i == b then w else if b then w + 2 ^ i else w - 2 ^ i

/-- The filtered level and the mask of a pin. -/
def State.gpioFilt (s : State) (i : Nat) : Bool := (s.f .hkp F.HKP_GPIO_STAT_FILT).testBit i
def State.gpioMask (s : State) (i : Nat) : Bool := (s.f .hkp F.HKP_GPIO_STAT_MASK).testBit i

/-- GPIO_LEVEL_CHANGE: the level, and a message from sender 18 to the chosen pool, for which the engine needs a free entry; a
merged assertion is counted and changes nothing (R522, R526). -/
def State.gpioChange (s : State) (i : Nat) (level merged : Bool) : State :=
  let w := s.gpioCfg i
  if F.HKP_GPIO_CFG_DIR.get w = 1 then s.ignore
  else if merged then
    (if !s.gpioFilt i then s.ignore
     else (s.count64 .hkp Reg.HKP_CNT_GPIO_MRG_LO).setHouse
       { s.house with gpioMerged := Sparse.set (fun _ => 0) s.house.gpioMerged i (Sparse.get (fun _ => 0) s.house.gpioMerged i + 1) })
  else if s.gpioFilt i == level then s.ignore
  else
    let s1 := s.setF .hkp F.HKP_GPIO_STAT_FILT (putBit (s.f .hkp F.HKP_GPIO_STAT_FILT) i level)
    if s.gpioMask i || !s.houseRuns then s1
    else
      let p : Fin 2 := if F.HKP_GPIO_CFG_POOL.get w = 0 then 0 else 1
      if s.unitState (.pool p) = stReset ∨ s.unitState (.pool p) = stOff then s1
      else
        let e := engNum .housekeeping
        let r := s1.mbxReserve p e
        if !r.2 then s.wait
        else
          let m : Message := ⟨BitVec.ofNat 32 (i + 256 * bit level),
            BitVec.ofNat 32 (Sparse.get (fun _ => 0) s.house.gpioMerged i), 18⟩
          let t := r.1.mbxPush p e m
          t.setHouse { t.house with gpioMerged := Sparse.set (fun _ => 0) t.house.gpioMerged i 0 }

/-- GPIO_LEVEL_CHANGE (R526). -/
def execGpioLevelChange (pin : Fin 16) (level merged : Bool) (s : State) : Host.Outcome State Fault Refusal :=
  done s (fun s => s.gpioChange pin.val level merged)

/-- INPUT_STUCK_MASK: the consumers see the input inactive (R193, R523). -/
def State.stuckMask (s : State) (pin : FilterPin) : State :=
  let count := fun (t : State) => (t.err .hkp hkStuck).count64 .hkp Reg.HKP_CNT_STUCK_LO
  match pin with
  | .shock =>
    if !s.house.shockFilt || s.house.shockMask then s.ignore
    else count ((s.setHouse { s.house with shockMask := true }).shockOff)
  | .gpio i =>
    let w := s.gpioCfg i.val
    if !s.gpioFilt i.val || s.gpioMask i.val || F.HKP_GPIO_CFG_DIR.get w == 1 || F.HKP_GPIO_CFG_STUCK_S.get w == 0 then s.ignore
    else count (s.setF .hkp F.HKP_GPIO_STAT_MASK (putBit (s.f .hkp F.HKP_GPIO_STAT_MASK) i.val true))

/-- INPUT_STUCK_MASK (R523). -/
def execInputStuckMask (pin : FilterPin) (s : State) : Host.Outcome State Fault Refusal := done s (fun s => s.stuckMask pin)

/-- MASK_RELEASE_CHECK: the mask is removed if the raw input has been inactive for its minimum pulse (R523). -/
def State.maskRelease (s : State) (pin : FilterPin) (inactive : Bool) : State :=
  match pin with
  | .shock =>
    if !s.house.shockMask then s.ignore
    else if inactive then s.setHouse { s.house with shockMask := false, shockFilt := false }
    else s
  | .gpio i =>
    if !s.gpioMask i.val then s.ignore
    else if inactive then
      (s.setF .hkp F.HKP_GPIO_STAT_MASK (putBit (s.f .hkp F.HKP_GPIO_STAT_MASK) i.val false)).setF .hkp F.HKP_GPIO_STAT_FILT
        (putBit (s.f .hkp F.HKP_GPIO_STAT_FILT) i.val false)
    else s

/-- MASK_RELEASE_CHECK (R523). -/
def execMaskReleaseCheck (pin : FilterPin) (inactive : Bool) (s : State) : Host.Outcome State Fault Refusal :=
  done s (fun s => s.maskRelease pin inactive)

/-- HKP_IN_STAT as it reads: raw and filtered levels, the mask and the latch (R529). -/
def State.inStat (s : State) : Word :=
  let sh := bit s.house.shockFilt
  let pf := bit s.house.pfailRaw
  let sp := bit s.spn.stageIn
  BitVec.ofNat 32 (sh + 2 * pf + 4 * sp + 8 * sh + 16 * pf + 32 * sp + 64 * s.f .hkp F.HKP_IN_STAT_PFAIL_LATCH
    + 256 * bit s.house.shockMask)

end Sys2Proof.Machine
end

