-- ==== Sys2Proof/Machine/Settings.lean ====
section
/-! DEFINITION. Settings records: their layout, the image that reads one, runs on defaults or saves one (R467, R468, R476). -/

namespace Sys2Proof.Machine

/-! ### The record (R467, R476) -/

/-- Where settings pair `p` lies (R474, R476). -/
def pairAt (p : Nat) : Nat := 0x60000 + p * 0x20000
/-- Where location `k` of pair `p` lies. -/
def settingsAt (p k : Nat) : Nat := pairAt p + k * 0x10000

/-- The plaintext of a settings record (R467). -/
def Settings.bytes (x : Settings) : List Byte :=
  leBytes 4 0x53455454 ++ leBytes 2 x.fmt ++ leBytes 2 x.entries.length ++ leBytes 8 x.seq
    ++ x.entries.flatMap (fun e => leBytes 2 e.1 ++ leBytes 2 e.2.length ++ e.2 ++ List.replicate ((4 - e.2.length % 4) % 4) 0)

/-- The settings that a plaintext spells; nothing where MAGIC or a length is wrong (R467, R468). -/
def settingsOf (l : List Byte) : Option Settings :=
  if leNat (slice l 0 4) ≠ 0x53455454 then none
  else (tagItems (leNat (slice l 6 2)) (l.drop 16)).map (fun e => ⟨leNat (slice l 4 2), leNat (slice l 8 8), e⟩)

/-- A range of the NOR holds a programmed byte. -/
def State.norUsed (s : State) (off n : Nat) : Bool :=
  s.mem.any (fun (c : Nat × Byte) => decide (norBase + off ≤ c.1 ∧ c.1 < norBase + off + n))

/-- The record at a location, if it unseals and is well-formed; it fills its location (R467; DESIGN CHOICE, log entry 126). -/
def State.settingsIn (s : State) (p k : Nat) : Option Settings :=
  if s.norUsed (settingsAt p k) 0x10000 then (s.unseal (s.norBytes (settingsAt p k) 0x10000)).bind settingsOf else none

/-- The location of a pair, with its record, that has the higher SEQ (R476). -/
def State.newestSettings (s : State) (p : Nat) : Option (Nat × Settings) :=
  match s.settingsIn p 0, s.settingsIn p 1 with
  | some x, some y => if x.seq < y.seq then some (1, y) else some (0, x)
  | some x, none => some (0, x)
  | none, some y => some (1, y)
  | none, none => none

/-! ### Reading (R468) -/

/-- The reason with which an image that reads formats `low` to `high` runs on defaults, or 0 (R468). -/
def State.settingsReason (s : State) (p low high : Nat) : Nat :=
  match s.newestSettings p with
  | some r => if low ≤ r.2.fmt ∧ r.2.fmt ≤ high then 0 else 1
  | none => if s.norUsed (pairAt p) 0x20000 then 2 else 4

/-- The slot of the image that serves host I/O: pool 0's, or pool 1's while it alone serves (R447, R453). -/
def State.servingSlot (s : State) : Nat :=
  match s.svcs.handover with
  | some h => if h.step = 6 then s.f .svc F.SVC_FW_STAT_P1_SLOT else s.f .svc F.SVC_FW_STAT_P0_SLOT
  | none => s.f .svc F.SVC_FW_STAT_P0_SLOT

/-- A settings reset is recorded: class 0040h, with what bytes 16 to 31 of its log entry give (R468, R539, R543). -/
def State.settingsReset (s : State) (body : List Byte) (reason : Nat) (found : Option Nat) : State :=
  s.eventRecord (max (s.life lifePon) (s.reg64 .hkp Reg.HKP_PON_LO)) 0x40 2 0xFFFF
    ([BitVec.ofNat 8 reason, 0] ++ leBytes 2 (found.getD 0xFFFF) ++ leBytes 2 (fwField body 12) ++ leBytes 2 0 ++ fwRev body) .ok

/-- The policies that the settings hold, in place of those in force. -/
def State.applySettings (s : State) : State :=
  let l := s.hosts.namespaces.filterMap (fun n =>
    (s.svcs.settings.entries.find? (fun e => e.1 == Config.settingId n.nsid)).map (fun e => (n.nsid, BitVec.ofNat 32 (leNat e.2))))
  { s with cmd := { s.cmd with twin := l.foldl (fun t e => Sparse.set (fun _ => 0x2000) t e.1 (e.2 &&& 0x0001FF03)) [] } }

/-- The image in a slot reads the current pair's record as it boots, or runs on defaults and records why (R377, R468).  At a
start, or on defaults, what it found replaces the policies in force; the event goes out at once in a handover, and at serving
after a start. -/
def State.readSettings (s : State) (slot : Nat) (start : Bool) : State :=
  let body := envBody (s.slotImage slot)
  let p := s.bootRec.setPair
  let r := s.settingsReason p (fwField body 14) (fwField body 12)
  let found := (s.newestSettings p).map Prod.snd
  let x := found.getD Settings.none
  let s1 := ({ s with svcs := { s.svcs with settings := if r = 0 then x else { x with entries := [] }, defaulted := decide (r ≠ 0) } } : State).setMeas
    6 (sha384 (leBytes 4 (fwField body 12)))
  let s2 := if start ∨ r ≠ 0 then s1.applySettings else s1
  if r = 0 then s2
  else
    let s3 := s2.settingsReset body r (found.map Settings.fmt)
    if start then s3 else s3.raiseAll ⟨7, 0, 0xC0⟩

/-- Settings saved in probation, or by a fallback image, are discarded, with reason 03h (R462, R464, R495). -/
def State.discardSettings (s : State) (slot : Nat) : State :=
  let p := 1 - s.bootRec.setPair
  if s.norUsed (pairAt p) 0x20000 then
    let found := (s.newestSettings p).map (fun e => e.2.fmt)
    (s.norErase (pairAt p) 0x20000).settingsReset (envBody (s.slotImage slot)) 3 found
  else s

/-! ### Saving (R465, R467, R468, R476) -/

/-- The pair that the serving image saves to: the current one, or the other one in probation and under a fallback (R465, R476,
R495). -/
def State.savePair (s : State) : Nat :=
  let b := s.bootRec
  if s.svcs.fallback ∨ s.servingSlot ≠ b.committed then 1 - b.setPair else b.setPair

/-- A save: the serving image's format, one more SEQ, every entry that was found, into the other location of the pair, after
erasing it (R467, R468, R476). -/
def State.saveSettings (s : State) : State :=
  let p := s.savePair
  let k := match s.newestSettings p with | some e => 1 - e.1 | none => 0
  let x : Settings := { s.svcs.settings with fmt := fwField (envBody (s.slotImage s.servingSlot)) 12, seq := s.svcs.settings.seq + 1 }
  let r := s.sealed ((x.bytes ++ List.replicate 65508 0).take 65508)
  (({ r.1 with svcs := { r.1.svcs with settings := x } } : State).norErase (settingsAt p k) 0x10000).norProgram (settingsAt p k) r.2

/-- An entry of the settings changes. -/
def State.setSetting (s : State) (id : Nat) (v : List Byte) : State :=
  let x := s.svcs.settings
  { s with svcs := { s.svcs with settings := { x with entries := x.entries.filter (fun e => e.1 != id) ++ [(id, v)] } } }

/-- A policy is set and saved; it waits while the sealing key's counter has no reservation (R350, R440, R467). -/
def State.saveTwin (s : State) (nsid : Nat) (v : Word) : State :=
  let t := s.setTwin nsid v
  if t.resp ≠ .status .success then t
  else
    let u := s.sealKey
    if !u.sealReady then u.rsvCheck.wait
    else (((u.setTwin nsid v).setSetting (Config.settingId nsid) (leBytes 4 (v.toNat % 2 ^ 17))).saveSettings).rsvCheck

/-- SET_TWIN_READ_POLICY, saved where the host asks for it (R350, R352). -/
def execSetTwinReadPolicy (nsid : Nat) (x : Setting) (s : State) : Host.Outcome State Fault Refusal :=
  done s (fun s => s.feature (if x.save then s.saveTwin nsid x.cdw11 else s.setTwin nsid x.cdw11))

end Sys2Proof.Machine
end

