-- ==== Sys2Proof/Machine/Activate.lean ====
section
/-! DEFINITION. Firmware download, commit and live handover (R447 to R471). -/

namespace Sys2Proof.Machine

/-- The state with the service core's hidden part replaced. -/
def State.setSvcs (s : State) (v : Service) : State := { s with svcs := v }

/-! ### Download (R449, R497) -/

/-- The staging area's size. -/
abbrev stagingSize : Nat := 25165824

/-- FIRMWARE_IMAGE_DOWNLOAD: a piece is placed at its offset; a later piece replaces the bytes it overlaps (R449). -/
def State.download (s : State) (off : Nat) (data : List Byte) : State :=
  if s.svcs.chrysalis && !s.on .buf F.BUF_STAT_TRAINED then s.answer (.status .internalError)
  else if off % 4096 ≠ 0 ∨ stagingSize < off + data.length then s.answer (.status .invalidField)
  else
    let l := data.zipIdx.foldl (fun m (b : Byte × Nat) => Sparse.set (fun _ => 0) m (off + b.2) b.1) s.svcs.staged
    (s.setSvcs { s.svcs with staged := l, stagedLen := max s.svcs.stagedLen (off + data.length) }).answer (.status .success)

/-- FIRMWARE_IMAGE_DOWNLOAD (R449). -/
def execFwDownload (fn : Fin 64) (offset : Nat) (data : List Byte) (s : State) : Host.Outcome State Fault Refusal :=
  done s (fun s => s.admin fn.val (s.download offset data))

/-- The staged image. -/
def State.stagedImage (s : State) : List Byte :=
  (List.range s.svcs.stagedLen).map (fun i => Sparse.get (fun _ => 0) s.svcs.staged i)
/-- The staging area empties. -/
def State.emptyStaging (s : State) : State := s.setSvcs { s.svcs with staged := [], stagedLen := 0 }

/-! ### Commits (R450 to R452, R475, R482, R498) -/

/-- NEXT and COMMITTED of SVC_FW_STAT mirror the boot record. -/
def State.setNext (s : State) : State :=
  (s.setF .svc F.SVC_FW_STAT_NEXT s.bootRec.next).setF .svc F.SVC_FW_STAT_COMMITTED s.bootRec.committed

/-- An image is written to a place of a given size: erased, programmed and read back; a lasting failure leaves it empty (R451). -/
def State.writeImage (s : State) (off size : Nat) (l : List Byte) (prog : Parity) : State × Bool :=
  let e := s.norErase off size
  match prog with
  | .ok => (e.norProgram off l, true)
  | .transient => ((e.transient .svc).norProgram off l, true)
  | .lasting => ((e.lasting .svc).err .svc seNor, false)

/-- The slot that actions 000b and 001b write (R452, R498): none if the one named may not be written. -/
def State.writeSlot (s : State) (slot : Nat) : Option Nat :=
  if s.svcs.chrysalis then (if slot = 0 then some 2 else if slot = 2 ∨ slot = 3 then some slot else none)
  else
    let c := s.bootRec.committed
    let v := s.servingSlot
    if slot = 0 then [2, 3].find? (fun k => k != c && k != v)
    else if (slot = 2 ∨ slot = 3) ∧ slot ≠ c ∧ slot ≠ v then some slot
    else none

/-- A commit is prohibited while a handover, its probation or a revert is in progress (R452). -/
def State.fwBusy (s : State) : Bool := s.svcs.handover.isSome

/-- In Chrysalis mode, a commit that names a boot slot ends in a warm reset as attempt 1 (R498). -/
def State.chrysalisBoot (s : State) (slot : Nat) (prog : Parity) : State :=
  let r := s.bootProgram { s.bootRec with committed := slot, next := slot } prog
  if r.2 then
    (((r.1.setF .svc F.SVC_FAIL_COUNT 0).warmReset .service).answer (.status .success))
  else r.1.answer (.status .internalError)

/-- The commit of a staged image of kind 1 (R450, R451, R498). -/
def State.commitFw (s : State) (slot : Nat) (next : Bool) (l : List Byte) (prog : Parity) : State :=
  match s.writeSlot slot with
  | none => s.answer (.status .invalidFwSlot)
  | some k =>
    let st := s.verify 1 l
    let s1 := s.verified st
    if st ≠ hsOk ∨ !fwBodyOk (envBody l) ∨ s.slotSize < l.length then s1.answer (.status .invalidFwImage)
    else
      let w := s1.writeImage (s.slotAt k) s.slotSize l prog
      if !w.2 then w.1.answer (.status .internalError)
      else if !next then w.1.answer (.status .success)
      else if s.svcs.chrysalis then w.1.chrysalisBoot k .ok
      else
        let r := w.1.bootProgram { s.bootRec with next := k } .ok
        r.1.setNext.answer (.status .fwResetSubsystem)

/-- The commit of a staged image of kind 2 or 3 (R450, R478, R482, R498). -/
def State.commitOther (s : State) (kind : Nat) (next : Bool) (l : List Byte) (prog : Parity) : State :=
  let b := s.bootRec
  let st := s.verify kind l
  let s1 := s.verified st
  let room := if kind = 2 then 0x100000 else 0x10000
  let k := if kind = 2 then 1 - s.f .svc F.SVC_BOOT_SEL_IDSAR else if b.patchNext = 0 then 1 else 0
  if st ≠ hsOk ∨ room < l.length then s1.answer (.status .invalidFwImage)
  else
    let w := s1.writeImage (if kind = 2 then idsarAt k else patchAt k) room l prog
    if !w.2 then w.1.answer (.status .internalError)
    else
      let r := w.1.bootProgram (if kind = 2 then { b with idsarNext := k } else { b with patchNext := k }) .ok
      r.1.answer (.status (if s.svcs.chrysalis then (if kind = 2 then .fwResetController else .success)
        else if !next then .success else if kind = 2 then .fwResetController else .fwResetSubsystem))

/-- FW_COMMIT_WRITE and FW_COMMIT_WRITE_NEXT: by the staged kind; the staging area empties whatever the outcome (R449). -/
def State.commitWrite (s : State) (slot : Nat) (next : Bool) (prog : Parity) : State :=
  if s.fwBusy then s.answer (.status .fwProhibited)
  else
    let l := s.stagedImage
    let k := envKind l
    let t := s.emptyStaging
    if envMagic l ≠ envMagicValue ∨ k = 0 ∨ 3 < k then t.answer (.status .invalidFwImage)
    else if k = 1 then t.commitFw slot next l prog
    else t.commitOther k next l prog

/-- FW_COMMIT_WRITE (R450). -/
def execFwCommitWrite (fn : Fin 64) (slot : Nat) (prog : Parity) (s : State) : Host.Outcome State Fault Refusal :=
  done s (fun s => s.admin fn.val (s.commitWrite slot false prog))

/-- FW_COMMIT_WRITE_NEXT (R450). -/
def execFwCommitWriteNext (fn : Fin 64) (slot : Nat) (prog : Parity) (s : State) : Host.Outcome State Fault Refusal :=
  done s (fun s => s.admin fn.val (s.commitWrite slot true prog))

/-- A slot that actions 010b and 011b name, or the status they complete with (R452). -/
def State.namedSlot (s : State) (slot : Nat) : Option NvmeStatus :=
  if s.fwBusy then some .fwProhibited
  else if slot = 0 ∨ 3 < slot then some .invalidFwSlot
  else if !s.slotValid slot then some .invalidFwImage
  else none

/-- FW_COMMIT_NEXT: NEXT becomes the slot (R450, R498). -/
def State.commitNext (s : State) (slot : Nat) (prog : Parity) : State :=
  match s.namedSlot slot with
  | some st => s.answer (.status st)
  | none =>
    if s.svcs.chrysalis then s.chrysalisBoot slot prog
    else
      let r := s.bootProgram { s.bootRec with next := slot } prog
      if r.2 then r.1.setNext.answer (.status .fwResetSubsystem) else r.1.answer (.status .internalError)

/-- FW_COMMIT_NEXT (R450). -/
def execFwCommitNext (fn : Fin 64) (slot : Nat) (prog : Parity) (s : State) : Host.Outcome State Fault Refusal :=
  done s (fun s => s.admin fn.val (s.commitNext slot prog))

/-! ### The handover (R454 to R465) -/

/-- R454 refuses: 2 for metadata, 3 for state records, 0 if N can read and write what O wrote. -/
def fwRefusal (o n : List Byte) : Nat :=
  let om := fwField o 16
  let ov := fwField o 22
  if !decide (fwField n 18 ≤ om ∧ om ≤ fwField n 16 ∧ fwField n 20 ≤ om) then 2
  else if !decide (fwField n 24 ≤ ov ∧ ov ≤ fwField n 22 ∧ fwField n 26 ≤ ov) then 3
  else 0

/-- SVC_FW_RES after an activation (R468, R471). -/
def State.setResult (s : State) (h : Handover) (result : Nat) : State :=
  s.setReg .svc Reg.SVC_FW_RES (BitVec.ofNat 32 (2 ^ 31 + result * 2 ^ 24 + bit h.defaulted * 2 ^ 16 + h.slotN * 2 ^ 12
    + h.slotO * 2 ^ 8))

/-- The state with the handover replaced. -/
def State.setHandover (s : State) (h : Option Handover) : State := s.setSvcs { s.svcs with handover := h }

/-- POOL_MASK: the pools that new work goes to (R332, R455). -/
def State.setMask (s : State) (m : Nat) : State := s.setF .cmd F.CMD_CTL_POOL_MASK m

/-- The Firmware Commit that started the handover completes, if it has not (R455, R460). -/
def State.fwDone (s : State) (h : Handover) (st : NvmeStatus) : State :=
  if h.owed && (s.compq? h.fn 0).isSome && (s.subq? h.fn 0).isSome then s.postCpl h.fn 0 h.cid (Cpl.ofStatus st) else s

/-- POOL_RVEC of a pool: bits [39:12] of its code area's address plus ENTRY (R486). -/
def State.setRvec (s : State) (p : Fin 2) (entry : Nat) : State :=
  s.setF (.pool p) F.POOL_RVEC_ADDR ((dramBase + p.val * 0x2000000 + entry) / 4096)

/-- A pool is stopped, reset with its domain on, loaded with a slot's image and released: `false` where the image does not
verify (R426, R455, R486). -/
def State.loadPool (s : State) (p : Fin 2) (slot : Nat) : State × Bool :=
  let s1 := ((s.cleanStop p).poolReset p).setUnitState (.pool p) stIdle
  let l := s.slotImage slot
  let st := if s.slotValid slot then hsOk else if l.isEmpty then hsSig else s.verify 1 l
  let s2 := s1.verified st
  if !s.slotValid slot then (s2, false)
  else
    let body := envBody l
    let s3 := (s2.setBytes (dramBase + p.val * 0x2000000) body).setRvec p (fwEntry body)
    let s4 := s3.setReg .svc Reg.SVC_FW_REPLY 0
    let s5 := (coresOf p).foldl State.release s4
    (s5.setF .svc (if p = 0 then F.SVC_FW_STAT_P0_SLOT else F.SVC_FW_STAT_P1_SLOT) slot, true)

/-! ### What a leaving pool hands on (R456, R458) -/

/-- The state transfer area, where SVC_FW_XFER names a place in the firmware region of DRAM (R458). -/
def State.xferAt (s : State) : Option Nat :=
  let a := s.f .svc F.SVC_FW_XFER_ADDR * 4096
  if dramBase ≤ a ∧ s.inFirmware a 4096 then some a else none

/-- The 64-byte header: the fields MAGIC, VER, FROM, TO, COUNT and SEQ, whose places the spec does not give (R458; DESIGN
CHOICE, log entry 127). -/
def xferHeader (ver src dst count seq : Nat) : List Byte := (List.range 64).map (Config.layout [0x58544652, ver, src, dst, count, seq])

/-- A record of a kind and a slot, with a payload in the form that VER defines (R458). -/
def xferRecord (ver seq : Nat) (r : Nat × Nat) : List Byte :=
  leBytes 2 r.1 ++ leBytes 2 32 ++ leBytes 2 r.2 ++ leBytes 2 0 ++ leBytes 8 seq ++ (List.range 16).map (Config.layout [ver, r.1, r.2, seq])

/-- The record that ends the list (R458). -/
def xferEnd (seq : Nat) : List Byte := leBytes 2 0xFFFF ++ leBytes 2 16 ++ leBytes 4 0 ++ leBytes 8 seq

/-- The transfer records of a leaving pool are written (R456, R458). -/
def State.transfer (s : State) (p : Fin 2) (recs : List (Nat × Nat)) : State :=
  match s.xferAt with
  | none => s
  | some a =>
    let ver := fwField (envBody (s.slotImage s.bootRec.committed)) 22
    let q := s.svcs.xferSeq
    (s.setSvcs { s.svcs with xfer := some (a, recs.length) }).setBytes a
      (xferHeader ver p.val (1 - p.val) recs.length q ++ recs.flatMap (xferRecord ver q) ++ xferEnd q)

/-- The other pool. -/
def otherPool (p : Fin 2) : Fin 2 := if p = 0 then 1 else 0

/-- A source routed to a core of the leaving pool goes to the core of the same number in the other pool (R391, R456; which
core takes it is the model's choice, DESIGN CHOICE, log entry 127). -/
def State.moveRoutes (s : State) (p : Fin 2) : State :=
  let moves := fun (e : Nat × Word) => F.DEV_IRQ_ROUTE_EN.get e.2 == 1 && (F.DEV_IRQ_ROUTE_TARGET.get e.2 / 8) == p.val
  let gone := (s.irq.route.filter moves).map Prod.fst
  { s with irq := { s.irq with
      route := s.irq.route.map (fun e =>
        if moves e then (e.1, F.DEV_IRQ_ROUTE_TARGET.put e.2 ((F.DEV_IRQ_ROUTE_TARGET.get e.2 + 8) % 16)) else e)
      delivered := s.irq.delivered.filter (fun (e : Nat × Nat) => !gone.contains e.1) } }

/-- A pool leaves: each command that it holds in WORK is handed on by a transfer record, with its outstanding dispatches; the
other pool takes every record and every entry left in the work ring, and completes those commands through its own completion
ring; the routes move (R456).  That it completes none itself in the time given is the model's choice (DESIGN CHOICE, log entry
127). -/
def State.leavePool (s : State) (p : Fin 2) : State :=
  let mine := s.cmd.slots.filter (fun (e : Nat × Slot) => e.2.pool == some p)
  let recs := (mine.filter (fun e => e.2.st == .work)).map (fun e => (1, e.1))
    ++ (mine.filter (fun e => s.mediaOutstanding e.1)).map (fun e => (2, e.1))
  let s1 := s.transfer p recs
  let s2 : State := { s1 with cmd := { s1.cmd with
    slots := s1.cmd.slots.map (fun (e : Nat × Slot) => if e.2.pool = some p then (e.1, { e.2 with pool := some (otherPool p) }) else e) } }
  (s2.setReg .cmd (Reg.CMD_WQp_HEAD + ringOff p) (s2.reg .cmd (Reg.CMD_WQp_TAIL + ringOff p))).moveRoutes p

/-- The records up to the end record, of at most `n`, have known kinds and the header's SEQ (R458). -/
def xferScan (n : Nat) (l : List Byte) (seq : Nat) : Bool :=
  match n with
  | 0 => false
  | n + 1 =>
    let k := leNat (slice l 0 2)
    let m := leNat (slice l 2 2)
    leNat (slice l 8 8) == seq
      && (k == 0xFFFF || (decide (1 ≤ k ∧ k ≤ 5 ∧ m % 16 = 0 ∧ 16 ≤ m) && xferScan n (l.drop m) seq))

/-- The incoming image can read the transfer records as it finds them (R458). -/
def State.xferOk (s : State) : Bool :=
  match s.svcs.xfer with
  | none => true
  | some (a, n) => xferScan (n + 1) (s.bytes (a + 64) (32 * n + 16)) s.svcs.xferSeq

/-- A handover or a revert begins: SEQ increases (R458). -/
def State.newXfer (s : State) : State := s.setSvcs { s.svcs with xferSeq := s.svcs.xferSeq + 1, xfer := none }

/-! ### The course of a handover (R455, R460, R464) -/

/-- The image that pools are being loaded with. -/
def Handover.target (h : Handover) : Nat := if h.back then h.slotO else h.slotN

/-- PHASE: 8h throughout a revert (R464, R471). -/
def State.setPhase (s : State) (h : Handover) : State :=
  s.setF .svc F.SVC_FW_STAT_PHASE (if h.back ∧ h.result ≠ 0 then 8 else h.step)

/-- An incoming pool failed during a revert, or on its return to O: the service core starts a warm reset (R464; DESIGN CHOICE,
log entry 37). -/
def State.revertFailed (s : State) : State := s.warmReset .service

/-- The pool of a step is loaded with the target and released; the handover waits for its READY. -/
def State.enterStep (s : State) (h : Handover) : State × Bool :=
  let r := s.loadPool (if h.step = 6 then 0 else 1) h.target
  ((r.1.setHandover (some h)).setPhase h, r.2)

/-- A revert begins (R460, R464): with both pools on N pool 1 leaves first; with pool 0 out after step 7 failed, it is loaded
first (DESIGN CHOICE, log entry 37). -/
def State.revert (s : State) (h : Handover) (result : Nat) : State :=
  let first := if h.step = 6 then 6 else 3
  let s1 := (s.newXfer.setMask (if first = 6 then 2 else 1)).setF .svc F.SVC_FW_STAT_REVERT 1
  let r := (if first = 6 then s1 else s1.leavePool 1).enterStep { h with step := first, back := true, result := result }
  if r.2 then r.1 else r.1.revertFailed

/-- The incoming pool fails (R460, R463, R464): before the switch the commit is prohibited and pool 1 returns to O; at step 7
and in probation a revert begins; in a revert or a return the device restarts. -/
def State.incomingFailed (s : State) (h : Handover) (result : Nat) : State :=
  if h.back then s.revertFailed
  else if h.step = 3 then
    let s1 := (s.fwDone h .fwProhibited).setResult h result
    let r := s1.enterStep { h with back := true, owed := false, result := 0 }
    if r.2 then r.1 else r.1.revertFailed
  else if h.step = 6 then s.revert h 9
  else s.revert h 7

/-- The handover or revert has ended on both pools. -/
def State.handoverOver (s : State) : State :=
  ((((s.setSvcs { s.svcs with xfer := none, handover := none }).setMask 3).setF .svc F.SVC_FW_STAT_PHASE 0).setF .svc
    F.SVC_FW_STAT_REVERT 0).setF .svc F.SVC_FW_STAT_PROB_S 0

/-- The digest of a slot's image becomes a measurement (R377, R466). -/
def State.measureSlot (s : State) (i slot : Nat) : State := s.setMeas i (sha384 (envBody (s.slotImage slot)))

/-- A revert has put both pools back on O (R464). -/
def State.revertDone (s : State) (h : Handover) : State :=
  ((((s.fwDone h .fwProhibited).setResult h h.result).count64 .svc Reg.SVC_FW_CNT_REV_LO).measureSlot 4 h.slotO).handoverOver

/-- The settings that the image which takes over has read before it wrote READY; O, in a revert, finds those saved in probation
discarded (R464, R468). -/
def State.imageReads (s : State) (h : Handover) : State :=
  if h.back then (s.discardSettings h.slotO).readSettings h.slotO false else s.readSettings h.slotN false

/-- READY of the incoming pool: the switch (R455, steps 4 to 6), the return of pool 1, or the end (step 7). -/
def State.readyStep (s : State) (h : Handover) : State :=
  if h.back ∧ h.result = 0 then s.handoverOver
  else if h.step = 3 then
    if h.back ∧ s.f .svc F.SVC_FW_STAT_P0_SLOT = h.slotO then s.revertDone h
    else
      let t := s.imageReads h
      let h1 := { h with step := 6, defaulted := if h.back then h.defaulted else t.svcs.defaulted }
      let r := (((t.setMask 2).setF .svc F.SVC_FW_STAT_PHASE (if h.back then 8 else 4)).measureSlot 4 h.target |>.leavePool 0).enterStep h1
      if r.2 then r.1 else if h.back then r.1.revertFailed else r.1.revert h1 9
  else if h.back then
    if s.f .svc F.SVC_FW_STAT_P1_SLOT = h.slotO then s.revertDone h
    else
      let r := (((s.imageReads h).setMask 1).leavePool 1).enterStep { h with step := 3 }
      if r.2 then r.1 else r.1.revertFailed
  else
    let h1 := { h with step := 7, owed := false }
    ((((s.setMask 3).fwDone h .success).setHandover (some h1)).setPhase h1).setF .svc F.SVC_FW_STAT_PROB_S 0

/-- FW_COMMIT_HANDOVER (R452, R454, R455, R495): steps 1 to 3; a verification that fails is R460's. -/
def State.commitHandover (s : State) (fn cid slot : Nat) (prog : Parity) : State :=
  match s.namedSlot slot with
  | some st => s.answer (.status st)
  | none =>
    if s.svcs.chrysalis then s.chrysalisBoot slot prog
    else
      let b := s.bootRec
      let h : Handover := { fn := fn, cid := cid, slotO := b.committed, slotN := slot, step := 3, back := false, owed := true,
                            result := 0, samples := 0, miss0 := 0, miss1 := 0, defaulted := false }
      if s.svcs.fallback ∨ b.next ≠ b.committed then s.answer (.status .fwProhibited)
      else if slot = b.committed then s.answer (.status .success)
      else
        let no := fwRefusal (envBody (s.slotImage b.committed)) (envBody (s.slotImage slot))
        if no ≠ 0 then (s.setResult h no).answer (.status .fwProhibited)
        else
          let r := (((s.raiseAll ⟨2, 1, 0⟩).newXfer.setMask 1).leavePool 1).enterStep h
          if r.2 then r.1.wait else r.1.incomingFailed h 6

/-- FW_COMMIT_HANDOVER (R455). -/
def execFwCommitHandover (fn : Fin 64) (cid slot : Nat) (prog : Parity) (s : State) : Host.Outcome State Fault Refusal :=
  done s (fun s => s.admin fn.val (s.commitHandover fn.val cid slot prog))

/-- FW_REPLY_WRITE: a core sets bits and writes REASON; the service core replaces the register (R470). -/
def State.fwReply (s : State) (e : Engine) (v : Word) : State :=
  if e = .service then s.setReg .svc Reg.SVC_FW_REPLY (v &&& 0xC000FF03)
  else
    let old := s.reg .svc Reg.SVC_FW_REPLY
    let s1 := s.setReg .svc Reg.SVC_FW_REPLY ((old &&& 0xC0000003) ||| (v &&& 0xC000FF03))
    match s1.svcs.handover with
    | none => s1
    | some h =>
      if s1.on .svc F.SVC_FW_REPLY_REFUSE then s1.incomingFailed h 4
      else if h.step ≠ 7 ∧ s1.on .svc F.SVC_FW_REPLY_READY then (if s1.xferOk then s1.readyStep h else s1.incomingFailed h 4)
      else s1

/-- The engines that write SVC_FW_REPLY (R470). -/
def replyGate (e : Engine) : Option BusCause := if engMain e then none else some .accessDenied

/-- FW_REPLY_WRITE (R470). -/
def execFwReplyWrite (eng : Engine) (v : Word) (s : State) : Host.Outcome State Fault Refusal :=
  done s (fun s => s.access eng .store .svc Reg.SVC_FW_REPLY (replyGate eng) (s.fwReply eng v))

/-- HANDOVER_READY_TIMEOUT (R460). -/
def State.readyTimeout (s : State) : State :=
  match s.svcs.handover with
  | none => s.ignore
  | some h => if h.step = 7 then s.ignore else s.incomingFailed h 5

/-- HANDOVER_READY_TIMEOUT (R460). -/
def execHandoverReadyTimeout (s : State) : Host.Outcome State Fault Refusal := done s State.readyTimeout

/-- HEARTBEAT_SAMPLE: both bits are sampled and cleared; a bit clear twice in a row, or a stopped core, fails probation
(R463). -/
def State.heartbeat (s : State) : State :=
  match s.svcs.handover with
  | none => s.ignore
  | some h =>
    if h.step ≠ 7 then s.ignore
    else
      let m0 := if s.on .svc F.SVC_FW_REPLY_HB0 then 0 else h.miss0 + 1
      let m1 := if s.on .svc F.SVC_FW_REPLY_HB1 then 0 else h.miss1 + 1
      let h1 := { h with samples := h.samples + 1, miss0 := m0, miss1 := m1 }
      let s1 := ((s.setF .svc F.SVC_FW_REPLY_HB0 0).setF .svc F.SVC_FW_REPLY_HB1 0).setF .svc F.SVC_FW_STAT_PROB_S
        (min 60 (h1.samples / 2))
      if 2 ≤ m0 ∨ 2 ≤ m1 ∨ cores.any (fun c => s.cf c F.POOL_Cc_STAT_RUN == 3) then s1.incomingFailed h1 7
      else s1.setHandover (some h1)

/-- HEARTBEAT_SAMPLE (R463). -/
def execHeartbeatSample (s : State) : Host.Outcome State Fault Refusal := done s State.heartbeat

/-- PROBATION_END: the boot record names N and the probation settings record, O's is erased, N's digest is measured, and the
activation counts (R466). -/
def State.probationEnd (s : State) (prog : Parity) : State :=
  match s.svcs.handover with
  | none => s.ignore
  | some h =>
    if h.step ≠ 7 then s.ignore
    else
      let b := s.bootRec
      let other := 1 - b.setPair
      let saved := s.norUsed (pairAt other) 0x20000
      let r := s.bootProgram { b with committed := h.slotN, next := h.slotN, setPair := if saved then other else b.setPair } prog
      if !r.2 then r.1.incomingFailed h 7
      else
        let s1 := if saved then r.1.norErase (pairAt b.setPair) 0x20000 else r.1
        (((s1.measureSlot 7 h.slotN).setResult h 1).count64 .svc Reg.SVC_FW_CNT_ACT_LO).handoverOver.setNext

/-- PROBATION_END (R466). -/
def execProbationEnd (prog : Parity) (s : State) : Host.Outcome State Fault Refusal := done s (fun s => s.probationEnd prog)

end Sys2Proof.Machine
end

