-- ==== Sys2Proof/Machine/Flags.lean ====
section
/-! DEFINITION. The flags of the track sequencer's ALU (R136, R138). -/

namespace Sys2Proof.Machine

/-- The flags Z, N and C. -/
structure Flags where
  z : Bool
  n : Bool
  c : Bool
  deriving DecidableEq, Repr

/-- Z and N follow the result (R138). -/
def Flags.ofResult (r : Word) (c : Bool) : Flags := ⟨r == 0, r.getLsbD 31, c⟩

/-- The carry of A + B. -/
def carry (a b : Word) : Bool := decide (2 ^ 32 ≤ a.toNat + b.toNat)

/-- The borrow of A − B. -/
def borrow (a b : Word) : Bool := decide (a.toNat < b.toNat)

end Sys2Proof.Machine
end

