-- ==== Sys2Proof/Machine/Sequencer.lean ====
section
/-! DEFINITION. The track sequencer (R135 to R169): ALU operations, events and sectors on the timing unit, lane commands,
waits, sequence actions, and the patch RAM port. -/

namespace Sys2Proof.Machine

/-! ### ALU operations (R138, R139) -/

/-- The word in progress of a sequencer that runs. -/
def State.seqRuns (s : State) (n : Fin 4) : Bool := s.live (.tsq n) && (s.sq n).running

/-- The ALU phase of the word in progress: the operation named must be the word's; a reserved code is a machine check with
cause 0x4 (R138). -/
def State.aluPhase (s : State) (n : Fin 4) (op : Nat) (f : State → State) : State :=
  let q := s.sq n
  if !s.seqRuns n || q.aluDone then s.ignore
  else if 0xD ≤ CsWord.aluOp q.word then s.mcheck n 4
  else if CsWord.aluOp q.word ≠ op then s.ignore
  else f s

/-- The ALU phase ends with a result, written to DST or not, and the flags (R138). -/
def State.aluEnd (s : State) (n : Fin 4) (r : Word) (write : Bool) (fl : Flags) : State :=
  let q := s.sq n
  let q1 := if write then q.setGreg (CsWord.dst q.word) r else q
  s.setSq n { q1 with alu := r, aluDone := true, z := fl.z, nf := fl.n, c := fl.c }

/-- The flags as they stand. -/
def Sequencer.flags (q : Sequencer) : Flags := ⟨q.z, q.nf, q.c⟩

/-- NOP: the result is 0, and nothing is written (R138). -/
def execSeqNop (n : Fin 4) (s : State) : Host.Outcome State Fault Refusal :=
  done s (fun s => s.aluPhase n 0x0 (fun s => s.aluEnd n 0 false (s.sq n).flags))

/-- MOV: B (R138). -/
def execSeqMov (n : Fin 4) (s : State) : Host.Outcome State Fault Refusal :=
  done s (fun s => s.aluPhase n 0x1 (fun s => s.aluEnd n (s.sq n).opB true (s.sq n).flags))

/-- ADD: A + B; Z, N and the carry (R138). -/
def execSeqAdd (n : Fin 4) (s : State) : Host.Outcome State Fault Refusal :=
  done s (fun s => s.aluPhase n 0x2 (fun s =>
    let a := (s.sq n).opA
    let b := (s.sq n).opB
    s.aluEnd n (a + b) true (Flags.ofResult (a + b) (carry a b))))

/-- SUB: A − B; Z, N and the borrow (R138). -/
def execSeqSub (n : Fin 4) (s : State) : Host.Outcome State Fault Refusal :=
  done s (fun s => s.aluPhase n 0x3 (fun s =>
    let a := (s.sq n).opA
    let b := (s.sq n).opB
    s.aluEnd n (a - b) true (Flags.ofResult (a - b) (borrow a b))))

/-- AND; Z and N (R138). -/
def execSeqAnd (n : Fin 4) (s : State) : Host.Outcome State Fault Refusal :=
  done s (fun s => s.aluPhase n 0x4 (fun s =>
    let r := (s.sq n).opA &&& (s.sq n).opB
    s.aluEnd n r true (Flags.ofResult r (s.sq n).c)))

/-- OR; Z and N (R138). -/
def execSeqOr (n : Fin 4) (s : State) : Host.Outcome State Fault Refusal :=
  done s (fun s => s.aluPhase n 0x5 (fun s =>
    let r := (s.sq n).opA ||| (s.sq n).opB
    s.aluEnd n r true (Flags.ofResult r (s.sq n).c)))

/-- XOR; Z and N (R138). -/
def execSeqXor (n : Fin 4) (s : State) : Host.Outcome State Fault Refusal :=
  done s (fun s => s.aluPhase n 0x6 (fun s =>
    let r := (s.sq n).opA ^^^ (s.sq n).opB
    s.aluEnd n r true (Flags.ofResult r (s.sq n).c)))

/-- SHL: A shifted left by B[4:0]; Z and N (R138). -/
def execSeqShl (n : Fin 4) (s : State) : Host.Outcome State Fault Refusal :=
  done s (fun s => s.aluPhase n 0x7 (fun s =>
    let r := (s.sq n).opA <<< ((s.sq n).opB.toNat % 32)
    s.aluEnd n r true (Flags.ofResult r (s.sq n).c)))

/-- SHR: A shifted right logically by B[4:0]; Z and N (R138). -/
def execSeqShr (n : Fin 4) (s : State) : Host.Outcome State Fault Refusal :=
  done s (fun s => s.aluPhase n 0x8 (fun s =>
    let r := (s.sq n).opA >>> ((s.sq n).opB.toNat % 32)
    s.aluEnd n r true (Flags.ofResult r (s.sq n).c)))

/-- CMP: A − B, nothing written; Z, N and the borrow (R138). -/
def execSeqCmp (n : Fin 4) (s : State) : Host.Outcome State Fault Refusal :=
  done s (fun s => s.aluPhase n 0x9 (fun s =>
    let a := (s.sq n).opA
    let b := (s.sq n).opB
    s.aluEnd n (a - b) false (Flags.ofResult (a - b) (borrow a b))))

/-- DEC: A − 1; Z, N and the borrow (R138). -/
def execSeqDec (n : Fin 4) (s : State) : Host.Outcome State Fault Refusal :=
  done s (fun s => s.aluPhase n 0xA (fun s =>
    let a := (s.sq n).opA
    s.aluEnd n (a - 1) true (Flags.ofResult (a - 1) (borrow a 1))))

/-- WIN: the wedge number of the window in progress, which during an exclusion is the one that follows it (R139, R149). -/
def State.winNow (s : State) (n : Fin 4) : Nat := if (s.tim n).excl then (s.sv n).wedge else (s.tim n).wedge

/-- The special source of a number, at data bit `bitNow` of the window in progress; an unlisted one reads 0 (R139).  The
descriptor's words read 0 until DISPATCH has started it (R160; DESIGN CHOICE, log entry 117). -/
def State.specialSource (s : State) (n : Fin 4) (k bitNow : Nat) : Word :=
  let d := fun (i : Nat) => match (s.lane n).cur with | some d => d.w i | none => 0
  if k < 8 then d (8 + k)
  else if k < 0xD then d (k - 8)
  else if k = 0x10 then BitVec.ofNat 32 (s.winNow n)
  else if k = 0x11 then (if (s.tim n).excl then 0 else BitVec.ofNat 32 bitNow)
  else if k = 0x12 then s.reg (.ast n) Reg.AST_LEAD
  else if k = 0x13 then BitVec.ofNat 32 s.wedges
  else 0

/-- LD: the special source numbered B[5:0] (R138, R139). -/
def execSeqLd (n : Fin 4) (bitNow : Nat) (s : State) : Host.Outcome State Fault Refusal :=
  done s (fun s => s.aluPhase n 0xB (fun s =>
    s.aluEnd n (s.specialSource n ((s.sq n).opB.toNat % 64) bitNow) true (s.sq n).flags))

/-- An ST to a special destination: WINBITS, which is a machine check while the queue or a sector uses it, SRV_OFS, ALIGN;
an unlisted one has no effect (R139, R148, R179).  Of WINBITS 18 bits are kept, as many as WIN_BITS has (R158;
DESIGN CHOICE, log entry 117). -/
def State.specialDest (s : State) (n : Fin 4) (k : Nat) (a : Word) : State :=
  if k = 0 then
    if (s.tim n).evq ≠ 0 ∨ (s.tim n).act ≠ [] then s.mcheck n 8
    else s.setTim n { s.tim n with winbits := a.toNat % 2 ^ 18 }
  else if k = 1 then
    let s1 := s.setSq n { s.sq n with srvOfs := a.toNat % 256 }
    if (s1.lane n).cur.isSome && closedLoop (s1.mode n) then s1.setSv n { s1.sv n with moved := true } else s1
  else if k = 2 then s.setSq n { s.sq n with align := a }
  else s

/-- ST: A, also written to the special destination numbered B[5:0]; DST is not written (R138, R139). -/
def execSeqSt (n : Fin 4) (s : State) : Host.Outcome State Fault Refusal :=
  done s (fun s => s.aluPhase n 0xC (fun s =>
    let q := s.sq n
    (s.aluEnd n q.opA false q.flags).specialDest n (q.opB.toNat % 64) q.opA))

/-! ### Windows (R149) -/

/-- The number of the window in progress; during an exclusion, of the one that follows it (R149). -/
def Timing.windowNow (t : Timing) : Nat := if t.excl then t.winSeq + 1 else t.winSeq

/-! ### Firing (R149 to R154) -/

/-- AG takes a value; a rise with ARMED 0 latches NOT_ARMED (R208). -/
def State.setAg (s : State) (n : Fin 4) (b : Bool) : State :=
  let rise := b && !(s.tim n).ag
  let s1 := (s.setTim n { s.tim n with ag := b }).setF (.ast n) F.AST_STAT_AG (bit b)
  if rise && !s1.armed n then s1.assistFault n afNotArmed else s1.updAgate n

/-- DHOLD takes a value at a data bit: its rise holds the loops, its fall releases them (R103, R154). -/
def State.setDhold (s : State) (n : Fin 4) (win pos : Nat) (b : Bool) : State :=
  if b == (s.tim n).dhold then s
  else if b then
    let s1 := s.holdStart n win pos
    s1.setTim n { s1.tim n with dhold := true }
  else (s.setTim n { s.tim n with dhold := false }).holdEnd n win pos

/-- The gate changes of an event at a data bit: bit 0 AG, bit 1 DHOLD (R137, R154). -/
def State.applyGates (s : State) (n : Fin 4) (win pos mask val : Nat) : State :=
  let s1 := if mask.testBit 1 then s.setDhold n win pos (val.testBit 1) else s
  if mask.testBit 0 then s1.setAg n (val.testBit 0) else s1

/-- The profile of the dispatch in progress, latched at a sector's start (R121). -/
def State.profNow (s : State) (n : Fin 4) : Word :=
  match (s.lane n).cur with
  | some d => s.reg (.chn n) (Reg.CHN_RPROF + 4 * d.rprof)
  | none => 0

/-- A window ends between two bits of a sector that starts at (win, pos): the field between them is split (R73). -/
def splitWithin (winbits win pos a b : Nat) : Bool :=
  (advanceBits winbits 64 win pos (a + 1)).1 != (advanceBits winbits 64 win pos b).1

/-- The head's row of the channel's table (R100). -/
def State.headRow (s : State) (n : Fin 4) (h : Nat) : Word × Word :=
  (Sparse.get (fun _ => 0) (s.ch n).headTab (headIndex h * 2), Sparse.get (fun _ => 0) (s.ch n).headTab (headIndex h * 2 + 1))

/-- What the channel latches at the start of a read sector: the profile (R121), the head's row (R100), the loops (R112), the
expected position of SM1 (R150), and whether a window ends within a sync mark (R73). -/
def State.latchSector (s : State) (n : Fin 4) (win pos : Nat) (r : SectRef) : SectRef :=
  let wb := (s.tim n).winbits
  { r with prof := s.profNow n, row := s.headRow n r.head, start := (s.ch n).loops,
           sm1At := advanceBits wb 64 win pos sm1Bit,
           sm1Split := splitWithin wb win pos sm1Bit (sm1Bit + 32), sm2Split := splitWithin wb win pos sm2Bit sm2End }

/-- The loops at a sector's start: the gain is GAIN0 for the first sector of a dispatch, the phase is zeroed, and the
acquisition gains apply (R102). -/
def State.startLoops (s : State) (n : Fin 4) (r : SectRef) : State :=
  let c := s.ch n
  let g := if r.idx = 0 then F.CHN_HD_DATA_W0_GAIN0.get (s.headRow n r.head).1 else c.loops.gain
  s.setCh n { c with loops := { c.loops with gain := g, phase := 0 }, acq := true }

/-- Where the read capture of a sector closes, 64 bits after the end of SM2: 48 bits after the postamble, which no resync field
of the sector's own precedes (R109, R150, R151). -/
def capClose (winbits win pos : Nat) : Nat × Nat :=
  let e := advanceBits winbits 64 win pos sectorBits
  forthBits winbits e.1 e.2 48

/-- The preamble of an announced read sector is due (R150). -/
def State.beginRead (s : State) (n : Fin 4) (win pos : Nat) (r0 : SectRef) : State :=
  let s0 := (s.runLoops n).startLoops n r0
  let r := s0.latchSector n win pos r0
  let t := s0.tim n
  let s1 := s0.setTim n { t with act := t.act ++ [r], caps := t.caps.map (fun q => if q.same r then r else q) }
  let at_ := fun (k : Nat) => advanceBits t.winbits 64 win pos k
  let e := at_ sectorBits
  let c := capClose t.winbits win pos
  let q := at_ 96
  let s2 := s1.addTimed n q.1 q.2 (.acquired r)
  let s3 := if r.sm1Split then s2 else s2.addTimed n (at_ (sm1Bit + 48 + 32)).1 (at_ (sm1Bit + 48 + 32)).2 (.sm1 r)
  (s3.addTimed n e.1 e.2 (.spanEnd r)).addTimed n c.1 c.2 (.close r)

/-- The write data of a sector in the FIFO, if it is there (R126). -/
def State.writeData (s : State) (n : Fin 4) (r : SectRef) : Option WData :=
  (s.ch n).wfifo.find? (fun w => w.dispId == r.dispId && w.idx == r.idx)

/-- A write stops at the boundary where a sector is due: that sector is the one latched, and it is not written (R126, R128). -/
def State.stopDue (s : State) (n : Fin 4) (r : SectRef) (cause : Nat) : State :=
  (s.setTim n { s.tim n with act := r :: (s.tim n).act }).writeStop n cause

/-- The preamble of an announced write sector is due: the sector starts, or the write stops at this boundary (R126 to
R129).  After a stop no later sector of the dispatch starts (R128). -/
def State.beginWrite (s : State) (n : Fin 4) (win pos : Nat) (r : SectRef) : State :=
  if (s.tim n).wstop then s.finish n r false
  else if (s.lane n).paLow then s.stopDue n r wsPreamp
  else if s.on (.srv n) F.SRV_STAT_WINH then s.stopDue n r wsInhibit
  else if s.assistFaulted n then s.stopDue n r wsAssist
  else
    match s.writeData n r with
    | none => s.stopDue n r wsNotReady
    | some w =>
      if w.error then (s.stopDue n r wsBusError).err (.chn n) eUncorr
      else if !r.ready then s.stopDue n r wsNotReady
      else
        let t := s.tim n
        let s1 := (s.setTim n { t with act := t.act ++ [r], wreq := true }).setLane n
          { s.lane n with wd := some (sectorAddress (surfaceOfHead r.head) r.track r.sector, w.data) }
        let e := advanceBits t.winbits 64 win pos sectorBits
        (s1.addTimed n e.1 e.2 (.spanEnd r)).updWgate n

/-- An announced sector or an AG rise comes due while SETTLED is 0 (R153). -/
def State.dueUnsettled (s : State) (n : Fin 4) (mask val : Nat) (r : Option SectRef) : Bool :=
  !s.settled n && (r.isSome || (mask.testBit 0 && val.testBit 0 && !(s.tim n).ag))

/-- An event fires (R149, R150, R153). -/
def State.fireEvent (s : State) (n : Fin 4) (win pos mask val : Nat) (r : Option SectRef) : State :=
  if s.dueUnsettled n mask val r then s.mcheck n 9
  else
    let s1 := s.applyGates n win pos mask val
    match r with
    | none => s1
    | some r => if r.write then s1.beginWrite n win pos r else s1.beginRead n win pos r

/-- The read capture opens, and a pin of the same sector goes (R111, R150). -/
def State.openCapture (s : State) (n : Fin 4) (r : SectRef) : State :=
  if !s.settled n then s.mcheck n 9
  else
    let s1 := s.unpinSame n r
    s1.setTim n { s1.tim n with caps := (s1.tim n).caps ++ [r] }

/-- The preamble has been acquired: LOCKED sets (R104). -/
def State.preambleAcquired (s : State) (n : Fin 4) (r : SectRef) : State :=
  if (s.tim n).act.any (fun q => q.same r && !q.lockLost) then s.setF (.chn n) F.CHN_LOOP_STAT_LOCKED 1 else s

/-- The loops change to their tracking gains, unless they hold (R102, R103). -/
def State.toTracking (s : State) (n : Fin 4) : State :=
  let s1 := s.runLoops n
  s1.setCh n { s1.ch n with acq := false }

/-- SM1_ACCEPT: where SM1 was found, the sector keeps the place, and the loops change to tracking gains (R115). -/
def State.sm1Search (s : State) (n : Fin 4) (r : SectRef) (d : List Nat) : State :=
  match sm1Find d with
  | none => s
  | some k => (s.setTim n ((s.tim n).mapRead (fun q => q.same r) (fun q => { q with sm1 := some k }))).toTracking n

/-- A write sector's data is whole in the FIFO: the sector may start when it is due (R126). -/
def State.dataReady (s : State) (n : Fin 4) (r : SectRef) : State :=
  let whole := (s.writeData n r).isSome
  let mark := fun (x : Timed) => match x.item with
    | .event m v (some q) => if q.write && q.same r then { x with item := TimedItem.event m v (some { q with ready := whole }) } else x
    | _ => x
  s.setTim n { s.tim n with timed := (s.tim n).timed.map mark }

/-- A write sector is due at the data bit where another ends: the gate stays open between them (R150). -/
def Timing.writeFollows (t : Timing) (win pos : Nat) : Bool :=
  t.timed.any (fun x => x.win == win && x.pos == pos && (match x.item with | .event _ _ (some q) => q.write | _ => false))

/-- The end of a sector's postamble: a write sector whose gate stayed high through it is written (R128, R150). -/
def State.endSpan (s : State) (n : Fin 4) (win pos : Nat) (r : SectRef) : State :=
  let t := s.tim n
  let act := t.act.filter (fun q => !q.same r)
  if r.write then
    let s1 := s.setTim n { t with act := act, wreq := act.any (fun q => q.write) || t.writeFollows win pos }
    let s2 := s1.setCh n { s1.ch n with wfifo := (s1.ch n).wfifo.filter (fun w => !(w.dispId == r.dispId && w.idx == r.idx)) }
    let s3 := if (s2.tim n).wreq then s2 else s2.setLane n { s2.lane n with wd := none }
    (s3.settle n r.dispId r.idx true).updWgate n
  else
    let s0 := s.runLoops n
    s0.setTim n { s0.tim n with act := act }

/-- The read capture closes: the sector is due for decoding (R108, R150). -/
def State.closeCapture (s : State) (n : Fin 4) (r : SectRef) : State :=
  let t := s.tim n
  let mine := (t.caps.filter (fun q => q.same r)).take 1
  (s.setTim n { t with caps := t.caps.filter (fun q => !q.same r) }).setCh n { s.ch n with due := (s.ch n).due ++ mine }

/-- TIMING_EVENT_FIRE: the first timed item, whose window has begun, comes due (R149, R150). -/
def State.timingFire (s : State) (n : Fin 4) (sm1 : List Nat) : State :=
  let t := s.tim n
  match t.timed with
  | [] => s.ignore
  | x :: rest =>
    if t.excl || decide (t.winSeq < x.win) then s.ignore
    else
      let s1 := s.setTim n { t with timed := rest, bitpos := x.pos }
      match x.item with
      | .event mask val r => s1.fireEvent n x.win x.pos mask val r
      | .openCap r => s1.openCapture n r
      | .ready r => s1.dataReady n r
      | .acquired r => s1.preambleAcquired n r
      | .sm1 r => s1.sm1Search n r sm1
      | .track => s1.toTracking n
      | .dhold _ up => s1.setDhold n x.win x.pos up
      | .spanEnd r => s1.endSpan n x.win x.pos r
      | .close r => s1.closeCapture n r

/-- TIMING_EVENT_FIRE (R149). -/
def execTimingEventFire (p : TimedPoint) (s : State) : Host.Outcome State Fault Refusal :=
  done s (fun s => s.timingFire p.lane p.sm1)

/-- The resync field at the start of a window in which a read sector goes on: the acquisition gains apply over its 24 preamble
bits, the tracking gains from its mark (R102, R105). -/
def State.resync (s : State) (n : Fin 4) : State :=
  if (s.tim n).reading.isSome then
    (s.setCh n { s.ch n with acq := true }).addTimed n (s.tim n).winSeq 24 .track
  else s

/-- DATA_WINDOW_START: with lock, the window after the wedge just passed begins (R148).  A sector in progress then goes on,
which takes the lane clock settled: where a divider change that came into force during the exclusion has not settled, the
capture or the write gate may not open, and the sector counts as one due while SETTLED is 0 (R153; DEDUCED, log entry 117). -/
def State.windowStart (s : State) (n : Fin 4) : State :=
  let t := s.tim n
  let s1 := s.setTim n { t with winSeq := t.winSeq + 1, wedge := (s.sv n).wedge, bitpos := 0, excl := false,
                                starts := t.starts + 1 }
  if !s1.settled n && (t.caps != [] || t.wreq) then s1.mcheck n 9 else (s1.resync n).updWgate n

/-- DATA_WINDOW_START (R148). -/
def execDataWindowStart (n : Fin 4) (s : State) : Host.Outcome State Fault Refusal :=
  done s (fun s => s.when (s.slock n && (s.tim n).excl) (s.windowStart n))

/-! ### Posting (R149, R150, R152) -/

/-- The position that the word in progress gives its event (R149). -/
def Sequencer.evtPos (q : Sequencer) : Nat :=
  if CsWord.evtSrc q.word then q.alu.toNat else CsWord.imm q.word % 2 ^ 18

/-- The last event queued. -/
def Timing.lastEvent (t : Timing) : Option Timed := (t.timed.filter (fun x => x.item matches .event _ _ _)).getLast?

/-- Data bits that remain before a position, posted at bit `bitNow` of the window in progress (R152). -/
def Timing.remaining (t : Timing) (bitNow win pos : Nat) : Int :=
  let b : Int := if t.excl then 0 else bitNow
  if win = t.windowNow then pos - b else (t.winbits : Int) - b + pos

/-- A late event (R152): LATE in UNIT_ERR and one count. -/
def State.countLate (s : State) (n : Fin 4) : State :=
  (s.err (.tsq n) 9).count64 (.tsq n) Reg.TSQ_CNT_LATE_LO

/-- A mapped defect of the descriptor: sector index, offset in bits and length in bits (R158). -/
def Disp.defect (d : Disp) (k : Nat) : Nat × Nat × Nat :=
  let w := d.w (11 + k)
  (Field.get ⟨0, 0, 8⟩ w, Field.get ⟨0, 8, 16⟩ w, 16 * Field.get ⟨0, 24, 8⟩ w)

/-- The word in progress comes from ROM. -/
def State.inRom (s : State) (n : Fin 4) : Bool := decide ((s.sq n).pc < 0xC00)

/-- The ROM raises DHOLD over each mapped defect of a sector whose index is less than COUNT, its offset converted into window
positions across splits (R159).  The ROM's words are not given; what they do here is put on the announcement (DEDUCED, log
entry 124). -/
def State.mappedDefects (s : State) (n : Fin 4) (win pos : Nat) (r : SectRef) : State :=
  match (s.lane n).cur with
  | none => s
  | some d =>
    if !s.inRom n then s
    else
      [0, 1].foldl (fun (t : State) k =>
        let e := d.defect k
        if e.1 = r.idx ∧ e.1 < d.count ∧ e.2.2 ≠ 0 then
          let a := advanceBits (t.tim n).winbits 64 win pos e.2.1
          let b := advanceBits (t.tim n).winbits 64 win pos (e.2.1 + e.2.2)
          (t.addTimed n a.1 a.2 (.dhold r true)).addTimed n b.1 b.2 (.dhold r false)
        else t) s

/-- An event of the word in progress is posted, with the sector it announces, if any (R149, R150, R152). -/
def State.post (s : State) (n : Fin 4) (bitNow : Nat) (r : Option SectRef) : State :=
  let q := s.sq n
  let t := s.tim n
  let pos := q.evtPos
  let win := t.windowNow + CsWord.evtWin q.word
  let mask := CsWord.gmask q.word % 4
  let val := CsWord.gval q.word % 4
  if 8 ≤ t.evq then s.wait
  else if t.winbits ≤ pos ∨ t.lastEvent.any (fun x => before win pos x.win x.pos) then s.mcheck n 8
  else
    let late := decide (t.remaining bitNow win pos < 128)
    let s0 := (s.setSq n { q with evtDone := true, cmdDone := q.cmdDone || r.isSome }).setTim n { t with late := late }
    let s1 :=
      match r, (s0.lane n).cur with
      | some r, some d => s0.setLane n { s0.lane n with cur := some { d with announced := addOnce d.announced r.idx } }
      | _, _ => s0
    if late then
      let s2 := s1.countLate n
      if (r.any (fun r => r.write)) || (mask.testBit 0 && val.testBit 0 && !t.ag) then s2.mcheck n 7
      else if s2.dueUnsettled n mask val r then s2.mcheck n 9
      else
        let s3 := s2.applyGates n t.winSeq bitNow mask val
        match r with
        | some r => s3.finish n r false
        | none => s3
    else
      let s2 := s1.addTimed n win pos (.event mask val r)
      match r with
      | some r =>
        let c := backBits t.winbits win pos 64
        (s2.addTimed n c.1 c.2 (if r.write then .ready r else .openCap r)).mappedDefects n win pos r
      | none => s2

/-- The phases of the word in progress before its event and command. -/
def State.postReady (s : State) (n : Fin 4) : Bool := s.seqRuns n && (s.sq n).aluDone && !(s.sq n).evtDone

/-- EVENT_POST: the event of a word without a sector (R149). -/
def execEventPost (n : Fin 4) (bitNow : Nat) (s : State) : Host.Outcome State Fault Refusal :=
  done s (fun s => s.when
    (s.postReady n && CsWord.evtEn (s.sq n).word && CsWord.cmd (s.sq n).word != 1 && CsWord.cmd (s.sq n).word != 2)
    (s.post n bitNow none))

/-- The sector that the word in progress announces for a dispatch (R150). -/
def State.announce (s : State) (n : Fin 4) (d : Disp) (write : Bool) : SectRef :=
  let sector := ((s.sq n).greg (CsWord.creg (s.sq n).word)).toNat % 2048
  { dispId := d.id, idx := (sector + 2048 - d.first) % 2048, slot := d.slot, epoch := d.epoch, head := d.head,
    track := d.track, sector := sector, handle := d.handle + (sector + 2048 - d.first) % 2048, write := write, dual := d.leg,
    prof := s.profNow n, captured := true, lockLost := false }

/-- A lane command of the word in progress: it must be the command named; a reserved code is a machine check with cause 0x5
(R155). -/
def State.cmdPhase (s : State) (n : Fin 4) (c : Nat) (f : State → State) : State :=
  let q := s.sq n
  if !s.seqRuns n || !q.aluDone || q.cmdDone then s.ignore
  else if 8 ≤ CsWord.cmd q.word then s.mcheck n 5
  else if CsWord.cmd q.word ≠ c then s.ignore
  else f s

/-- The cases in which the ROM ends a dispatch with status 100b, before any seek (R159). -/
def State.romRefuses (s : State) (d : Disp) : Bool :=
  let startBit := Field.get ⟨0, 0, 18⟩ (d.w 9)
  let winBits := Field.get ⟨0, 0, 18⟩ (d.w 10)
  let startWin := Field.get ⟨0, 8, 10⟩ (d.w 8)
  let spt := Field.get ⟨0, 16, 11⟩ (d.w 13)
  decide (winBits ≤ startBit) || decide (s.wedges ≤ startWin) || decide (spt < d.first + d.count)

/-- The dispatch in progress, unless a word of the ROM acts on one that the ROM refuses: before its END the ROM gives such a
dispatch no head select, seek, arming or sector (R159; DEDUCED, log entry 124). -/
def State.workDisp (s : State) (n : Fin 4) : Option Disp :=
  (s.lane n).cur.filter (fun d => !(s.inRom n && s.romRefuses d))

/-- SECT_RD or SECT_WR (R150): without an event, or a write in a read, a machine check with cause 0x5. -/
def State.sect (s : State) (n : Fin 4) (bitNow : Nat) (write : Bool) : State :=
  if !CsWord.evtEn (s.sq n).word || (write && !s.opw n) then s.mcheck n 5
  else
    match s.workDisp n with
    | none => s.ignore
    | some d => s.post n bitNow (some (s.announce n d write))

/-- SECT_RD (R150). -/
def execSectRd (n : Fin 4) (bitNow : Nat) (s : State) : Host.Outcome State Fault Refusal :=
  done s (fun s => s.cmdPhase n 1 (fun s => s.sect n bitNow false))

/-- SECT_WR (R150). -/
def execSectWr (n : Fin 4) (bitNow : Nat) (s : State) : Host.Outcome State Fault Refusal :=
  done s (fun s => s.cmdPhase n 2 (fun s => s.sect n bitNow true))

/-! ### Lane commands (R155) -/

/-! A command that needs a dispatch, in a word with none in progress, has no outcome in the spec: it is ignored, and the word
does not complete (DESIGN CHOICE, log entry 117). -/

/-- The command of the word in progress has been sent. -/
def State.cmdSent (s : State) (n : Fin 4) : State := s.setSq n { s.sq n with cmdDone := true }

/-- HEAD: the descriptor's head over the Halyard link; the servo takes it, ARMED clears, and the lead follows (R155, R185,
R207, R209). -/
def State.headCommand (s : State) (n : Fin 4) : State :=
  match s.workDisp n with
  | none => s.ignore
  | some d =>
    let h := headIndex d.head
    let s1 := s.setSq n { s.sq n with cmdDone := true, headOk := false, headErr := false }
    let s2 := ((s1.disarm n).servoHead n h).leadUpdate n
    (s2.setAt n { s2.at n with sliderRead := false }).queueFrame n (.headSel h)

/-- HEAD (R155). -/
def execHeadSelect (n : Fin 4) (s : State) : Host.Outcome State Fault Refusal :=
  done s (fun s => s.cmdPhase n 3 (fun s => s.headCommand n))

/-- OFFTRK of the dispatch's profile (R121). -/
def State.offtrk (s : State) (n : Fin 4) (d : Disp) : Int :=
  signed 8 (F.CHN_RPROF_OFFTRK.get (s.reg (.chn n) (Reg.CHN_RPROF + 4 * d.rprof)))

/-- SEEK: to DTRACK at OFFTRK + SRV_OFS, held while the seeks in flight fill the cap or the media throttle pauses the
lane, unless it ends at once (R58, R155, R179, R185, R513). -/
def State.seekCommand (s : State) (n : Fin 4) : State :=
  match s.workDisp n with
  | none => s.ignore
  | some d =>
    let ofs := s.offtrk n d + signed 8 (s.sq n).srvOfs
    if s.seekStarts n d.track ofs && !(s.sv n).seeking && (s.dev.mediaPause || decide (capSeekLimit s.capLevel ≤ s.capSeeks)) then
      s.wait
    else (s.cmdSent n).servoSeek n d.track (s.offtrk n d) (signed 8 (s.sq n).srvOfs)

/-- SEEK (R155). -/
def execSeek (n : Fin 4) (s : State) : Host.Outcome State Fault Refusal :=
  done s (fun s => s.cmdPhase n 4 (fun s => s.seekCommand n))

/-- HOLD (R155, R185). -/
def execSeekHold (n : Fin 4) (us : Nat) (s : State) : Host.Outcome State Fault Refusal :=
  done s (fun s => s.cmdPhase n 5 (fun s => (s.cmdSent n).servoHold n us))

/-- AST_ARM: the assist controller is asked for the active head's write set-points (R155, R205); one whose engine has stopped
refuses (R387). -/
def State.armCommand (s : State) (n : Fin 4) : State :=
  match s.workDisp n with
  | none => s.ignore
  | some d =>
    if s.takes (.ast n) then (s.cmdSent n).arm n d.rzone
    else if s.unitState (.ast n) = stFault then (s.cmdSent n).armRefuse n 3
    else s.cmdSent n

/-- AST_ARM (R155, R205). -/
def execAstArm (n : Fin 4) (s : State) : Host.Outcome State Fault Refusal :=
  done s (fun s => s.cmdPhase n 6 (fun s => s.armCommand n))

/-- AST_DISARM (R155, R207). -/
def execAstDisarm (n : Fin 4) (s : State) : Host.Outcome State Fault Refusal :=
  done s (fun s => s.cmdPhase n 7 (fun s => (s.cmdSent n).astDisarm n))

/-! ### Waits (R144 to R147) -/

/-- The word in progress has carried out its operation, event and command. -/
def Sequencer.issued (q : Sequencer) : Bool :=
  q.aluDone && (q.evtDone || !CsWord.evtEn q.word) && (q.cmdDone || CsWord.cmd q.word == 0)

/-- The word in progress waits (R144). -/
def State.waiting (s : State) (n : Fin 4) : Bool :=
  s.seqRuns n && (s.sq n).issued && CsWord.waitEn (s.sq n).word && !(s.sq n).waitDone

/-- The condition that the word waits on is at its level (R144). -/
def State.waitMet (s : State) (n : Fin 4) : Bool :=
  s.cond n (CsWord.waitSel (s.sq n).word) == !CsWord.waitPol (s.sq n).word

/-- A cancel ends the wait in preference to a condition or a timeout (R147). -/
def State.waitCancelled (s : State) (n : Fin 4) : Bool := CsWord.waitCx (s.sq n).word && (s.lane n).cancelSeen

/-- WAIT_CONDITION_MET: the condition ends the wait, and TMO clears (R144). -/
def execWaitConditionMet (n : Fin 4) (s : State) : Host.Outcome State Fault Refusal :=
  done s (fun s => s.when (s.waiting n && s.waitMet n && !s.waitCancelled n) (s.setSq n { s.sq n with waitDone := true, tmo := false }))

/-- The word has a timeout that may have run out: with unit 11b it counts window starts (R137, R144). -/
def State.timeoutMay (s : State) (n : Fin 4) : Bool :=
  let w := (s.sq n).word
  CsWord.tmo w != 0 && (CsWord.tmoUnit w != 3 || decide (CsWord.tmo w ≤ (s.tim n).starts))

/-- WAIT_TIMEOUT: the timeout ends the wait, and TMO sets; a condition at its level wins (R144). -/
def execWaitTimeout (n : Fin 4) (s : State) : Host.Outcome State Fault Refusal :=
  done s (fun s => s.when (s.waiting n && !s.waitMet n && s.timeoutMay n && !s.waitCancelled n)
    (s.setSq n { s.sq n with waitDone := true, tmo := true }))

/-- WAIT_CANCEL: a cancel ends a wait with WAIT_CX, and the next address is the cancel entry (R147). -/
def execWaitCancel (n : Fin 4) (par : Parity) (s : State) : Host.Outcome State Fault Refusal :=
  done s (fun s => s.when (s.waiting n && s.waitCancelled n) (s.seqFetch n 0x3C0 par))

/-- WORD_WATCHDOG: a word that lasts too long is a machine check with cause 0xA (R146). -/
def execWordWatchdog (n : Fin 4) (s : State) : Host.Outcome State Fault Refusal :=
  done s (fun s => s.when (s.seqRuns n) (s.mcheck n 10))

/-! ### Sequence actions (R141, R142, R157) -/

/-- The sequence action of the word in progress, once it has waited: it must be the action named; a reserved code is a
machine check with cause 0x3 (R141). -/
def State.seqPhase (s : State) (n : Fin 4) (c : Nat) (f : State → State) : State :=
  let q := s.sq n
  if !s.seqRuns n || !q.issued || (CsWord.waitEn q.word && !q.waitDone) then s.ignore
  else if 5 ≤ CsWord.seq q.word then s.mcheck n 3
  else if CsWord.seq q.word ≠ c then s.ignore
  else f s

/-- The next address of JUMP and CALL (R142). -/
def State.branchAddr (s : State) (n : Fin 4) : Nat :=
  let w := (s.sq n).word
  CsWord.next w ||| (s.condGroup n (CsWord.brGrp w) &&& CsWord.brMask w)

/-- JUMP (R141, R142). -/
def execSeqJump (n : Fin 4) (par : Parity) (s : State) : Host.Outcome State Fault Refusal :=
  done s (fun s => s.seqPhase n 0 (fun s => s.seqFetch n (s.branchAddr n) par))

/-- CALL: pushes the fetch address plus 1, mod 4,096; a full stack is a machine check with cause 0x6 (R141). -/
def State.seqCall (s : State) (n : Fin 4) (par : Parity) : State :=
  let q := s.sq n
  if 4 ≤ q.stack.length then s.mcheck n 6
  else (s.setSq n { q with stack := (q.pc + 1) % 4096 :: q.stack }).seqFetch n (s.branchAddr n) par

/-- CALL (R141). -/
def execSeqCall (n : Fin 4) (par : Parity) (s : State) : Host.Outcome State Fault Refusal :=
  done s (fun s => s.seqPhase n 1 (fun s => s.seqCall n par))

/-- RET: pops the return address; an empty stack is a machine check with cause 0x6 (R141). -/
def State.seqRet (s : State) (n : Fin 4) (par : Parity) : State :=
  let q := s.sq n
  match q.stack with
  | [] => s.mcheck n 6
  | a :: t => (s.setSq n { q with stack := t }).seqFetch n a par

/-- RET (R141). -/
def execSeqRet (n : Fin 4) (par : Parity) (s : State) : Host.Outcome State Fault Refusal :=
  done s (fun s => s.seqPhase n 2 (fun s => s.seqRet n par))

/-- The descriptor that waits is started (R78, R91, R160): the divider follows the zone, the transfer counts under the cap,
and a write begins without a stop cause, unless Ln_PA_FLT_N is low, which stops it before any gate rises
(R129). -/
def State.startDispatch (s : State) (n : Fin 4) : State :=
  match (s.lane n).next with
  | none => s
  | some d =>
    if !s.dispWaits n then s
    else
      let s1 := s.setLane n { s.lane n with next := none, cur := some d, cancelSeen := false }
      let s2 := if d.div &&& 0x007FFFFF = (s1.lane n).divInForce then s1 else s1.divWrite n d.div
      let s3 := if d.op = 4 then s2 else s2.capStart (.transfer n.val)
      let s4 := if d.isWrite then s3.setF (.chn n) F.CHN_WR_STAT_CAUSE 0 else s3
      let s5 := (s4.setTim n { s4.tim n with wstop := false }).setSq n { s4.sq n with align := 0 }
      if d.isWrite && (s5.lane n).paLow then (s5.writeStop n wsPreamp).setF (.chn n) F.CHN_WR_STAT_SECTOR d.first else s5

/-- DISPATCH: NEXT OR OP[3:0] of the descriptor in progress (R141). -/
def State.seqDispatch (s : State) (n : Fin 4) (par : Parity) : State :=
  let s1 := s.startDispatch n
  let op := match (s1.lane n).cur with | some d => d.op % 16 | none => 0
  s1.seqFetch n (CsWord.next (s.sq n).word ||| op) par

/-- DISPATCH (R141, R160). -/
def execSeqDispatch (n : Fin 4) (par : Parity) (s : State) : Host.Outcome State Fault Refusal :=
  done s (fun s => s.seqPhase n 3 (fun s => s.seqDispatch n par))

/-- With status 010b, queued events whose positions have not arrived are discarded; sectors announced and not begun are
given up (R157). -/
def State.dropEvents (s : State) (n : Fin 4) : State :=
  let t := s.tim n
  let lost := t.waitingSects
  let begun := fun (r : SectRef) => t.act.any (fun q => q.same r)
  let keep := t.timed.filter (fun x => match x.item with
    | .event _ _ _ => false | .openCap _ => false | .ready _ => false | .dhold r _ => begun r | _ => true)
  let caps := t.caps.filter (fun r => begun r || keep.any (fun x => match x.item with | .close c => c.idx == r.idx | _ => false))
  lost.foldl (fun u r => u.finish n r false) (s.setTim n { t with timed := keep, caps := caps })

/-- The media work of the dispatch in progress has ended with a sequencer status (R157, R207): the end of a cancelled one
acknowledges the cancel. -/
def State.endDispatch (s : State) (n : Fin 4) (st : Nat) : State :=
  match (s.lane n).cur with
  | none => s
  | some d =>
    let s0 := if st = 4 then s.err (.lane n) eConfig else s
    let l := s0.lane n
    let s1 := s0.setLane n
      { l with cur := none, cancelSeen := false, tails := l.tails ++ [{ d with ended := some st, align := (s.sq n).align }] }
    let s2 := ((s1.capEnd (.transfer n.val)).disarm n)
    let s3 := if st = 2 then s2.ackCancels n d.slot else s2
    s3.reportSettled n

/-- END: the dispatch ends with the status in IMM[2:0], once its last sector has closed; 101b and 111b are machine checks
with cause 0x3 (R157).  The ROM ends one that it refuses with status 100b (R159). -/
def State.seqEnd (s : State) (n : Fin 4) (par : Parity) : State :=
  let refused := s.inRom n && (match (s.lane n).cur with | some d => s.romRefuses d | none => false)
  let st := if refused then 4 else CsWord.imm (s.sq n).word % 8
  if st = 5 ∨ st = 7 then s.mcheck n 3
  else
    let s1 := if st = 2 then s.dropEvents n else s
    let t := s1.tim n
    if t.act ≠ [] ∨ t.caps ≠ [] ∨ t.waitingSects ≠ [] then s1.wait
    else (s1.endDispatch n st).seqFetch n (CsWord.next (s.sq n).word) par

/-- END (R157). -/
def execSeqEnd (n : Fin 4) (par : Parity) (s : State) : Host.Outcome State Fault Refusal :=
  done s (fun s => s.seqPhase n 4 (fun s => s.seqEnd n par))

/-! ### The patch RAM port (R166) -/

/-- The port accepts only the service core, and only while the unit is OFF or in FAULT (R166). -/
def State.patchRefused (s : State) (eng : Engine) (n : Fin 4) : Option BusCause :=
  if eng = .service ∧ (s.unitState (.tsq n) = stOff ∨ s.unitState (.tsq n) = stFault) then none else some .accessDenied

/-- The word held in the four data registers. -/
def State.portWord (s : State) (n : Fin 4) : BitVec 128 :=
  BitVec.ofNat 128 ((s.reg (.tsq n) Reg.TSQ_PW_DATA).toNat + 2 ^ 32 * (s.reg (.tsq n) (Reg.TSQ_PW_DATA + 4)).toNat
    + 2 ^ 64 * (s.reg (.tsq n) (Reg.TSQ_PW_DATA + 8)).toNat + 2 ^ 96 * (s.reg (.tsq n) (Reg.TSQ_PW_DATA + 12)).toNat)

/-- PATCH_WORD_COMMIT: a write of TSQ_PW_DATA3 commits the word with generated parity, flipped as TSQ_PW_FLIP asks, which
then clears (R166, R169). -/
def State.patchCommit (s : State) (n : Fin 4) (v : Word) : State :=
  let s1 := s.setReg (.tsq n) (Reg.TSQ_PW_DATA + 12) v
  let w := s1.portWord n
  let p := oddParity w ^^^ BitVec.ofNat 16 (s1.f (.tsq n) F.TSQ_PW_FLIP_FLIP)
  let k := s1.f (.tsq n) F.TSQ_PW_ADDR_ADDR
  let s2 := s1.setSq n { s1.sq n with patch := Sparse.set (fun _ => (0, 0)) (s1.sq n).patch k (w, p) }
  (s2.setF (.tsq n) F.TSQ_PW_FLIP_FLIP 0).advance (.tsq n) F.TSQ_PW_ADDR_AUTOINC F.TSQ_PW_ADDR_ADDR 1024

/-- PATCH_WORD_COMMIT (R166). -/
def execPatchWordCommit (eng : Engine) (n : Fin 4) (v : Word) (s : State) : Host.Outcome State Fault Refusal :=
  done s (fun s => s.access eng .store (.tsq n) (Reg.TSQ_PW_DATA + 12) (s.patchRefused eng n) (s.patchCommit n v))

/-- The word `i` (0 to 3) of the patch RAM word at ADDR (R166). -/
def State.patchData (s : State) (n : Fin 4) (i : Nat) : Word :=
  ((s.sq n).patchWord (s.f (.tsq n) F.TSQ_PW_ADDR_ADDR)).1.extractLsb' (32 * i) 32

/-- PATCH_WORD_READ: a read of TSQ_PW_DATA3 returns the stored word's top, and ADDR advances (R166). -/
def State.patchRead (s : State) (n : Fin 4) : State :=
  (s.advance (.tsq n) F.TSQ_PW_ADDR_AUTOINC F.TSQ_PW_ADDR_ADDR 1024).answer (.value (s.patchData n 3))

/-- PATCH_WORD_READ (R166). -/
def execPatchWordRead (eng : Engine) (n : Fin 4) (s : State) : Host.Outcome State Fault Refusal :=
  done s (fun s => s.access eng .load (.tsq n) (Reg.TSQ_PW_DATA + 12) (s.patchRefused eng n) (s.patchRead n))

end Sys2Proof.Machine
end

