-- ==== Sys2Proof/Machine/Registers.lean ====
section
/-! DEFINITION. Register reads and writes by any engine: what each register reads as (R4, R5, R7 and the field tables), the
latches of R4, and what a write of each register does beyond R7. -/

namespace Sys2Proof.Machine

/-- A write of SRV_CMD (R194, R196). -/
def State.srvCmd (s : State) (n : Fin 4) (v : Word) : State :=
  let l := F.SRV_CMD_LOAD.get v == 1
  let u := F.SRV_CMD_UNLOAD.get v == 1
  if l && u then s.err (.srv n) eConfig
  else if l then s.servoLoad n
  else if u && closedLoop (s.mode n) then s.beginUnload n
  else s

/-! ### What a register reads as -/

/-- A table word with the bits that its fields give. -/
def tab (l : List (Nat × Word)) (k : Nat) : Word := Sparse.get (fun _ => 0) l k

/-- The bits of a list of numbers below 32, as a word. -/
def bitsWord (l : List Nat) : Word := BitVec.ofNat 32 (l.foldl (fun a i => a + 2 ^ i) 0)

/-- The core whose registers an offset of a pool's block names, and the offset in them (R411). -/
def coreAt (p : Fin 2) (off : Nat) : Option (Fin 16 × Nat) :=
  if 0x100 ≤ off ∧ off < 0x300 then
    ((coresOf p)[(off - 0x100) / 0x40]?).map (fun c => (c, 0x100 + (off - 0x100) % 0x40))
  else none

/-- The header registers (R9 to R22). -/
def State.hdrView (s : State) (u : UnitId) (off : Nat) : Word :=
  if off = Reg.UNIT_ID then u.idWord
  else if off = Reg.UNIT_CAP then u.cap
  else if off = Reg.UNIT_STAT then s.statView u
  else if off = Reg.UNIT_ERR then s.errView u
  else if off = Reg.UNIT_PARENT then linkWord u.parent
  else if off = Reg.UNIT_CHILD then linkWord u.children.head?
  else if off = Reg.UNIT_SIBLING then linkWord u.sibling
  else if off = Reg.UNIT_RETRY_CNT ∨ off = Reg.UNIT_LAST_CNT then s.cntView u off
  else s.reg u off

/-- The device group (R59, R414). -/
def State.devView (s : State) (off : Nat) : Word :=
  let n := s.f .dev F.DEV_IRQ_IDX_SOURCE
  if off = Reg.DEV_PWR_STAT then s.pwrStat
  else if off = Reg.DEV_IRQ_ROUTE then (if irqSource n then s.route n else 0)
  else if off = Reg.DEV_IRQ_STAT then
    (if irqSource n then bitsWord ((if s.irqActive n then [1] else []) ++ (if s.inService n then [0] else [])) else 0)
  else if off = Reg.DEV_IRQ_SWC then s.reg .dev Reg.DEV_IRQ_SWI
  else s.reg .dev off

/-- The media group (R88 to R90). -/
def State.medView (s : State) (off : Nat) : Word :=
  let h := (s.reg .med Reg.MED_HEAD_IDX).toNat % 64
  if off = Reg.MED_HEAD_DATA then (if h < 48 then s.headData h else 0)
  else if off = Reg.MED_DUAL_FREE then BitVec.ofNat 32 (1024 - s.cmd.trackers.length)
  else s.reg .med off

/-- A channel (R131, R132). -/
def State.chnView (s : State) (n : Fin 4) (off : Nat) : Word :=
  let c := s.ch n
  let h := s.f (.chn n) F.CHN_HD_IDX_HEAD
  if off = Reg.CHN_HD_DATA then (if h < 12 then tab c.headTab (h * 2 + s.f (.chn n) F.CHN_HD_IDX_WORD) else 0)
  else if off = Reg.CHN_LOOP_STAT then
    F.CHN_LOOP_STAT_GAIN.put (F.CHN_LOOP_STAT_FOFS.put (F.CHN_LOOP_STAT_FROZEN.put (s.reg (.chn n) off) (bit (s.frozen n)))
      c.loops.fofs) c.loops.gain
  else if off = Reg.CHN_DD_STAT then
    F.CHN_DD_STAT_BUSY.put (F.CHN_DD_STAT_QUEUED.put (s.reg (.chn n) off) (bit c.queued.isSome)) (bit c.ddBusy)
  else if off = Reg.CHN_SBUF_STAT then
    bitsWord (c.pins.map Pin.num) + bitsWord ((c.pins.filter Pin.auto).map (fun x => x.num + 4))
  else if off = Reg.CHN_SEV_STAT then F.CHN_SEV_STAT_COUNT.put (s.reg (.chn n) off) c.sync.length
  else if off = Reg.CHN_SEV_HI then 0
  else s.reg (.chn n) off

/-- A word in progress waits, or stalls on the full event queue (R144, R149, R169). -/
def State.seqStalls (s : State) (n : Fin 4) : Bool :=
  s.waiting n || (s.seqRuns n && CsWord.evtEn (s.sq n).word && !(s.sq n).evtDone && decide (8 ≤ (s.tim n).evq))

/-- A track sequencer (R168, R169). -/
def State.tsqView (s : State) (n : Fin 4) (off : Nat) : Word :=
  let q := s.sq n
  if off = Reg.TSQ_STAT then
    BitVec.ofNat 32 (q.pc % 4096 + 2 ^ 12 * bit (s.seqStalls n) + 2 ^ 13 * q.stack.length + 2 ^ 16 * (s.tim n).evq
      + 2 ^ 20 * bit q.z + 2 ^ 21 * bit q.nf + 2 ^ 22 * bit q.c)
  else if off = Reg.TSQ_PW_PAR then (q.patchWord (s.f (.tsq n) F.TSQ_PW_ADDR_ADDR)).2.zeroExtend 32
  else if Reg.TSQ_PW_DATA ≤ off ∧ off < Reg.TSQ_PW_DATA + 16 then s.patchData n ((off - Reg.TSQ_PW_DATA) / 4)
  else s.reg (.tsq n) off

/-- A servo engine (R199, R200). -/
def State.srvView (s : State) (n : Fin 4) (off : Nat) : Word :=
  let v := s.sv n
  let i := s.f (.srv n) F.SRV_COEF_IDX_INDEX
  let h := s.f (.srv n) F.SRV_RRO_IDX_HEAD
  let w := s.f (.srv n) F.SRV_RRO_IDX_WEDGE
  if off = Reg.SRV_COEF_DATA then (if i < 544 then tab v.coef i else 0)
  else if off = Reg.SRV_RRO_DATA then (if h < 12 ∧ w < 768 then tab v.rro (h * 768 + w) else 0)
  else if off = Reg.SRV_BOFS_DATA then
    tab v.bofs (s.f (.srv n) F.SRV_BOFS_IDX_ENTRY * 2 + s.f (.srv n) F.SRV_BOFS_IDX_WORD)
  else s.reg (.srv n) off

/-- An assist controller (R223, R224). -/
def State.astView (s : State) (n : Fin 4) (off : Nat) : Word :=
  let a := s.at n
  let fld := fun (f : Field) => s.f (.ast n) f
  if off = Reg.AST_STAT then F.AST_STAT_FLT.put (s.reg (.ast n) off) (bit (s.astFlt n))
  else if off = Reg.AST_HD_DATA then
    (if fld F.AST_HD_IDX_HEAD < 12 ∧ fld F.AST_HD_IDX_WORD < 5 then a.hdWord (fld F.AST_HD_IDX_HEAD) (fld F.AST_HD_IDX_WORD)
     else 0)
  else if off = Reg.AST_ZP_DATA then
    (if fld F.AST_ZP_IDX_HEAD < 12 then BitVec.ofNat 32 (a.spz? (fld F.AST_ZP_IDX_HEAD) (fld F.AST_ZP_IDX_ZONE)) else 0)
  else if off = Reg.AST_MODEL_DATA then
    (if fld F.AST_MODEL_IDX_HEAD < 12 ∧ fld F.AST_MODEL_IDX_STATE < 3 then
       BitVec.ofNat 32 (a.x (fld F.AST_MODEL_IDX_HEAD) (fld F.AST_MODEL_IDX_STATE) * 65536).floor.toNat
     else 0)
  else if off = Reg.AST_LIFE_LO ∨ off = Reg.AST_LIFE_HI then
    (if fld F.AST_LIFE_IDX_HEAD < 12 ∧ fld F.AST_LIFE_IDX_CNT < 3 then
       BitVec.ofNat 32 (a.lifeRead (fld F.AST_LIFE_IDX_HEAD) (fld F.AST_LIFE_IDX_CNT) / (if off = Reg.AST_LIFE_LO then 1 else 2 ^ 32))
     else 0)
  else s.reg (.ast n) off

/-- The spindle (R256, R257). -/
def State.spnView (s : State) (off : Nat) : Word :=
  if off = Reg.SPN_STAT then F.SPN_STAT_CHOP_FLT.put (s.reg .spn off) (bit s.chopFlt)
  else if off = Reg.SPN_PADV_DATA then tab s.spn.padv (s.f .spn F.SPN_PADV_IDX_ENTRY)
  else s.reg .spn off

/-- A word of the correction history (R276, R287). -/
def State.histWord (s : State) : Word :=
  match s.histAt (s.f .buf F.BUF_HIST_IDX_ENTRY) with
  | none => 0
  | some e =>
    if s.f .buf F.BUF_HIST_IDX_WORD = 0 then BitVec.ofNat 32 e.line
    else BitVec.ofNat 32 (2 ^ 31 + 2 ^ 30 * bit e.wb + 2 ^ 24 * (e.count % 4) + 2 ^ 16 * (e.lap % 256) + e.pin % 64)

/-- The buffer unit (R286, R287).  No engine sees SELF_REF set: the buffer unit is in RESET then (R45). -/
def State.bufView (s : State) (off : Nat) : Word :=
  if off = Reg.BUF_BTT_DATA then s.btt (s.f .buf F.BUF_BTT_IDX_HANDLE)
  else if off = Reg.BUF_FLT_CFG then F.BUF_FLT_CFG_USED.put (s.reg .buf off) s.buf.ctxs.length
  else if off = Reg.BUF_EV_STAT then F.BUF_EV_STAT_COUNT.put (s.reg .buf off) s.buf.events.length
  else if off = Reg.BUF_EV_HI then 0
  else if off = Reg.BUF_HIST_DATA then s.histWord
  else s.reg .buf off

/-- The codes of the slot states (R324). -/
def SlotState.code : SlotState → Nat
  | .free => 0 | .taken => 1 | .lockwait => 2 | .fast => 3 | .work => 4 | .done => 5 | .aborted => 6 | .drain => 7
  | .discard => 8

/-- CMD_FN_ARB of a function (R354). -/
def State.fnArb (s : State) (fn : Nat) : Word := Sparse.get (fun _ => 1) s.cmd.arb fn

/-- The command engine, as engine `e` reads it (R353, R354).  A FREE slot has no function: what FN then reads is free (DESIGN
CHOICE, log entry 1). -/
def State.cmdView (s : State) (e : Engine) (off : Nat) : Word :=
  let fn := s.f .cmd F.CMD_FN_IDX_FN
  let i := s.f .cmd F.CMD_SLOT_IDX_SLOT
  if off = Reg.CMD_FREE_SLOTS then BitVec.ofNat 32 (65536 - s.cmd.slots.length)
  else if off = Reg.CMD_FREE_LOCKS then BitVec.ofNat 32 (2048 - s.locksUsed)
  else if off = Reg.CMD_FREE_EXT then BitVec.ofNat 32 (131072 - s.cmd.exts.length)
  else if off = Reg.CMD_FN_QUOTA then s.quota fn
  else if off = Reg.CMD_FN_ARB then s.fnArb fn
  else if off = Reg.CMD_FN_INUSE then BitVec.ofNat 32 (s.slotsOf fn)
  else if off = Reg.CMD_ABT_KEY then (s.abt e).1
  else if off = Reg.CMD_ABT_RES then (s.abt e).2
  else if off = Reg.CMD_EXT_DATA then s.extRead (s.f .cmd F.CMD_EXT_IDX_ENTRY) (s.f .cmd F.CMD_EXT_IDX_WORD)
  else if off = Reg.CMD_SLOT_DATA then
    let f := match s.slot? i with | some x => x.fn | none => s.freeNat
    F.CMD_SLOT_DATA_FN.put (BitVec.ofNat 32 (s.epoch i % 256 * 256 + (s.slotState i).code)) f
  else if off = Reg.CMD_HFREE_CNT then BitVec.ofNat 32 s.freeGranules
  else if off = Reg.CMD_DIRTY then BitVec.ofNat 32 s.dirtyCount
  else s.reg .cmd off

/-- A port (R378, R379). -/
def State.pepView (s : State) (p : Fin 2) (off : Nat) : Word :=
  let fn := s.f (.pep p) F.PEP_FN_IDX_FN
  if off = Reg.PEP_FN_CFG then (if s.fnPort fn = p then s.fnCfg fn else 0)
  else if off = Reg.PEP_ANA_DATA then
    BitVec.ofNat 32 (Sparse.get (fun _ => 1) (s.port p).ana (s.f (.pep p) F.PEP_ANA_IDX_GROUP))
  else s.reg (.pep p) off

/-- A pool (R411, R412). -/
def State.poolView (s : State) (p : Fin 2) (off : Nat) : Word :=
  let x := s.pl p
  if off = Reg.POOL_MBX_STAT then F.POOL_MBX_STAT_COUNT.put (s.reg (.pool p) off) x.used
  else if off = Reg.POOL_MBX_POP_HI then 0
  else if off = Reg.POOL_LOCKOUT then
    let l2 := (x.locked.filter (fun e => e.1 == .l2 p.val)).length
    BitVec.ofNat 32 (min 255 l2 + 256 * min 255 (x.locked.length - l2))
  else s.reg (.pool p) off

/-- The enclave (R444, R445).  A session slot has no generation. -/
def State.hzlView (s : State) (off : Nat) : Word :=
  let i := s.f .hzl F.HZL_SLOT_IDX_SLOT
  let k := s.keySlot i
  let sess := s.on .hzl F.HZL_SLOT_IDX_SESSION
  let held := s.hzl.sessions.any (fun x => x.slots.contains (i % 16))
  let engs := s.hzl.engines.map (fun (e : Nat × RoundEngine) => e.2)
  if off = Reg.HZL_ENG_STAT then
    BitVec.ofNat 32 ((engs.filter (fun e => e.run.isSome)).length
      + 2 ^ 16 * (engs.map (fun e => e.susp.length)).foldl (· + ·) 0 + 2 ^ 24 * (engs.filter RoundEngine.out).length)
  else if off = Reg.HZL_SLOT_STAT then
    (if sess then BitVec.ofNat 32 (2 ^ 31 * bit held)
     else BitVec.ofNat 32 (k.cur % 65536 + 2 ^ 29 * bit k.held.isSome + 2 ^ 30 * bit k.old.isSome + 2 ^ 31 * bit k.loaded))
  else if off = Reg.HZL_SLOT_OLD then (if sess then 0 else BitVec.ofNat 32 (k.old.getD 0 % 65536))
  else if off = Reg.HZL_SLOT_CBND then (if sess then 0 else BitVec.ofNat 32 (s.bindCount i k.cur))
  else if off = Reg.HZL_SLOT_OBND then
    (if sess then 0 else BitVec.ofNat 32 (match k.old with | some g => s.bindCount i g | none => 0))
  else if off = Reg.HZL_RQc_STAT ∨ off = Reg.HZL_RQc_STAT + 0x10 ∨ off = Reg.HZL_RQc_STAT + 0x20 then
    let c := (off - Reg.HZL_RQc_STAT) / 0x10
    (F.HZL_RQc_STAT_FREE.at (0x10 * c)).put (s.reg .hzl off) (8 - (s.rqs c).length)
  else s.reg .hzl off

/-- The housekeeping unit (R528, R529). -/
def State.hkpView (s : State) (off : Nat) : Word :=
  let c := s.f .hkp F.HKP_CH_IDX_CH
  if off = Reg.HKP_CH_DATA then (if c < 48 then tab s.house.data c else 0)
  else if off = Reg.HKP_CH_LIM then (if c < 48 then s.chLim c else 0)
  else if off = Reg.HKP_IN_STAT then s.inStat
  else if off = Reg.HKP_GPIO_CFG then s.gpioCfg (s.f .hkp F.HKP_GPIO_IDX_PIN)
  else s.reg .hkp off

/-- The service core unit (R322, R323, R501). -/
def State.svcView (s : State) (off : Nat) : Word :=
  if off = Reg.SVC_VLT_STAT then F.SVC_VLT_STAT_USABLE.put (s.reg .svc off) (bit (s.vaultFitted && decide (256 ≤ s.effLim)))
  else if off = Reg.SVC_VLT_EFF_LIM then BitVec.ofNat 32 s.effLim
  else if off = Reg.SVC_WDOG_STAT then F.SVC_WDOG_STAT_HELD.put (s.reg .svc off) (s.f .svc F.SVC_WDOG_HOLD)
  else s.reg .svc off

/-- What a register reads as, for engine `e`: an RO field reports the state, a WO field 0, an offset without a register 0
(R5, R7). -/
def State.view (s : State) (e : Engine) (u : UnitId) (off : Nat) : Word :=
  if off < 0x40 then s.hdrView u off
  else
    match u with
    | .dev => s.devView off
    | .med => s.medView off
    | .chn n => s.chnView n off
    | .tsq n => s.tsqView n off
    | .srv n => s.srvView n off
    | .ast n => s.astView n off
    | .spn => s.spnView off
    | .buf => s.bufView off
    | .cmd => s.cmdView e off
    | .pep p => s.pepView p off
    | .pool p => s.poolView p off
    | .hzl => s.hzlView off
    | .hkp => s.hkpView off
    | .svc => s.svcView off
    | _ => s.reg u off

/-! ### Reads (R4) -/

/-- The low words of 64-bit values in a unit's block (R4). -/
def lowWords : UnitId → List Nat
  | .chn _ => [Reg.CHN_SEV_LO, 0xA8, 0xB0, 0xB8, 0xC0, 0xC8, 0xD0, 0xD8, 0xE0, 0xE8]
  | .tsq _ => [Reg.TSQ_CNT_LATE_LO]
  | .srv _ => [0xA0, 0xA8, 0xB0, 0xB8, 0xC0]
  | .ast _ => [Reg.AST_LIFE_LO, 0x80, 0x88]
  | .spn => [0xB0, 0xB8, 0xC0, 0xC8, 0xD0]
  | .buf => [Reg.BUF_EV_LO, 0xC8, 0xD0, 0xD8, 0xE0, 0xE8, 0xF0, 0xF8]
  | .svc => [Reg.SVC_VLT_SEQ_LO, Reg.SVC_VLT_CNT_SAVE_LO, Reg.SVC_FW_CNT_ACT_LO, Reg.SVC_FW_CNT_REV_LO]
  | .cmd => [0xD0, 0xD8, 0xE0, 0xE8, 0xF0, 0xF8, 0x100]
  | .pep _ => [0x60, 0x68, 0x70]
  | .pool _ => [Reg.POOL_MBX_POP_LO, 0x78, 0x80] ++ (List.range 8).map (fun c => Reg.POOL_Cc_FLT_ADDR_LO + 0x40 * c)
  | .hzl => [0xC0, 0xC8, 0xD0, 0xD8]
  | .hkp => [Reg.HKP_REC_SEQ_LO, Reg.HKP_PON_LO, 0xA0, 0xA8, 0xB0, 0xB8]
  | _ => []

/-- Whether a register is the low word of a pair (R4). -/
def isLow (u : UnitId) (off : Nat) : Bool := (lowWords u).contains off
/-- Whether a register is the high word of a pair. -/
def isHigh (u : UnitId) (off : Nat) : Bool := decide (4 ≤ off) && (lowWords u).contains (off - 4)

/-- A read of a low word loads the reader's latch with the high word of the same value (R4). -/
def State.readLow (s : State) (e : Engine) (u : UnitId) (off : Nat) : State :=
  (s.setLatch u e off (s.view e u (off + 4))).answer (.value (s.view e u off))

/-- A read of a high word returns the latched value, or the live one when the latch is empty or holds another pair (R4). -/
def State.readHigh (s : State) (e : Engine) (u : UnitId) (off : Nat) : State :=
  match s.latch? u e with
  | some (lo, hi) => if lo + 4 = off then s.answer (.value hi) else s.answer (.value (s.view e u off))
  | none => s.answer (.value (s.view e u off))

/-- A read whose value is `w` and after which an index advances (R166, R200, R224, R257). -/
def State.readNext (s : State) (u : UnitId) (w : Word) (auto idx : Field) (size : Nat) : State :=
  (s.advance u auto idx size).answer (.value w)

/-- The unit's own rule on a read (R166, R322, R412). -/
def State.readRule (s : State) (e : Engine) (u : UnitId) (off : Nat) : Option BusCause :=
  match u with
  | .tsq n =>
    if (0x64 ≤ off ∧ off ≤ 0x74) ∨ off = Reg.TSQ_PW_FLIP ∨ (0x100 ≤ off ∧ off < 0x200) then s.patchRefused e n else none
  | .pool p =>
    match coreAt p off with
    | some (c, o) =>
      if o = Reg.POOL_Cc_TCM_DATA then (if e = .service ∧ s.heldBit c then none else some .accessDenied) else none
    | none => none
  | .svc => if 0x200 ≤ off ∧ off < 0x240 then vaultGate e else none
  | _ => none

/-- A read of a register of a pool that acts (R382, R390, R393). -/
def State.readPool (s : State) (e : Engine) (p : Fin 2) (off : Nat) : State :=
  if off = Reg.POOL_MBX_RSV then
    let r := s.mbxReserve p (engNum e)
    r.1.answer (.value (BitVec.ofNat 32 (bit r.2)))
  else if off = Reg.POOL_MBX_POP_LO then s.mbxPop e p
  else
    match coreAt p off with
    | some (c, o) =>
      if o = Reg.POOL_Cc_IRQ_CLAIM then s.irqClaim c.val
      else if o = Reg.POOL_Cc_TCM_DATA then s.tcmPort c none .ok
      else if isLow (.pool p) off then s.readLow e (.pool p) off
      else if isHigh (.pool p) off then s.readHigh e (.pool p) off
      else s.answer (.value (s.view e (.pool p) off))
    | none =>
      if isLow (.pool p) off then s.readLow e (.pool p) off
      else if isHigh (.pool p) off then s.readHigh e (.pool p) off
      else s.answer (.value (s.view e (.pool p) off))

/-- A read of any other register, with its latch (R4). -/
def State.readPlain (s : State) (e : Engine) (u : UnitId) (off : Nat) : State :=
  if isLow u off then s.readLow e u off
  else if isHigh u off then s.readHigh e u off
  else s.answer (.value (s.view e u off))

/-- A read of a register by an engine: the ones that act, and the others; times that the model does not count read free
(DESIGN CHOICE, log entry 1). -/
def State.readReg (s : State) (e : Engine) (u : UnitId) (off : Nat) : State :=
  match u with
  | .med =>
    if off = Reg.MED_ROT_POS ∧ s.on .med F.MED_ROT_POS_VALID = true then
      s.spend.answer (.value (F.MED_ROT_POS_FRAC.put (s.reg .med off) s.freeNat))
    else s.readPlain e u off
  | .chn n => if off = Reg.CHN_SEV_LO then s.syncEventPop e n else s.readPlain e u off
  | .tsq n => if off = Reg.TSQ_PW_DATA + 12 then s.patchRead n else s.readPlain e u off
  | .srv n =>
    if off = Reg.SRV_COEF_DATA then s.readNext u (s.srvView n off) F.SRV_COEF_IDX_AUTOINC F.SRV_COEF_IDX_INDEX 1024
    else if off = Reg.SRV_RRO_DATA then s.readNext u (s.srvView n off) F.SRV_RRO_IDX_AUTOINC F.SRV_RRO_IDX_WEDGE 768
    else s.readPlain e u off
  | .ast n =>
    if off = Reg.AST_ZP_DATA then s.readNext u (s.astView n off) F.AST_ZP_IDX_AUTOINC ⟨Reg.AST_ZP_IDX, 0, 10⟩ 1024
    else s.readPlain e u off
  | .spn =>
    if off = Reg.SPN_PADV_DATA then s.readNext u (s.spnView off) F.SPN_PADV_IDX_AUTOINC F.SPN_PADV_IDX_ENTRY 32
    else s.readPlain e u off
  | .buf => if off = Reg.BUF_EV_LO then s.bufEvPop e else if off = Reg.BUF_FLT_POP then s.fltPop else s.readPlain e u off
  | .cmd => if off = Reg.CMD_SLOT_DATA then (s.readPlain e u off).spend else s.readPlain e u off
  | .pool p => s.readPool e p off
  | .hkp => if off = Reg.HKP_THR_STAT then s.thrStat else s.readPlain e u off
  | .svc =>
    if off = Reg.SVC_WDOG_STAT then
      s.spend.answer (.value (F.SVC_WDOG_STAT_MS.put (s.svcView off) (s.freeNat % 30001)))
    else s.readPlain e u off
  | _ => s.readPlain e u off

/-- A read of a register by an engine, after the checks of R29 but for the unit's own rule. -/
def State.regRead (s : State) (e : Engine) (u : UnitId) (off : Nat) : State :=
  match s.readRule e u off with
  | some c => s.answer (.busError c)
  | none => s.readReg e u off

/-- LOW_WORD_READ (R4). -/
def execLowWordRead (eng : Engine) (u : UnitId) (off : Nat) (s : State) : Host.Outcome State Fault Refusal :=
  done s (fun s => s.when (isLow u off) (s.access eng .load u off none (s.regRead eng u off)))

/-- HIGH_WORD_READ (R4). -/
def execHighWordRead (eng : Engine) (u : UnitId) (off : Nat) (s : State) : Host.Outcome State Fault Refusal :=
  done s (fun s => s.when (isHigh u off) (s.access eng .load u off none (s.regRead eng u off)))

/-! ### Writes -/

/-- The unit's own rule on a write (R166, R175, R176, R285, R322, R405, R412, R414, R419, R470, R501, R528). -/
def State.writeRule (s : State) (e : Engine) (u : UnitId) (off : Nat) : Option BusCause :=
  match u with
  | .dev => if 0x80 ≤ off ∧ off ≤ 0x90 then irqGate e else none
  | .tsq _ => s.readRule e u off
  | .srv n => if off = Reg.SRV_COEF_DATA then s.coefRefused n else none
  | .buf => if Reg.BUF_INJ_CTL ≤ off ∧ off ≤ Reg.BUF_INJ_CB then s.injGate else none
  | .pool _ => if off = Reg.POOL_CMO then (if engMain e then none else some .accessDenied) else s.readRule e u off
  | .hzl =>
    if off = Reg.HZL_RQc_PUSH ∨ off = Reg.HZL_RQc_PUSH + 0x10 ∨ off = Reg.HZL_RQc_PUSH + 0x20 then
      (if rqOwner e ((off - Reg.HZL_RQc_PUSH) / 0x10) then none else some .accessDenied)
    else none
  | .hkp =>
    if off = Reg.HKP_REC_SLOT ∨ off = Reg.HKP_REC_SEQ_LO ∨ off = Reg.HKP_REC_SEQ_HI ∨ off = Reg.HKP_IN_CTL then svcOnly e
    else none
  | .svc =>
    if 0x200 ≤ off ∧ off < 0x240 then vaultGate e
    else if off = Reg.SVC_FW_STAT ∨ off = Reg.SVC_FW_XFER ∨ off = Reg.SVC_BOOT_CTL ∨ off = Reg.SVC_BOOT_SEL
        ∨ off = Reg.SVC_FAIL ∨ off = Reg.SVC_WDOG then svcOnly e
    else if off = Reg.SVC_FW_REPLY then replyGate e
    else if off = Reg.SVC_BOOT_REPLY ∨ off = Reg.SVC_SAVE_PLAN then (if engCore e then none else some .accessDenied)
    else none
  | _ => none

/-- A write of a header register (R13, R19, R412). -/
def State.writeHdr (s : State) (e : Engine) (u : UnitId) (off : Nat) (v : Word) : State :=
  if off = Reg.UNIT_CTL then
    (if F.UNIT_CTL_RST.get v = 1 then s.unitReset e u else s.enableSet u (F.UNIT_CTL_EN.get v == 1))
  else if off = Reg.UNIT_ERR then
    let s1 := s.writePlain u off v
    match u with
    | .pool p => if v.getLsbD pcWbFlt then s1.setF (.pool p) F.POOL_WB_FLT_VALID 0 else s1
    | _ => s1
  else s.writePlain u off v

/-- A write in the device group (R392, R414). -/
def State.writeDev (s : State) (off : Nat) (v : Word) : State :=
  if off = Reg.DEV_PWR_CAP then s.capWrite v
  else if off = Reg.DEV_IRQ_ROUTE then s.irqRoute v
  else if off = Reg.DEV_IRQ_SWI then s.setBits .dev Reg.DEV_IRQ_SWI (v &&& 0xFFFF)
  else if off = Reg.DEV_IRQ_SWC then s.clrBits .dev Reg.DEV_IRQ_SWI (v &&& 0xFFFF)
  else s.writePlain .dev off v

/-- A write in the media group: WEDGES takes an even value from 320 to 768 (R89, R90). -/
def State.writeMed (s : State) (off : Nat) (v : Word) : State :=
  let w := F.MED_WEDGE_CFG_WEDGES.get v
  if off = Reg.MED_HEAD_DATA then s.headStateWrite v
  else if off = Reg.MED_WEDGE_CFG then
    (if s.locked then s
     else if w % 2 = 1 ∨ w < 320 ∨ 768 < w then s.err .med eConfig
     else s.writePlain .med off v)
  else s.writePlain .med off v

/-- A write in a channel (R112, R132). -/
def State.writeChn (s : State) (n : Fin 4) (off : Nat) (v : Word) : State :=
  let h := s.f (.chn n) F.CHN_HD_IDX_HEAD
  let w := s.f (.chn n) F.CHN_HD_IDX_WORD
  if off = Reg.CHN_HD_DATA then
    (if h < 12 then
       s.setCh n { s.ch n with headTab := Sparse.set (fun _ => 0) (s.ch n).headTab (h * 2 + w)
                                 (v &&& if w = 0 then 0x01FFFFFF else 0x0003FFFF) }
     else s)
  else if off = Reg.CHN_DD_CMD then s.deepDecodeCmd n v
  else if off = Reg.CHN_SBUF_REL then ([0, 1, 2, 3].filter (fun i => v.getLsbD i)).foldl (fun t i => t.unpin n i) s
  else s.writePlain (.chn n) off v

/-- A write in a track sequencer; a vector that never matches sets CONFIG (R166, R169). -/
def State.writeTsq (s : State) (n : Fin 4) (off : Nat) (v : Word) : State :=
  if off = Reg.TSQ_PW_DATA + 12 then s.patchCommit n v
  else if 0x100 ≤ off ∧ off < 0x200 then
    let s1 := s.writePlain (.tsq n) off v
    if F.TSQ_PV_EN.get v = 1 ∧ 0xC00 ≤ F.TSQ_PV_MATCH.get v then s1.err (.tsq n) eConfig else s1
  else s.writePlain (.tsq n) off v

/-- A write in a servo engine (R175 to R177, R180, R188, R194). -/
def State.writeSrv (s : State) (n : Fin 4) (off : Nat) (v : Word) : State :=
  let x := s.sv n
  let h := s.f (.srv n) F.SRV_RRO_IDX_HEAD
  let w := s.f (.srv n) F.SRV_RRO_IDX_WEDGE
  let bw := s.f (.srv n) F.SRV_BOFS_IDX_WORD
  if off = Reg.SRV_CMD then s.srvCmd n v
  else if off = Reg.SRV_COEF_DATA then s.coefWrite n v
  else if off = Reg.SRV_RRO_DATA then
    let s1 := if h < 12 ∧ w < 768 then s.setSv n { x with rro := Sparse.set (fun _ => 0) x.rro (h * 768 + w) v } else s
    s1.advance (.srv n) F.SRV_RRO_IDX_AUTOINC F.SRV_RRO_IDX_WEDGE 768
  else if off = Reg.SRV_BOFS_DATA then
    s.setSv n { x with bofs := Sparse.set (fun _ => 0) x.bofs (s.f (.srv n) F.SRV_BOFS_IDX_ENTRY * 2 + bw)
                               (v &&& if bw = 0 then 0x8F3FFFFF else 0xFF3FFFFF) }
  else if off = Reg.SRV_WEDGE_CFG then
    let s1 := s.writePlain (.srv n) off v
    if s1.wedgeCfgOk n then s1 else s1.err (.srv n) eConfig
  else s.writePlain (.srv n) off v

/-- The bits that the words of a head row carry (R224). -/
def hdMask (w : Nat) : Word :=
  if w = 0 then 0xC1FFFFFF else if w = 1 then 0xFFFFFFFF else if w = 2 then 0xFFFFFFFF else if w = 3 then 0x0000FFFF
  else 0x00FFFFFF

/-- A write in an assist controller (R218, R224); KIND is held by the configuration lock. -/
def State.writeAst (s : State) (n : Fin 4) (off : Nat) (v : Word) : State :=
  let a := s.at n
  let fld := fun (f : Field) => s.f (.ast n) f
  let h := fld F.AST_HD_IDX_HEAD
  let w := fld F.AST_HD_IDX_WORD
  if off = Reg.AST_HD_DATA then
    (if h < 12 ∧ w < 5 then
       let v1 := v &&& hdMask w
       let v2 := if w = 0 ∧ s.locked = true then F.AST_HD_DATA_W0_KIND.put v1 (F.AST_HD_DATA_W0_KIND.get (a.hdWord h 0)) else v1
       s.setAt n { a with hdTab := Sparse.set (fun _ => 0) a.hdTab (h * 8 + w) v2 }
     else s)
  else if off = Reg.AST_ZP_DATA then
    let s1 :=
      if fld F.AST_ZP_IDX_HEAD < 12 then
        s.setAt n { a with zpTab := Sparse.set (fun _ => 0) a.zpTab (fld F.AST_ZP_IDX_HEAD * 64 + fld F.AST_ZP_IDX_ZONE) (v &&& 0xFF) }
      else s
    s1.advance (.ast n) F.AST_ZP_IDX_AUTOINC ⟨Reg.AST_ZP_IDX, 0, 10⟩ 1024
  else if off = Reg.AST_MODEL_DATA then
    (if fld F.AST_MODEL_IDX_HEAD < 12 ∧ fld F.AST_MODEL_IDX_STATE < 3 then
       s.setAt n (a.setX (fld F.AST_MODEL_IDX_HEAD) (fld F.AST_MODEL_IDX_STATE)
         ((min (F.AST_MODEL_DATA_X.get v) 65536 : Nat) / 65536 : Rat))
     else s)
  else if off = Reg.AST_LIFE_LO ∨ off = Reg.AST_LIFE_HI then
    let c := fld F.AST_LIFE_IDX_CNT
    let lh := fld F.AST_LIFE_IDX_HEAD
    let old := a.lifeRead lh c
    let new := if off = Reg.AST_LIFE_LO then old / 2 ^ 32 * 2 ^ 32 + v.toNat else v.toNat * 2 ^ 32 + old % 2 ^ 32
    (if lh < 12 ∧ c < 3 then
       s.setAt n { a with life := Sparse.set (fun _ => 0) a.life (lifeKey lh c) (new * (if c = 0 then 4 else if c = 1 then 400 else 1)) }
     else s)
  else if off = Reg.AST_WIN_CFG then
    let t := s.writePlain (.ast n) off v
    t.driveWindow n t.driveReading
  else s.writePlain (.ast n) off v

/-- A write in the spindle unit; a value outside a field's range is ignored and sets CONFIG (R242, R248, R257). -/
def State.writeSpn (s : State) (off : Nat) (v : Word) : State :=
  if off = Reg.SPN_CTL then s.spDirWrite v
  else if off = Reg.SPN_CMD then
    (match v.toNat % 8 with
     | 0 => s
     | 1 => s.spStart
     | 2 => s.spStop
     | 4 => s.spCoastCmd
     | _ => s.err .spn eConfig)
  else if off = Reg.SPN_FLT_STAT then s.spFaultClear v
  else if off = Reg.SPN_SPD_REF then
    (if 5400 ≤ F.SPN_SPD_REF_RPM.get v ∧ F.SPN_SPD_REF_RPM.get v ≤ 7200 then s.writePlain .spn off v else s.err .spn eConfig)
  else if off = Reg.SPN_VBUS_LIM then
    (if 1500 < F.SPN_VBUS_LIM_VBUS_TRIP.get v then
       (s.writePlain .spn off (F.SPN_VBUS_LIM_VBUS_TRIP.put v (s.f .spn F.SPN_VBUS_LIM_VBUS_TRIP))).err .spn eConfig
     else s.writePlain .spn off v)
  else if off = Reg.SPN_PADV_DATA then
    let s1 : State := { s with spn := { s.spn with padv := Sparse.set (fun _ => 0) s.spn.padv (s.f .spn F.SPN_PADV_IDX_ENTRY) (v &&& 0xFFFF) } }
    s1.advance .spn F.SPN_PADV_IDX_AUTOINC F.SPN_PADV_IDX_ENTRY 32
  else s.writePlain .spn off v

/-- A write in the buffer unit (R267, R269, R271, R280, R281, R287). -/
def State.writeBuf (s : State) (off : Nat) (v : Word) : State :=
  if off = Reg.BUF_BTT_DATA then s.bttWrite v
  else if off = Reg.BUF_RET_CMD then s.retireGo v
  else if off = Reg.BUF_SCRUB_CTL then s.rangeGo v
  else if off = Reg.BUF_FLT_CMD then
    let c := F.BUF_FLT_CMD_CONTEXT.get v
    if F.BUF_FLT_CMD_GO.get v = 0 then s
    else if F.BUF_FLT_CMD_ABORT.get v = 1 then s.fltAbort c
    else s.fltResume c
  else if off = Reg.BUF_DSR_BASE then
    let a := v.toNat / 2048 * 2048
    if 0x10000000 ≤ a ∧ a + 2048 ≤ 0x10800000 then s.writePlain .buf off v else s.err .buf eConfig
  else s.writePlain .buf off v

/-- CMD_FN_QUOTA of the selected function; a sum of MIN above 4,096 sets CONFIG (R331). -/
def State.writeQuota (s : State) (v : Word) : State :=
  if s.locked then s
  else
    let fn := s.f .cmd F.CMD_FN_IDX_FN
    let s1 : State := { s with cmd := { s.cmd with quota := Sparse.set (fun _ => 0x10000000) s.cmd.quota fn (v &&& 0x1FFF1FFF) } }
    if 4096 < s1.minSum then s1.err .cmd eConfig else s1

/-- The bits that the words of an extent entry carry (R354). -/
def extMask (w : Nat) : Word := if w = 1 then 0xFFFFFFFF else if w = 2 then 0x0000FF07 else 0x007FFFFF

/-- A write in the command engine, by engine `e` (R331, R343, R354, R355). -/
def State.writeCmd (s : State) (e : Engine) (off : Nat) (v : Word) : State :=
  let w := s.f .cmd F.CMD_EXT_IDX_WORD
  if off = Reg.CMD_FN_QUOTA then s.writeQuota v
  else if off = Reg.CMD_FN_ARB then
    { s with cmd := { s.cmd with arb := Sparse.set (fun _ => 1) s.cmd.arb (s.f .cmd F.CMD_FN_IDX_FN) (v &&& 0xFF) } }
  else if off = Reg.CMD_ABT_KEY then s.setAbt e (v, (s.abt e).2)
  else if off = Reg.CMD_ABT_GO then s.abortGo e v
  else if off = Reg.CMD_EXT_IDX then
    let s1 := s.writePlain .cmd off v
    if F.CMD_EXT_IDX_ENTRY.get v = s.f .cmd F.CMD_EXT_IDX_ENTRY then s1
    else { s1 with cmd := { s1.cmd with staged := [] } }
  else if off = Reg.CMD_EXT_DATA then
    (if w = 0 then s.extCommit v
     else { s with cmd := { s.cmd with staged := Sparse.insert s.cmd.staged w (v &&& extMask w) } })
  else if off = Reg.CMD_HFREE then s.freeHandles [(F.CMD_HFREE_HANDLE.get v, F.CMD_HFREE_COUNT_M1.get v + 1)]
  else s.writePlain .cmd off v

/-- The link limits of a port are values of R379. -/
def pepCfgOk (v : Word) : Bool :=
  [1, 2, 4, 8, 16].contains (F.PEP_CFG_MAX_WIDTH.get v) && [1, 2, 3, 4].contains (F.PEP_CFG_MAX_SPEED.get v)

/-- A write in a port (R363, R372, R379). -/
def State.writePep (s : State) (p : Fin 2) (off : Nat) (v : Word) : State :=
  let fn := s.f (.pep p) F.PEP_FN_IDX_FN
  if off = Reg.PEP_CFG then
    (if s.locked then s
     else
       let s1 := s.writePlain (.pep p) off (if p = 1 then F.PEP_CFG_SPLIT.put v 0 else v)
       if pepCfgOk v then s1 else s1.err (.pep p) eConfig)
  else if off = Reg.PEP_FN_CFG then
    (if s.locked ∨ s.fnPort fn ≠ p then s
     else s.setPort p { s.port p with fnCfg := Sparse.set (fun f => s.fnCfgDefault f) (s.port p).fnCfg fn (v &&& 0x0FFF07FF) })
  else if off = Reg.PEP_ANA_DATA then s.anaWrite p v
  else s.writePlain (.pep p) off v

/-- A write in a pool, by engine `e` (R382, R390, R393, R405 to R409). -/
def State.writePool (s : State) (e : Engine) (p : Fin 2) (off : Nat) (v : Word) : State :=
  if off = Reg.POOL_CTL then s.poolCtl p v
  else if off = Reg.POOL_CMO then (if F.POOL_CMO_GO.get v = 1 then s.cmo p (F.POOL_CMO_OP.get v) else s)
  else if off = Reg.POOL_MBX_LO then s.setPl p { s.pl p with low := Sparse.insert (s.pl p).low (engNum e) v }
  else if off = Reg.POOL_MBX_HI then
    s.mbxPush p (engNum e) ⟨(Sparse.find? (s.pl p).low (engNum e)).getD 0, v, senderNum e⟩
  else
    match coreAt p off with
    | some (c, o) =>
      if o = Reg.POOL_Cc_CTL then s.coreCtl c v
      else if o = Reg.POOL_Cc_IRQ_EOI then s.irqEoi e c v
      else if o = Reg.POOL_Cc_TCM_DATA then s.tcmPort c (some v) .ok
      else s.writePlain (.pool p) off v
    | none => s.writePlain (.pool p) off v

/-- A write in the housekeeping unit (R506, R520, R524, R526). -/
def State.writeHkp (s : State) (off : Nat) (v : Word) : State :=
  let c := s.f .hkp F.HKP_CH_IDX_CH
  let i := s.f .hkp F.HKP_GPIO_IDX_PIN
  if off = Reg.HKP_CH_LIM then
    (if c < 48 then s.setHouse { s.house with lims := Sparse.set (fun _ => 0x7FFF8000) s.house.lims c v } else s)
  else if off = Reg.HKP_GPIO_CFG then
    s.setHouse { s.house with gpio := Sparse.set (fun _ => 0x0A00) s.house.gpio i (v &&& 0xFF17) }
  else if off = Reg.HKP_REC_SLOT then s.recSlot v
  else if off = Reg.HKP_IN_CTL then s.pfailClr v s.house.pfailRaw
  else s.writePlain .hkp off v

/-- A write in the service core unit, but for the start registers (R310, R323, R470). -/
def State.writeSvc (s : State) (e : Engine) (off : Nat) (v : Word) : State :=
  if off = Reg.SVC_FW_REPLY then s.fwReply e v
  else if off = Reg.SVC_VLT_CMD then s.vaultErase v
  else if off = Reg.SVC_VLT_DIRTY_LIM then
    (if s.f .svc F.SVC_VLT_DIRTY_LIM_MIB < F.SVC_VLT_DIRTY_LIM_MIB.get v then s.err .svc eConfig
     else s.writePlain .svc off v)
  else if off = Reg.SVC_VLT_CFG then
    let s1 := s.writePlain .svc off v
    if s1.on .svc F.SVC_VLT_CFG_FITTED && s1.f .svc F.SVC_VLT_CFG_CE_EN == 0 then s1.err .svc eConfig else s1
  else s.writePlain .svc off v

/-- A write of a register by an engine: the ones that act, and the others by R7. -/
def State.writeReg (s : State) (e : Engine) (u : UnitId) (off : Nat) (v : Word) : State :=
  if off < 0x40 then s.writeHdr e u off v
  else
    match u with
    | .dev => s.writeDev off v
    | .med => s.writeMed off v
    | .lane n => if off = Reg.LN_CLK_DIV then s.divWrite n v else s.writePlain u off v
    | .chn n => s.writeChn n off v
    | .tsq n => s.writeTsq n off v
    | .srv n => s.writeSrv n off v
    | .ast n => s.writeAst n off v
    | .spn => s.writeSpn off v
    | .buf => s.writeBuf off v
    | .cmd => s.writeCmd e off v
    | .pep p => s.writePep p off v
    | .pool p => s.writePool e p off v
    | .hzl =>
      if off = Reg.HZL_RQc_PUSH ∨ off = Reg.HZL_RQc_PUSH + 0x10 ∨ off = Reg.HZL_RQc_PUSH + 0x20 then
        s.rqPush ((off - Reg.HZL_RQc_PUSH) / 0x10) v
      else s.writePlain u off v
    | .hkp => s.writeHkp off v
    | .svc => s.writeSvc e off v
    | _ => s.writePlain u off v

/-- A write of a register by an engine, after the checks of R29 but for the unit's own rule. -/
def State.regWrite (s : State) (e : Engine) (u : UnitId) (off : Nat) (v : Word) : State :=
  match s.writeRule e u off with
  | some c => s.answer (.busError c)
  | none => s.writeReg e u off v

end Sys2Proof.Machine
end

