-- ==== Sys2Proof/Machine/Boot.lean ====
section
/-! DEFINITION. Starts (R43, R52, R55, R472 to R503): straps, the NOR, the Idsar image and the configuration lock, buffer
training, images and microcode, the release of the pools, serving, failed starts and Chrysalis mode. -/

namespace Sys2Proof.Machine

/-! ### Stages (R502) -/

/-- STAGE. -/
def State.stage (s : State) : Nat := s.f .svc F.SVC_BOOT_STAT_STAGE
/-- The state with STAGE replaced. -/
def State.setStage (s : State) (n : Nat) : State := s.setF .svc F.SVC_BOOT_STAT_STAGE n
/-- A start is under way that can fail (R492). -/
def State.starting (s : State) : Bool := decide (1 ≤ s.stage ∧ s.stage ≤ 6)

/-- COUNT is one more, up to 3, and REASON is written (R491, R492). -/
def State.countFail (s : State) (reason : Nat) : State :=
  (s.setF .svc F.SVC_FAIL_COUNT (min 3 (s.f .svc F.SVC_FAIL_COUNT + 1))).setF .svc F.SVC_FAIL_REASON reason

/-- A failed start: the end record, COUNT and REASON, STAGE 9h, and a warm reset (R492); without a NOR, no record. -/
def State.startFail (s : State) (reason : Nat) : State :=
  let s1 := s.countFail reason
  let s2 := if reason = 0x10 then s1 else s1.histEnd 1 reason
  ((s2.setStage 9).err .svc seStart).warmReset .service

/-! ### Straps, NOR and attempt (R472, R473, R493, R494) -/

/-- The attempt that COUNT gives (R472, R494). -/
def State.attempt (s : State) : Nat := if s.svcs.strapBoot = 1 then 3 else s.f .svc F.SVC_FAIL_COUNT + 1
/-- The start enters Chrysalis mode (R496). -/
def State.entersChrysalis (s : State) : Bool := s.svcs.strapBoot == 2 || (s.svcs.strapBoot != 1 && s.f .svc F.SVC_FAIL_COUNT == 3)
/-- The firmware slot of an attempt (R494). -/
def BootRec.slot (b : BootRec) (attempt : Nat) : Nat :=
  if attempt = 1 then b.next else if attempt = 2 then (if b.next = 2 then 3 else 2) else 1
/-- The patch location of an attempt: 0 A, 1 B, 3 none (R494). -/
def State.attemptPatch (s : State) (attempt : Nat) : Nat :=
  let p := s.bootRec.patchNext
  if attempt = 1 then (if p < 2 then p else 3)
  else if attempt = 2 ∧ p < 2 ∧ s.holdsImage (patchAt (1 - p)) = true then 1 - p
  else 3

/-- The order of the Idsar locations at a start without a valid choice (R483). -/
def State.idsarOrder (s : State) : List Nat :=
  let n := s.bootRec.idsarNext % 2
  let ends := s.history.filter (fun (r : Nat × List Byte) => leNat (slice r.2 4 1) == 2)
  let bad := match newestRec 8 ends with
    | some r => leNat (slice r.2 7 1) % 2 == n && [4, 5, 7].contains (leNat (slice r.2 26 1))
    | none => false
  if bad then [1 - n, n] else [n, 1 - n]

/-- Chrysalis mode: the record, STAGE 8h, and port 0's controller with the buffer it trains (R496). -/
def State.enterChrysalis (s : State) : State :=
  let s1 := (s.setSvcs { s.svcs with chrysalis := true }).setF .svc F.SVC_BOOT_STAT_ATTEMPT 0
  let s2 := (s1.histBegin 3 (if s1.svcs.strapBoot = 3 then 0x11 else 0)).setStage 8
  let s3 := if s2.locked then s2
    else (((s2.setF .buf F.BUF_CFG_RATE 0).setF .buf F.BUF_CFG_RANKS2 0).setF .buf F.BUF_CFG_SIZE 1)
  let s4 := ([UnitId.hostg, .cmd, .pep 0, .buf]).foldl (fun t u => t.enableSet u true) s3
  let s5 := if s4.inReset (.pep 1) then s4 else s4.setUnitState (.pep 1) stParked
  { s5 with dev := { s5.dev with warmInProgress := false } }

/-- The attempt of the start: its choice, the begin record, and the armed shutdown record (R479, R483, R488, R494, R520). -/
def State.startAttempt (s : State) : State :=
  let k := s.attempt
  let old := s.on .svc F.SVC_BOOT_SEL_VALID
  let order := if old then [s.f .svc F.SVC_BOOT_SEL_IDSAR] else s.idsarOrder
  let b := s.bootRec
  let pair_ := if old then s.f .svc F.SVC_BOOT_SEL_SETPAIR else b.setPair
  let sel := F.SVC_BOOT_SEL_SLOT.put (F.SVC_BOOT_SEL_IDSAR.put (F.SVC_BOOT_SEL_PATCH.put (F.SVC_BOOT_SEL_SETPAIR.put
    (F.SVC_BOOT_SEL_VALID.put 0 1) pair_) (s.attemptPatch k)) (order.headD 0)) (b.slot k)
  let s1 := (s.setSvcs { s.svcs with fallback := decide (2 ≤ k), idsarTry := order }).setF .svc F.SVC_BOOT_STAT_ATTEMPT k
  (((s1.setReg .svc Reg.SVC_BOOT_SEL sel).histBegin 1 (if s.svcs.strapBoot = 3 then 0x11 else 0)).armRecord).setStage 2

/-- A start begins: the NOR, the record of a start that ended without one, the save re-armed from its plan after a warm reset
(R46, R473, R489, R492), the counts of R545, and the attempt. -/
def State.startBegin (s : State) (w : StartWorld) (warm : Bool) : State :=
  let s0 := ((s.setSvcs { s.svcs with world := w }).setF .svc F.SVC_BOOT_STAT_WARM (bit warm)).setF .svc F.SVC_BOOT_STAT_STRAP_BOOT
    s.svcs.strapBoot
  let bump := fun (l : List (Nat × Nat)) (k : Nat) (b : Bool) =>
    if b then Sparse.set (fun _ => 0) l k (Sparse.get (fun _ => 0) l k + 1) else l
  let s1 : State := { s0 with
    hosts := { s0.hosts with life := bump (bump s0.hosts.life lifeCycles (!warm)) lifeUnsafe (!s0.hosts.clean), clean := false }
    dev := { s0.dev with saveArmed := warm && s0.vaultFitted && s0.on .svc F.SVC_SAVE_PLAN_VALID && w.vaultMeta } }
  let s2 := s1.setStage 1
  if w.nor = .lasting ∨ w.norMib < 64 then ((s2.lasting .svc).err .svc seNor |>.err .hkp hkNoArm).startFail 0x10
  else
    let s3 := if w.nor = .transient then s2.transient .svc else s2
    let mib := min w.norMib 256
    let s4 := (s3.setF .svc F.SVC_NOR_STAT_NOR_MIB mib).setF .svc F.SVC_NOR_STAT_SLOT_MIB (slotMib mib)
    let s5 := match s4.openStart with | some l => s4.closeStart l | none => s4
    if s5.entersChrysalis then s5.enterChrysalis else s5.startAttempt

/-! ### The Idsar image (R480 to R484) -/

/-- The fields of an Idsar body (R480). -/
def idNreg (l : List Byte) : Nat := leNat (slice l 16 4)
def idNitem (l : List Byte) : Nat := leNat (slice l 20 4)

/-- The items of a body. -/
def idItemsOf (l : List Byte) : Option (List (Nat × List Byte)) := tagItems (idNitem l) (l.drop (64 + 8 * idNreg l))

/-- The body is accepted for this member and step (R481). -/
def idsarOk (l : List Byte) : Bool :=
  let cap := UnitId.cap .dev
  leNat (slice l 0 4) == 0x49445352 && leNat (slice l 4 2) == 1
    && leNat (slice l 6 1) == F.DEV_UNIT_CAP_MEMBER.get cap && decide (leNat (slice l 7 1) ≤ F.DEV_UNIT_CAP_STEP.get cap)
    && decide (64 + 8 * idNreg l ≤ l.length) && decide (idNitem l ≤ l.length) && (idItemsOf l).isSome

/-- The image at a location: verified, and its body if it is accepted (R481). -/
def State.idsarTake (s : State) (k : Nat) : State × Option (List Byte) :=
  let l := s.imageAt (idsarAt k) 0x100000
  let st := if l.isEmpty then hsSig else s.verify 2 l
  (s.verified st, if st = hsOk ∧ idsarOk (envBody l) = true then some (envBody l) else none)

/-- The first accepted location of a list. -/
def State.idsarFind (s : State) (l : List Nat) : State × Option (Nat × List Byte) :=
  match l with
  | [] => (s, none)
  | k :: t =>
    let r := s.idsarTake k
    match r.2 with
    | some b => (r.1, some (k, b))
    | none => r.1.idsarFind t

/-- The offsets that an entry may not address (R484). -/
def entryRefused (off : Nat) : Bool :=
  decide (2 ^ 26 ≤ off ∨ off % 4096 < 0x40) || decide (0xF00040 ≤ off ∧ off ≤ 0xF00060)
    || decide (off = 0xD00000 + Reg.HZL_RQc_PUSH ∨ off = 0xD00010 + Reg.HZL_RQc_PUSH ∨ off = 0xD00020 + Reg.HZL_RQc_PUSH)

/-- An engine's register write has ended in a bus error. -/
def Resp.isBusError : Resp → Bool
  | .busError _ => true
  | _ => false

/-- One register entry, applied as one register write; `false` where it is refused or ends in a bus error (R484). -/
def State.idsarEntry (s : State) (off : Nat) (v : Word) : State × Bool :=
  let a := 0x20000000 + off
  if entryRefused off || (s.checkReg (.engine .service) a 4 .write).isSome then (s, false)
  else
    match unitAt a with
    | none => (s, false)
    | some (u, o) =>
      let t := (s.answer .none).regWrite .service u o v
      (t.answer .none, !t.resp.isBusError)

/-- The entries in order, up to one that is refused. -/
def State.idsarApply (s : State) (body : List Byte) : State × Bool :=
  (List.range (idNreg body)).foldl (fun (r : State × Bool) i =>
    if r.2 then r.1.idsarEntry (leNat (slice body (64 + 8 * i) 4)) (BitVec.ofNat 32 (leNat (slice body (68 + 8 * i) 4))) else r)
    (s, true)

/-- The items that the device holds in state of their own: the SMBus address and endpoint ID, and the coil resistance of
each lane (R197, R373, R480). -/
def State.idsarItems (s : State) (body : List Byte) : State :=
  ((idItemsOf body).getD []).foldl (fun (t : State) (e : Nat × List Byte) =>
    if e.1 = 2 then
      { t with svcs := { t.svcs with smbAddr := leNat (slice e.2 0 1) % 128 }
               hosts := { t.hosts with mgmt := { t.hosts.mgmt with eid := leNat (slice e.2 1 1) } } }
    else if e.1 = 4 then
      lanes4.foldl (fun (t : State) n => t.setSv n { t.sv n with rIdsar := leNat (slice e.2 (2 * n.val) 2) }) t
    else t) s

/-- SPLIT does not confirm the strap (R358). -/
def State.splitWrong (s : State) : Bool := s.on (.pep 0) F.PEP_CFG_SPLIT != s.split

/-- The configuration lock sets in every unit, and the checks of R358 and R363 are made (R484). -/
def State.lockConfig (s : State) : State :=
  let s1 := units.foldl (fun t u => t.setF u F.UNIT_STAT_CFG_LOCK 1) (s.setF .svc F.SVC_BOOT_CTL_LOCK 1)
  let s2 := pair.foldl (fun t p => if t.portLimitsOk p then t else t.err (.pep p) eConfig) s1
  if s2.splitWrong || !s2.queueSumOk then s2.err (.pep 0) eConfig else s2

/-- Some unit's UNIT_ERR holds CONFIG. -/
def State.anyConfig (s : State) : Bool :=
  units.any (fun u => (s.reg u Reg.UNIT_ERR).getLsbD (if u.isGroup then 8 + eConfig else eConfig))

/-- The lock, and the reason with which the start fails after it, or 0 (R484, R486). -/
def State.lockReason (s : State) : Nat :=
  if s.splitWrong then 5 else if s.anyConfig then 4 else if s.f .buf F.BUF_FW_PAGES_PAGES < 16384 then 4 else 0

/-- The buffer's configuration cannot be trained: SIZE above what the devices hold, or a table that does not fit (R259, R266). -/
def State.bufConfigBad (s : State) : Bool :=
  let gib := (1 + s.f .buf F.BUF_CFG_RANKS2) * 8 * 2 ^ s.f .buf F.BUF_CFG_DENSITY
  let size := dramSize (s.f .buf F.BUF_CFG_SIZE)
  size == 0 || s.f .buf F.BUF_CFG_DENSITY == 3 || decide (gib * 2 ^ 30 < size)
    || decide (s.f .buf F.BUF_FW_PAGES_PAGES * 4096 < s.f .buf F.BUF_BTT_BASE_PAGE * 4096 + 4 * s.f .buf F.BUF_HDL_LIMIT_LIMIT)

/-- The resets of R47 are over: no unit is in RESET but a servo that retracts. -/
def State.resetsOver (s : State) : Bool :=
  units.all (fun u => !s.inReset u || u.isGroup || (match u with | .srv n => s.mode n == mRetract | _ => false))

/-- After the lock: the buffer and the ports are enabled, and the spindle is started (R479, step 6). -/
def State.startEnable (s : State) : State :=
  let us := [UnitId.buf, .hostg, .cmd, .pep 0] ++ (if s.split then [UnitId.pep 1] else []) ++ [.med, .spn]
  let s1 := us.foldl (fun t u => t.enableSet u true) s
  let s2 := s1.spStart.setStage 3
  if s2.on .buf F.BUF_STAT_TRAINED then s2
  else if s2.bufConfigBad then (s2.err .buf eConfig).startFail 7
  else s2

/-- Configuration (STAGE 2): once the enclave is READY, the image is chosen, verified, copied and applied, and the lock sets
(R479, R481 to R484, R488). -/
def State.startConfig (s : State) : State :=
  if s.stage ≠ 2 ∨ s.on .hzl F.HZL_STAT_READY = false ∨ s.resetsOver = false then s
  else
    let r := s.idsarFind s.svcs.idsarTry
    match r.2 with
    | none => r.1.startFail 3
    | some (k, body) =>
      let s1 := (r.1.setBytes 0x10000000 body).setF .svc F.SVC_BOOT_SEL_IDSAR k
      let s2 := (s1.setMeas 3 (sha384 body)).idsarItems body
      let a := s2.idsarApply body
      if !a.2 then a.1.startFail 4
      else
        let s3 := a.1.lockConfig
        if s3.lockReason ≠ 0 then s3.startFail s3.lockReason else s3.startEnable

/-! ### Buffer, image and sections (R479, R485 to R487) -/

/-- Buffer (STAGE 3): once trained, the image follows. -/
def State.startBuffer (s : State) : State :=
  if s.stage = 3 ∧ s.on .buf F.BUF_STAT_TRAINED = true then s.setStage 4 else s

/-- The section of a type, if it lies within the body. -/
def sectionOf (body : List Byte) (t : Nat) : Option (List Byte) :=
  match (fwSections body).find? (fun e => e.1 == t) with
  | some e => if e.2.1 + e.2.2 ≤ body.length then some (slice body e.2.1 e.2.2) else none
  | none => none

/-- The instruction memories that a section is loaded into, and their size in bytes (R381, R485). -/
def sectionTarget (t : Nat) : List Engine × Nat :=
  if t = 2 then ([.service], 131072)
  else if t = 3 then (lanes4.map Engine.servo, 32768)
  else if t = 4 then (lanes4.map Engine.assist, 16384)
  else if t = 5 then ([.spindle], 32768)
  else ([.housekeeping], 32768)

/-- A section is loaded into an engine's instruction memory. -/
def State.loadSection (s : State) (e : Engine) (l : List Byte) : State :=
  (toWords l.length l).zipIdx.foldl (fun (t : State) (w : Word × Nat) => t.setTcm (tcmKey (engNum e) false w.2) w.1) s

/-- Sections 2 to 6 are all there and fit (R487). -/
def sectionsOk (body : List Byte) : Bool :=
  [2, 3, 4, 5, 6].all (fun t => match sectionOf body t with
    | some l => decide (l.length ≤ (sectionTarget t).2)
    | none => false)

/-- Sections 2 to 6 are loaded. -/
def State.loadSections (s : State) (body : List Byte) : State :=
  [2, 3, 4, 5, 6].foldl (fun (t : State) k =>
    (sectionTarget k).1.foldl (fun (u : State) e => u.loadSection e ((sectionOf body k).getD [])) t) s

/-- The lanes' units but the track sequencers, and the groups above them. -/
def laneUnits : List UnitId :=
  pair.map UnitId.piv ++ lanes4.map UnitId.lane ++ lanes4.map UnitId.chn ++ lanes4.map UnitId.srv ++ lanes4.map UnitId.ast

/-- Image (STAGE 4): the slot's image is verified and copied into both code areas, and its sections are loaded
(R377, R479, R485 to R487, R494). -/
def State.startImage (s : State) : State :=
  if s.stage ≠ 4 then s
  else
    let k := s.f .svc F.SVC_BOOT_SEL_SLOT
    let l := s.slotImage k
    let body := envBody l
    let st := s.verify 1 l
    if l.isEmpty then s.startFail 8
    else if st = hsSvn then (s.verified st).startFail 0xA
    else if st ≠ hsOk then (s.verified st).startFail 9
    else if !fwBodyOk body then (s.verified st).startFail 8
    else
      let s1 := pair.foldl (fun (t : State) p => t.setBytes (dramBase + p.val * 0x2000000) body) (s.verified st)
      let s2 := ((s1.measureSlot 4 k).measureSlot 7 k).setNext
      if !sectionsOk body || !s.svcs.world.small then s2.startFail 0xE
      else (laneUnits.foldl (fun t u => t.enableSet u true) (s2.loadSections body)).setStage 5

/-! ### Microcode (R167) -/

/-- The values of the vectors and the bytes of the words of a patch. -/
def patchVecs (l : List Byte) : List Word := toWords (leNat (slice l 8 2)) (slice l 64 (4 * leNat (slice l 8 2)))
def patchWords (l : List Byte) : List (BitVec 128) :=
  (List.range (leNat (slice l 6 2))).map (fun i =>
    BitVec.ofNat 128 (leNat (slice l (64 + 4 * leNat (slice l 8 2) + 16 * i) 16)))

/-- The header of a patch fits its body. -/
def patchHeadOk (l : List Byte) : Bool :=
  let w := leNat (slice l 6 2)
  let v := leNat (slice l 8 2)
  leNat (slice l 0 4) == 0x54515031 && decide (1 ≤ w ∧ w ≤ 1024 ∧ v ≤ 64 ∧ 64 + 4 * v + 16 * w ≤ l.length)

/-- ROMREV of a track sequencer (R24). -/
def romRev (n : Fin 4) : Nat := F.TSQ_UNIT_CAP_ROMREV.get (UnitId.cap (.tsq n))

/-- The vectors of a lane: those given, and 0 in the others (R167, step 4). -/
def State.setVectors (s : State) (n : Fin 4) (vs : List Word) : State :=
  (List.range 64).foldl (fun (t : State) i => t.writePlain (.tsq n) (Reg.TSQ_PV + 4 * i) (vs.getD i 0)) s

/-- The words of a lane from patch RAM offset 0 on, with generated parity (R166). -/
def State.setPatch (s : State) (n : Fin 4) (ws : List (BitVec 128)) : State :=
  s.setSq n { s.sq n with patch := ws.zipIdx.foldl (fun l (w : BitVec 128 × Nat) =>
    Sparse.set (fun _ => (0, 0)) l w.2 (w.1, oddParity w.1)) (s.sq n).patch }

/-- The bytes of the vectors and the words as they read back. -/
def State.patchBack (s : State) (n : Fin 4) (nv nw : Nat) : List Byte :=
  (List.range nv).flatMap (fun i => wordBytes (s.reg (.tsq n) (Reg.TSQ_PV + 4 * i)))
    ++ (List.range nw).flatMap (fun i => leBytes 16 ((s.sq n).patchWord i).1.toNat)

/-- A patch's verification: its signature and its tag (R167, step 2, R426). -/
def State.patchVerify (s : State) (l : List Byte) : Nat :=
  let st := s.verify 3 l
  if st != hsOk then st else if !envEnc l then hsSig
  else if !Config.sigOk (slice l 80 16 ++ envBody l) then hsDigest else hsOk

/-- The microcode stage: the reason with which it fails, or 0 (R167). -/
def State.loadPatch (s : State) : State × Nat :=
  let k := s.f .svc F.SVC_BOOT_SEL_PATCH
  let l := if k < 2 then s.imageAt (patchAt k) 0x10000 else []
  if l.isEmpty then ((lanes4.foldl (fun t n => t.setVectors n []) s).setMeas 5 (sha384 []), 0)
  else
    let st := s.patchVerify l
    let s1 := s.verified st
    let p := patchPlain l
    let mask := lanes4.filter (fun n => (leNat (slice p 5 1)).testBit n.val)
    if st ≠ hsOk then (s1, 0xB)
    else if !patchHeadOk p || mask.any (fun n => leNat (slice p 4 1) != romRev n) then (s1, 0xC)
    else
      let s2 := mask.foldl (fun t n => (t.setVectors n (patchVecs p)).setPatch n (patchWords p)) s1
      let back := fun (n : Fin 4) => s2.patchBack n (leNat (slice p 8 2)) (leNat (slice p 6 2))
      if mask.any (fun n => sha384 (back n) != slice p 16 48) then (s2, 0xD)
      else (s2.setMeas 5 (sha384 (envBody l)), 0)

/-- Microcode (STAGE 5), then the release of the pools (STAGE 6): their domains switch on, and each is released when it has
left RESET (R53, R167, R479, R486). -/
def State.startCode (s : State) : State :=
  if s.stage ≠ 5 then s
  else
    let r := s.loadPatch
    if r.2 ≠ 0 then r.1.startFail r.2
    else
      let k := s.f .svc F.SVC_BOOT_SEL_SLOT
      let e := fwEntry (envBody (s.slotImage k))
      let s1 := (lanes4.foldl (fun t n => t.enableSet (.tsq n) true) r.1).setStage 6
      let s2 := (s1.setF .svc F.SVC_FW_STAT_P0_SLOT k).setF .svc F.SVC_FW_STAT_P1_SLOT k
      pair.foldl (fun (t : State) p => (t.setRvec p e).enableSet (.pool p) true) s2

/-- The start goes on as far as it can. -/
def State.startStep (s : State) : State := s.startConfig.startBuffer.startImage.startCode

/-- A pool that has left RESET during the start is released (R479, step 11). -/
def State.startRelease (s : State) (u : UnitId) : State :=
  match u with
  | .pool p => if s.stage = 6 ∧ s.takes u = true then (coresOf p).foldl State.release s else s
  | _ => s

/-- UNIT_RESET_COMPLETE (R15, R47); a start that waited for it goes on. -/
def execUnitResetComplete (u : UnitId) (s : State) : Host.Outcome State Fault Refusal :=
  done s (fun s =>
    let t := s.resetComplete u
    if t.inReset u then t else (t.startRelease u).startStep)

/-! ### Cold and warm starts (R43, R479, R488) -/

/-- A cold start from a device that the cold reset has reached; `cause` is the bit of DEV_RST_CAUSE (R52). -/
def State.coldStart (s : State) (cause : Nat) (w : StartWorld) : State :=
  let s1 := { s.coldReset cause .on with resp := .none }
  let s2 := (s1.setSvcs { s1.svcs with strapBoot := w.boot.val }).setF (.pep 0) F.PEP_STAT_STRAP (bit w.split)
  let s3 := if w.split then s2 else s2.setUnitState (.pep 1) stParked
  (s3.startBegin w false).startStep

/-- COLD_START: the rising edge of PWRON_N (R43, R479). -/
def execColdStart (w : StartWorld) (s : State) : Host.Outcome State Fault Refusal :=
  leave s (if s.dev.power = .coldHeld ∨ s.dev.power = .off
              ∨ (s.dev.power = .on ∧ s.stage = 0 ∧ s.dev.warmInProgress = false) then s.coldStart 0 w
           else s.ignore)

/-- THERMAL_HOLD_END (R52, R518). -/
def execThermalHoldEnd (w : StartWorld) (s : State) : Host.Outcome State Fault Refusal :=
  leave s (if s.dev.power = .thermHeld then s.coldStart 5 w else s.ignore)

/-- CRYSTAL_RESTART (R37, R52). -/
def execCrystalRestart (w : StartWorld) (s : State) : Host.Outcome State Fault Refusal :=
  leave s (if s.dev.power = .xtalHeld then s.coldStart 6 w else s.ignore)

/-- WARM_START: the service core has left RESET and runs its boot ROM; the straps stay (R472, R488). -/
def State.warmStart (s : State) (w : StartWorld) : State :=
  if !s.dev.warmInProgress || s.stage != 0 then s.ignore
  else if s.inReset .svc then s.wait
  else (s.startBegin w true).startStep

/-- WARM_START (R488). -/
def execWarmStart (w : StartWorld) (s : State) : Host.Outcome State Fault Refusal := done s (fun s => s.warmStart w)

/-- SELF_TEST_DONE: READY, or ST_FAIL and FAULT, and the start fails (R417, R479); an enclave whose entropy source has failed
stays in FAULT (R418). -/
def State.selfTestDone (s : State) (failed : Option Nat) : State :=
  if s.inReset .hzl || s.hzl.tested then s.ignore
  else
    let s1 : State := { s with hzl := { s.hzl with tested := true } }
    match (if s.hzl.entropyBad && failed.isNone then some s.freeNat else failed) with
    | none => (s1.setF .hzl F.HZL_STAT_READY 1).startStep
    | some k =>
      let s2 := ((((s1.setF .hzl F.HZL_STAT_ST_FAIL 1).setF .hzl F.HZL_STAT_ST_ID k).err .hzl heStFail).setUnitState .hzl
        stFault).spend
      if s2.starting then s2.startFail 6 else s2

/-- SELF_TEST_DONE (R417). -/
def execSelfTestDone (failed : Option Nat) (s : State) : Host.Outcome State Fault Refusal :=
  done s (fun s => s.selfTestDone failed)

/-- DDR_TRAINED: TRAINED and the zero fill, or TRAIN and a failed start (R261, R568); a configuration that cannot be trained
sets CONFIG (R259, R266); in Chrysalis mode the start goes on without a buffer (R497). -/
def State.ddrTrained (s : State) (ok : Bool) : State :=
  if !s.takes .buf || s.on .buf F.BUF_STAT_TRAINED || (s.stage != 3 && s.stage != 8) then s.ignore
  else
    let fail := fun (t : State) => if s.stage = 3 then t.startFail 7 else t
    if s.bufConfigBad then fail (s.err .buf eConfig)
    else if !ok then fail (s.err .buf beTrain)
    else
      (((s.setF .buf F.BUF_STAT_TRAINED 1).setF .buf F.BUF_STAT_FILLING 1).setF .buf F.BUF_STAT_RATE
        (s.f .buf F.BUF_CFG_RATE)).startStep

/-- DDR_TRAINED (R261). -/
def execDdrTrained (ok : Bool) (s : State) : Host.Outcome State Fault Refusal := done s (fun s => s.ddrTrained ok)

/-! ### Readiness and serving (R490, R501) -/

/-- The extents of before a warm reset that followed a vault save are not re-adopted: their handles are free again (R488). -/
def State.dropExtents (s : State) : State :=
  (({ s with cmd := { s.cmd with exts := [] } } : State)).freeHandles
    (s.cmd.exts.map (fun (e : Nat × Extent) => (e.2.handle, e.2.count)))

/-- The loss of a whole save, both of whose metadata copies have failed, is recorded: class 0051h (R320, R543). -/
def State.saveLost (s : State) : State :=
  s.eventRecord (max (s.life lifePon) (s.reg64 .hkp Reg.HKP_PON_LO)) 0x51 3 0xFFFF
    ((List.range 24).map (Config.layout [0x51])) .ok

/-- What pool 0 has done before it writes READY: read the drive metadata and the settings, and the restore of the vault (R320,
R468, R479, R489). -/
def State.pool0Start (s : State) : Option State :=
  let w := s.svcs.world
  let s1 : State := if s.hosts.allSlots = 0 then
      { s with hosts := { s.hosts with freeBands := soundBands w.bands, spareSlots := w.slots, allSlots := w.slots
                                       place := { Place.empty with area := w.area, logArea := w.log } } }
    else s
  let s2 := if s.newestSave.isSome then s1.dropExtents else s1
  let slot := s.f .svc F.SVC_BOOT_SEL_SLOT
  let s3 := if s2.vaultFitted && s2.newestSave.isSome && !w.vaultMeta then s2.saveLost else s2
  if s3.restoreFits then some (((s3.restore w.vaultMeta).discardSettings slot).readSettings slot true) else none

/-- BOOT_REPLY_WRITE: the cores' bits and REASON; REFUSE fails the start (R490, R500, R502). -/
def State.bootReply (s : State) (v : Word) : State :=
  let old := s.reg .svc Reg.SVC_BOOT_REPLY
  let set := fun (t : State) => t.setReg .svc Reg.SVC_BOOT_REPLY ((old &&& 0x80000003) ||| (v &&& 0x8000FF03))
  if F.SVC_BOOT_REPLY_REFUSE.get v = 1 then (if s.starting then (set s).startFail 0xF else set s)
  else if F.SVC_BOOT_REPLY_P0_READY.get v = 1 ∧ F.SVC_BOOT_REPLY_P0_READY.get old = 0 ∧ s.stage = 6 then
    match s.pool0Start with
    | some t => set t
    | none => s.wait
  else set s

/-- The engines that write SVC_BOOT_REPLY and SVC_SAVE_PLAN (R501). -/
def coreOnly (e : Engine) : Option BusCause := if engCore e then none else some .accessDenied

/-- BOOT_REPLY_WRITE (R501). -/
def execBootReplyWrite (eng : Engine) (v : Word) (s : State) : Host.Outcome State Fault Refusal :=
  done s (fun s => s.access eng .store .svc Reg.SVC_BOOT_REPLY (coreOnly eng) (s.bootReply v))

/-- Both pools are ready and none refuses (R490). -/
def State.poolsReady (s : State) : Bool :=
  s.on .svc F.SVC_BOOT_REPLY_P0_READY && s.on .svc F.SVC_BOOT_REPLY_P1_READY && !s.on .svc F.SVC_BOOT_REPLY_REFUSE

/-- The vendor-specific events of an image on default settings, of a start under a fallback, and of the first serving after a
thermal shutdown (R468, R536). -/
def State.startEvents (s : State) : State :=
  let k := s.f .svc F.SVC_BOOT_STAT_ATTEMPT
  let s0 := if s.svcs.defaulted then s.raiseAll ⟨7, 0, 0xC0⟩ else s
  let s1 := if 2 ≤ k then s0.raiseAll ⟨7, 1, 0xC1⟩ else s0
  if s1.hosts.thermEvent then
    ({ s1 with hosts := { s1.hosts with thermEvent := false } } : State).raiseAll ⟨7, 2, 0xC2⟩
  else s1

/-- SERVING: POOL_MASK, SERVING, the end record, COUNT cleared; enabled controllers become ready (R479, R490). -/
def State.serve (s : State) : State :=
  if s.stage ≠ 6 ∨ s.poolsReady = false then s.ignore
  else
    let s1 := ((s.setMask 3).setF .svc F.SVC_BOOT_CTL_SERVING 1).setStage 7
    let s2 := ((s1.setF .svc F.SVC_FAIL_COUNT 0).histEnd 0 0).readyAll
    ({ s2 with dev := { s2.dev with warmInProgress := false } } : State).startEvents.lookCrit

/-- SERVING (R490). -/
def execServing (eng : Engine) (s : State) : Host.Outcome State Fault Refusal :=
  done s (fun s => s.access eng .store .svc Reg.SVC_BOOT_CTL (svcOnly eng) s.serve)

/-- CONFIG_LOCK: in the configuration stage the Idsar image is applied first; the checks of the lock (R484). -/
def State.configLock (s : State) : State :=
  if s.stage = 2 then (if s.on .hzl F.HZL_STAT_READY && s.resetsOver then s.startStep else s.wait)
  else if s.locked then s
  else
    let t := s.lockConfig
    if t.starting && t.lockReason != 0 then t.startFail t.lockReason else t

/-- CONFIG_LOCK (R484, R501). -/
def execConfigLock (eng : Engine) (s : State) : Host.Outcome State Fault Refusal :=
  done s (fun s => s.access eng .store .svc Reg.SVC_BOOT_CTL (svcOnly eng) s.configLock)

/-! ### The start watchdog (R491) -/

/-- A write of SVC_WDOG: HOLD; KICK restarts a limit that the model does not count. -/
def State.kick (s : State) (v : Word) : State := s.setF .svc F.SVC_WDOG_HOLD (F.SVC_WDOG_HOLD.get v)

/-- WATCHDOG_KICK (R491, R501). -/
def execWatchdogKick (eng : Engine) (v : Word) (s : State) : Host.Outcome State Fault Refusal :=
  done s (fun s => s.access eng .store .svc Reg.SVC_WDOG (svcOnly eng) (s.kick v))

/-- The watchdog ends the start: COUNT and REASON, and a warm reset (R491). -/
def State.watchdog (s : State) (reason : Nat) : State := (s.countFail reason).warmReset .watchdog

/-- START_WATCHDOG_EXPIRY: not while HOLD is set, after SERVING or in Chrysalis mode (R491, R496). -/
def execStartWatchdogExpiry (s : State) : Host.Outcome State Fault Refusal :=
  done s (fun s => s.when (!s.on .svc F.SVC_BOOT_CTL_SERVING && !s.on .svc F.SVC_WDOG_HOLD && !s.svcs.chrysalis)
    (s.watchdog 1))

/-- KICK_TIMEOUT: until SERVING, and in Chrysalis mode (R491, R496). -/
def execKickTimeout (s : State) : Host.Outcome State Fault Refusal :=
  done s (fun s => s.when (!s.on .svc F.SVC_BOOT_CTL_SERVING) (s.watchdog 2))

end Sys2Proof.Machine
end

