-- ==== Sys2Proof/Machine/Admin.lean ====
section
/-! DEFINITION. Admin commands: Identify (R292, R349, R360, R370, R371, R447, R497), the log pages (R453, R535, R537,
R539 to R542), security commands (R442), namespace management and Format NVM (R289, R292, R304, R305, R432). -/

namespace Sys2Proof.Machine

/-! ### Answers with data -/

/-- Bytes of a structure that the manual states, laid over the bytes that it leaves open. -/
def overlay (base : List Byte) (l : List (Nat × List Byte)) : List Byte :=
  l.foldl (fun b (e : Nat × List Byte) => b.take e.1 ++ e.2 ++ b.drop (e.1 + e.2.length)) base

/-- Zeros. -/
def zeros (n : Nat) : List Byte := List.replicate n 0

/-- The first `n` bytes of a list, filled with zeros. -/
def fill (n : Nat) (l : List Byte) : List Byte := (l ++ zeros n).take n

/-- A part of a log page is answered, and its events are held no longer unless they are to be retained (R536).  In Chrysalis
mode only Boot History is served (R497). -/
def State.logPage (s : State) (fn page : Nat) (rae : Bool) (off n : Nat) (l : List Byte) : State :=
  if s.svcs.chrysalis && page != 0xC1 then s.answer (.status .invalidLogPage)
  else if off % 4 ≠ 0 ∨ l.length < off then s.answer (.status .invalidField)
  else (if rae then s else s.pageRead fn page).answer (.data (slice l off n))

/-! ### Statuses as the error log gives them (R534; PRESUMED, log entry 20) -/

/-- Status Code Type × 256 + Status Code of a named status (PRESUMED, log entry 20). -/
def NvmeStatus.code : NvmeStatus → Nat
  | .success => 0x000 | .invalidOpcode => 0x001 | .invalidField => 0x002 | .dataTransferError => 0x004
  | .internalError => 0x006 | .abortRequested => 0x007 | .abortedBySqDeletion => 0x008 | .nsInvalid => 0x00B
  | .sanitizeProhibited => 0x01D | .operationDenied => 0x015 | .namespaceNotReady => 0x082 | .lbaOutOfRange => 0x080
  | .capacityExceeded => 0x081 | .anaInaccessible => 0x302 | .anaTransition => 0x303
  | .cqInvalid => 0x100 | .invalidQueueId => 0x101 | .invalidQueueSize => 0x102 | .abortLimit => 0x103
  | .aerLimit => 0x105 | .invalidFwSlot => 0x106 | .invalidFwImage => 0x107 | .invalidVector => 0x108
  | .invalidLogPage => 0x109 | .invalidFormat => 0x10A | .fwResetSubsystem => 0x110 | .fwResetController => 0x10B
  | .featureNotSaveable => 0x10D | .featureNotChangeable => 0x10E | .featureNotNs => 0x10F | .fwMaxTime => 0x112
  | .fwProhibited => 0x113 | .overlappingRange => 0x114 | .nsInsufficient => 0x115 | .nsIdUnavailable => 0x116
  | .nsAlreadyAttached => 0x118 | .insufficientCapacity => 0x115 | .invalidProtection => 0x181
  | .zoneBoundary => 0x1B8 | .zoneFull => 0x1B9 | .zoneReadOnly => 0x1BA | .zoneOffline => 0x1BB
  | .zoneInvalidWrite => 0x1BC | .tooManyActive => 0x1BD | .tooManyOpen => 0x1BE | .invalidTransition => 0x1BF
  | .writeProtected => 0x020 | .writeFault => 0x280 | .unrecoveredRead => 0x281 | .guardCheck => 0x282
  | .appTagCheck => 0x283 | .refTagCheck => 0x284 | .compareFailure => 0x285 | .accessDenied => 0x286
  | .deallocatedBlock => 0x287 | .keyTag => 0x7C0 | .keyMissing => 0x7C0

/-- The status field, with the phase bit 0. -/
def CStatus.word : CStatus → Nat
  | .named st => 2 * st.code + 2 ^ 15 * bit st.dnr
  | .raw w => w

/-! ### The log pages (R453, R535 to R542) -/

/-- An entry of the Error Information log; no parameter location applies (R535; PRESUMED, log entry 20). -/
def ErrEntry.bytes (e : ErrEntry) : List Byte :=
  fill 64 (leBytes 8 e.count ++ leBytes 2 e.sqid ++ leBytes 2 e.cid ++ leBytes 2 e.status.word ++ leBytes 2 0xFFFF
    ++ leBytes 8 e.lba ++ leBytes 4 e.nsid)

/-- ERROR_INFORMATION_LOG: 256 entries, newest first (R535). -/
def State.errorLog (s : State) (fn : Nat) : List Byte := fill 16384 ((s.ctrl fn).errs.flatMap ErrEntry.bytes)

/-- ERROR_INFORMATION_LOG (R535). -/
def execErrorInformationLog (fn : Fin 64) (rae : Bool) (off n : Nat) (s : State) : Host.Outcome State Fault Refusal :=
  done s (fun s => s.admin fn.val (s.logPage fn.val 0x01 rae off n (s.errorLog fn.val)))

/-- SMART_HEALTH_LOG: what R302, R515, R535, R537 and R545 give, laid out as NVM Express does (PRESUMED, log entry 20);
Percentage Used, for which the manual names ratings without a place, and the rest are free (DESIGN CHOICE, log entry 1). -/
def State.smartLog (s : State) (fn : Nat) : List Byte :=
  let temp := match s.composite with
    | some k => [(1, leBytes 2 k.toNat)]
    | none => []
  let pon := max (s.life lifePon) (s.reg64 .hkp Reg.HKP_PON_LO)
  overlay (s.freeBytes 216 ++ zeros 296)
    (temp ++ [(0, [BitVec.ofNat 8 s.hosts.crit]), (3, [BitVec.ofNat 8 s.availSpare, 10]),
      (32, leBytes 16 ((s.life lifeRead512 + 999) / 1000)), (48, leBytes 16 ((s.life lifeWrite512 + 999) / 1000)),
      (64, leBytes 16 (s.life lifeReads)), (80, leBytes 16 (s.life lifeWrites)),
      (112, leBytes 16 (s.life lifeCycles)), (128, leBytes 16 (pon / 3600)), (144, leBytes 16 (s.life lifeUnsafe)),
      (160, leBytes 16 (s.life lifeMedia)), (176, leBytes 16 (s.ctrl fn).errCount)])

/-- SMART_HEALTH_LOG (R537). -/
def execSmartHealthLog (fn : Fin 64) (rae : Bool) (off n : Nat) (s : State) : Host.Outcome State Fault Refusal :=
  done s (fun s => s.admin fn.val
    (let t := s.lookCrit
     t.spend.logPage fn.val 0x02 rae off n (t.smartLog fn.val)))

/-- FIRMWARE_SLOT_LOG: AFI with the serving slot and NEXT when it differs, and the revisions of the slots (R453). -/
def State.slotLog (s : State) : List Byte :=
  let k := s.servingSlot
  let next := s.f .svc F.SVC_FW_STAT_NEXT
  fill 512 ([BitVec.ofNat 8 (k + (if next = k then 0 else 16 * next))] ++ zeros 7 ++ [1, 2, 3].flatMap s.slotRev)

/-- FIRMWARE_SLOT_LOG (R453). -/
def execFirmwareSlotLog (fn : Fin 64) (rae : Bool) (off n : Nat) (s : State) : Host.Outcome State Fault Refusal :=
  done s (fun s => s.admin fn.val (s.logPage fn.val 0x03 rae off n s.slotLog))

/-- The header of a vendor log page: version 0001h and the count of entries (R538). -/
def pageHead (n : Nat) : List Byte := leBytes 2 1 ++ leBytes 2 n

/-- An entry of the Settings Reset log from a record of class 0040h, whose DATA opens with the entry's bytes 16 to 31
(R539; DEDUCED, log entry 45). -/
def settingsEntry (r : List Byte) : List Byte := slice r 0 16 ++ slice r 24 16

/-- SETTINGS_RESET_LOG: up to eight records of class 0040h, newest first (R539). -/
def State.settingsLog (s : State) : List Byte :=
  let l := (newestFirst 0 ((s.norRecords eventBase 5).filter (fun (r : Nat × List Byte) => leNat (slice r.2 16 2) == 0x40))).take 8
  let seq := match l with | r :: _ => seqOf 0 r | [] => 0
  fill 320 (fill 64 (pageHead l.length ++ zeros 4 ++ leBytes 8 seq) ++ l.flatMap settingsEntry)

/-- SETTINGS_RESET_LOG (R539). -/
def execSettingsResetLog (fn : Fin 64) (rae : Bool) (off n : Nat) (s : State) : Host.Outcome State Fault Refusal :=
  done s (fun s => s.admin fn.val (s.logPage fn.val 0xC0 rae off n s.settingsLog))

/-- BOOT_HISTORY_LOG: COUNT and REASON, SVC_BOOT_SEL, and up to 64 records, newest first (R540). -/
def State.bootLog (s : State) : List Byte :=
  let l := (newestFirst 8 s.history).take 64
  fill 4160 (fill 64 (pageHead l.length ++ [s.f .svc F.SVC_FAIL_COUNT, s.f .svc F.SVC_FAIL_REASON].map (BitVec.ofNat 8) ++ zeros 2
    ++ wordBytes (s.reg .svc Reg.SVC_BOOT_SEL)) ++ l.flatten)

/-- BOOT_HISTORY_LOG (R540). -/
def execBootHistoryLog (fn : Fin 64) (rae : Bool) (off n : Nat) (s : State) : Host.Outcome State Fault Refusal :=
  done s (fun s => s.admin fn.val (s.logPage fn.val 0xC1 rae off n s.bootLog))

/-- THERMAL_SHUTDOWN_LOG: up to 32 records with a good CRC, newest first (R541). -/
def State.shutLog (s : State) : List Byte :=
  let l := (newestFirst 8 (s.norRecords shutBase 4)).take 32
  fill 2112 (fill 64 (pageHead l.length) ++ l.flatten)

/-- THERMAL_SHUTDOWN_LOG (R541). -/
def execThermalShutdownLog (fn : Fin 64) (rae : Bool) (off n : Nat) (s : State) : Host.Outcome State Fault Refusal :=
  done s (fun s => s.admin fn.val (s.logPage fn.val 0xC2 rae off n s.shutLog))

/-- Assist on-time life of a head in 10 ns: as persisted and as counted since (R218, R545). -/
def State.onTime (s : State) (h : Nat) : Nat :=
  (Sparse.get (fun _ => 0) s.hosts.life (lifeHead h 0) + (s.at (headLane h)).lifeRaw (h % 12) 0) / 4

/-- A head entry of C3h; sectors reallocated, write stops and the event of the last change are firmware's counts, and free
(R542; DESIGN CHOICE, log entry 1). -/
def State.headEntry (s : State) (h : Nat) : List Byte :=
  let n := headLane h
  let kind := F.AST_HD_DATA_W0_KIND.get (Sparse.get (fun _ => (0 : Word)) (s.at n).hdTab (h % 12 * 8))
  [h, n.val, s.headState h, F.MED_HEAD_DATA_WR_INH.get (s.headData h) + 2 * bit (s.laneOff n), kind].map (BitVec.ofNat 8)
    ++ zeros 3 ++ leBytes 8 (s.onTime h) ++ (List.range 16).map (fun i => Config.freeByte s.freeCtr (16 * h + i))

/-- A surface entry of C3h; the changes refused are firmware's count, and free (R542; DESIGN CHOICE, log entry 1). -/
def State.surfaceEntry (s : State) (k : Nat) : List Byte :=
  [k, s.twinsFailed k].map (BitVec.ofNat 8) ++ (List.range 2).map (fun i => Config.freeByte s.freeCtr (768 + 2 * k + i)) ++ zeros 4

/-- TWIN_HEAD_HEALTH_LOG (R542). -/
def State.headLog (s : State) : List Byte :=
  fill 64 (pageHead 72) ++ (List.range 48).flatMap s.headEntry ++ (List.range 24).flatMap s.surfaceEntry

/-- TWIN_HEAD_HEALTH_LOG (R542). -/
def execTwinHeadHealthLog (fn : Fin 64) (rae : Bool) (off n : Nat) (s : State) : Host.Outcome State Fault Refusal :=
  done s (fun s => s.admin fn.val (s.spend.logPage fn.val 0xC3 rae off n s.headLog))

/-! ### Identify -/

/-- The power state descriptors of the Idsar image's item 0001h (R61, R480; PRESUMED, log entry 20): the last two are not
operational. -/
def State.psds (s : State) : List (Nat × List Byte) :=
  let body := envBody (s.imageAt (idsarAt (s.f .svc F.SVC_BOOT_SEL_IDSAR)) 0x100000)
  match (idItemsOf body).bind (fun l => l.find? (fun e => e.1 == 1)) with
  | none => []
  | some e => (List.range 5).map (fun i =>
      let d := slice e.2 (10 * i) 10
      (2048 + 32 * i, slice d 0 2 ++ [0, if i < 3 then 0 else 2] ++ slice d 2 8))

/-- FR (R447, R497): "CHRYS" and three digits that the manual does not give, or FWREV of the serving image. -/
def State.fr (s : State) : List Byte :=
  if s.svcs.chrysalis then
    [0x43, 0x48, 0x52, 0x59, 0x53] ++ [0, 1, 2].map (fun i => BitVec.ofNat 8 (0x30 + (Config.freeByte s.freeCtr (5000 + i)).toNat % 10))
  else s.slotRev s.servingSlot

/-- Identify Controller: the fields that the manual gives, laid out as NVM Express does (PRESUMED, log entry 20), over free
ones. -/
def State.identifyCtrl (s : State) (fn : Nat) : List Byte :=
  let f := s.freeBytes 4096
  let free := fun (i m : Nat) => BitVec.ofNat 8 ((f.getD i 0).toNat &&& m)
  let chr := s.svcs.chrysalis
  overlay f ([(64, s.fr), (76, [BitVec.ofNat 8 (0x0E + bit s.split), 8]), (78, leBytes 2 (fn + 1)),
    (93, [free 93 0xFD ||| 2]), (256, if chr then [4, 0] else [free 256 0xB0 ||| 0x4F, free 257 0xFF]), (260, [0x17]), (262, [255, 4]),
    (270, leBytes 2 40), (319, [1]), (322, [0, 0]), (342, [2, 0x17]), (344, leBytes 4 32), (348, leBytes 4 32),
    (516, leBytes 4 (if chr then 0 else 256)), (520, [free 520 0xDF]), (522, [0, 0]),
    (525, [free 525 0xFE ||| BitVec.ofNat 8 (bit !s.vaultFitted)]), (526, zeros 4), (532, [0, 0])] ++ s.psds)

/-- Identify Namespace: size, protection type and ANA group, laid out as NVM Express does (PRESUMED, log entry 20); zeros of a
namespace that is not attached to the controller. -/
def State.identifyNs (s : State) (fn : Nat) (n : Namespace) : List Byte :=
  if !n.attached.contains fn then zeros 4096
  else
    let f := s.freeBytes 4096
    overlay f [(0, leBytes 8 n.size), (24, [BitVec.ofNat 8 ((f.getD 24 0).toNat &&& 0xFD)]), (29, [BitVec.ofNat 8 n.pi]),
      (92, leBytes 4 n.ana)]

/-- The active namespaces of a controller above an NSID, in order. -/
def State.identifyList (s : State) (fn nsid : Nat) : List Byte :=
  fill 4096 ((orderBy (fun a b => decide (a ≤ b)) ((s.hosts.namespaces.filter (fun n =>
    n.attached.contains fn && decide (nsid < n.nsid))).map (fun n => n.nsid))).flatMap (leBytes 4))

/-- IDENTIFY: CNS 00h, 01h and 02h; the contents of other structures are free (R292, R371, R447, R497). -/
def State.identify (s : State) (fn cns nsid : Nat) : State :=
  if cns = 1 then s.spend.answer (.data (s.identifyCtrl fn))
  else if s.svcs.chrysalis then s.answer (.status .invalidField)
  else if cns = 0 then
    match s.ns? nsid with
    | some n => s.spend.answer (.data (s.identifyNs fn n))
    | none => if nsid = 0 ∨ 256 < nsid then s.answer (.status .nsInvalid) else s.answer (.data (zeros 4096))
  else if cns = 2 then s.answer (.data (s.identifyList fn nsid))
  else s.spend.answer (.data (s.freeBytes 4096))

/-- IDENTIFY (R447). -/
def execIdentify (fn : Fin 64) (cns nsid : Nat) (s : State) : Host.Outcome State Fault Refusal :=
  done s (fun s => s.admin fn.val (s.identify fn.val cns nsid))

/-! ### The Thermal Throttle Report (R350, R510, R515) -/

/-- Dword 0 of Get Features C6h. -/
def State.throttleReport (s : State) : Nat :=
  let h := (signed 16 (s.f .hkp F.HKP_DIE_STAT_H)).ediv 4
  let ld := s.f .hkp F.HKP_THR_STAT_LD
  let lm := s.f .hkp F.HKP_THR_STAT_LM
  2 ^ 16 * unsigned 8 h + 2 ^ 8 * s.capLevel + 2 ^ 4 * bit (decide (0 < lm)) + 2 ^ 3 * bit (decide (0 < ld)) + max ld lm

/-- GET_THERMAL_THROTTLE_REPORT (R350). -/
def execGetThermalThrottleReport (s : State) : Host.Outcome State Fault Refusal :=
  done s (fun s => s.feature (s.answer (.value (BitVec.ofNat 32 s.throttleReport))))

/-! ### Security Send and Receive (R420, R421, R442) -/

/-- The 64-byte descriptor of SEC_SEND or SEC_RECV (R420, R421). -/
def secDescriptor (op fn secp spsp nsid len buf : Nat) (send : Bool) : List Byte :=
  leBytes 2 op ++ leBytes 2 0 ++ leBytes 4 0 ++ leBytes 8 (if send then buf else 0) ++ leBytes 4 (if send then len else 0) ++ zeros 4
    ++ leBytes 8 (if send then 0 else buf) ++ leBytes 4 (if send then 0 else len) ++ zeros 4
    ++ leBytes 1 secp ++ zeros 1 ++ leBytes 2 spsp ++ leBytes 4 nsid ++ leBytes 4 len ++ leBytes 2 (fn + 1) ++ zeros 10

/-- A pool passes a security command to the enclave on its channel: the payload, the descriptor, the push (R420, R442). -/
def State.security (s : State) (op fn : Nat) (p : Fin 2) (secp spsp nsid desc buf len : Nat) (data : List Byte) : State :=
  if s.svcs.chrysalis then s.answer (.status .invalidOpcode)
  else if !secProtocols.contains secp then s.answer (.status .invalidField)
  else if !s.live (.pool p) || desc % 64 != 0 || !s.inWork desc 64 || !s.inWork buf len then s.ignore
  else if 8 ≤ (s.rqs (p.val + 1)).length then s.wait
  else
    let s1 := if data.isEmpty then s else s.memPut buf data
    let s2 := s1.memPut desc (secDescriptor op fn secp spsp nsid len buf (op == hoSecSend))
    (s2.rqPush (p.val + 1) (BitVec.ofNat 32 desc)).answer .waiting

/-- SECURITY_SEND (R442). -/
def execSecuritySend (fn : Fin 64) (p : Fin 2) (secp : BitVec 8) (spsp : BitVec 16) (nsid desc buf : Nat) (data : List Byte)
    (s : State) : Host.Outcome State Fault Refusal :=
  done s (fun s => s.admin fn.val
    (s.security hoSecSend fn.val p secp.toNat spsp.toNat nsid desc buf data.length data))

/-- SECURITY_RECEIVE (R442). -/
def execSecurityReceive (fn : Fin 64) (p : Fin 2) (secp : BitVec 8) (spsp : BitVec 16) (nsid desc buf len : Nat)
    (s : State) : Host.Outcome State Fault Refusal :=
  done s (fun s => s.admin fn.val (s.security hoSecRecv fn.val p secp.toNat spsp.toNat nsid desc buf len []))

/-! ### Namespaces (R289, R292, R304, R305, R432) -/

/-- Bands taken out of the free ones, each once; none if one is missing. -/
def takeBands (l free : List Band) : Option (List Band) :=
  match l with
  | [] => some free
  | b :: t => if free.contains b then takeBands t (free.erase b) else none

/-- The longest of a list of lengths. -/
def longest (l : List Nat) : Nat := l.foldl max 0

/-- The free bands of a conventional namespace suffice: two that hold its longest logical band (R305). -/
def bandsOk (zoned : Bool) (lens : List Nat) (free : List Band) : Bool :=
  zoned || decide (2 ≤ (free.filter (fun b => decide (longest lens ≤ b.cap))).length)

/-- The size of a namespace in blocks (R292, R304). -/
def nsSize (zoned : Bool) (lens : List Nat) : Nat := if zoned then lens.length * zoneSize else lens.foldl (· + ·) 0

/-- A format that the device offers: 0, 8 or 16 bytes of metadata, and protection information only with metadata. -/
def formatOk (ms pi : Nat) : Bool := [0, 8, 16].contains ms && decide (pi ≤ 3) && (pi == 0 || ms != 0)

/-- The event of a namespace that is created, deleted or resized (R536). -/
def State.nsChanged (s : State) : State := s.raiseAll ⟨2, 0, 4⟩

/-- The namespace's global range gets its key, where it is offered; the command completes with it (R429, R432). -/
def State.keyNew (s : State) (nsid : Nat) : State :=
  if s.kpioBase ≤ nsid - 1 then s.answer (.status .success) else (s.answer .waiting).nsKey nsid ⟨false, 3, nsid⟩

/-- NAMESPACE_CREATE: the lowest free NSID, its bands, the controllers that it is attached to, its key, its event (R289, R292,
R305, R432, R536; DESIGN CHOICE, log entry 44). -/
def State.nsCreate (s : State) (x : NsSpec) : State :=
  if s.svcs.chrysalis then s.answer (.status .invalidOpcode)
  else if x.ana = 0 ∨ 32 < x.ana ∨ x.bands = [] ∨ !x.attached.all (fun f => s.fnExists f.val) then s.answer (.status .invalidField)
  else if !formatOk x.ms x.pi then s.answer (.status .invalidFormat)
  else
    match takeBands (x.bands ++ x.free) s.hosts.freeBands with
    | none => s.answer (.status .nsInsufficient)
    | some rest =>
      if !bandsOk x.zoned (x.bands.map Band.cap) x.free then s.answer (.status .nsInsufficient)
      else
        match (List.range 256).find? (fun k => (s.ns? (k + 1)).isNone) with
        | none => s.answer (.status .nsIdUnavailable)
        | some k =>
          if s.drbgDue || s.keyFull k then s.wait
          else
            let lens := x.bands.map Band.cap
            let n : Namespace := ⟨k + 1, x.zoned, nsSize x.zoned lens, x.ms, x.pi, x.kpio, x.ana, x.attached.map Fin.val,
              x.bands, lens, x.free, []⟩
            let t : State := { s with hosts := { s.hosts with namespaces := s.hosts.namespaces ++ [n], freeBands := rest } }
            t.nsChanged.keyNew (k + 1)

/-- NAMESPACE_CREATE (R305). -/
def execNamespaceCreate (fn : Fin 64) (spec : NsSpec) (s : State) : Host.Outcome State Fault Refusal :=
  done s (fun s => s.admin fn.val (s.nsCreate spec))

/-- A command on the namespace has not completed. -/
def State.nsBusy (s : State) (nsid : Nat) : Bool :=
  s.cmd.slots.any (fun (e : Nat × Slot) => e.2.st.isOpen && e.2.io && sqeNsid e.2.sqe == nsid)

/-- The blocks of a namespace from LBA `a` on leave the buffer, the lost list, the zone records, the media cache and the
reallocation table; a compaction of the namespace is given up (R300). -/
def State.dropBlocks (s : State) (n : Namespace) (a : Nat) : State :=
  let gone := fun (e : Nat × Extent) => e.2.nsx == nsxOf n.nsid && decide (a ≤ e.2.slba)
  let s1 := s.freeHandles ((s.cmd.exts.filter gone).map (fun (e : Nat × Extent) => (e.2.handle, e.2.count)))
  let log := s1.place.log.filter (fun r => !(r.nsid == n.nsid && decide (a ≤ r.lba)))
  let comp := s1.place.comp.filter (fun c => c.nsid != n.nsid)
  let s2 := (s1.setPlace { s1.place with log := log, comp := comp }).releaseSlots (fun e => e.nsid == n.nsid && decide (a ≤ e.lba))
  { s2 with cmd := { s2.cmd with exts := s2.cmd.exts.filter (fun e => !gone e) }
            vault := { s2.vault with lost := s2.vault.lost.filter (fun (b : Nat × Nat) => !(b.1 == n.nsid && decide (a ≤ b.2))) }
            hosts := { s2.hosts with zones := s2.hosts.zones.filter (fun (e : Nat × Zone) =>
              !(e.1 / 2 ^ 20 == n.nsid && decide (a ≤ n.firstLba (e.1 % 2 ^ 20)))) } }

/-- The namespaces that an NSID names: one, or all of them. -/
def State.nsNamed (s : State) (nsid : Nat) : List Namespace :=
  if nsid = 0xFFFFFFFF then s.hosts.namespaces else s.hosts.namespaces.filter (fun n => n.nsid == nsid)

/-- One namespace deleted: its blocks, its policy and its bands go, and its keys are erased (R432). -/
def State.nsDrop (s : State) (n : Namespace) : State :=
  let s1 := s.dropBlocks n 0
  let s2 := ({ s1 with
      cmd := { s1.cmd with twin := Sparse.erase s1.cmd.twin n.nsid }
      hosts := { s1.hosts with namespaces := s1.hosts.namespaces.filter (fun m => m.nsid != n.nsid)
                               freeBands := s1.hosts.freeBands ++ n.bands ++ n.free } } : State).nsErase n.nsid ⟨true, 3, n.nsid⟩
  { s2 with hzl := { s2.hzl with ranges := s2.hzl.ranges.filter (fun (e : Nat × LockRange) => e.2.nsid != n.nsid) } }

/-- NAMESPACE_DELETE: once no command on the namespace is open (R432, R536). -/
def State.nsDelete (s : State) (nsid : Nat) : State :=
  let l := s.nsNamed nsid
  if s.svcs.chrysalis then s.answer (.status .invalidOpcode)
  else if l = [] then s.answer (.status .nsInvalid)
  else if l.any (fun n => s.nsBusy n.nsid || (s.nsSlots n.nsid).any s.keyFull) then s.wait
  else l.foldl State.nsDrop (s.nsChanged.answer .waiting)

/-- NAMESPACE_DELETE (R432). -/
def execNamespaceDelete (fn : Fin 64) (nsid : Nat) (s : State) : Host.Outcome State Fault Refusal :=
  done s (fun s => s.admin fn.val (s.nsDelete nsid))

/-- One namespace formatted: its blocks are gone and it has its new format; with Secure Erase Settings 010b its keys are
erased, and its global range gets a fresh one (R432). -/
def State.nsFormat (ses ms pi : Nat) (s : State) (n : Namespace) : State :=
  let s1 := s.dropBlocks n 0
  let s2 : State := { s1 with hosts := { s1.hosts with
    namespaces := s1.hosts.namespaces.map (fun m => if m.nsid = n.nsid then { m with ms := ms, pi := pi } else m) } }
  if ses = 2 then (s2.nsErase n.nsid ⟨true, 3, n.nsid⟩).keyNew n.nsid else s2.answer (.status .success)

/-- FORMAT_NVM (R432): Secure Erase Settings above 010b are Invalid Field, and an unsupported format Invalid Format. -/
def State.format (s : State) (nsid ses ms pi : Nat) : State :=
  let l := s.nsNamed nsid
  if s.svcs.chrysalis then s.answer (.status .invalidOpcode)
  else if 2 < ses then s.answer (.status .invalidField)
  else if !formatOk ms pi then s.answer (.status .invalidFormat)
  else if l = [] then s.answer (.status .nsInvalid)
  else if l.any (fun n => s.nsBusy n.nsid || (ses == 2 && (s.nsSlots n.nsid).any s.keyFull)) || (ses == 2 && s.drbgDue) then s.wait
  else l.foldl (State.nsFormat ses ms pi) (s.answer .waiting)

/-- FORMAT_NVM (R432). -/
def execFormatNvm (fn : Fin 64) (nsid ses ms pi : Nat) (s : State) : Host.Outcome State Fault Refusal :=
  done s (fun s => s.admin fn.val (s.format nsid ses ms pi))

/-- NAMESPACE_RESIZE: bands are added at the end or taken from it, within R305; the assignment of the others stays (R292, R305,
R536). -/
def State.nsResize (s : State) (nsid : Nat) (bands free : List Band) : State :=
  if s.svcs.chrysalis then s.answer (.status .invalidOpcode)
  else
    match s.ns? nsid with
    | none => s.answer (.status .nsInvalid)
    | some n =>
      let k := min bands.length n.bands.length
      if bands = [] ∨ bands.take k ≠ n.bands.take k then s.answer (.status .invalidField)
      else
        match takeBands (bands ++ free) (s.hosts.freeBands ++ n.bands ++ n.free) with
        | none => s.answer (.status .nsInsufficient)
        | some rest =>
          let lens := n.lens.take k ++ (bands.drop k).map Band.cap
          if !bandsOk n.zoned lens free then s.answer (.status .nsInsufficient)
          else if s.nsBusy nsid then s.wait
          else
            let size := nsSize n.zoned lens
            let t := if size < n.size then s.dropBlocks n size else s
            (({ t with hosts := { t.hosts with freeBands := rest, namespaces := t.hosts.namespaces.map (fun m =>
                if m.nsid = nsid then { m with bands := bands, lens := lens, free := free, size := size } else m) } } : State).nsChanged).answer
              (.status .success)

/-- NAMESPACE_RESIZE (R305). -/
def execNamespaceResize (fn : Fin 64) (nsid : Nat) (bands free : List Band) (s : State) : Host.Outcome State Fault Refusal :=
  done s (fun s => s.admin fn.val (s.nsResize nsid bands free))

end Sys2Proof.Machine
end

