-- ==== Sys2Proof/Machine/Clocks.lean ====
section
/-! DEFINITION. The loss of the crystal (R37). -/

namespace Sys2Proof.Machine

/-- HOLDOVER: the crystal is lost. -/
def State.holdover (s : State) : Bool := s.on .dev F.DEV_CLK_STAT_HOLDOVER

/-- CRYSTAL_LOST: holdover begins; every lane drops its gates and closes its read gate, and a sector in progress is
incomplete (R37, steps 1 and 2, R127). -/
def State.xtalLost (s : State) : State :=
  if s.holdover then s.ignore
  else
    let s1 := s.setReg .dev Reg.DEV_CLK_STAT (F.DEV_CLK_STAT_HOLDOVER.put 0 1)
    lanes4.foldl (fun (t : State) n => if t.writing n then t.writeStop n wsReset else t.haltTiming n false) s1

/-- CRYSTAL_LOST (R37). -/
def execCrystalLost (s : State) : Host.Outcome State Fault Refusal := done s State.xtalLost

/-- CRYSTAL_RETURN: within 50 ms HOLDOVER clears and media dispatch resumes (R37, step 3); later the crystal is only seen to be
present, and the steps after 50 ms go on (DEDUCED, log entry 41). -/
def State.xtalReturn (s : State) : State :=
  if !s.holdover then s.ignore
  else if s.dev.lost50 then s.setF .dev F.DEV_CLK_STAT_XTAL_OK 1
  else s.setReg .dev Reg.DEV_CLK_STAT 3

/-- CRYSTAL_RETURN (R37). -/
def execCrystalReturn (s : State) : Host.Outcome State Fault Refusal := done s State.xtalReturn

/-- HOLDOVER_50MS: every lane unloads, the spindle brakes, a handover is abandoned, and with a vault the dirty granules are saved
as after a power loss, while without one their loss is recorded in the boot history (R37, step 4, R316, R462). -/
def State.holdover50 (s : State) : State :=
  if !s.holdover || s.dev.lost50 then s.ignore
  else
    let s1 := ({ s with dev := { s.dev with lost50 := true } } : State).abandonHandover
    let s2 := s1.unloadAll.spStop
    if s2.saveReady && s2.vault.saving.isNone then
      (({ s2 with cmd := { s2.cmd with stopped := true } } : State).beginSave).holdPool s.heldPool
    else s2.lossRecord

/-- HOLDOVER_50MS (R37). -/
def execHoldover50ms (s : State) : Host.Outcome State Fault Refusal := done s State.holdover50

/-- HOLDOVER_2S: THERM_TRIP_N goes low, and the device holds itself in reset (R37, step 5). -/
def State.holdover2 (s : State) : State :=
  if !s.holdover || !s.dev.lost50 then s.ignore
  else
    let t := s.coldReset 6 .xtalHeld
    t.setHouse { t.house with tripped := true }

/-- HOLDOVER_2S (R37). -/
def execHoldover2s (s : State) : Host.Outcome State Fault Refusal := done s State.holdover2

end Sys2Proof.Machine
end

