-- ==== Sys2Proof/Machine/Mgmt.lean ====
section
/-! DEFINITION. The management endpoint (R373 to R375): MCTP control, the NVMe-MI commands, the Basic Management Command and
tunnelled admin commands.  Response codes and layouts are NVMe-MI's (PRESUMED, log entry 20). -/

namespace Sys2Proof.Machine

/-- The management endpoint. -/
def State.mgmt (s : State) : Mgmt := s.hosts.mgmt
/-- The state with the management endpoint replaced. -/
def State.setMgmt (s : State) (m : Mgmt) : State := { s with hosts := { s.hosts with mgmt := m } }

/-- Response codes: success, internal error, invalid parameter (PRESUMED, log entry 20). -/
abbrev miSuccess : Nat := 0
abbrev miInternal : Nat := 2
abbrev miParameter : Nat := 4

/-- SET_ENDPOINT_ID: the null and the broadcast ID are refused (R373; PRESUMED, log entry 20). -/
def execSetEndpointId (eid : BitVec 8) (s : State) : Host.Outcome State Fault Refusal :=
  done s (fun s =>
    if eid = 0 ∨ eid = 0xFF then s.answer (.mi miInternal)
    else (s.setMgmt { s.mgmt with eid := eid.toNat }).answer (.mi miSuccess))

/-- SMBUS_CLOCK_LOW_TIMEOUT: SMB_DAT is released and the interface is reset (R373). -/
def execSmbusClockLowTimeout (s : State) : Host.Outcome State Fault Refusal :=
  done s (fun s => s.setMgmt { s.mgmt with busBusy := false })

/-- The controllers that exist, from an identifier on (R360). -/
def State.ctrlsFrom (s : State) (k : Nat) : List Nat := (List.range 64).filter (fun f => s.fnExists f && decide (k ≤ f + 1))

/-- READ_NVME_MI_DATA_STRUCTURE: subsystem information and the controller list are the device's; what the manual does not give of
the structures is free (R374). -/
def State.miStructure (s : State) (typ ctrl : Nat) : State :=
  if typ = 0 then s.spend.answer (.data (overlay (s.freeBytes 32) [(0, [BitVec.ofNat 8 (bit s.split), 1, 2])]))
  else if typ = 2 then
    let l := s.ctrlsFrom ctrl
    s.answer (.data (leBytes 2 l.length ++ l.flatMap (fun f => leBytes 2 (f + 1))))
  else if typ ≤ 4 then s.spend.answer (.data (s.freeBytes 32))
  else s.answer (.mi miParameter)

/-- READ_NVME_MI_DATA_STRUCTURE (R374). -/
def execMiDataStructure (typ ctrl : Nat) (s : State) : Host.Outcome State Fault Refusal :=
  done s (fun s => s.miStructure typ ctrl)

/-- Critical Warning as NVMe-MI shows it: inverted (PRESUMED, log entry 20). -/
def State.warnings (s : State) : Byte := BitVec.ofNat 8 (255 - s.hosts.crit % 256)

/-- NVM_SUBSYSTEM_HEALTH_STATUS_POLL: the composite health and its change flags; a poll that clears them releases SMB_ALERT_N
(R374). -/
def State.subsystemPoll (s : State) (clear : Bool) : State :=
  let m := s.mgmt
  let flags := bit (m.changes.testBit 2) + 2 * bit (m.changes.testBit 1) + 2 ^ 12 * bit (m.changes.testBit 0)
  let d := overlay (s.freeBytes 8) [(1, [s.warnings]), (4, leBytes 2 flags)]
  (if clear then s.setMgmt { m with alert := false, changes := 0 } else s).spend.answer (.data d)

/-- NVM_SUBSYSTEM_HEALTH_STATUS_POLL (R374). -/
def execMiSubsystemPoll (clear : Bool) (s : State) : Host.Outcome State Fault Refusal :=
  done s (fun s => s.subsystemPoll clear)

/-- The health of one controller: its identifier, its status, the spare and the warnings; the rest is free (PRESUMED, log
entry 20). -/
def State.ctrlHealth (s : State) (fn : Nat) : List Byte :=
  let c := s.ctrl fn
  overlay ((List.range 16).map (fun i => Config.freeByte s.freeCtr (16 * fn + i)))
    [(0, leBytes 2 (fn + 1)), (2, leBytes 2 (bit c.rdy + 2 * bit c.cfs + 4 * c.shn)), (7, [BitVec.ofNat 8 s.availSpare]),
     (8, [BitVec.ofNat 8 s.hosts.crit])]

/-- CONTROLLER_HEALTH_STATUS_POLL (R374). -/
def execMiControllerPoll (first : Nat) (s : State) : Host.Outcome State Fault Refusal :=
  done s (fun s => s.spend.answer (.data ((s.ctrlsFrom first).flatMap s.ctrlHealth)))

/-- The values that a configuration may take: the SMBus frequency, the change flags to clear, the transmission unit (R373;
PRESUMED, log entry 20). -/
def miConfigOk (id value : Nat) : Bool :=
  (id == 1 && decide (1 ≤ value ∧ value ≤ 3)) || id == 2 || (id == 3 && decide (64 ≤ value ∧ value ≤ 256))

/-- CONFIGURATION_SET (R374). -/
def State.configSet (s : State) (id value : Nat) : State :=
  if !miConfigOk id value then s.answer (.mi miParameter)
  else if id = 2 then
    let m := s.mgmt
    let keep := fun (k b : Nat) => if value.testBit b then 0 else 2 ^ k * bit (m.changes.testBit k)
    (s.setMgmt { m with changes := keep 0 12 + keep 1 1 + keep 2 0 }).answer (.mi miSuccess)
  else (s.setMgmt { s.mgmt with config := Sparse.insert s.mgmt.config id value }).answer (.mi miSuccess)

/-- CONFIGURATION_SET (R374). -/
def execMiConfigSet (id value : Nat) (s : State) : Host.Outcome State Fault Refusal := done s (fun s => s.configSet id value)

/-- CONFIGURATION_GET: 100 kHz and 64 bytes until set (R373, R374; PRESUMED, log entry 20). -/
def State.configGet (s : State) (id : Nat) : State :=
  if id = 0 ∨ 3 < id then s.answer (.mi miParameter)
  else
    let d := if id = 1 then 1 else if id = 3 then 64 else 0
    s.answer (.value (BitVec.ofNat 32 ((Sparse.find? s.mgmt.config id).getD d)))

/-- CONFIGURATION_GET (R374). -/
def execMiConfigGet (id : Nat) (s : State) : Host.Outcome State Fault Refusal := done s (fun s => s.configGet id)

/-! ### VPD (R374, R474) -/

/-- Where the VPD lies; its second copy is a block further on (R474). -/
abbrev vpdBase : Nat := 0xA0000

/-- VPD_READ (R374). -/
def execVpdRead (off n : Nat) (s : State) : Host.Outcome State Fault Refusal :=
  done s (fun s => if 256 < off + n then s.answer (.mi miParameter) else s.answer (.data (s.norBytes (vpdBase + off) n)))

/-- A copy of the VPD rewritten. -/
def State.vpdCopy (l : List Byte) (s : State) (k : Nat) : State :=
  (s.norErase (vpdBase + 65536 * k) 65536).norProgram (vpdBase + 65536 * k) l

/-- VPD_WRITE: programmed before its response; a lasting failure leaves the contents (R374, R503). -/
def State.vpdWrite (s : State) (off : Nat) (data : List Byte) (prog : Parity) : State :=
  if 256 < off + data.length then s.answer (.mi miParameter)
  else
    let r := s.norTry prog (fun t => [0, 1].foldl (State.vpdCopy (overlay (s.norBytes vpdBase 256) [(off, data)])) t)
    r.1.answer (.mi (if r.2 then miSuccess else miInternal))

/-- VPD_WRITE (R374). -/
def execVpdWrite (off : Nat) (data : List Byte) (prog : Parity) (s : State) : Host.Outcome State Fault Refusal :=
  done s (fun s => s.vpdWrite off data prog)

/-! ### Reset, the Basic Management Command, tunnelled commands -/

/-- NVME_MI_RESET: an NVM Subsystem Reset (R43, R374). -/
def execMiReset (s : State) : Host.Outcome State Fault Refusal :=
  done s (fun s => (s.warmReset .subsystem).answer (.mi miSuccess))

/-- BASIC_MANAGEMENT_COMMAND: a block of 6 bytes at code 0 and of 22 at code 8, of which the manual gives none but the health; a
read that the clock cuts short leaves SMB_DAT held (R373, R374; PRESUMED, log entry 20). -/
def State.basicRead (s : State) (code : Nat) (cut : Bool) : State :=
  if s.mgmt.busBusy then s.wait
  else if code ≠ 0 ∧ code ≠ 8 then s.ignore
  else if cut then s.setMgmt { s.mgmt with busBusy := true }
  else
    let n := if code = 0 then 6 else 22
    let l := [BitVec.ofNat 8 n] ++ s.freeBytes n
    s.spend.answer (.data (if code = 0 then overlay l [(2, [s.warnings])] else l))

/-- BASIC_MANAGEMENT_COMMAND (R374). -/
def execBasicManagement (code : Nat) (cut : Bool) (s : State) : Host.Outcome State Fault Refusal :=
  done s (fun s => s.basicRead code cut)

/-- The admin opcodes that are accepted over NVMe-MI: Identify, Get Log Page, Get and Set Features, Firmware Commit and Image
Download, Security Send and Receive (R375); in Chrysalis mode those of R497. -/
def State.tunnelOps (s : State) : List Nat :=
  if s.svcs.chrysalis then [0x06, 0x02, 0x10, 0x11] else [0x06, 0x02, 0x0A, 0x09, 0x10, 0x11, 0x81, 0x82]

/-- TUNNELLED_ADMIN_COMMAND: it takes the controller's reserved admin slot and goes to a pool in arrival order (R331, R375). -/
def State.tunnel (s : State) (cntlid i : Nat) (e : Sqe) : State :=
  let fn := cntlid - 1
  if cntlid = 0 ∨ !s.fnExists fn then s.answer (.mi miParameter)
  else if !s.tunnelOps.contains (sqeOp e) then s.answer (.status .invalidOpcode)
  else if decide (65536 ≤ i) || (s.slot? i).isSome then s.ignore
  else if !s.serves || !s.engineRuns || !s.keptFree fn then s.wait
  else
    let q : Sq := ⟨fn, tunnelSqid, 0, 1, false, false, 0, 0, 0, 0, 0, [], false⟩
    let t := s.setSlot i (freshSlot q e s.cmd.nextOrder true)
    (({ t with cmd := { t.cmd with nextOrder := t.cmd.nextOrder + 1 } } : State).handOver i 0 0).answer .waiting

/-- TUNNELLED_ADMIN_COMMAND (R375). -/
def execTunnelledAdmin (cntlid slot : Nat) (e : Sqe) (s : State) : Host.Outcome State Fault Refusal :=
  done s (fun s => s.tunnel cntlid slot e)

end Sys2Proof.Machine
end

