-- ==== Sys2Proof/Machine/Cores.lean ====
section
/-! DEFINITION. What the programmable engines do over the fabric: register writes without a row of their own (R7), and the
application cores' loads, fetches, stores and atomics through TCMs and caches (R381 to R400). -/

namespace Sys2Proof.Machine

/-! ### Register writes (R5, R7, R26 to R29) -/

/-- A register write by an engine; a register that has a row of its own acts as that row (DEDUCED, log entry 46). -/
def State.regWriteAll (s : State) (e : Engine) (u : UnitId) (off : Nat) (v : Word) : State :=
  match s.writeRule e u off with
  | some c => s.answer (.busError c)
  | none =>
    if u = .svc ∧ off = Reg.SVC_BOOT_CTL then
      let t := if F.SVC_BOOT_CTL_LOCK.get v = 1 then s.configLock else s
      if F.SVC_BOOT_CTL_SERVING.get v = 1 then t.serve else t
    else if u = .svc ∧ off = Reg.SVC_BOOT_REPLY then s.bootReply v
    else if u = .svc ∧ off = Reg.SVC_WDOG then s.kick v
    else if u = .med ∧ off = Reg.MED_HEAD_DATA then s.headWrite v
    else s.writeReg e u off v

/-- An access to the unit register space: the checks of R29, the parity of the transaction, which the target unit detects,
or, of read data on its way back, the engine's (R27), then the register. -/
def State.unitAccess (s : State) (e : Engine) (a n : Nat) (k : Access) (par : Parity) (back : Bool)
    (f : State → UnitId → Nat → State) : State :=
  match s.checkReg (.engine e) a n k with
  | some c => s.answer (.busError c)
  | none =>
    match unitAt a with
    | none => s.answer (.busError .noSuchUnit)
    | some (u, off) => s.parity (if back then engUnit e else u) par (fun t => f t u off)

/-- REGISTER_WRITE (R7): an access to the unit register space. -/
def execRegisterWrite (eng : Engine) (size addr : Nat) (v : Word) (par : Parity) (s : State) :
    Host.Outcome State Fault Refusal :=
  done s (fun s =>
    match s.checkMap (.engine eng) addr size .write with
    | some c => (s.answer (.busError c)).toRequester eng .store addr
    | none =>
      if s.region addr = some .unitSpace then
        (s.unitAccess eng addr size .write par false (fun t u off => t.regWriteAll eng u off v)).toRequester eng .store addr
      else s.ignore)

/-! ### The accesses of an application core (R384, R385) -/

/-! ### TCMs (R382) -/

/-- The core's own TCM at an address: whether it is the data TCM, and the offset. -/
def tcmAt (a : Nat) : Option (Bool × Nat) :=
  if 0x8000000 ≤ a ∧ a < 0x8010000 then some (false, a - 0x8000000)
  else if 0x8100000 ≤ a ∧ a < 0x8110000 then some (true, a - 0x8100000)
  else none

/-- The words of a TCM that `n` bytes from an offset on touch. -/
def tcmWords (c : Fin 16) (data : Bool) (off n : Nat) : List Nat :=
  (List.range ((off + n - 1) / 4 - off / 4 + 1)).map (fun i => tcmKey c.val data (off / 4 + i))

/-- A byte of a TCM. -/
def State.tcmByte (s : State) (c : Fin 16) (data : Bool) (o : Nat) : Byte :=
  (s.tcmWord (tcmKey c.val data (o / 4))).extractLsb' (8 * (o % 4)) 8

/-- A load or fetch from the core's TCM; `par` is the outcome at its first word (R382, R398). -/
def State.tcmLoad (s : State) (c : Fin 16) (k : CoreKind) (a n : Nat) (data : Bool) (off : Nat) (par : Parity) : State :=
  if 65536 < off + n then s.coreFault c (kindCode k) .unmapped a
  else
    let r := ((tcmWords c data off n).zipIdx).foldl
      (fun (x : State × Option BusCause) (w : Nat × Nat) =>
        match x.2 with
        | some _ => x
        | none => x.1.tcmRead (poolOf c) w.1 (if w.2 = 0 then par else .ok))
      (s, none)
    match r.2 with
    | some e => r.1.coreFault c (kindCode k) e a
    | none => r.1.answer (.data ((List.range n).map (fun i => s.tcmByte c data (off + i))))

/-- A byte stored in a TCM; the other bytes of a word in error stay in error (R398). -/
def State.tcmStoreByte (c : Fin 16) (data whole : Bool) (s : State) (e : Byte × Nat) : State :=
  let w := tcmKey c.val data (e.2 / 4)
  let bad := (s.pl (poolOf c)).tcmBad.contains w && !whole
  let old := (s.tcmWord w).toNat
  let sh := 2 ^ (8 * (e.2 % 4))
  let t := s.setTcm w (BitVec.ofNat 32 (old - (old / sh % 256) * sh + e.1.toNat * sh))
  if bad then t.setPl (poolOf c) { t.pl (poolOf c) with tcmBad := addOnce (t.pl (poolOf c)).tcmBad w } else t

/-- A store to the core's TCM (R382). -/
def State.tcmStore (s : State) (c : Fin 16) (k : CoreKind) (a : Nat) (l : List Byte) (data : Bool) (off : Nat) : State :=
  if 65536 < off + l.length then s.coreFault c (kindCode k) .unmapped a
  else
    let whole := off % 4 == 0 && l.length % 4 == 0
    (l.zipIdx off).foldl (State.tcmStoreByte c data whole) s

/-! ### Caches in use, and ways (R394, R400, R406, R407) -/

/-- The L1D and victim cache of a core are in use. -/
def State.l1dUsed (s : State) (c : Fin 16) : Bool := s.cf c F.POOL_Cc_STAT_D_ON == 1
/-- The L1I of a core is in use. -/
def State.l1iUsed (s : State) (c : Fin 16) : Bool := s.cf c F.POOL_Cc_STAT_I_ON == 1
/-- The L2 of a pool is in use. -/
def State.l2Used (s : State) (p : Fin 2) : Bool := s.on (.pool p) F.POOL_STAT_L2_ON

/-- The ways of a set of a cache. -/
def CacheId.ways : CacheId → Nat
  | .l1i _ => 4 | .l1d _ => 4 | .victim _ => 8 | .l2 _ => 16

/-- The pool that a cache belongs to, as a state. -/
def State.wayLocked (s : State) (k : CacheId) (set w : Nat) : Bool := (s.pl k.pool).locked.contains (k, (set, w))

/-- The way that takes a line: the one given, or the first that is not locked out; none where every way of the set is
(R400). -/
def State.wayFor (s : State) (k : CacheId) (set w : Nat) : Option Nat :=
  if !s.wayLocked k set w then some w else (List.range k.ways).find? (fun i => !s.wayLocked k set i)

/-- A line held by a cache that is being disabled is cleaned and invalidated ahead of the sweep (R406, R407). -/
def State.aheadOfSweep (s : State) (c : Fin 16) (l : Nat) : State :=
  let p := poolOf c
  let gone := fun (x : CLine) => x.line == l && ((x.inL1 c && !s.l1dUsed c) || (x.inPool p && !s.l2Used p))
  (s.cleanLines gone).dropLines gone

/-! ### Evictions (R394, R398) -/

/-- A line leaves a victim cache: dirty, it goes to the L2 that includes it, or to memory. -/
def State.victimOut (s : State) (x : CLine) : State :=
  let k := CacheId.l2 x.cache.pool.val
  let rest := s.dropLines (fun y => y.cache == x.cache && y.line == x.line)
  if !x.dirty then rest
  else if (s.cl? k x.line).isSome then
    rest.mapLines (fun y => if y.cache = k ∧ y.line = x.line then { y with dirty := true, bad := x.bad, data := x.data } else y)
  else (s.lineBack x).dropLines (fun y => y.cache == x.cache && y.line == x.line)

/-- A line leaves an L2, and by inclusion the L1D and victim caches of its pool. -/
def State.l2Out (s : State) (x : CLine) : State :=
  let own := fun (y : CLine) => y.inPool x.cache.pool && y.line == x.line
  (s.cleanLines own).dropLines own

/-- A line is placed in a way of a cache, clean. -/
def State.placeLine (s : State) (k : CacheId) (w l : Nat) (data : List Byte) : State :=
  { s with lines := s.lines ++ [⟨k, w, l, false, false, data⟩] }

/-- The pool's L2 takes a line, if it is in use and does not hold it (R394). -/
def State.fillL2 (s : State) (p : Fin 2) (l w : Nat) (data : List Byte) : State :=
  let k := CacheId.l2 p.val
  if !s.l2Used p || (s.cl? k l).isSome then s
  else
    match s.wayFor k (k.setOf l) w with
    | none => s
    | some i =>
      let t := match s.clAt? k (k.setOf l) i with | some x => s.l2Out x | none => s
      t.placeLine k i l data

/-- A core's L1D takes a line; the line that it replaces moves to the victim cache, whose line leaves (R394).  By inclusion, a
line that the L2 does not hold is not taken. -/
def State.fillL1d (s : State) (c : Fin 16) (l : Nat) (ways : Ways) (data : List Byte) : State :=
  let k := CacheId.l1d c.val
  if !s.l1dUsed c || (s.cl? (.l2 (poolOf c).val) l).isNone then s
  else
    match s.wayFor k (k.setOf l) ways.l1.val with
    | none => s
    | some i =>
      let t := match s.clAt? k (k.setOf l) i with
        | none => s
        | some x =>
          match s.wayFor (.victim c.val) 0 ways.victim.val with
          | none => s.victimOut x
          | some v =>
            let s1 := match s.clAt? (.victim c.val) 0 v with | some y => s.victimOut y | none => s
            s1.mapLines (fun y => if y.cache = x.cache ∧ y.line = x.line then { y with cache := .victim c.val, way := v } else y)
      t.placeLine k i l data

/-- A victim line moves back to the L1D, and the line that it replaces takes its place (R394). -/
def State.victimBack (s : State) (c : Fin 16) (x : CLine) (w : Nat) : State :=
  let k := CacheId.l1d c.val
  match s.wayFor k (k.setOf x.line) w with
  | none => s
  | some i =>
    let old := s.clAt? k (k.setOf x.line) i
    s.mapLines (fun y =>
      if y.cache = x.cache ∧ y.line = x.line then { y with cache := k, way := i }
      else if some y = old then { y with cache := .victim c.val, way := x.way }
      else y)

/-! ### Parity of a line that an access reads (R397, R398, R400) -/

/-- The way of a clean line that failed twice is locked out. -/
def State.lockOut (s : State) (x : CLine) : State :=
  let p := x.cache.pool
  let t := ((s.lasting (.pool p)).err (.pool p) pcLockout).dropLines (fun y => y.cache == x.cache && y.line == x.line)
  t.setPl p { t.pl p with locked := (t.pl p).locked ++ [(x.cache, (x.cache.setOf x.line, x.way))] }

/-- The bytes of a line as memory gives them now. -/
def State.lineNow (s : State) (l : Nat) : List Byte := s.bytes (64 * l) 64

/-- A cache keeps a copy of its own: an L1I, and any cache of a NOR line (R395, R396). -/
def CLine.copies (x : CLine) : Bool := x.cache.isI || inNor (64 * x.line)

/-- The parity of a line that is read: a clean line is fetched again, and its way locked out when that fails too; a dirty line
that fails its repeat stays bad (R397, R398). -/
def State.lineParity (s : State) (x : CLine) (par : Parity) : State × Option BusCause :=
  let p := x.cache.pool
  if x.dirty then
    match (if x.bad then Parity.lasting else par) with
    | .ok => (s, none)
    | .transient => (s.transient (.pool p), none)
    | .lasting =>
      (((s.mapLines (fun y => if y.cache = x.cache ∧ y.line = x.line then { y with bad := true } else y))).parDirty p,
        some .uncorrectable)
  else
    let again := fun (t : State) => if x.copies then
        t.mapLines (fun y => if y.cache = x.cache ∧ y.line = x.line then { y with data := t.lineNow x.line } else y)
      else t
    match par with
    | .ok => (s, none)
    | .transient => (again ((s.transient (.pool p)).count64 (.pool p) Reg.POOL_CNT_PCLEAN_LO), none)
    | .lasting => ((s.count64 (.pool p) Reg.POOL_CNT_PCLEAN_LO).lockOut x, none)

/-! ### Reads from memory -/

/-- A line read from another cache that holds its newest bytes, or from memory (R263, R283, R395, R398). -/
def State.lineFetch (s : State) (l : Nat) (par : Parity) (first again : LineRead) : State × Option BusCause :=
  match s.lines.find? (fun x => x.live && x.line == l) with
  | some x => s.lineParity x .ok
  | none =>
    let a := 64 * l
    if inNor a then
      s.parityAt .svc par
    else if dramBase ≤ a then
      let f := s.parityAt .buf par
      if f.2.isSome then f
      else
        let r := f.1.readLine ((a - dramBase) / 64) 0 none first again
        (if r.miss then (r.s.setBytes a (r.s.lineData ((a - dramBase) / 64) true)).spend else r.s, r.cause)
    else s.sramRead a 64 par

/-! ### Loads and fetches -/

/-- The line is where the core reads it: a hit with its parity, or a fill of the L2 and the L1 (R394 to R398). -/
def State.dataLine (s0 : State) (c : Fin 16) (l : Nat) (ways : Ways) (par : Parity) (first again : LineRead) :
    State × Option BusCause :=
  let s := s0.aheadOfSweep c l
  let p := poolOf c
  let copy := fun (t : State) => if inNor (64 * l) then t.lineNow l else []
  match s.cl? (.l1d c.val) l with
  | some x => s.lineParity x par
  | none =>
    match s.cl? (.victim c.val) l with
    | some x =>
      let r := s.lineParity x par
      (match r.1.cl? (.victim c.val) l with | some y => r.1.victimBack c y ways.l1.val | none => r.1, r.2)
    | none =>
      match s.cl? (.l2 p.val) l with
      | some x =>
        let r := s.lineParity x par
        if r.2.isSome then r else (r.1.fillL1d c l ways x.data, none)
      | none =>
        let r := s.lineFetch l par first again
        if r.2.isSome then r
        else ((r.1.fillL2 p l ways.l2.val (copy r.1)).fillL1d c l ways (copy r.1), none)

/-- The bytes of a data access: of a NOR line, the copy that the core's caches hold (R396). -/
def State.dataBytes (s : State) (c : Fin 16) (a n : Nat) : List Byte :=
  let own := fun (x : CLine) => x.line == a / 64 && (x.inL1 c || x.cache == .l2 (poolOf c).val)
  match (if inNor a then s.lines.find? own else none) with
  | some x => slice x.data (a % 64) n
  | none => s.bytes a n

/-- The line of an instruction fetch: a hit in the L1I, which may be stale (R395), or a fill of it from the L2 or memory. -/
def State.fetchLine (s0 : State) (c : Fin 16) (l : Nat) (ways : Ways) (par : Parity) (first again : LineRead) :
    State × Option BusCause :=
  let s := s0.aheadOfSweep c l
  let k := CacheId.l1i c.val
  match (if s.l1iUsed c then s.cl? k l else none) with
  | some x => s.lineParity x par
  | none =>
    let r := match s.cl? (.l2 (poolOf c).val) l with
      | some x => s.lineParity x par
      | none => s.lineFetch l par first again
    if r.2.isSome || !s.l1iUsed c then r
    else
      match r.1.wayFor k (k.setOf l) ways.l1.val with
      | none => r
      | some i =>
        let t := r.1.dropLines (fun y => y.cache == k && k.setOf y.line == k.setOf l && y.way == i)
        (t.placeLine k i l (t.lineNow l), none)

/-- The bytes of an instruction fetch: those of the core's L1I, or memory's. -/
def State.fetchBytes (s : State) (c : Fin 16) (a n : Nat) : List Byte :=
  match s.cl? (.l1i c.val) (a / 64) with
  | some x => slice x.data (a % 64) n
  | none => s.bytes a n

/-- A cache of a core's pool that its loads or fetches look in holds a line, so that no transaction leaves the pool. -/
def State.hitsCache (s : State) (c : Fin 16) (k : CoreKind) (l : Nat) : Bool :=
  s.lines.any (fun x => x.line == l && (x.cache == .l2 (poolOf c).val || (if k = .fetch then x.inL1i c else x.inL1 c)))

/-- The parity of read data on its way back to a core, which its pool detects (R27): the line is read where no cache of the
pool holds it. -/
def State.backParity (s : State) (c : Fin 16) (k : CoreKind) (a : Nat) (par : Parity) (back : Bool) : State × Option BusCause :=
  if back && !(s.region a != some .queueSram && s.hitsCache c k (a / 64)) then s.parityAt (.pool (poolOf c)) par else (s, none)

/-- An access of a core to memory that its caches serve stays within one line; the core splits a wider one (DEDUCED, log
entry 113). -/
def State.splits (s : State) (a n : Nat) : Bool :=
  decide (64 < a % 64 + n) && (match s.region a with
    | some .unitSpace => false
    | some .queueSram => false
    | none => false
    | _ => true)

/-- A load, fetch or atomic read of memory by a core (R384, R394 to R398). -/
def State.coreRead (s : State) (c : Fin 16) (k : CoreKind) (a n : Nat) (ways : Ways) (par : Parity) (back : Bool)
    (first again : LineRead) : State :=
  let acc : Access := if k = .fetch then .execute else .read
  match s.checkMap (.engine (.core c)) a n acc with
  | some b => s.coreFault c (kindCode k) b a
  | none =>
    match s.region a with
    | some .unitSpace => (s.unitAccess (.core c) a n .read par back (fun t u off => t.regRead (.core c) u off)).orFault c k a
    | g =>
      let f := s.backParity c k a par back
      let p : Parity := if back then .ok else par
      if s.splits a n then s.ignore
      else
        match f.2 with
        | some b => f.1.coreFault c (kindCode k) b a
        | none =>
          let r :=
            if g = some .queueSram then f.1.sramRead a n p
            else if k = .fetch then f.1.fetchLine c (a / 64) ways p first again
            else f.1.dataLine c (a / 64) ways p first again
          match r.2 with
          | some b => r.1.coreFault c (kindCode k) b a
          | none =>
            r.1.answer (.data
              (if g = some .queueSram then r.1.bytes a n else if k = .fetch then r.1.fetchBytes c a n else r.1.dataBytes c a n))

/-- CORE_LOAD (R384, R397): an access of a running core. -/
def execCoreLoad (c : Fin 16) (kind : CoreKind) (addr n : Nat) (ways : Ways) (par : WayParity)
    (first again : LineRead) (s : State) : Host.Outcome State Fault Refusal :=
  done s (fun s =>
    if !s.coreRuns c || kind == .store || n == 0 then s.ignore
    else
      match tcmAt addr with
      | some (d, off) => s.tcmLoad c kind addr n d off par.outcome
      | none => s.coreRead c kind addr n ways par.outcome par.back first again)

/-! ### Stores -/

/-- Bytes stored in a line that a cache of the core holds: memory has them, every other copy is gone, and the line is dirty
there, keeping what memory proper held (R395). -/
def State.dirtyStore (s : State) (x : CLine) (a : Nat) (l : List Byte) : State :=
  let old := match s.lines.find? (fun y => y.live && y.line == x.line) with
    | some y => y.data
    | none => s.lineNow x.line
  let incl := s.lines.filter (fun y => y.line == x.line && y.cache == .l2 x.cache.pool.val && y.cache != x.cache)
  let t := s.setBytes a l
  { t with lines := t.lines ++ incl.map (fun y => { y with dirty := false, bad := false, data := [] })
                      ++ [{ x with dirty := true, data := old, bad := x.bad && decide (l.length < 64) }] }

/-- A store past the caches, with the parity of its transaction, which the buffer detects (R27, R264, R407). -/
def State.plainStore (s : State) (a : Nat) (l : List Byte) (par : Parity) (first again : LineRead) : State × Option BusCause :=
  let f := s.parityAt .buf par
  if f.2.isSome then f
  else if dramBase ≤ a then
    (if l.length = 64 then (f.1.writeLine ((a - dramBase) / 64) l, none)
     else f.1.writePart ((a - dramBase) / 64) (a % 64) l 0 none first again)
  else ((f.1.setBytes a l).sramWritten a l.length, none)

/-- A cacheable store: the line is allocated first, where a cache is in use, and the store retires after the fill (R385,
R394). -/
def State.cacheStore (s : State) (c : Fin 16) (a : Nat) (l : List Byte) (ways : Ways) (par : Parity) (first again : LineRead) :
    State × Option BusCause :=
  if !s.l2Used (poolOf c) then (s.aheadOfSweep c (a / 64)).plainStore a l par first again
  else
    let r := s.dataLine c (a / 64) ways par first again
    if r.2.isSome then r
    else
      match r.1.lines.find? (fun x => x.line == a / 64 && x.cache == .l1d c.val) with
      | some x => (r.1.dirtyStore x a l, none)
      | none =>
        match r.1.cl? (.l2 (poolOf c).val) (a / 64) with
        | some x => (r.1.dirtyStore x a l, none)
        | none => r.1.plainStore a l .ok first again

/-- The store would change the translation table's pages (R266). -/
def State.storesBtt (s : State) (a : Nat) : Bool := decide (dramBase ≤ a) && s.inBtt ((a - dramBase) / 4096)

/-- A store or atomic to memory by a core; stores to registers and queue SRAM end with their response
(R266, R384, R385).  An atomic answers the bytes that it replaces. -/
def State.coreWrite (s : State) (c : Fin 16) (k : CoreKind) (a : Nat) (l : List Byte) (ways : Ways) (par : Parity)
    (first again : LineRead) : State :=
  match s.checkMap (.engine (.core c)) a l.length .write with
  | some b => s.coreFault c (kindCode k) b a
  | none =>
    match s.region a with
    | some .unitSpace =>
      (s.unitAccess (.core c) a l.length .write par false
        (fun t u off => t.regWriteAll (.core c) u off (BitVec.ofNat 32 (leNat l)))).orFault c k a
    | some .queueSram => s.parity .buf par (fun t => t.cmbStore a l) |>.orFault c k a
    | _ =>
      if s.splits a l.length then s.ignore
      else if s.storesBtt a then s.coreFault c (kindCode k) .accessDenied a
      else
        let r := s.cacheStore c a l ways par first again
        match r.2 with
        | some b => r.1.coreFault c (kindCode k) b a
        | none => if k = .atomic then r.1.answer (.data (s.bytes a l.length)) else r.1

/-- CORE_STORE (R385): an access of a running core. -/
def execCoreStore (c : Fin 16) (kind : CoreKind) (addr : Nat) (data : List Byte) (ways : Ways) (par : Parity)
    (first again : LineRead) (s : State) : Host.Outcome State Fault Refusal :=
  done s (fun s =>
    if !s.coreRuns c || kind == .load || kind == .fetch || data.isEmpty then s.ignore
    else
      match tcmAt addr with
      | some (d, off) => s.tcmStore c kind addr data d off
      | none => s.coreWrite c kind addr data ways par first again)

end Sys2Proof.Machine
end

