-- ==== Sys2Proof/Machine/Delivery.lean ====
section
/-! DEFINITION. The channel DMA port writes sector results to their granules (R81, R86, R87, R113, R119, R269). -/

namespace Sys2Proof.Machine

/-- The sync events of a delivered sector are counted and posted; one that deep decoding recovered counts as such, with or
without an event (R116, R119, R130, R131). -/
def State.deliverSync (s : State) (n : Fin 4) (x : SectResult) : State :=
  let s1 := if x.deep then s.countSync n 7 else s
  x.sync.foldl (fun t (e : Nat × Int × Nat) => (if e.1 = 7 then t else t.countSync n e.1).postSync n e.1 e.2.1 e.2.2 x.ref) s1

/-- The tracker of a dual leg's race under the result's epoch (R86). -/
def State.raceOf (s : State) (r : SectRef) : Option Tracker :=
  if r.dual then (s.tracker? r.slot).filter (fun t => t.epoch == r.epoch) else none

/-- How the DMA of a result ended: written in full, discarded as stale, discarded as a duplicate, or not delivered. -/
inductive DmaEnd where
  | written | stale | duplicate | failed
  deriving DecidableEq, Repr

/-- RESULT of the firmware command whose sector the DMA port has dealt with (R113, R132): recovered if written, stale under a
stale epoch, not recovered where the DMA failed, and recovered for a sector that the other leg has delivered (DEDUCED,
log entry 119). -/
def DmaEnd.result : DmaEnd → Nat
  | .written => 1 | .stale => 6 | .duplicate => 1 | .failed => 2

/-- The sector's handling ends with its DMA (R111 to R113, R120): the lane's own decoding settles and classes it, a delivery
by automatic recovery releases its slot, and a firmware command takes its result. -/
def State.resultEnd (s : State) (n : Fin 4) (x : SectResult) (e : DmaEnd) : State :=
  let ok := e == .written || e == .duplicate
  match x.path with
  | .otf => s.finish n x.ref ok
  | .auto k =>
    let c := s.ch n
    let pins := if e = .written then c.pins.filter (fun p => !(p.num == k && p.done))
      else c.pins.map (fun p => if p.num = k && p.done then { p with auto := false, done := false } else p)
    (s.setCh n { c with pins := pins }).finish n x.ref ok
  | .command k g => s.jobEnd n k e.result g

/-- The result is written in full, its bit in a race is set, and the race may be decided (R81, R86, R87). -/
def State.writeResult (s : State) (n : Fin 4) (x : SectResult) (page : Nat) (data : List Byte) : State :=
  let r := x.ref
  let s1 := (s.writeGranule r.handle page data).deliverSync n x
  let s2 := match s1.raceOf r with
    | some t => s1.setTracker { t with bits := addOnce t.bits r.idx }
    | none => s1
  (s2.resultEnd n x .written).raceCheck r.slot

/-- SECTOR_RESULT_DMA: the oldest result of lane `n`. A stale one is discarded (R81, R113); one whose bit the race holds is a
duplicate (R86; DEDUCED, log entry 42); a translation fault or a bus error leaves the sector not delivered (R269). -/
def State.sectorResult (s : State) (n : Fin 4) (data : List Byte) : State :=
  match (s.ch n).results with
  | [] => s.ignore
  | x :: rest =>
    let r := x.ref
    let s1 := s.setCh n { s.ch n with results := rest }
    if s.staleSector r then (s1.countSat (.lane n) Reg.LN_EPOCH_DISC).resultEnd n x .stale
    else if (match s.raceOf r with | some t => t.bits.contains r.idx | none => false) then
      (s1.countSat (.lane n) Reg.LN_DUAL_DUP).resultEnd n x .duplicate
    else
      match s1.translate r.handle true with
      | .stall => s.wait
      | .fault _ => s1.resultEnd n x .failed
      | .page p => s1.writeResult n x p data

/-- SECTOR_RESULT_DMA (R81). -/
def execSectorResultDma (n : Fin 4) (data : List Byte) (s : State) : Host.Outcome State Fault Refusal :=
  done s (fun s => s.when (s.live (.chn n)) (s.sectorResult n data))

end Sys2Proof.Machine
end

