-- ==== Sys2Proof/Machine/Dispatch.lean ====
section
/-! DEFINITION. One arm per command: a direct call of its meaning. -/

namespace Sys2Proof.Machine

def exec (i : Instr) (s : State) : Host.Outcome State Fault Refusal :=
  match i with
  | .registerWrite eng size addr v par => Sys2Proof.Machine.execRegisterWrite eng size addr v par s
  | .fabricTimeout w => Sys2Proof.Machine.execFabricTimeout w s
  | .lowWordRead eng u off => Sys2Proof.Machine.execLowWordRead eng u off s
  | .highWordRead eng u off => Sys2Proof.Machine.execHighWordRead eng u off s
  | .unitReset eng u en => Sys2Proof.Machine.execUnitReset eng u en s
  | .unitResetComplete u => Sys2Proof.Machine.execUnitResetComplete u s
  | .unitEnableChange eng u en => Sys2Proof.Machine.execUnitEnableChange eng u en s
  | .unitDrainEnd u => Sys2Proof.Machine.execUnitDrainEnd u s
  | .crystalLost => Sys2Proof.Machine.execCrystalLost s
  | .crystalReturn => Sys2Proof.Machine.execCrystalReturn s
  | .holdover50ms => Sys2Proof.Machine.execHoldover50ms s
  | .holdover2s => Sys2Proof.Machine.execHoldover2s s
  | .crystalRestart w => Sys2Proof.Machine.execCrystalRestart w s
  | .lnClkDivWrite eng n v => Sys2Proof.Machine.execLnClkDivWrite eng n v s
  | .clkDivTakeEffect n => Sys2Proof.Machine.execClkDivTakeEffect n s
  | .lclkSettled n => Sys2Proof.Machine.execLclkSettled n s
  | .pwronNFall => Sys2Proof.Machine.execPwronNFall s
  | .coldStart w => Sys2Proof.Machine.execColdStart w s
  | .warmReset c => Sys2Proof.Machine.execWarmReset c s
  | .warmStart w => Sys2Proof.Machine.execWarmStart w s
  | .nvmSubsystemReset fn => Sys2Proof.Machine.execNvmSubsystemReset fn s
  | .perstAssert p => Sys2Proof.Machine.execPerstAssert p s
  | .hotReset p => Sys2Proof.Machine.execHotReset p s
  | .linkDown p => Sys2Proof.Machine.execLinkDown p s
  | .controllerReset fn => Sys2Proof.Machine.execControllerReset fn s
  | .functionLevelReset fn => Sys2Proof.Machine.execFunctionLevelReset fn s
  | .vfEnableClear p num => Sys2Proof.Machine.execVfEnableClear p num s
  | .cmbZeroingDone p => Sys2Proof.Machine.execCmbZeroingDone p s
  | .pwrCapWrite eng v => Sys2Proof.Machine.execPwrCapWrite eng v s
  | .setPowerManagement fn ps => Sys2Proof.Machine.execSetPowerManagement fn ps s
  | .apstTransition ps => Sys2Proof.Machine.execApstTransition ps s
  | .dispatchFetch n => Sys2Proof.Machine.execDispatchFetch n s
  | .cancelReceive n slot => Sys2Proof.Machine.execCancelReceive n slot s
  | .cancelAck n slot => Sys2Proof.Machine.execCancelAck n slot s
  | .reportWrite n => Sys2Proof.Machine.execReportWrite n s
  | .sectorResultDma n data => Sys2Proof.Machine.execSectorResultDma n data s
  | .headStateWrite eng v => Sys2Proof.Machine.execHeadStateWrite eng v s
  | .defectDetect d => Sys2Proof.Machine.execDefectDetect d s
  | .defectEnd d => Sys2Proof.Machine.execDefectEnd d s
  | .timingLockLost n => Sys2Proof.Machine.execTimingLockLost n s
  | .sectorDecode n slot x res => Sys2Proof.Machine.execSectorDecode n slot x res s
  | .autoRecovery n slip res globals => Sys2Proof.Machine.execAutoRecovery n slip res globals s
  | .deepDecodeCmd eng n v => Sys2Proof.Machine.execDeepDecodeCmd eng n v s
  | .deepDecodeDone n slip res globals => Sys2Proof.Machine.execDeepDecodeDone n slip res globals s
  | .sbufRelease eng n v => Sys2Proof.Machine.execSbufRelease eng n v s
  | .pinTimeout n slot => Sys2Proof.Machine.execPinTimeout n slot s
  | .syncEventPop eng n => Sys2Proof.Machine.execSyncEventPop eng n s
  | .paFaultInput n low => Sys2Proof.Machine.execPaFaultInput n low s
  | .seqNop n => Sys2Proof.Machine.execSeqNop n s
  | .seqMov n => Sys2Proof.Machine.execSeqMov n s
  | .seqAdd n => Sys2Proof.Machine.execSeqAdd n s
  | .seqSub n => Sys2Proof.Machine.execSeqSub n s
  | .seqAnd n => Sys2Proof.Machine.execSeqAnd n s
  | .seqOr n => Sys2Proof.Machine.execSeqOr n s
  | .seqXor n => Sys2Proof.Machine.execSeqXor n s
  | .seqShl n => Sys2Proof.Machine.execSeqShl n s
  | .seqShr n => Sys2Proof.Machine.execSeqShr n s
  | .seqCmp n => Sys2Proof.Machine.execSeqCmp n s
  | .seqDec n => Sys2Proof.Machine.execSeqDec n s
  | .seqLd n bit => Sys2Proof.Machine.execSeqLd n bit s
  | .seqSt n => Sys2Proof.Machine.execSeqSt n s
  | .seqJump n par => Sys2Proof.Machine.execSeqJump n par s
  | .seqCall n par => Sys2Proof.Machine.execSeqCall n par s
  | .seqRet n par => Sys2Proof.Machine.execSeqRet n par s
  | .seqDispatch n par => Sys2Proof.Machine.execSeqDispatch n par s
  | .seqEnd n par => Sys2Proof.Machine.execSeqEnd n par s
  | .sectRd n bit => Sys2Proof.Machine.execSectRd n bit s
  | .sectWr n bit => Sys2Proof.Machine.execSectWr n bit s
  | .headSelect n => Sys2Proof.Machine.execHeadSelect n s
  | .seek n => Sys2Proof.Machine.execSeek n s
  | .seekHold n us => Sys2Proof.Machine.execSeekHold n us s
  | .astArm n => Sys2Proof.Machine.execAstArm n s
  | .astDisarm n => Sys2Proof.Machine.execAstDisarm n s
  | .eventPost n bit => Sys2Proof.Machine.execEventPost n bit s
  | .timingEventFire p => Sys2Proof.Machine.execTimingEventFire p s
  | .dataWindowStart n => Sys2Proof.Machine.execDataWindowStart n s
  | .waitConditionMet n => Sys2Proof.Machine.execWaitConditionMet n s
  | .waitTimeout n => Sys2Proof.Machine.execWaitTimeout n s
  | .waitCancel n par => Sys2Proof.Machine.execWaitCancel n par s
  | .wordWatchdog n => Sys2Proof.Machine.execWordWatchdog n s
  | .patchWordCommit eng n v => Sys2Proof.Machine.execPatchWordCommit eng n v s
  | .patchWordRead eng n => Sys2Proof.Machine.execPatchWordRead eng n s
  | .servoWedge n r us => Sys2Proof.Machine.execServoWedge n r us s
  | .vcmCurrentLoop x => Sys2Proof.Machine.execVcmCurrentLoop x s
  | .lockRegainTimeout n => Sys2Proof.Machine.execLockRegainTimeout n s
  | .seekTimeout c => Sys2Proof.Machine.execSeekTimeout c s
  | .coefWrite eng n v => Sys2Proof.Machine.execCoefWrite eng n v s
  | .servoLoad eng n => Sys2Proof.Machine.execServoLoad eng n s
  | .loadLockTimeout n => Sys2Proof.Machine.execLoadLockTimeout n s
  | .servoUnload eng n => Sys2Proof.Machine.execServoUnload eng n s
  | .unloadParked n => Sys2Proof.Machine.execUnloadParked n s
  | .unloadTimeout n => Sys2Proof.Machine.execUnloadTimeout n s
  | .hwRetract n t => Sys2Proof.Machine.execHwRetract n t s
  | .retractParked n => Sys2Proof.Machine.execRetractParked n s
  | .retractTimeout n => Sys2Proof.Machine.execRetractTimeout n s
  | .shockNAccept merged => Sys2Proof.Machine.execShockNAccept merged s
  | .shockNRelease => Sys2Proof.Machine.execShockNRelease s
  | .assistModelPeriod n g => Sys2Proof.Machine.execAssistModelPeriod n g s
  | .assistCheck n driven v crc => Sys2Proof.Machine.execAssistCheck n driven v crc s
  | .agIdleTimeout n => Sys2Proof.Machine.execAgIdleTimeout n s
  | .agOntimeTimeout n => Sys2Proof.Machine.execAgOntimeTimeout n s
  | .halyardFrame n r => Sys2Proof.Machine.execHalyardFrame n r s
  | .spindleStart eng => Sys2Proof.Machine.execSpindleStart eng s
  | .spindleStop eng => Sys2Proof.Machine.execSpindleStop eng s
  | .spindleCoast eng => Sys2Proof.Machine.execSpindleCoast eng s
  | .dirWrite eng v => Sys2Proof.Machine.execDirWrite eng v s
  | .dtcPeriod x => Sys2Proof.Machine.execDtcPeriod x s
  | .speedLoop speed => Sys2Proof.Machine.execSpeedLoop speed s
  | .measureEnd x => Sys2Proof.Machine.execMeasureEnd x s
  | .holdEnd => Sys2Proof.Machine.execHoldEnd s
  | .alignDone peaks => Sys2Proof.Machine.execAlignDone peaks s
  | .spinupTimeout => Sys2Proof.Machine.execSpinupTimeout s
  | .brakeTimeout => Sys2Proof.Machine.execBrakeTimeout s
  | .lossOfSync => Sys2Proof.Machine.execLossOfSync s
  | .losClearTimer => Sys2Proof.Machine.execLosClearTimer s
  | .chopFeedbackTimeout => Sys2Proof.Machine.execChopFeedbackTimeout s
  | .chopRiseTest vbus => Sys2Proof.Machine.execChopRiseTest vbus s
  | .revolution period => Sys2Proof.Machine.execRevolution period s
  | .spindleFaultClear eng v => Sys2Proof.Machine.execSpindleFaultClear eng v s
  | .spFltAccept => Sys2Proof.Machine.execSpFltAccept s
  | .pfailAccept => Sys2Proof.Machine.execPfailAccept s
  | .pageProgramFail grans again => Sys2Proof.Machine.execPageProgramFail grans again s
  | .saveComplete saved high => Sys2Proof.Machine.execSaveComplete saved high s
  | .pfailHigh10ms => Sys2Proof.Machine.execPfailHigh10ms s
  | .pfailClr eng v active => Sys2Proof.Machine.execPfailClr eng v active s
  | .vaultAreaErase eng v => Sys2Proof.Machine.execVaultAreaErase eng v s
  | .areaEraseDone mib => Sys2Proof.Machine.execAreaEraseDone mib s
  | .dramRead src line first again => Sys2Proof.Machine.execDramRead src line first again s
  | .dramLineWrite src line data => Sys2Proof.Machine.execDramLineWrite src line data s
  | .dramPartialWrite src line off data first again => Sys2Proof.Machine.execDramPartialWrite src line off data first again s
  | .writeBack first again => Sys2Proof.Machine.execWriteBack first again s
  | .ddrTrained ok => Sys2Proof.Machine.execDdrTrained ok s
  | .zeroFillDone => Sys2Proof.Machine.execZeroFillDone s
  | .patrolScrubRead behind first again => Sys2Proof.Machine.execPatrolScrubRead behind first again s
  | .rangeGo eng v => Sys2Proof.Machine.execRangeGo eng v s
  | .rangePassDone found => Sys2Proof.Machine.execRangePassDone found s
  | .bttWrite eng v => Sys2Proof.Machine.execBttWrite eng v s
  | .dmaGranule m ctx par => Sys2Proof.Machine.execDmaGranule m ctx par s
  | .fltResume eng ctx => Sys2Proof.Machine.execFltResume eng ctx s
  | .fltAbort eng ctx => Sys2Proof.Machine.execFltAbort eng ctx s
  | .fltTmo ctx => Sys2Proof.Machine.execFltTmo ctx s
  | .fltPop eng => Sys2Proof.Machine.execFltPop eng s
  | .bufEvPop eng => Sys2Proof.Machine.execBufEvPop eng s
  | .retireGo eng v => Sys2Proof.Machine.execRetireGo eng v s
  | .retireDone found => Sys2Proof.Machine.execRetireDone found s
  | .injectArm eng v => Sys2Proof.Machine.execInjectArm eng v s
  | .sqDoorbell fn sqid tail => Sys2Proof.Machine.execSqDoorbell fn sqid tail s
  | .sqFetchComplete fn sqid entries => Sys2Proof.Machine.execSqFetchComplete fn sqid entries s
  | .queueSramEntryWrite fn sqid idx e => Sys2Proof.Machine.execQueueSramEntryWrite fn sqid idx e s
  | .commandTake fn sqid slot par => Sys2Proof.Machine.execCommandTake fn sqid slot par s
  | .lockGrant slot => Sys2Proof.Machine.execLockGrant slot s
  | .workEntryWrite => Sys2Proof.Machine.execWorkEntryWrite s
  | .completionRingEntry p => Sys2Proof.Machine.execCompletionRingEntry p s
  | .slotFree slot => Sys2Proof.Machine.execSlotFree slot s
  | .extentInsert slot => Sys2Proof.Machine.execExtentInsert slot s
  | .hfreeWrite eng v => Sys2Proof.Machine.execHfreeWrite eng v s
  | .extDataCommit eng v => Sys2Proof.Machine.execExtDataCommit eng v s
  | .abortAttempt eng v => Sys2Proof.Machine.execAbortAttempt eng v s
  | .dmaPreempt ch ctx => Sys2Proof.Machine.execDmaPreempt ch ctx s
  | .dmaResume ch ctx => Sys2Proof.Machine.execDmaResume ch ctx s
  | .nvmRead slot r => Sys2Proof.Machine.execNvmRead slot r s
  | .nvmWrite slot => Sys2Proof.Machine.execNvmWrite slot s
  | .nvmFlush slot => Sys2Proof.Machine.execNvmFlush slot s
  | .nvmWriteUncorrectable slot => Sys2Proof.Machine.execNvmWriteUncorrectable slot s
  | .nvmCompare slot => Sys2Proof.Machine.execNvmCompare slot s
  | .nvmWriteZeroes slot => Sys2Proof.Machine.execNvmWriteZeroes slot s
  | .nvmDatasetManagement slot => Sys2Proof.Machine.execNvmDatasetManagement slot s
  | .zoneAppend slot => Sys2Proof.Machine.execZoneAppend slot s
  | .orderedBarrier slot => Sys2Proof.Machine.execOrderedBarrier slot s
  | .zoneReset slot => Sys2Proof.Machine.execZoneReset slot s
  | .zoneFinish slot => Sys2Proof.Machine.execZoneFinish slot s
  | .zoneOpen slot => Sys2Proof.Machine.execZoneOpen slot s
  | .zoneClose slot => Sys2Proof.Machine.execZoneClose slot s
  | .zoneOffline slot => Sys2Proof.Machine.execZoneOffline slot s
  | .zoneReceive slot => Sys2Proof.Machine.execZoneReceive slot s
  | .abortCommand eng slot => Sys2Proof.Machine.execAbortCommand eng slot s
  | .fwDownload fn offset data => Sys2Proof.Machine.execFwDownload fn offset data s
  | .fwCommitWrite fn slot prog => Sys2Proof.Machine.execFwCommitWrite fn slot prog s
  | .fwCommitWriteNext fn slot prog => Sys2Proof.Machine.execFwCommitWriteNext fn slot prog s
  | .fwCommitNext fn slot prog => Sys2Proof.Machine.execFwCommitNext fn slot prog s
  | .fwCommitHandover fn cid slot prog => Sys2Proof.Machine.execFwCommitHandover fn cid slot prog s
  | .fwReplyWrite eng v => Sys2Proof.Machine.execFwReplyWrite eng v s
  | .handoverReadyTimeout => Sys2Proof.Machine.execHandoverReadyTimeout s
  | .heartbeatSample => Sys2Proof.Machine.execHeartbeatSample s
  | .probationEnd prog => Sys2Proof.Machine.execProbationEnd prog s
  | .setQueueOrdering fn cdw11 => Sys2Proof.Machine.execSetQueueOrdering fn cdw11 s
  | .getQueueOrdering fn cdw11 => Sys2Proof.Machine.execGetQueueOrdering fn cdw11 s
  | .setTwinReadPolicy nsid x => Sys2Proof.Machine.execSetTwinReadPolicy nsid x s
  | .getTwinReadPolicy nsid => Sys2Proof.Machine.execGetTwinReadPolicy nsid s
  | .getThermalThrottleReport => Sys2Proof.Machine.execGetThermalThrottleReport s
  | .setThermalThrottleReport cdw11 => Sys2Proof.Machine.execSetThermalThrottleReport cdw11 s
  | .setVolatileWriteCache fn on => Sys2Proof.Machine.execSetVolatileWriteCache fn on s
  | .setNumberOfQueues fn nsq ncq => Sys2Proof.Machine.execSetNumberOfQueues fn nsq ncq s
  | .setInterruptCoalescing fn cdw11 => Sys2Proof.Machine.execSetInterruptCoalescing fn cdw11 s
  | .createIoCompletionQueue fn cqid size pc vector => Sys2Proof.Machine.execCreateIoCompletionQueue fn cqid size pc vector s
  | .identify fn cns nsid => Sys2Proof.Machine.execIdentify fn cns nsid s
  | .errorInformationLog fn rae off n => Sys2Proof.Machine.execErrorInformationLog fn rae off n s
  | .smartHealthLog fn rae off n => Sys2Proof.Machine.execSmartHealthLog fn rae off n s
  | .firmwareSlotLog fn rae off n => Sys2Proof.Machine.execFirmwareSlotLog fn rae off n s
  | .settingsResetLog fn rae off n => Sys2Proof.Machine.execSettingsResetLog fn rae off n s
  | .bootHistoryLog fn rae off n => Sys2Proof.Machine.execBootHistoryLog fn rae off n s
  | .thermalShutdownLog fn rae off n => Sys2Proof.Machine.execThermalShutdownLog fn rae off n s
  | .twinHeadHealthLog fn rae off n => Sys2Proof.Machine.execTwinHeadHealthLog fn rae off n s
  | .asyncEventRequest fn cid => Sys2Proof.Machine.execAsyncEventRequest fn cid s
  | .securitySend fn p secp spsp nsid desc buf data => Sys2Proof.Machine.execSecuritySend fn p secp spsp nsid desc buf data s
  | .securityReceive fn p secp spsp nsid desc buf len => Sys2Proof.Machine.execSecurityReceive fn p secp spsp nsid desc buf len s
  | .formatNvm fn nsid ses ms pi => Sys2Proof.Machine.execFormatNvm fn nsid ses ms pi s
  | .namespaceCreate fn spec => Sys2Proof.Machine.execNamespaceCreate fn spec s
  | .namespaceDelete fn nsid => Sys2Proof.Machine.execNamespaceDelete fn nsid s
  | .hostReadFail p fn what again => Sys2Proof.Machine.execHostReadFail p fn what again s
  | .poisonedWriteReceived p => Sys2Proof.Machine.execPoisonedWriteReceived p s
  | .cmbRead p off n par found => Sys2Proof.Machine.execCmbRead p off n par found s
  | .cmbWrite p off data => Sys2Proof.Machine.execCmbWrite p off data s
  | .anaStateWrite eng p v => Sys2Proof.Machine.execAnaStateWrite eng p v s
  | .setEndpointId eid => Sys2Proof.Machine.execSetEndpointId eid s
  | .smbusClockLowTimeout => Sys2Proof.Machine.execSmbusClockLowTimeout s
  | .miDataStructure typ ctrl => Sys2Proof.Machine.execMiDataStructure typ ctrl s
  | .miSubsystemPoll clear => Sys2Proof.Machine.execMiSubsystemPoll clear s
  | .miControllerPoll first => Sys2Proof.Machine.execMiControllerPoll first s
  | .miConfigSet id value => Sys2Proof.Machine.execMiConfigSet id value s
  | .miConfigGet id => Sys2Proof.Machine.execMiConfigGet id s
  | .vpdRead off n => Sys2Proof.Machine.execVpdRead off n s
  | .vpdWrite off data prog => Sys2Proof.Machine.execVpdWrite off data prog s
  | .miReset => Sys2Proof.Machine.execMiReset s
  | .basicManagement code cut => Sys2Proof.Machine.execBasicManagement code cut s
  | .tunnelledAdmin cntlid slot e => Sys2Proof.Machine.execTunnelledAdmin cntlid slot e s
  | .getVersion => Sys2Proof.Machine.execGetVersion s
  | .getCapabilities => Sys2Proof.Machine.execGetCapabilities s
  | .negotiateAlgorithms => Sys2Proof.Machine.execNegotiateAlgorithms s
  | .getDigests => Sys2Proof.Machine.execGetDigests s
  | .getCertificate => Sys2Proof.Machine.execGetCertificate s
  | .spdmChallenge => Sys2Proof.Machine.execSpdmChallenge s
  | .getMeasurements index => Sys2Proof.Machine.execGetMeasurements index s
  | .keyExchange => Sys2Proof.Machine.execKeyExchange s
  | .spdmFinish id => Sys2Proof.Machine.execSpdmFinish id s
  | .spdmHeartbeat id => Sys2Proof.Machine.execSpdmHeartbeat id s
  | .keyUpdate id => Sys2Proof.Machine.execKeyUpdate id s
  | .endSession id => Sys2Proof.Machine.execEndSession id s
  | .heartbeatExpiry id => Sys2Proof.Machine.execHeartbeatExpiry id s
  | .coreLoad c kind addr n ways par first again => Sys2Proof.Machine.execCoreLoad c kind addr n ways par first again s
  | .coreStore c kind addr data ways par first again => Sys2Proof.Machine.execCoreStore c kind addr data ways par first again s
  | .evictionWriteback p line cause => Sys2Proof.Machine.execEvictionWriteback p line cause s
  | .smallEngineBusError eng what => Sys2Proof.Machine.execSmallEngineBusError eng what s
  | .dcC c addr => Sys2Proof.Machine.execDcC c addr s
  | .dcCi c addr => Sys2Proof.Machine.execDcCi c addr s
  | .dcI c high addr => Sys2Proof.Machine.execDcI c high addr s
  | .icI c addr => Sys2Proof.Machine.execIcI c addr s
  | .dcCsw c level set way => Sys2Proof.Machine.execDcCsw c level set way s
  | .dcCisw c level set way => Sys2Proof.Machine.execDcCisw c level set way s
  | .dcIsw c high level set way => Sys2Proof.Machine.execDcIsw c high level set way s
  | .icIall c => Sys2Proof.Machine.execIcIall c s
  | .msync c => Sys2Proof.Machine.execMsync c s
  | .isync c => Sys2Proof.Machine.execIsync c s
  | .poolCmoClean eng p => Sys2Proof.Machine.execPoolCmoClean eng p s
  | .poolCmoCleanInvalidate eng p => Sys2Proof.Machine.execPoolCmoCleanInvalidate eng p s
  | .poolCmoInvalidate eng p => Sys2Proof.Machine.execPoolCmoInvalidate eng p s
  | .poolCmoDone p => Sys2Proof.Machine.execPoolCmoDone p s
  | .l1dDisable eng c => Sys2Proof.Machine.execL1dDisable eng c s
  | .l1dSweepDone c => Sys2Proof.Machine.execL1dSweepDone c s
  | .l1iDisable eng c => Sys2Proof.Machine.execL1iDisable eng c s
  | .l2Disable eng p => Sys2Proof.Machine.execL2Disable eng p s
  | .l2SweepDone p => Sys2Proof.Machine.execL2SweepDone p s
  | .coreHold eng c => Sys2Proof.Machine.execCoreHold eng c s
  | .coreHeld c => Sys2Proof.Machine.execCoreHeld c s
  | .coreRelease eng c => Sys2Proof.Machine.execCoreRelease eng c s
  | .tcmPortAccess eng c write par => Sys2Proof.Machine.execTcmPortAccess eng c write par s
  | .mbxReserve eng p => Sys2Proof.Machine.execMbxReserve eng p s
  | .mbxLoWrite eng p v => Sys2Proof.Machine.execMbxLoWrite eng p v s
  | .mbxPush eng p v => Sys2Proof.Machine.execMbxPush eng p v s
  | .mbxPop eng p => Sys2Proof.Machine.execMbxPop eng p s
  | .mbxReservationTimeout eng p => Sys2Proof.Machine.execMbxReservationTimeout eng p s
  | .irqDeliver src => Sys2Proof.Machine.execIrqDeliver src s
  | .irqClaim eng c => Sys2Proof.Machine.execIrqClaim eng c s
  | .irqEoi eng c v => Sys2Proof.Machine.execIrqEoi eng c v s
  | .irqRouteWrite eng v => Sys2Proof.Machine.execIrqRouteWrite eng v s
  | .irqSwi eng v => Sys2Proof.Machine.execIrqSwi eng v s
  | .irqSwc eng v => Sys2Proof.Machine.execIrqSwc eng v s
  | .hzlRequestPush eng c v => Sys2Proof.Machine.execHzlRequestPush eng c v s
  | .hzlVerify => Sys2Proof.Machine.execHzlVerify s
  | .hzlPatch => Sys2Proof.Machine.execHzlPatch s
  | .hzlMeasure => Sys2Proof.Machine.execHzlMeasure s
  | .svnAdvance => Sys2Proof.Machine.execSvnAdvance s
  | .hzlSpdm m => Sys2Proof.Machine.execHzlSpdm m s
  | .rsvWait => Sys2Proof.Machine.execRsvWait s
  | .rsvDone => Sys2Proof.Machine.execRsvDone s
  | .rsvLoad => Sys2Proof.Machine.execRsvLoad s
  | .secSend m => Sys2Proof.Machine.execSecSend m s
  | .secRecv => Sys2Proof.Machine.execSecRecv s
  | .nsKey => Sys2Proof.Machine.execNsKey s
  | .nsErase => Sys2Proof.Machine.execNsErase s
  | .hzlSeal => Sys2Proof.Machine.execHzlSeal s
  | .hzlUnseal => Sys2Proof.Machine.execHzlUnseal s
  | .enclaveMbxRetry p => Sys2Proof.Machine.execEnclaveMbxRetry p s
  | .rsvDoneTimeout => Sys2Proof.Machine.execRsvDoneTimeout s
  | .selfTestDone failed => Sys2Proof.Machine.execSelfTestDone failed s
  | .entropyHealthFail => Sys2Proof.Machine.execEntropyHealthFail s
  | .drbgReseed => Sys2Proof.Machine.execDrbgReseed s
  | .cipherMessageStart id what prio par => Sys2Proof.Machine.execCipherMessageStart id what prio par s
  | .cipherMessageEnd e => Sys2Proof.Machine.execCipherMessageEnd e s
  | .keyUnbind k => Sys2Proof.Machine.execKeyUnbind k s
  | .serving eng => Sys2Proof.Machine.execServing eng s
  | .bootReplyWrite eng v => Sys2Proof.Machine.execBootReplyWrite eng v s
  | .configLock eng => Sys2Proof.Machine.execConfigLock eng s
  | .watchdogKick eng v => Sys2Proof.Machine.execWatchdogKick eng v s
  | .startWatchdogExpiry => Sys2Proof.Machine.execStartWatchdogExpiry s
  | .kickTimeout => Sys2Proof.Machine.execKickTimeout s
  | .channelSample c first again nominal nominalAgain => Sys2Proof.Machine.execChannelSample c first again nominal nominalAgain s
  | .roundEnd => Sys2Proof.Machine.execRoundEnd s
  | .roundTimeout => Sys2Proof.Machine.execRoundTimeout s
  | .fastPathSample t => Sys2Proof.Machine.execFastPathSample t s
  | .shutdownFinal late => Sys2Proof.Machine.execShutdownFinal late s
  | .thermalHoldEnd w => Sys2Proof.Machine.execThermalHoldEnd w s
  | .dieThrottleFrame begins => Sys2Proof.Machine.execDieThrottleFrame begins s
  | .mediaThrottleFrame begins => Sys2Proof.Machine.execMediaThrottleFrame begins s
  | .thrStatRead eng => Sys2Proof.Machine.execThrStatRead eng s
  | .recSlotArm eng v => Sys2Proof.Machine.execRecSlotArm eng v s
  | .gpioLevelChange pin level merged => Sys2Proof.Machine.execGpioLevelChange pin level merged s
  | .inputStuckMask pin => Sys2Proof.Machine.execInputStuckMask pin s
  | .maskReleaseCheck pin inactive => Sys2Proof.Machine.execMaskReleaseCheck pin inactive s
  | .eventRecordProgram pon cls sev unit data prog => Sys2Proof.Machine.execEventRecordProgram pon cls sev unit data prog s
  | .linkUp p width speed reversed inverted => Sys2Proof.Machine.execLinkUp p width speed reversed inverted s
  | .perstDeassert p => Sys2Proof.Machine.execPerstDeassert p s
  | .controllerEnable fn asqs acqs cmb wrr => Sys2Proof.Machine.execControllerEnable fn asqs acqs cmb wrr s
  | .shutdownNotification fn => Sys2Proof.Machine.execShutdownNotification fn s
  | .vfEnableSet p num => Sys2Proof.Machine.execVfEnableSet p num s
  | .createIoSubmissionQueue fn sqid cqid size pc prio cmb => Sys2Proof.Machine.execCreateIoSubmissionQueue fn sqid cqid size pc prio cmb s
  | .deleteIoSubmissionQueue fn sqid => Sys2Proof.Machine.execDeleteIoSubmissionQueue fn sqid s
  | .namespaceResize fn nsid bands free => Sys2Proof.Machine.execNamespaceResize fn nsid bands free s
  | .aggregationTimeExpiry fn vector => Sys2Proof.Machine.execAggregationTimeExpiry fn vector s
  | .spFltNRelease => Sys2Proof.Machine.execSpFltNRelease s
  | .loadRcoilMeasured n mohm => Sys2Proof.Machine.execLoadRcoilMeasured n mohm s
  | .headsOffRamp n => Sys2Proof.Machine.execHeadsOffRamp n s
  | .unplannedPowerLoss => Sys2Proof.Machine.execUnplannedPowerLoss s

end Sys2Proof.Machine
end

