-- ==== Sys2Proof/Machine/Step.lean ====
section
/-! DEFINITION. One step: the command at the front of the queue is taken and has its effect; with an empty queue the block
idles, but for firmware's own work. -/

namespace Sys2Proof.Machine

/-- One step; with an empty queue the block idles, but for what firmware does while no command comes (DESIGN CHOICE, log entry
3). -/
def step (s : State) : Host.Outcome State Fault Refusal :=
  match s.pending with
  | [] => leave s s.background
  | i :: rest => exec i { s with pending := rest }

/-- The state with the command that a word spells at the front of its queue. -/
def State.withFetchWord (s : State) (nbits w : Nat) : State :=
  match decodeTableWord nbits w with
  | none => s
  | some i => { s with pending := i :: s.pending }

end Sys2Proof.Machine
end

