-- ==== Sys2Proof/Safety.lean ====
section
/-! DEFINITION. The terms that claims use: a device that runs, a command that completes with an effect, and what a command
leaves unchanged. -/

namespace Sys2Proof.Machine

/-- The device runs: it is not held in reset and not without power (R43, R56). -/
abbrev State.running (s : State) : Prop := s.dev.power = .on

/-- Command `i` in state `s` answers a next state of which `P` holds. -/
def Completes (i : Instr) (s : State) (P : State → Prop) : Prop := ∃ t, exec i s = .next t ∧ P t

/-- `t` differs from `s` in registers and the answer only. -/
def OnlyRegs (s t : State) : Prop := t = { s with regs := t.regs, resp := t.resp }

/-- `t` differs from `s` in the answer only. -/
def OnlyAnswer (s t : State) : Prop := t = { s with resp := t.resp }

/-- Every register but those listed reads in `t` as in `s`. -/
def RegsBut (s t : State) (l : List (UnitId × Nat)) : Prop :=
  ∀ (v : UnitId) (o : Nat), o < 0x1000 → (v, o) ∉ l → t.reg v o = s.reg v o

/-- Between `s` and `t`, an access of engine `e` ended with bus error `b` and changed nothing else, but that an application core whose
fault record is free takes an access fault with that cause (R29, R384). -/
def Denied (e : Engine) (b : BusCause) (s t : State) : Prop :=
  t.resp = .busError b ∧ ((∀ c, e ≠ .core c) → OnlyAnswer s t)
    ∧ (∀ c, e = .core c → s.cf c F.POOL_Cc_FLT_VALID = 0 →
        t.cf c F.POOL_Cc_FLT_VALID = 1 ∧ t.cf c F.POOL_Cc_FLT_CAUSE = b.code ∧ OnlyRegs s t)

/-- The registers that a change of MODE with the write inhibit it sets may write, where no write is in progress (R187). -/
abbrev modeRegs (n : Fin 4) : List (UnitId × Nat) :=
  [(.srv n, Reg.SRV_STAT), (.srv n, Reg.SRV_CNT_WINH_LO), (.srv n, Reg.SRV_CNT_WINH_LO + 4)]

/-- Those registers, the voltage codes and the lane's mailbox slot. -/
abbrev driveRegs (n : Fin 4) : List (UnitId × Nat) :=
  modeRegs n ++ [(.srv n, Reg.SRV_VCM_OUT), (.piv (pivotOf n), mbxOff n)]

/-- Every byte of memory reads in `t` as in `s`. -/
def SameMemory (s t : State) : Prop := ∀ a, t.byte a = s.byte a

/-- The low words that remove a FIFO entry when they are read (R4); they have rows of their own. -/
def popsFifo : UnitId → Nat → Bool
  | .chn _, o => o == Reg.CHN_SEV_LO
  | .buf, o => o == Reg.BUF_EV_LO
  | .pool _, o => o == Reg.POOL_MBX_POP_LO
  | _, _ => false

/-- The leaves whose enable and reset this statement follows: a channel, a track sequencer, an assist controller, the buffer and
the command engine. -/
def plainLeaf : UnitId → Bool
  | .chn _ => true | .tsq _ => true | .ast _ => true | .buf => true | .cmd => true
  | _ => false

/-- The word in progress of sequencer `n` is due to execute the ALU operation with code `op` (R138). -/
def State.aluDue (s : State) (n : Fin 4) (op : Nat) : Bool :=
  s.seqRuns n && !(s.sq n).aluDone && CsWord.aluOp (s.sq n).word == op

/-- Between `s` and `t`, sequencer `n` has executed the word's ALU operation: result `r`, written to DST if `wr`, and the flags
(R136, R138).  Nothing else has changed. -/
def AluLeaves (n : Fin 4) (s t : State) (r : Word) (wr : Bool) (z nf c : Bool) : Prop :=
  (∀ i, i < 16 → (t.sq n).greg i = if wr = true ∧ i = CsWord.dst (s.sq n).word ∧ i ≠ 0 then r else (s.sq n).greg i)
    ∧ (t.sq n).alu = r ∧ (t.sq n).aluDone = true ∧ (t.sq n).z = z ∧ (t.sq n).nf = nf ∧ (t.sq n).c = c
    ∧ (∀ m, m ≠ n → t.sq m = s.sq m) ∧ t = { s with seqs := t.seqs, resp := .none }

/-- The end of a retract parks the stack: the unit neither drains nor is OFF, and no load that failed waits for it (R182, R195). -/
def State.retractParks (s : State) (n : Fin 4) : Bool :=
  s.unitState (.srv n) != stDrain && s.unitState (.srv n) != stOff && !((s.sv n).retryLoad && s.unitState (.srv n) == stIdle)

/-- The sequence action with code `c` of the word in progress is due: the word has issued and waited (R141, R144). -/
def State.seqDue (s : State) (n : Fin 4) (c : Nat) : Bool :=
  s.seqRuns n && (s.sq n).issued && (!CsWord.waitEn (s.sq n).word || (s.sq n).waitDone) && CsWord.seq (s.sq n).word == c

/-- The stored word at the fetch address `addr`, after vector substitution, has good parity (R140, R162). -/
abbrev State.fetchGood (s : State) (n : Fin 4) (addr : Nat) : Prop :=
  (s.storeWord n (s.vectored n (addr % 4096))).2 = oddParity (s.storeWord n (s.vectored n (addr % 4096))).1

/-- In `t`, sequencer `n` has fetched the word at `addr` of `s`: a new word begins, and the registers and flags stay (R136, R140). -/
def Fetched (n : Fin 4) (s t : State) (addr : Nat) : Prop :=
  (t.sq n).pc = s.vectored n (addr % 4096) ∧ ((t.sq n).word, (t.sq n).par) = s.storeWord n (s.vectored n (addr % 4096))
    ∧ (t.sq n).running = true ∧ (t.sq n).aluDone = false ∧ (t.sq n).evtDone = false ∧ (t.sq n).cmdDone = false
    ∧ (t.sq n).waitDone = false ∧ (t.sq n).g = (s.sq n).g ∧ (t.sq n).flags = (s.sq n).flags ∧ (t.tim n).starts = 0

/-- The lane command with code `c` of the word in progress is due (R155). -/
def State.cmdDue (s : State) (n : Fin 4) (c : Nat) : Bool :=
  s.seqRuns n && (s.sq n).aluDone && !(s.sq n).cmdDone && CsWord.cmd (s.sq n).word == c

/-- The window of the event that the word in progress posts (R149). -/
def State.postWin (s : State) (n : Fin 4) : Nat := (s.tim n).windowNow + CsWord.evtWin (s.sq n).word

/-- The event of the word in progress finds room, lies in its window, comes after the last event queued, and is not late (R149, R152). -/
def State.postFits (s : State) (n : Fin 4) (bitNow : Nat) : Bool :=
  decide ((s.tim n).evq < 8) && decide ((s.sq n).evtPos < (s.tim n).winbits)
    && !(s.tim n).lastEvent.any (fun x => before (s.postWin n) (s.sq n).evtPos x.win x.pos)
    && decide (128 ≤ (s.tim n).remaining bitNow (s.postWin n) (s.sq n).evtPos)

/-- The zone action `act` of the Zone Management Send `x` in slot `i` is due: a pool holds it, nothing earlier holds it back, and it
names one zone of namespace `n` (R297). -/
abbrev State.zoneDue (s : State) (i act : Nat) (x : Slot) (n : Namespace) : Prop :=
  s.running ∧ s.live .cmd = true ∧ s.slot? i = some x ∧ x.st = .work ∧ sqeOp x.sqe = opZoneSend ∧ sqeZsa x.sqe = act ∧ x.io = true
    ∧ x.acted = false ∧ s.actionWaits x = false ∧ s.ns? (sqeNsid x.sqe) = some n ∧ sqeBits x.sqe 13 8 1 = 0

/-- The zone that a slot's command names. -/
def State.zoneNamed (s : State) (x : Slot) : Zone := s.zone (sqeNsid x.sqe) (sqeLba x.sqe / zoneSize)

/-- Between `s` and `t`, the dirty lines that `p` picks have been written back, and with `inval` all that it picks have left the
caches; memory reads as before (R402, R405). -/
def LinesCleaned (s t : State) (p : CLine → Bool) (inval : Bool) : Prop :=
  (∀ x ∈ t.lines, p x = true → x.live = false) ∧ (inval = true → ∀ x ∈ t.lines, p x = false) ∧ SameMemory s t

/-- The cache lines that `p` does not pick are in `t` as in `s`. -/
def LinesKept (s t : State) (p : CLine → Bool) : Prop := ∀ x ∈ s.lines, p x = false → x ∈ t.lines

/-- The registers of every unit but the buffer read in `t` as in `s`; beside them, lines and what the buffer holds may differ. -/
def OnlyLines (s t : State) : Prop :=
  (∀ (v : UnitId) (o : Nat), v ≠ .buf → o < 0x1000 → t.reg v o = s.reg v o)
    ∧ t = { s with lines := t.lines, regs := t.regs, buf := t.buf, resp := t.resp }

/-- The request at descriptor `a` of channel `c` is the enclave's next, of operation `op`, permitted and good; its descriptor lies below
DRAM (R417, R420, R422). -/
abbrev State.reqDue (s : State) (op c a : Nat) : Prop :=
  s.running ∧ s.inReset .hzl = false ∧ s.nextReq = some (c, a) ∧ s.on .hzl F.HZL_STAT_ST_FAIL = false
    ∧ s.on .hzl F.HZL_STAT_READY = true ∧ s.dOp a = op ∧ hoKnown op = true ∧ hoChannel op c = true ∧ s.dOk a = true
    ∧ s.inWork a 64 = true

/-- The request at descriptor `a` of channel `c` has ended with status `st` and `n` bytes of output: STATUS with DONE, OUT_LEN, and its
entry gone (R420, R423). -/
def ReqEnds (s t : State) (c a st n : Nat) : Prop :=
  t.word (a + 4) = BitVec.ofNat 32 (2 ^ 31 + st) ∧ t.word (a + 36) = BitVec.ofNat 32 n
    ∧ t.rqs c = (s.rqs c).filter (fun r => r.addr != a)

/-- A request without output has ended; memory outside its STATUS and OUT_LEN is as it was. -/
def ReqDone (s t : State) (c a st : Nat) : Prop :=
  ReqEnds s t c a st 0
    ∧ (∀ b, (b < a + 4 ∨ a + 8 ≤ b) → (b < a + 36 ∨ a + 40 ≤ b) → t.byte b = s.byte b)

/-- Where the output of the request at descriptor `a` goes: below DRAM, and clear of the descriptor. -/
abbrev State.outClear (s : State) (a n : Nat) : Prop :=
  s.dDst a ≠ 0 ∧ n ≤ s.dDstLen a ∧ s.dDst a + n ≤ dramBase ∧ (s.dDst a + n ≤ a ∨ a + 64 ≤ s.dDst a)

end Sys2Proof.Machine

namespace Sys2Proof

/-- The commands that act on a device that does not run: a start, a restart, the loss of the rails, and those of the hardware
retract path (R43, R48, R56, R518). -/
def Instr.actsHeld : Instr → Bool
  | .coldStart _ => true
  | .thermalHoldEnd _ => true
  | .crystalRestart _ => true
  | .pwronNFall => true
  | .unplannedPowerLoss => true
  | .vcmCurrentLoop _ => true
  | .retractParked _ => true
  | .retractTimeout _ => true
  | _ => false

end Sys2Proof

namespace Sys2Proof.Machine

/-- What waits is a tail of what waited in `r`; and from a device that does not run, with none of those commands among the ones that wait,
the state is that of `r` but for the queue and the answer. -/
def QueueAndHold (r s : State) : Prop :=
  (∃ n, s.pending = r.pending.drop n)
    ∧ (¬r.running → (∀ c ∈ r.pending, c.actsHeld = false) → s = { r with pending := s.pending, resp := s.resp })

end Sys2Proof.Machine
end

