-- ==== Sys2Proof/Certificates/Slice0/Obligations.lean ====
section
/-! DEFINITION. The statements about the model, for the provers. -/

open Sys2Proof Sys2Proof.Machine

/-- A step takes the command at the front of the queue: it is that command's effect on the state with the queue's rest. With
an empty queue the block idles, but for the firmware work that needs no command, of a device that serves (the model's choice,
DESIGN CHOICE, log entry 3). No word of the opcode table spells a command, since the table gives its rows no bits. -/
def Obligations.StepRunsFrontCommand : Prop :=
  (∀ (s : State) (c : Instr) (rest : List Instr), step { s with pending := c :: rest } = exec c { s with pending := rest })
    ∧ (∀ (s : State) (c : Instr) (rest : List Instr), s.pending = c :: rest → step s = exec c { s with pending := rest })
    ∧ (∀ (s : State), s.pending = [] → (s.running ∧ s.on .svc F.SVC_BOOT_CTL_SERVING = true ∧ s.live (.pool 0) = true → step s = leave s (s.mediaLook true))
        ∧ (¬(s.running ∧ s.on .svc F.SVC_BOOT_CTL_SERVING = true ∧ s.live (.pool 0) = true) → step s = .next s))
    ∧ ∀ (s : State) (nbits w : Nat), decodeTableWord nbits w = none ∧ s.withFetchWord nbits w = s

/-- Every command answers a next state, never a fault or a refusal, and touches no other command that waits, so a step takes
exactly the front command from the queue; while the device is held in reset or without power, every command but a start, a
restart, the loss of the rails and those of a hardware retract in progress leaves everything as it was (R43, R48, R52, R56,
R518). -/
def Obligations.EveryCommandAnswers : Prop :=
  (∀ (i : Instr) (s : State), ∃ t, exec i s = .next t ∧ t.pending = s.pending)
    ∧ (∀ (s : State), ∃ t, step s = .next t ∧ t.pending = s.pending.tail)
    ∧ ∀ (i : Instr) (s : State), ¬s.running → i.actsHeld = false → exec i s = .next { s with resp := .ignored }

/-- An invariant of every step: commands leave the queue first in, first out, and from a device that is held or without power,
while no start, loss of the rails or command of the retract path waits, nothing changes but the queue and the answer (R43,
R48, R56, R518). -/
def Obligations.QueueAndHoldKept : Prop :=
  ∀ (r s t : State), QueueAndHold r s → step s = .next t → QueueAndHold r t

/-- The invariant holds where one starts: at reset with any queue, and at any other state. -/
def Obligations.QueueAndHoldAtStart : Prop :=
  (∀ q, QueueAndHold { State.reset with pending := q } { State.reset with pending := q }) ∧ ∀ s, QueueAndHold s s

/-- Memory keeps its canonical form and reads as written: a stored byte reads back and every other byte as before (R31), the
NOR is erased to FFH and programmed by clearing bits alone (R451, R474), a line that is lost gives back what memory held
(R402), and only the NOR window survives a cold reset (R43, R283). -/
def Obligations.MemoryForm : Prop :=
  Memory.wf State.reset.mem = true
    ∧ (∀ (s : State) (a b : Nat) (v : Byte), (s.setByte a v).byte b = if b = a then v else s.byte b)
    ∧ (∀ (s : State) (a b : Nat) (l : List Byte), (s.setBytes a l).byte b = if a ≤ b ∧ b < a + l.length then l.getD (b - a) 0 else s.byte b)
    ∧ (∀ (s : State) (off n b : Nat), (s.norErase off n).byte b
        = if norBase + off ≤ b ∧ b < norBase + off + n then memReset b else s.byte b)
    ∧ (∀ (s : State) (off b : Nat) (l : List Byte), (s.norProgram off l).byte b
        = if norBase + off ≤ b ∧ b < norBase + off + l.length then l.getD (b - (norBase + off)) 0 &&& s.byte b else s.byte b)
    ∧ (∀ (s : State) (c b : Nat) (p : Power), (s.coldReset c p).byte b = if inNor b = true then s.byte b else memReset b)
    ∧ (∀ (s : State), Memory.wf s.mem = true →
        (∀ a v, Memory.wf (s.setByte a v).mem = true) ∧ (∀ a l, Memory.wf (s.setBytes a l).mem = true)
          ∧ (∀ a n, Memory.wf (s.zeroBytes a n).mem = true) ∧ (∀ off n, Memory.wf (s.norErase off n).mem = true)
          ∧ (∀ off l, Memory.wf (s.norProgram off l).mem = true) ∧ (∀ x, Memory.wf (s.lineLost x).mem = true)
          ∧ (∀ c p, Memory.wf (s.coldReset c p).mem = true))
    ∧ (∀ (s t : State), Memory.wf s.mem = true → Memory.wf t.mem = true → SameMemory s t → t.mem = s.mem)

/-- The registers' access codes act on each bit of a write as R7 gives: a read-write bit takes the value, one that the
configuration lock guards takes it while the lock is clear, a W1C bit clears and a W1S bit sets where a 1 is written, and
every other bit stays. -/
def Obligations.AccessCodes : Prop :=
  ∀ (r : RegDef) (lock : Bool) (old v : Word) (i : Nat), i < 32 →
    (r.write lock old v).getLsbD i
      = if r.w1s.getLsbD i = true ∧ v.getLsbD i = true then true
        else if r.w1c.getLsbD i = true ∧ v.getLsbD i = true then false
        else if r.rw.getLsbD i = true ∨ (r.rwl.getLsbD i = true ∧ lock = false) then v.getLsbD i else old.getLsbD i

/-- UNIT_ID of every unit, in every state and to every reader: DEFREV 01H, GROUP, DEPTH and UNUM (R10). -/
def Obligations.UnitIdentification : Prop :=
  (∀ (s : State) (e : Engine) (u : UnitId),
    s.view e u Reg.UNIT_ID = BitVec.ofNat 32 (0x01 * 2 ^ 24 + bit u.isGroup * 2 ^ 20 + u.above.length * 2 ^ 16 + u.num) ∧ u.num < 2 ^ 12)
    ∧ unitAt 0x20402000 = some (.chn 2, 0) ∧ (UnitId.chn 2).num = 0x402
    ∧ ∀ (s : State) (e : Engine), s.view e (.chn 2) Reg.UNIT_ID = 0x01040402

/-- The tree of units: 35 of them, each found at the address that its number gives, below its parent and among its parent's
children (R6, R10, R23). -/
def Obligations.UnitTree : Prop :=
  units.length = 35 ∧ units.Nodup ∧ (∀ u : UnitId, u ∈ units)
    ∧ (∀ (u : UnitId) (o : Nat), o < 0x1000 → unitAt (0x20000000 + 0x1000 * u.num + o) = some (u, o))
    ∧ (∀ u v : UnitId, u.num = v.num → u = v)
    ∧ (∀ u v : UnitId, v ∈ u.children ↔ v.parent = some u)
    ∧ (∀ u : UnitId, u.isGroup = !u.children.isEmpty)
    ∧ (∀ u v : UnitId, u.parent = some v → u.above = v :: v.above)

/-- The divider's range and what a write outside it leaves (R41). -/
def Obligations.DividerRange : Prop :=
  ∀ (s : State) (eng : Engine) (n : Fin 4) (v : Word), s.running → s.inReset (.lane n) = false → v.toNat < 2 ^ 23 →
    Completes (.lnClkDivWrite eng n v) s (fun t =>
      (0x000CCCCD ≤ v.toNat ∧ v.toNat ≤ 0x00400000 →
          (t.lane n).divPending = some v ∧ t.reg (.lane n) Reg.LN_CLK_DIV = v ∧ t.f (.lane n) F.LN_CLK_STAT_RANGE_ERR = 0)
        ∧ (¬(0x000CCCCD ≤ v.toNat ∧ v.toNat ≤ 0x00400000) →
          t.f (.lane n) F.LN_CLK_STAT_RANGE_ERR = 1 ∧ t.reg (.lane n) Reg.LN_CLK_DIV = s.reg (.lane n) Reg.LN_CLK_DIV
            ∧ (t.lane n).divInForce = (s.lane n).divInForce ∧ (t.lane n).divPending = (s.lane n).divPending))

/-- DEV_RST_CAUSE after each reset has exactly one bit set, that of the cause: PWRON_N, the service core, the start watchdog,
NVM Subsystem Reset, a thermal hold, a loss of the crystal (R52). -/
def Obligations.ResetCause : Prop :=
  (∀ (s : State) (c : WarmCause), (s.warmReset c).reg .dev Reg.DEV_RST_CAUSE
      = match c with | .service => 0x4 | .watchdog => 0x8 | .subsystem => 0x10)
    ∧ (∀ (s : State) (p : Power) (cause : Nat), cause < 7 →
        (s.coldReset cause p).reg .dev Reg.DEV_RST_CAUSE = BitVec.ofNat 32 (2 ^ cause))
    ∧ (∀ (s : State), s.running → Completes (.warmReset .service) s (fun t => t.reg .dev Reg.DEV_RST_CAUSE = 0x4)
        ∧ Completes (.warmReset .watchdog) s (fun t => t.reg .dev Reg.DEV_RST_CAUSE = 0x8))
    ∧ (∀ (s : State), Completes .pwronNFall s (fun t => t.reg .dev Reg.DEV_RST_CAUSE = 0x1))
    ∧ (∀ (s : State) (fn : Fin 64), s.running → s.fnExists fn.val = true → s.linkIsUp (s.fnPort fn.val) = true →
        Completes (.nvmSubsystemReset fn) s (fun t => t.reg .dev Reg.DEV_RST_CAUSE = 0x10))
    ∧ (∀ (s : State), s.running → s.holdover = true → s.dev.lost50 = true →
        Completes .holdover2s s (fun t => t.reg .dev Reg.DEV_RST_CAUSE = 0x40))
    ∧ (∀ (s : State) (w : StartWorld), w.nor = .ok → 64 ≤ w.norMib → w.boot ≠ 1 → w.boot ≠ 2 → s.bootRec.next < 4 →
        s.dev.power = .thermHeld → Completes (.thermalHoldEnd w) s (fun t => t.reg .dev Reg.DEV_RST_CAUSE = 0x20))
    ∧ State.reset.reg .dev Reg.DEV_RST_CAUSE = 0x1

/-- REGISTER_WRITE, LOW_WORD_READ, HIGH_WORD_READ and FABRIC_TIMEOUT complete: a write of a lane's register acts on its fields as
their access codes say (R7) and changes nothing else; a read of a low word answers it and loads the reader's latch (R4); a read
of a high word answers the latched word; a timeout is answered as the cause "timeout" and sets TIMEOUT of the requesting unit
(R28), an application core takes it as a precise access fault (R29), and the command whose transfer it was completes with Internal
Error (R534). -/
def Obligations.FabricAccesses : Prop :=
  (∀ (s : State) (eng : Engine) (n : Fin 4) (off : Nat) (v : Word) (r : RegDef), s.running → s.inReset (.lane n) = false →
    0x44 ≤ off → off % 4 = 0 → regDef (.lane n) off = some r →
    Completes (.registerWrite eng 4 (0x20300000 + 0x1000 * n.val + off) v .ok) s (fun t =>
      t.reg (.lane n) off = r.write s.locked (s.reg (.lane n) off) v ∧ t.resp = .none
        ∧ RegsBut s t [(.lane n, off)] ∧ OnlyRegs s t))
  ∧ (∀ (s : State) (eng : Engine) (u : UnitId) (off : Nat), s.running → s.inReset u = false → isLow u off = true →
    popsFifo u off = false → s.readRule eng u off = none →
    Completes (.lowWordRead eng u off) s (fun t =>
      t.resp = .value (s.view eng u off) ∧ t.latch? u eng = some (off, s.view eng u (off + 4))
        ∧ t = { s with dev := t.dev, resp := t.resp }))
  ∧ (∀ (s : State) (eng : Engine) (u : UnitId) (off : Nat) (hi : Word), s.running → s.inReset u = false →
    isHigh u off = true → s.readRule eng u off = none → s.latch? u eng = some (off - 4, hi) →
    Completes (.highWordRead eng u off) s (fun t => t.resp = .value hi ∧ OnlyAnswer s t))
  ∧ (∀ (s : State) (u : UnitId), s.running → s.inReset u = false →
    Completes (.fabricTimeout (.unit u)) s (fun t =>
      t.resp = .busError .timeout
        ∧ t.reg u Reg.UNIT_ERR = s.reg u Reg.UNIT_ERR ||| (if u.isGroup then 0x1000 else 0x10)
        ∧ RegsBut s t [(u, Reg.UNIT_ERR)] ∧ OnlyRegs s t))
  ∧ (∀ (s : State) (c : Fin 16) (k : CoreKind) (a : Nat), s.running → s.coreRuns c = true →
    s.cf c F.POOL_Cc_FLT_VALID = 0 →
    Completes (.fabricTimeout (.core c k a)) s (fun t =>
      t.resp = .busError .timeout ∧ t.cf c F.POOL_Cc_FLT_VALID = 1 ∧ t.cf c F.POOL_Cc_FLT_CAUSE = 8
        ∧ t.cf c F.POOL_Cc_FLT_KIND = kindCode k
        ∧ t.reg (.pool (poolOf c)) (Reg.POOL_Cc_FLT_ADDR_LO + coreOff c) = BitVec.ofNat 32 a
        ∧ t.reg (.pool (poolOf c)) Reg.UNIT_ERR = s.reg (.pool (poolOf c)) Reg.UNIT_ERR ||| 0x10 ∧ OnlyRegs s t))
  ∧ (∀ (s : State) (i : Nat) (x : Slot), s.running → s.slot? i = some x →
    exec (.fabricTimeout (.command i)) s
      = leave s ((({ s with resp := .none } : State).err .cmd eTimeout).complete i .internalError))

/-- UNIT_RESET, UNIT_RESET_COMPLETE, UNIT_ENABLE_CHANGE and UNIT_DRAIN_END complete: a write of RST puts a unit below the
device group into RESET (R15); a channel, an assist controller, the buffer, the command engine or a sequencer that leaves
RESET with its effective enable at 0 enters OFF, and the buffer takes the DRAM out of self-refresh (R15, R45); an enable that
falls leaves such a unit OFF without outstanding work and in DRAIN with it, and one that rises takes it from OFF to IDLE, a
sequencer with the fetch of its first word (R14, R161); a drain ends in OFF. -/
def Obligations.ResetAndEnable : Prop :=
  (∀ (s : State) (eng : Engine) (u : UnitId) (en : Bool), s.running → s.inReset u = false → u ≠ .dev →
    resetRefused eng u = none →
    Completes (.unitReset eng u en) s (fun t => t.unitState u = stReset))
  ∧ (∀ (s : State) (u : UnitId), s.running → plainLeaf u = true → s.inReset u = true → s.effEn u = false →
    Completes (.unitResetComplete u) s (fun t =>
      t.unitState u = stOff ∧ (u = .buf → t.f .buf F.BUF_STAT_SELF_REF = 0)
        ∧ RegsBut s t [(u, Reg.UNIT_STAT), (.buf, Reg.BUF_STAT)] ∧ OnlyRegs s t))
  ∧ (∀ (s : State) (eng : Engine) (u : UnitId), s.running → plainLeaf u = true → s.unitState u = stIdle → s.effEn u = true →
    Completes (.unitEnableChange eng u false) s (fun t =>
      t.unitState u = (if s.unitWork u then stDrain else stOff) ∧ t.en u = false
        ∧ RegsBut s t [(u, Reg.UNIT_STAT), (u, Reg.UNIT_CTL)] ∧ OnlyRegs s t))
  ∧ (∀ (s : State) (eng : Engine) (u : UnitId), s.running → plainLeaf u = true → (∀ n, u ≠ .tsq n) → s.unitState u = stOff →
    u.above.all (fun v => s.en v) = true → s.en u = false →
    Completes (.unitEnableChange eng u true) s (fun t =>
      t.unitState u = stIdle ∧ t.en u = true ∧ RegsBut s t [(u, Reg.UNIT_STAT), (u, Reg.UNIT_CTL)] ∧ OnlyRegs s t))
  ∧ (∀ (s : State) (eng : Engine) (n : Fin 4), s.running → s.unitState (.tsq n) = stOff →
    (UnitId.tsq n).above.all (fun v => s.en v) = true → s.en (.tsq n) = false → (s.sq n).running = false → s.fetchGood n 0 →
    Completes (.unitEnableChange eng (.tsq n) true) s (fun t =>
      t.unitState (.tsq n) = stIdle ∧ t.en (.tsq n) = true ∧ Fetched n s t 0))
  ∧ (∀ (s : State) (u : UnitId), s.running → plainLeaf u = true → s.unitState u = stDrain → s.unitWork u = false →
    s.effEn u = false →
    Completes (.unitDrainEnd u) s (fun t => t.unitState u = stOff ∧ RegsBut s t [(u, Reg.UNIT_STAT)] ∧ OnlyRegs s t))

/-- The commands of the crystal and of a lane's clock complete.  A lost crystal sets HOLDOVER alone in DEV_CLK_STAT, closes
every gate of every lane, ends each write with stop cause 111b and lets no lane start a media dispatch; one that returns
within 50 ms ends the holdover; 50 ms without it abandon a handover, unload every lane in closed loop, stop the spindle as
STOP does, and begin the save of the vault, or without a vault record the loss of dirty data in the boot history; 2 s lead to
the hold in reset (R37).  A write of LN_CLK_DIV inside its range is pending until it takes effect, and one outside sets
RANGE_ERR and changes no divider (R41, R42); the divider takes effect with every gate inactive, and waits otherwise, and
SETTLED clears with it; SETTLED sets again when the clock has settled, with AST_LEAD, and the gates follow (R42, R153, R209).
-/
def Obligations.ClockCommands : Prop :=
  (∀ (s : State), s.running → s.holdover = false →
    Completes .crystalLost s (fun t => t.reg .dev Reg.DEV_CLK_STAT = 4 ∧ t.mediaHeld = true
      ∧ (∀ n, (t.lane n).wgate = false ∧ t.agate n = false ∧ (t.tim n).caps = [] ∧ (t.tim n).timed = [] ∧ (t.tim n).wreq = false
          ∧ (s.writing n = true → t.f (.chn n) F.CHN_WR_STAT_CAUSE = 7))
      ∧ t = { s with regs := t.regs, lanes := t.lanes, chns := t.chns, timing := t.timing, asts := t.asts, cmd := t.cmd, resp := .none }))
  ∧ (∀ (s : State), s.running → s.holdover = true → s.dev.lost50 = false →
    Completes .crystalReturn s (fun t =>
      t.reg .dev Reg.DEV_CLK_STAT = 3 ∧ RegsBut s t [(.dev, Reg.DEV_CLK_STAT)] ∧ OnlyRegs s t))
  ∧ (∀ (s : State), s.running → s.holdover = true → s.dev.lost50 = true →
    Completes .crystalReturn s (fun t =>
      t.f .dev F.DEV_CLK_STAT_XTAL_OK = 1 ∧ t.holdover = true ∧ RegsBut s t [(.dev, Reg.DEV_CLK_STAT)] ∧ OnlyRegs s t))
  ∧ (∀ (s : State), s.running → s.holdover = true → s.dev.lost50 = false →
    Completes .holdover50ms s (fun t =>
      t.dev.lost50 = true ∧ t.svcs.handover = none ∧ (∀ n, closedLoop (s.mode n) = true → t.mode n = mUnloading)
        ∧ t.spMode = s.spStop.spMode
        ∧ (s.saveReady = true → s.vault.saving = none → t.vault.saving.isSome = true ∧ t.cmd.stopped = true)
        ∧ (s.saveReady = false → t.mem = s.lossRecord.mem)))
  ∧ (∀ (s : State), s.running → s.holdover = true → s.dev.lost50 = true →
    Completes .holdover2s s (fun t =>
      t.dev.power = .xtalHeld ∧ t.house.tripped = true ∧ t.reg .dev Reg.DEV_RST_CAUSE = 0x40))
  ∧ (∀ (s : State) (eng : Engine) (n : Fin 4) (v : Word), s.running → s.inReset (.lane n) = false →
    Completes (.lnClkDivWrite eng n v) s (fun t =>
      (if 0x000CCCCD ≤ (v &&& 0x007FFFFF).toNat ∧ (v &&& 0x007FFFFF).toNat ≤ 0x00400000 then
         t.reg (.lane n) Reg.LN_CLK_DIV = v &&& 0x007FFFFF ∧ (t.lane n).divPending = some (v &&& 0x007FFFFF)
           ∧ t.f (.lane n) F.LN_CLK_STAT_PENDING = 1 ∧ t.f (.lane n) F.LN_CLK_STAT_RANGE_ERR = 0
       else
         t.reg (.lane n) Reg.LN_CLK_DIV = s.reg (.lane n) Reg.LN_CLK_DIV ∧ (t.lane n).divPending = (s.lane n).divPending
           ∧ t.f (.lane n) F.LN_CLK_STAT_RANGE_ERR = 1)
        ∧ (t.lane n).divInForce = (s.lane n).divInForce
        ∧ RegsBut s t [(.lane n, Reg.LN_CLK_DIV), (.lane n, Reg.LN_CLK_STAT)]
        ∧ t = { s with regs := t.regs, lanes := t.lanes, resp := t.resp }))
  ∧ (∀ (s : State) (n : Fin 4) (d : Word), s.running → s.clocked (.lane n) = true → (s.lane n).divPending = some d →
    if s.readGate n = true ∨ (s.lane n).wgate = true ∨ s.agate n = true then
      Completes (.clkDivTakeEffect n) s (fun t => t.resp = .waiting ∧ OnlyAnswer s t)
    else
      Completes (.clkDivTakeEffect n) s (fun t =>
        (t.lane n).divInForce = d ∧ (t.lane n).divPending = none ∧ t.f (.lane n) F.LN_CLK_STAT_PENDING = 0
          ∧ t.settled n = false ∧ RegsBut s t [(.lane n, Reg.LN_CLK_STAT)]
          ∧ t = { s with regs := t.regs, lanes := t.lanes, resp := t.resp }))
  ∧ (∀ (s : State) (n : Fin 4), s.running → s.clocked (.lane n) = true → s.settled n = false →
    Completes (.lclkSettled n) s (fun t =>
      t.settled n = true ∧ (t.lane n).wgate = t.wgateCond n ∧ t.agate n = t.agateCond n
        ∧ t.f (.ast n) F.AST_LEAD_LEAD = (s.leadUpdate n).f (.ast n) F.AST_LEAD_LEAD
        ∧ RegsBut s t [(.lane n, Reg.LN_CLK_STAT), (.ast n, Reg.AST_LEAD), (.ast n, Reg.AST_STAT)]
        ∧ t = { s with regs := t.regs, lanes := t.lanes, asts := t.asts, resp := t.resp }))

/-- The commands of resets and the loss of power complete: a warm reset records its cause and is in progress until its start
has ended (R43, R52); PWRON_N low and a collapse of the rails return every register but DEV_RST_CAUSE and the fuses of HZL_SVN
to its reset value, but for those of a servo whose retract goes on while the rails stand (R48), hold the device, and keep the
bytes of NOR (R43, R56); PERST takes and releases a port, and a hot reset returns its functions to one (R43). -/
def Obligations.ResetsAndPowerLoss : Prop :=
  (∀ (s : State) (c : WarmCause), s.running →
    Completes (.warmReset c) s (fun t =>
      t.reg .dev Reg.DEV_RST_CAUSE = BitVec.ofNat 32 (2 ^ warmBit c) ∧ t.dev.warmInProgress = true ∧ t.dev.power = .on))
  ∧ (∀ (s : State) (fn : Fin 64), s.running → s.fnExists fn.val = true → s.linkIsUp (s.fnPort fn.val) = true →
    Completes (.nvmSubsystemReset fn) s (fun t =>
      t.reg .dev Reg.DEV_RST_CAUSE = 0x10 ∧ t.dev.warmInProgress = true))
  ∧ (∀ (s : State), Completes .pwronNFall s (fun t =>
      t.dev.power = .coldHeld ∧ t.reg .dev Reg.DEV_RST_CAUSE = 1
        ∧ (∀ u o, o < 0x1000 → (u, o) ≠ (.dev, Reg.DEV_RST_CAUSE) → (u, o) ≠ (.hzl, Reg.HZL_SVN) →
            (∀ n, u = .srv n → (s.maybeOffRamp n = true ∨ s.mode n = mRetract) →
              o ≠ Reg.UNIT_STAT ∧ o ≠ Reg.SRV_STAT ∧ o ≠ Reg.SRV_VCM_OUT) →
            t.reg u o = regReset (key u o))
        ∧ (∀ n, s.maybeOffRamp n = true ∨ s.mode n = mRetract → t.mode n = mRetract ∧ t.unitState (.srv n) = stReset)
        ∧ (∀ a, t.byte a = if inNor a then s.byte a else memReset a)
        ∧ t.hosts.namespaces = s.hosts.namespaces ∧ t.hosts.zones = s.hosts.zones))
  ∧ (∀ (s : State), Completes .unplannedPowerLoss s (fun t =>
      t.dev.power = .off
        ∧ (∀ u o, o < 0x1000 → (u, o) ≠ (.dev, Reg.DEV_RST_CAUSE) → (u, o) ≠ (.hzl, Reg.HZL_SVN) →
            t.reg u o = regReset (key u o))
        ∧ (∀ a, t.byte a = if inNor a then s.byte a else memReset a)))
  ∧ (∀ (s : State) (p : Fin 2), s.running → (s.port p).perst = false →
    Completes (.perstAssert p) s (fun t => (t.port p).perst = true ∧ (t.port p).numVfs = 0))
  ∧ (∀ (s : State) (p : Fin 2), s.running → (s.port p).perst = true →
    Completes (.perstDeassert p) s (fun t =>
      (t.port p).perst = false ∧ t = { s with hosts := t.hosts, resp := t.resp }))
  ∧ (∀ (s : State) (p : Fin 2), s.running → s.linkIsUp p = true →
    Completes (.hotReset p) s (fun t => (t.port p).numVfs = 0 ∧ (t.port p).ana = []))

/-- The power commands complete: a write of DEV_PWR_CAP sets the level in force, and a looser one lets held cipher messages
start (R57, R60); an operational power state is entered with its level, and the media that a power state stopped come back
(R61, R62); PS3 and PS4 are entered with their level once no head is off its ramp, PS4 with the spindle's stop, and until then
the heads unload (R61, R62). -/
def Obligations.PowerStates : Prop :=
  (∀ (s : State) (eng : Engine) (v : Word), s.running → s.inReset .dev = false →
    Completes (.pwrCapWrite eng v) s (fun t =>
      t.capLevel = v.toNat % 4
        ∧ (s.capLevel ≤ v.toNat % 4 → RegsBut s t [(.dev, Reg.DEV_PWR_CAP)] ∧ OnlyRegs s t)
        ∧ (v.toNat % 4 < s.capLevel → t.hzl = ((s.setF .dev F.DEV_PWR_CAP_LEVEL (v.toNat % 4)).refillAll).hzl)))
  ∧ (∀ (s : State) (fn : Fin 64) (ps : Nat), s.running → s.ctrlServes fn.val = true → s.svcs.chrysalis = false → ps < 3 →
    Completes (.setPowerManagement fn ps) s (fun t =>
      t.dev.ps = ps ∧ t.dev.lastOp = ps ∧ t.capLevel = ps ∧ t.resp = .status .success
        ∧ (s.dev.psStopped = false → s.dev.psParked = [] → s.capLevel ≤ ps →
            RegsBut s t [(.dev, Reg.DEV_PWR_CAP)] ∧ t = { s with regs := t.regs, dev := t.dev, resp := t.resp })))
  ∧ (∀ (s : State), s.running → s.svcs.chrysalis = false → s.dev.ps < 3 → s.allParked = true →
    Completes (.apstTransition 3) s (fun t =>
      t.dev.ps = 3 ∧ t.dev.lastOp = s.dev.lastOp ∧ t.capLevel = 3 ∧ RegsBut s t [(.dev, Reg.DEV_PWR_CAP)]
        ∧ t = { s with regs := t.regs, dev := t.dev, resp := t.resp }))
  ∧ (∀ (s : State), s.running → s.svcs.chrysalis = false → s.dev.ps < 4 → s.allParked = true →
    (s.vaultFitted = true ∨ s.dirtyGranules = 0) →
    Completes (.apstTransition 4) s (fun t =>
      t.dev.ps = 4 ∧ t.dev.lastOp = s.dev.lastOp ∧ t.capLevel = 3
        ∧ (s.takes .spn = true → s.spMode ≠ spStopped → t.dev.psStopped = true ∧ t.spMode = s.spStop.spMode)))
  ∧ (∀ (s : State), s.running → s.svcs.chrysalis = false → s.dev.ps < 3 → s.allParked = false →
    Completes (.apstTransition 3) s (fun t =>
      t.dev.ps = s.dev.ps ∧ t.resp = .waiting ∧ ∀ n, closedLoop (s.mode n) = true → t.mode n = mUnloading))

/-- The commands of a lane's dispatches complete: a fetched read or write goes into the lane stamped with the slot's epoch,
which a write of mode 01b first advances, and the ring advances (R76, R78, R80); a refused descriptor is reported with status
4 and sets CONFIG (R78); while a throttle pauses the lanes a fetch waits (R513); a cancel of work in progress is noted for its
next sector boundary, one of a slot of which the lane holds nothing is acknowledged at once, and acknowledgements answer every
cancel owed (R80); a report goes into its ring and to firmware, and a stale one is counted and dropped (R79). -/
def Obligations.DispatchAndReports : Prop :=
  (∀ (s : State) (n : Fin 4), s.running → s.fetchReady n = true → s.fetchHeld = false →
    s.badDescriptor n (s.nextDescriptor n) = true →
    Completes (.dispatchFetch n) s (fun t =>
      (t.lane n).reports.map (fun r => r.status) = [4] ∧ (t.lane n).next = none
        ∧ t.reg (.lane n) Reg.LN_DQ_HEAD = BitVec.ofNat 32 (((s.dq n).head + 1) % (s.dq n).size)
        ∧ t.reg (.lane n) Reg.UNIT_ERR = s.reg (.lane n) Reg.UNIT_ERR ||| BitVec.ofNat 32 (2 ^ (8 + eConfig))
        ∧ RegsBut s t [(.lane n, Reg.LN_DQ_HEAD), (.lane n, Reg.UNIT_ERR)]
        ∧ t = { s with regs := t.regs, lanes := t.lanes, resp := t.resp }))
  ∧ (∀ (s : State) (n : Fin 4), s.running → s.fetchReady n = true → s.fetchHeld = false →
    s.badDescriptor n (s.nextDescriptor n) = false →
    (s.slotState (s.nextDescriptor n).slot).isOpen = true → (s.nextDescriptor n).mode = 0 →
    s.headRefuses ((s.nextDescriptor n).stamp (s.epoch (s.nextDescriptor n).slot)) = false →
    Completes (.dispatchFetch n) s (fun t =>
      (t.lane n).next = some ((s.nextDescriptor n).stamp (s.epoch (s.nextDescriptor n).slot))
        ∧ t.reg (.lane n) Reg.LN_DQ_HEAD = BitVec.ofNat 32 (((s.dq n).head + 1) % (s.dq n).size)
        ∧ RegsBut s t [(.lane n, Reg.LN_DQ_HEAD)] ∧ t.cmd = s.cmd
        ∧ (∀ a, a ≠ (s.reg (.lane n) Reg.LN_DQ_BASE).toNat + 64 * (s.dq n).head + 6 → t.byte a = s.byte a)))
  ∧ (∀ (s : State) (n : Fin 4), s.running → s.fetchReady n = true → s.fetchHeld = false →
    s.badDescriptor n (s.nextDescriptor n) = false → s.fetchWaits (s.nextDescriptor n) = false →
    (s.slotState (s.nextDescriptor n).slot).isOpen = true → (s.nextDescriptor n).mode = 1 →
    s.headRefuses ((s.nextDescriptor n).stamp ((s.epoch (s.nextDescriptor n).slot + 1) % 256)) = false →
    Completes (.dispatchFetch n) s (fun t =>
      t.epoch (s.nextDescriptor n).slot = (s.epoch (s.nextDescriptor n).slot + 1) % 256
        ∧ (t.lane n).next = some ((s.nextDescriptor n).stamp ((s.epoch (s.nextDescriptor n).slot + 1) % 256))
        ∧ t.reg (.lane n) Reg.LN_DQ_HEAD = BitVec.ofNat 32 (((s.dq n).head + 1) % (s.dq n).size)))
  ∧ (∀ (s : State) (n : Fin 4), s.running → s.fetchReady n = true → s.fetchHeld = true →
    Completes (.dispatchFetch n) s (fun t => t.resp = .waiting ∧ OnlyAnswer s t))
  ∧ (∀ (s : State) (n : Fin 4) (slot : Nat), s.running → s.owes n slot = true → (s.lane n).next = none →
    (s.lane n).tails = [] → (s.lane n).reports = [] → (s.lane n).cur.any (s.staleDisp slot) = true →
    Completes (.cancelReceive n slot) s (fun t =>
      (t.lane n).cancelSeen = true ∧ t = { s with lanes := t.lanes, resp := t.resp }))
  ∧ (∀ (s : State) (n : Fin 4) (slot : Nat), s.running → s.owes n slot = true → (s.lane n).next = none →
    (s.lane n).tails = [] → (s.lane n).reports = [] → (s.lane n).cur.any (s.staleDisp slot) = false →
    Completes (.cancelReceive n slot) s (fun t =>
      t.owes n slot = false ∧ t = { s with cmd := { s.cmd with cancels := t.cmd.cancels }, resp := t.resp }))
  ∧ (∀ (s : State) (n : Fin 4) (slot : Nat), s.running → s.owes n slot = true →
    ((s.lane n).next.toList ++ (s.lane n).cur.toList).any (s.staleDisp slot) = false →
    Completes (.cancelAck n slot) s (fun t =>
      t.owes n slot = false ∧ t = { s with cmd := { s.cmd with cancels := t.cmd.cancels }, resp := t.resp }))
  ∧ (∀ (s : State) (n : Fin 4) (r : Report) (rest : List Report), s.running → (s.lane n).reports = r :: rest →
    s.staleReport r = false → (s.rq n).full = false →
    Completes (.reportWrite n) s (fun t =>
      (t.lane n).reports = rest
        ∧ t.reg (.lane n) Reg.LN_RQ_TAIL = BitVec.ofNat 32 (((s.rq n).tail + 1) % (s.rq n).size)
        ∧ RegsBut s t [(.lane n, Reg.LN_RQ_TAIL)] ∧ t.hosts = (s.reported r).hosts
        ∧ (∀ i, i < 16 → t.byte ((s.reg (.lane n) Reg.LN_RQ_BASE).toNat + 16 * (s.rq n).tail + i) = r.bytes.getD i 0)
        ∧ (∀ a, ¬((s.reg (.lane n) Reg.LN_RQ_BASE).toNat + 16 * (s.rq n).tail ≤ a
              ∧ a < (s.reg (.lane n) Reg.LN_RQ_BASE).toNat + 16 * (s.rq n).tail + 16) → t.byte a = s.byte a)))
  ∧ (∀ (s : State) (n : Fin 4) (r : Report) (rest : List Report), s.running → (s.lane n).reports = r :: rest →
    s.staleReport r = true →
    Completes (.reportWrite n) s (fun t =>
      (t.lane n).reports = rest ∧ RegsBut s t [(.lane n, Reg.LN_EPOCH_DISC)]
        ∧ t.reg (.lane n) Reg.LN_EPOCH_DISC
          = (if s.reg (.lane n) Reg.LN_EPOCH_DISC = 0xFFFFFFFF then 0xFFFFFFFF else s.reg (.lane n) Reg.LN_EPOCH_DISC + 1)
        ∧ t.mem = s.mem ∧ t.hosts = s.hosts))

/-- SECTOR_RESULT_DMA and HEAD_STATE_WRITE complete: a result is written to its granule, and one under a stale epoch is
counted in LN_EPOCH_DISC and leaves memory as it is (R81, R269); a write of MED_HEAD_DATA gives the selected head its state
and its write inhibit, STATE 11b leaving STATE (R90), and an index of 48 or more changes nothing. -/
def Obligations.SectorResultsAndHeads : Prop :=
  (∀ (s : State) (n : Fin 4) (data : List Byte) (x : SectResult) (rest : List SectResult), s.running → s.live (.chn n) = true →
    (s.ch n).results = x :: rest → s.staleSector x.ref = true →
    Completes (.sectorResultDma n data) s (fun t =>
      t.reg (.lane n) Reg.LN_EPOCH_DISC
          = (if s.reg (.lane n) Reg.LN_EPOCH_DISC = 0xFFFFFFFF then 0xFFFFFFFF else s.reg (.lane n) Reg.LN_EPOCH_DISC + 1)
        ∧ t.mem = s.mem))
  ∧ (∀ (s : State) (n : Fin 4) (data : List Byte) (x : SectResult) (rest : List SectResult) (p : Nat), s.running →
    s.live (.chn n) = true → (s.ch n).results = x :: rest → s.staleSector x.ref = false → x.ref.dual = false →
    s.translate x.ref.handle true = .page p → data.length = 4096 →
    Completes (.sectorResultDma n data) s (fun t =>
      (t.ch n).results = rest
        ∧ (∀ k, k < 4096 → (dramBase + p * 4096 + k < s.bttAddr x.ref.handle ∨ s.bttAddr x.ref.handle + 4 ≤ dramBase + p * 4096 + k) →
            t.byte (dramBase + p * 4096 + k) = data.getD k 0)
        ∧ (∀ a, (a < dramBase + p * 4096 ∨ dramBase + p * 4096 + 4096 ≤ a) →
            (a < s.bttAddr x.ref.handle ∨ s.bttAddr x.ref.handle + 4 ≤ a) → t.byte a = s.byte a)
        ∧ t.reg (.lane n) Reg.LN_EPOCH_DISC = s.reg (.lane n) Reg.LN_EPOCH_DISC))
  ∧ (∀ (s : State) (eng : Engine) (v : Word), s.running → s.inReset .med = false →
    48 ≤ (s.reg .med Reg.MED_HEAD_IDX).toNat % 64 →
    Completes (.headStateWrite eng v) s (fun t => t = { s with resp := .none }))
  ∧ (∀ (s : State) (eng : Engine) (v : Word), s.running → s.inReset .med = false →
    (s.reg .med Reg.MED_HEAD_IDX).toNat % 64 < 48 →
    Completes (.headStateWrite eng v) s (fun t =>
      F.MED_HEAD_DATA_WR_INH.get (t.headData ((s.reg .med Reg.MED_HEAD_IDX).toNat % 64)) = F.MED_HEAD_DATA_WR_INH.get v
        ∧ F.MED_HEAD_DATA_STATE.get (t.headData ((s.reg .med Reg.MED_HEAD_IDX).toNat % 64))
            = (if F.MED_HEAD_DATA_STATE.get v = 3 then F.MED_HEAD_DATA_STATE.get (s.headData ((s.reg .med Reg.MED_HEAD_IDX).toNat % 64))
               else F.MED_HEAD_DATA_STATE.get v)
        ∧ (∀ h, h ≠ (s.reg .med Reg.MED_HEAD_IDX).toNat % 64 → t.headData h = s.headData h)))

/-- The channel's events complete: a defect holds the loops and its end lets them run, from there on at their acquisition
gains while a capture is open (R103); a lost timing lock clears LOCKED, sets LOCK_LOST and marks the read sector whose span is
in progress (R104); a read of CHN_SEV_LO removes the oldest sync event, latches its high word, hands the event to firmware,
and reads 0 when there is none (R4, R130); Ln_PA_FLT_N low drops the gates and stops a write with cause 010b (R127, R128). -/
def Obligations.ChannelEvents : Prop :=
  (∀ (s : State) (n : Fin 4) (b : Nat), s.running → s.live (.chn n) = true → s.readGate n = true → (s.tim n).excl = false →
    s.on (.chn n) F.CHN_CTL_DEFECT_EN = true →
    Completes (.defectDetect ⟨n, b⟩) s (fun t =>
      (t.ch n).defect = true ∧ t.frozen n = true ∧ (t.tim n).holdFrom.isSome = true
        ∧ t = { s with chns := t.chns, timing := t.timing, freeCtr := t.freeCtr, resp := .none }))
  ∧ (∀ (s : State) (n : Fin 4) (b : Nat), s.running → (s.ch n).defect = true →
    Completes (.defectEnd ⟨n, b⟩) s (fun t => (t.ch n).defect = false
      ∧ ((s.tim n).dhold = false → (t.tim n).holdFrom = none ∧ (s.readGate n = true → (t.ch n).acq = true))
      ∧ t = { s with chns := t.chns, timing := t.timing, resp := .none }))
  ∧ (∀ (s : State) (n : Fin 4), s.running → s.live (.chn n) = true → s.readGate n = true →
    Completes (.timingLockLost n) s (fun t =>
      t.on (.chn n) F.CHN_LOOP_STAT_LOCKED = false
        ∧ t.reg (.chn n) Reg.UNIT_ERR = s.reg (.chn n) Reg.UNIT_ERR ||| 0x400
        ∧ (∀ r ∈ (t.tim n).caps, r.write = false → (s.tim n).act.any (fun q => q.same r) = true → r.lockLost = true)
        ∧ (t.tim n).caps.length = (s.tim n).caps.length
        ∧ RegsBut s t [(.chn n, Reg.CHN_LOOP_STAT), (.chn n, Reg.UNIT_ERR)]
        ∧ t = { s with regs := t.regs, timing := t.timing, resp := .none }))
  ∧ (∀ (s : State) (eng : Engine) (n : Fin 4) (e : SyncEvent) (rest : List SyncEvent), s.running → s.inReset (.chn n) = false →
    (s.ch n).sync = e :: rest →
    Completes (.syncEventPop eng n) s (fun t =>
      t.resp = .value e.lo ∧ (t.ch n).sync = rest ∧ t.latch? (.chn n) eng = some (Reg.CHN_SEV_LO, e.hi)
        ∧ RegsBut s t [(.chn n, Reg.CHN_SEV_STAT)] ∧ t.hosts = (s.eventTaken e).hosts
        ∧ t = { s with regs := t.regs, chns := t.chns, dev := t.dev, hosts := t.hosts, resp := t.resp }))
  ∧ (∀ (s : State) (eng : Engine) (n : Fin 4), s.running → s.inReset (.chn n) = false → (s.ch n).sync = [] →
    Completes (.syncEventPop eng n) s (fun t =>
      t.resp = .value 0 ∧ t.latch? (.chn n) eng = some (Reg.CHN_SEV_LO, 0) ∧ t = { s with dev := t.dev, resp := t.resp }))
  ∧ (∀ (s : State) (n : Fin 4) (low : Bool), s.running → s.writing n = false →
    Completes (.paFaultInput n low) s (fun t =>
      (t.lane n).paLow = low ∧ (t.lane n).wgate = false ∧ (low = true → t.agate n = false)
        ∧ RegsBut s t [(.ast n, Reg.AST_STAT)]
        ∧ t = { s with regs := t.regs, lanes := t.lanes, asts := t.asts, resp := .none }))
  ∧ (∀ (s : State) (n : Fin 4), s.running → s.writing n = true →
    Completes (.paFaultInput n true) s (fun t =>
      t.f (.chn n) F.CHN_WR_STAT_CAUSE = 2 ∧ t.writing n = false ∧ t.mem = s.mem ∧ t.hosts = s.hosts))

/-- The decoding commands complete: a good decode waits for the DMA port with the sync event of its anchor and counts a sector
(R107, R108, R116); one that does not converge is pinned while fewer than two slots are (R110); a sector that automatic
recovery decodes waits for the DMA port with the events of its anchor and of the deep decode, its slot still pinned (R111,
R120, R130); a deep-decode command runs on its pinned slot and reports its result (R112, R113); a release and the time limit
free a slot (R111). -/
def Obligations.SectorDecoding : Prop :=
  (∀ (s : State) (n slot : Fin 4) (found : SyncFound) (samples : List (Nat × Nat)) (r : SectRef) (rest : List SectRef), s.running →
    s.live (.chn n) = true → (s.ch n).due = r :: rest → s.pin? n slot.val = none → r.captured = true → r.lockLost = false →
    Completes (.sectorDecode n slot ⟨found, samples⟩ .good) s (fun t =>
      (t.ch n).results = (s.ch n).results ++ [⟨r, r.anchorEvent found, .otf, false⟩] ∧ (t.ch n).due = rest ∧ (t.ch n).pins = (s.ch n).pins
        ∧ t.reg64 (.chn n) Reg.CHN_CNT_SECT_LO = (s.reg64 (.chn n) Reg.CHN_CNT_SECT_LO + 1) % 2 ^ 64
        ∧ t = { s with regs := t.regs, chns := t.chns, resp := .none }))
  ∧ (∀ (s : State) (n slot : Fin 4) (found : SyncFound) (samples : List (Nat × Nat)) (r : SectRef) (rest : List SectRef), s.running →
    s.live (.chn n) = true → (s.ch n).due = r :: rest → s.pin? n slot.val = none → r.captured = true → r.lockLost = false →
    F.CHN_RPROF_PIN.get r.prof ≠ 0 → (s.ch n).pins.length < 2 → s.autoWanted n r = true →
    Completes (.sectorDecode n slot ⟨found, samples⟩ .notConverged) s (fun t =>
      (t.ch n).pins = (s.ch n).pins ++ [⟨slot.val, r, true, false, samples, found, false⟩] ∧ (t.ch n).results = (s.ch n).results
        ∧ (t.ch n).due = rest ∧ t.lanes = s.lanes ∧ t.mem = s.mem))
  ∧ (∀ (s : State) (n : Fin 4) (g : Nat) (p : Pin), s.running → s.live (.chn n) = true → (s.ch n).job = none →
    (s.ch n).queued = none → (s.ch n).pins.find? (fun p => p.auto && !p.done) = some p → p.ref.ddglob ≠ 0 →
    Completes (.autoRecovery n none .good g) s (fun t =>
      (t.ch n).results = (s.ch n).results ++ [⟨p.ref, p.deepEvents, .auto p.num, true⟩]
        ∧ (t.ch n).pins = (s.ch n).pins.map (fun x => if x.num = p.num then { x with done := true } else x) ∧ t = { s with chns := t.chns, resp := .none }))
  ∧ (∀ (s : State) (eng : Engine) (n : Fin 4) (v : Word) (p : Pin), s.running → s.inReset (.chn n) = false →
    F.CHN_DD_CMD_GO.get v = 1 → (s.ch n).queued = none → (s.ch n).ddBusy = false →
    1 ≤ F.CHN_DD_CMD_GLOB.get v → F.CHN_DD_CMD_GLOB.get v ≤ 20 → s.pin? n (F.CHN_DD_CMD_SLOT.get v) = some p → p.auto = false →
    Completes (.deepDecodeCmd eng n v) s (fun t =>
      (t.ch n).job.map (fun j => (j.num, j.ref, j.glob)) = some (F.CHN_DD_CMD_SLOT.get v, p.ref, F.CHN_DD_CMD_GLOB.get v)
        ∧ t.f (.chn n) F.CHN_DD_STAT_REJ = 0
        ∧ RegsBut s t [(.chn n, Reg.CHN_DD_CMD), (.chn n, Reg.CHN_DD_STAT)]
        ∧ t = { s with regs := t.regs, chns := t.chns, resp := .none }))
  ∧ (∀ (s : State) (n : Fin 4) (g : Nat) (j : DdJob) (p : Pin), s.running → s.live (.chn n) = true → (s.ch n).job = some j →
    (s.ch n).queued = none → j.released = false → j.done = false → s.pin? n j.num = some p → j.num < 4 →
    Completes (.deepDecodeDone n none .notConverged g) s (fun t =>
      t.f (.chn n) F.CHN_DD_STAT_RESULT = 2 ∧ t.f (.chn n) F.CHN_DD_STAT_SLOT = j.num ∧ (t.ch n).job = none
        ∧ (t.ch n).pins = (s.ch n).pins ∧ RegsBut s t [(.chn n, Reg.CHN_DD_STAT)]
        ∧ t = { s with regs := t.regs, chns := t.chns, resp := .none }))
  ∧ (∀ (s : State) (eng : Engine) (n i : Fin 4) (p : Pin), s.running → s.inReset (.chn n) = false →
    s.pin? n i.val = some p → p.auto = false → (s.ch n).queued = none →
    Completes (.sbufRelease eng n (BitVec.ofNat 32 (2 ^ i.val))) s (fun t =>
      (t.ch n).pins = (s.ch n).pins.filter (fun x => !(x.num == i.val)) ∧ t = { s with chns := t.chns, resp := .none }))
  ∧ (∀ (s : State) (n i : Fin 4) (p : Pin), s.running → s.pin? n i.val = some p → p.cmd = false → p.auto = false →
    (s.ch n).queued = none →
    Completes (.pinTimeout n i) s (fun t =>
      (t.ch n).pins = (s.ch n).pins.filter (fun x => !(x.num == i.val)) ∧ t = { s with chns := t.chns, resp := .none }))

/-- The track sequencer's ALU operations complete: each executes once, its result goes to DST (G0 discards it), and its flags
follow the operation table; ST reaches the special destinations; a reserved code is a machine check with cause 0x4 (R136,
R138, R139). -/
def Obligations.SequencerAlu : Prop :=
  (∀ (s : State) (n : Fin 4), s.running → s.aluDue n 0x0 = true →
    Completes (.seqNop n) s (fun t => AluLeaves n s t 0 false (s.sq n).z (s.sq n).nf (s.sq n).c))
  ∧ (∀ (s : State) (n : Fin 4), s.running → s.aluDue n 0x1 = true →
    Completes (.seqMov n) s (fun t => AluLeaves n s t (s.sq n).opB true (s.sq n).z (s.sq n).nf (s.sq n).c))
  ∧ (∀ (s : State) (n : Fin 4), s.running → s.aluDue n 0x2 = true →
    Completes (.seqAdd n) s (fun t => AluLeaves n s t ((s.sq n).opA + (s.sq n).opB) true
      ((s.sq n).opA + (s.sq n).opB == 0) ((s.sq n).opA + (s.sq n).opB).msb
      (decide (2 ^ 32 ≤ (s.sq n).opA.toNat + (s.sq n).opB.toNat))))
  ∧ (∀ (s : State) (n : Fin 4), s.running → s.aluDue n 0x3 = true →
    Completes (.seqSub n) s (fun t => AluLeaves n s t ((s.sq n).opA - (s.sq n).opB) true
      ((s.sq n).opA - (s.sq n).opB == 0) ((s.sq n).opA - (s.sq n).opB).msb ((s.sq n).opA.ult (s.sq n).opB)))
  ∧ (∀ (s : State) (n : Fin 4), s.running → s.aluDue n 0x4 = true →
    Completes (.seqAnd n) s (fun t => AluLeaves n s t ((s.sq n).opA &&& (s.sq n).opB) true
      ((s.sq n).opA &&& (s.sq n).opB == 0) ((s.sq n).opA &&& (s.sq n).opB).msb (s.sq n).c))
  ∧ (∀ (s : State) (n : Fin 4), s.running → s.aluDue n 0x5 = true →
    Completes (.seqOr n) s (fun t => AluLeaves n s t ((s.sq n).opA ||| (s.sq n).opB) true
      ((s.sq n).opA ||| (s.sq n).opB == 0) ((s.sq n).opA ||| (s.sq n).opB).msb (s.sq n).c))
  ∧ (∀ (s : State) (n : Fin 4), s.running → s.aluDue n 0x6 = true →
    Completes (.seqXor n) s (fun t => AluLeaves n s t ((s.sq n).opA ^^^ (s.sq n).opB) true
      ((s.sq n).opA ^^^ (s.sq n).opB == 0) ((s.sq n).opA ^^^ (s.sq n).opB).msb (s.sq n).c))
  ∧ (∀ (s : State) (n : Fin 4), s.running → s.aluDue n 0x7 = true →
    Completes (.seqShl n) s (fun t => AluLeaves n s t ((s.sq n).opA <<< ((s.sq n).opB.toNat % 32)) true
      ((s.sq n).opA <<< ((s.sq n).opB.toNat % 32) == 0) ((s.sq n).opA <<< ((s.sq n).opB.toNat % 32)).msb (s.sq n).c))
  ∧ (∀ (s : State) (n : Fin 4), s.running → s.aluDue n 0x8 = true →
    Completes (.seqShr n) s (fun t => AluLeaves n s t ((s.sq n).opA >>> ((s.sq n).opB.toNat % 32)) true
      ((s.sq n).opA >>> ((s.sq n).opB.toNat % 32) == 0) ((s.sq n).opA >>> ((s.sq n).opB.toNat % 32)).msb (s.sq n).c))
  ∧ (∀ (s : State) (n : Fin 4), s.running → s.aluDue n 0x9 = true →
    Completes (.seqCmp n) s (fun t => AluLeaves n s t ((s.sq n).opA - (s.sq n).opB) false
      ((s.sq n).opA - (s.sq n).opB == 0) ((s.sq n).opA - (s.sq n).opB).msb ((s.sq n).opA.ult (s.sq n).opB)))
  ∧ (∀ (s : State) (n : Fin 4), s.running → s.aluDue n 0xA = true →
    Completes (.seqDec n) s (fun t => AluLeaves n s t ((s.sq n).opA - 1) true
      ((s.sq n).opA - 1 == 0) ((s.sq n).opA - 1).msb ((s.sq n).opA == 0)))
  ∧ (∀ (s : State) (n : Fin 4) (bitNow : Nat), s.running → s.aluDue n 0xB = true →
    Completes (.seqLd n bitNow) s (fun t => AluLeaves n s t (s.specialSource n ((s.sq n).opB.toNat % 64) bitNow) true
      (s.sq n).z (s.sq n).nf (s.sq n).c))
  ∧ (∀ (s : State) (n : Fin 4), s.running → s.aluDue n 0xC = true →
    ((s.sq n).opB.toNat % 64 = 0 → (s.tim n).evq = 0 ∧ (s.tim n).act = []) →
    Completes (.seqSt n) s (fun t =>
      (t.sq n).g = (s.sq n).g ∧ (t.sq n).flags = (s.sq n).flags ∧ (t.sq n).aluDone = true
        ∧ (t.tim n).winbits = (if (s.sq n).opB.toNat % 64 = 0 then (s.sq n).opA.toNat % 2 ^ 18 else (s.tim n).winbits)
        ∧ (t.sq n).srvOfs = (if (s.sq n).opB.toNat % 64 = 1 then (s.sq n).opA.toNat % 256 else (s.sq n).srvOfs)
        ∧ (t.sq n).align = (if (s.sq n).opB.toNat % 64 = 2 then (s.sq n).opA else (s.sq n).align)
        ∧ t = { s with seqs := t.seqs, timing := t.timing, srvs := t.srvs, resp := .none }))
  ∧ (∀ (s : State) (n : Fin 4), s.running → s.seqRuns n = true → (s.sq n).aluDone = false → 0xD ≤ CsWord.aluOp (s.sq n).word →
    Completes (.seqNop n) s (fun t =>
      t.f (.tsq n) F.TSQ_MCHK_VALID = 1 ∧ t.f (.tsq n) F.TSQ_MCHK_CAUSE = 4 ∧ t.unitState (.tsq n) = stFault
        ∧ (t.sq n).running = false ∧ (t.lane n).cur = none ∧ t.mem = s.mem))

/-- The sequence actions complete: JUMP and CALL go to NEXT with the condition bits under BR_MASK, CALL pushes the fetch
address plus 1 mod 4,096, RET pops it, a full or empty stack is a machine check with cause 0x6, DISPATCH goes to NEXT OR
OP[3:0] and starts the descriptor that waits, a write only while Ln_PA_FLT_N is high and otherwise with stop cause 010b; END
ends the dispatch and goes to NEXT, with status 100b where the ROM refuses the descriptor (R129, R140 to R142, R157, R159,
R160). -/
def Obligations.SequencerActions : Prop :=
  (∀ (s : State) (n : Fin 4), s.running → s.seqDue n 0 = true → s.fetchGood n (s.branchAddr n) →
    Completes (.seqJump n .ok) s (fun t =>
      Fetched n s t (CsWord.next (s.sq n).word ||| (s.condGroup n (CsWord.brGrp (s.sq n).word) &&& CsWord.brMask (s.sq n).word))
        ∧ (t.sq n).stack = (s.sq n).stack ∧ t = { s with seqs := t.seqs, timing := t.timing, resp := .none }))
  ∧ (∀ (s : State) (n : Fin 4), s.running → s.seqDue n 1 = true → s.fetchGood n (s.branchAddr n) → (s.sq n).stack.length < 4 →
    Completes (.seqCall n .ok) s (fun t =>
      Fetched n s t (CsWord.next (s.sq n).word ||| (s.condGroup n (CsWord.brGrp (s.sq n).word) &&& CsWord.brMask (s.sq n).word))
        ∧ (t.sq n).stack = ((s.sq n).pc + 1) % 4096 :: (s.sq n).stack
        ∧ t = { s with seqs := t.seqs, timing := t.timing, resp := .none }))
  ∧ (∀ (s : State) (n : Fin 4) (par : Parity), s.running → s.seqDue n 1 = true → 4 ≤ (s.sq n).stack.length →
    Completes (.seqCall n par) s (fun t =>
      t.f (.tsq n) F.TSQ_MCHK_VALID = 1 ∧ t.f (.tsq n) F.TSQ_MCHK_CAUSE = 6 ∧ t.unitState (.tsq n) = stFault
        ∧ (t.sq n).running = false))
  ∧ (∀ (s : State) (n : Fin 4) (a : Nat) (rest : List Nat), s.running → s.seqDue n 2 = true → (s.sq n).stack = a :: rest →
    s.fetchGood n a →
    Completes (.seqRet n .ok) s (fun t =>
      Fetched n s t a ∧ (t.sq n).stack = rest ∧ t = { s with seqs := t.seqs, timing := t.timing, resp := .none }))
  ∧ (∀ (s : State) (n : Fin 4) (par : Parity), s.running → s.seqDue n 2 = true → (s.sq n).stack = [] →
    Completes (.seqRet n par) s (fun t =>
      t.f (.tsq n) F.TSQ_MCHK_VALID = 1 ∧ t.f (.tsq n) F.TSQ_MCHK_CAUSE = 6 ∧ t.unitState (.tsq n) = stFault
        ∧ (t.sq n).running = false))
  ∧ (∀ (s : State) (n : Fin 4) (d : Disp), s.running → s.seqDue n 3 = true → (s.lane n).next = none → (s.lane n).cur = some d →
    s.fetchGood n (CsWord.next (s.sq n).word ||| d.op % 16) →
    Completes (.seqDispatch n .ok) s (fun t =>
      Fetched n s t (CsWord.next (s.sq n).word ||| d.op % 16) ∧ (t.sq n).stack = (s.sq n).stack
        ∧ t = { s with seqs := t.seqs, timing := t.timing, resp := .none }))
  ∧ (∀ (s : State) (n : Fin 4) (d : Disp), s.running → s.seqDue n 3 = true → (s.lane n).next = some d → s.dispWaits n = true →
    (d.isWrite = true → (s.lane n).paLow = false) → s.fetchGood n (CsWord.next (s.sq n).word ||| d.op % 16) →
    Completes (.seqDispatch n .ok) s (fun t =>
      Fetched n s t (CsWord.next (s.sq n).word ||| d.op % 16) ∧ (t.lane n).cur = some d ∧ (t.lane n).next = none
        ∧ (t.sq n).align = 0 ∧ (t.tim n).wstop = false ∧ (d.op ≠ 4 → t.capTransfers = s.capTransfers + 1)
        ∧ (d.isWrite = true → t.f (.chn n) F.CHN_WR_STAT_CAUSE = 0)
        ∧ RegsBut s t [(.lane n, Reg.LN_CLK_DIV), (.lane n, Reg.LN_CLK_STAT), (.chn n, Reg.CHN_WR_STAT)]
        ∧ t = { s with regs := t.regs, lanes := t.lanes, seqs := t.seqs, timing := t.timing, dev := t.dev, resp := .none }))
  ∧ (∀ (s : State) (n : Fin 4) (par : Parity) (d : Disp), s.running → s.seqDue n 3 = true → (s.lane n).next = some d →
    s.dispWaits n = true → d.isWrite = true → (s.lane n).paLow = true →
    Completes (.seqDispatch n par) s (fun t =>
      t.f (.chn n) F.CHN_WR_STAT_CAUSE = wsPreamp ∧ t.f (.chn n) F.CHN_WR_STAT_SECTOR = d.first ∧ (t.tim n).wstop = true
        ∧ (t.tim n).wreq = false))
  ∧ (∀ (s : State) (n : Fin 4) (d : Disp), s.running → s.seqDue n 4 = true → CsWord.imm (s.sq n).word % 8 = 0 →
    (s.lane n).cur = some d → (s.inRom n && s.romRefuses d) = false → (s.tim n).act = [] → (s.tim n).caps = [] →
    (s.tim n).waitingSects = [] → s.fetchGood n (CsWord.next (s.sq n).word) →
    Completes (.seqEnd n .ok) s (fun t =>
      Fetched n s t (CsWord.next (s.sq n).word) ∧ (t.lane n).cur = none ∧ t.armed n = false
        ∧ t = { s with regs := t.regs, lanes := t.lanes, seqs := t.seqs, timing := t.timing, asts := t.asts, dev := t.dev,
                       cmd := t.cmd, chns := t.chns, resp := .none }))
  ∧ (∀ (s : State) (n : Fin 4) (d : Disp), s.running → s.seqDue n 4 = true → (s.lane n).cur = some d → s.inRom n = true →
    s.romRefuses d = true → (s.tim n).act = [] → (s.tim n).caps = [] → (s.tim n).waitingSects = [] →
    s.fetchGood n (CsWord.next (s.sq n).word) →
    Completes (.seqEnd n .ok) s (fun t =>
      Fetched n s t (CsWord.next (s.sq n).word) ∧ (t.lane n).cur = none ∧ t.armed n = false
        ∧ (t.reg (.lane n) Reg.UNIT_ERR).getLsbD 14 = true))

/-- The waits, the word watchdog and the patch RAM port complete: with no cancel to end it, the condition ends a wait with TMO
0 and the timeout with TMO 1; a cancel goes to 0x3C0; a word that lasts too long is a machine check with cause 0xA that sets
WDOG; a commit stores the four data words with odd parity, and ADDR advances with AUTOINC (R144, R146, R147, R166). -/
def Obligations.SequencerWaits : Prop :=
  (∀ (s : State) (n : Fin 4), s.running → s.waiting n = true → s.waitCancelled n = false →
    s.cond n (CsWord.waitSel (s.sq n).word) = !CsWord.waitPol (s.sq n).word →
    Completes (.waitConditionMet n) s (fun t =>
      (t.sq n).waitDone = true ∧ (t.sq n).tmo = false ∧ (t.sq n).g = (s.sq n).g ∧ (t.sq n).word = (s.sq n).word
        ∧ t = { s with seqs := t.seqs, resp := .none }))
  ∧ (∀ (s : State) (n : Fin 4), s.running → s.waiting n = true → s.waitCancelled n = false →
    s.cond n (CsWord.waitSel (s.sq n).word) = CsWord.waitPol (s.sq n).word → CsWord.tmo (s.sq n).word ≠ 0 →
    (CsWord.tmoUnit (s.sq n).word = 3 → CsWord.tmo (s.sq n).word ≤ (s.tim n).starts) →
    Completes (.waitTimeout n) s (fun t =>
      (t.sq n).waitDone = true ∧ (t.sq n).tmo = true ∧ (t.sq n).g = (s.sq n).g ∧ (t.sq n).word = (s.sq n).word
        ∧ t = { s with seqs := t.seqs, resp := .none }))
  ∧ (∀ (s : State) (n : Fin 4), s.running → s.waiting n = true → CsWord.waitCx (s.sq n).word = true →
    (s.lane n).cancelSeen = true → s.fetchGood n 0x3C0 →
    Completes (.waitCancel n .ok) s (fun t =>
      Fetched n s t 0x3C0 ∧ (t.sq n).tmo = (s.sq n).tmo ∧ (t.sq n).stack = (s.sq n).stack
        ∧ t = { s with seqs := t.seqs, timing := t.timing, resp := .none }))
  ∧ (∀ (s : State) (n : Fin 4), s.running → s.seqRuns n = true →
    Completes (.wordWatchdog n) s (fun t =>
      t.f (.tsq n) F.TSQ_MCHK_VALID = 1 ∧ t.f (.tsq n) F.TSQ_MCHK_CAUSE = 10
        ∧ t.f (.tsq n) F.TSQ_MCHK_PC = (s.sq n).pc % 4096 ∧ t.unitState (.tsq n) = stFault
        ∧ (t.reg (.tsq n) Reg.UNIT_ERR).getLsbD 7 = true ∧ (t.sq n).running = false ∧ (t.lane n).cur = none
        ∧ t.mem = s.mem ∧ t.hosts = s.hosts))
  ∧ (∀ (s : State) (n : Fin 4) (v : Word), s.running → s.unitState (.tsq n) = stOff →
    Completes (.patchWordCommit .service n v) s (fun t =>
      let w := v ++ s.reg (.tsq n) (Reg.TSQ_PW_DATA + 8) ++ s.reg (.tsq n) (Reg.TSQ_PW_DATA + 4) ++ s.reg (.tsq n) Reg.TSQ_PW_DATA
      let a := s.f (.tsq n) F.TSQ_PW_ADDR_ADDR
      (t.sq n).patchWord a = (w, oddParity w ^^^ BitVec.ofNat 16 (s.f (.tsq n) F.TSQ_PW_FLIP_FLIP))
        ∧ (∀ k, k ≠ a → (t.sq n).patchWord k = (s.sq n).patchWord k)
        ∧ t.f (.tsq n) F.TSQ_PW_FLIP_FLIP = 0
        ∧ t.f (.tsq n) F.TSQ_PW_ADDR_ADDR = (if s.on (.tsq n) F.TSQ_PW_ADDR_AUTOINC = true then (a + 1) % 1024 else a)
        ∧ RegsBut s t [(.tsq n, Reg.TSQ_PW_ADDR), (.tsq n, Reg.TSQ_PW_DATA + 12), (.tsq n, Reg.TSQ_PW_FLIP)]
        ∧ t = { s with regs := t.regs, seqs := t.seqs, resp := .none }))
  ∧ (∀ (s : State) (n : Fin 4), s.running → s.unitState (.tsq n) = stOff →
    Completes (.patchWordRead .service n) s (fun t =>
      t.resp = .value (((s.sq n).patchWord (s.f (.tsq n) F.TSQ_PW_ADDR_ADDR)).1.extractLsb' 96 32)
        ∧ t.f (.tsq n) F.TSQ_PW_ADDR_ADDR = (if s.on (.tsq n) F.TSQ_PW_ADDR_AUTOINC = true
            then (s.f (.tsq n) F.TSQ_PW_ADDR_ADDR + 1) % 1024 else s.f (.tsq n) F.TSQ_PW_ADDR_ADDR)
        ∧ RegsBut s t [(.tsq n, Reg.TSQ_PW_ADDR)] ∧ t = { s with regs := t.regs, resp := t.resp }))

/-- The timing unit's commands and the lane commands of the sequencer complete: an announced sector joins the queue with its
event and, 64 data bits ahead of it, the opening of its capture or the point at which its write data must be there; an event
fires at its position; a window begins; HEAD, SEEK, HOLD, AST_ARM and AST_DISARM reach the servo, the link and the assist
controller, and an assist controller in FAULT refuses (R126, R148 to R155, R185, R205 to R207, R387). -/
def Obligations.SequencerEventsAndLaneCommands : Prop :=
  (∀ (s : State) (n : Fin 4) (bitNow : Nat) (d : Disp), s.running → s.cmdDue n 1 = true → CsWord.evtEn (s.sq n).word = true →
    s.workDisp n = some d → s.postFits n bitNow = true →
    Completes (.sectRd n bitNow) s (fun t =>
      (t.sq n).evtDone = true ∧ (t.sq n).cmdDone = true ∧ (t.tim n).late = false
        ∧ (s.tim n).timed.length + 2 ≤ (t.tim n).timed.length
        ∧ (s.inRom n = false → (t.tim n).timed.length = (s.tim n).timed.length + 2) ∧ (t.tim n).evq = (s.tim n).evq + 1
        ∧ (s.announce n d false) ∈ (t.tim n).waitingSects
        ∧ t = { s with seqs := t.seqs, timing := t.timing, lanes := t.lanes, resp := .none }))
  ∧ (∀ (s : State) (n : Fin 4) (bitNow : Nat) (d : Disp), s.running → s.cmdDue n 2 = true → CsWord.evtEn (s.sq n).word = true →
    s.workDisp n = some d → d.isWrite = true → s.postFits n bitNow = true →
    Completes (.sectWr n bitNow) s (fun t =>
      (t.sq n).evtDone = true ∧ (t.sq n).cmdDone = true ∧ (t.tim n).late = false
        ∧ (s.tim n).timed.length + 2 ≤ (t.tim n).timed.length
        ∧ (s.inRom n = false → (t.tim n).timed.length = (s.tim n).timed.length + 2) ∧ (t.tim n).evq = (s.tim n).evq + 1
        ∧ (s.announce n d true) ∈ (t.tim n).waitingSects
        ∧ t = { s with seqs := t.seqs, timing := t.timing, lanes := t.lanes, resp := .none }))
  ∧ (∀ (s : State) (n : Fin 4) (bitNow : Nat), s.running → s.postReady n = true → CsWord.evtEn (s.sq n).word = true →
    CsWord.cmd (s.sq n).word ≠ 1 → CsWord.cmd (s.sq n).word ≠ 2 → s.postFits n bitNow = true →
    Completes (.eventPost n bitNow) s (fun t =>
      (t.sq n).evtDone = true ∧ (t.sq n).cmdDone = (s.sq n).cmdDone ∧ (t.tim n).late = false
        ∧ (t.tim n).evq = (s.tim n).evq + 1 ∧ (t.tim n).waitingSects = (s.tim n).waitingSects
        ∧ t = { s with seqs := t.seqs, timing := t.timing, resp := .none }))
  ∧ (∀ (s : State) (n : Fin 4) (win pos mask val : Nat) (rest : List Timed) (sm1 : List Nat), s.running →
    (s.tim n).timed = ⟨win, pos, .event mask val none⟩ :: rest → (s.tim n).excl = false → win ≤ (s.tim n).winSeq →
    mask.testBit 0 = false →
    Completes (.timingEventFire ⟨n, sm1⟩) s (fun t =>
      ((mask.testBit 1 = false ∨ val.testBit 1 = true) → (t.tim n).timed = rest) ∧ (t.tim n).bitpos = pos ∧ (t.tim n).ag = (s.tim n).ag
        ∧ (t.tim n).dhold = (if mask.testBit 1 = true then val.testBit 1 else (s.tim n).dhold)
        ∧ t = { s with timing := t.timing, chns := t.chns, freeCtr := t.freeCtr, resp := .none }))
  ∧ (∀ (s : State) (n : Fin 4), s.running → s.slock n = true → (s.tim n).excl = true →
    (s.settled n = true ∨ ((s.tim n).caps = [] ∧ (s.tim n).wreq = false)) →
    Completes (.dataWindowStart n) s (fun t =>
      (t.tim n).winSeq = (s.tim n).winSeq + 1 ∧ (t.tim n).wedge = (s.sv n).wedge ∧ (t.tim n).excl = false
        ∧ (t.tim n).starts = (s.tim n).starts + 1 ∧ ((s.tim n).reading = none → (t.tim n).timed = (s.tim n).timed)
        ∧ t = { s with timing := t.timing, lanes := t.lanes, chns := t.chns, resp := .none }))
  ∧ (∀ (s : State) (n : Fin 4) (d : Disp), s.running → s.cmdDue n 3 = true → s.workDisp n = some d →
    Completes (.headSelect n) s (fun t =>
      t.activeHead n = d.head % 12 ∧ t.armed n = false ∧ (t.sq n).cmdDone = true ∧ (t.sq n).headOk = false
        ∧ (t.sq n).headErr = false ∧ (t.at n).queue.getLast? = some (.headSel (d.head % 12))
        ∧ (closedLoop (s.mode n) = true → t.mode n = mAcquire ∧ t.slock n = false)
        ∧ t.mem = s.mem ∧ t.buf = s.buf ∧ t.hosts = s.hosts ∧ t.heads = s.heads))
  ∧ (∀ (s : State) (n : Fin 4) (d : Disp), s.running → s.cmdDue n 4 = true → s.workDisp n = some d →
    (s.sv n).seeking = false → s.dev.mediaPause = false → s.capSeeks < capSeekLimit s.capLevel → closedLoop (s.mode n) = true → s.slock n = true →
    beyond30 (s.offtrk n d + signed 8 (s.sq n).srvOfs) ((s.sv n).bandOffset (s.activeHead n) d.track) = false →
    Completes (.seek n) s (fun t =>
      (t.sv n).seeking = true ∧ (t.sv n).dtrack = d.track ∧ (t.sq n).cmdDone = true ∧ (t.sq n).seekDone = false
        ∧ (t.sv n).target = targetOf d.track (s.offtrk n d + signed 8 (s.sq n).srvOfs) ((s.sv n).bandOffset (s.activeHead n) d.track)
        ∧ t.capSeeks = s.capSeeks + 1 ∧ (t.mode n = mSeek ∨ t.mode n = mSettle)
        ∧ t.on (.srv n) F.SRV_STAT_WINH = true ∧ (t.lane n).wgate = false
        ∧ (s.writing n = false →
            RegsBut s t (modeRegs n)
              ∧ t = { s with regs := t.regs, seqs := t.seqs, srvs := t.srvs, dev := t.dev, lanes := t.lanes, resp := .none })))
  ∧ (∀ (s : State) (n : Fin 4) (us : Nat), s.running → s.cmdDue n 5 = true → closedLoop (s.mode n) = true →
    (s.sv n).seeking = true → s.slock n = true →
    Completes (.seekHold n us) s (fun t =>
      (t.sv n).seeking = false ∧ (t.sq n).cmdDone = true ∧ t.f (.srv n) F.SRV_SEEK_STAT_RESULT = 3 ∧ t.mode n = mSettle
        ∧ t.on (.srv n) F.SRV_STAT_WINH = true ∧ (t.lane n).wgate = false
        ∧ (s.writing n = false →
            RegsBut s t ((.srv n, Reg.SRV_SEEK_STAT) :: modeRegs n)
              ∧ t = { s with regs := t.regs, seqs := t.seqs, srvs := t.srvs, dev := t.dev, lanes := t.lanes, resp := .none })))
  ∧ (∀ (s : State) (n : Fin 4) (d : Disp), s.running → s.cmdDue n 6 = true → s.workDisp n = some d → s.takes (.ast n) = true →
    s.assistFaulted n = false → s.on (.ast n) F.AST_WIN_STAT_DRV_OK = true →
    (F.AST_HD_DATA_W0_KIND.get ((s.at n).hdWord (s.activeHead n) 0) = 1 ∨ F.AST_HD_DATA_W0_KIND.get ((s.at n).hdWord (s.activeHead n) 0) = 2) →
    F.AST_HD_DATA_W1_SP_MIN.get ((s.at n).hdWord (s.activeHead n) 1) ≤ F.AST_HD_DATA_W1_SP_MAX.get ((s.at n).hdWord (s.activeHead n) 1) →
    Completes (.astArm n) s (fun t =>
      (t.at n).arming = true ∧ (t.at n).refused = false ∧ t.armed n = false ∧ (t.sq n).cmdDone = true
        ∧ (t.at n).queue.getLast? = some .sliderArm ∧ t.f (.ast n) F.AST_STAT_RZONE = d.rzone
        ∧ RegsBut s t [(.ast n, Reg.AST_STAT)]
        ∧ t = { s with regs := t.regs, seqs := t.seqs, asts := t.asts, resp := .none }))
  ∧ (∀ (s : State) (n : Fin 4) (d : Disp), s.running → s.cmdDue n 6 = true → s.workDisp n = some d →
    s.unitState (.ast n) = stFault →
    Completes (.astArm n) s (fun t =>
      (t.at n).refused = true ∧ (t.at n).arming = false ∧ t.f (.ast n) F.AST_STAT_ARM_RES = 3 ∧ (t.sq n).cmdDone = true
        ∧ t = { s with regs := t.regs, seqs := t.seqs, asts := t.asts, resp := .none }))
  ∧ (∀ (s : State) (n : Fin 4), s.running → s.cmdDue n 7 = true →
    Completes (.astDisarm n) s (fun t =>
      t.armed n = false ∧ t.agate n = false ∧ (t.at n).refused = false ∧ (t.sq n).cmdDone = true
        ∧ RegsBut s t [(.ast n, Reg.AST_STAT)]
        ∧ t = { s with regs := t.regs, seqs := t.seqs, asts := t.asts, resp := .none }))

/-- The servo's samples complete: a good wedge in FOLLOW publishes its error, clears the write inhibit when the error lies
within the threshold, and closes the data window; the first miss is counted and sets the inhibit, the second loses lock; the
current loop drives the coil, and in a hardware retract lowers the voltage where the back-EMF exceeds BEMF_MAX; two
revolutions without lock unload the stack; the seek timeout ends the SEEK; a coefficient of a bank in use is refused (R67,
R171 to R175, R185 to R187, R197). -/
def Obligations.ServoSamples : Prop :=
  (∀ (s : State) (n : Fin 4) (r : WedgeRead) (us : Nat), s.running → s.live (.srv n) = true → s.mode n = mFollow →
    s.slock n = true → r.ok = true → r.wnum < s.wedges → r.track < 2 ^ 22 → r.runout = .ok → (s.sv n).missed = false →
    (s.sv n).moved = false → (s.sv n).check = 0 → (s.sv n).shockInh = false →
    beyond (r.pos * 25 - (s.sv n).target - s.runout n r.wnum r.track .ok * 25) (s.wiThr n) = false →
    Completes (.servoWedge n r us) s (fun t =>
      t.on (.srv n) F.SRV_STAT_WINH = false ∧ t.mode n = mFollow ∧ t.slock n = true ∧ t.f (.srv n) F.SRV_TRACK_TRACK = r.track
        ∧ t.f (.srv n) F.SRV_PES_WEDGE = r.wnum ∧ t.on (.srv n) F.SRV_PES_MISS = false
        ∧ t.f (.srv n) F.SRV_PES_ERR
            = unsigned 16 (pesErr (r.pos * 25 - (s.sv n).target - s.runout n r.wnum r.track .ok * 25))
        ∧ (t.sv n).pos = r.pos ∧ (t.tim n).excl = true ∧ t.on .med F.MED_ROT_POS_VALID = true
        ∧ RegsBut s t [(.srv n, Reg.SRV_STAT), (.srv n, Reg.SRV_TRACK), (.srv n, Reg.SRV_PES), (.srv n, Reg.SRV_VCM_OUT),
            (.med, Reg.MED_ROT_POS), (.piv (pivotOf n), mbxOff n), (.piv (pivotOf n), Reg.PIV_RTC_STAT)]
        ∧ t = { s with regs := t.regs, srvs := t.srvs, timing := t.timing, lanes := t.lanes, chns := t.chns, freeCtr := t.freeCtr,
                       resp := .none }))
  ∧ (∀ (s : State) (n : Fin 4) (r : WedgeRead) (us : Nat), s.running → s.live (.srv n) = true → s.mode n = mFollow →
    s.slock n = true → r.ok = false → r.wnum < s.wedges → (s.sv n).missed = false → (s.sv n).moved = false → (s.sv n).check = 0 →
    Completes (.servoWedge n r us) s (fun t =>
      t.on (.srv n) F.SRV_PES_MISS = true ∧ t.on (.srv n) F.SRV_STAT_WINH = true ∧ t.slock n = true ∧ t.mode n = mFollow
        ∧ (t.sv n).missed = true
        ∧ t.reg64 (.srv n) Reg.SRV_CNT_MISS_LO = (s.reg64 (.srv n) Reg.SRV_CNT_MISS_LO + 1) % 2 ^ 64
        ∧ t.mem = s.mem ∧ t.hosts = s.hosts ∧ t.buf = s.buf))
  ∧ (∀ (s : State) (n : Fin 4) (r : WedgeRead) (us : Nat), s.running → s.live (.srv n) = true → s.mode n = mFollow →
    s.slock n = true → r.ok = false → r.wnum < s.wedges → (s.sv n).missed = true → (s.sv n).moved = false →
    Completes (.servoWedge n r us) s (fun t =>
      t.slock n = false ∧ t.mode n = mAcquire ∧ t.on (.srv n) F.SRV_STAT_WINH = true
        ∧ (t.reg (.srv n) Reg.UNIT_ERR).getLsbD 8 = true ∧ (t.reg (.srv n) Reg.UNIT_ERR).getLsbD 1 = true
        ∧ t.mem = s.mem ∧ t.hosts = s.hosts ∧ t.buf = s.buf))
  ∧ (∀ (s : State) (n : Fin 4) (ma : Int), s.running → s.live (.srv n) = true → mLoading ≤ s.mode n → s.mode n ≤ mUnloading →
    Completes (.vcmCurrentLoop ⟨n, ma⟩) s (fun t =>
      t.f (.srv n) F.SRV_VCM_OUT_MA = s.f (.srv n) F.SRV_VCM_OUT_MA ∧ RegsBut s t [(.srv n, Reg.SRV_VCM_OUT)]
        ∧ t = { s with regs := t.regs, freeCtr := t.freeCtr, resp := .none }))
  ∧ (∀ (s : State) (n : Fin 4) (ma : Int), s.dev.power ≠ .off → s.mode n = mRetract →
    10 * (s.f (.srv n) F.SRV_RETRACT_BEMF_MAX : Int) < s.bemf n ma → 0 < s.f (.srv n) F.SRV_VCM_OUT_VCM →
    Completes (.vcmCurrentLoop ⟨n, ma⟩) s (fun t =>
      t.f (.srv n) F.SRV_VCM_OUT_VCM < s.f (.srv n) F.SRV_VCM_OUT_VCM
        ∧ t.f (.srv n) F.SRV_VCM_OUT_MA = s.f (.srv n) F.SRV_VCM_OUT_MA ∧ RegsBut s t [(.srv n, Reg.SRV_VCM_OUT)]
        ∧ t = { s with regs := t.regs, freeCtr := t.freeCtr, resp := .none }))
  ∧ (∀ (s : State) (n : Fin 4) (ma : Int), s.dev.power ≠ .off → s.mode n = mRetract →
    s.bemf n ma ≤ 10 * (s.f (.srv n) F.SRV_RETRACT_BEMF_MAX : Int) →
    Completes (.vcmCurrentLoop ⟨n, ma⟩) s (fun t => t = { s with resp := .none }))
  ∧ (∀ (s : State) (n : Fin 4), s.running → s.mode n = mAcquire → (s.sv n).loadTry = 0 →
    Completes (.lockRegainTimeout n) s (fun t =>
      t.mode n = mUnloading ∧ t.slock n = false ∧ t.on (.srv n) F.SRV_STAT_WINH = true ∧ (t.sv n).seeking = false
        ∧ F.PIV_MBX0_VALID.get (t.reg (.piv (pivotOf n)) (mbxOff n)) = 0 ∧ t.mem = s.mem ∧ t.hosts = s.hosts ∧ t.buf = s.buf))
  ∧ (∀ (s : State) (n : Fin 4) (us : Nat), s.running → (s.sv n).seeking = true →
    Completes (.seekTimeout ⟨n, us⟩) s (fun t =>
      (t.sv n).seeking = false ∧ (t.sq n).seekErr = true ∧ (t.reg (.srv n) Reg.UNIT_ERR).getLsbD 7 = true
        ∧ t.f (.srv n) F.SRV_SEEK_STAT_RESULT = 2 ∧ t.f (.srv n) F.SRV_SEEK_STAT_TIME = min us 0xFFFFF
        ∧ (t.sv n).target = (s.f (.srv n) F.SRV_TRACK_TRACK : Int) * 51200
        ∧ t.mode n = (if s.mode n = mSeek then mSettle else s.mode n)
        ∧ (s.writing n = false →
            RegsBut s t ((.srv n, Reg.UNIT_ERR) :: (.srv n, Reg.SRV_SEEK_STAT) :: modeRegs n)
              ∧ t = { s with regs := t.regs, srvs := t.srvs, seqs := t.seqs, dev := t.dev, lanes := t.lanes, resp := .none })))
  ∧ (∀ (s : State) (eng : Engine) (n : Fin 4) (v : Word), s.running → s.inReset (.srv n) = false →
    s.f (.srv n) F.SRV_COEF_IDX_INDEX < 512 → s.bankNamed n (s.f (.srv n) F.SRV_COEF_IDX_INDEX / 64) = false →
    Completes (.coefWrite eng n v) s (fun t =>
      (∀ i, Sparse.get (fun _ => 0) (t.sv n).coef i
          = if i = s.f (.srv n) F.SRV_COEF_IDX_INDEX then v else Sparse.get (fun _ => 0) (s.sv n).coef i)
        ∧ t.f (.srv n) F.SRV_COEF_IDX_INDEX = (if s.on (.srv n) F.SRV_COEF_IDX_AUTOINC = true
            then s.f (.srv n) F.SRV_COEF_IDX_INDEX + 1 else s.f (.srv n) F.SRV_COEF_IDX_INDEX)
        ∧ RegsBut s t [(.srv n, Reg.SRV_COEF_IDX)] ∧ t = { s with regs := t.regs, srvs := t.srvs, resp := .none }))
  ∧ (∀ (s : State) (eng : Engine) (n : Fin 4) (v : Word), s.running → s.inReset (.srv n) = false →
    s.f (.srv n) F.SRV_COEF_IDX_INDEX < 512 → s.bankNamed n (s.f (.srv n) F.SRV_COEF_IDX_INDEX / 64) = true →
    Completes (.coefWrite eng n v) s (Denied eng .accessDenied s))

/-- Loads and unloads complete: LOAD starts from PARKED at speed, and anything else is refused; it drives 0.20 V outward, its
steps measure RCOIL, reach the disk and time out into an unload that is repeated once; a second failure is lasting (R189, R194
to R196, R559). -/
def Obligations.LoadsAndUnloads : Prop :=
  (∀ (s : State) (eng : Engine) (n : Fin 4), s.running → s.inReset (.srv n) = false → s.mode n = mParked →
    s.on .spn F.SPN_STAT_AT_SPEED = true → s.warmEnough = true → s.wedgeCfgOk n = true →
    Completes (.servoLoad eng n) s (fun t =>
      t.mode n = mLoading ∧ t.on (.srv n) F.SRV_STAT_LOAD_REF = false ∧ (t.sv n).loadTry = 1
        ∧ t.f (.srv n) F.SRV_VCM_OUT_VCM = 546 ∧ t.f (.srv n) F.SRV_VCM_OUT_MA = 0 ∧ t.on (.srv n) F.SRV_STAT_WINH = true
        ∧ F.PIV_MBX0_VALID.get (t.reg (.piv (pivotOf n)) (mbxOff n)) = 0
        ∧ (s.writing n = false →
            RegsBut s t (driveRegs n) ∧ t = { s with regs := t.regs, srvs := t.srvs, lanes := t.lanes, resp := .none })))
  ∧ (∀ (s : State) (eng : Engine) (n : Fin 4), s.running → s.inReset (.srv n) = false → s.mode n = mParked →
    s.on .spn F.SPN_STAT_AT_SPEED = false → s.wedgeCfgOk n = true →
    Completes (.servoLoad eng n) s (fun t =>
      t.mode n = mParked ∧ t.on (.srv n) F.SRV_STAT_LOAD_REF = true ∧ RegsBut s t [(.srv n, Reg.SRV_STAT)] ∧ OnlyRegs s t))
  ∧ (∀ (s : State) (eng : Engine) (n : Fin 4), s.running → s.inReset (.srv n) = false → s.mode n ≠ mParked →
    Completes (.servoLoad eng n) s (fun t =>
      t.mode n = s.mode n ∧ (t.reg (.srv n) Reg.UNIT_ERR).getLsbD 6 = true ∧ RegsBut s t [(.srv n, Reg.UNIT_ERR)] ∧ OnlyRegs s t))
  ∧ (∀ (s : State) (n : Fin 4) (mohm : Nat), s.running → s.mode n = mLoading → mohm < 2 ^ 16 →
    Completes (.loadRcoilMeasured n mohm) s (fun t =>
      t.f (.srv n) F.SRV_VCM_CAL_RCOIL = mohm ∧ t.f (.srv n) F.SRV_VCM_OUT_MA = s.f (.srv n) F.SRV_VCM_OUT_MA
        ∧ RegsBut s t [(.srv n, Reg.SRV_VCM_CAL), (.srv n, Reg.SRV_VCM_OUT)]
        ∧ t = { s with regs := t.regs, freeCtr := t.freeCtr, resp := .none }))
  ∧ (∀ (s : State) (n : Fin 4), s.running → s.mode n = mLoading →
    Completes (.headsOffRamp n) s (fun t =>
      t.mode n = mAcquire ∧ (t.sv n).offRamp = true ∧ t.on (.srv n) F.SRV_STAT_WINH = true
        ∧ (s.writing n = false →
            RegsBut s t (modeRegs n) ∧ t = { s with regs := t.regs, srvs := t.srvs, lanes := t.lanes, resp := .none })))
  ∧ (∀ (s : State) (n : Fin 4), s.running → (s.mode n = mLoading ∨ s.mode n = mAcquire) → (s.sv n).loadTry ≠ 0 →
    Completes (.loadLockTimeout n) s (fun t =>
      t.mode n = mUnloading ∧ (t.sv n).retryLoad = true ∧ (t.sv n).loadTry = (s.sv n).loadTry ∧ t.slock n = false
        ∧ t.mem = s.mem ∧ t.hosts = s.hosts ∧ t.buf = s.buf))
  ∧ (∀ (s : State) (eng : Engine) (n : Fin 4), s.running → s.inReset (.srv n) = false → closedLoop (s.mode n) = true →
    Completes (.servoUnload eng n) s (fun t =>
      t.mode n = mUnloading ∧ t.slock n = false ∧ t.on (.srv n) F.SRV_STAT_WINH = true ∧ (t.sv n).seeking = false
        ∧ t.mem = s.mem ∧ t.hosts = s.hosts ∧ t.buf = s.buf))
  ∧ (∀ (s : State) (n : Fin 4), s.running → s.mode n = mUnloading → (s.sv n).retryLoad = false →
    Completes (.unloadParked n) s (fun t =>
      t.mode n = mParked ∧ (t.sv n).offRamp = false ∧ t.f (.srv n) F.SRV_VCM_OUT_VCM = 0
        ∧ (s.writing n = false →
            RegsBut s t (driveRegs n) ∧ t = { s with regs := t.regs, srvs := t.srvs, lanes := t.lanes, resp := .none })))
  ∧ (∀ (s : State) (n : Fin 4), s.running → s.mode n = mUnloading → (s.sv n).retryLoad = true → (s.sv n).loadTry = 1 →
    Completes (.unloadParked n) s (fun t =>
      t.mode n = mLoading ∧ (t.sv n).loadTry = 2 ∧ t.f (.srv n) F.SRV_VCM_OUT_VCM = 546
        ∧ (s.writing n = false →
            RegsBut s t (driveRegs n) ∧ t = { s with regs := t.regs, srvs := t.srvs, lanes := t.lanes, resp := .none })))
  ∧ (∀ (s : State) (n : Fin 4), s.running → s.mode n = mUnloading → (s.sv n).retryLoad = true → (s.sv n).loadTry = 2 →
    Completes (.unloadParked n) s (fun t =>
      t.mode n = mFault ∧ t.unitState (.srv n) = stFault ∧ (t.reg (.srv n) Reg.UNIT_ERR).getLsbD 10 = true
        ∧ (t.reg (.srv n) Reg.UNIT_ERR).getLsbD 1 = true ∧ (t.sv n).offRamp = false
        ∧ (s.writing n = false → t = { s with regs := t.regs, srvs := t.srvs, lanes := t.lanes, resp := .none })))
  ∧ (∀ (s : State) (n : Fin 4), s.running → s.mode n = mUnloading →
    Completes (.unloadTimeout n) s (fun t =>
      t.mode n = mRetract ∧ (t.sv n).retract = true ∧ t.slock n = false ∧ t.f (.srv n) F.SRV_VCM_OUT_MA = 0
        ∧ t.mem = s.mem ∧ t.hosts = s.hosts ∧ t.buf = s.buf))

/-- The hardware retract and the shock response complete: a trigger that reaches the lane puts VRET across the coil, a retract
in progress goes on, its end counts or latches INCOMPLETE, and a load that failed starts again after it; an accepted SHOCK_N
holds the write inhibit of every engine that works (R192, R195, R197, R198, R523, R559). -/
def Obligations.RetractAndShock : Prop :=
  (∀ (s : State) (n : Fin 4) (tr : RetractTrigger), s.running → s.retractHits n tr = true → s.mode n ≠ mRetract →
    Completes (.hwRetract n tr) s (fun t =>
      t.mode n = mRetract ∧ (t.sv n).retract = true ∧ (t.sv n).loadTry = 0 ∧ t.slock n = false
        ∧ t.on (.srv n) F.SRV_STAT_WINH = true ∧ t.on (.srv n) F.SRV_STAT_SHOCK = false ∧ t.f (.srv n) F.SRV_VCM_OUT_MA = 0
        ∧ t.f (.srv n) F.SRV_VCM_OUT_VCM = vcmCode (20 * s.f (.srv n) F.SRV_RETRACT_VRET)
        ∧ F.PIV_MBX0_VALID.get (t.reg (.piv (pivotOf n)) (mbxOff n)) = 0 ∧ t.mem = s.mem ∧ t.hosts = s.hosts ∧ t.buf = s.buf))
  ∧ (∀ (s : State) (n : Fin 4) (tr : RetractTrigger), s.running → s.retractHits n tr = true → s.mode n = mRetract →
    Completes (.hwRetract n tr) s (fun t =>
      (t.sv n).loadTry = 0 ∧ (t.sv n).retryLoad = false ∧ t = { s with srvs := t.srvs, resp := .none }))
  ∧ (∀ (s : State) (n : Fin 4), s.dev.power ≠ .off → s.mode n = mRetract → (s.sv n).faultAfter = false → s.retractParks n = true →
    Completes (.retractParked n) s (fun t =>
      t.mode n = mParked ∧ t.on (.srv n) F.SRV_RET_STAT_DONE = true ∧ t.on (.srv n) F.SRV_RET_STAT_INCOMPLETE = false
        ∧ t.reg64 (.srv n) Reg.SRV_CNT_RETRACT_LO = (s.reg64 (.srv n) Reg.SRV_CNT_RETRACT_LO + 1) % 2 ^ 64
        ∧ (t.sv n).retract = false ∧ (t.sv n).offRamp = false ∧ t.f (.srv n) F.SRV_VCM_OUT_VCM = 0
        ∧ (s.writing n = false → t = { s with regs := t.regs, srvs := t.srvs, lanes := t.lanes, resp := .none })))
  ∧ (∀ (s : State) (n : Fin 4), s.dev.power ≠ .off → s.mode n = mRetract → (s.sv n).faultAfter = false →
    s.unitState (.srv n) = stIdle → (s.sv n).retryLoad = true → (s.sv n).loadTry = 1 →
    Completes (.retractParked n) s (fun t =>
      t.mode n = mLoading ∧ t.on (.srv n) F.SRV_RET_STAT_DONE = true ∧ (t.sv n).loadTry = 2 ∧ (t.sv n).retract = false))
  ∧ (∀ (s : State) (n : Fin 4), s.dev.power ≠ .off → s.mode n = mRetract → (s.sv n).faultAfter = false → s.retractParks n = true →
    Completes (.retractTimeout n) s (fun t =>
      t.mode n = mParked ∧ t.on (.srv n) F.SRV_RET_STAT_DONE = false ∧ t.on (.srv n) F.SRV_RET_STAT_INCOMPLETE = true
        ∧ (t.reg (.srv n) Reg.UNIT_ERR).getLsbD 11 = true ∧ (t.sv n).retract = false
        ∧ t.reg64 (.srv n) Reg.SRV_CNT_RETRACT_LO = s.reg64 (.srv n) Reg.SRV_CNT_RETRACT_LO
        ∧ (s.writing n = false → t = { s with regs := t.regs, srvs := t.srvs, lanes := t.lanes, resp := .none })))
  ∧ (∀ (s : State), s.running → s.house.shockFilt = false → s.house.shockMask = false →
    Completes (.shockNAccept false) s (fun t =>
      t.house = { s.house with shockFilt := true }
        ∧ (∀ n, (t.sv n).shockIn = true)
        ∧ (∀ n, s.live (.srv n) = true → (t.sv n).shockInh = true ∧ t.on (.srv n) F.SRV_STAT_SHOCK = true
            ∧ t.on (.srv n) F.SRV_STAT_WINH = true ∧ (s.mode n = mFollow ∨ s.mode n = mSettle → t.mode n = mShock)
            ∧ t.reg64 (.srv n) Reg.SRV_CNT_SHOCK_LO = (s.reg64 (.srv n) Reg.SRV_CNT_SHOCK_LO + 1) % 2 ^ 64)
        ∧ t.mem = s.mem ∧ t.hosts = s.hosts ∧ t.buf = s.buf))
  ∧ (∀ (s : State), s.running → s.house.shockFilt = true →
    Completes (.shockNAccept true) s (fun t =>
      t.reg64 .hkp Reg.HKP_CNT_SHOCK_MRG_LO = (s.reg64 .hkp Reg.HKP_CNT_SHOCK_MRG_LO + 1) % 2 ^ 64
        ∧ RegsBut s t [(.hkp, Reg.HKP_CNT_SHOCK_MRG_LO), (.hkp, Reg.HKP_CNT_SHOCK_MRG_LO + 4)] ∧ OnlyRegs s t))
  ∧ (∀ (s : State), s.running → s.house.shockFilt = true → s.house.shockMask = false →
    Completes .shockNRelease s (fun t =>
      t.house = { s.house with shockFilt := false } ∧ (∀ n, (t.sv n).shockIn = false ∧ (t.sv n).shockInh = (s.sv n).shockInh)
        ∧ t = { s with house := t.house, srvs := t.srvs, resp := .none }))

/-- The assist controller's commands complete: a model period moves the states of all twelve heads and adds the on-time and
the energy, which a set-point acknowledged within the period divides; a check that passes asks for SLIDER_T, one that fails
asks for its repeat and latches MON if that fails too; SLIDER_T above its limit while Ln_AGATE is high latches SLIDER; the two
time limits latch IDLE and ONTIME; a Halyard slot carries the first frame due, as its frame word, which is repeated once and
then fails; a HEAD frame that succeeds asks for a LASER_BIAS frame (R210, R212, R213, R218 to R222). -/
def Obligations.AssistController : Prop :=
  (∀ (s : State) (n : Fin 4) (high before : Nat), s.running → s.live (.ast n) = true → before ≤ high → high ≤ 512 →
    Completes (.assistModelPeriod n ⟨high, before⟩) s (fun t =>
      (t.at n).period = ((s.at n).period + 1) % 256 ∧ (t.at n).sinceSet = (s.at n).sinceSet + 1 ∧ (t.at n).spWas = none
        ∧ (t.at n).lifeRaw (s.at n).agHead 0 = (s.at n).lifeRaw (s.at n).agHead 0 + high
        ∧ (t.at n).lifeRaw (s.at n).agHead 1 = (s.at n).lifeRaw (s.at n).agHead 1
            + (match (s.at n).spWas with
              | none => high * s.f (.ast n) F.AST_STAT_SP
              | some old => before * old + (high - before) * s.f (.ast n) F.AST_STAT_SP)
        ∧ (∀ h, h < 12 → (t.at n).x h 0 = (s.at n).x h 0 + ((F.AST_HD_DATA_W2_A1.get (s.modelRow n h 2) : Nat) : Rat) / 65536
            * (((if h = (s.at n).agHead then high else 0 : Nat) : Rat) / 512 - (s.at n).x h 0))
        ∧ t = { s with asts := t.asts, resp := .none }))
  ∧ (∀ (s : State) (n : Fin 4) (v : Nat), s.running → s.live (.ast n) = true → s.agate n = true → (s.at n).sinceCheck = 0 →
    (s.at n).repeated = none → (s.at n).withdrawn = false → (s.at n).queue = [] → v < 65536 →
    Completes (.assistCheck n true v (crc8 16 v)) s (fun t =>
      (t.at n).queue = [if s.monOk n v = true then .sliderCheck else .check (if (s.at n).kind = 1 then 0x18 else 0x19) true]
        ∧ (t.at n).sinceCheck = max (s.f (.ast n) F.AST_CTL_MON_SLOTS) 2
        ∧ t = { s with asts := t.asts, resp := .none }))
  ∧ (∀ (s : State) (n : Fin 4) (a v : Nat) (rest : List Frame), s.running → s.live (.ast n) = true → s.agate n = true →
    (s.at n).repeated = none → (s.at n).withdrawn = false → (s.at n).queue = .check a true :: rest → v < 65536 →
    s.monOk n v = false →
    Completes (.assistCheck n true v (crc8 16 v)) s (fun t =>
      (t.f (.ast n) F.AST_FLT_STAT_FAULTS).testBit 2 = true ∧ t.agate n = false ∧ t.armed n = false
        ∧ t.reg64 (.ast n) Reg.AST_CNT_FLT_LO = (s.reg64 (.ast n) Reg.AST_CNT_FLT_LO + 1) % 2 ^ 64
        ∧ (t.lane n).wgate = false ∧ t.mem = s.mem ∧ t.hosts = s.hosts ∧ t.buf = s.buf))
  ∧ (∀ (s : State) (n : Fin 4) (v : Nat), s.running → s.live (.ast n) = true → (s.at n).repeated = none →
    (s.at n).withdrawn = false → (s.at n).dueFrame = some .sliderCheck → v < 65536 → signed 8 (v % 256) ≤ s.sliderMax n →
    Completes (.halyardFrame n (.data v (crc8 16 v))) s (fun t =>
      t.f (.ast n) F.AST_WIN_STAT_SLIDER_T = v % 256 ∧ t.on (.ast n) F.AST_WIN_STAT_SLIDER_OK = true
        ∧ (t.at n).sliderRead = true ∧ (t.at n).queue = (s.at n).queue.erase .sliderCheck
        ∧ RegsBut s t [(.ast n, Reg.AST_WIN_STAT)] ∧ t = { s with regs := t.regs, asts := t.asts, resp := .none }))
  ∧ (∀ (s : State) (n : Fin 4) (v : Nat), s.running → s.live (.ast n) = true → (s.at n).repeated = none →
    (s.at n).withdrawn = false → (s.at n).dueFrame = some .sliderCheck → v < 65536 → s.sliderMax n < signed 8 (v % 256) →
    s.agate n = true →
    Completes (.halyardFrame n (.data v (crc8 16 v))) s (fun t =>
      t.on (.ast n) F.AST_WIN_STAT_SLIDER_OK = false ∧ (t.f (.ast n) F.AST_FLT_STAT_FAULTS).testBit 3 = true
        ∧ t.agate n = false ∧ t.armed n = false))
  ∧ (∀ (s : State) (n : Fin 4), s.running → s.agate n = true → (s.lane n).wgate = false →
    Completes (.agIdleTimeout n) s (fun t =>
      (t.f (.ast n) F.AST_FLT_STAT_FAULTS).testBit 4 = true ∧ t.agate n = false ∧ t.armed n = false
        ∧ (t.reg (.ast n) Reg.UNIT_ERR).getLsbD 8 = true ∧ t.mem = s.mem ∧ t.hosts = s.hosts ∧ t.buf = s.buf))
  ∧ (∀ (s : State) (n : Fin 4), s.running → s.agate n = true →
    Completes (.agOntimeTimeout n) s (fun t =>
      (t.f (.ast n) F.AST_FLT_STAT_FAULTS).testBit 5 = true ∧ t.agate n = false ∧ t.armed n = false
        ∧ (t.reg (.ast n) Reg.UNIT_ERR).getLsbD 8 = true ∧ t.mem = s.mem ∧ t.hosts = s.hosts ∧ t.buf = s.buf))
  ∧ (∀ (s : State) (n : Fin 4) (h : Nat), s.running → s.live (.ast n) = true → (s.at n).repeated = none →
    (s.at n).dueFrame = some (.headSel h) →
    Completes (.halyardFrame n (.ack 0xC5)) s (fun t =>
      (t.sq n).headOk = true ∧ (t.at n).repeated = none
        ∧ (t.at n).wire = (0x010000 + 16 + h % 16) * 256 + crc8 24 (0x010000 + 16 + h % 16)
        ∧ (t.at n).queue = (s.at n).queue.erase (.headSel h)
            ++ (if F.AST_HD_DATA_W0_KIND.get ((s.at n).hdWord h 0) = 1
                then [.bias (F.AST_HD_DATA_W0_BIAS.get ((s.at n).hdWord h 0))] else [])
        ∧ t = { s with seqs := t.seqs, asts := t.asts, resp := .none }))
  ∧ (∀ (s : State) (n : Fin 4) (r : HalReply) (h : Nat), s.running → s.live (.ast n) = true → (s.at n).repeated = none →
    (s.at n).dueFrame = some (.headSel h) → r ≠ .ack 0xC5 →
    Completes (.halyardFrame n r) s (fun t =>
      (t.at n).repeated = some (.headSel h) ∧ (t.at n).queue = (s.at n).queue.erase (.headSel h) ∧ (t.sq n) = (s.sq n)
        ∧ t = { s with asts := t.asts, resp := .none }))
  ∧ (∀ (s : State) (n : Fin 4) (r : HalReply) (h : Nat), s.running → s.live (.ast n) = true →
    (s.at n).repeated = some (.headSel h) → r ≠ .ack 0xC5 →
    Completes (.halyardFrame n r) s (fun t =>
      (t.sq n).headErr = true ∧ (t.at n).repeated = none ∧ (t.at n).queue = (s.at n).queue
        ∧ (t.reg (.tsq n) Reg.UNIT_ERR).getLsbD 10 = true ∧ (t.reg (.tsq n) Reg.UNIT_ERR).getLsbD 1 = true
        ∧ RegsBut s t [(.tsq n, Reg.UNIT_ERR), (.tsq n, Reg.UNIT_LAST_CNT)]
        ∧ t = { s with regs := t.regs, seqs := t.seqs, asts := t.asts, resp := .none }))

/-- The spindle's commands complete: START begins MEASURE or is refused, STOP decelerates from RUN, COAST opens the switches,
a new DIR at speed brakes and starts again, and a write of 1 clears a latched fault (R240 to R243, R248, R250, R254). -/
def Obligations.SpindleCommands : Prop :=
  (∀ (s : State) (eng : Engine), s.running → s.inReset .spn = false → s.spMode = spStopped → s.ploss = false → s.spConfigBad = false →
    Completes (.spindleStart eng) s (fun t =>
      t.spMode = Machine.spMeasure ∧ t.on .spn F.SPN_STAT_START_REF = false ∧ t.spn.startTry = 1 ∧ t.spn.open_ = true
        ∧ t.f .spn F.SPN_STAT_VEC = 0 ∧ t.spn.dir = s.on .spn F.SPN_CTL_DIR ∧ RegsBut s t [(.spn, Reg.SPN_STAT)]
        ∧ t = { s with regs := t.regs, spn := t.spn, resp := .none }))
  ∧ (∀ (s : State) (eng : Engine), s.running → s.inReset .spn = false → (s.spMode = Machine.spFault ∨ s.ploss = true) →
    Completes (.spindleStart eng) s (fun t =>
      t.on .spn F.SPN_STAT_START_REF = true ∧ t.spMode = s.spMode ∧ RegsBut s t [(.spn, Reg.SPN_STAT)] ∧ OnlyRegs s t))
  ∧ (∀ (s : State) (eng : Engine), s.running → s.inReset .spn = false → s.spMode = spRun → s.ploss = false → s.chopFlt = false →
    Completes (.spindleStop eng) s (fun t =>
      t.spMode = spDecel ∧ t.on .spn F.SPN_STAT_AT_SPEED = false ∧ t.spn.stopping = true ∧ t.spn.startTry = 0
        ∧ RegsBut s t [(.spn, Reg.SPN_STAT)] ∧ t = { s with regs := t.regs, spn := t.spn, resp := .none }))
  ∧ (∀ (s : State) (eng : Engine), s.running → s.inReset .spn = false → s.spMode ≠ spOff → s.spMode ≠ Machine.spFault →
    Completes (.spindleCoast eng) s (fun t =>
      t.spMode = (if 960 ≤ s.spAbs then spCoast else spStopped) ∧ t.spn.open_ = true ∧ t.f .spn F.SPN_STAT_VEC = 0
        ∧ t.on .spn F.SPN_STAT_AT_SPEED = false ∧ RegsBut s t [(.spn, Reg.SPN_STAT)]
        ∧ t = { s with regs := t.regs, spn := t.spn, resp := .none }))
  ∧ (∀ (s : State) (eng : Engine) (v : Word), s.running → s.inReset .spn = false → s.spMode = spStopped →
    Completes (.dirWrite eng v) s (fun t =>
      t.f .spn F.SPN_CTL_DIR = F.SPN_CTL_DIR.get v ∧ t.f .spn F.SPN_CTL_LOS_EN = F.SPN_CTL_LOS_EN.get v
        ∧ t.f .spn F.SPN_CTL_PADV_EN = F.SPN_CTL_PADV_EN.get v ∧ RegsBut s t [(.spn, Reg.SPN_CTL)] ∧ OnlyRegs s t))
  ∧ (∀ (s : State) (eng : Engine) (v : Word), s.running → s.inReset .spn = false → s.spMode = spRun → 960 ≤ s.spAbs →
    (F.SPN_CTL_DIR.get v == 1) ≠ s.spn.dir →
    Completes (.dirWrite eng v) s (fun t =>
      t.spMode = spBrake ∧ t.on .spn F.SPN_STAT_REV_REF = true ∧ t.spn.dir = (F.SPN_CTL_DIR.get v == 1) ∧ t.spn.startTry = 1
        ∧ t.f .spn F.SPN_STAT_VEC = 0 ∧ t.on .spn F.SPN_STAT_AT_SPEED = false
        ∧ RegsBut s t [(.spn, Reg.SPN_CTL), (.spn, Reg.SPN_STAT), (.spn, Reg.SPN_SPEED)]
        ∧ t = { s with regs := t.regs, spn := t.spn, resp := .none }))
  ∧ (∀ (s : State) (eng : Engine), s.running → s.inReset .spn = false → s.spMode = Machine.spFault → s.spn.stageIn = false →
    s.effEn .spn = true →
    Completes (.spindleFaultClear eng 0x7F) s (fun t =>
      t.unitState .spn = stIdle ∧ t.spMode = (if 960 ≤ s.spAbs then spCoast else spStopped)
        ∧ t.reg .spn Reg.SPN_FLT_STAT &&& 0x7F = 0
        ∧ RegsBut s t [(.spn, Reg.SPN_FLT_STAT), (.spn, Reg.SPN_STAT), (.spn, Reg.UNIT_STAT)]
        ∧ t = { s with regs := t.regs, spn := t.spn, resp := .none }))

/-- The periods of the spindle engine complete: no phase has both its commands high; a boundary applies the vector chosen at
the last one, takes the samples into the flux, torque and angle estimates, and chooses the next vector by the comparators and
the switching table at the advanced angle; without correction the flux is the integral of v − RS × i; a bus above VBUS_TRIP
latches; the PI controller sets T_ref, clamped; a revolution counts, and the fourth in succession outside ±0.1% clears
AT_SPEED and raises the engine's interrupt (R227, R230 to R237, R240, R252, R255). -/
def Obligations.SpindlePeriods : Prop :=
  (∀ (s : State) (ph cycle : Nat), (s.spGate ph cycle).1 = true → (s.spGate ph cycle).2 = false)
  ∧ (∀ (s : State) (raw : DtcSample), s.running → s.clocked .spn = true → s.spMode = spRun →
    raw.vbus ≤ s.f .spn F.SPN_VBUS_LIM_VBUS_TRIP → raw.vbus ≤ s.f .spn F.SPN_VBUS_LIM_VBUS_HI →
    s.on .spn F.SPN_STAT_CHOP_ON = false → s.sumOk raw = true → s.overTrip raw = false →
    s.spn.senseBad = false → s.spn.tripped = false → s.spn.ramp < 9 → 0 ≤ s.spn.tRef → raw.rotor < 2 ^ 16 →
    Completes (.dtcPeriod raw) s (fun t =>
      let x := s.sensed raw
      let k := fluxSector ((if s.on .spn F.SPN_STAT_EST = true then angleOf t.spn.psi else raw.rotor)
        + if s.on .spn F.SPN_CTL_PADV_EN = true then s.advanceAt s.spAbs else 0)
      let et := s.spn.tRef - torqueOf t.spn.psi t.spn.cur * 4096
      t.f .spn F.SPN_STAT_VEC = s.spn.next.getD 0 ∧ t.spn.open_ = s.spn.next.isNone ∧ t.spn.inj = s.spn.nextInj
        ∧ t.f .spn F.SPN_STAT_SECTOR = k
        ∧ t.spn.next = some (switchTable
            (fluxComp s.spn.phi (s.f .spn F.SPN_MOT_K_FLUX_REF) (lengthOf t.spn.psi) (s.f .spn F.SPN_HYST_FLUX_BAND))
            (torqueComp s.spn.tau s.spn.etNeg et (s.f .spn F.SPN_HYST_TQ_BAND * 4096)) k (s.spn.next.getD 0))
        ∧ t.spn.cur = currentOf x
        ∧ (s.on .spn F.SPN_STAT_EST = true → raw.gain = 0 →
            t.spn.psi = (s.spn.psi.1 + 50000 * (phaseVector x.vu x.vv x.vw).1 - 5 * s.f .spn F.SPN_MOT_R_RS * (currentOf x).1,
              s.spn.psi.2 + 50000 * (phaseVector x.vu x.vv x.vw).2 - 5 * s.f .spn F.SPN_MOT_R_RS * (currentOf x).2))
        ∧ t.f .spn F.SPN_TORQUE_FLUX = lengthOf t.spn.psi ∧ t.f .spn F.SPN_TORQUE_TE = unsigned 16 (torqueOf t.spn.psi t.spn.cur)
        ∧ t.f .spn F.SPN_ANGLE_THETA = raw.rotor ∧ t.f .spn F.SPN_VBUS_VBUS = raw.vbus ∧ t.on .spn F.SPN_ANGLE_VALID = true
        ∧ t.spMode = spRun
        ∧ RegsBut s t [(.spn, Reg.SPN_VBUS), (.spn, Reg.SPN_STAT), (.spn, Reg.SPN_ANGLE), (.spn, Reg.SPN_TORQUE)]
        ∧ t = { s with regs := t.regs, spn := t.spn, resp := .none }))
  ∧ (∀ (s : State) (x : DtcSample), s.running → s.live .spn = true → s.f .spn F.SPN_VBUS_LIM_VBUS_TRIP < x.vbus →
    Completes (.dtcPeriod x) s (fun t =>
      t.on .spn F.SPN_FLT_STAT_VBUS_TRIP = true ∧ t.spMode = Machine.spFault ∧ t.unitState .spn = stFault
        ∧ t.spn.open_ = true ∧ t.f .spn F.SPN_STAT_VEC = 0
        ∧ t = { s with regs := t.regs, spn := t.spn, resp := .none }))
  ∧ (∀ (s : State) (v : Int), s.running → s.live .spn = true → s.spMode = spRun → v.natAbs < 2 ^ 17 →
    Completes (.speedLoop (some v)) s (fun t =>
      t.spSpeed = v ∧ t.spMode = spRun
        ∧ t.spn.integ = s.spn.integ + s.f .spn F.SPN_SPD_GAIN_KI * ((s.f .spn F.SPN_SPD_REF_RPM * 16 : Nat) - v)
        ∧ t.spn.tRef = max (-s.torqueClamp) (min s.torqueClamp
            (s.f .spn F.SPN_SPD_GAIN_KP * ((s.f .spn F.SPN_SPD_REF_RPM * 16 : Nat) - v) * 256 + t.spn.integ))
        ∧ RegsBut s t [(.spn, Reg.SPN_SPEED), (.spn, Reg.SPN_STAT)]
        ∧ t = { s with regs := t.regs, spn := t.spn, resp := .none }))
  ∧ (∀ (s : State) (period : Nat), s.running → s.live .spn = true → s.spMode ≠ spOff → 0 < period → period < 2 ^ 29 →
    s.dev.psParked = [] →
    Completes (.revolution period) s (fun t =>
      t.f .spn F.SPN_PERIOD_PERIOD = period
        ∧ t.reg64 .spn Reg.SPN_CNT_REV_LO = (s.reg64 .spn Reg.SPN_CNT_REV_LO + 1) % 2 ^ 64
        ∧ RegsBut s t [(.spn, Reg.SPN_PERIOD), (.spn, Reg.SPN_CNT_REV_LO), (.spn, Reg.SPN_CNT_REV_LO + 4),
            (.spn, Reg.SPN_HOLDUP), (.spn, Reg.SPN_STAT)]
        ∧ t = { s with regs := t.regs, spn := t.spn, resp := .none }))
  ∧ (∀ (s : State) (period : Nat), s.running → s.live .spn = true → s.spMode = spRun → 0 < period →
    s.on .spn F.SPN_STAT_AT_SPEED = true → s.ploss = false → 3 ≤ s.spn.outBand →
    s.f .spn F.SPN_SPD_REF_RPM * period < ((24000000000 : Int) - (s.f .spn F.SPN_SPD_REF_RPM * period : Nat)).natAbs * 1000 →
    Completes (.revolution period) s (fun t =>
      t.on .spn F.SPN_STAT_AT_SPEED = false ∧ t.spn.speedLost = true ∧ t.irqActive 0x10 = true))

/-- The spindle's starting, braking, chopper and fault events complete: MEASURE ends by its table, a catch with the estimator
started from what was measured; ALIGN ends with the angle of the peaks or repeats once; a loss of synchronism is caught again
once; SP_FLT_N retracts every lane (R198, R238, R239, R243 to R246, R249, R254, R525). -/
def Obligations.SpindleEvents : Prop :=
  (∀ (s : State) (v : Int) (a : Nat), s.running → s.live .spn = true → s.spMode = Machine.spMeasure → v.natAbs < 960 → a < 2 ^ 16 →
    Completes (.measureEnd ⟨v, a⟩) s (fun t =>
      t.spMode = spHold ∧ t.spSpeed = v ∧ t.f .spn F.SPN_STAT_VEC = 0 ∧ t.spn.open_ = false
        ∧ RegsBut s t [(.spn, Reg.SPN_SPEED), (.spn, Reg.SPN_STAT)] ∧ t = { s with regs := t.regs, spn := t.spn, resp := .none }))
  ∧ (∀ (s : State) (v : Int) (a : Nat), s.running → s.live .spn = true → s.spMode = Machine.spMeasure → v ≤ 4800 → 960 ≤ v.natAbs →
    a < 2 ^ 16 →
    Completes (.measureEnd ⟨v, a⟩) s (fun t =>
      (s.spn.losOnce = false → t.spMode = spBrake ∧ t.spn.stopping = false ∧ t.f .spn F.SPN_STAT_VEC = 0 ∧ t.spn.open_ = false)
        ∧ (s.spn.losOnce = true → t.on .spn F.SPN_FLT_STAT_LOS = true ∧ t.spMode = Machine.spFault ∧ t.unitState .spn = stFault)
        ∧ t = { s with regs := t.regs, spn := t.spn, resp := .none }))
  ∧ (∀ (s : State) (v : Int) (a : Nat), s.running → s.live .spn = true → s.spMode = Machine.spMeasure → 4800 < v → v < 2 ^ 17 →
    a < 2 ^ 16 →
    Completes (.measureEnd ⟨v, a⟩) s (fun t =>
      (t.spMode = spAccel ∨ t.spMode = spRun) ∧ t.spSpeed = v ∧ t.f .spn F.SPN_ANGLE_THETA = a
        ∧ t.on .spn F.SPN_ANGLE_VALID = true ∧ t.spn.psi = s.currentModel (0, 0) a
        ∧ t = { s with regs := t.regs, spn := t.spn, resp := .none }))
  ∧ (∀ (s : State), s.running → s.live .spn = true → s.spMode = spHold →
    Completes .holdEnd s (fun t =>
      t.spMode = spAlign ∧ t.spn.ticks = 0 ∧ RegsBut s t [(.spn, Reg.SPN_STAT)]
        ∧ t = { s with regs := t.regs, spn := t.spn, resp := .none }))
  ∧ (∀ (s : State) (peaks : List Nat) (a : Nat), s.running → s.live .spn = true → s.spMode = spAlign → alignAngle peaks = some a →
    s.spn.alignTry = 0 →
    Completes (.alignDone peaks) s (fun t =>
      t.spMode = spAccel ∧ t.f .spn F.SPN_ANGLE_THETA = a ∧ t.on .spn F.SPN_ANGLE_VALID = true ∧ t.on .spn F.SPN_STAT_EST = false
        ∧ t.on .spn F.SPN_STAT_REV_REF = false ∧ RegsBut s t [(.spn, Reg.SPN_STAT), (.spn, Reg.SPN_ANGLE)]
        ∧ t = { s with regs := t.regs, spn := t.spn, resp := .none }))
  ∧ (∀ (s : State) (peaks : List Nat), s.running → s.live .spn = true → s.spMode = spAlign → alignAngle peaks = none →
    s.spn.alignTry = 0 →
    Completes (.alignDone peaks) s (fun t =>
      t.spMode = spAlign ∧ t.spn.alignTry = 1 ∧ RegsBut s t [(.spn, Reg.SPN_STAT)]
        ∧ t = { s with regs := t.regs, spn := t.spn, resp := .none }))
  ∧ (∀ (s : State), s.running → s.live .spn = true → s.spMode = spAccel → s.spn.startTry = 1 →
    Completes .spinupTimeout s (fun t =>
      t.spMode = Machine.spMeasure ∧ t.spn.startTry = 2 ∧ t.spn.open_ = true ∧ RegsBut s t [(.spn, Reg.SPN_STAT)]
        ∧ t = { s with regs := t.regs, spn := t.spn, resp := .none }))
  ∧ (∀ (s : State), s.running → s.live .spn = true → s.spMode = spAccel → s.spn.startTry = 2 →
    Completes .spinupTimeout s (fun t =>
      t.on .spn F.SPN_FLT_STAT_START_FAIL = true ∧ t.spMode = Machine.spFault ∧ t.unitState .spn = stFault ∧ t.spn.open_ = true
        ∧ t = { s with regs := t.regs, spn := t.spn, resp := .none }))
  ∧ (∀ (s : State), s.running → s.live .spn = true → s.spMode = spBrake →
    Completes .brakeTimeout s (fun t =>
      t.on .spn F.SPN_FLT_STAT_BRAKE_TMO = true ∧ t.spMode = Machine.spFault ∧ t.unitState .spn = stFault ∧ t.spn.open_ = true
        ∧ t = { s with regs := t.regs, spn := t.spn, resp := .none }))
  ∧ (∀ (s : State), s.running → s.live .spn = true → s.spMode = spRun → s.on .spn F.SPN_CTL_LOS_EN = true → s.syncLost = true →
    s.spn.losOnce = false →
    Completes .lossOfSync s (fun t =>
      t.spMode = Machine.spMeasure ∧ t.spn.losOnce = true ∧ t.spn.open_ = true
        ∧ t.reg64 .spn Reg.SPN_CNT_LOS_LO = (s.reg64 .spn Reg.SPN_CNT_LOS_LO + 1) % 2 ^ 64
        ∧ RegsBut s t [(.spn, Reg.SPN_STAT), (.spn, Reg.SPN_CNT_LOS_LO), (.spn, Reg.SPN_CNT_LOS_LO + 4)]
        ∧ t = { s with regs := t.regs, spn := t.spn, resp := .none }))
  ∧ (∀ (s : State), s.running → s.live .spn = true → spDriving s.spMode = true → s.spn.losOnce = true →
    Completes .losClearTimer s (fun t =>
      t.spn = { s.spn with losOnce := false } ∧ (t.reg .spn Reg.UNIT_ERR).getLsbD 0 = true
        ∧ RegsBut s t [(.spn, Reg.UNIT_ERR), (.spn, Reg.UNIT_RETRY_CNT)] ∧ t = { s with regs := t.regs, spn := t.spn, resp := .none }))
  ∧ (∀ (s : State), s.running → s.on .spn F.SPN_STAT_CHOP_ON = true →
    Completes .chopFeedbackTimeout s (fun t =>
      t.chopFlt = true ∧ t.on .spn F.SPN_STAT_CHOP_ON = false ∧ (t.reg .spn Reg.UNIT_ERR).getLsbD 9 = true
        ∧ t.spMode = (if s.spMode = spDecel then spBrake else s.spMode)
        ∧ RegsBut s t [(.spn, Reg.SPN_STAT), (.spn, Reg.SPN_FLT_STAT), (.spn, Reg.UNIT_ERR)]
        ∧ t = { s with regs := t.regs, spn := t.spn, resp := .none }))
  ∧ (∀ (s : State) (vbus : Nat), s.running → s.on .spn F.SPN_STAT_CHOP_ON = true →
    Completes (.chopRiseTest vbus) s (fun t =>
      (s.spn.chopRise ≤ vbus → t.chopFlt = true ∧ t.on .spn F.SPN_STAT_CHOP_ON = false)
        ∧ (vbus < s.spn.chopRise → OnlyAnswer s t) ∧ t = { s with regs := t.regs, spn := t.spn, resp := .none }))
  ∧ (∀ (s : State), s.running → s.live .spn = true →
    Completes .spFltAccept s (fun t =>
      t.on .spn F.SPN_FLT_STAT_STAGE = true ∧ t.spn.stageIn = true ∧ t.spMode = Machine.spFault ∧ t.unitState .spn = stFault
        ∧ (∀ n, t.mode n = mRetract ∧ (t.sv n).loadTry = 0) ∧ t.mem = s.mem ∧ t.hosts = s.hosts ∧ t.buf = s.buf))
  ∧ (∀ (s : State), s.running → s.spn.stageIn = true →
    Completes .spFltNRelease s (fun t => t.spn = { s.spn with stageIn := false } ∧ t = { s with spn := t.spn, resp := .none }))

/-- The line commands of DRAM complete: a clean read answers the 64 bytes, a corrected one counts its codewords, a line that
stays uncorrectable is poisoned and counted; a write of a line stores its bytes and clears its poison, a partial one the bytes
given; a write-back keeps every byte; a data-plane port reaches DRAM by physical address only within the firmware region (R31,
R262 to R265, R273, R276, R277). -/
def Obligations.DramLines : Prop :=
  (∀ (s : State) (src : DramSrc) (l : Nat) (first again : LineRead), s.running → s.lineGate src l false = none →
    s.lineStalls src = false → (s.decodeLine l first).kind = .clean → (s.decodeLine l first).miss = false →
    Completes (.dramRead src l first again) s (fun t => t.resp = .data (s.bytes (lineAddr l) 64) ∧ OnlyAnswer s t))
  ∧ (∀ (s : State) (src : DramSrc) (l : Nat) (first again : LineRead), s.running → s.lineGate src l false = none →
    s.lineStalls src = false → (s.decodeLine l first).kind = .corrected → (s.decodeLine l first).miss = false →
    Completes (.dramRead src l first again) s (fun t =>
      t.resp = .data (s.bytes (lineAddr l) 64)
        ∧ t.reg64 .buf Reg.BUF_CNT_CE_LO = (s.reg64 .buf Reg.BUF_CNT_CE_LO + (s.decodeLine l first).ce) % 2 ^ 64
        ∧ SameMemory s t ∧ t = { s with regs := t.regs, buf := t.buf, resp := t.resp }))
  ∧ (∀ (s : State) (e : Engine) (l : Nat) (first again : LineRead), s.running → s.lineGate (.engine e) l false = none →
    (s.decodeLine l first).kind = .uncorr → (s.decodeLine l again).kind = .uncorr →
    Completes (.dramRead (.engine e) l first again) s (fun t =>
      t.resp = .busError .uncorrectable ∧ l ∈ t.buf.poisoned
        ∧ t.reg64 .buf Reg.BUF_CNT_UE_LO = (s.reg64 .buf Reg.BUF_CNT_UE_LO + 1) % 2 ^ 64
        ∧ (t.reg .buf Reg.UNIT_ERR).getLsbD 3 = true ∧ (t.reg .buf Reg.UNIT_ERR).getLsbD 1 = true
        ∧ SameMemory s t ∧ t = { s with regs := t.regs, buf := t.buf, resp := t.resp }))
  ∧ (∀ (s : State) (p : DmaPort) (l : Nat) (first again : LineRead), s.running → 64 * l < s.dramUsed →
    s.inFirmware (lineAddr l) 64 = false →
    Completes (.dramRead (.dataPlane p) l first again) s (fun t => t.resp = .busError .accessDenied ∧ OnlyAnswer s t))
  ∧ (∀ (s : State) (src : DramSrc) (l : Nat) (data : List Byte), s.running → s.lineGate src l true = none →
    s.lineStalls src = false → 64 ≤ data.length →
    Completes (.dramLineWrite src l data) s (fun t =>
      (∀ i, i < 64 → t.byte (lineAddr l + i) = data.getD i 0)
        ∧ (∀ a, a < lineAddr l ∨ lineAddr l + 64 ≤ a → t.byte a = s.byte a) ∧ l ∉ t.buf.poisoned
        ∧ RegsBut s t [(.buf, Reg.BUF_INJ_CTL)]
        ∧ t = { s with mem := t.mem, lines := t.lines, regs := t.regs, buf := t.buf, resp := .none }))
  ∧ (∀ (s : State) (src : DramSrc) (l off : Nat) (data : List Byte) (first again : LineRead), s.running →
    s.lineGate src l true = none → s.lineStalls src = false → (s.decodeLine l first).kind = .clean →
    (s.decodeLine l first).miss = false → off + data.length ≤ 64 →
    Completes (.dramPartialWrite src l off data first again) s (fun t =>
      (∀ i, i < data.length → t.byte (lineAddr l + off + i) = data.getD i 0)
        ∧ (∀ a, a < lineAddr l + off ∨ lineAddr l + off + data.length ≤ a → t.byte a = s.byte a)
        ∧ RegsBut s t [(.buf, Reg.BUF_INJ_CTL)]
        ∧ t = { s with mem := t.mem, lines := t.lines, regs := t.regs, buf := t.buf, resp := .none }))
  ∧ (∀ (s : State) (l : Nat) (rest : List Nat) (first again : LineRead), s.running → s.live .buf = true → s.buf.wbq = l :: rest →
    (s.decodeLine l first).kind = .corrected → (s.decodeLine l first).miss = false →
    Completes (.writeBack first again) s (fun t =>
      l ∉ t.buf.wbq ∧ t.reg64 .buf Reg.BUF_CNT_WB_LO = (s.reg64 .buf Reg.BUF_CNT_WB_LO + 1) % 2 ^ 64 ∧ SameMemory s t
        ∧ t = { s with mem := t.mem, lines := t.lines, regs := t.regs, buf := t.buf, resp := .none }))

/-- Scrubbing, training and the fill complete: the patrol goes on to the next line or ends its lap; a range pass starts, or is
refused, and ends with its summary; the training sets TRAINED and FILLING, and the fill clears FILLING (R261, R279, R280,
R568). -/
def Obligations.ScrubAndTraining : Prop :=
  (∀ (s : State) (behind : Bool) (first again : LineRead), s.running → s.patrolRuns = true →
    (s.decodeLine (s.f .buf F.BUF_SCRUB_POS_LINE) first).kind = .clean → 64 * (s.f .buf F.BUF_SCRUB_POS_LINE + 1) < s.dramUsed →
    Completes (.patrolScrubRead behind first again) s (fun t =>
      t.f .buf F.BUF_SCRUB_POS_LINE = s.f .buf F.BUF_SCRUB_POS_LINE + 1 ∧ t.on .buf F.BUF_STAT_BEHIND = behind
        ∧ RegsBut s t [(.buf, Reg.BUF_SCRUB_POS), (.buf, Reg.BUF_STAT)] ∧ OnlyRegs s t))
  ∧ (∀ (s : State) (behind : Bool) (first again : LineRead), s.running → s.patrolRuns = true →
    (s.decodeLine (s.f .buf F.BUF_SCRUB_POS_LINE) first).kind = .clean → s.dramUsed ≤ 64 * (s.f .buf F.BUF_SCRUB_POS_LINE + 1) →
    Completes (.patrolScrubRead behind first again) s (fun t =>
      t.f .buf F.BUF_SCRUB_POS_LINE = 0 ∧ t.reg .buf Reg.BUF_SCRUB_LAP = s.reg .buf Reg.BUF_SCRUB_LAP + 1
        ∧ RegsBut s t [(.buf, Reg.BUF_SCRUB_POS), (.buf, Reg.BUF_STAT), (.buf, Reg.BUF_SCRUB_LAP)]
        ∧ t = { s with regs := t.regs, buf := t.buf, resp := .none }))
  ∧ (∀ (s : State) (eng : Engine) (v : Word), s.running → s.takes .buf = true → F.BUF_SCRUB_CTL_RANGE_GO.get v = 1 →
    F.BUF_SCRUB_CTL_RANGE_EN.get v = 1 → s.buf.range = none → s.f .buf F.BUF_RANGE_START_PAGE ≤ s.f .buf F.BUF_RANGE_END_PAGE →
    s.f .buf F.BUF_RANGE_END_PAGE < s.dramUsed / 4096 →
    Completes (.rangeGo eng v) s (fun t =>
      t.buf.range = some (s.f .buf F.BUF_RANGE_START_PAGE, s.f .buf F.BUF_RANGE_END_PAGE)
        ∧ t.on .buf F.BUF_SCRUB_CTL_RANGE_GO = true ∧ t.on .buf F.BUF_RANGE_STAT_BUSY = true
        ∧ t.on .buf F.BUF_RANGE_STAT_DONE = false ∧ RegsBut s t [(.buf, Reg.BUF_SCRUB_CTL), (.buf, Reg.BUF_RANGE_STAT)]
        ∧ t = { s with regs := t.regs, buf := t.buf, resp := .none }))
  ∧ (∀ (s : State) (eng : Engine) (v : Word), s.running → s.takes .buf = true → F.BUF_SCRUB_CTL_RANGE_GO.get v = 1 →
    F.BUF_SCRUB_CTL_RANGE_EN.get v = 1 → s.f .buf F.BUF_RANGE_END_PAGE < s.f .buf F.BUF_RANGE_START_PAGE →
    Completes (.rangeGo eng v) s (fun t =>
      (t.reg .buf Reg.UNIT_ERR).getLsbD 6 = true ∧ t.buf = s.buf
        ∧ RegsBut s t [(.buf, Reg.BUF_SCRUB_CTL), (.buf, Reg.UNIT_ERR)] ∧ OnlyRegs s t))
  ∧ (∀ (s : State) (a b : Nat), s.running → s.live .buf = true → s.buf.range = some (a, b) → a ≤ b → b < 2 ^ 23 →
    s.buf.flips = [] → s.buf.poisoned = [] →
    Completes (.rangePassDone []) s (fun t =>
      t.buf.range = none ∧ t.reg .buf Reg.BUF_RANGE_LINES = BitVec.ofNat 32 ((b + 1 - a) * 64) ∧ t.reg .buf Reg.BUF_RANGE_CE = 0
        ∧ t.reg .buf Reg.BUF_RANGE_UE = 0 ∧ t.on .buf F.BUF_RANGE_STAT_DONE = true ∧ t.on .buf F.BUF_RANGE_STAT_BUSY = false
        ∧ t.on .buf F.BUF_SCRUB_CTL_RANGE_GO = false
        ∧ RegsBut s t [(.buf, Reg.BUF_RANGE_LINES), (.buf, Reg.BUF_RANGE_CE), (.buf, Reg.BUF_RANGE_UE), (.buf, Reg.BUF_RANGE_FIRST),
            (.buf, Reg.BUF_RANGE_STAT), (.buf, Reg.BUF_SCRUB_CTL)]
        ∧ t = { s with regs := t.regs, buf := t.buf, resp := .none }))
  ∧ (∀ (s : State), s.running → s.on .buf F.BUF_STAT_FILLING = true →
    Completes .zeroFillDone s (fun t =>
      t.on .buf F.BUF_STAT_FILLING = false ∧ RegsBut s t [(.buf, Reg.BUF_STAT)] ∧ OnlyRegs s t))
  ∧ (∀ (s : State), s.running → s.takes .buf = true → s.on .buf F.BUF_STAT_TRAINED = false → s.stage = 8 → s.bufConfigBad = false →
    Completes (.ddrTrained true) s (fun t =>
      t.on .buf F.BUF_STAT_TRAINED = true ∧ t.on .buf F.BUF_STAT_FILLING = true
        ∧ t.f .buf F.BUF_STAT_RATE = s.f .buf F.BUF_CFG_RATE ∧ RegsBut s t [(.buf, Reg.BUF_STAT)] ∧ OnlyRegs s t))

/-- The translation table, page retirement and injection complete: an entry written takes its word in the table, one that
names a page outside the pool is refused; a retirement marks its entry MOVING and ends with the spare page in it; injection
registers are written only with INJ_EN (R266, R267, R281, R282, R285). -/
def Obligations.TableAndRetirement : Prop :=
  (∀ (s : State) (eng : Engine) (v : Word), s.running → s.inReset .buf = false →
    s.f .buf F.BUF_BTT_IDX_HANDLE < s.f .buf F.BUF_HDL_LIMIT_LIMIT → bttMoving v = false →
    bttMoving (s.btt (s.f .buf F.BUF_BTT_IDX_HANDLE)) = false → s.inPool (bttPpn v) = true →
    Completes (.bttWrite eng v) s (fun t =>
      t.btt (s.f .buf F.BUF_BTT_IDX_HANDLE) = v &&& 0xC07FFFFF
        ∧ (∀ a, a < s.bttAddr (s.f .buf F.BUF_BTT_IDX_HANDLE) ∨ s.bttAddr (s.f .buf F.BUF_BTT_IDX_HANDLE) + 4 ≤ a →
            t.byte a = s.byte a)
        ∧ t = { s with mem := t.mem, lines := t.lines, resp := .none }))
  ∧ (∀ (s : State) (eng : Engine) (v : Word), s.running → s.inReset .buf = false →
    s.f .buf F.BUF_BTT_IDX_HANDLE < s.f .buf F.BUF_HDL_LIMIT_LIMIT → bttValid v = true → s.inPool (bttPpn v) = false →
    Completes (.bttWrite eng v) s (fun t =>
      (t.reg .buf Reg.UNIT_ERR).getLsbD 6 = true ∧ RegsBut s t [(.buf, Reg.UNIT_ERR)] ∧ OnlyRegs s t))
  ∧ (∀ (s : State) (eng : Engine) (v : Word), s.running → s.takes .buf = true → F.BUF_RET_CMD_GO.get v = 1 → s.buf.ret = none →
    bttValid (s.btt (F.BUF_RET_CMD_HANDLE.get v)) = true → s.inPool (s.f .buf F.BUF_RET_SPARE_PPN) = true →
    Completes (.retireGo eng v) s (fun t =>
      t.buf.ret = some (F.BUF_RET_CMD_HANDLE.get v, s.f .buf F.BUF_RET_SPARE_PPN)
        ∧ bttMoving (t.btt (F.BUF_RET_CMD_HANDLE.get v)) = true
        ∧ bttPpn (t.btt (F.BUF_RET_CMD_HANDLE.get v)) = bttPpn (s.btt (F.BUF_RET_CMD_HANDLE.get v))
        ∧ t.on .buf F.BUF_RET_STAT_BUSY = true ∧ RegsBut s t [(.buf, Reg.BUF_RET_STAT)]
        ∧ (∀ a, a < s.bttAddr (F.BUF_RET_CMD_HANDLE.get v) ∨ s.bttAddr (F.BUF_RET_CMD_HANDLE.get v) + 4 ≤ a → t.byte a = s.byte a)
        ∧ t = { s with mem := t.mem, lines := t.lines, regs := t.regs, buf := t.buf, resp := .none }))
  ∧ (∀ (s : State) (eng : Engine) (v : Word), s.running → s.inReset .buf = false → F.BUF_RET_CMD_GO.get v = 1 →
    s.inPool (s.f .buf F.BUF_RET_SPARE_PPN) = false →
    Completes (.retireGo eng v) s (fun t =>
      t.on .buf F.BUF_RET_STAT_REFUSED = true ∧ t.on .buf F.BUF_RET_STAT_DONE = false
        ∧ (t.reg .buf Reg.UNIT_ERR).getLsbD 6 = true ∧ RegsBut s t [(.buf, Reg.BUF_RET_STAT), (.buf, Reg.UNIT_ERR)] ∧ OnlyRegs s t))
  ∧ (∀ (s : State) (h spare : Nat), s.running → s.live .buf = true → s.buf.ret = some (h, spare) →
    h < s.f .buf F.BUF_HDL_LIMIT_LIMIT → spare < 2 ^ 23 → s.buf.flips = [] → s.buf.poisoned = [] →
    Completes (.retireDone []) s (fun t =>
      t.buf.ret = none ∧ bttPpn (t.btt h) = spare ∧ bttMoving (t.btt h) = false ∧ t.on .buf F.BUF_RET_STAT_DONE = true
        ∧ t.f .buf F.BUF_RET_STAT_OLD_PPN = bttPpn (s.btt h)
        ∧ t.reg64 .buf Reg.BUF_CNT_RETIRE_LO = (s.reg64 .buf Reg.BUF_CNT_RETIRE_LO + 1) % 2 ^ 64
        ∧ (∀ i, i < 4096 → (dramBase + spare * 4096 + i < s.bttAddr h ∨ s.bttAddr h + 4 ≤ dramBase + spare * 4096 + i) →
            t.byte (dramBase + spare * 4096 + i) = s.byte (dramBase + bttPpn (s.btt h) * 4096 + i))
        ∧ t = { s with mem := t.mem, lines := t.lines, regs := t.regs, buf := t.buf, resp := .none }))
  ∧ (∀ (s : State) (eng : Engine) (v : Word), s.running → s.inReset .buf = false → s.on .buf F.BUF_CFG_INJ_EN = true →
    Completes (.injectArm eng v) s (fun t =>
      t.f .buf F.BUF_INJ_CTL_ARM = F.BUF_INJ_CTL_ARM.get v ∧ t.f .buf F.BUF_INJ_CTL_TARGET = F.BUF_INJ_CTL_TARGET.get v
        ∧ RegsBut s t [(.buf, Reg.BUF_INJ_CTL)] ∧ OnlyRegs s t))
  ∧ (∀ (s : State) (eng : Engine) (v : Word), s.running → s.inReset .buf = false → s.on .buf F.BUF_CFG_INJ_EN = false →
    Completes (.injectArm eng v) s (Denied eng .accessDenied s))

/-- The granule moves and the contexts of suspended transfers complete: a write sector is fetched into the FIFO with its
bytes, a granule from the host is written encrypted through its handle, one for the host is delivered decrypted, a context is
resumed, aborted or timed out, and a notice or an event is popped (R4, R33, R126, R268 to R271, R287, R436). -/
def Obligations.GranulesAndContexts : Prop :=
  (∀ (s : State) (n : Fin 4) (ctx : Fin 64) (d : Disp) (p : Nat) (back : Bool), s.running → s.live (.chn n) = true → (s.lane n).cur = some d →
    d.isWrite = true → d.ended = none → 0 < d.count → d.settled = [] → (s.ch n).wfifo = [] → s.translate d.handle false = .page p →
    s.lines = [] → s.buf.flips = [] → s.buf.poisoned = [] →
    Completes (.dmaGranule (.fetch n []) ctx ⟨.ok, back⟩) s (fun t =>
      (t.ch n).wfifo = [⟨0, d.id, false, s.bytes (dramBase + p * 4096) 4096⟩] ∧ t = { s with chns := t.chns, resp := .none }))
  ∧ (∀ (s : State) (ch : Fin 16) (ctx : Fin 64) (i peer h p : Nat) (data : List Byte) (x : Slot) (b : Nat × Nat) (back : Bool),
    s.running → s.live .cmd = true → s.cmd.stopped = false → s.slot? i = some x → x.st = .taken → x.engineWrite = true → x.lock.isSome = true →
    x.granules = [(h, sqeCount x.sqe)] → x.inserted = false → x.filled = 0 → x.bound = some b → s.hasContext i = false →
    s.dev.diePause = false → s.cmd.dma = [] → s.cmd.dmaWait = [] → s.translate h true = .page p → data.length = 4096 →
    Completes (.dmaGranule (.hostIn ch i peer data) ctx ⟨.ok, back⟩) s (fun t =>
      (t.slot? i).map (fun y => y.filled) = some 1
        ∧ (∀ k, k < 4096 → (dramBase + p * 4096 + k < s.bttAddr h ∨ s.bttAddr h + 4 ≤ dramBase + p * 4096 + k) →
            t.byte (dramBase + p * 4096 + k) = (x.xts x.lba true data).getD k 0)
        ∧ (∀ a, (a < dramBase + p * 4096 ∨ dramBase + p * 4096 + 4096 ≤ a) → (a < s.bttAddr h ∨ s.bttAddr h + 4 ≤ a) →
            t.byte a = s.byte a)
        ∧ t = { s with mem := t.mem, lines := t.lines, regs := t.regs, buf := t.buf, cmd := t.cmd, resp := .none }))
  ∧ (∀ (s : State) (ch : Fin 16) (ctx : Fin 64) (i peer h p : Nat) (x : Slot) (b : Nat × Nat) (back : Bool),
    s.running → s.live .cmd = true → s.cmd.stopped = false → s.slot? i = some x → x.st = .work → x.bound = some b →
    s.hasContext i = false → s.dev.diePause = false → s.cmd.dma = [] → s.cmd.dmaWait = [] → s.translate h false = .page p →
    s.lines = [] → s.buf.flips = [] → s.buf.poisoned = [] →
    Completes (.dmaGranule (.hostOut ch i h peer []) ctx ⟨.ok, back⟩) s (fun t =>
      t.resp = .data (x.xts x.lba false (s.bytes (dramBase + p * 4096) 4096))
        ∧ t = { s with cmd := t.cmd, resp := t.resp }))
  ∧ (∀ (s : State) (eng : Engine) (ctx : Fin 64) (d : DmaCtx), s.running → s.inReset .buf = false → s.ctx? ctx.val = some d →
    d.preempted = false → (s.slotState d.tag).isOpen = true → bttValid (s.btt d.hdl) = true → s.dsrBase = none →
    Completes (.fltResume eng ctx) s (fun t =>
      t.cmd = { s.cmd with dmaWait := s.cmd.dmaWait ++ [d.transfer] }
        ∧ t.buf = { s.buf with ctxs := Sparse.erase s.buf.ctxs ctx.val } ∧ t = { s with cmd := t.cmd, buf := t.buf, resp := .none }))
  ∧ (∀ (s : State) (eng : Engine) (ctx : Fin 64) (d : DmaCtx), s.running → s.inReset .buf = false → s.ctx? ctx.val = some d →
    d.preempted = false → d.req < 2 → s.cmd.stopped = false →
    Completes (.fltAbort eng ctx) s (fun t =>
      t.ctx? ctx.val = none ∧ (t.slotState d.tag).isOpen = false))
  ∧ (∀ (s : State) (ctx : Fin 64) (d : DmaCtx), s.running → s.live .buf = true → s.ctx? ctx.val = some d →
    d.preempted = false → d.req < 2 → s.cmd.stopped = false →
    Completes (.fltTmo ctx) s (fun t =>
      t.ctx? ctx.val = none ∧ (t.slotState d.tag).isOpen = false ∧ (t.reg .buf Reg.UNIT_ERR).getLsbD 9 = true))
  ∧ (∀ (s : State) (eng : Engine) (w : Word) (rest : List Word), s.running → s.inReset .buf = false → s.buf.notices = w :: rest →
    Completes (.fltPop eng) s (fun t =>
      t.resp = .value w ∧ t.buf = { s.buf with notices := rest } ∧ t = { s with buf := t.buf, resp := t.resp }))
  ∧ (∀ (s : State) (eng : Engine) (lo hi : Word) (rest : List (Word × Word)), s.running → s.inReset .buf = false →
    s.buf.events = (lo, hi) :: rest →
    Completes (.bufEvPop eng) s (fun t =>
      t.resp = .value lo ∧ t.buf = { s.buf with events := rest } ∧ t.latch? .buf eng = some (Reg.BUF_EV_LO, hi)
        ∧ RegsBut s t [(.buf, Reg.BUF_EV_STAT)] ∧ t = { s with buf := t.buf, regs := t.regs, dev := t.dev, resp := t.resp }))

/-- The zone commands and the admin Abort complete: a Zone Management Send that a pool holds acts on its zone once, a Receive
answers its report, and an Abort wins the commit point of an open command or finds none (R292, R293, R297, R343). -/
def Obligations.ZoneCommands : Prop :=
  (∀ (s : State) (i : Nat) (x : Slot) (n : Namespace), s.zoneDue i zaReset x n →
    (s.zoneNamed x).st ≠ .readOnly → (s.zoneNamed x).st ≠ .offline →
    Completes (.zoneReset i) s (fun t =>
      t.resp = .status .success ∧ t.zoneNamed x = Zone.reset ∧ (t.slot? i).map Slot.acted = some true ∧ t.mem = s.mem
        ∧ (∀ z, z ≠ sqeLba x.sqe / zoneSize → t.zone n.nsid z = s.zone n.nsid z)
        ∧ (∀ (v : UnitId) (o : Nat), (∀ m, v ≠ .chn m) → o < 0x1000 → t.reg v o = s.reg v o)))
  ∧ (∀ (s : State) (i : Nat) (x : Slot) (n : Namespace), s.zoneDue i zaFinish x n →
    (s.zoneNamed x).st.isActive = true ∨ (s.zoneNamed x).st = .empty →
    Completes (.zoneFinish i) s (fun t =>
      t.resp = .status .success ∧ (t.zoneNamed x).st = .full ∧ (t.zoneNamed x).wp = n.cap (sqeLba x.sqe / zoneSize)
        ∧ (t.zoneNamed x).void = (s.zoneNamed x).void ∧ (t.slot? i).map Slot.acted = some true
        ∧ t = { s with hosts := t.hosts, cmd := { s.cmd with slots := t.cmd.slots }, resp := t.resp }))
  ∧ (∀ (s : State) (i : Nat) (x : Slot) (n : Namespace), s.zoneDue i zaOpen x n →
    (s.zoneNamed x).st = .implOpen ∨ ((s.zoneNamed x).st = .empty ∧ s.zonesOf n.nsid = []) →
    Completes (.zoneOpen i) s (fun t =>
      t.resp = .status .success ∧ t.zoneNamed x = { s.zoneNamed x with st := .explOpen } ∧ (t.slot? i).map Slot.acted = some true
        ∧ t = { s with hosts := t.hosts, cmd := { s.cmd with slots := t.cmd.slots }, resp := t.resp }))
  ∧ (∀ (s : State) (i : Nat) (x : Slot) (n : Namespace), s.zoneDue i zaClose x n → (s.zoneNamed x).st.isOpen = true →
    Completes (.zoneClose i) s (fun t =>
      t.resp = .status .success ∧ t.zoneNamed x = { s.zoneNamed x with st := .closed } ∧ (t.slot? i).map Slot.acted = some true
        ∧ t = { s with hosts := t.hosts, cmd := { s.cmd with slots := t.cmd.slots }, resp := t.resp }))
  ∧ (∀ (s : State) (i : Nat) (x : Slot) (n : Namespace), s.zoneDue i zaOffline x n → (s.zoneNamed x).st = .readOnly →
    Completes (.zoneOffline i) s (fun t =>
      t.resp = .status .success ∧ t.zoneNamed x = { s.zoneNamed x with st := .offline } ∧ (t.slot? i).map Slot.acted = some true
        ∧ t = { s with hosts := t.hosts, cmd := { s.cmd with slots := t.cmd.slots }, resp := t.resp }))
  ∧ (∀ (s : State) (i : Nat) (x : Slot) (n : Namespace), s.zoneDue i zaOpen x n → (s.zoneNamed x).st = .full →
    Completes (.zoneOpen i) s (fun t => t.resp = .status .invalidTransition ∧ t.hosts = s.hosts ∧ t.mem = s.mem ∧ t.regs = s.regs))
  ∧ (∀ (s : State) (i : Nat) (x : Slot) (n : Namespace), s.running → s.slot? i = some x → x.st = .work →
    sqeOp x.sqe = opZoneRecv → x.io = true → s.ns? (sqeNsid x.sqe) = some n → sqeBits x.sqe 13 0 8 = 0 →
    Completes (.zoneReceive i) s (fun t => t.resp = .data (s.zoneReport x n) ∧ OnlyAnswer s t))
  ∧ (∀ (s : State) (eng : Engine) (i j : Nat) (x y : Slot), s.running → s.live .cmd = true → s.cmd.stopped = false →
    s.slot? i = some x → x.st = .work → x.sqid = 0 → sqeOp x.sqe = opAbort → x.acted = false →
    (s.cmd.slots.filter (fun (e : Nat × Slot) => e.2.fn == x.fn && e.2.sqid == 0 && sqeOp e.2.sqe == opAbort && e.2.st.isOpen
      && decide (e.2.order < x.order))).length < 4 →
    F.CMD_ABT_KEY_SQID.get (sqeDw x.sqe 10) ≠ 0 →
    s.cmd.slots.find? (fun (e : Nat × Slot) => e.2.fn == x.fn && e.2.sqid == F.CMD_ABT_KEY_SQID.get (sqeDw x.sqe 10)
      && e.2.cid == F.CMD_ABT_KEY_CID.get (sqeDw x.sqe 10) && e.2.st.isOpen) = some (j, y) →
    Completes (.abortCommand eng i) s (fun t =>
      t.resp = .value 0 ∧ (t.slotState j).isOpen = false
        ∧ t.reg64 .cmd Reg.CMD_CNT_ABORT_LO = (s.reg64 .cmd Reg.CMD_CNT_ABORT_LO + 1) % 2 ^ 64))
  ∧ (∀ (s : State) (eng : Engine) (i : Nat) (x : Slot), s.running → s.live .cmd = true →
    s.slot? i = some x → x.st = .work → x.sqid = 0 → sqeOp x.sqe = opAbort → x.acted = false →
    (s.cmd.slots.filter (fun (e : Nat × Slot) => e.2.fn == x.fn && e.2.sqid == 0 && sqeOp e.2.sqe == opAbort && e.2.st.isOpen
      && decide (e.2.order < x.order))).length < 4 →
    s.cmd.slots.all (fun (e : Nat × Slot) => !(e.2.fn == x.fn && e.2.sqid == F.CMD_ABT_KEY_SQID.get (sqeDw x.sqe 10)
      && e.2.cid == F.CMD_ABT_KEY_CID.get (sqeDw x.sqe 10) && e.2.sqid != 0)) = true →
    Completes (.abortCommand eng i) s (fun t =>
      t.resp = .value 1 ∧ (t.slot? i).map Slot.acted = some true ∧ t = { s with cmd := t.cmd, resp := t.resp }))

/-- The vault's commands complete: an accepted PFAIL_N latches, stops the commands, retracts the lanes and begins the save; a
page that cannot be programmed enters the lost list; the closing record leaves the area's save; an erase clears ARMED and its
end sets it (R46, R198, R250, R314 to R319, R323, R524). -/
def Obligations.VaultCommands : Prop :=
  (∀ (s : State), s.running → s.on .hkp F.HKP_IN_STAT_PFAIL_LATCH = false → s.saveReady = false → s.dev.warmInProgress = false →
    Completes .pfailAccept s (fun t =>
      t.on .hkp F.HKP_IN_STAT_PFAIL_LATCH = true ∧ t.cmd.stopped = true ∧ t.house.pfailRaw = true ∧ t.ploss = true
        ∧ (∀ n, t.mode n = mRetract) ∧ t.vault = s.vault ∧ t.mem = s.mem ∧ t.hosts = s.hosts
        ∧ t.buf = s.buf ∧ t.pools = s.pools))
  ∧ (∀ (s : State), s.running → s.on .hkp F.HKP_IN_STAT_PFAIL_LATCH = false → s.saveReady = true → s.vault.saving = none →
    Completes .pfailAccept s (fun t =>
      t.on .hkp F.HKP_IN_STAT_PFAIL_LATCH = true ∧ t.cmd.stopped = true
        ∧ t.vault.saving.map (fun x => x.seq) = some (s.reg64 .svc Reg.SVC_VLT_SEQ_LO + 1)
        ∧ t.vault.saveA = s.vault.saveA ∧ t.vault.saveB = s.vault.saveB))
  ∧ (∀ (s : State) (gs : List Nat) (x : Save), s.running → s.vault.saving = some x →
    Completes (.pageProgramFail gs true) s (fun t =>
      (t.reg .svc Reg.UNIT_ERR).getLsbD 0 = true ∧ RegsBut s t [(.svc, Reg.UNIT_ERR), (.svc, Reg.UNIT_RETRY_CNT)] ∧ OnlyRegs s t))
  ∧ (∀ (s : State) (x : Save) (g : SavedGran) (rest : List SavedGran), s.running → s.vault.saving = some x → x.grans = g :: rest →
    rest.all (fun r => r.nsid != g.nsid || r.lba != g.lba) = true →
    Completes (.pageProgramFail [0] false) s (fun t =>
      t.vault = { s.vault with saving := some { x with grans := rest, lost := x.lost ++ [(g.nsid, g.lba)] } }
        ∧ (t.reg .svc Reg.UNIT_ERR).getLsbD 1 = true ∧ RegsBut s t [(.svc, Reg.UNIT_ERR), (.svc, Reg.UNIT_LAST_CNT)]
        ∧ t = { s with regs := t.regs, vault := t.vault, resp := .none }))
  ∧ (∀ (s : State) (saved : Nat) (high : Bool) (x : Save), s.running → s.vault.saving = some x →
    s.on .hkp F.HKP_IN_STAT_PFAIL_LATCH = false → s.on .spn F.SPN_STAT_HOLDUP_LOW = false →
    Completes (.saveComplete saved high) s (fun t =>
      t.saveOf s.protArea = some x ∧ t.vault.saving = none ∧ t.on .svc (armedField s.protArea) = false
        ∧ t.on .svc (saveField s.protArea) = true ∧ t.on .svc F.SVC_VLT_SAVE_STAT_VALID = true
        ∧ t.on .svc F.SVC_VLT_SAVE_STAT_PARTIAL = x.partialSave
        ∧ t.reg64 .svc Reg.SVC_VLT_CNT_SAVE_LO = (s.reg64 .svc Reg.SVC_VLT_CNT_SAVE_LO + 1) % 2 ^ 64
        ∧ RegsBut s t [(.svc, Reg.SVC_VLT_STAT), (.svc, Reg.SVC_VLT_SAVE_STAT), (.svc, Reg.SVC_VLT_CNT_SAVE_LO),
            (.svc, Reg.SVC_VLT_CNT_SAVE_LO + 4)]
        ∧ t = { s with regs := t.regs, vault := t.vault, resp := .none }))
  ∧ (∀ (s : State), s.running → s.vault.stopped = true →
    Completes .pfailHigh10ms s (fun t =>
      t.house.pfailRaw = false ∧ t.dev.warmInProgress = true ∧ t.vault.stopped = false ∧ t.vault.saving = none
        ∧ t.vault.saveA = s.vault.saveA ∧ t.vault.saveB = s.vault.saveB))
  ∧ (∀ (s : State), s.running → s.vault.stopped = false →
    Completes .pfailHigh10ms s (fun t => t.house = { s.house with pfailRaw := false } ∧ t = { s with house := t.house, resp := .none }))
  ∧ (∀ (s : State) (v : Word), s.running → s.inReset .hkp = false → F.HKP_IN_CTL_PFAIL_CLR.get v = 1 →
    Completes (.pfailClr .service v false) s (fun t =>
      t.on .hkp F.HKP_IN_STAT_PFAIL_LATCH = false ∧ t.ploss = false ∧ t.house = { s.house with pfailRaw := false }
        ∧ RegsBut s t [(.hkp, Reg.HKP_IN_STAT), (.spn, Reg.SPN_STAT)]
        ∧ t = { s with regs := t.regs, house := t.house, resp := .none }))
  ∧ (∀ (s : State) (v : Word), s.running → s.inReset .hkp = false →
    Completes (.pfailClr .service v true) s (fun t =>
      t.house = { s.house with pfailRaw := true } ∧ t = { s with house := t.house, resp := .none }))
  ∧ (∀ (s : State) (v : Word), s.running → s.inReset .svc = false → F.SVC_VLT_CMD_GO.get v = 1 →
    F.SVC_VLT_CMD_AREA.get v ≠ s.protArea → s.saveOf (F.SVC_VLT_CMD_AREA.get v) = none →
    Completes (.vaultAreaErase .service v) s (fun t =>
      F.SVC_VLT_CMD_AREA.get v ∈ t.vault.erasing ∧ t.on .svc (armedField (F.SVC_VLT_CMD_AREA.get v)) = false
        ∧ t.on .svc F.SVC_VLT_STAT_ERASING = true ∧ RegsBut s t [(.svc, Reg.SVC_VLT_STAT)]
        ∧ t = { s with regs := t.regs, vault := t.vault, hosts := t.hosts, cmd := t.cmd, resp := .none }))
  ∧ (∀ (s : State) (v : Word), s.running → s.inReset .svc = false → F.SVC_VLT_CMD_GO.get v = 1 →
    F.SVC_VLT_CMD_AREA.get v = s.protArea →
    Completes (.vaultAreaErase .service v) s (fun t =>
      (t.reg .svc Reg.UNIT_ERR).getLsbD 6 = true ∧ RegsBut s t [(.svc, Reg.UNIT_ERR)] ∧ OnlyRegs s t))
  ∧ (∀ (s : State) (mib a : Nat) (rest : List Nat), s.running → s.vault.erasing = a :: rest → mib < 2 ^ 16 →
    Completes (.areaEraseDone mib) s (fun t =>
      t.on .svc (armedField a) = true ∧ t.f .svc (capField a) = mib ∧ t.vault = { s.vault with erasing := rest }
        ∧ t.on .svc F.SVC_VLT_STAT_ERASING = !rest.isEmpty ∧ RegsBut s t [(.svc, Reg.SVC_VLT_STAT), (.svc, (capField a).off)]
        ∧ t = { s with regs := t.regs, vault := t.vault, hosts := t.hosts, cmd := t.cmd, resp := .none }))

/-- The queues of commands fill and empty: a doorbell moves a tail, fetched entries join their queue, an entry written lies in
the buffer, and the engine takes the next entry of a queue into a slot: an I/O command stays in TAKEN, an admin command goes
to a pool, a barrier holds its queue (R324, R327 to R332, R342). -/
def Obligations.QueuesAndTakes : Prop :=
  (∀ (s : State) (fn : Fin 64) (sqid tail : Nat) (q : Sq), s.running → s.subq? fn.val sqid = some q → s.ctrlServes fn.val = true →
    tail < q.size →
    Completes (.sqDoorbell fn sqid tail) s (fun t =>
      t.subq? fn.val sqid = some { q with tail := tail } ∧ t = { s with cmd := { s.cmd with sqs := t.cmd.sqs }, resp := .none }))
  ∧ (∀ (s : State) (fn : Fin 64) (sqid : Nat) (l : List Sqe) (q : Sq), s.running → s.subq? fn.val sqid = some q → q.sram = false →
    1 ≤ l.length → l.length ≤ 8 → q.fetched + l.length ≤ q.size → l.length ≤ (q.tail + q.size - q.fetched) % q.size →
    s.engineRuns = true → s.ctrlServes fn.val = true →
    Completes (.sqFetchComplete fn sqid l) s (fun t =>
      t.subq? fn.val sqid = some { q with fetched := (q.fetched + l.length) % q.size, entries := q.entries ++ l }
        ∧ t = { s with cmd := { s.cmd with sqs := t.cmd.sqs }, resp := .none }))
  ∧ (∀ (s : State) (fn : Fin 64) (sqid idx : Nat) (e : Sqe) (q : Sq), s.running → s.subq? fn.val sqid = some q → q.sram = true →
    idx < q.size → (s.port (s.fnPort fn.val)).zeroing = false →
    Completes (.queueSramEntryWrite fn sqid idx e) s (fun t =>
      (∀ k, k < 16 → t.word (q.addr idx + 4 * k) = sqeDw e k)
        ∧ (∀ a, a < q.addr idx ∨ q.addr idx + 64 ≤ a → t.byte a = s.byte a) ∧ RegsBut s t [(.buf, Reg.BUF_INJ_CTL)]
        ∧ t = { s with mem := t.mem, lines := t.lines, regs := t.regs, buf := t.buf, resp := .none }))
  ∧ (∀ (s : State) (fn : Fin 64) (sqid i : Nat) (q : Sq), s.running → s.subq? fn.val sqid = some q → s.engineRuns = true →
    s.ctrlServes fn.val = true → q.ready = true → i < 65536 → s.slot? i = none → q.held = false → s.dev.diePause = false →
    s.yields q = false → s.entryParity q .none = .none → s.mayTake fn.val = true → sqid ≠ 0 → s.dev.ps < 3 →
    s.takeStatus fn.val (s.nextEntry q) .none = none → sqeOp (s.nextEntry q) ≠ opBarrier →
    Completes (.commandTake fn sqid i .none) s (fun t =>
      t.slot? i = some (freshSlot q (s.nextEntry q) s.cmd.nextOrder false) ∧ t.subq? fn.val sqid = some q.advance
        ∧ t = { s with cmd := { s.cmd with sqs := t.cmd.sqs, slots := t.cmd.slots, nextOrder := s.cmd.nextOrder + 1 },
                       resp := .none }))
  ∧ (∀ (s : State) (fn : Fin 64) (i : Nat) (q : Sq), s.running → s.subq? fn.val 0 = some q → s.engineRuns = true →
    s.ctrlServes fn.val = true → q.ready = true → i < 65536 → s.slot? i = none → q.held = false → s.dev.diePause = false →
    s.entryParity q .none = .none → s.mayTake fn.val = true →
    Completes (.commandTake fn 0 i .none) s (fun t =>
      t.slot? i = some { freshSlot q (s.nextEntry q) s.cmd.nextOrder false with placed := true }
        ∧ t.subq? fn.val 0 = some q.advance
        ∧ t = { s with cmd := { s.cmd with sqs := t.cmd.sqs, slots := t.cmd.slots, nextOrder := s.cmd.nextOrder + 1,
                                           workQ := s.cmd.workQ ++ [⟨s.nextEntry q, i, fn.val, 0, 0, 0, 0, 0⟩] },
                       resp := .none }))
  ∧ (∀ (s : State) (fn : Fin 64) (sqid i : Nat) (q : Sq), s.running → s.subq? fn.val sqid = some q → s.engineRuns = true →
    s.ctrlServes fn.val = true → q.ready = true → i < 65536 → s.slot? i = none → q.held = false → s.dev.diePause = false →
    s.yields q = false → s.entryParity q .none = .none → s.mayTake fn.val = true → sqid ≠ 0 → s.dev.ps < 3 →
    s.takeStatus fn.val (s.nextEntry q) .none = none → sqeOp (s.nextEntry q) = opBarrier →
    Completes (.commandTake fn sqid i .none) s (fun t =>
      t.slot? i = some (freshSlot q (s.nextEntry q) s.cmd.nextOrder false)
        ∧ t.subq? fn.val sqid = some { q.advance with held := true }))
  ∧ (∀ (s : State) (fn : Fin 64) (sqid i : Nat) (q : Sq), s.running → s.subq? fn.val sqid = some q → s.engineRuns = true →
    s.ctrlServes fn.val = true → q.ready = true → i < 65536 → s.slot? i = none → q.held = false → s.dev.diePause = false →
    s.yields q = false → s.entryParity q .none = .none → s.mayTake fn.val = true → sqid ≠ 0 → 3 ≤ s.dev.ps → s.dev.lastOp < 3 →
    s.dev.psStopped = false → s.on .spn F.SPN_STAT_AT_SPEED = false →
    s.takeStatus fn.val (s.nextEntry q) .none = none → sqeOp (s.nextEntry q) ≠ opBarrier →
    Completes (.commandTake fn sqid i .none) s (fun t =>
      t.slot? i = some (freshSlot q (s.nextEntry q) s.cmd.nextOrder false) ∧ t.subq? fn.val sqid = some q.advance
        ∧ t.dev = { s.dev with ps := s.dev.lastOp, psWanted := none } ∧ t.capLevel = s.dev.lastOp
        ∧ RegsBut s t [(.dev, Reg.DEV_PWR_CAP)]
        ∧ t = { s with cmd := { s.cmd with sqs := t.cmd.sqs, slots := t.cmd.slots, nextOrder := s.cmd.nextOrder + 1 },
                       dev := t.dev, regs := t.regs, freeCtr := t.freeCtr,
                       hzl := { s.hzl with engines := t.hzl.engines, waiting := t.hzl.waiting }, resp := .none }))
  ∧ (∀ (s : State) (fn : Fin 64) (sqid i : Nat) (q : Sq), s.running → s.subq? fn.val sqid = some q → s.engineRuns = true →
    s.ctrlServes fn.val = true → q.ready = true → i < 65536 → s.slot? i = none → q.held = false → s.dev.diePause = false →
    s.yields q = false → s.entryParity q .none = .none → s.mayTake fn.val = true → sqid ≠ 0 → 3 ≤ s.dev.ps → s.dev.lastOp < 3 →
    s.dev.psStopped = true → s.takes .spn = true → s.spMode = spStopped → s.ploss = false → s.spConfigBad = false →
    s.takeStatus fn.val (s.nextEntry q) .none = none → sqeOp (s.nextEntry q) ≠ opBarrier →
    Completes (.commandTake fn sqid i .none) s (fun t =>
      t.slot? i = some (freshSlot q (s.nextEntry q) s.cmd.nextOrder false) ∧ t.dev.ps = s.dev.lastOp ∧ t.dev.psStopped = false
        ∧ t.spMode = Machine.spMeasure))

/-- Locks, rings, slots and resets complete: a granted write goes on or to a pool, the oldest work entry is placed in a ring,
a pool's entry ends its slot, a drained slot goes FREE, handles join the free-run list, an abort wins the commit point or
finds nothing, a transfer is pre-empted and resumed, and a controller reset or FLR ends the controller's queues (R326, R332,
R333, R337, R339, R343, R346, R348). -/
def Obligations.SlotsAndRings : Prop :=
  (∀ (s : State) (i : Nat) (x : Slot) (l : RangeLock), s.running → s.live .cmd = true → s.cmd.stopped = false → s.slot? i = some x →
    x.lock = some l → x.st = .lockwait → s.lockConflict x l = false → x.engineWrite = true →
    Completes (.lockGrant i) s (fun t =>
      t.slot? i = some { x with st := .taken } ∧ t = { s with cmd := { s.cmd with slots := t.cmd.slots }, resp := .none }))
  ∧ (∀ (s : State) (i : Nat) (x : Slot) (l : RangeLock), s.running → s.live .cmd = true → s.cmd.stopped = false → s.slot? i = some x →
    x.lock = some l → x.st = .lockwait → s.lockConflict x l = false → x.engineWrite = false → sqeOp x.sqe ≠ opRead →
    Completes (.lockGrant i) s (fun t =>
      t.slot? i = some { x with st := .taken, placed := true }
        ∧ t = { s with cmd := { s.cmd with slots := t.cmd.slots, workQ := s.cmd.workQ ++ [⟨x.sqe, i, x.fn, x.sqid, 0, 0, 0, 0⟩] },
                       resp := .none }))
  ∧ (∀ (s : State) (i : Nat) (x : Slot) (l : RangeLock), s.running → s.live .cmd = true → s.cmd.stopped = false → s.slot? i = some x →
    x.lock = some l → x.st = .lockwait → s.lockConflict x l = true →
    Completes (.lockGrant i) s (fun t => t.resp = .waiting ∧ OnlyAnswer s t))
  ∧ (∀ (s : State) (w : WorkEntry) (rest : List WorkEntry) (p : Fin 2) (x : Slot), s.running → s.live .cmd = true →
    s.cmd.stopped = false → s.cmd.workQ = w :: rest → s.workPool = some p → (s.workRing p).full = false → s.slot? w.slot = some x →
    w.kind ≠ 1 →
    Completes .workEntryWrite s (fun t =>
      t.cmd.workQ = rest ∧ t.slot? w.slot = some { x with st := .work, pool := some p }
        ∧ t.reg .cmd (Reg.CMD_WQp_TAIL + ringOff p) = BitVec.ofNat 32 (((s.workRing p).tail + 1) % (s.workRing p).size)
        ∧ t.bytes ((s.reg .cmd (Reg.CMD_WQp_BASE + ringOff p)).toNat / 128 * 128 + 128 * (s.workRing p).tail) 128 = workBytes w
        ∧ (∀ a, a < (s.reg .cmd (Reg.CMD_WQp_BASE + ringOff p)).toNat / 128 * 128 + 128 * (s.workRing p).tail
              ∨ (s.reg .cmd (Reg.CMD_WQp_BASE + ringOff p)).toNat / 128 * 128 + 128 * (s.workRing p).tail + 128 ≤ a →
            t.byte a = s.byte a)
        ∧ RegsBut s t [(.cmd, Reg.CMD_WQp_TAIL + ringOff p), (.buf, Reg.BUF_INJ_CTL)]
        ∧ t = { s with mem := t.mem, lines := t.lines, regs := t.regs, buf := t.buf,
                       cmd := { s.cmd with workQ := rest, slots := t.cmd.slots }, resp := .none }))
  ∧ (∀ (s : State) (p : Fin 2) (x : Slot), s.running → s.live .cmd = true → s.cmd.stopped = false → (s.cplRing p).empty = false →
    s.slot? ((s.word ((s.reg .cmd (Reg.CMD_CQp_BASE + ringOff p)).toNat / 16 * 16 + 16 * (s.cplRing p).head + 8)).toNat % 2 ^ 16)
      = some x → x.st.isOpen = true → x.st ≠ .fast →
    Completes (.completionRingEntry p) s (fun t =>
      (t.slotState ((s.word ((s.reg .cmd (Reg.CMD_CQp_BASE + ringOff p)).toNat / 16 * 16 + 16 * (s.cplRing p).head + 8)).toNat
          % 2 ^ 16)).isOpen = false
        ∧ t.reg .cmd (Reg.CMD_CQp_HEAD + ringOff p) = BitVec.ofNat 32 (((s.cplRing p).head + 1) % (s.cplRing p).size)))
  ∧ (∀ (s : State) (p : Fin 2), s.running → s.live .cmd = true → s.cmd.stopped = false → (s.cplRing p).empty = false →
    s.slot? ((s.word ((s.reg .cmd (Reg.CMD_CQp_BASE + ringOff p)).toNat / 16 * 16 + 16 * (s.cplRing p).head + 8)).toNat % 2 ^ 16)
      = none →
    Completes (.completionRingEntry p) s (fun t =>
      t.reg .cmd (Reg.CMD_CQp_HEAD + ringOff p) = BitVec.ofNat 32 (((s.cplRing p).head + 1) % (s.cplRing p).size)
        ∧ t.on .cmd F.CMD_UNIT_ERR_RING = true
        ∧ RegsBut s t [(.cmd, Reg.CMD_CQp_HEAD + ringOff p), (.cmd, Reg.UNIT_ERR)] ∧ OnlyRegs s t))
  ∧ (∀ (s : State) (i : Nat) (x : Slot), s.running → s.slot? i = some x → x.st = .drain → s.drainHeld i x = false →
    Completes (.slotFree i) s (fun t =>
      t.slot? i = none ∧ (∀ j, j ≠ i → t.slot? j = s.slot? j) ∧ i ∉ t.cmd.legMark ∧ t.cmd.epochs = s.cmd.epochs
        ∧ t = { s with cmd := { s.cmd with slots := t.cmd.slots, legMark := t.cmd.legMark }, hosts := t.hosts, resp := .none }))
  ∧ (∀ (s : State) (eng : Engine) (v : Word), s.running → s.inReset .cmd = false →
    Completes (.hfreeWrite eng v) s (fun t =>
      t = { s with cmd := { s.cmd with freeRuns := s.cmd.freeRuns ++ [(F.CMD_HFREE_HANDLE.get v, F.CMD_HFREE_COUNT_M1.get v + 1)] },
                   resp := .none }))
  ∧ (∀ (s : State) (eng : Engine) (v : Word) (j : Nat) (x : Slot), s.running → s.inReset .cmd = false → s.cmd.stopped = false →
    F.CMD_ABT_GO_GO.get v = 1 →
    s.cmd.slots.find? (fun (e : Nat × Slot) => e.2.fn == F.CMD_ABT_GO_FN.get v
      && e.2.sqid == F.CMD_ABT_KEY_SQID.get (s.abt eng).1 && e.2.cid == F.CMD_ABT_KEY_CID.get (s.abt eng).1
      && F.CMD_ABT_KEY_SQID.get (s.abt eng).1 != 0 && e.2.st.isOpen) = some (j, x) →
    Completes (.abortAttempt eng v) s (fun t =>
      (t.slotState j).isOpen = false ∧ t.abt eng = ((s.abt eng).1, BitVec.ofNat 32 (2 ^ 31 + 2 ^ 16 + j))
        ∧ t.reg64 .cmd Reg.CMD_CNT_ABORT_LO = (s.reg64 .cmd Reg.CMD_CNT_ABORT_LO + 1) % 2 ^ 64))
  ∧ (∀ (s : State) (eng : Engine) (v : Word), s.running → s.inReset .cmd = false → F.CMD_ABT_GO_GO.get v = 1 →
    s.cmd.slots.all (fun (e : Nat × Slot) => !(e.2.fn == F.CMD_ABT_GO_FN.get v
      && e.2.sqid == F.CMD_ABT_KEY_SQID.get (s.abt eng).1 && e.2.cid == F.CMD_ABT_KEY_CID.get (s.abt eng).1
      && F.CMD_ABT_KEY_SQID.get (s.abt eng).1 != 0)) = true →
    Completes (.abortAttempt eng v) s (fun t =>
      t.abt eng = ((s.abt eng).1, 0x80030000) ∧ t = { s with cmd := { s.cmd with abt := t.cmd.abt }, resp := .none }))
  ∧ (∀ (s : State) (ch : Fin 16) (ctx : Fin 64) (x : Transfer) (b : Nat), s.running → s.live .cmd = true →
    s.chan? ch.val = some x → s.dsrBase = some b → s.on .cmd F.CMD_PREEMPT_PE_EN = true → s.quantum ≤ x.since →
    s.urgentWaits = true → s.ctx? ctx.val = none →
    Completes (.dmaPreempt ch ctx) s (fun t =>
      t.chan? ch.val = none ∧ t.ctx? ctx.val = some (s.ctxOf x true) ∧ t.buf.notices = s.buf.notices
        ∧ t.bytes (b + 32 * ctx.val) 32 = dsrBytes ctx.val 1 (s.ctxOf x true)
        ∧ (∀ a, a < b + 32 * ctx.val ∨ b + 32 * ctx.val + 32 ≤ a → t.byte a = s.byte a)
        ∧ t.reg64 .cmd Reg.CMD_CNT_PREEMPT_LO = (s.reg64 .cmd Reg.CMD_CNT_PREEMPT_LO + 1) % 2 ^ 64
        ∧ RegsBut s t [(.cmd, Reg.CMD_CNT_PREEMPT_LO), (.cmd, Reg.CMD_CNT_PREEMPT_LO + 4), (.buf, Reg.BUF_INJ_CTL)]
        ∧ t = { s with mem := t.mem, lines := t.lines, regs := t.regs, buf := t.buf, cmd := { s.cmd with dma := t.cmd.dma },
                       resp := .none }))
  ∧ (∀ (s : State) (ch : Fin 16) (ctx : Fin 64) (d : DmaCtx) (b : Nat), s.running → s.live .cmd = true → s.cmd.stopped = false →
    s.ctx? ctx.val = some d → d.preempted = true → s.urgentWaits = false → s.chan? ch.val = none → s.dev.diePause = false →
    s.dsrBase = some b →
    Completes (.dmaResume ch ctx) s (fun t =>
      t.chan? ch.val = some d.transfer ∧ t.ctx? ctx.val = none ∧ t.byte (b + 32 * ctx.val + 4) = 2
        ∧ (∀ a, a ≠ b + 32 * ctx.val + 4 → t.byte a = s.byte a)
        ∧ t = { s with mem := t.mem, lines := t.lines, buf := { s.buf with ctxs := t.buf.ctxs },
                       cmd := { s.cmd with dma := t.cmd.dma }, resp := .none }))
  ∧ (∀ (s : State) (fn : Fin 64) (i : Instr), i = .controllerReset fn ∨ (i = .functionLevelReset fn ∧ s.isPf fn.val = false) →
    s.running → s.fnExists fn.val = true → s.linkIsUp (s.fnPort fn.val) = true →
    s.cmd.slots.all (fun (e : Nat × Slot) => e.2.fn != fn.val) = true →
    Completes i s (fun t =>
      (i = .functionLevelReset fn → t.msixOf fn.val = Msix.reset)
        ∧ t.ctrl fn.val = { (s.ctrl fn.val).afterReset with rdy := false } ∧ (∀ g, g ≠ fn.val → t.ctrl g = s.ctrl g)
        ∧ (∀ n, t.subq? fn.val n = none) ∧ (∀ n, t.compq? fn.val n = none)
        ∧ (∀ g n, g ≠ fn.val → t.subq? g n = s.subq? g n)
        ∧ t = { s with cmd := { s.cmd with sqs := t.cmd.sqs, cqs := t.cmd.cqs }, hosts := t.hosts, resp := .none }))
  ∧ (∀ (s : State) (fn : Fin 64), s.running → s.fnExists fn.val = true → s.linkIsUp (s.fnPort fn.val) = true →
    s.isPf fn.val = true → (s.port (s.fnPort fn.val)).numVfs = 0 →
    s.cmd.slots.all (fun (e : Nat × Slot) => e.2.fn != fn.val) = true →
    Completes (.functionLevelReset fn) s (fun t =>
      t.ctrl fn.val = { (s.ctrl fn.val).afterReset with rdy := false } ∧ (∀ n, t.subq? fn.val n = none)
        ∧ t.msixOf fn.val = Msix.reset
        ∧ t.port (s.fnPort fn.val) = { s.port (s.fnPort fn.val) with zeroing := s.hasCmb (s.fnPort fn.val) }
        ∧ t = { s with cmd := { s.cmd with sqs := t.cmd.sqs, cqs := t.cmd.cqs }, hosts := t.hosts, resp := .none }))
  ∧ (∀ (s : State) (fn : Fin 64) (i : Nat) (x : Slot), s.running → s.fnExists fn.val = true →
    s.linkIsUp (s.fnPort fn.val) = true → s.cmd.stopped = false → s.cmd.slots = [(i, x)] → x.fn = fn.val → x.st.isOpen = true →
    x.anyWrite = false →
    Completes (.controllerReset fn) s (fun t =>
      (t.slotState i = .discard ∨ t.slotState i = .drain) ∧ t.cmd.posted = s.cmd.posted ∧ (t.ctrl fn.val).en = false))

/-- The I/O commands complete: a Read on the Swallowtail path enters FAST, ends with its completion entry posted, or goes to a
pool; a Write and a Zone Append take their lock and granules; a Flush and a barrier complete; the commands that a pool carries
out go to one with their lock; a filled write's extent is inserted, and firmware's writes of the extent table take effect
(R294, R311, R326, R332 to R339, R342, R345, R355). -/
def Obligations.NvmCommands : Prop :=
  (∀ (s : State) (i : Nat) (r : FastEnd) (x : Slot) (n : Namespace) (b : Nat × Nat), s.running → s.nextDecode i opRead = some x →
    s.rangeFor x true = .inl n → s.locksUsed < 2048 → s.entryWaiter x = false →
    s.lockConflict x (x.wants n) = false → s.readsLost x = false → s.readReason x n = none → x.bound = none →
    s.keyCheck n x.lba (sqeTag x.sqe) false = .inl b →
    Completes (.nvmRead i r) s (fun t =>
      t.slot? i = some { x with decoded := true, lock := some (x.wants n), st := .fast, bound := some b }
        ∧ t.reg64 .cmd Reg.CMD_CNT_FP_LO = (s.reg64 .cmd Reg.CMD_CNT_FP_LO + 1) % 2 ^ 64
        ∧ RegsBut s t [(.cmd, Reg.CMD_CNT_FP_LO), (.cmd, Reg.CMD_CNT_FP_LO + 4)]
        ∧ t = { s with cmd := { s.cmd with slots := t.cmd.slots }, regs := t.regs, resp := .none }))
  ∧ (∀ (s : State) (i k : Nat) (r : FastEnd) (x : Slot) (n : Namespace), s.running → s.nextDecode i opRead = some x →
    s.rangeFor x true = .inl n → s.locksUsed < 2048 → s.entryWaiter x = false →
    s.lockConflict x (x.wants n) = false → s.readsLost x = false → s.readReason x n = some k →
    Completes (.nvmRead i r) s (fun t =>
      t.slot? i = some { x with decoded := true, lock := some (x.wants n), placed := true }
        ∧ t.reg64 .cmd Reg.CMD_CNT_FP_PASS_LO = (s.reg64 .cmd Reg.CMD_CNT_FP_PASS_LO + 1) % 2 ^ 64
        ∧ t = { s with cmd := { s.cmd with slots := t.cmd.slots,
                                           workQ := s.cmd.workQ ++ [⟨x.sqe, i, x.fn, x.sqid, k, 0, 0, 0⟩] },
                       regs := t.regs, resp := .none }))
  ∧ (∀ (s : State) (i : Nat) (x : Slot) (q : Sq) (cq : Cq), s.running → s.live .cmd = true → s.cmd.stopped = false →
    s.cmd.slots = [(i, x)] → x.st = .fast → sqeOp x.sqe = opRead → x.ordered = false → 0 < x.sqid → x.sqid < 65536 →
    s.fastStalls x = false → s.dev.diePause = false →
    (s.fastRead x .good).2.1 = none → s.subq? x.fn x.sqid = some q → s.compq? x.fn q.cqid = some cq →
    Completes (.nvmRead i .good) s (fun t =>
      t.slotState i = .drain
        ∧ t.cmd.posted = s.cmd.posted ++ [⟨x.fn, q.cqid, cq.tail, x.sqid, q.head, x.cid, cq.phase, Cpl.ofStatus .success⟩]
        ∧ t.resp = .data (s.fastRead x .good).2.2
        ∧ Sparse.get (fun _ => 0) t.hosts.counts lifeReads = Sparse.get (fun _ => 0) s.hosts.counts lifeReads + 1))
  ∧ (∀ (s : State) (i : Nat) (x : Slot) (n : Namespace) (b : Nat × Nat), s.running → s.nextDecode i opWrite = some x →
    s.heldByAction x = false → s.rangeFor x true = .inl n → n.zoned = false →
    s.keyCheck n x.lba (sqeTag x.sqe) true = .inl b → s.locksUsed < 2048 → s.entryWaiter x = false →
    s.lockConflict x (x.wants n) = false → x.inserted = false → x.granules = [] → s.granuleWaiter x = false → s.cacheHolds x = false →
    s.withinLimit (sqeCount x.sqe) = true → sqeCount x.sqe ≤ s.freeGranules →
    Completes (.nvmWrite i) s (fun t =>
      t.slot? i = some { x with decoded := true, lock := some (x.wants n), granules := (takeRuns s.cmd.freeRuns (sqeCount x.sqe)).1 }
        ∧ t = { s with cmd := { s.cmd with slots := t.cmd.slots, freeRuns := (takeRuns s.cmd.freeRuns (sqeCount x.sqe)).2 },
                       resp := .none }))
  ∧ (∀ (s : State) (i : Nat) (x : Slot) (n : Namespace) (b : Nat × Nat), s.running → s.nextDecode i opZoneAppend = some x →
    x.lock = none → s.heldByAction x = false → s.rangeFor x true = .inl n → n.zoned = true →
    s.keyCheck n x.lba (sqeTag x.sqe) true = .inl b → x.lba % zoneSize = 0 → (s.zone n.nsid (x.lba / zoneSize)).st = .implOpen →
    (s.zone n.nsid (x.lba / zoneSize)).wp + sqeCount x.sqe < n.cap (x.lba / zoneSize) →
    s.locksUsed < 2048 → s.entryWaiter x = false →
    s.lockConflict x ⟨n.nsid, x.lba + (s.zone n.nsid (x.lba / zoneSize)).wp, sqeCount x.sqe, true⟩ = false → x.inserted = false →
    x.granules = [] → s.granuleWaiter x = false → s.withinLimit (sqeCount x.sqe) = true → sqeCount x.sqe ≤ s.freeGranules →
    Completes (.zoneAppend i) s (fun t =>
      t.slot? i = some { x with
          lba := x.lba + (s.zone n.nsid (x.lba / zoneSize)).wp, decoded := true,
          lock := some ⟨n.nsid, x.lba + (s.zone n.nsid (x.lba / zoneSize)).wp, sqeCount x.sqe, true⟩,
          granules := (takeRuns s.cmd.freeRuns (sqeCount x.sqe)).1 }
        ∧ t.zone n.nsid (x.lba / zoneSize) = { s.zone n.nsid (x.lba / zoneSize) with
            wp := (s.zone n.nsid (x.lba / zoneSize)).wp + sqeCount x.sqe, last := x.order }
        ∧ t = { s with cmd := { s.cmd with slots := t.cmd.slots, freeRuns := (takeRuns s.cmd.freeRuns (sqeCount x.sqe)).2 },
                       hosts := { s.hosts with zones := t.hosts.zones }, resp := .none }))
  ∧ (∀ (s : State) (i : Nat) (x : Slot) (n : Namespace), s.running → s.nextDecode i opFlush = some x →
    sqeNsid x.sqe ≠ 0xFFFFFFFF → s.nsFor x = .inl n →
    s.vaultFitted = true ∨ s.cmd.exts.all (fun (e : Nat × Extent) => !(e.2.dirty && e.2.nsx == nsxOf n.nsid)) = true →
    Completes (.nvmFlush i) s (fun t => (t.slotState i).isOpen = false))
  ∧ (∀ (s : State) (i : Nat) (x : Slot) (n : Namespace), s.running → s.nextDecode i opFlush = some x →
    sqeNsid x.sqe ≠ 0xFFFFFFFF → s.nsFor x = .inl n → s.vaultFitted = false →
    s.dirtyBlocks (fun e => e.nsx == nsxOf n.nsid) ≠ [] →
    Completes (.nvmFlush i) s (fun t =>
      t.slot? i = some { x with decoded := true, acted := true, snap := s.dirtyBlocks (fun e => e.nsx == nsxOf n.nsid) }
        ∧ t = { s with cmd := { s.cmd with slots := t.cmd.slots }, resp := .waiting }))
  ∧ (∀ (s : State) (i : Nat) (j : Instr) (x : Slot) (n : Namespace) (b : Nat × Nat), s.running → s.heldByAction x = false →
    n.zoned = false → s.locksUsed < 2048 → s.entryWaiter x = false → s.lockConflict x (x.wants n) = false →
    (j = .nvmCompare i ∧ s.nextDecode i opCompare = some x ∧ s.rangeFor x true = .inl n
        ∧ s.keyCheck n x.lba (sqeTag x.sqe) false = .inl b)
      ∨ (j = .nvmWriteZeroes i ∧ s.nextDecode i opWriteZeroes = some x ∧ s.rangeFor x false = .inl n)
      ∨ (j = .nvmWriteUncorrectable i ∧ s.nextDecode i opWriteUnc = some x ∧ s.rangeFor x false = .inl n)
      ∨ (j = .nvmDatasetManagement i ∧ s.nextDecode i opDsm = some x ∧ s.nsFor x = .inl n ∧ sqeBits x.sqe 11 2 1 = 1) →
    Completes j s (fun t =>
      t.slot? i = some { x with decoded := true, lock := some (x.wants n), placed := true }
        ∧ t = { s with cmd := { s.cmd with slots := t.cmd.slots, workQ := s.cmd.workQ ++ [⟨x.sqe, i, x.fn, x.sqid, 0, 0, 0, 0⟩] },
                       resp := .none }))
  ∧ (∀ (s : State) (i : Nat) (x : Slot) (n : Namespace), s.running → s.nextDecode i opDsm = some x → s.nsFor x = .inl n →
    sqeBits x.sqe 11 2 1 = 0 →
    Completes (.nvmDatasetManagement i) s (fun t =>
      t.slot? i = some { x with decoded := true, placed := true }
        ∧ t = { s with cmd := { s.cmd with slots := t.cmd.slots, workQ := s.cmd.workQ ++ [⟨x.sqe, i, x.fn, x.sqid, 0, 0, 0, 0⟩] },
                       resp := .none }))
  ∧ (∀ (s : State) (i : Nat) (x : Slot) (q : Sq), s.running → s.nextDecode i opBarrier = some x → sqeBits x.sqe 10 0 1 = 0 →
    x.acted = false →
    s.cmd.slots.all (fun (e : Nat × Slot) =>
      !(e.2.fn == x.fn && e.2.sqid == x.sqid && decide (e.2.order < x.order) && e.2.st.isOpen)) = true →
    s.subq? x.fn x.sqid = some q →
    Completes (.orderedBarrier i) s (fun t =>
      (t.slotState i).isOpen = false ∧ t.subq? x.fn x.sqid = some { q with held := false }))
  ∧ (∀ (s : State) (i k h : Nat) (x : Slot), s.running → s.live .cmd = true → s.cmd.stopped = false → s.slot? i = some x →
    x.st = .taken → x.engineWrite = true → x.granules = [(h, sqeCount x.sqe)] → x.inserted = false →
    x.filled = sqeCount x.sqe → s.touched (nsxOf (sqeNsid x.sqe)) x.lba (sqeCount x.sqe) = [] →
    x.lba % 256 + sqeCount x.sqe ≤ 256 → s.cmd.exts.length < 131072 → s.writeThrough x.fn (sqeFua x.sqe) = false →
    k ≤ s.cmd.exts.length → (∀ j, j < k → (Sparse.find? s.cmd.exts j).isSome = true) → Sparse.find? s.cmd.exts k = none →
    Completes (.extentInsert i) s (fun t =>
      Sparse.find? t.cmd.exts k
          = some ⟨true, nsxOf (sqeNsid x.sqe), x.lba, sqeCount x.sqe - 1, h, some (x.fn, x.sqid)⟩
        ∧ (∀ j, j ≠ k → Sparse.find? t.cmd.exts j = Sparse.find? s.cmd.exts j) ∧ (t.slotState i).isOpen = false
        ∧ t.place.moved = s.place.moved.filter (fun (m : Realloc) =>
            !(m.nsid == sqeNsid x.sqe && decide (x.lba ≤ m.lba ∧ m.lba < x.lba + sqeCount x.sqe)))))
  ∧ (∀ (s : State) (eng : Engine) (v : Word) (e : Extent), s.running → s.inReset .cmd = false → F.CMD_EXT_DATA_W0_VALID.get v = 1 →
    e = ⟨F.CMD_EXT_DATA_W0_DIRTY.get v == 1, F.CMD_EXT_DATA_W0_NSX.get v,
      (s.extRead (s.f .cmd F.CMD_EXT_IDX_ENTRY) 1).toNat
        + 2 ^ 32 * F.CMD_EXT_DATA_W2_SLBA_HI.get (s.extRead (s.f .cmd F.CMD_EXT_IDX_ENTRY) 2),
      F.CMD_EXT_DATA_W2_LEN_M1.get (s.extRead (s.f .cmd F.CMD_EXT_IDX_ENTRY) 2),
      F.CMD_EXT_DATA_W3_HANDLE.get (s.extRead (s.f .cmd F.CMD_EXT_IDX_ENTRY) 3), none⟩ →
    Sparse.find? s.cmd.exts (s.f .cmd F.CMD_EXT_IDX_ENTRY) = none →
    s.cmd.exts.all (fun (o : Nat × Extent) => !o.2.meets e.nsx e.slba e.count) = true → e.slba % 256 + e.lenM1 ≤ 255 →
    e.handle + e.lenM1 < s.f .buf F.BUF_HDL_LIMIT_LIMIT →
    Completes (.extDataCommit eng v) s (fun t =>
      Sparse.find? t.cmd.exts (s.f .cmd F.CMD_EXT_IDX_ENTRY) = some e ∧ t.cmd.staged = []
        ∧ (∀ j, j ≠ s.f .cmd F.CMD_EXT_IDX_ENTRY → Sparse.find? t.cmd.exts j = Sparse.find? s.cmd.exts j)
        ∧ t = { s with cmd := { s.cmd with exts := t.cmd.exts, staged := [] }, resp := .none }))
  ∧ (∀ (s : State) (eng : Engine) (v : Word) (o : Extent), s.running → s.inReset .cmd = false → F.CMD_EXT_DATA_W0_VALID.get v = 0 →
    Sparse.find? s.cmd.exts (s.f .cmd F.CMD_EXT_IDX_ENTRY) = some o → o.dirty = false →
    Completes (.extDataCommit eng v) s (fun t =>
      Sparse.find? t.cmd.exts (s.f .cmd F.CMD_EXT_IDX_ENTRY) = none
        ∧ (∀ j, j ≠ s.f .cmd F.CMD_EXT_IDX_ENTRY → Sparse.find? t.cmd.exts j = Sparse.find? s.cmd.exts j)
        ∧ t = { s with cmd := { s.cmd with exts := t.cmd.exts, idle := t.cmd.idle, staged := [] }, resp := .none }
        ∧ t.extWord (s.f .cmd F.CMD_EXT_IDX_ENTRY) 1 = s.extRead (s.f .cmd F.CMD_EXT_IDX_ENTRY) 1))

/-- The vendor-specific features complete: Queue Ordering is set on an I/O queue and read back, the Twin Read Policy of a
namespace keeps its defined bits and is saved with the settings where the host asks, and the Thermal Throttle Report is read
and cannot be changed (R350 to R352). -/
def Obligations.VendorFeatures : Prop :=
  (∀ (s : State) (fn : Fin 64) (v : Word) (q : Sq), s.running → s.ctrlServes fn.val = true → s.svcs.chrysalis = false →
    v.toNat % 2 ^ 16 ≠ 0 → s.subq? fn.val (v.toNat % 2 ^ 16) = some q →
    Completes (.setQueueOrdering fn v) s (fun t =>
      t.resp = .status .success ∧ t.subq? fn.val (v.toNat % 2 ^ 16) = some { q with ordered := v.getLsbD 31 }
        ∧ t = { s with cmd := { s.cmd with sqs := t.cmd.sqs }, resp := t.resp }))
  ∧ (∀ (s : State) (fn : Fin 64) (v : Word), s.running → s.ctrlServes fn.val = true → s.svcs.chrysalis = false →
    v.toNat % 2 ^ 16 = 0 ∨ s.subq? fn.val (v.toNat % 2 ^ 16) = none →
    Completes (.setQueueOrdering fn v) s (fun t => t.resp = .status .invalidField ∧ OnlyAnswer s t)
      ∧ Completes (.getQueueOrdering fn v) s (fun t => t.resp = .status .invalidField ∧ OnlyAnswer s t))
  ∧ (∀ (s : State) (fn : Fin 64) (v : Word) (q : Sq), s.running → s.ctrlServes fn.val = true → s.svcs.chrysalis = false →
    v.toNat % 2 ^ 16 ≠ 0 → s.subq? fn.val (v.toNat % 2 ^ 16) = some q →
    Completes (.getQueueOrdering fn v) s (fun t =>
      t.resp = .value (BitVec.ofNat 32 ((if q.ordered = true then 2 ^ 31 else 0) + v.toNat % 2 ^ 16)) ∧ OnlyAnswer s t))
  ∧ (∀ (s : State) (nsid : Nat) (v : Word) (n : Namespace), s.running → s.svcs.chrysalis = false → s.ns? nsid = some n →
    1 ≤ v.toNat / 2 ^ 8 % 2 ^ 9 → v.toNat / 2 ^ 8 % 2 ^ 9 ≤ 256 →
    Completes (.setTwinReadPolicy nsid ⟨v, false⟩) s (fun t =>
      t.resp = .status .success ∧ t.twinPolicy nsid = v &&& 0x0001FF03 ∧ (∀ m, m ≠ nsid → t.twinPolicy m = s.twinPolicy m)
        ∧ t = { s with cmd := { s.cmd with twin := t.cmd.twin }, resp := t.resp }))
  ∧ (∀ (s : State) (nsid : Nat) (v : Word) (n : Namespace), s.running → s.svcs.chrysalis = false → s.ns? nsid = some n →
    1 ≤ v.toNat / 2 ^ 8 % 2 ^ 9 → v.toNat / 2 ^ 8 % 2 ^ 9 ≤ 256 → s.sealKey.sealReady = true →
    Completes (.setTwinReadPolicy nsid ⟨v, true⟩) s (fun t =>
      t.twinPolicy nsid = v &&& 0x0001FF03 ∧ (∀ m, m ≠ nsid → t.twinPolicy m = s.twinPolicy m)
        ∧ t.svcs.settings.seq = s.svcs.settings.seq + 1
        ∧ t.svcs.settings.fmt = fwField (envBody (s.slotImage s.servingSlot)) 12
        ∧ t.svcs.settings.entries.find? (fun e => e.1 == Config.settingId nsid)
            = some (Config.settingId nsid, leBytes 4 (v.toNat % 2 ^ 17))
        ∧ (s.hzl.standing = none →
            t.resp = .status .success
              ∧ (∀ a, a < norBase + pairAt s.savePair ∨ norBase + pairAt s.savePair + 0x20000 ≤ a → t.byte a = s.byte a)
              ∧ RegsBut s t [(.hzl, Reg.UNIT_ERR)]
              ∧ t = { s with mem := t.mem, regs := t.regs, hzl := t.hzl, cmd := { s.cmd with twin := t.cmd.twin },
                             svcs := { s.svcs with settings := t.svcs.settings }, resp := t.resp })))
  ∧ (∀ (s : State) (nsid : Nat) (v : Word) (n : Namespace), s.running → s.svcs.chrysalis = false → s.ns? nsid = some n →
    1 ≤ v.toNat / 2 ^ 8 % 2 ^ 9 → v.toNat / 2 ^ 8 % 2 ^ 9 ≤ 256 → s.sealKey.sealReady = false →
    Completes (.setTwinReadPolicy nsid ⟨v, true⟩) s (fun t => t.resp = .waiting ∧ t.cmd = s.cmd ∧ t.svcs = s.svcs))
  ∧ (∀ (s : State) (nsid : Nat) (n : Namespace), s.running → s.svcs.chrysalis = false → s.ns? nsid = some n →
    Completes (.getTwinReadPolicy nsid) s (fun t => t.resp = .value (s.twinPolicy nsid) ∧ OnlyAnswer s t))
  ∧ (∀ (s : State), s.running → s.svcs.chrysalis = false →
    Completes .getThermalThrottleReport s (fun t => t.resp = .value (BitVec.ofNat 32 s.throttleReport) ∧ OnlyAnswer s t))
  ∧ (∀ (s : State) (v : Word), s.running → s.svcs.chrysalis = false →
    Completes (.setThermalThrottleReport v) s (fun t => t.resp = .status .featureNotChangeable ∧ OnlyAnswer s t))

/-- The commands of the PCI Express ports complete: a link trains and goes down, VFs come and go, the Controller Memory Buffer
is zeroed, read and written, the state of an ANA group is written, and failed host reads and poisoned writes are reported
(R359, R361, R364, R365, R367, R368, R372, R538). -/
def Obligations.PortCommands : Prop :=
  (∀ (s : State) (p : Fin 2) (width speed : Nat) (rev : Bool) (inv : Word), s.running → s.takes (.pep p) = true →
    s.linkIsUp p = false → (s.port p).perst = false → width ∈ [1, 2, 4, 8, 16] → 1 ≤ speed → speed ≤ 4 →
    Completes (.linkUp p width speed rev inv) s (fun t =>
      t.linkIsUp p = true ∧ t.f (.pep p) F.PEP_STAT_WIDTH = min width (s.maxWidth p)
        ∧ t.f (.pep p) F.PEP_STAT_SPEED = min speed (s.maxSpeed p) ∧ t.on (.pep p) F.PEP_STAT_REVERSED = rev
        ∧ t.on (.pep p) F.PEP_STAT_STRAP = s.on (.pep p) F.PEP_STAT_STRAP ∧ t.f (.pep p) F.PEP_POL_INV = inv.toNat % 2 ^ 16
        ∧ RegsBut s t [(.pep p, Reg.PEP_STAT), (.pep p, Reg.PEP_POL)] ∧ OnlyRegs s t))
  ∧ (∀ (s : State) (p : Fin 2), s.running → s.linkIsUp p = true → s.cmd.slots = [] →
    Completes (.linkDown p) s (fun t =>
      t.linkIsUp p = false ∧ (t.reg (.pep p) Reg.UNIT_ERR).getLsbD 8 = true
        ∧ t.port p = { s.port p with numVfs := 0, ana := [], zeroing := s.hasCmb p } ∧ t.mem = s.mem ∧ t.buf = s.buf))
  ∧ (∀ (s : State) (p : Fin 2) (n : Nat), s.running → s.hasCmb p = true → s.linkIsUp p = true → (s.port p).numVfs ≤ n →
    n ≤ s.totalVfs →
    Completes (.vfEnableSet p n) s (fun t =>
      t.port p = { s.port p with numVfs := n } ∧ (∀ q, q ≠ p → t.port q = s.port q)
        ∧ t = { s with hosts := { s.hosts with ports := t.hosts.ports }, resp := .none }))
  ∧ (∀ (s : State) (p : Fin 2) (n : Nat), s.running → s.linkIsUp p = true → n ≤ (s.port p).numVfs → s.cmd.slots = [] →
    Completes (.vfEnableClear p n) s (fun t =>
      t.port p = { s.port p with numVfs := n }
        ∧ (∀ f, f < 64 → s.fnPort f = p → s.isPf f = false → s.fnExists f = true → n < s.vfNum f → (t.ctrl f).en = false)
        ∧ t = { s with hosts := t.hosts, cmd := { s.cmd with sqs := t.cmd.sqs, cqs := t.cmd.cqs }, resp := .none }))
  ∧ (∀ (s : State) (p : Fin 2), s.running → (s.port p).zeroing = true →
    Completes (.cmbZeroingDone p) s (fun t =>
      t.port p = { s.port p with zeroing := false } ∧ (∀ off, off < cmbSize → t.byte (s.cmbAddr p off) = 0)
        ∧ (∀ a, (∀ off, off < cmbSize → a ≠ s.cmbAddr p off) → t.byte a = s.byte a)
        ∧ t = { s with mem := t.mem, buf := t.buf, hosts := { s.hosts with ports := t.hosts.ports }, resp := .none }))
  ∧ (∀ (s : State) (p : Fin 2) (off n : Nat) (found : List LineFound), s.running → s.hasCmb p = true → s.linkIsUp p = true →
    s.cmbRange off n = true → (s.port p).zeroing = false → off < s.cmbSram → s.buf.sramBad = [] →
    Completes (.cmbRead p off n .ok found) s (fun t => t.resp = .data (s.bytes (s.cmbAddr p off) n) ∧ OnlyAnswer s t))
  ∧ (∀ (s : State) (p : Fin 2) (off n : Nat) (par : Parity) (found : List LineFound), s.running → s.hasCmb p = true →
    s.linkIsUp p = true → s.cmbRange off n = true → (s.port p).zeroing = true →
    Completes (.cmbRead p off n par found) s (fun t => t.resp = .data (List.replicate n 0) ∧ OnlyAnswer s t))
  ∧ (∀ (s : State) (p : Fin 2) (off : Nat) (data : List Byte), s.running → s.hasCmb p = true → s.linkIsUp p = true →
    s.cmbRange off data.length = true → (s.port p).zeroing = false → off < s.cmbSram →
    Completes (.cmbWrite p off data) s (fun t =>
      t.bytes (s.cmbAddr p off) data.length = data
        ∧ (∀ a, a < s.cmbAddr p off ∨ s.cmbAddr p off + data.length ≤ a → t.byte a = s.byte a)
        ∧ RegsBut s t [(.buf, Reg.BUF_INJ_CTL)]
        ∧ t = { s with mem := t.mem, lines := t.lines, regs := t.regs, buf := t.buf, resp := .none }))
  ∧ (∀ (s : State) (p : Fin 2) (off : Nat) (data : List Byte), s.running → s.hasCmb p = true → s.linkIsUp p = true →
    s.cmbRange off data.length = true → (s.port p).zeroing = true →
    Completes (.cmbWrite p off data) s (fun t => t = { s with resp := .none }))
  ∧ (∀ (s : State) (eng : Engine) (p : Fin 2) (v : Word), s.running → s.inReset (.pep p) = false →
    F.PEP_ANA_DATA_STATE.get v ∈ anaStates →
    Completes (.anaStateWrite eng p v) s (fun t =>
      Sparse.get (fun _ => 1) (t.port p).ana (s.f (.pep p) F.PEP_ANA_IDX_GROUP) = F.PEP_ANA_DATA_STATE.get v
        ∧ (∀ g, g ≠ s.f (.pep p) F.PEP_ANA_IDX_GROUP →
            Sparse.get (fun _ => 1) (t.port p).ana g = Sparse.get (fun _ => 1) (s.port p).ana g)
        ∧ (∀ f, f < 64 → s.fnPort f = p → s.fnExists f = true → (t.ctrl f).anaCount = (s.ctrl f).anaCount + 1)
        ∧ t.regs = s.regs ∧ t.mem = s.mem ∧ t.buf = s.buf))
  ∧ (∀ (s : State) (eng : Engine) (p : Fin 2) (v : Word), s.running → s.inReset (.pep p) = false →
    F.PEP_ANA_DATA_STATE.get v ∉ anaStates →
    Completes (.anaStateWrite eng p v) s (fun t =>
      (t.reg (.pep p) Reg.UNIT_ERR).getLsbD 6 = true ∧ RegsBut s t [(.pep p, Reg.UNIT_ERR)] ∧ OnlyRegs s t))
  ∧ (∀ (s : State) (p : Fin 2) (fn : Fin 64) (what : HostRead), s.running → s.fnPort fn.val = p → s.ctrlServes fn.val = true →
    Completes (.hostReadFail p fn what true) s (fun t =>
      (t.reg (.pep p) Reg.UNIT_ERR).getLsbD 0 = true ∧ (t.reg (.pep p) Reg.UNIT_ERR).getLsbD 9 = true
        ∧ t.reg64 (.pep p) Reg.PEP_CNT_UE_LO = (s.reg64 (.pep p) Reg.PEP_CNT_UE_LO + 1) % 2 ^ 64
        ∧ RegsBut s t [(.pep p, Reg.UNIT_ERR), (.pep p, Reg.UNIT_RETRY_CNT), (.pep p, Reg.PEP_CNT_UE_LO),
            (.pep p, Reg.PEP_CNT_UE_LO + 4)] ∧ OnlyRegs s t))
  ∧ (∀ (s : State) (p : Fin 2) (fn : Fin 64) (q : Nat), s.running → s.fnPort fn.val = p → s.ctrlServes fn.val = true →
    (s.subq? fn.val q).isSome = true →
    Completes (.hostReadFail p fn (.queue q) false) s (fun t =>
      t.ctrl fn.val = { s.ctrl fn.val with cfs := true } ∧ t.ctrlServes fn.val = false ∧ t.hosts.mgmt.alert = true
        ∧ (t.reg (.pep p) Reg.UNIT_ERR).getLsbD 1 = true ∧ (t.reg (.pep p) Reg.UNIT_ERR).getLsbD 10 = true
        ∧ RegsBut s t [(.pep p, Reg.UNIT_ERR), (.pep p, Reg.UNIT_LAST_CNT), (.pep p, Reg.PEP_CNT_UE_LO),
            (.pep p, Reg.PEP_CNT_UE_LO + 4)]
        ∧ t = { s with regs := t.regs, hosts := t.hosts, resp := .none }))
  ∧ (∀ (s : State) (p : Fin 2) (fn : Fin 64) (i : Nat) (x : Slot), s.running → s.fnPort fn.val = p → s.ctrlServes fn.val = true →
    s.slot? i = some x → x.fn = fn.val → x.st.isOpen = true → s.cmd.stopped = false →
    Completes (.hostReadFail p fn (.data i) false) s (fun t => (t.slotState i).isOpen = false))
  ∧ (∀ (s : State) (p : Fin 2), s.running → s.linkIsUp p = true →
    Completes (.poisonedWriteReceived p) s (fun t =>
      (t.reg (.pep p) Reg.UNIT_ERR).getLsbD 9 = true
        ∧ t.reg64 (.pep p) Reg.PEP_CNT_UE_LO = (s.reg64 (.pep p) Reg.PEP_CNT_UE_LO + 1) % 2 ^ 64
        ∧ RegsBut s t [(.pep p, Reg.UNIT_ERR), (.pep p, Reg.PEP_CNT_UE_LO), (.pep p, Reg.PEP_CNT_UE_LO + 4)] ∧ OnlyRegs s t))

/-- The commands of a controller and its queues complete: an enable creates the admin queues, a shutdown notification
completes, I/O queues are created and deleted, a held message goes out or becomes pending, features are set, and an event
request is held or answered (R303, R311, R327, R351, R363, R366, R479, R536, R547). -/
def Obligations.ControllerCommands : Prop :=
  (∀ (s : State) (fn : Fin 64) (a b : Nat) (cmb : Option Nat) (wrr : Bool), s.running → s.fnExists fn.val = true →
    s.linkIsUp (s.fnPort fn.val) = true → (s.ctrl fn.val).en = false → (s.ctrl fn.val).rdy = false → 2 ≤ a → 2 ≤ b →
    cmb = none ∨ (s.isPf fn.val = true ∧ s.hasCmb (s.fnPort fn.val) = true) →
    Completes (.controllerEnable fn a b cmb wrr) s (fun t =>
      t.ctrl fn.val = { s.ctrl fn.val with en := true, rdy := s.serves, wrr := wrr, shn := 0 }
        ∧ t.cmd.sqs = s.cmd.sqs ++ [⟨fn.val, 0, 0, a, cmb.isSome, false, 0, 0, 0, 0,
            (match cmb with | some o => s.cmbAddr (s.fnPort fn.val) o | none => 0), [], false⟩]
        ∧ t.cmd.cqs = s.cmd.cqs ++ [⟨fn.val, 0, b, some 0, 0, true⟩]
        ∧ t = { s with hosts := { s.hosts with ctrls := t.hosts.ctrls }, cmd := { s.cmd with sqs := t.cmd.sqs, cqs := t.cmd.cqs },
                       resp := .none }))
  ∧ (∀ (s : State) (fn : Fin 64), s.running → s.fnExists fn.val = true → (s.ctrl fn.val).en = true → (s.ctrl fn.val).shn ≠ 2 →
    s.vaultFitted = true ∨ s.dirtyGranules = 0 →
    Completes (.shutdownNotification fn) s (fun t =>
      (t.ctrl fn.val).shn = 2 ∧ t.hosts.clean = true ∧ t.hosts.counts = []
        ∧ t = { s with hosts := t.hosts, asts := t.asts, resp := .none }))
  ∧ (∀ (s : State) (fn : Fin 64), s.running → s.fnExists fn.val = true → (s.ctrl fn.val).en = true → (s.ctrl fn.val).shn ≠ 2 →
    s.vaultFitted = false → s.dirtyGranules ≠ 0 →
    Completes (.shutdownNotification fn) s (fun t =>
      t.ctrl fn.val = { s.ctrl fn.val with shn := 1 } ∧ t = { s with hosts := { s.hosts with ctrls := t.hosts.ctrls }, resp := .waiting }))
  ∧ (∀ (s : State) (fn : Fin 64) (cqid size : Nat) (v : Option Nat), s.running → s.ctrlServes fn.val = true →
    s.svcs.chrysalis = false → s.queueIdOk fn.val (s.ctrl fn.val).ncq cqid = true → s.compq? fn.val cqid = none → 2 ≤ size → size ≤ 65536 →
    (∀ k, v = some k → k < s.vec fn.val) →
    Completes (.createIoCompletionQueue fn cqid size true v) s (fun t =>
      t.resp = .status .success ∧ t = { s with cmd := { s.cmd with cqs := s.cmd.cqs ++ [⟨fn.val, cqid, size, v, 0, true⟩] }, resp := t.resp }))
  ∧ (∀ (s : State) (fn : Fin 64) (sqid cqid size : Nat) (prio : Fin 4), s.running → s.ctrlServes fn.val = true →
    s.svcs.chrysalis = false → s.queueIdOk fn.val (s.ctrl fn.val).nq sqid = true → s.subq? fn.val sqid = none → cqid ≠ 0 →
    (s.compq? fn.val cqid).isSome = true → 2 ≤ size → size ≤ 65536 →
    Completes (.createIoSubmissionQueue fn sqid cqid size true prio none) s (fun t =>
      t.resp = .status .success ∧ t = { s with
        cmd := { s.cmd with sqs := s.cmd.sqs ++ [⟨fn.val, sqid, cqid, size, false, false, prio.val, 0, 0, 0, 0, [], false⟩] },
        resp := t.resp }))
  ∧ (∀ (s : State) (fn : Fin 64) (sqid cqid size o : Nat) (prio : Fin 4), s.running → s.ctrlServes fn.val = true →
    s.svcs.chrysalis = false → s.queueIdOk fn.val (s.ctrl fn.val).nq sqid = true → s.subq? fn.val sqid = none → cqid ≠ 0 →
    (s.compq? fn.val cqid).isSome = true → 2 ≤ size → size ≤ 65536 → s.isPf fn.val = true →
    s.hasCmb (s.fnPort fn.val) = true → o + 64 * size ≤ cmbSize →
    Completes (.createIoSubmissionQueue fn sqid cqid size true prio (some o)) s (fun t =>
      t.resp = .status .success ∧ t = { s with
        cmd := { s.cmd with sqs := s.cmd.sqs ++ [⟨fn.val, sqid, cqid, size, true, false, prio.val, 0, 0, 0,
          s.cmbAddr (s.fnPort fn.val) o, [], false⟩] },
        resp := t.resp }))
  ∧ (∀ (s : State) (fn : Fin 64) (sqid : Nat), s.running → s.ctrlServes fn.val = true → sqid ≠ 0 →
    (s.subq? fn.val sqid).isSome = true → s.cmd.stopped = false →
    s.cmd.slots.all (fun (e : Nat × Slot) => !(e.2.fn == fn.val && e.2.sqid == sqid && e.2.st.isOpen)) = true →
    Completes (.deleteIoSubmissionQueue fn sqid) s (fun t =>
      t.resp = .status .success ∧ t.subq? fn.val sqid = none
        ∧ (∀ g k, g ≠ fn.val ∨ k ≠ sqid → t.subq? g k = s.subq? g k)
        ∧ t = { s with cmd := { s.cmd with sqs := t.cmd.sqs }, resp := t.resp }))
  ∧ (∀ (s : State) (fn : Fin 64) (v k : Nat), s.running → Sparse.find? (s.ctrl fn.val).agg v = some k →
    (s.msixOf fn.val).off = false → (s.msixOf fn.val).masked.contains v = false →
    Completes (.aggregationTimeExpiry fn v) s (fun t =>
      t.hosts.msix = s.hosts.msix ++ [(fn.val, v)] ∧ t.ctrl fn.val = { s.ctrl fn.val with agg := Sparse.erase (s.ctrl fn.val).agg v }
        ∧ t = { s with hosts := { s.hosts with ctrls := t.hosts.ctrls, msix := t.hosts.msix }, resp := .none }))
  ∧ (∀ (s : State) (fn : Fin 64) (v k : Nat), s.running → Sparse.find? (s.ctrl fn.val).agg v = some k →
    (s.msixOf fn.val).off = true ∨ (s.msixOf fn.val).masked.contains v = true →
    Completes (.aggregationTimeExpiry fn v) s (fun t =>
      t.msixOf fn.val = { s.msixOf fn.val with pba := addOnce (s.msixOf fn.val).pba v } ∧ t.hosts.msix = s.hosts.msix
        ∧ t.ctrl fn.val = { s.ctrl fn.val with agg := Sparse.erase (s.ctrl fn.val).agg v }
        ∧ t = { s with hosts := { s.hosts with ctrls := t.hosts.ctrls, msixTab := t.hosts.msixTab }, resp := .none }))
  ∧ (∀ (s : State) (fn : Fin 64) (on : Bool), s.running → s.ctrlServes fn.val = true → s.svcs.chrysalis = false →
    s.vaultFitted = false → on = true ∨ s.dirtyGranules = 0 →
    Completes (.setVolatileWriteCache fn on) s (fun t =>
      t.resp = .status .success ∧ t.ctrl fn.val = { s.ctrl fn.val with wce := on } ∧ (∀ g, g ≠ fn.val → t.ctrl g = s.ctrl g)
        ∧ t = { s with hosts := { s.hosts with ctrls := t.hosts.ctrls }, resp := t.resp }))
  ∧ (∀ (s : State) (fn : Fin 64) (a b : Nat), s.running → s.ctrlServes fn.val = true → s.svcs.chrysalis = false →
    a < 65535 → b < 65535 →
    Completes (.setNumberOfQueues fn a b) s (fun t =>
      t.resp = .value (BitVec.ofNat 32 ((min (b + 1) (s.qmax fn.val) - 1) * 2 ^ 16 + (min (a + 1) (s.qmax fn.val) - 1)))
        ∧ t.ctrl fn.val = { s.ctrl fn.val with nq := min (a + 1) (s.qmax fn.val), ncq := min (b + 1) (s.qmax fn.val) }
        ∧ (∀ g, g ≠ fn.val → t.ctrl g = s.ctrl g)
        ∧ t = { s with hosts := { s.hosts with ctrls := t.hosts.ctrls }, resp := t.resp }))
  ∧ (∀ (s : State) (fn : Fin 64) (v : Word), s.running → s.ctrlServes fn.val = true → s.svcs.chrysalis = false →
    Completes (.setInterruptCoalescing fn v) s (fun t =>
      t.resp = .status .success ∧ t.ctrl fn.val = { s.ctrl fn.val with coal := v &&& 0xFFFF }
        ∧ t = { s with hosts := { s.hosts with ctrls := t.hosts.ctrls }, resp := t.resp }))
  ∧ (∀ (s : State) (fn : Fin 64) (cid : Nat), s.running → s.ctrlServes fn.val = true → s.svcs.chrysalis = false →
    (s.ctrl fn.val).events = [] →
    Completes (.asyncEventRequest fn cid) s (fun t =>
      t.ctrl fn.val = { s.ctrl fn.val with aers := (s.ctrl fn.val).aers ++ [cid] }
        ∧ t = { s with hosts := { s.hosts with ctrls := t.hosts.ctrls }, resp := .none }))
  ∧ (∀ (s : State) (fn : Fin 64) (cid : Nat) (e : AsyncEvent) (q : Sq) (cq : Cq), s.running → s.ctrlServes fn.val = true →
    s.svcs.chrysalis = false → s.cmd.stopped = false → (s.ctrl fn.val).events = [e] → (s.ctrl fn.val).aers = [] →
    s.subq? fn.val 0 = some q → s.compq? fn.val q.cqid = some cq →
    Completes (.asyncEventRequest fn cid) s (fun t =>
      (t.ctrl fn.val).aers = [] ∧ (t.ctrl fn.val).events = []
        ∧ t.cmd.posted = s.cmd.posted ++ [⟨fn.val, q.cqid, cq.tail, 0, q.head, cid, cq.phase,
            ⟨BitVec.ofNat 32 (e.typ + e.info * 2 ^ 8 + e.page * 2 ^ 16), 0, .named .success⟩⟩]))

/-- The admin commands complete: Identify answers its structure, each log page is answered in part and its events are held no
longer unless they are retained, security commands reach the enclave's channel, and namespaces are created, formatted, resized
and deleted with their bands (R289, R292, R305, R420, R432, R442, R447, R453, R535 to R542). -/
def Obligations.AdminCommands : Prop :=
  (∀ (s : State) (fn : Fin 64) (nsid : Nat), s.running → s.ctrlServes fn.val = true → s.svcs.chrysalis = false →
    Completes (.identify fn 2 nsid) s (fun t => t.resp = .data (s.identifyList fn.val nsid) ∧ OnlyAnswer s t))
  ∧ (∀ (s : State) (fn : Fin 64) (nsid : Nat), s.running → s.ctrlServes fn.val = true →
    Completes (.identify fn 1 nsid) s (fun t =>
      ∃ l, t.resp = .data l ∧ l.length = 4096 ∧ slice l 78 2 = leBytes 2 (fn.val + 1)
        ∧ slice l 516 4 = leBytes 4 (if s.svcs.chrysalis = true then 0 else 256)
        ∧ t = { s with freeCtr := s.freeCtr + 1, resp := t.resp }))
  ∧ (∀ (s : State) (fn : Fin 64) (nsid : Nat) (n : Namespace), s.running → s.ctrlServes fn.val = true → s.svcs.chrysalis = false →
    s.ns? nsid = some n → fn.val ∈ n.attached →
    Completes (.identify fn 0 nsid) s (fun t =>
      ∃ l, t.resp = .data l ∧ l.length = 4096 ∧ slice l 0 8 = leBytes 8 n.size ∧ slice l 92 4 = leBytes 4 n.ana
        ∧ t = { s with freeCtr := s.freeCtr + 1, resp := t.resp }))
  ∧ (∀ (s : State) (i : Instr) (fn : Fin 64) (rae : Bool) (off n page : Nat) (l : List Byte), s.running → s.ctrlServes fn.val = true →
    s.svcs.chrysalis = false → off % 4 = 0 → off ≤ l.length →
    (i = .errorInformationLog fn rae off n ∧ page = 0x01 ∧ l = s.errorLog fn.val)
      ∨ (i = .firmwareSlotLog fn rae off n ∧ page = 0x03 ∧ l = s.slotLog)
      ∨ (i = .settingsResetLog fn rae off n ∧ page = 0xC0 ∧ l = s.settingsLog)
      ∨ (i = .bootHistoryLog fn rae off n ∧ page = 0xC1 ∧ l = s.bootLog)
      ∨ (i = .thermalShutdownLog fn rae off n ∧ page = 0xC2 ∧ l = s.shutLog) →
    Completes i s (fun t =>
      t.resp = .data (slice l off n)
        ∧ (t.ctrl fn.val).held = (if rae = true then (s.ctrl fn.val).held else (s.ctrl fn.val).held.filter (fun e => e.page != page))
        ∧ t = { s with hosts := { s.hosts with ctrls := t.hosts.ctrls }, resp := t.resp }))
  ∧ (∀ (s : State) (fn : Fin 64) (rae : Bool) (off n : Nat), s.running → s.ctrlServes fn.val = true → s.svcs.chrysalis = false →
    off % 4 = 0 → off ≤ 512 →
    Completes (.smartHealthLog fn rae off n) s (fun t =>
      t.resp = .data (slice (s.lookCrit.smartLog fn.val) off n) ∧ t.hosts.crit = s.lookCrit.hosts.crit ∧ t.regs = s.regs
        ∧ t.mem = s.mem ∧ t.buf = s.buf))
  ∧ (∀ (s : State) (fn : Fin 64) (rae : Bool) (off n : Nat), s.running → s.ctrlServes fn.val = true → s.svcs.chrysalis = false →
    off % 4 = 0 → off ≤ s.headLog.length →
    Completes (.twinHeadHealthLog fn rae off n) s (fun t =>
      t.resp = .data (slice s.headLog off n)
        ∧ t = { s with hosts := { s.hosts with ctrls := t.hosts.ctrls }, freeCtr := s.freeCtr + 1, resp := t.resp }))
  ∧ (∀ (s : State) (fn : Fin 64) (p : Fin 2) (secp : BitVec 8) (spsp : BitVec 16) (nsid desc buf : Nat) (data : List Byte),
    s.running → s.ctrlServes fn.val = true → s.svcs.chrysalis = false → secp.toNat ∈ secProtocols → s.live (.pool p) = true →
    desc % 64 = 0 → desc < 2 ^ 32 → s.region desc = some .sysSram → s.inWork desc 64 = true → s.inWork buf data.length = true →
    buf < 2 ^ 32 → (s.rqs (p.val + 1)).length < 8 →
    Completes (.securitySend fn p secp spsp nsid desc buf data) s (fun t =>
      t.resp = .waiting ∧ t.rqs (p.val + 1) = s.rqs (p.val + 1) ++ [⟨desc, false⟩]
        ∧ t.bytes desc 64 = secDescriptor hoSecSend fn.val secp.toNat spsp.toNat nsid data.length buf true
        ∧ (buf + data.length ≤ desc ∨ desc + 64 ≤ buf → t.bytes buf data.length = data)
        ∧ (∀ a, (a < desc ∨ desc + 64 ≤ a) → (a < buf ∨ buf + data.length ≤ a) → t.byte a = s.byte a)
        ∧ RegsBut s t [(.buf, Reg.BUF_INJ_CTL)]
        ∧ t = { s with mem := t.mem, lines := t.lines, regs := t.regs, buf := t.buf, hzl := t.hzl, resp := t.resp }))
  ∧ (∀ (s : State) (fn : Fin 64) (p : Fin 2) (secp : BitVec 8) (spsp : BitVec 16) (nsid desc buf len : Nat),
    s.running → s.ctrlServes fn.val = true → s.svcs.chrysalis = false → secp.toNat ∈ secProtocols → s.live (.pool p) = true →
    desc % 64 = 0 → desc < 2 ^ 32 → s.region desc = some .sysSram → s.inWork desc 64 = true → s.inWork buf len = true →
    (s.rqs (p.val + 1)).length < 8 →
    Completes (.securityReceive fn p secp spsp nsid desc buf len) s (fun t =>
      t.resp = .waiting ∧ t.rqs (p.val + 1) = s.rqs (p.val + 1) ++ [⟨desc, false⟩]
        ∧ t.bytes desc 64 = secDescriptor hoSecRecv fn.val secp.toNat spsp.toNat nsid len buf false
        ∧ (∀ a, (a < desc ∨ desc + 64 ≤ a) → t.byte a = s.byte a) ∧ RegsBut s t [(.buf, Reg.BUF_INJ_CTL)]
        ∧ t = { s with mem := t.mem, lines := t.lines, regs := t.regs, buf := t.buf, hzl := t.hzl, resp := t.resp }))
  ∧ (∀ (s : State) (fn : Fin 64) (nsid ses ms pi : Nat) (n : Namespace), s.running → s.ctrlServes fn.val = true →
    s.svcs.chrysalis = false → ses < 2 → formatOk ms pi = true → nsid ≠ 0xFFFFFFFF → s.ns? nsid = some n →
    s.nsNamed nsid = [n] → s.nsBusy nsid = false →
    Completes (.formatNvm fn nsid ses ms pi) s (fun t =>
      t.resp = .status .success ∧ t.ns? nsid = some { n with ms := ms, pi := pi }
        ∧ (∀ m, m ≠ nsid → t.ns? m = s.ns? m) ∧ (∀ e ∈ t.cmd.exts, e.2.nsx ≠ nsxOf nsid) ∧ t.regs = s.regs ∧ t.mem = s.mem))
  ∧ (∀ (s : State) (fn : Fin 64) (x : NsSpec) (rest : List Band) (k : Nat), s.running → s.ctrlServes fn.val = true →
    s.svcs.chrysalis = false → 1 ≤ x.ana → x.ana ≤ 32 → x.bands ≠ [] → x.attached.all (fun f => s.fnExists f.val) = true →
    formatOk x.ms x.pi = true → takeBands (x.bands ++ x.free) s.hosts.freeBands = some rest →
    bandsOk x.zoned (x.bands.map Band.cap) x.free = true → (List.range 256).find? (fun k => (s.ns? (k + 1)).isNone) = some k →
    s.drbgDue = false → s.keyFull k = false →
    Completes (.namespaceCreate fn x) s (fun t =>
      t.ns? (k + 1) = some ⟨k + 1, x.zoned, nsSize x.zoned (x.bands.map Band.cap), x.ms, x.pi, x.kpio, x.ana, x.attached.map Fin.val,
          x.bands, x.bands.map Band.cap, x.free, []⟩
        ∧ t.hosts.freeBands = rest ∧ (∀ m, m ≠ k + 1 → t.ns? m = s.ns? m)))
  ∧ (∀ (s : State) (fn : Fin 64) (nsid : Nat) (n : Namespace), s.running → s.ctrlServes fn.val = true →
    s.svcs.chrysalis = false → nsid ≠ 0xFFFFFFFF → s.nsNamed nsid = [n] → s.nsBusy nsid = false →
    (s.nsSlots nsid).any s.keyFull = false →
    Completes (.namespaceDelete fn nsid) s (fun t =>
      t.ns? nsid = none ∧ (∀ m, m ≠ nsid → t.ns? m = s.ns? m) ∧ t.hosts.freeBands = s.hosts.freeBands ++ n.bands ++ n.free
        ∧ (∀ e ∈ t.cmd.exts, e.2.nsx ≠ nsxOf nsid)))
  ∧ (∀ (s : State) (fn : Fin 64) (nsid : Nat) (bands free rest : List Band) (lens : List Nat) (n : Namespace), s.running → s.ctrlServes fn.val = true →
    s.svcs.chrysalis = false → s.ns? nsid = some n → bands ≠ [] →
    bands.take (min bands.length n.bands.length) = n.bands.take (min bands.length n.bands.length) →
    takeBands (bands ++ free) (s.hosts.freeBands ++ n.bands ++ n.free) = some rest →
    lens = n.lens.take (min bands.length n.bands.length) ++ (bands.drop (min bands.length n.bands.length)).map Band.cap →
    bandsOk n.zoned lens free = true →
    s.nsBusy nsid = false →
    Completes (.namespaceResize fn nsid bands free) s (fun t =>
      t.resp = .status .success ∧ t.ns? nsid = some { n with bands := bands, lens := lens, free := free, size := nsSize n.zoned lens }
        ∧ (∀ m, m ≠ nsid → t.ns? m = s.ns? m) ∧ t.hosts.freeBands = rest ∧ t.regs = s.regs ∧ t.mem = s.mem
        ∧ (nsSize n.zoned lens < n.size →
            ∀ e ∈ t.cmd.exts, ¬(e.2.nsx = nsxOf nsid ∧ nsSize n.zoned lens ≤ e.2.slba))))

/-- The commands of the management endpoint complete: its identifier, its configuration and the polls answer, the VPD is read
and rewritten, a reset resets the subsystem, a block read answers or leaves the bus held until the clock times out, and a
tunnelled admin command goes to a pool in the controller's kept slot (R331, R373 to R375). -/
def Obligations.ManagementEndpoint : Prop :=
  (∀ (s : State) (eid : BitVec 8), s.running → eid ≠ 0 → eid ≠ 0xFF →
    Completes (.setEndpointId eid) s (fun t =>
      t.resp = .mi miSuccess ∧ t.mgmt = { s.mgmt with eid := eid.toNat }
        ∧ t = { s with hosts := { s.hosts with mgmt := t.hosts.mgmt }, resp := t.resp }))
  ∧ (∀ (s : State), s.running →
    Completes .smbusClockLowTimeout s (fun t =>
      t.mgmt = { s.mgmt with busBusy := false } ∧ t = { s with hosts := { s.hosts with mgmt := t.hosts.mgmt }, resp := .none }))
  ∧ (∀ (s : State) (k : Nat), s.running →
    Completes (.miDataStructure 2 k) s (fun t =>
      t.resp = .data (leBytes 2 (s.ctrlsFrom k).length ++ (s.ctrlsFrom k).flatMap (fun f => leBytes 2 (f + 1))) ∧ OnlyAnswer s t))
  ∧ (∀ (s : State) (k : Nat), s.running →
    Completes (.miDataStructure 0 k) s (fun t =>
      ∃ l, t.resp = .data l ∧ l.length = 32 ∧ l.getD 0 0 = (if s.split = true then 1 else 0)
        ∧ t = { s with freeCtr := s.freeCtr + 1, resp := t.resp }))
  ∧ (∀ (s : State) (clear : Bool), s.running →
    Completes (.miSubsystemPoll clear) s (fun t =>
      (∃ l, t.resp = .data l ∧ l.length = 8 ∧ l.getD 1 0 = s.warnings)
        ∧ t.mgmt = (if clear = true then { s.mgmt with alert := false, changes := 0 } else s.mgmt)
        ∧ t = { s with hosts := { s.hosts with mgmt := t.hosts.mgmt }, freeCtr := s.freeCtr + 1, resp := t.resp }))
  ∧ (∀ (s : State) (k : Nat), s.running →
    Completes (.miControllerPoll k) s (fun t =>
      t.resp = .data ((s.ctrlsFrom k).flatMap s.ctrlHealth) ∧ t = { s with freeCtr := s.freeCtr + 1, resp := t.resp }))
  ∧ (∀ (s : State) (id value : Nat), s.running → miConfigOk id value = true → id ≠ 2 →
    Completes (.miConfigSet id value) s (fun t =>
      t.resp = .mi miSuccess ∧ Sparse.find? t.mgmt.config id = some value
        ∧ (∀ j, j ≠ id → Sparse.find? t.mgmt.config j = Sparse.find? s.mgmt.config j)
        ∧ t = { s with hosts := { s.hosts with mgmt := { s.mgmt with config := t.mgmt.config } }, resp := t.resp }))
  ∧ (∀ (s : State) (id value : Nat), s.running → id = 1 ∨ id = 3 → Sparse.find? s.mgmt.config id = some value →
    Completes (.miConfigGet id) s (fun t => t.resp = .value (BitVec.ofNat 32 value) ∧ OnlyAnswer s t))
  ∧ (∀ (s : State) (off n : Nat), s.running → off + n ≤ 256 →
    Completes (.vpdRead off n) s (fun t => t.resp = .data (s.norBytes (vpdBase + off) n) ∧ OnlyAnswer s t))
  ∧ (∀ (s : State) (off : Nat) (data : List Byte), s.running → off + data.length ≤ 256 →
    Completes (.vpdWrite off data .ok) s (fun t =>
      t.resp = .mi miSuccess ∧ t.norBytes (vpdBase + off) data.length = data
        ∧ (∀ i, i < 256 → (i < off ∨ off + data.length ≤ i) → t.byte (norBase + vpdBase + i) = s.byte (norBase + vpdBase + i))
        ∧ (∀ a, (a < norBase + vpdBase ∨ norBase + vpdBase + 0x20000 ≤ a) → t.byte a = s.byte a)
        ∧ t = { s with mem := t.mem, lines := t.lines, resp := t.resp }))
  ∧ (∀ (s : State) (off : Nat) (data : List Byte), s.running → off + data.length ≤ 256 →
    Completes (.vpdWrite off data .lasting) s (fun t => t.resp = .mi miInternal ∧ OnlyRegs s t))
  ∧ (∀ (s : State), s.running →
    Completes .miReset s (fun t => t.resp = .mi miSuccess ∧ t.dev.warmInProgress = true ∧ t.hosts.mgmt = Mgmt.reset
      ∧ t.reg .dev Reg.DEV_RST_CAUSE = BitVec.ofNat 32 (2 ^ warmBit .subsystem)))
  ∧ (∀ (s : State) (code : Nat), s.running → s.mgmt.busBusy = false → code = 0 ∨ code = 8 →
    Completes (.basicManagement code false) s (fun t =>
      (∃ l, t.resp = .data l ∧ l.length = (if code = 0 then 7 else 23) ∧ l.getD 0 0 = (if code = 0 then 6 else 22))
        ∧ t = { s with freeCtr := s.freeCtr + 1, resp := t.resp })
      ∧ Completes (.basicManagement code true) s (fun t =>
        t.mgmt = { s.mgmt with busBusy := true } ∧ t = { s with hosts := { s.hosts with mgmt := t.hosts.mgmt }, resp := .none }))
  ∧ (∀ (s : State) (fn i : Nat) (e : Sqe), s.running → s.fnExists fn = true → sqeOp e ∈ s.tunnelOps → i < 65536 →
    s.slot? i = none → s.serves = true → s.engineRuns = true → s.keptFree fn = true →
    Completes (.tunnelledAdmin (fn + 1) i e) s (fun t =>
      t.resp = .waiting ∧ (t.slot? i).map (fun x => (x.fn, x.sqid, x.kept, x.placed, x.sqe)) = some (fn, tunnelSqid, true, true, e)
        ∧ t.cmd.workQ = s.cmd.workQ ++ [⟨e, i, fn, tunnelSqid, 0, 0, 0, 0⟩]
        ∧ t = { s with cmd := { s.cmd with slots := t.cmd.slots, nextOrder := s.cmd.nextOrder + 1, workQ := t.cmd.workQ },
                       resp := t.resp }))

/-- Loads, fetches and stores of a running core complete: its TCM, queue SRAM and system SRAM answer the bytes they hold, a
miss fills the L2, a store changes its bytes and no other, and an access that the map, the unit or a lasting parity failure
refuses is a precise access fault (R27, R29, R31, R382, R384, R385, R394). -/
def Obligations.CoreAccesses : Prop :=
  (∀ (s : State) (c : Fin 16) (k : CoreKind) (a n off : Nat) (d back : Bool) (ways : Ways) (first again : LineRead), s.running →
    s.coreRuns c = true → k ≠ .store → 0 < n → tcmAt a = some (d, off) → off + n ≤ 65536 →
    (s.pl (poolOf c)).tcmBad = [] →
    Completes (.coreLoad c k a n ways ⟨.ok, back⟩ first again) s (fun t =>
      t.resp = .data ((List.range n).map (fun i => s.tcmByte c d (off + i))) ∧ OnlyAnswer s t))
  ∧ (∀ (s : State) (c : Fin 16) (k : CoreKind) (a n : Nat) (back : Bool) (ways : Ways) (first again : LineRead), s.running →
    s.coreRuns c = true → k = .load ∨ k = .atomic → 0 < n → tcmAt a = none →
    s.checkMap (.engine (.core c)) a n .read = none → s.buf.sramBad = [] →
    s.region a = some .queueSram
      ∨ (a % 64 + n ≤ 64 ∧ s.region a = some .sysSram ∧ s.lines = [] ∧ s.l2Used (poolOf c) = false) →
    Completes (.coreLoad c k a n ways ⟨.ok, back⟩ first again) s (fun t => t.resp = .data (s.bytes a n) ∧ OnlyAnswer s t))
  ∧ (∀ (s : State) (c : Fin 16) (a n : Nat) (back : Bool) (ways : Ways) (first again : LineRead), s.running →
    s.coreRuns c = true → 0 < n →
    a % 64 + n ≤ 64 → tcmAt a = none → s.checkMap (.engine (.core c)) a n .execute = none → s.buf.sramBad = [] →
    s.region a = some .sysSram → s.lines = [] → s.l1iUsed c = false →
    Completes (.coreLoad c .fetch a n ways ⟨.ok, back⟩ first again) s (fun t => t.resp = .data (s.bytes a n) ∧ OnlyAnswer s t))
  ∧ (∀ (s : State) (c : Fin 16) (a n : Nat) (back : Bool) (ways : Ways) (first again : LineRead), s.running →
    s.coreRuns c = true → 0 < n →
    a % 64 + n ≤ 64 → tcmAt a = none → s.checkMap (.engine (.core c)) a n .read = none → s.buf.sramBad = [] →
    s.region a = some .sysSram → s.lines = [] → s.l2Used (poolOf c) = true → (s.pl (poolOf c)).locked = [] →
    Completes (.coreLoad c .load a n ways ⟨.ok, back⟩ first again) s (fun t =>
      t.resp = .data (s.bytes a n) ∧ (t.cl? (.l2 (poolOf c).val) (a / 64)).isSome = true
        ∧ (t.cl? (.l1d c.val) (a / 64)).isSome = s.l1dUsed c ∧ t = { s with lines := t.lines, resp := t.resp }))
  ∧ (∀ (s : State) (c : Fin 16) (a n : Nat) (b : BusCause) (back : Bool) (ways : Ways) (par : Parity) (first again : LineRead),
    s.running → s.coreRuns c = true → 0 < n → tcmAt a = none → s.checkMap (.engine (.core c)) a n .read = some b →
    s.cf c F.POOL_Cc_FLT_VALID = 0 →
    Completes (.coreLoad c .load a n ways ⟨par, back⟩ first again) s (fun t =>
      t.resp = .busError b ∧ t.cf c F.POOL_Cc_FLT_VALID = 1 ∧ t.cf c F.POOL_Cc_FLT_KIND = fkLoad
        ∧ t.cf c F.POOL_Cc_FLT_CAUSE = b.code
        ∧ t.reg (.pool (poolOf c)) (Reg.POOL_Cc_FLT_ADDR_LO + coreOff c) = BitVec.ofNat 32 a
        ∧ t.reg (.pool (poolOf c)) (Reg.POOL_Cc_FLT_ADDR_HI + coreOff c) = BitVec.ofNat 32 (a / 2 ^ 32 % 256)
        ∧ RegsBut s t [(.pool (poolOf c), Reg.POOL_Cc_FLT + coreOff c), (.pool (poolOf c), Reg.POOL_Cc_FLT_ADDR_LO + coreOff c),
            (.pool (poolOf c), Reg.POOL_Cc_FLT_ADDR_HI + coreOff c)] ∧ OnlyRegs s t))
  ∧ (∀ (s : State) (c : Fin 16) (a n : Nat) (b : BusCause) (back : Bool) (ways : Ways) (par : Parity) (first again : LineRead),
    s.running → s.coreRuns c = true → 0 < n → tcmAt a = none → s.checkMap (.engine (.core c)) a n .read = none →
    s.region a = some .unitSpace → s.checkReg (.engine (.core c)) a n .read = some b → s.cf c F.POOL_Cc_FLT_VALID = 0 →
    Completes (.coreLoad c .load a n ways ⟨par, back⟩ first again) s (fun t => Denied (.core c) b s t))
  ∧ (∀ (s : State) (c : Fin 16) (a n : Nat) (ways : Ways) (first again : LineRead), s.running → s.coreRuns c = true → 0 < n →
    a % 64 + n ≤ 64 → tcmAt a = none → s.checkMap (.engine (.core c)) a n .read = none → s.region a = some .sysSram →
    s.lines = [] → s.cf c F.POOL_Cc_FLT_VALID = 0 →
    Completes (.coreLoad c .load a n ways ⟨.lasting, true⟩ first again) s (fun t =>
      t.resp = .busError .fabricParity ∧ t.cf c F.POOL_Cc_FLT_VALID = 1 ∧ t.cf c F.POOL_Cc_FLT_CAUSE = BusCause.fabricParity.code
        ∧ (t.reg (.pool (poolOf c)) Reg.UNIT_ERR).getLsbD eLasting = true ∧ OnlyRegs s t))
  ∧ (∀ (s : State) (c : Fin 16) (k : CoreKind) (a off : Nat) (l : List Byte) (d : Bool) (ways : Ways) (par : Parity)
    (first again : LineRead), s.running → s.coreRuns c = true → k = .store ∨ k = .atomic → l ≠ [] →
    tcmAt a = some (d, off) → off + l.length ≤ 65536 →
    Completes (.coreStore c k a l ways par first again) s (fun t =>
      (∀ i, i < l.length → t.tcmByte c d (off + i) = l.getD i 0)
        ∧ (∀ o, o < off ∨ off + l.length ≤ o → t.tcmByte c d o = s.tcmByte c d o)
        ∧ t = { s with tcm := t.tcm, pools := t.pools, resp := .none }))
  ∧ (∀ (s : State) (c : Fin 16) (k : CoreKind) (a : Nat) (l : List Byte) (ways : Ways) (par : Parity) (first again : LineRead),
    s.running → s.coreRuns c = true → k = .store ∨ k = .atomic → l ≠ [] → a % 64 + l.length ≤ 64 → tcmAt a = none →
    s.checkMap (.engine (.core c)) a l.length .write = none → s.region a = some .sysSram → s.lines = [] →
    s.l2Used (poolOf c) = false → par ≠ .lasting →
    Completes (.coreStore c k a l ways par first again) s (fun t =>
      t.bytes a l.length = l ∧ (∀ b, b < a ∨ a + l.length ≤ b → t.byte b = s.byte b)
        ∧ t.resp = (if k = .atomic then .data (s.bytes a l.length) else .none)
        ∧ (par = .ok → RegsBut s t [(.buf, Reg.BUF_INJ_CTL)])
        ∧ RegsBut s t [(.buf, Reg.BUF_INJ_CTL), (.buf, Reg.UNIT_ERR), (.buf, Reg.UNIT_RETRY_CNT)]
        ∧ t = { s with mem := t.mem, regs := t.regs, buf := t.buf, resp := t.resp }))
  ∧ (∀ (s : State) (c : Fin 16) (a : Nat) (l : List Byte) (ways : Ways) (first again : LineRead), s.running →
    s.coreRuns c = true → l ≠ [] → a % 64 + l.length ≤ 64 → tcmAt a = none →
    s.checkMap (.engine (.core c)) a l.length .write = none → s.region a = some .sysSram → s.lines = [] →
    s.l2Used (poolOf c) = false → s.cf c F.POOL_Cc_FLT_VALID = 0 →
    Completes (.coreStore c .store a l ways .lasting first again) s (fun t =>
      t.resp = .busError .fabricParity ∧ t.cf c F.POOL_Cc_FLT_VALID = 1 ∧ t.cf c F.POOL_Cc_FLT_KIND = fkStore
        ∧ t.cf c F.POOL_Cc_FLT_CAUSE = BusCause.fabricParity.code
        ∧ (t.reg .buf Reg.UNIT_ERR).getLsbD eLasting = true ∧ OnlyRegs s t))
  ∧ (∀ (s : State) (c : Fin 16) (k : CoreKind) (a : Nat) (l : List Byte) (ways : Ways) (first again : LineRead), s.running →
    s.coreRuns c = true → k = .store ∨ k = .atomic → l ≠ [] → tcmAt a = none →
    s.checkMap (.engine (.core c)) a l.length .write = none → s.region a = some .queueSram →
    Completes (.coreStore c k a l ways .ok first again) s (fun t =>
      t.bytes a l.length = l ∧ (∀ b, b < a ∨ a + l.length ≤ b → t.byte b = s.byte b) ∧ RegsBut s t [(.buf, Reg.BUF_INJ_CTL)]
        ∧ t = { s with mem := t.mem, lines := t.lines, regs := t.regs, buf := t.buf, resp := .none }))

/-- The cache maintenance instructions of a running core complete: by address and by set and way, lines are cleaned, cleaned
and invalidated, or invalidated; DC.I and DC.ISW fault below the higher privilege level; MSYNC and ISYNC change nothing in
this model (DEDUCED, log entry 33; R402). -/
def Obligations.CacheInstructions : Prop :=
  (∀ (s : State) (c : Fin 16) (a : Nat), s.running → s.coreRuns c = true →
    Completes (.dcC c a) s (fun t =>
      LinesCleaned s t (fun x => !x.cache.isI && x.line == a / 64) false
        ∧ LinesKept s t (fun x => !x.cache.isI && x.line == a / 64) ∧ OnlyLines s t ∧ t.resp = .none))
  ∧ (∀ (s : State) (c : Fin 16) (a : Nat), s.running → s.coreRuns c = true →
    Completes (.dcCi c a) s (fun t =>
      LinesCleaned s t (fun x => !x.cache.isI && x.line == a / 64) true
        ∧ LinesKept s t (fun x => !x.cache.isI && x.line == a / 64) ∧ OnlyLines s t ∧ t.resp = .none))
  ∧ (∀ (s : State) (c : Fin 16) (a : Nat), s.running → s.coreRuns c = true → (∀ x ∈ s.lines, x.data.length ≤ 64) →
    Completes (.dcI c true a) s (fun t =>
      t.lines = s.lines.filter (fun x => !(!x.cache.isI && x.line == a / 64))
        ∧ (∀ b, b < 64 * (a / 64) ∨ 64 * (a / 64) + 64 ≤ b → t.byte b = s.byte b)
        ∧ t = { s with mem := t.mem, lines := t.lines, resp := .none }))
  ∧ (∀ (s : State) (c : Fin 16) (a : Nat), s.running → s.coreRuns c = true → s.cf c F.POOL_Cc_FLT_VALID = 0 →
    Completes (.dcI c false a) s (fun t =>
      t.resp = .busError .accessDenied ∧ t.cf c F.POOL_Cc_FLT_VALID = 1 ∧ t.cf c F.POOL_Cc_FLT_KIND = fkMaint
        ∧ t.cf c F.POOL_Cc_FLT_CAUSE = BusCause.accessDenied.code ∧ OnlyRegs s t))
  ∧ (∀ (s : State) (c : Fin 16) (a : Nat), s.running → s.coreRuns c = true →
    Completes (.icI c a) s (fun t =>
      t = { s with lines := s.lines.filter (fun x => !(x.cache.isI && x.line == a / 64)), resp := .none }))
  ∧ (∀ (s : State) (c : Fin 16) (level set way : Nat), s.running → s.coreRuns c = true →
    Completes (.dcCsw c level set way) s (fun t =>
      LinesCleaned s t (s.swPick c level set way) false ∧ OnlyLines s t ∧ t.resp = .none))
  ∧ (∀ (s : State) (c : Fin 16) (level set way : Nat), s.running → s.coreRuns c = true →
    Completes (.dcCisw c level set way) s (fun t =>
      LinesCleaned s t (s.swPick c level set way) true ∧ OnlyLines s t ∧ t.resp = .none))
  ∧ (∀ (s : State) (c : Fin 16) (level set way : Nat), s.running → s.coreRuns c = true →
    (∀ x ∈ s.lines, s.swPick c level set way x = true → x.live = false) →
    Completes (.dcIsw c true level set way) s (fun t =>
      t = { s with lines := s.lines.filter (fun x => !s.swPick c level set way x), resp := .none }))
  ∧ (∀ (s : State) (c : Fin 16), s.running → s.coreRuns c = true →
    Completes (.icIall c) s (fun t => t = { s with lines := s.lines.filter (fun x => !x.inL1i c), resp := .none }))
  ∧ (∀ (s : State) (c : Fin 16), s.running → s.coreRuns c = true →
    Completes (.msync c) s (fun t => t = { s with resp := .none }) ∧ Completes (.isync c) s (fun t => t = { s with resp := .none }))

/-- Whole-pool maintenance, the cache enables, core holds and the TCM port complete, and a write-back fault and a small
engine's bus error are recorded (R382, R387, R393, R399, R405 to R409). -/
def Obligations.PoolMaintenance : Prop :=
  (∀ (s : State) (eng : Engine) (p : Fin 2), s.running → s.inReset (.pool p) = false → engMain eng = true → (s.pl p).cmo = none →
    Completes (.poolCmoClean eng p) s (fun t =>
      (t.pl p).cmo = some 1 ∧ t.on (.pool p) F.POOL_CMO_STAT_BUSY = true ∧ t.on (.pool p) F.POOL_CMO_STAT_DONE = false
        ∧ LinesCleaned s t (fun x => x.inPool p) false ∧ LinesKept s t (fun x => x.inPool p)))
  ∧ (∀ (s : State) (eng : Engine) (p : Fin 2), s.running → s.inReset (.pool p) = false → engMain eng = true → (s.pl p).cmo = none →
    Completes (.poolCmoCleanInvalidate eng p) s (fun t =>
      (t.pl p).cmo = some 2 ∧ t.on (.pool p) F.POOL_CMO_STAT_BUSY = true ∧ LinesCleaned s t (fun x => x.inPool p) true
        ∧ LinesKept s t (fun x => x.inPool p)))
  ∧ (∀ (s : State) (eng : Engine) (p : Fin 2), s.running → s.inReset (.pool p) = false → engMain eng = true → (s.pl p).cmo = none →
    s.allHeld p = true →
    Completes (.poolCmoInvalidate eng p) s (fun t =>
      (t.pl p).cmo = some 3 ∧ t.on (.pool p) F.POOL_CMO_STAT_BUSY = true ∧ t.lines = s.lines.filter (fun x => !x.inPool p)
        ∧ RegsBut s t [(.pool p, Reg.POOL_CMO_STAT)]))
  ∧ (∀ (s : State) (eng : Engine) (p : Fin 2), s.running → s.inReset (.pool p) = false → engMain eng = true →
    s.allHeld p = false →
    Completes (.poolCmoInvalidate eng p) s (fun t =>
      t.on (.pool p) F.POOL_CMO_STAT_REFUSED = true ∧ (t.reg (.pool p) Reg.UNIT_ERR).getLsbD 6 = true
        ∧ RegsBut s t [(.pool p, Reg.POOL_CMO_STAT), (.pool p, Reg.UNIT_ERR)] ∧ OnlyRegs s t))
  ∧ (∀ (s : State) (p : Fin 2), s.running → (s.pl p).cmo.isSome = true →
    Completes (.poolCmoDone p) s (fun t =>
      t.pl p = { s.pl p with cmo := none } ∧ t.on (.pool p) F.POOL_CMO_STAT_BUSY = false
        ∧ t.on (.pool p) F.POOL_CMO_STAT_DONE = true ∧ RegsBut s t [(.pool p, Reg.POOL_CMO_STAT)]
        ∧ t = { s with pools := t.pools, regs := t.regs, resp := .none }))
  ∧ (∀ (s : State) (eng : Engine) (c : Fin 16), s.running → s.inReset (.pool (poolOf c)) = false →
    s.cf c F.POOL_Cc_CTL_L1D_EN = 1 → s.cf c F.POOL_Cc_STAT_D_DRAINING = 0 →
    Completes (.l1dDisable eng c) s (fun t =>
      t.cf c F.POOL_Cc_CTL_L1D_EN = 0 ∧ t.l1dUsed c = false ∧ t.cf c F.POOL_Cc_STAT_D_DRAINING = 1
        ∧ t.cf c F.POOL_Cc_STAT_D_DRAINED = 0
        ∧ RegsBut s t [(.pool (poolOf c), Reg.POOL_Cc_CTL + coreOff c), (.pool (poolOf c), Reg.POOL_Cc_STAT + coreOff c)]
        ∧ OnlyRegs s t))
  ∧ (∀ (s : State) (c : Fin 16), s.running → s.cf c F.POOL_Cc_STAT_D_DRAINING = 1 → c.val ∉ (s.pl (poolOf c)).l1Held →
    Completes (.l1dSweepDone c) s (fun t =>
      t.cf c F.POOL_Cc_STAT_D_DRAINING = 0 ∧ t.cf c F.POOL_Cc_STAT_D_DRAINED = 1 ∧ LinesCleaned s t (fun x => x.inL1 c) true
        ∧ LinesKept s t (fun x => x.inL1 c) ∧ t = { s with lines := t.lines, regs := t.regs, buf := t.buf, resp := .none }))
  ∧ (∀ (s : State) (eng : Engine) (c : Fin 16), s.running → s.inReset (.pool (poolOf c)) = false →
    Completes (.l1iDisable eng c) s (fun t =>
      t.cf c F.POOL_Cc_CTL_L1I_EN = 0 ∧ t.l1iUsed c = false ∧ t.lines = s.lines.filter (fun x => !x.inL1i c)
        ∧ RegsBut s t [(.pool (poolOf c), Reg.POOL_Cc_CTL + coreOff c), (.pool (poolOf c), Reg.POOL_Cc_STAT + coreOff c)]
        ∧ t = { s with lines := t.lines, regs := t.regs, resp := .none }))
  ∧ (∀ (s : State) (eng : Engine) (p : Fin 2), s.running → s.inReset (.pool p) = false → s.on (.pool p) F.POOL_CTL_L2_EN = true →
    s.on (.pool p) F.POOL_STAT_DRAINING = false →
    Completes (.l2Disable eng p) s (fun t =>
      t.on (.pool p) F.POOL_CTL_L2_EN = false ∧ t.l2Used p = false ∧ t.on (.pool p) F.POOL_STAT_DRAINING = true
        ∧ (∀ c, poolOf c = p → t.l1dUsed c = false ∧ t.l1iUsed c = false)
        ∧ t.lines = s.lines.filter (fun y => !(y.cache.isI && y.cache.pool == p))
        ∧ t = { s with lines := t.lines, regs := t.regs, resp := .none }))
  ∧ (∀ (s : State) (p : Fin 2), s.running → s.on (.pool p) F.POOL_STAT_DRAINING = true → (s.pl p).l2Held = false →
    Completes (.l2SweepDone p) s (fun t =>
      t.on (.pool p) F.POOL_STAT_DRAINING = false ∧ t.on (.pool p) F.POOL_STAT_DRAINED = true
        ∧ LinesCleaned s t (fun x => x.inPool p) true ∧ LinesKept s t (fun x => x.inPool p)
        ∧ t = { s with lines := t.lines, regs := t.regs, buf := t.buf, resp := .none }))
  ∧ (∀ (s : State) (eng : Engine) (c : Fin 16), s.running → s.inReset (.pool (poolOf c)) = false →
    Completes (.coreHold eng c) s (fun t =>
      t.holdBit c = true ∧ t.coreRuns c = false ∧ RegsBut s t [(.pool (poolOf c), Reg.POOL_CTL)] ∧ OnlyRegs s t))
  ∧ (∀ (s : State) (c : Fin 16), s.running → s.live (.pool (poolOf c)) = true → s.holdBit c = true → s.heldBit c = false →
    Completes (.coreHeld c) s (fun t =>
      t.heldBit c = true ∧ t.cf c F.POOL_Cc_STAT_RUN = 0 ∧ LinesCleaned s t (fun x => x.inL1 c) true
        ∧ (∀ x ∈ t.lines, x.inL1i c = false) ∧ (∀ p, c.val ∉ (t.pl p).reserved)
        ∧ t = { s with lines := t.lines, regs := t.regs, buf := t.buf, pools := t.pools, resp := .none }))
  ∧ (∀ (s : State) (eng : Engine) (c : Fin 16), s.running → s.inReset (.pool (poolOf c)) = false → s.holdBit c = true →
    s.heldBit c = true →
    Completes (.coreRelease eng c) s (fun t =>
      t.holdBit c = false ∧ t.heldBit c = false ∧ t.cf c F.POOL_Cc_STAT_RUN = 1
        ∧ t.reg (.pool (poolOf c)) (Reg.POOL_Cc_FLT + coreOff c) = 0
        ∧ RegsBut s t [(.pool (poolOf c), Reg.POOL_CTL), (.pool (poolOf c), Reg.POOL_STAT),
            (.pool (poolOf c), Reg.POOL_Cc_STAT + coreOff c), (.pool (poolOf c), Reg.POOL_Cc_FLT + coreOff c),
            (.pool (poolOf c), Reg.POOL_Cc_FLT_ADDR_LO + coreOff c), (.pool (poolOf c), Reg.POOL_Cc_FLT_ADDR_HI + coreOff c)]
        ∧ OnlyRegs s t))
  ∧ (∀ (s : State) (c : Fin 16) (v : Word) (par : Parity), s.running → s.inReset (.pool (poolOf c)) = false → s.heldBit c = true →
    Completes (.tcmPortAccess .service c (some v) par) s (fun t =>
      t.tcmWord (tcmKey c.val (s.cf c F.POOL_Cc_TCM_IDX_DTCM == 1) (s.cf c F.POOL_Cc_TCM_IDX_WORD)) = v
        ∧ (∀ k, k ≠ tcmKey c.val (s.cf c F.POOL_Cc_TCM_IDX_DTCM == 1) (s.cf c F.POOL_Cc_TCM_IDX_WORD) → t.tcmWord k = s.tcmWord k)
        ∧ t.cf c F.POOL_Cc_TCM_IDX_WORD = (if s.cf c F.POOL_Cc_TCM_IDX_AUTOINC = 1
            then (s.cf c F.POOL_Cc_TCM_IDX_WORD + 1) % 2 ^ 14 else s.cf c F.POOL_Cc_TCM_IDX_WORD)
        ∧ RegsBut s t [(.pool (poolOf c), Reg.POOL_Cc_TCM_IDX + coreOff c)]
        ∧ t = { s with tcm := t.tcm, pools := t.pools, regs := t.regs, resp := .none }))
  ∧ (∀ (s : State) (c : Fin 16), s.running → s.inReset (.pool (poolOf c)) = false → s.heldBit c = true →
    (s.pl (poolOf c)).tcmBad = [] → s.cf c F.POOL_Cc_TCM_IDX_AUTOINC = 0 →
    Completes (.tcmPortAccess .service c none .ok) s (fun t =>
      t.resp = .value (s.tcmWord (tcmKey c.val (s.cf c F.POOL_Cc_TCM_IDX_DTCM == 1) (s.cf c F.POOL_Cc_TCM_IDX_WORD)))
        ∧ OnlyAnswer s t))
  ∧ (∀ (s : State) (p : Fin 2) (l : Nat) (cause : Fin 16), s.running →
    s.lines.any (fun x => x.inPool p && x.line == l && x.live) = true → s.on (.pool p) F.POOL_WB_FLT_VALID = false →
    Completes (.evictionWriteback p l cause) s (fun t =>
      t.on (.pool p) F.POOL_WB_FLT_VALID = true ∧ t.f (.pool p) F.POOL_WB_FLT_CAUSE = cause.val
        ∧ t.f (.pool p) F.POOL_WB_FLT_LINE_LO = l % 4 ∧ t.reg (.pool p) Reg.POOL_WB_ADDR = BitVec.ofNat 32 (l / 4)
        ∧ (t.reg (.pool p) Reg.UNIT_ERR).getLsbD 10 = true ∧ t.lines = s.lines.filter (fun x => !(x.inPool p && x.line == l))
        ∧ RegsBut s t [(.pool p, Reg.POOL_WB_FLT), (.pool p, Reg.POOL_WB_ADDR), (.pool p, Reg.UNIT_ERR)]
        ∧ t = { s with mem := t.mem, lines := t.lines, regs := t.regs, resp := .none }))
  ∧ (∀ (s : State) (eng : Engine) (cause : Fin 16), s.running → engSmall eng = true → s.live (engUnit eng) = true →
    Completes (.smallEngineBusError eng (.first cause)) s (fun t =>
      (t.reg (engUnit eng) Reg.UNIT_ERR).getLsbD (if cause.val = 8 then eTimeout else eUncorr) = true
        ∧ RegsBut s t [(engUnit eng, Reg.UNIT_ERR)] ∧ OnlyRegs s t))
  ∧ (∀ (s : State) (eng : Engine), s.running → eng = .housekeeping ∨ eng = .service ∨ eng = .enclave →
    s.live (engUnit eng) = true →
    Completes (.smallEngineBusError eng .second) s (fun t =>
      t.unitState (engUnit eng) = stFault ∧ RegsBut s t [(engUnit eng, Reg.UNIT_STAT)] ∧ OnlyRegs s t))

/-- The mailboxes and the interrupt router complete: an entry is reserved, pushed, popped and given up; a source is routed, set,
delivered or withdrawn, claimed and ended (R389 to R393). -/
def Obligations.MailboxesAndInterrupts : Prop :=
  (∀ (s : State) (eng : Engine) (p : Fin 2), s.running → s.inReset (.pool p) = false → engNum eng ∉ (s.pl p).reserved →
    (s.pl p).used < 64 →
    Completes (.mbxReserve eng p) s (fun t =>
      t.resp = .value 1 ∧ t.pl p = { s.pl p with reserved := (s.pl p).reserved ++ [engNum eng] } ∧ (∀ q, q ≠ p → t.pl q = s.pl q)
        ∧ t = { s with pools := t.pools, resp := t.resp }))
  ∧ (∀ (s : State) (eng : Engine) (p : Fin 2), s.running → s.inReset (.pool p) = false → engNum eng ∉ (s.pl p).reserved →
    64 ≤ (s.pl p).used →
    Completes (.mbxReserve eng p) s (fun t => t.resp = .value 0 ∧ OnlyAnswer s t))
  ∧ (∀ (s : State) (eng : Engine) (p : Fin 2) (v : Word), s.running → s.inReset (.pool p) = false →
    Completes (.mbxLoWrite eng p v) s (fun t =>
      Sparse.find? (t.pl p).low (engNum eng) = some v ∧ (∀ k, k ≠ engNum eng → Sparse.find? (t.pl p).low k = Sparse.find? (s.pl p).low k)
        ∧ (t.pl p).fifo = (s.pl p).fifo ∧ t = { s with pools := t.pools, resp := .none }))
  ∧ (∀ (s : State) (eng : Engine) (p : Fin 2) (v : Word), s.running → s.inReset (.pool p) = false →
    engNum eng ∈ (s.pl p).reserved ∨ (s.pl p).used < 64 →
    Completes (.mbxPush eng p v) s (fun t =>
      (t.pl p).fifo = (s.pl p).fifo ++ [⟨(Sparse.find? (s.pl p).low (engNum eng)).getD 0, v, senderNum eng⟩] ∧ engNum eng ∉ (t.pl p).reserved
        ∧ t = { s with pools := t.pools, resp := .none }))
  ∧ (∀ (s : State) (eng : Engine) (p : Fin 2) (v : Word), s.running → s.inReset (.pool p) = false →
    engNum eng ∉ (s.pl p).reserved → 64 ≤ (s.pl p).used →
    Completes (.mbxPush eng p v) s (fun t =>
      t.f (.pool p) F.POOL_MBX_STAT_DROPS = min (s.f (.pool p) F.POOL_MBX_STAT_DROPS + 1) 0xFFFF
        ∧ (t.reg (.pool p) Reg.UNIT_ERR).getLsbD 12 = true
        ∧ RegsBut s t [(.pool p, Reg.POOL_MBX_STAT), (.pool p, Reg.UNIT_ERR)] ∧ OnlyRegs s t))
  ∧ (∀ (s : State) (eng : Engine) (p : Fin 2) (m : Message) (rest : List Message), s.running → s.inReset (.pool p) = false →
    (s.pl p).fifo = m :: rest → m.sender < 128 →
    Completes (.mbxPop eng p) s (fun t =>
      t.resp = .value m.lo ∧ t.pl p = { s.pl p with fifo := rest }
        ∧ t.latch? (.pool p) eng = some (Reg.POOL_MBX_POP_LO, m.hi) ∧ t.f (.pool p) F.POOL_MBX_STAT_SENDER = m.sender
        ∧ RegsBut s t [(.pool p, Reg.POOL_MBX_STAT)]
        ∧ t = { s with pools := t.pools, regs := t.regs, dev := t.dev, resp := t.resp }))
  ∧ (∀ (s : State) (eng : Engine) (p : Fin 2), s.running → s.inReset (.pool p) = false → (s.pl p).fifo = [] →
    Completes (.mbxPop eng p) s (fun t =>
      t.resp = .value 0 ∧ t.latch? (.pool p) eng = some (Reg.POOL_MBX_POP_LO, 0) ∧ t = { s with dev := t.dev, resp := t.resp }))
  ∧ (∀ (s : State) (eng : Engine) (p : Fin 2), s.running → engNum eng ∈ (s.pl p).reserved →
    Completes (.mbxReservationTimeout eng p) s (fun t =>
      engNum eng ∉ (t.pl p).reserved ∧ (t.pl p).fifo = (s.pl p).fifo ∧ t = { s with pools := t.pools, resp := .none }))
  ∧ (∀ (s : State) (n : Fin 128) (c : Fin 16), s.running → s.deliverable n.val c.val = true →
    Sparse.find? s.irq.delivered n.val = none → s.coreRuns c = true →
    Completes (.irqDeliver n) s (fun t =>
      Sparse.find? t.irq.delivered n.val = some c.val ∧ t.cf c F.POOL_Cc_STAT_RUN = 1
        ∧ RegsBut s t [(.pool (poolOf c), Reg.POOL_Cc_STAT + coreOff c)]
        ∧ t = { s with irq := { s.irq with delivered := t.irq.delivered }, regs := t.regs, resp := .none }))
  ∧ (∀ (s : State) (n : Fin 128) (c : Fin 16), s.running → s.deliverable n.val c.val = true →
    Sparse.find? s.irq.delivered n.val = none → s.coreRuns c = false →
    Completes (.irqDeliver n) s (fun t => t.resp = .waiting ∧ OnlyAnswer s t))
  ∧ (∀ (s : State) (n : Fin 128), s.running → s.deliverable n.val (F.DEV_IRQ_ROUTE_TARGET.get (s.route n.val)) = false →
    Completes (.irqDeliver n) s (fun t =>
      Sparse.find? t.irq.delivered n.val = none
        ∧ (∀ m, m ≠ n.val → Sparse.find? t.irq.delivered m = Sparse.find? s.irq.delivered m)
        ∧ t = { s with irq := { s.irq with delivered := t.irq.delivered }, resp := .none }))
  ∧ (∀ (s : State) (eng : Engine) (c : Fin 16) (n : Nat), s.running → s.inReset (.pool (poolOf c)) = false →
    s.bestIrq c.val = some n →
    Completes (.irqClaim eng c) s (fun t =>
      t.resp = .value (BitVec.ofNat 32 (2 ^ 31 + n)) ∧ s.deliverable n c.val = true ∧ Sparse.find? t.irq.service n = some c.val
        ∧ Sparse.find? t.irq.delivered n = none ∧ t = { s with irq := t.irq, resp := t.resp }))
  ∧ (∀ (s : State) (eng : Engine) (c : Fin 16), s.running → s.inReset (.pool (poolOf c)) = false → s.bestIrq c.val = none →
    Completes (.irqClaim eng c) s (fun t => t.resp = .value 0 ∧ OnlyAnswer s t))
  ∧ (∀ (s : State) (c : Fin 16) (v : Word), s.running → s.inReset (.pool (poolOf c)) = false →
    Sparse.find? s.irq.service (F.POOL_Cc_IRQ_EOI_SOURCE.get v) = some c.val →
    Completes (.irqEoi (.core c) c v) s (fun t =>
      t.inService (F.POOL_Cc_IRQ_EOI_SOURCE.get v) = false
        ∧ t = { s with irq := { s.irq with service := t.irq.service }, resp := .none }))
  ∧ (∀ (s : State) (eng : Engine) (v : Word), s.running → s.inReset .dev = false → engMain eng = true →
    irqSource (s.f .dev F.DEV_IRQ_IDX_SOURCE) = true → F.DEV_IRQ_ROUTE_TARGET.get v < 17 →
    Completes (.irqRouteWrite eng v) s (fun t =>
      t.route (s.f .dev F.DEV_IRQ_IDX_SOURCE) = v &&& 0x80000F1F
        ∧ Sparse.find? t.irq.delivered (s.f .dev F.DEV_IRQ_IDX_SOURCE) = none ∧ t.irq.service = s.irq.service
        ∧ t = { s with irq := t.irq, resp := .none }))
  ∧ (∀ (s : State) (eng : Engine) (v : Word), s.running → s.inReset .dev = false → engMain eng = true →
    Completes (.irqSwi eng v) s (fun t =>
      t.reg .dev Reg.DEV_IRQ_SWI = s.reg .dev Reg.DEV_IRQ_SWI ||| (v &&& 0xFFFF) ∧ RegsBut s t [(.dev, Reg.DEV_IRQ_SWI)] ∧ OnlyRegs s t)
      ∧ Completes (.irqSwc eng v) s (fun t =>
        t.reg .dev Reg.DEV_IRQ_SWI = s.reg .dev Reg.DEV_IRQ_SWI &&& ~~~(v &&& 0xFFFF) ∧ RegsBut s t [(.dev, Reg.DEV_IRQ_SWI)]
          ∧ OnlyRegs s t))

/-- The enclave's requests complete: each ends with its status written, its entry gone and its own effect: an image verified
or refused, a patch written to the service core's data TCM, a measurement, a security version raised, reservation records
given, confirmed and loaded, a locking range set, a key made or erased, data sealed and unsealed (R420 to R427, R431, R432,
R440 to R442). -/
def Obligations.EnclaveRequests : Prop :=
  (∀ (s : State) (a kind : Nat), s.reqDue hoVerify 0 a → kind = s.dByte a 40 + 256 * s.dByte a 41 → kind = 1 ∨ kind = 2 →
    s.dDst a = 0 →
    Completes .hzlVerify s (fun t =>
      ReqDone s t 0 a (s.verify kind (s.dIn a))
        ∧ (s.verify kind (s.dIn a) = hsOk → t.reg64 .hzl Reg.HZL_CNT_VERIFY_LO = (s.reg64 .hzl Reg.HZL_CNT_VERIFY_LO + 1) % 2 ^ 64)
        ∧ (s.verify kind (s.dIn a) ≠ hsOk → t.reg64 .hzl Reg.HZL_CNT_VFAIL_LO = (s.reg64 .hzl Reg.HZL_CNT_VFAIL_LO + 1) % 2 ^ 64
            ∧ (t.reg .hzl Reg.UNIT_ERR).getLsbD 9 = true)
        ∧ t = { s with mem := t.mem, lines := t.lines, regs := t.regs, buf := t.buf, hzl := t.hzl, resp := .none }))
  ∧ (∀ (s : State) (a : Nat), s.reqDue hoPatch 0 a →
    Completes .hzlPatch s (fun t =>
      ((s.verify 3 (s.dIn a) = hsOk ∧ envEnc (s.dIn a) = true
            ∧ Config.sigOk (slice (s.dIn a) 80 16 ++ envBody (s.dIn a)) = true
            ∧ s.dDst a + envLength (s.dIn a) ≤ 65536 ∧ s.dDst a % 4 = 0) →
          ReqDone s t 0 a hsOk
            ∧ ∀ i, i < (toWords (envLength (s.dIn a)) (patchPlain (s.dIn a))).length →
                t.tcmWord (tcmKey (engNum .service) true (s.dDst a / 4 + i))
                  = (toWords (envLength (s.dIn a)) (patchPlain (s.dIn a))).getD i 0)
        ∧ (¬(s.verify 3 (s.dIn a) = hsOk ∧ envEnc (s.dIn a) = true
            ∧ Config.sigOk (slice (s.dIn a) 80 16 ++ envBody (s.dIn a)) = true
            ∧ s.dDst a + envLength (s.dIn a) ≤ 65536 ∧ s.dDst a % 4 = 0) →
          t.tcm = s.tcm ∧ ∃ st, st ≠ hsOk ∧ ReqDone s t 0 a st)))
  ∧ (∀ (s : State) (a : Nat), s.reqDue hoMeasure 0 a → 3 ≤ s.dByte a 40 → s.dByte a 40 ≤ 7 →
    s.dSrcLen a = (if s.dByte a 40 = 6 then 4 else 48) →
    Completes .hzlMeasure s (fun t =>
      ReqDone s t 0 a hsOk ∧ t.measurement (s.dByte a 40) = s.dIn a
        ∧ t = { s with mem := t.mem, lines := t.lines, regs := t.regs, buf := t.buf, hzl := t.hzl, resp := .none }))
  ∧ (∀ (s : State) (a : Nat), s.reqDue hoSvn 0 a → 1 ≤ s.dByte a 40 → s.dByte a 40 ≤ 3 → s.dByte a 41 ≤ 63 →
    Completes .svnAdvance s (fun t =>
      ReqDone s t 0 a hsOk ∧ t.f .hzl (svnField (s.dByte a 40)) = max (s.dByte a 41) (s.f .hzl (svnField (s.dByte a 40)))))
  ∧ (∀ (s : State) (c a : Nat) (m : SpdmMsg), s.reqDue hoSpdm c a → m = .getVersion ∨ m = .getDigests → s.dDst a = 0 →
    Completes (.hzlSpdm m) s (fun t => ReqDone s t c a hsOk ∧ t.freeCtr = s.freeCtr + 1 ∧ t.hzl.sessions = s.hzl.sessions))
  ∧ (∀ (s : State) (a : Nat), s.reqDue hoRsvWait 0 a → s.rsvDue = false →
    Completes .rsvWait s (fun t =>
      t.hzl.standing = some a ∧ t.rqs 0 = (s.rqs 0).map (fun r => if r.addr = a then { r with held := true } else r)
        ∧ t = { s with hzl := t.hzl, resp := .none }))
  ∧ (∀ (s : State) (a : Nat), s.reqDue hoRsvWait 0 a → s.rsvDue = true → s.outClear a 32 →
    Completes .rsvWait s (fun t =>
      ReqEnds s t 0 a hsOk 32 ∧ t.bytes (s.dDst a) 32 = rsvRecord s.hzl.sealVer s.hzl.block (s.hzl.seqRsv + 1)
        ∧ t.hzl.standing = none ∧ t.hzl.asked = true ∧ t.hzl.seqRsv = s.hzl.seqRsv + 1))
  ∧ (∀ (s : State) (a : Nat), s.reqDue hoRsvDone 0 a → s.hzl.asked = true → s.quad (a + 40) = s.hzl.block →
    s.hzl.standing = none →
    Completes .rsvDone s (fun t => ReqDone s t 0 a hsOk ∧ t.hzl.block = s.hzl.block + 1 ∧ t.hzl.asked = false))
  ∧ (∀ (s : State) (a : Nat), s.reqDue hoRsvDone 0 a → s.quad (a + 40) ≠ s.hzl.block →
    Completes .rsvDone s (fun t => ReqDone s t 0 a hsOk ∧ t.hzl.block = s.hzl.block ∧ t.hzl.asked = s.hzl.asked))
  ∧ (∀ (s : State) (a : Nat), s.reqDue hoRsvLoad 0 a → s.word (a + 40) = 1 → s.dSrcLen a = 32 → rsvOk (s.dIn a) = true →
    s.hzl.standing = none →
    Completes .rsvLoad s (fun t =>
      ReqDone s t 0 a hsOk ∧ t.hzl.sealVer = leNat (slice (s.dIn a) 4 4) ∧ t.hzl.block = leNat (slice (s.dIn a) 8 8) + 1
        ∧ t.hzl.sealCtr = (leNat (slice (s.dIn a) 8 8) + 1) * 65536 ∧ t.hzl.seqRsv = leNat (slice (s.dIn a) 16 8)))
  ∧ (∀ (s : State) (c a slot : Nat) (r w : Bool), s.reqDue hoSecSend c a → s.dByte a 40 ∈ secProtocols → s.offered slot = true →
    s.dDst a = 0 →
    Completes (.secSend (.lock slot r w)) s (fun t =>
      ReqDone s t c a hsTcg ∧ t.rangeAt slot = { s.rangeAt slot with rlock := r, wlock := w }
        ∧ (∀ k, k ≠ slot → t.rangeAt k = s.rangeAt k) ∧ t.hzl.keys = s.hzl.keys))
  ∧ (∀ (s : State) (c a : Nat), s.reqDue hoSecRecv c a → s.dDst a = 0 → c = 1 → (s.pl 0).used < 64 →
    s.unitState (.pool 0) ≠ stReset → s.unitState (.pool 0) ≠ stOff → engNum .enclave ∉ (s.pl 0).reserved →
    Completes .secRecv s (fun t =>
      ReqDone s t c a hsTcg ∧ t.hzl.ranges = s.hzl.ranges ∧ t.hzl.keys = s.hzl.keys
        ∧ (t.pl 0).fifo = (s.pl 0).fifo ++ [⟨BitVec.ofNat 32 (s.dTag a + 2 ^ 16 * c), BitVec.ofNat 32 (2 ^ 31 + hsTcg), 17⟩]))
  ∧ (∀ (s : State) (c a n : Nat), s.reqDue hoNsKey c a → n = s.dNsid a → 1 ≤ n → n ≤ 256 → n - 1 < s.kpioBase → s.drbgDue = false →
    (s.keySlot (n - 1)).inProg = none → (s.keySlot (n - 1)).held = none → s.bindCount (n - 1) (s.keySlot (n - 1)).cur = 0 →
    s.keyBusy ⟨false, c, a⟩ = false →
    Completes .nsKey s (fun t =>
      ReqDone s t c a hsOk ∧ t.hzl.generate = s.hzl.generate + 1
        ∧ t.keySlot (n - 1) = ⟨true, ((s.keySlot (n - 1)).cur + 1) % 65536, none, none, none⟩
        ∧ (∀ k, k ≠ n - 1 → t.keySlot k = s.keySlot k)))
  ∧ (∀ (s : State) (c a n : Nat), s.reqDue hoNsErase c a → n = s.dNsid a → 1 ≤ n → n ≤ 256 → s.nsSlots n = [n - 1] →
    (s.keySlot (n - 1)).inProg = none → (s.keySlot (n - 1)).held = none → s.bindCount (n - 1) (s.keySlot (n - 1)).cur = 0 →
    s.keyBusy ⟨true, c, a⟩ = false →
    Completes .nsErase s (fun t =>
      ReqDone s t c a hsOk ∧ t.keySlot (n - 1) = ⟨false, ((s.keySlot (n - 1)).cur + 1) % 65536, none, none, none⟩
        ∧ (∀ k, k ≠ n - 1 → t.keySlot k = s.keySlot k)))
  ∧ (∀ (s : State) (c a n : Nat), s.reqDue hoSeal c a → n = s.dSrcLen a → n ≤ 65536 → s.outClear a (n + 28) →
    s.hzl.sealCtr < s.hzl.block * 65536 → s.hzl.sealCtr + 1 < 2 ^ 48 → s.hzl.standing = none →
    Completes .hzlSeal s (fun t =>
      ReqEnds s t c a hsOk (n + 28)
        ∧ t.bytes (s.dDst a) (n + 28) = gcmIv s.hzl.sealVer s.hzl.sealCtr
            ++ (List.range (n + 16)).map (Config.digest (1 :: gcmIv s.hzl.sealVer s.hzl.sealCtr ++ s.dIn a))
        ∧ t.hzl.sealCtr = s.hzl.sealCtr + 1 ∧ t.hzl.sealVer = s.hzl.sealVer ∧ t.hzl.block = s.hzl.block))
  ∧ (∀ (s : State) (c a n : Nat), s.reqDue hoUnseal c a → s.dSrcLen a = n + 28 → n + 28 ≤ 65536 → s.outClear a n →
    leNat (slice (s.dIn a) 0 4) = s.hzl.sealVer ∨ leNat (slice (s.dIn a) 0 4) + 1 = s.hzl.sealVer →
    Completes .hzlUnseal s (fun t =>
      (Config.sigOk (s.dIn a) = false → ReqDone s t c a hsDigest)
        ∧ (Config.sigOk (s.dIn a) = true →
            ReqEnds s t c a hsOk n ∧ t.bytes (s.dDst a) n = (List.range n).map (Config.digest (2 :: s.dIn a)))
        ∧ t.hzl.sealCtr = s.hzl.sealCtr))

/-- The enclave's events complete: a request is pushed, or ignored in a full channel; a message that waits is posted; a
reservation that comes too late fails what waits; the entropy source fails; the DRBG reseeds; a generation with no command
bound is zeroised; cipher messages start on an idle engine, suspend a less urgent one or wait, and end (R418, R420, R423,
R431, R437, R438, R440). -/
def Obligations.EnclaveEvents : Prop :=
  (∀ (s : State) (eng : Engine) (c : Fin 3) (v : Word), s.running → s.inReset .hzl = false → rqOwner eng c.val = true →
    (s.rqs c.val).length < 8 →
    Completes (.hzlRequestPush eng c v) s (fun t =>
      t.rqs c.val = s.rqs c.val ++ [⟨v.toNat / 64 * 64, false⟩]
        ∧ t = { s with hzl := { s.hzl with reqs := t.hzl.reqs }, resp := .none }))
  ∧ (∀ (s : State) (eng : Engine) (c : Fin 3) (v : Word), s.running → s.inReset .hzl = false → rqOwner eng c.val = true →
    8 ≤ (s.rqs c.val).length →
    Completes (.hzlRequestPush eng c v) s (fun t =>
      t.on .hzl (rqOvf c.val) = true ∧ (t.reg .hzl Reg.UNIT_ERR).getLsbD 13 = true
        ∧ RegsBut s t [(.hzl, (rqOvf c.val).off), (.hzl, Reg.UNIT_ERR)] ∧ OnlyRegs s t))
  ∧ (∀ (s : State) (eng : Engine) (c : Fin 3) (v : Word), s.running → s.inReset .hzl = false → rqOwner eng c.val = false →
    Completes (.hzlRequestPush eng c v) s (fun t => Denied eng .accessDenied s t))
  ∧ (∀ (s : State) (p : Fin 2) (m : Message), s.running → s.inReset .hzl = false →
    s.hzl.owed.find? (fun (e : Nat × Message) => e.1 == p.val) = some (p.val, m) → s.unitState (.pool p) ≠ stReset →
    s.unitState (.pool p) ≠ stOff → (s.pl p).used < 64 → engNum .enclave ∉ (s.pl p).reserved →
    Completes (.enclaveMbxRetry p) s (fun t =>
      (t.pl p).fifo = (s.pl p).fifo ++ [m] ∧ t.hzl = { s.hzl with owed := s.hzl.owed.erase (p.val, m) }
        ∧ t = { s with hzl := t.hzl, pools := t.pools, resp := .none }))
  ∧ (∀ (s : State) (c a : Nat), s.running → c = 1 ∨ c = 2 → s.region a = some .sysSram → s.inWork a 64 = true →
    [1, 2].flatMap (fun c => ((s.rqs c).filter (fun r => r.held && s.dOp r.addr == hoSeal)).map (fun r => (c, r.addr))) = [(c, a)] →
    Completes .rsvDoneTimeout s (fun t => ReqDone s t c a hsRotate ∧ (t.reg .hzl Reg.UNIT_ERR).getLsbD 12 = true))
  ∧ (∀ (s : State), s.running → s.inReset .hzl = false →
    Completes .entropyHealthFail s (fun t =>
      t.unitState .hzl = stFault ∧ t.on .hzl F.HZL_STAT_READY = false ∧ t.on .hzl F.HZL_STAT_ST_FAIL = true
        ∧ (t.reg .hzl Reg.UNIT_ERR).getLsbD 8 = true ∧ t.hzl = { s.hzl with entropyBad := true }
        ∧ RegsBut s t [(.hzl, Reg.HZL_STAT), (.hzl, Reg.UNIT_ERR), (.hzl, Reg.UNIT_STAT)]
        ∧ t = { s with hzl := t.hzl, regs := t.regs, freeCtr := s.freeCtr + 1, resp := .none }))
  ∧ (∀ (s : State), s.running → s.drbgDue = true →
    Completes .drbgReseed s (fun t => t = { s with hzl := { s.hzl with generate := 0 }, resp := .none }))
  ∧ (∀ (s : State) (k : Fin 4096) (g : Nat) (op : KeyOp), s.running → (s.keySlot k.val).old = some g →
    (s.keySlot k.val).inProg = some op → (s.keySlot k.val).held = none → s.bindCount k.val g = 0 → op.chan = 3 →
    Completes (.keyUnbind k) s (fun t =>
      t.keySlot k.val = { s.keySlot k.val with old := none, inProg := none } ∧ (∀ j, j ≠ k.val → t.keySlot j = s.keySlot j)
        ∧ (∀ e, e < 24 → (k.val, g) ∉ (t.rEng e).keys)
        ∧ t.reg64 .hzl Reg.HZL_CNT_ZERO_LO = (s.reg64 .hzl Reg.HZL_CNT_ZERO_LO + 1) % 2 ^ 64
        ∧ RegsBut s t [(.hzl, Reg.HZL_CNT_ZERO_LO), (.hzl, Reg.HZL_CNT_ZERO_LO + 4)]
        ∧ t = { s with hzl := t.hzl, regs := t.regs, resp := t.resp }))
  ∧ (∀ (s : State) (id k g e : Nat) (prio : Fin 4), s.running → s.takes .hzl = true → s.on .hzl F.HZL_STAT_READY = true →
    s.dev.diePause = false → s.messageRoom = true → s.idleEng = some e →
    Completes (.cipherMessageStart id (.own k g) prio .ok) s (fun t =>
      (t.rEng e).run = some ⟨id, k, g, prio.val, some s.capLevel⟩ ∧ (k, g) ∈ (t.rEng e).keys
        ∧ (t.rEng e).susp = (s.rEng e).susp ∧ (∀ j, j ≠ e → t.rEng j = s.rEng j)
        ∧ t = { s with hzl := { s.hzl with engines := t.hzl.engines }, freeCtr := t.freeCtr, resp := .none }))
  ∧ (∀ (s : State) (id k g e : Nat) (prio : Fin 4) (old : CMsg), s.running → s.takes .hzl = true →
    s.on .hzl F.HZL_STAT_READY = true → s.dev.diePause = false → s.messageRoom = false → s.suspendable prio.val = some e →
    (s.rEng e).run = some old →
    Completes (.cipherMessageStart id (.own k g) prio .ok) s (fun t =>
      (t.rEng e).run = some ⟨id, k, g, prio.val, some s.capLevel⟩ ∧ (t.rEng e).susp = old :: (s.rEng e).susp
        ∧ (∀ j, j ≠ e → t.rEng j = s.rEng j)
        ∧ t.reg64 .hzl Reg.HZL_CNT_SUSP_LO = (s.reg64 .hzl Reg.HZL_CNT_SUSP_LO + 1) % 2 ^ 64
        ∧ RegsBut s t [(.hzl, Reg.HZL_CNT_SUSP_LO), (.hzl, Reg.HZL_CNT_SUSP_LO + 4)]
        ∧ t = { s with hzl := { s.hzl with engines := t.hzl.engines }, regs := t.regs, freeCtr := t.freeCtr, resp := .none }))
  ∧ (∀ (s : State) (id i e : Nat) (prio : Fin 4) (x : Slot) (b : Nat × Nat), s.running → s.takes .hzl = true →
    s.on .hzl F.HZL_STAT_READY = true → s.dev.diePause = false → s.messageRoom = true → s.idleEng = some e → s.slot? i = some x →
    x.st.isOpen = true → x.bound = some b →
    Completes (.cipherMessageStart id (.slot i) prio .ok) s (fun t =>
      (t.rEng e).run = some ⟨id, b.1, b.2, prio.val, some s.capLevel⟩ ∧ (∀ j, j ≠ e → t.rEng j = s.rEng j)
        ∧ t = { s with hzl := { s.hzl with engines := t.hzl.engines }, freeCtr := t.freeCtr, resp := .none }))
  ∧ (∀ (s : State) (id k g : Nat) (prio : Fin 4), s.running → s.takes .hzl = true → s.on .hzl F.HZL_STAT_READY = true →
    s.dev.diePause = false → s.messageRoom = false → s.suspendable prio.val = none →
    Completes (.cipherMessageStart id (.own k g) prio .ok) s (fun t =>
      t = { s with hzl := { s.hzl with waiting := waitIn s.hzl.waiting ⟨id, k, g, prio.val, none⟩ }, resp := .none }))
  ∧ (∀ (s : State) (e : Fin 24) (m : CMsg), s.running → s.live .hzl = true → (s.rEng e.val).run = some m → s.hzl.waiting = [] →
    s.hzl.engines.all (fun (x : Nat × RoundEngine) => x.2.susp.isEmpty) = true →
    Completes (.cipherMessageEnd e) s (fun t =>
      t.rEng e.val = { s.rEng e.val with run := none } ∧ (∀ j, j ≠ e.val → t.rEng j = s.rEng j)
        ∧ t = { s with hzl := { s.hzl with engines := t.hzl.engines }, resp := .none }))

/-- The SPDM responder completes its messages while the enclave is ready: responses whose bytes SPDM defines, a measurement as
recorded, and the sessions opened, used, rekeyed and ended (R376, R377, R433, R439). -/
def Obligations.SpdmMessages : Prop :=
  (∀ (s : State) (i : Instr), s.running → s.clocked .hzl = true → s.on .hzl F.HZL_STAT_READY = true →
    i ∈ [Instr.getVersion, .getCapabilities, .negotiateAlgorithms, .getDigests, .getCertificate, .spdmChallenge] →
    Completes i s (fun t => ∃ l, t.resp = .data l ∧ l.length ≤ 4224 ∧ t = { s with freeCtr := s.freeCtr + 1, resp := t.resp }))
  ∧ (∀ (s : State) (k : Nat), s.running → s.clocked .hzl = true → s.on .hzl F.HZL_STAT_READY = true →
    Completes (.getMeasurements k) s (fun t => t.resp = .data (s.measurement k) ∧ OnlyAnswer s t))
  ∧ (∀ (s : State), s.running → s.clocked .hzl = true → s.on .hzl F.HZL_STAT_READY = true → s.hzl.sessions.length < 4 →
    s.newSession < 4 →
    Completes .keyExchange s (fun t =>
      t.hzl.sessions = s.hzl.sessions ++ [⟨s.newSession, [4 * s.newSession, 4 * s.newSession + 1, 4 * s.newSession + 2,
          4 * s.newSession + 3], 0, false⟩]
        ∧ t.hzl.generate = s.hzl.generate + 1 ∧ t = { s with hzl := t.hzl, freeCtr := s.freeCtr + 1, resp := t.resp }))
  ∧ (∀ (s : State) (id : Nat) (x : Session), s.running → s.clocked .hzl = true → s.on .hzl F.HZL_STAT_READY = true →
    s.session? id = some x → x.counter + 1 < 2 ^ 48 →
    Completes (.spdmFinish id) s (fun t =>
      t.session? id = some { x with finished := true, counter := 0 }
        ∧ (∀ j, j ≠ id → t.session? j = s.session? j)
        ∧ t = { s with hzl := { s.hzl with sessions := t.hzl.sessions }, freeCtr := s.freeCtr + 1, resp := t.resp })
      ∧ Completes (.spdmHeartbeat id) s (fun t =>
        t.session? id = some { x with counter := x.counter + 1 } ∧ (∀ j, j ≠ id → t.session? j = s.session? j)
          ∧ t = { s with hzl := { s.hzl with sessions := t.hzl.sessions }, freeCtr := s.freeCtr + 1, resp := t.resp })
      ∧ Completes (.keyUpdate id) s (fun t =>
        t.session? id = some { x with counter := 0 } ∧ (∀ j, j ≠ id → t.session? j = s.session? j)
          ∧ t = { s with hzl := { s.hzl with sessions := t.hzl.sessions }, freeCtr := s.freeCtr + 1, resp := t.resp })
      ∧ Completes (.endSession id) s (fun t =>
        t.session? id = none ∧ (∀ j, j ≠ id → t.session? j = s.session? j)
          ∧ t = { s with hzl := { s.hzl with sessions := t.hzl.sessions }, freeCtr := s.freeCtr + 1, resp := t.resp }))
  ∧ (∀ (s : State) (id : Nat), s.running → s.clocked .hzl = true → (s.session? id).isSome = true →
    Completes (.heartbeatExpiry id) s (fun t =>
      t.session? id = none ∧ (∀ j, j ≠ id → t.session? j = s.session? j)
        ∧ t = { s with hzl := { s.hzl with sessions := t.hzl.sessions }, resp := .none }))
  ∧ (∀ (s : State) (id : Nat), s.running → s.clocked .hzl = true → s.on .hzl F.HZL_STAT_READY = true → s.session? id = none →
    Completes (.spdmFinish id) s (fun t => t.resp = .mi spdmUnexpected ∧ OnlyAnswer s t))


/-- Firmware download and commits complete: a piece is placed at its offset (R449); a staged image that verifies is written to
the slot that the action names, and one that does not leaves the NOR alone; an action that names a next image writes a boot
record, one SEQ on (R450, R451, R452, R475, R477, R478, R482). -/
def Obligations.FirmwareCommits : Prop :=
  (∀ (s : State) (fn : Fin 64) (off : Nat) (data : List Byte), s.running → s.ctrlServes fn.val = true →
    (s.svcs.chrysalis = true → s.on .buf F.BUF_STAT_TRAINED = true) → off % 4096 = 0 → off + data.length ≤ stagingSize →
    Completes (.fwDownload fn off data) s (fun t =>
      t.resp = .status .success ∧ t.svcs.stagedLen = max s.svcs.stagedLen (off + data.length)
        ∧ (∀ k, Sparse.get (fun _ => (0 : Byte)) t.svcs.staged k
            = if off ≤ k ∧ k < off + data.length then data.getD (k - off) 0 else Sparse.get (fun _ => 0) s.svcs.staged k)
        ∧ t = { s with svcs := { s.svcs with staged := t.svcs.staged, stagedLen := t.svcs.stagedLen }, resp := t.resp }))
  ∧ (∀ (s : State) (fn : Fin 64) (slot k : Nat), s.running → s.ctrlServes fn.val = true → s.svcs.chrysalis = false →
    s.svcs.handover = none → envMagic s.stagedImage = envMagicValue → envKind s.stagedImage = 1 → s.writeSlot slot = some k →
    s.slotSize ≤ 25 * 2 ^ 20 →
    Completes (.fwCommitWrite fn slot .ok) s (fun t =>
      ((s.verify 1 s.stagedImage = hsOk ∧ fwBodyOk (envBody s.stagedImage) = true ∧ s.stagedImage.length ≤ s.slotSize) →
          t.resp = .status .success ∧ t.norBytes (s.slotAt k) s.stagedImage.length = s.stagedImage
            ∧ (∀ a, (a < norBase + s.slotAt k ∨ norBase + s.slotAt k + s.slotSize ≤ a) → t.byte a = s.byte a)
            ∧ RegsBut s t [(.hzl, Reg.HZL_CNT_VERIFY_LO), (.hzl, Reg.HZL_CNT_VERIFY_LO + 4)])
        ∧ (¬(s.verify 1 s.stagedImage = hsOk ∧ fwBodyOk (envBody s.stagedImage) = true ∧ s.stagedImage.length ≤ s.slotSize) →
          t.resp = .status .invalidFwImage ∧ t.mem = s.mem)
        ∧ t.svcs = { s.svcs with staged := [], stagedLen := 0 }
        ∧ t = { s with mem := t.mem, lines := t.lines, regs := t.regs, svcs := t.svcs, resp := t.resp }))
  ∧ (∀ (s : State) (fn : Fin 64) (slot k : Nat), s.running → s.ctrlServes fn.val = true → s.svcs.chrysalis = false →
    s.svcs.handover = none → envMagic s.stagedImage = envMagicValue → envKind s.stagedImage = 2 →
    k = 1 - s.f .svc F.SVC_BOOT_SEL_IDSAR → s.bootRec.seq + 1 < 2 ^ 64 →
    Completes (.fwCommitWrite fn slot .ok) s (fun t =>
      ((s.verify 2 s.stagedImage = hsOk ∧ s.stagedImage.length ≤ 0x100000) →
          t.resp = .status .success ∧ t.norBytes (idsarAt k) s.stagedImage.length = s.stagedImage
            ∧ t.bootRec = { s.bootRec with seq := s.bootRec.seq + 1, idsarNext := k })
        ∧ (¬(s.verify 2 s.stagedImage = hsOk ∧ s.stagedImage.length ≤ 0x100000) →
          t.resp = .status .invalidFwImage ∧ t.mem = s.mem)
        ∧ t.svcs = { s.svcs with staged := [], stagedLen := 0 }
        ∧ t = { s with mem := t.mem, lines := t.lines, regs := t.regs, svcs := t.svcs, resp := t.resp }))
  ∧ (∀ (s : State) (fn : Fin 64) (slot k : Nat), s.running → s.ctrlServes fn.val = true → s.svcs.chrysalis = false →
    s.svcs.handover = none → envMagic s.stagedImage = envMagicValue → envKind s.stagedImage = 1 → s.writeSlot slot = some k →
    s.slotSize ≤ 25 * 2 ^ 20 → s.bootRec.seq + 1 < 2 ^ 64 →
    Completes (.fwCommitWriteNext fn slot .ok) s (fun t =>
      ((s.verify 1 s.stagedImage = hsOk ∧ fwBodyOk (envBody s.stagedImage) = true ∧ s.stagedImage.length ≤ s.slotSize) →
          t.resp = .status .fwResetSubsystem ∧ t.norBytes (s.slotAt k) s.stagedImage.length = s.stagedImage
            ∧ t.bootRec = { s.bootRec with seq := s.bootRec.seq + 1, next := k })
        ∧ (¬(s.verify 1 s.stagedImage = hsOk ∧ fwBodyOk (envBody s.stagedImage) = true ∧ s.stagedImage.length ≤ s.slotSize) →
          t.resp = .status .invalidFwImage ∧ t.mem = s.mem)
        ∧ t.svcs = { s.svcs with staged := [], stagedLen := 0 }
        ∧ t = { s with mem := t.mem, lines := t.lines, regs := t.regs, svcs := t.svcs, resp := t.resp }))
  ∧ (∀ (s : State) (fn : Fin 64) (slot : Nat) (next : Bool), s.running → s.ctrlServes fn.val = true → s.svcs.handover.isSome = true →
    Completes (if next then .fwCommitWriteNext fn slot .ok else .fwCommitWrite fn slot .ok) s (fun t =>
      t.resp = .status .fwProhibited ∧ OnlyAnswer s t))
  ∧ (∀ (s : State) (fn : Fin 64) (slot : Nat), s.running → s.ctrlServes fn.val = true → s.svcs.chrysalis = false →
    s.svcs.handover = none → 1 ≤ slot → slot ≤ 3 → s.bootRec.seq + 1 < 2 ^ 64 →
    Completes (.fwCommitNext fn slot .ok) s (fun t =>
      (s.slotValid slot = true →
          t.resp = .status .fwResetSubsystem ∧ t.bootRec = { s.bootRec with seq := s.bootRec.seq + 1, next := slot }
            ∧ t.f .svc F.SVC_FW_STAT_NEXT = slot ∧ RegsBut s t [(.svc, Reg.SVC_FW_STAT)]
            ∧ (∀ a, (a < norBase ∨ norBase + 0x20000 ≤ a) → t.byte a = s.byte a)
            ∧ t = { s with mem := t.mem, lines := t.lines, regs := t.regs, resp := t.resp })
        ∧ (s.slotValid slot = false → t.resp = .status .invalidFwImage ∧ OnlyAnswer s t)))

/-- A boot record that is programmed is the one in force afterwards, one SEQ on, wherever in its region it was placed (R477,
R478). -/
def Obligations.BootRecordInForce : Prop :=
  ∀ (s : State) (r : BootRec), s.bootRec.seq + 1 < 2 ^ 64 → r.committed < 256 → r.next < 256 → r.idsarNext < 256 →
    r.patchNext < 256 → r.setPair < 256 →
    (s.bootProgram r .ok).2 = true ∧ (s.bootProgram r .ok).1.bootRec = { r with seq := s.bootRec.seq + 1 }
      ∧ (∀ a, (a < norBase ∨ norBase + 0x20000 ≤ a) → (s.bootProgram r .ok).1.byte a = s.byte a)

/-- The live handover completes its steps: pool 1 hands on its commands and its interrupt routes, and is loaded and released
with new work to pool 0 alone; the cores' replies; READY of pool 0, with transfer records that it can read, begins probation;
a pool that is not ready in time returns; heartbeats are sampled; the end of probation makes the new image the committed one
(R452, R454, R455, R456, R458, R460, R463, R464, R466, R470, R471). -/
def Obligations.LiveHandover : Prop :=
  (∀ (s : State) (fn : Fin 64) (cid slot : Nat), s.running → s.ctrlServes fn.val = true → s.svcs.chrysalis = false →
    s.svcs.handover = none → s.svcs.fallback = false → 1 ≤ slot → slot ≤ 3 → s.bootRec.next = s.bootRec.committed →
    slot ≠ s.bootRec.committed → s.lines = [] →
    Completes (.fwCommitHandover fn cid slot .ok) s (fun t =>
      (s.slotValid slot = false → t.resp = .status .invalidFwImage ∧ OnlyAnswer s t)
        ∧ (s.slotValid slot = true → fwRefusal (envBody (s.slotImage s.bootRec.committed)) (envBody (s.slotImage slot)) ≠ 0 →
            t.resp = .status .fwProhibited ∧ t.svcs = s.svcs ∧ RegsBut s t [(.svc, Reg.SVC_FW_RES)]
              ∧ t = { s with regs := t.regs, resp := t.resp })
        ∧ (s.slotValid slot = true → fwRefusal (envBody (s.slotImage s.bootRec.committed)) (envBody (s.slotImage slot)) = 0 →
            t.resp = .waiting ∧ t.svcs.handover = some ⟨fn.val, cid, s.bootRec.committed, slot, 3, false, true, 0, 0, 0, 0, false⟩
              ∧ t.svcs.xferSeq = s.svcs.xferSeq + 1
              ∧ (∀ i x, s.slot? i = some x → x.pool = some 1 → t.slot? i = some { x with pool := some 0 })
              ∧ (∀ n, F.DEV_IRQ_ROUTE_EN.get (s.route n) = 1 → 8 ≤ F.DEV_IRQ_ROUTE_TARGET.get (s.route n) →
                  F.DEV_IRQ_ROUTE_TARGET.get (s.route n) < 16 →
                  F.DEV_IRQ_ROUTE_TARGET.get (t.route n) = F.DEV_IRQ_ROUTE_TARGET.get (s.route n) - 8)
              ∧ (t.workRing 1).empty = true
              ∧ t.f .cmd F.CMD_CTL_POOL_MASK = 1 ∧ t.f .svc F.SVC_FW_STAT_PHASE = 3 ∧ t.f .svc F.SVC_FW_STAT_P1_SLOT = slot
              ∧ t.bytes (dramBase + 0x2000000) (envBody (s.slotImage slot)).length = envBody (s.slotImage slot))))
  ∧ (∀ (s : State) (v : Word), s.running → s.inReset .svc = false →
    Completes (.fwReplyWrite .service v) s (fun t =>
      t.reg .svc Reg.SVC_FW_REPLY = v &&& 0xC000FF03 ∧ RegsBut s t [(.svc, Reg.SVC_FW_REPLY)] ∧ OnlyRegs s t))
  ∧ (∀ (s : State) (c : Fin 16) (v : Word), s.running → s.inReset .svc = false →
    s.svcs.handover.all (fun h => h.step == 7) = true → F.SVC_FW_REPLY_REFUSE.get (s.reg .svc Reg.SVC_FW_REPLY) = 0 →
    F.SVC_FW_REPLY_REFUSE.get v = 0 →
    Completes (.fwReplyWrite (.core c) v) s (fun t =>
      t.reg .svc Reg.SVC_FW_REPLY = (s.reg .svc Reg.SVC_FW_REPLY &&& 0xC0000003) ||| (v &&& 0xC000FF03)
        ∧ RegsBut s t [(.svc, Reg.SVC_FW_REPLY)] ∧ OnlyRegs s t))
  ∧ (∀ (s : State) (c : Fin 16) (v : Word) (h : Handover) (q : Sq) (cq : Cq), s.running → s.inReset .svc = false →
    s.svcs.handover = some h → h.step = 6 → h.back = false → F.SVC_FW_REPLY_REFUSE.get (s.reg .svc Reg.SVC_FW_REPLY) = 0 →
    F.SVC_FW_REPLY_REFUSE.get v = 0 → F.SVC_FW_REPLY_READY.get v = 1 → s.xferOk = true → h.owed = true → s.subq? h.fn 0 = some q → q.cqid = 0 →
    s.compq? h.fn 0 = some cq →
    Completes (.fwReplyWrite (.core c) v) s (fun t =>
      t.svcs = { s.svcs with handover := some { h with step := 7, owed := false } } ∧ t.f .cmd F.CMD_CTL_POOL_MASK = 3
        ∧ t.f .svc F.SVC_FW_STAT_PHASE = 7 ∧ t.f .svc F.SVC_FW_STAT_PROB_S = 0
        ∧ t.cmd.posted = s.cmd.posted ++ [⟨h.fn, cq.cqid, cq.tail, 0, q.head, h.cid, cq.phase, Cpl.ofStatus .success⟩]
        ∧ t.mem = s.mem))
  ∧ (∀ (s : State) (h : Handover), s.running → s.svcs.handover = some h → h.step ≠ 7 → h.back = true →
    Completes .handoverReadyTimeout s (fun t =>
      t.dev.warmInProgress = true ∧ t.svcs.handover = none ∧ t.reg .dev Reg.DEV_RST_CAUSE = 4))
  ∧ (∀ (s : State) (h : Handover), s.running → s.svcs.handover = some h → h.step = 7 →
    (s.on .svc F.SVC_FW_REPLY_HB0 = true ∨ h.miss0 = 0) → (s.on .svc F.SVC_FW_REPLY_HB1 = true ∨ h.miss1 = 0) →
    cores.any (fun c => s.cf c F.POOL_Cc_STAT_RUN == 3) = false →
    Completes .heartbeatSample s (fun t =>
      t.svcs = { s.svcs with handover := some { h with
          samples := h.samples + 1, miss0 := if s.on .svc F.SVC_FW_REPLY_HB0 = true then 0 else 1,
          miss1 := if s.on .svc F.SVC_FW_REPLY_HB1 = true then 0 else 1 } }
        ∧ t.on .svc F.SVC_FW_REPLY_HB0 = false ∧ t.on .svc F.SVC_FW_REPLY_HB1 = false
        ∧ t.f .svc F.SVC_FW_STAT_PROB_S = min 60 ((h.samples + 1) / 2)
        ∧ RegsBut s t [(.svc, Reg.SVC_FW_REPLY), (.svc, Reg.SVC_FW_STAT)]
        ∧ t = { s with regs := t.regs, svcs := t.svcs, resp := .none }))
  ∧ (∀ (s : State) (h : Handover), s.running → s.svcs.handover = some h → h.step = 7 → h.slotN < 256 → s.bootRec.seq + 1 < 2 ^ 64 →
    s.bootRec.setPair ≤ 1 →
    Completes (.probationEnd .ok) s (fun t =>
      t.bootRec = { s.bootRec with
          seq := s.bootRec.seq + 1, committed := h.slotN, next := h.slotN
          setPair := if s.norUsed (pairAt (1 - s.bootRec.setPair)) 0x20000 = true
            then 1 - s.bootRec.setPair else s.bootRec.setPair }
        ∧ t.svcs = { s.svcs with handover := none, xfer := none } ∧ t.f .cmd F.CMD_CTL_POOL_MASK = 3 ∧ t.f .svc F.SVC_FW_STAT_PHASE = 0
        ∧ t.measurement 7 = sha384 (envBody (s.slotImage h.slotN))
        ∧ t.reg64 .svc Reg.SVC_FW_CNT_ACT_LO = (s.reg64 .svc Reg.SVC_FW_CNT_ACT_LO + 1) % 2 ^ 64
        ∧ (∀ a, (a < norBase ∨ norBase + 0x20000 ≤ a) →
            (a < norBase + pairAt s.bootRec.setPair ∨ norBase + pairAt s.bootRec.setPair + 0x20000 ≤ a) → t.byte a = s.byte a)
        ∧ t = { s with mem := t.mem, lines := t.lines, regs := t.regs, svcs := t.svcs, hzl := { s.hzl with meas := t.hzl.meas },
                       resp := .none }))


/-- The starts complete as far as the configuration stage: a cold start from PWRON_N, from a thermal hold or from a crystal
hold records its cause and chooses the image of attempt 1; a warm start keeps the straps and takes the attempt that the
failure count gives; both change only the boot history and the armed shutdown record in the NOR; the enclave's self-tests end
(R43, R52, R417, R472, R473, R475, R479, R488, R494, R518, R545). -/
def Obligations.Starts : Prop :=
  (∀ (s : State) (i : Instr) (w : StartWorld) (cause : Nat), w.nor = .ok → 64 ≤ w.norMib → w.boot ≠ 1 → w.boot ≠ 2 →
    s.bootRec.next < 4 →
    (i = .coldStart w ∧ cause = 0 ∧ (s.dev.power = .coldHeld ∨ s.dev.power = .off
        ∨ (s.dev.power = .on ∧ s.stage = 0 ∧ s.dev.warmInProgress = false)))
      ∨ (i = .thermalHoldEnd w ∧ cause = 5 ∧ s.dev.power = .thermHeld)
      ∨ (i = .crystalRestart w ∧ cause = 6 ∧ s.dev.power = .xtalHeld) →
    Completes i s (fun t =>
      t.dev.power = .on ∧ t.stage = 2 ∧ t.reg .dev Reg.DEV_RST_CAUSE = BitVec.ofNat 32 (2 ^ cause)
        ∧ t.f .svc F.SVC_BOOT_STAT_ATTEMPT = 1 ∧ t.f .svc F.SVC_BOOT_STAT_WARM = 0 ∧ t.f .svc F.SVC_BOOT_SEL_SLOT = s.bootRec.next
        ∧ t.on .svc F.SVC_BOOT_SEL_VALID = true ∧ t.f .svc F.SVC_NOR_STAT_NOR_MIB = min w.norMib 256
        ∧ t.f .svc F.SVC_NOR_STAT_SLOT_MIB = slotMib (min w.norMib 256) ∧ t.f (.pep 0) F.PEP_STAT_STRAP = bit w.split
        ∧ Sparse.get (fun _ => 0) t.hosts.life lifeCycles = Sparse.get (fun _ => 0) s.hosts.life lifeCycles + 1
        ∧ t.hosts.namespaces = s.hosts.namespaces
        ∧ (∀ a, inNor a = false → t.byte a = memReset a)
        ∧ (∀ a, inNor a = true → (a < norBase + 0x20000 ∨ norBase + 0x40000 ≤ a) → (a < norBase + shutBase ∨ norBase + 0x100000 ≤ a) →
            t.byte a = s.byte a)))
  ∧ (∀ (s : State) (w : StartWorld), s.running → s.dev.warmInProgress = true → s.stage = 0 → s.inReset .svc = false →
    w.nor = .ok → 64 ≤ w.norMib → s.entersChrysalis = false → s.on .hzl F.HZL_STAT_READY = false →
    Completes (.warmStart w) s (fun t =>
      t.stage = 2 ∧ t.f .svc F.SVC_BOOT_STAT_ATTEMPT = s.attempt ∧ t.f .svc F.SVC_BOOT_STAT_WARM = 1
        ∧ t.svcs.fallback = decide (2 ≤ s.attempt) ∧ t.svcs.strapBoot = s.svcs.strapBoot ∧ t.on .hkp F.HKP_THM_STAT_ARMED = true
        ∧ (∀ a, (a < norBase + 0x20000 ∨ norBase + 0x40000 ≤ a) → (a < norBase + shutBase ∨ norBase + 0x100000 ≤ a) →
            t.byte a = s.byte a)
        ∧ RegsBut s t [(.svc, Reg.SVC_BOOT_STAT), (.svc, Reg.SVC_BOOT_SEL), (.svc, Reg.SVC_NOR_STAT), (.hkp, Reg.HKP_REC_SLOT),
            (.hkp, Reg.HKP_REC_SEQ_LO), (.hkp, Reg.HKP_REC_SEQ_LO + 4), (.hkp, Reg.HKP_THM_STAT)]
        ∧ t = { s with mem := t.mem, lines := t.lines, regs := t.regs, svcs := t.svcs, hosts := t.hosts, dev := t.dev,
                       freeCtr := t.freeCtr, resp := .none }))
  ∧ (∀ (s : State), s.running → s.inReset .hzl = false → s.hzl.tested = false → s.hzl.entropyBad = false →
    s.stage < 2 ∨ 5 < s.stage →
    Completes (.selfTestDone none) s (fun t =>
      t.on .hzl F.HZL_STAT_READY = true ∧ RegsBut s t [(.hzl, Reg.HZL_STAT)]
        ∧ t = { s with hzl := { s.hzl with tested := true }, regs := t.regs, resp := .none }))
  ∧ (∀ (s : State) (k : Nat), s.running → s.inReset .hzl = false → s.hzl.tested = false → s.starting = false →
    Completes (.selfTestDone (some k)) s (fun t =>
      t.on .hzl F.HZL_STAT_ST_FAIL = true ∧ t.f .hzl F.HZL_STAT_ST_ID = k % 256 ∧ t.unitState .hzl = stFault
        ∧ (t.reg .hzl Reg.UNIT_ERR).getLsbD 8 = true
        ∧ RegsBut s t [(.hzl, Reg.HZL_STAT), (.hzl, Reg.UNIT_ERR), (.hzl, Reg.UNIT_STAT)]
        ∧ t = { s with hzl := { s.hzl with tested := true }, regs := t.regs, freeCtr := s.freeCtr + 1, resp := .none }))

/-- A start is served and watched over: the cores' replies, the write of pool 0's READY after its restore, the configuration
lock, SERVING once both pools are ready, the kicks and the expiries of the start watchdog (R484, R490, R491, R492, R500, R501,
R502). -/
def Obligations.ServingAndWatchdog : Prop :=
  (∀ (s : State) (c : Fin 16) (v : Word), s.running → s.inReset .svc = false → F.SVC_BOOT_REPLY_REFUSE.get v = 0 →
    F.SVC_BOOT_REPLY_P0_READY.get v = 0 ∨ F.SVC_BOOT_REPLY_P0_READY.get (s.reg .svc Reg.SVC_BOOT_REPLY) = 1 ∨ s.stage ≠ 6 →
    Completes (.bootReplyWrite (.core c) v) s (fun t =>
      t.reg .svc Reg.SVC_BOOT_REPLY = (s.reg .svc Reg.SVC_BOOT_REPLY &&& 0x80000003) ||| (v &&& 0x8000FF03) ∧ t.resp = .none
        ∧ RegsBut s t [(.svc, Reg.SVC_BOOT_REPLY)] ∧ OnlyRegs s t))
  ∧ (∀ (s : State) (c : Fin 16) (v : Word), s.running → s.inReset .svc = false → F.SVC_BOOT_REPLY_REFUSE.get v = 1 →
    s.starting = true →
    Completes (.bootReplyWrite (.core c) v) s (fun t => t.dev.warmInProgress = true ∧ t.reg .dev Reg.DEV_RST_CAUSE = 4))
  ∧ (∀ (s : State), s.running → s.inReset .svc = false → s.stage = 6 → s.poolsReady = true →
    Completes (.serving .service) s (fun t =>
      t.on .svc F.SVC_BOOT_CTL_SERVING = true ∧ t.stage = 7 ∧ t.f .svc F.SVC_FAIL_COUNT = 0 ∧ t.f .cmd F.CMD_CTL_POOL_MASK = 3
        ∧ t.dev.warmInProgress = false
        ∧ (∀ f, f < 64 → (s.ctrl f).en = true → s.fnExists f = true → (t.ctrl f).rdy = true)
        ∧ RegsBut s t [(.cmd, Reg.CMD_CTL), (.svc, Reg.SVC_BOOT_CTL), (.svc, Reg.SVC_BOOT_STAT), (.svc, Reg.SVC_FAIL)]
        ∧ (∀ a, (a < norBase + 0x20000 ∨ norBase + 0x40000 ≤ a) → t.byte a = s.byte a)))
  ∧ (∀ (s : State), s.running → s.inReset .svc = false → s.stage = 0 → s.locked = false →
    Completes (.configLock .service) s (fun t =>
      t.locked = true ∧ (∀ u, t.f u F.UNIT_STAT_CFG_LOCK = 1)
        ∧ RegsBut s t ((.svc, Reg.SVC_BOOT_CTL) :: (.pep 0, Reg.UNIT_ERR) :: (.pep 1, Reg.UNIT_ERR)
            :: units.map (fun u => (u, Reg.UNIT_STAT)))
        ∧ OnlyRegs s t))
  ∧ (∀ (s : State) (v : Word), s.running → s.inReset .svc = false →
    Completes (.watchdogKick .service v) s (fun t =>
      t.on .svc F.SVC_WDOG_HOLD = v.getLsbD 31 ∧ t.resp = .none ∧ RegsBut s t [(.svc, Reg.SVC_WDOG)] ∧ OnlyRegs s t))
  ∧ (∀ (s : State) (i : Instr), s.running → s.on .svc F.SVC_BOOT_CTL_SERVING = false →
    (i = .startWatchdogExpiry ∧ s.on .svc F.SVC_WDOG_HOLD = false ∧ s.svcs.chrysalis = false) ∨ i = .kickTimeout →
    Completes i s (fun t => t.dev.warmInProgress = true ∧ t.reg .dev Reg.DEV_RST_CAUSE = 8 ∧ t.dev.power = .on))
  ∧ (∀ (s u : State) (c : Fin 16) (v : Word), s.running → s.inReset .svc = false → F.SVC_BOOT_REPLY_REFUSE.get v = 0 →
    F.SVC_BOOT_REPLY_P0_READY.get v = 1 → F.SVC_BOOT_REPLY_P0_READY.get (s.reg .svc Reg.SVC_BOOT_REPLY) = 0 → s.stage = 6 →
    ({ s with resp := .none } : State).pool0Start = some u →
    Completes (.bootReplyWrite (.core c) v) s (fun t =>
      t.reg .svc Reg.SVC_BOOT_REPLY = (s.reg .svc Reg.SVC_BOOT_REPLY &&& 0x80000003) ||| (v &&& 0x8000FF03)
        ∧ RegsBut u t [(.svc, Reg.SVC_BOOT_REPLY)] ∧ OnlyRegs u t))
  ∧ (∀ (s : State) (i : Instr) (c : Fin 16) (v : Word), s.running → s.inReset .svc = false →
    i ∈ [Instr.serving (.core c), .configLock (.core c), .watchdogKick (.core c) v] →
    Completes i s (fun t => Denied (.core c) .accessDenied s t))
  ∧ (∀ (s : State) (v : Word), s.running → s.inReset .svc = false →
    Completes (.bootReplyWrite .service v) s (fun t => Denied .service .accessDenied s t))


/-- The housekeeping round completes: a channel's sample, taken again when it is out of range; the end of a round, with the
readings, the valid and the hot die sensors, the die temperature and the throttle levels; a round that is late; the pauses of
a throttled frame; a read of HKP_THR_STAT; and the rule by which the die throttle's level rises and falls (R504 to R515, R528,
R529). -/
def Obligations.HousekeepingRounds : Prop :=
  (∀ (s : State) (c : Fin 48) (v w : Int) (a b : Bool), s.running → s.live .hkp = true →
    Completes (.channelSample c v w a b) s (fun t =>
      Sparse.find? t.house.readings c.val
          = some (if inRange c.val v a = true then (true, v) else (inRange c.val w b, w))
        ∧ (∀ k, k ≠ c.val → Sparse.find? t.house.readings k = Sparse.find? s.house.readings k)
        ∧ t.reg .hkp Reg.UNIT_ERR = (if inRange c.val v a = true then s.reg .hkp Reg.UNIT_ERR
            else s.reg .hkp Reg.UNIT_ERR ||| BitVec.ofNat 32 (2 ^ (if inRange c.val w b = true then eTransient else eLasting)))
        ∧ RegsBut s t [(.hkp, Reg.UNIT_ERR), (.hkp, Reg.UNIT_RETRY_CNT), (.hkp, Reg.UNIT_LAST_CNT)]
        ∧ t = { s with regs := t.regs, house := { s.house with readings := t.house.readings }, resp := .none }))
  ∧ (∀ (s : State) (h tdie : Int) (valid hot : List Nat), s.running → s.live .hkp = true → s.on .svc F.SVC_BOOT_CTL_SERVING = false →
    s.reg64 .hkp Reg.HKP_PON_LO < Sparse.get (fun _ => 0) s.hosts.life lifePon + 3600 → valid = dieValid s.dieReadings →
    hot = dieHot s.dieReadings valid → dieHottest s.dieReadings valid = some h → tdie = (if hot = [] then h else h + 40) →
    hot = [] ∨ tdie < 620 → s.house.dieLevel ≤ 7 → s.house.drvLevel ≤ 7 → s.house.paLevel ≤ 7 →
    Completes .roundEnd s (fun t =>
      t.reg .hkp Reg.HKP_ROUND = s.reg .hkp Reg.HKP_ROUND + 1
        ∧ (∀ c, c < 48 → t.chan c = ((s.sampled c).1, signed 16 (unsigned 16 (s.sampled c).2)))
        ∧ t.f .hkp F.HKP_DIE_STAT_VALID = maskOf valid ∧ t.f .hkp F.HKP_DIE_STAT_H = unsigned 16 h
        ∧ t.f .hkp F.HKP_DIE_HOT_HOT = maskOf hot ∧ t.f .hkp F.HKP_DIE_HOT_TDIE = unsigned 16 tdie
        ∧ t.house.excluded = (List.range 16).filter (fun k => !valid.contains k)
        ∧ t.f .hkp F.HKP_THR_STAT_LD = dieLevelNext s.house.dieLevel tdie
        ∧ t.f .hkp F.HKP_THR_STAT_LM = max t.house.drvLevel t.house.paLevel
        ∧ t.house.drvLevel = mediaLevelNext s.house.drvLevel (4 * s.f .hkp F.HKP_THR_CFG_MT_START) 4 4
            (if (s.sampled 16).1 = true then some (s.sampled 16).2 else none)
        ∧ RegsBut s t ([Reg.HKP_ROUND, Reg.HKP_ALIM_CH, Reg.UNIT_ERR, Reg.HKP_DIE_STAT, Reg.HKP_DIE_HOT, Reg.HKP_THR_STAT].map
            (fun o => (UnitId.hkp, o)) ++ lanes4.flatMap (fun n => [(.ast n, Reg.UNIT_ERR), (.ast n, Reg.AST_WIN_STAT)]))
        ∧ t = { s with regs := t.regs, house := t.house, resp := .none }))
  ∧ (∀ (s : State), s.running →
    Completes .roundTimeout s (fun t =>
      t.f .hkp F.HKP_THR_STAT_LD = 7 ∧ t.house = { s.house with roundLate := true }
        ∧ RegsBut s t [(.hkp, Reg.HKP_THR_STAT)] ∧ t = { s with regs := t.regs, house := t.house, resp := .none }))
  ∧ (∀ (s : State) (b : Bool), s.running →
    Completes (.dieThrottleFrame b) s (fun t =>
      t.dev = { s.dev with diePause := b && decide (0 < s.f .hkp F.HKP_THR_STAT_LD) }
        ∧ t.reg64 .hkp Reg.HKP_CNT_THR_MS_LO
            = (if b = true ∧ (0 < s.f .hkp F.HKP_THR_STAT_LD ∨ 0 < s.f .hkp F.HKP_THR_STAT_LM)
                then (s.reg64 .hkp Reg.HKP_CNT_THR_MS_LO + 1) % 2 ^ 64 else s.reg64 .hkp Reg.HKP_CNT_THR_MS_LO)
        ∧ RegsBut s t [(.hkp, Reg.HKP_CNT_THR_MS_LO), (.hkp, Reg.HKP_CNT_THR_MS_LO + 4)]
        ∧ t = { s with regs := t.regs, dev := t.dev, resp := .none }))
  ∧ (∀ (s : State) (b : Bool), s.running →
    Completes (.mediaThrottleFrame b) s (fun t =>
      t = { s with dev := { s.dev with mediaPause := b && decide (0 < s.f .hkp F.HKP_THR_STAT_LM) }, resp := .none }))
  ∧ (∀ (s : State) (eng : Engine), s.running → s.inReset .hkp = false →
    Completes (.thrStatRead eng) s (fun t =>
      t.resp = .value (s.reg .hkp Reg.HKP_THR_STAT) ∧ t.on .hkp F.HKP_THR_STAT_CHG = false
        ∧ t.f .hkp F.HKP_THR_STAT_LD = s.f .hkp F.HKP_THR_STAT_LD ∧ RegsBut s t [(.hkp, Reg.HKP_THR_STAT)] ∧ OnlyRegs s t))
  ∧ (∀ (cur n : Nat) (t : Int), cur ≤ 7 → 1 ≤ n → n ≤ 7 → 540 + (n - 1) * 10 ≤ t → n ≤ dieLevelNext cur t)
  ∧ (∀ (cur : Nat) (t : Int), cur ≤ 7 → cur < dieLevelNext cur t →
        dieLevelNext cur t ≤ 7 ∧ 540 + ((dieLevelNext cur t : Int) - 1) * 10 ≤ t)
  ∧ (∀ (cur : Nat) (t : Int), cur ≤ 7 → cur ≤ dieLevelNext cur t + 1)
  ∧ (∀ (cur : Nat) (t : Int), cur ≤ 7 → (dieLevelNext cur t < cur ↔ 1 ≤ cur ∧ t < 540 + ((cur : Int) - 1) * 10 - 8))
  ∧ dieLevelNext 0 564 = 3

/-- Thermal shutdown completes: the fast path follows its peak and counts the samples at or above 155 °C; a sensor at 160 °C
trips the hardware, 21 samples in a row begin the orderly shutdown, which without a vault records the loss of dirty data (R37;
the record's kind is the model's choice, DESIGN CHOICE, log entry 114), and its end holds the device; the record is armed by
the service core (R507, R516, R517, R518, R519, R520, R528). -/
def Obligations.ThermalShutdown : Prop :=
  (∀ (s : State) (l : List Int), s.running →
    (∀ k v, l[k]? = some v → k < 16 → k ∉ s.house.excluded →
      v < 640 ∧ (620 ≤ v → Sparse.get (fun _ => 0) s.house.above155 k < 20)) →
    Completes (.fastPathSample l) s (fun t =>
      (∀ k v, l[k]? = some v → k < 16 → k ∉ s.house.excluded →
          v ≤ t.house.peak
            ∧ Sparse.get (fun _ => 0) t.house.above155 k = if 620 ≤ v then Sparse.get (fun _ => 0) s.house.above155 k + 1 else 0)
        ∧ s.house.peak ≤ t.house.peak
        ∧ t = { s with house := { s.house with peak := t.house.peak, above155 := t.house.above155 }, resp := .none }))
  ∧ (∀ (s : State) (l : List Int) (k : Nat) (v : Int), s.running → l[k]? = some v → k < 16 → k ∉ s.house.excluded → 640 ≤ v →
    Completes (.fastPathSample l) s (fun t =>
      t.dev.power = .thermHeld ∧ t.house.tripped = true ∧ t.hosts.thermEvent = true ∧ t.resp = .none
        ∧ ∀ a, inNor a = false → t.byte a = memReset a))
  ∧ (∀ (s : State) (l : List Int) (k : Nat) (v : Int), s.running → l[k]? = some v → k < 16 → k ∉ s.house.excluded → 620 ≤ v →
    20 ≤ Sparse.get (fun _ => 0) s.house.above155 k → (∀ w ∈ l, w < 640) → s.on .hkp F.HKP_THM_STAT_SHUT = false →
    s.vaultFitted = false → s.svcs.handover = none →
    Completes (.fastPathSample l) s (fun t =>
      t.on .hkp F.HKP_THM_STAT_SHUT = true ∧ t.dev.shutdown = true ∧ t.cmd.stopped = true
        ∧ (t.reg .hkp Reg.UNIT_ERR).getLsbD 11 = true ∧ RegsBut s t [(.hkp, Reg.HKP_THM_STAT), (.hkp, Reg.UNIT_ERR)]
        ∧ (s.dirtyGranules = 0 → SameMemory s t)
        ∧ (0 < s.dirtyGranules →
            t.norBytes (0x20000 + 64 * (s.norPlace 0x20000 2 8).2) (s.histBytes 4 s.startSeq 0 0 0).length
                = s.histBytes 4 s.startSeq 0 0 0
              ∧ ∀ a, (a < norBase + 0x20000 ∨ norBase + 0x40000 ≤ a) → t.byte a = s.byte a)
        ∧ t = { s with mem := t.mem, lines := t.lines, regs := t.regs, dev := { s.dev with shutdown := true },
                       cmd := { s.cmd with stopped := true }, house := t.house, resp := .none }))
  ∧ (∀ (s : State) (late : Bool), s.running → s.on .hkp F.HKP_THM_STAT_SHUT = true → s.vault.saving = none →
    late = true ∨ s.spMode = spStopped ∨ s.spMode = spOff →
    Completes (.shutdownFinal late) s (fun t =>
      t.dev.power = .thermHeld ∧ t.house.tripped = true ∧ t.hosts.thermEvent = true
        ∧ (s.on .hkp F.HKP_THM_STAT_ARMED = false → ∀ a, t.byte a = if inNor a = true then s.byte a else memReset a)))
  ∧ (∀ (s : State) (v : Word), s.running → s.inReset .hkp = false →
    Completes (.recSlotArm .service v) s (fun t =>
      t.on .hkp F.HKP_REC_SLOT_ARM = v.getLsbD 31 ∧ t.f .hkp F.HKP_REC_SLOT_ENTRY = v.toNat % 4096
        ∧ t.on .hkp F.HKP_THM_STAT_ARMED = v.getLsbD 31 ∧ RegsBut s t [(.hkp, Reg.HKP_REC_SLOT), (.hkp, Reg.HKP_THM_STAT)]
        ∧ OnlyRegs s t))

/-- The input filters complete: a GPIO level that has changed is told to the pin's pool, an assertion that was merged is
counted, an input that is stuck is masked and its consumers see it inactive, and a mask is removed when the input has been
inactive (R193, R521, R522, R523, R526). -/
def Obligations.InputFilters : Prop :=
  (∀ (s : State) (i : Fin 16) (level : Bool) (p : Fin 2), s.running → s.live .hkp = true →
    F.HKP_GPIO_CFG_DIR.get (s.gpioCfg i.val) = 0 → F.HKP_GPIO_CFG_POOL.get (s.gpioCfg i.val) = p.val →
    s.gpioFilt i.val = !level → s.gpioMask i.val = false → s.unitState (.pool p) ≠ stReset → s.unitState (.pool p) ≠ stOff →
    (s.pl p).used < 64 → engNum .housekeeping ∉ (s.pl p).reserved →
    Completes (.gpioLevelChange i level false) s (fun t =>
      t.gpioFilt i.val = level ∧ (∀ j, j < 16 → j ≠ i.val → t.gpioFilt j = s.gpioFilt j)
        ∧ (t.pl p).fifo = (s.pl p).fifo ++ [⟨BitVec.ofNat 32 (i.val + 256 * bit level),
            BitVec.ofNat 32 (Sparse.get (fun _ => 0) s.house.gpioMerged i.val), 18⟩]
        ∧ (t.pl p).reserved = (s.pl p).reserved ∧ Sparse.get (fun _ => 0) t.house.gpioMerged i.val = 0
        ∧ RegsBut s t [(.hkp, Reg.HKP_GPIO_STAT)]
        ∧ t = { s with regs := t.regs, house := { s.house with gpioMerged := t.house.gpioMerged }, pools := t.pools, resp := .none }))
  ∧ (∀ (s : State) (i : Fin 16) (level : Bool), s.running → F.HKP_GPIO_CFG_DIR.get (s.gpioCfg i.val) = 0 → s.gpioFilt i.val = true →
    Completes (.gpioLevelChange i level true) s (fun t =>
      Sparse.get (fun _ => 0) t.house.gpioMerged i.val = Sparse.get (fun _ => 0) s.house.gpioMerged i.val + 1
        ∧ t.reg64 .hkp Reg.HKP_CNT_GPIO_MRG_LO = (s.reg64 .hkp Reg.HKP_CNT_GPIO_MRG_LO + 1) % 2 ^ 64
        ∧ RegsBut s t [(.hkp, Reg.HKP_CNT_GPIO_MRG_LO), (.hkp, Reg.HKP_CNT_GPIO_MRG_LO + 4)]
        ∧ t = { s with regs := t.regs, house := { s.house with gpioMerged := t.house.gpioMerged }, resp := .none }))
  ∧ (∀ (s : State) (i : Fin 16), s.running → s.gpioFilt i.val = true → s.gpioMask i.val = false →
    F.HKP_GPIO_CFG_DIR.get (s.gpioCfg i.val) = 0 → F.HKP_GPIO_CFG_STUCK_S.get (s.gpioCfg i.val) ≠ 0 →
    Completes (.inputStuckMask (.gpio i)) s (fun t =>
      t.gpioMask i.val = true ∧ (∀ j, j < 16 → j ≠ i.val → t.gpioMask j = s.gpioMask j)
        ∧ t.reg64 .hkp Reg.HKP_CNT_STUCK_LO = (s.reg64 .hkp Reg.HKP_CNT_STUCK_LO + 1) % 2 ^ 64
        ∧ (t.reg .hkp Reg.UNIT_ERR).getLsbD 10 = true
        ∧ RegsBut s t [(.hkp, Reg.HKP_GPIO_STAT), (.hkp, Reg.UNIT_ERR), (.hkp, Reg.HKP_CNT_STUCK_LO), (.hkp, Reg.HKP_CNT_STUCK_LO + 4)]
        ∧ OnlyRegs s t))
  ∧ (∀ (s : State), s.running → s.house.shockFilt = true → s.house.shockMask = false →
    Completes (.inputStuckMask .shock) s (fun t =>
      t.house = { s.house with shockMask := true } ∧ (∀ n, (t.sv n).shockIn = false)
        ∧ t.reg64 .hkp Reg.HKP_CNT_STUCK_LO = (s.reg64 .hkp Reg.HKP_CNT_STUCK_LO + 1) % 2 ^ 64
        ∧ RegsBut s t [(.hkp, Reg.UNIT_ERR), (.hkp, Reg.HKP_CNT_STUCK_LO), (.hkp, Reg.HKP_CNT_STUCK_LO + 4)]
        ∧ t = { s with regs := t.regs, house := t.house, srvs := t.srvs, resp := .none }))
  ∧ (∀ (s : State) (i : Fin 16), s.running → s.gpioMask i.val = true →
    Completes (.maskReleaseCheck (.gpio i) true) s (fun t =>
      t.gpioMask i.val = false ∧ t.gpioFilt i.val = false
        ∧ (∀ j, j < 16 → j ≠ i.val → t.gpioMask j = s.gpioMask j ∧ t.gpioFilt j = s.gpioFilt j)
        ∧ RegsBut s t [(.hkp, Reg.HKP_GPIO_STAT)] ∧ OnlyRegs s t))
  ∧ (∀ (s : State), s.running → s.house.shockMask = true →
    Completes (.maskReleaseCheck .shock true) s (fun t =>
      t = { s with house := { s.house with shockMask := false, shockFilt := false }, resp := .none }))


/-- EVENT_RECORD_PROGRAM completes: a record within its budget is appended to the event log with its CRC; one of severity 3
passes the budget, up to 64 an hour; one that is refused is counted in the next record admitted; one whose program fails twice
is not written (R21, R543, R544). -/
def Obligations.EventRecords : Prop :=
  (∀ (s : State) (pon : Nat) (cls unit : BitVec 16) (sev : Fin 4) (data : List Byte), s.running → s.live .svc = true →
    (if sev.val = 3 then (s.svcs.refill pon).crits.length < 64 else 0 < (s.svcs.refill pon).budget) →
    Completes (.eventRecordProgram pon cls sev unit data .ok) s (fun t =>
      t.norBytes (eventBase + 64 * (s.norPlace eventBase 5 0).2) 64 = s.eventBytes pon cls.toNat sev.val unit.toNat data
        ∧ recordOk (s.eventBytes pon cls.toNat sev.val unit.toNat data) = true
        ∧ t.svcs.suppressed = 0
        ∧ t.svcs.budget = (if sev.val = 3 then (s.svcs.refill pon).budget else (s.svcs.refill pon).budget - 1)
        ∧ t.svcs.crits = (if sev.val = 3 then (s.svcs.refill pon).crits ++ [pon] else (s.svcs.refill pon).crits)
        ∧ (∀ a, (a < norBase + eventBase ∨ norBase + eventBase + 0x50000 ≤ a) → t.byte a = s.byte a)
        ∧ t = { s with mem := t.mem, lines := t.lines, svcs := t.svcs, resp := .none }))
  ∧ (∀ (s : State) (pon : Nat) (cls unit : BitVec 16) (sev : Fin 4) (data : List Byte) (prog : Parity), s.running →
    s.live .svc = true →
    (if sev.val = 3 then 64 ≤ (s.svcs.refill pon).crits.length else (s.svcs.refill pon).budget = 0) →
    Completes (.eventRecordProgram pon cls sev unit data prog) s (fun t =>
      t = { s with svcs := { s.svcs.refill pon with suppressed := s.svcs.suppressed + 1 }, resp := .none }))
  ∧ (∀ (s : State) (pon : Nat) (cls unit : BitVec 16) (sev : Fin 4) (data : List Byte), s.running → s.live .svc = true →
    (if sev.val = 3 then (s.svcs.refill pon).crits.length < 64 else 0 < (s.svcs.refill pon).budget) →
    Completes (.eventRecordProgram pon cls sev unit data .lasting) s (fun t =>
      t.mem = s.mem ∧ (t.reg .svc Reg.UNIT_ERR).getLsbD 9 = true ∧ t.svcs.suppressed = s.svcs.suppressed
        ∧ RegsBut s t [(.svc, Reg.UNIT_ERR), (.svc, Reg.UNIT_LAST_CNT)]
        ∧ t = { s with regs := t.regs, svcs := t.svcs, resp := .none }))
end

