-- ==== Sys2Proof/Laws/Sparse.lean ====
section
/-! SUPPORT. Laws of the sparse tables: what a set, an erase and an insert read as, and that they keep the canonical form. -/

namespace Sys2Proof.Machine

variable {α : Type}

theorem Sparse.above_mono {a b : Nat} (h : a ≤ b) : ∀ {l : List (Nat × α)}, Sparse.above b l = true → Sparse.above a l = true := by
  intro l hl
  simp only [Sparse.above, List.all_eq_true, decide_eq_true_eq] at *
  exact fun e he => lt_of_le_of_lt h (hl e he)

theorem Sparse.find?_of_above {b k : Nat} (hk : k ≤ b) : ∀ {l : List (Nat × α)}, Sparse.above b l = true → Sparse.find? l k = none
  | [], _ => rfl
  | (j, v) :: t, h => by
    simp only [Sparse.above, List.all_cons, Bool.and_eq_true, decide_eq_true_eq] at h
    have : j ≠ k := by have := h.1; omega
    simp only [Sparse.find?, this, if_false]
    exact Sparse.find?_of_above hk h.2

theorem Sparse.find?_erase (l : List (Nat × α)) (k j : Nat) :
    Sparse.find? (Sparse.erase l k) j = if j = k then none else Sparse.find? l j := by
  induction l with
  | nil => simp [Sparse.erase, Sparse.find?]
  | cons e t ih =>
    obtain ⟨i, v⟩ := e
    by_cases hik : i = k <;> by_cases hij : i = j <;> simp_all [Sparse.erase, Sparse.find?]

theorem Sparse.find?_insert (l : List (Nat × α)) (k : Nat) (v : α) (j : Nat) :
    Sparse.find? (Sparse.insert l k v) j = if j = k then some v else Sparse.find? l j := by
  induction l with
  | nil => by_cases h : j = k <;> simp [Sparse.insert, Sparse.find?, h, eq_comm]; omega
  | cons e t ih =>
    obtain ⟨i, w⟩ := e
    simp only [Sparse.insert]
    split
    · by_cases h : j = k
      · simp [Sparse.find?, h]
      · have : k ≠ j := fun h' => h h'.symm
        simp [Sparse.find?, h, this]
    · split
      · rename_i h1 h2
        subst h2
        by_cases h : j = i
        · simp [Sparse.find?, h]
        · have : i ≠ j := fun h' => h h'.symm
          simp [Sparse.find?, h, this]
      · rename_i h1 h2
        by_cases h : i = j
        · subst h
          simp [Sparse.find?, h2]
        · simp [Sparse.find?, h, ih]

/-- A table after a set reads the value at its key and as before at every other. -/
@[simp] theorem Sparse.get_set [DecidableEq α] (d : Nat → α) (l : List (Nat × α)) (k j : Nat) (v : α) :
    Sparse.get d (Sparse.set d l k v) j = if j = k then v else Sparse.get d l j := by
  unfold Sparse.get Sparse.set
  split
  · rename_i h
    rw [Sparse.find?_erase]
    by_cases hj : j = k <;> simp [hj, h]
  · rw [Sparse.find?_insert]
    by_cases hj : j = k <;> simp [hj]

theorem Sparse.above_erase {b k : Nat} {l : List (Nat × α)} (h : Sparse.above b l = true) : Sparse.above b (Sparse.erase l k) = true := by
  induction l with
  | nil => rfl
  | cons e t ih =>
    obtain ⟨j, v⟩ := e
    simp only [Sparse.above, List.all_cons, Bool.and_eq_true] at h
    by_cases hjk : j = k
    · simp only [Sparse.erase, hjk, if_true]; exact ih h.2
    · simp only [Sparse.erase, hjk, if_false, Sparse.above, List.all_cons, Bool.and_eq_true]
      exact ⟨h.1, ih h.2⟩

theorem Sparse.above_insert {b k : Nat} {v : α} {l : List (Nat × α)} (hb : b < k) (h : Sparse.above b l = true) :
    Sparse.above b (Sparse.insert l k v) = true := by
  induction l with
  | nil => simp [Sparse.insert, Sparse.above, hb]
  | cons e t ih =>
    obtain ⟨j, w⟩ := e
    simp only [Sparse.above, List.all_cons, Bool.and_eq_true] at h
    simp only [Sparse.insert]
    split
    · simp only [Sparse.above, List.all_cons, Bool.and_eq_true]; exact ⟨by simpa using hb, h.1, h.2⟩
    · split
      · simp only [Sparse.above, List.all_cons, Bool.and_eq_true]; exact ⟨by simpa using hb, h.2⟩
      · simp only [Sparse.above, List.all_cons, Bool.and_eq_true]; exact ⟨h.1, ih h.2⟩

theorem Sparse.wf_erase [DecidableEq α] {d : Nat → α} {l : List (Nat × α)} {k : Nat} (h : Sparse.wf d l = true) :
    Sparse.wf d (Sparse.erase l k) = true := by
  induction l with
  | nil => rfl
  | cons e t ih =>
    obtain ⟨j, v⟩ := e
    simp only [Sparse.wf, Bool.and_eq_true] at h
    by_cases hjk : j = k
    · simp only [Sparse.erase, hjk, if_true]; exact ih h.2
    · simp only [Sparse.erase, hjk, if_false, Sparse.wf, Bool.and_eq_true]
      exact ⟨⟨Sparse.above_erase h.1.1, h.1.2⟩, ih h.2⟩

theorem Sparse.wf_insert [DecidableEq α] {d : Nat → α} {l : List (Nat × α)} {k : Nat} {v : α} (hv : v ≠ d k)
    (h : Sparse.wf d l = true) : Sparse.wf d (Sparse.insert l k v) = true := by
  induction l with
  | nil => simp [Sparse.insert, Sparse.wf, Sparse.above, hv]
  | cons e t ih =>
    obtain ⟨j, w⟩ := e
    simp only [Sparse.wf, Bool.and_eq_true] at h
    simp only [Sparse.insert]
    split
    · rename_i hkj
      simp only [Sparse.wf, Bool.and_eq_true]
      refine ⟨⟨?_, by simpa using hv⟩, h⟩
      simp only [Sparse.above, List.all_cons, Bool.and_eq_true]
      exact ⟨by simpa using hkj, Sparse.above_mono (le_of_lt hkj) h.1.1⟩
    · rename_i hkj
      split
      · rename_i hjk
        subst hjk
        simp only [Sparse.wf, Bool.and_eq_true]
        exact ⟨⟨h.1.1, by simpa using hv⟩, h.2⟩
      · rename_i hjk
        simp only [Sparse.wf, Bool.and_eq_true]
        exact ⟨⟨Sparse.above_insert (by omega) h.1.1, h.1.2⟩, ih h.2⟩

/-- A set keeps the canonical form. -/
theorem Sparse.wf_set [DecidableEq α] {d : Nat → α} {l : List (Nat × α)} (h : Sparse.wf d l = true) (k : Nat) (v : α) :
    Sparse.wf d (Sparse.set d l k v) = true := by
  unfold Sparse.set
  split
  · exact Sparse.wf_erase h
  · exact Sparse.wf_insert ‹_› h

theorem Sparse.above_filter {b : Nat} {l : List (Nat × α)} (p : Nat × α → Bool) (h : Sparse.above b l = true) :
    Sparse.above b (l.filter p) = true := by
  simp only [Sparse.above, List.all_eq_true] at *
  exact fun e he => h e (List.mem_of_mem_filter he)

/-- A table cut down to some of its entries keeps the canonical form. -/
theorem Sparse.wf_filter [DecidableEq α] {d : Nat → α} (p : Nat × α → Bool) {l : List (Nat × α)} (h : Sparse.wf d l = true) :
    Sparse.wf d (l.filter p) = true := by
  induction l with
  | nil => rfl
  | cons e t ih =>
    obtain ⟨j, v⟩ := e
    simp only [Sparse.wf, Bool.and_eq_true] at h
    by_cases hp : p (j, v) = true
    · simp only [List.filter_cons, hp, if_true, Sparse.wf, Bool.and_eq_true]
      exact ⟨⟨Sparse.above_filter p h.1.1, h.1.2⟩, ih h.2⟩
    · simp only [List.filter_cons, hp]; exact ih h.2

/-- Two tables in canonical form that read alike are the same table. -/
theorem Sparse.ext_of_get [DecidableEq α] {d : Nat → α} : ∀ {l m : List (Nat × α)}, Sparse.wf d l = true → Sparse.wf d m = true →
    (∀ k, Sparse.get d l k = Sparse.get d m k) → l = m
  | [], [], _, _, _ => rfl
  | [], (k, v) :: t, _, hm, h => by
    simp only [Sparse.wf, Bool.and_eq_true, decide_eq_true_eq] at hm
    have := h k
    simp [Sparse.get, Sparse.find?] at this
    exact absurd this.symm hm.1.2
  | (k, v) :: t, [], hl, _, h => by
    simp only [Sparse.wf, Bool.and_eq_true, decide_eq_true_eq] at hl
    have := h k
    simp [Sparse.get, Sparse.find?] at this
    exact absurd this hl.1.2
  | (k, v) :: t, (j, w) :: u, hl, hm, h => by
    simp only [Sparse.wf, Bool.and_eq_true, decide_eq_true_eq] at hl hm
    have hk := h k
    have hj := h j
    simp only [Sparse.get, Sparse.find?, if_true, Option.getD_some] at hk hj
    have hkj : k = j := by
      rcases lt_trichotomy k j with hlt | heq | hgt
      · have hn : j ≠ k := by omega
        simp only [hn, if_false] at hk
        rw [Sparse.find?_of_above (le_of_lt hlt) hm.1.1] at hk
        exact absurd hk hl.1.2
      · exact heq
      · have hn : k ≠ j := by omega
        simp only [hn, if_false] at hj
        rw [Sparse.find?_of_above (le_of_lt hgt) hl.1.1] at hj
        exact absurd hj.symm hm.1.2
    subst hkj
    simp only [if_true, Option.getD_some] at hk
    subst hk
    congr 1
    refine Sparse.ext_of_get hl.2 hm.2 (fun i => ?_)
    by_cases hi : k = i
    · subst hi
      simp [Sparse.get, Sparse.find?_of_above (le_refl k) hl.1.1, Sparse.find?_of_above (le_refl k) hm.1.1]
    · have := h i
      simpa [Sparse.get, Sparse.find?, hi] using this

end Sys2Proof.Machine
end

