-- ==== Sys2Proof/Laws/State.lean ====
section
/-! SUPPORT. Laws of the state: what each named update changes and leaves, what registers, fields and bytes read as after a
write, and that the register file and memory keep their canonical form. -/

namespace Sys2Proof.Machine

variable (s : State)

@[simp] theorem State.setReg_mem (u : UnitId) (o : Nat) (w : Word) : (s.setReg u o w).mem = s.mem := rfl
@[simp] theorem State.setReg_dev (u : UnitId) (o : Nat) (w : Word) : (s.setReg u o w).dev = s.dev := rfl
@[simp] theorem State.setReg_lanes (u : UnitId) (o : Nat) (w : Word) : (s.setReg u o w).lanes = s.lanes := rfl
@[simp] theorem State.setReg_timing (u : UnitId) (o : Nat) (w : Word) : (s.setReg u o w).timing = s.timing := rfl
@[simp] theorem State.setReg_seqs (u : UnitId) (o : Nat) (w : Word) : (s.setReg u o w).seqs = s.seqs := rfl
@[simp] theorem State.setReg_chns (u : UnitId) (o : Nat) (w : Word) : (s.setReg u o w).chns = s.chns := rfl
@[simp] theorem State.setReg_srvs (u : UnitId) (o : Nat) (w : Word) : (s.setReg u o w).srvs = s.srvs := rfl
@[simp] theorem State.setReg_asts (u : UnitId) (o : Nat) (w : Word) : (s.setReg u o w).asts = s.asts := rfl
@[simp] theorem State.setReg_heads (u : UnitId) (o : Nat) (w : Word) : (s.setReg u o w).heads = s.heads := rfl
@[simp] theorem State.setReg_spn (u : UnitId) (o : Nat) (w : Word) : (s.setReg u o w).spn = s.spn := rfl
@[simp] theorem State.setReg_buf (u : UnitId) (o : Nat) (w : Word) : (s.setReg u o w).buf = s.buf := rfl
@[simp] theorem State.setReg_cmd (u : UnitId) (o : Nat) (w : Word) : (s.setReg u o w).cmd = s.cmd := rfl
@[simp] theorem State.setReg_vault (u : UnitId) (o : Nat) (w : Word) : (s.setReg u o w).vault = s.vault := rfl
@[simp] theorem State.setReg_hosts (u : UnitId) (o : Nat) (w : Word) : (s.setReg u o w).hosts = s.hosts := rfl
@[simp] theorem State.setReg_lines (u : UnitId) (o : Nat) (w : Word) : (s.setReg u o w).lines = s.lines := rfl
@[simp] theorem State.setReg_tcm (u : UnitId) (o : Nat) (w : Word) : (s.setReg u o w).tcm = s.tcm := rfl
@[simp] theorem State.setReg_pools (u : UnitId) (o : Nat) (w : Word) : (s.setReg u o w).pools = s.pools := rfl
@[simp] theorem State.setReg_irq (u : UnitId) (o : Nat) (w : Word) : (s.setReg u o w).irq = s.irq := rfl
@[simp] theorem State.setReg_hzl (u : UnitId) (o : Nat) (w : Word) : (s.setReg u o w).hzl = s.hzl := rfl
@[simp] theorem State.setReg_svcs (u : UnitId) (o : Nat) (w : Word) : (s.setReg u o w).svcs = s.svcs := rfl
@[simp] theorem State.setReg_house (u : UnitId) (o : Nat) (w : Word) : (s.setReg u o w).house = s.house := rfl
@[simp] theorem State.setReg_resp (u : UnitId) (o : Nat) (w : Word) : (s.setReg u o w).resp = s.resp := rfl
@[simp] theorem State.setReg_freeCtr (u : UnitId) (o : Nat) (w : Word) : (s.setReg u o w).freeCtr = s.freeCtr := rfl
@[simp] theorem State.setReg_pending (u : UnitId) (o : Nat) (w : Word) : (s.setReg u o w).pending = s.pending := rfl

@[simp] theorem State.setLane_regs (n : Fin 4) (x : Lane) : (s.setLane n x).regs = s.regs := rfl
@[simp] theorem State.setLane_mem (n : Fin 4) (x : Lane) : (s.setLane n x).mem = s.mem := rfl
@[simp] theorem State.setLane_dev (n : Fin 4) (x : Lane) : (s.setLane n x).dev = s.dev := rfl
@[simp] theorem State.setLane_timing (n : Fin 4) (x : Lane) : (s.setLane n x).timing = s.timing := rfl
@[simp] theorem State.setLane_seqs (n : Fin 4) (x : Lane) : (s.setLane n x).seqs = s.seqs := rfl
@[simp] theorem State.setLane_chns (n : Fin 4) (x : Lane) : (s.setLane n x).chns = s.chns := rfl
@[simp] theorem State.setLane_srvs (n : Fin 4) (x : Lane) : (s.setLane n x).srvs = s.srvs := rfl
@[simp] theorem State.setLane_asts (n : Fin 4) (x : Lane) : (s.setLane n x).asts = s.asts := rfl
@[simp] theorem State.setLane_heads (n : Fin 4) (x : Lane) : (s.setLane n x).heads = s.heads := rfl
@[simp] theorem State.setLane_spn (n : Fin 4) (x : Lane) : (s.setLane n x).spn = s.spn := rfl
@[simp] theorem State.setLane_buf (n : Fin 4) (x : Lane) : (s.setLane n x).buf = s.buf := rfl
@[simp] theorem State.setLane_cmd (n : Fin 4) (x : Lane) : (s.setLane n x).cmd = s.cmd := rfl
@[simp] theorem State.setLane_vault (n : Fin 4) (x : Lane) : (s.setLane n x).vault = s.vault := rfl
@[simp] theorem State.setLane_hosts (n : Fin 4) (x : Lane) : (s.setLane n x).hosts = s.hosts := rfl
@[simp] theorem State.setLane_lines (n : Fin 4) (x : Lane) : (s.setLane n x).lines = s.lines := rfl
@[simp] theorem State.setLane_tcm (n : Fin 4) (x : Lane) : (s.setLane n x).tcm = s.tcm := rfl
@[simp] theorem State.setLane_pools (n : Fin 4) (x : Lane) : (s.setLane n x).pools = s.pools := rfl
@[simp] theorem State.setLane_irq (n : Fin 4) (x : Lane) : (s.setLane n x).irq = s.irq := rfl
@[simp] theorem State.setLane_hzl (n : Fin 4) (x : Lane) : (s.setLane n x).hzl = s.hzl := rfl
@[simp] theorem State.setLane_svcs (n : Fin 4) (x : Lane) : (s.setLane n x).svcs = s.svcs := rfl
@[simp] theorem State.setLane_house (n : Fin 4) (x : Lane) : (s.setLane n x).house = s.house := rfl
@[simp] theorem State.setLane_resp (n : Fin 4) (x : Lane) : (s.setLane n x).resp = s.resp := rfl
@[simp] theorem State.setLane_freeCtr (n : Fin 4) (x : Lane) : (s.setLane n x).freeCtr = s.freeCtr := rfl
@[simp] theorem State.setLane_pending (n : Fin 4) (x : Lane) : (s.setLane n x).pending = s.pending := rfl
@[simp] theorem State.setLane_reg (n : Fin 4) (x : Lane) (v : UnitId) (j : Nat) : (s.setLane n x).reg v j = s.reg v j := rfl

@[simp] theorem State.setTim_regs (n : Fin 4) (x : Timing) : (s.setTim n x).regs = s.regs := rfl
@[simp] theorem State.setTim_mem (n : Fin 4) (x : Timing) : (s.setTim n x).mem = s.mem := rfl
@[simp] theorem State.setTim_dev (n : Fin 4) (x : Timing) : (s.setTim n x).dev = s.dev := rfl
@[simp] theorem State.setTim_lanes (n : Fin 4) (x : Timing) : (s.setTim n x).lanes = s.lanes := rfl
@[simp] theorem State.setTim_seqs (n : Fin 4) (x : Timing) : (s.setTim n x).seqs = s.seqs := rfl
@[simp] theorem State.setTim_chns (n : Fin 4) (x : Timing) : (s.setTim n x).chns = s.chns := rfl
@[simp] theorem State.setTim_srvs (n : Fin 4) (x : Timing) : (s.setTim n x).srvs = s.srvs := rfl
@[simp] theorem State.setTim_asts (n : Fin 4) (x : Timing) : (s.setTim n x).asts = s.asts := rfl
@[simp] theorem State.setTim_heads (n : Fin 4) (x : Timing) : (s.setTim n x).heads = s.heads := rfl
@[simp] theorem State.setTim_spn (n : Fin 4) (x : Timing) : (s.setTim n x).spn = s.spn := rfl
@[simp] theorem State.setTim_buf (n : Fin 4) (x : Timing) : (s.setTim n x).buf = s.buf := rfl
@[simp] theorem State.setTim_cmd (n : Fin 4) (x : Timing) : (s.setTim n x).cmd = s.cmd := rfl
@[simp] theorem State.setTim_vault (n : Fin 4) (x : Timing) : (s.setTim n x).vault = s.vault := rfl
@[simp] theorem State.setTim_hosts (n : Fin 4) (x : Timing) : (s.setTim n x).hosts = s.hosts := rfl
@[simp] theorem State.setTim_lines (n : Fin 4) (x : Timing) : (s.setTim n x).lines = s.lines := rfl
@[simp] theorem State.setTim_tcm (n : Fin 4) (x : Timing) : (s.setTim n x).tcm = s.tcm := rfl
@[simp] theorem State.setTim_pools (n : Fin 4) (x : Timing) : (s.setTim n x).pools = s.pools := rfl
@[simp] theorem State.setTim_irq (n : Fin 4) (x : Timing) : (s.setTim n x).irq = s.irq := rfl
@[simp] theorem State.setTim_hzl (n : Fin 4) (x : Timing) : (s.setTim n x).hzl = s.hzl := rfl
@[simp] theorem State.setTim_svcs (n : Fin 4) (x : Timing) : (s.setTim n x).svcs = s.svcs := rfl
@[simp] theorem State.setTim_house (n : Fin 4) (x : Timing) : (s.setTim n x).house = s.house := rfl
@[simp] theorem State.setTim_resp (n : Fin 4) (x : Timing) : (s.setTim n x).resp = s.resp := rfl
@[simp] theorem State.setTim_freeCtr (n : Fin 4) (x : Timing) : (s.setTim n x).freeCtr = s.freeCtr := rfl
@[simp] theorem State.setTim_pending (n : Fin 4) (x : Timing) : (s.setTim n x).pending = s.pending := rfl
@[simp] theorem State.setTim_reg (n : Fin 4) (x : Timing) (v : UnitId) (j : Nat) : (s.setTim n x).reg v j = s.reg v j := rfl

@[simp] theorem State.setSq_regs (n : Fin 4) (x : Sequencer) : (s.setSq n x).regs = s.regs := rfl
@[simp] theorem State.setSq_mem (n : Fin 4) (x : Sequencer) : (s.setSq n x).mem = s.mem := rfl
@[simp] theorem State.setSq_dev (n : Fin 4) (x : Sequencer) : (s.setSq n x).dev = s.dev := rfl
@[simp] theorem State.setSq_lanes (n : Fin 4) (x : Sequencer) : (s.setSq n x).lanes = s.lanes := rfl
@[simp] theorem State.setSq_timing (n : Fin 4) (x : Sequencer) : (s.setSq n x).timing = s.timing := rfl
@[simp] theorem State.setSq_chns (n : Fin 4) (x : Sequencer) : (s.setSq n x).chns = s.chns := rfl
@[simp] theorem State.setSq_srvs (n : Fin 4) (x : Sequencer) : (s.setSq n x).srvs = s.srvs := rfl
@[simp] theorem State.setSq_asts (n : Fin 4) (x : Sequencer) : (s.setSq n x).asts = s.asts := rfl
@[simp] theorem State.setSq_heads (n : Fin 4) (x : Sequencer) : (s.setSq n x).heads = s.heads := rfl
@[simp] theorem State.setSq_spn (n : Fin 4) (x : Sequencer) : (s.setSq n x).spn = s.spn := rfl
@[simp] theorem State.setSq_buf (n : Fin 4) (x : Sequencer) : (s.setSq n x).buf = s.buf := rfl
@[simp] theorem State.setSq_cmd (n : Fin 4) (x : Sequencer) : (s.setSq n x).cmd = s.cmd := rfl
@[simp] theorem State.setSq_vault (n : Fin 4) (x : Sequencer) : (s.setSq n x).vault = s.vault := rfl
@[simp] theorem State.setSq_hosts (n : Fin 4) (x : Sequencer) : (s.setSq n x).hosts = s.hosts := rfl
@[simp] theorem State.setSq_lines (n : Fin 4) (x : Sequencer) : (s.setSq n x).lines = s.lines := rfl
@[simp] theorem State.setSq_tcm (n : Fin 4) (x : Sequencer) : (s.setSq n x).tcm = s.tcm := rfl
@[simp] theorem State.setSq_pools (n : Fin 4) (x : Sequencer) : (s.setSq n x).pools = s.pools := rfl
@[simp] theorem State.setSq_irq (n : Fin 4) (x : Sequencer) : (s.setSq n x).irq = s.irq := rfl
@[simp] theorem State.setSq_hzl (n : Fin 4) (x : Sequencer) : (s.setSq n x).hzl = s.hzl := rfl
@[simp] theorem State.setSq_svcs (n : Fin 4) (x : Sequencer) : (s.setSq n x).svcs = s.svcs := rfl
@[simp] theorem State.setSq_house (n : Fin 4) (x : Sequencer) : (s.setSq n x).house = s.house := rfl
@[simp] theorem State.setSq_resp (n : Fin 4) (x : Sequencer) : (s.setSq n x).resp = s.resp := rfl
@[simp] theorem State.setSq_freeCtr (n : Fin 4) (x : Sequencer) : (s.setSq n x).freeCtr = s.freeCtr := rfl
@[simp] theorem State.setSq_pending (n : Fin 4) (x : Sequencer) : (s.setSq n x).pending = s.pending := rfl
@[simp] theorem State.setSq_reg (n : Fin 4) (x : Sequencer) (v : UnitId) (j : Nat) : (s.setSq n x).reg v j = s.reg v j := rfl

@[simp] theorem State.setCh_regs (n : Fin 4) (x : Channel) : (s.setCh n x).regs = s.regs := rfl
@[simp] theorem State.setCh_mem (n : Fin 4) (x : Channel) : (s.setCh n x).mem = s.mem := rfl
@[simp] theorem State.setCh_dev (n : Fin 4) (x : Channel) : (s.setCh n x).dev = s.dev := rfl
@[simp] theorem State.setCh_lanes (n : Fin 4) (x : Channel) : (s.setCh n x).lanes = s.lanes := rfl
@[simp] theorem State.setCh_timing (n : Fin 4) (x : Channel) : (s.setCh n x).timing = s.timing := rfl
@[simp] theorem State.setCh_seqs (n : Fin 4) (x : Channel) : (s.setCh n x).seqs = s.seqs := rfl
@[simp] theorem State.setCh_srvs (n : Fin 4) (x : Channel) : (s.setCh n x).srvs = s.srvs := rfl
@[simp] theorem State.setCh_asts (n : Fin 4) (x : Channel) : (s.setCh n x).asts = s.asts := rfl
@[simp] theorem State.setCh_heads (n : Fin 4) (x : Channel) : (s.setCh n x).heads = s.heads := rfl
@[simp] theorem State.setCh_spn (n : Fin 4) (x : Channel) : (s.setCh n x).spn = s.spn := rfl
@[simp] theorem State.setCh_buf (n : Fin 4) (x : Channel) : (s.setCh n x).buf = s.buf := rfl
@[simp] theorem State.setCh_cmd (n : Fin 4) (x : Channel) : (s.setCh n x).cmd = s.cmd := rfl
@[simp] theorem State.setCh_vault (n : Fin 4) (x : Channel) : (s.setCh n x).vault = s.vault := rfl
@[simp] theorem State.setCh_hosts (n : Fin 4) (x : Channel) : (s.setCh n x).hosts = s.hosts := rfl
@[simp] theorem State.setCh_lines (n : Fin 4) (x : Channel) : (s.setCh n x).lines = s.lines := rfl
@[simp] theorem State.setCh_tcm (n : Fin 4) (x : Channel) : (s.setCh n x).tcm = s.tcm := rfl
@[simp] theorem State.setCh_pools (n : Fin 4) (x : Channel) : (s.setCh n x).pools = s.pools := rfl
@[simp] theorem State.setCh_irq (n : Fin 4) (x : Channel) : (s.setCh n x).irq = s.irq := rfl
@[simp] theorem State.setCh_hzl (n : Fin 4) (x : Channel) : (s.setCh n x).hzl = s.hzl := rfl
@[simp] theorem State.setCh_svcs (n : Fin 4) (x : Channel) : (s.setCh n x).svcs = s.svcs := rfl
@[simp] theorem State.setCh_house (n : Fin 4) (x : Channel) : (s.setCh n x).house = s.house := rfl
@[simp] theorem State.setCh_resp (n : Fin 4) (x : Channel) : (s.setCh n x).resp = s.resp := rfl
@[simp] theorem State.setCh_freeCtr (n : Fin 4) (x : Channel) : (s.setCh n x).freeCtr = s.freeCtr := rfl
@[simp] theorem State.setCh_pending (n : Fin 4) (x : Channel) : (s.setCh n x).pending = s.pending := rfl
@[simp] theorem State.setCh_reg (n : Fin 4) (x : Channel) (v : UnitId) (j : Nat) : (s.setCh n x).reg v j = s.reg v j := rfl

@[simp] theorem State.setSv_regs (n : Fin 4) (x : Servo) : (s.setSv n x).regs = s.regs := rfl
@[simp] theorem State.setSv_mem (n : Fin 4) (x : Servo) : (s.setSv n x).mem = s.mem := rfl
@[simp] theorem State.setSv_dev (n : Fin 4) (x : Servo) : (s.setSv n x).dev = s.dev := rfl
@[simp] theorem State.setSv_lanes (n : Fin 4) (x : Servo) : (s.setSv n x).lanes = s.lanes := rfl
@[simp] theorem State.setSv_timing (n : Fin 4) (x : Servo) : (s.setSv n x).timing = s.timing := rfl
@[simp] theorem State.setSv_seqs (n : Fin 4) (x : Servo) : (s.setSv n x).seqs = s.seqs := rfl
@[simp] theorem State.setSv_chns (n : Fin 4) (x : Servo) : (s.setSv n x).chns = s.chns := rfl
@[simp] theorem State.setSv_asts (n : Fin 4) (x : Servo) : (s.setSv n x).asts = s.asts := rfl
@[simp] theorem State.setSv_heads (n : Fin 4) (x : Servo) : (s.setSv n x).heads = s.heads := rfl
@[simp] theorem State.setSv_spn (n : Fin 4) (x : Servo) : (s.setSv n x).spn = s.spn := rfl
@[simp] theorem State.setSv_buf (n : Fin 4) (x : Servo) : (s.setSv n x).buf = s.buf := rfl
@[simp] theorem State.setSv_cmd (n : Fin 4) (x : Servo) : (s.setSv n x).cmd = s.cmd := rfl
@[simp] theorem State.setSv_vault (n : Fin 4) (x : Servo) : (s.setSv n x).vault = s.vault := rfl
@[simp] theorem State.setSv_hosts (n : Fin 4) (x : Servo) : (s.setSv n x).hosts = s.hosts := rfl
@[simp] theorem State.setSv_lines (n : Fin 4) (x : Servo) : (s.setSv n x).lines = s.lines := rfl
@[simp] theorem State.setSv_tcm (n : Fin 4) (x : Servo) : (s.setSv n x).tcm = s.tcm := rfl
@[simp] theorem State.setSv_pools (n : Fin 4) (x : Servo) : (s.setSv n x).pools = s.pools := rfl
@[simp] theorem State.setSv_irq (n : Fin 4) (x : Servo) : (s.setSv n x).irq = s.irq := rfl
@[simp] theorem State.setSv_hzl (n : Fin 4) (x : Servo) : (s.setSv n x).hzl = s.hzl := rfl
@[simp] theorem State.setSv_svcs (n : Fin 4) (x : Servo) : (s.setSv n x).svcs = s.svcs := rfl
@[simp] theorem State.setSv_house (n : Fin 4) (x : Servo) : (s.setSv n x).house = s.house := rfl
@[simp] theorem State.setSv_resp (n : Fin 4) (x : Servo) : (s.setSv n x).resp = s.resp := rfl
@[simp] theorem State.setSv_freeCtr (n : Fin 4) (x : Servo) : (s.setSv n x).freeCtr = s.freeCtr := rfl
@[simp] theorem State.setSv_pending (n : Fin 4) (x : Servo) : (s.setSv n x).pending = s.pending := rfl
@[simp] theorem State.setSv_reg (n : Fin 4) (x : Servo) (v : UnitId) (j : Nat) : (s.setSv n x).reg v j = s.reg v j := rfl

@[simp] theorem State.setAt_regs (n : Fin 4) (x : Assist) : (s.setAt n x).regs = s.regs := rfl
@[simp] theorem State.setAt_mem (n : Fin 4) (x : Assist) : (s.setAt n x).mem = s.mem := rfl
@[simp] theorem State.setAt_dev (n : Fin 4) (x : Assist) : (s.setAt n x).dev = s.dev := rfl
@[simp] theorem State.setAt_lanes (n : Fin 4) (x : Assist) : (s.setAt n x).lanes = s.lanes := rfl
@[simp] theorem State.setAt_timing (n : Fin 4) (x : Assist) : (s.setAt n x).timing = s.timing := rfl
@[simp] theorem State.setAt_seqs (n : Fin 4) (x : Assist) : (s.setAt n x).seqs = s.seqs := rfl
@[simp] theorem State.setAt_chns (n : Fin 4) (x : Assist) : (s.setAt n x).chns = s.chns := rfl
@[simp] theorem State.setAt_srvs (n : Fin 4) (x : Assist) : (s.setAt n x).srvs = s.srvs := rfl
@[simp] theorem State.setAt_heads (n : Fin 4) (x : Assist) : (s.setAt n x).heads = s.heads := rfl
@[simp] theorem State.setAt_spn (n : Fin 4) (x : Assist) : (s.setAt n x).spn = s.spn := rfl
@[simp] theorem State.setAt_buf (n : Fin 4) (x : Assist) : (s.setAt n x).buf = s.buf := rfl
@[simp] theorem State.setAt_cmd (n : Fin 4) (x : Assist) : (s.setAt n x).cmd = s.cmd := rfl
@[simp] theorem State.setAt_vault (n : Fin 4) (x : Assist) : (s.setAt n x).vault = s.vault := rfl
@[simp] theorem State.setAt_hosts (n : Fin 4) (x : Assist) : (s.setAt n x).hosts = s.hosts := rfl
@[simp] theorem State.setAt_lines (n : Fin 4) (x : Assist) : (s.setAt n x).lines = s.lines := rfl
@[simp] theorem State.setAt_tcm (n : Fin 4) (x : Assist) : (s.setAt n x).tcm = s.tcm := rfl
@[simp] theorem State.setAt_pools (n : Fin 4) (x : Assist) : (s.setAt n x).pools = s.pools := rfl
@[simp] theorem State.setAt_irq (n : Fin 4) (x : Assist) : (s.setAt n x).irq = s.irq := rfl
@[simp] theorem State.setAt_hzl (n : Fin 4) (x : Assist) : (s.setAt n x).hzl = s.hzl := rfl
@[simp] theorem State.setAt_svcs (n : Fin 4) (x : Assist) : (s.setAt n x).svcs = s.svcs := rfl
@[simp] theorem State.setAt_house (n : Fin 4) (x : Assist) : (s.setAt n x).house = s.house := rfl
@[simp] theorem State.setAt_resp (n : Fin 4) (x : Assist) : (s.setAt n x).resp = s.resp := rfl
@[simp] theorem State.setAt_freeCtr (n : Fin 4) (x : Assist) : (s.setAt n x).freeCtr = s.freeCtr := rfl
@[simp] theorem State.setAt_pending (n : Fin 4) (x : Assist) : (s.setAt n x).pending = s.pending := rfl
@[simp] theorem State.setAt_reg (n : Fin 4) (x : Assist) (v : UnitId) (j : Nat) : (s.setAt n x).reg v j = s.reg v j := rfl

@[simp] theorem State.setPl_regs (p : Fin 2) (x : Pool) : (s.setPl p x).regs = s.regs := rfl
@[simp] theorem State.setPl_mem (p : Fin 2) (x : Pool) : (s.setPl p x).mem = s.mem := rfl
@[simp] theorem State.setPl_dev (p : Fin 2) (x : Pool) : (s.setPl p x).dev = s.dev := rfl
@[simp] theorem State.setPl_lanes (p : Fin 2) (x : Pool) : (s.setPl p x).lanes = s.lanes := rfl
@[simp] theorem State.setPl_timing (p : Fin 2) (x : Pool) : (s.setPl p x).timing = s.timing := rfl
@[simp] theorem State.setPl_seqs (p : Fin 2) (x : Pool) : (s.setPl p x).seqs = s.seqs := rfl
@[simp] theorem State.setPl_chns (p : Fin 2) (x : Pool) : (s.setPl p x).chns = s.chns := rfl
@[simp] theorem State.setPl_srvs (p : Fin 2) (x : Pool) : (s.setPl p x).srvs = s.srvs := rfl
@[simp] theorem State.setPl_asts (p : Fin 2) (x : Pool) : (s.setPl p x).asts = s.asts := rfl
@[simp] theorem State.setPl_heads (p : Fin 2) (x : Pool) : (s.setPl p x).heads = s.heads := rfl
@[simp] theorem State.setPl_spn (p : Fin 2) (x : Pool) : (s.setPl p x).spn = s.spn := rfl
@[simp] theorem State.setPl_buf (p : Fin 2) (x : Pool) : (s.setPl p x).buf = s.buf := rfl
@[simp] theorem State.setPl_cmd (p : Fin 2) (x : Pool) : (s.setPl p x).cmd = s.cmd := rfl
@[simp] theorem State.setPl_vault (p : Fin 2) (x : Pool) : (s.setPl p x).vault = s.vault := rfl
@[simp] theorem State.setPl_hosts (p : Fin 2) (x : Pool) : (s.setPl p x).hosts = s.hosts := rfl
@[simp] theorem State.setPl_lines (p : Fin 2) (x : Pool) : (s.setPl p x).lines = s.lines := rfl
@[simp] theorem State.setPl_tcm (p : Fin 2) (x : Pool) : (s.setPl p x).tcm = s.tcm := rfl
@[simp] theorem State.setPl_irq (p : Fin 2) (x : Pool) : (s.setPl p x).irq = s.irq := rfl
@[simp] theorem State.setPl_hzl (p : Fin 2) (x : Pool) : (s.setPl p x).hzl = s.hzl := rfl
@[simp] theorem State.setPl_svcs (p : Fin 2) (x : Pool) : (s.setPl p x).svcs = s.svcs := rfl
@[simp] theorem State.setPl_house (p : Fin 2) (x : Pool) : (s.setPl p x).house = s.house := rfl
@[simp] theorem State.setPl_resp (p : Fin 2) (x : Pool) : (s.setPl p x).resp = s.resp := rfl
@[simp] theorem State.setPl_freeCtr (p : Fin 2) (x : Pool) : (s.setPl p x).freeCtr = s.freeCtr := rfl
@[simp] theorem State.setPl_pending (p : Fin 2) (x : Pool) : (s.setPl p x).pending = s.pending := rfl
@[simp] theorem State.setPl_reg (p : Fin 2) (x : Pool) (v : UnitId) (j : Nat) : (s.setPl p x).reg v j = s.reg v j := rfl

@[simp] theorem State.setHouse_regs (x : House) : (s.setHouse x).regs = s.regs := rfl
@[simp] theorem State.setHouse_mem (x : House) : (s.setHouse x).mem = s.mem := rfl
@[simp] theorem State.setHouse_dev (x : House) : (s.setHouse x).dev = s.dev := rfl
@[simp] theorem State.setHouse_lanes (x : House) : (s.setHouse x).lanes = s.lanes := rfl
@[simp] theorem State.setHouse_timing (x : House) : (s.setHouse x).timing = s.timing := rfl
@[simp] theorem State.setHouse_seqs (x : House) : (s.setHouse x).seqs = s.seqs := rfl
@[simp] theorem State.setHouse_chns (x : House) : (s.setHouse x).chns = s.chns := rfl
@[simp] theorem State.setHouse_srvs (x : House) : (s.setHouse x).srvs = s.srvs := rfl
@[simp] theorem State.setHouse_asts (x : House) : (s.setHouse x).asts = s.asts := rfl
@[simp] theorem State.setHouse_heads (x : House) : (s.setHouse x).heads = s.heads := rfl
@[simp] theorem State.setHouse_spn (x : House) : (s.setHouse x).spn = s.spn := rfl
@[simp] theorem State.setHouse_buf (x : House) : (s.setHouse x).buf = s.buf := rfl
@[simp] theorem State.setHouse_cmd (x : House) : (s.setHouse x).cmd = s.cmd := rfl
@[simp] theorem State.setHouse_vault (x : House) : (s.setHouse x).vault = s.vault := rfl
@[simp] theorem State.setHouse_hosts (x : House) : (s.setHouse x).hosts = s.hosts := rfl
@[simp] theorem State.setHouse_lines (x : House) : (s.setHouse x).lines = s.lines := rfl
@[simp] theorem State.setHouse_tcm (x : House) : (s.setHouse x).tcm = s.tcm := rfl
@[simp] theorem State.setHouse_pools (x : House) : (s.setHouse x).pools = s.pools := rfl
@[simp] theorem State.setHouse_irq (x : House) : (s.setHouse x).irq = s.irq := rfl
@[simp] theorem State.setHouse_hzl (x : House) : (s.setHouse x).hzl = s.hzl := rfl
@[simp] theorem State.setHouse_svcs (x : House) : (s.setHouse x).svcs = s.svcs := rfl
@[simp] theorem State.setHouse_resp (x : House) : (s.setHouse x).resp = s.resp := rfl
@[simp] theorem State.setHouse_freeCtr (x : House) : (s.setHouse x).freeCtr = s.freeCtr := rfl
@[simp] theorem State.setHouse_pending (x : House) : (s.setHouse x).pending = s.pending := rfl
@[simp] theorem State.setHouse_reg (x : House) (v : UnitId) (j : Nat) : (s.setHouse x).reg v j = s.reg v j := rfl

@[simp] theorem State.setSvcs_regs (x : Service) : (s.setSvcs x).regs = s.regs := rfl
@[simp] theorem State.setSvcs_mem (x : Service) : (s.setSvcs x).mem = s.mem := rfl
@[simp] theorem State.setSvcs_dev (x : Service) : (s.setSvcs x).dev = s.dev := rfl
@[simp] theorem State.setSvcs_lanes (x : Service) : (s.setSvcs x).lanes = s.lanes := rfl
@[simp] theorem State.setSvcs_timing (x : Service) : (s.setSvcs x).timing = s.timing := rfl
@[simp] theorem State.setSvcs_seqs (x : Service) : (s.setSvcs x).seqs = s.seqs := rfl
@[simp] theorem State.setSvcs_chns (x : Service) : (s.setSvcs x).chns = s.chns := rfl
@[simp] theorem State.setSvcs_srvs (x : Service) : (s.setSvcs x).srvs = s.srvs := rfl
@[simp] theorem State.setSvcs_asts (x : Service) : (s.setSvcs x).asts = s.asts := rfl
@[simp] theorem State.setSvcs_heads (x : Service) : (s.setSvcs x).heads = s.heads := rfl
@[simp] theorem State.setSvcs_spn (x : Service) : (s.setSvcs x).spn = s.spn := rfl
@[simp] theorem State.setSvcs_buf (x : Service) : (s.setSvcs x).buf = s.buf := rfl
@[simp] theorem State.setSvcs_cmd (x : Service) : (s.setSvcs x).cmd = s.cmd := rfl
@[simp] theorem State.setSvcs_vault (x : Service) : (s.setSvcs x).vault = s.vault := rfl
@[simp] theorem State.setSvcs_hosts (x : Service) : (s.setSvcs x).hosts = s.hosts := rfl
@[simp] theorem State.setSvcs_lines (x : Service) : (s.setSvcs x).lines = s.lines := rfl
@[simp] theorem State.setSvcs_tcm (x : Service) : (s.setSvcs x).tcm = s.tcm := rfl
@[simp] theorem State.setSvcs_pools (x : Service) : (s.setSvcs x).pools = s.pools := rfl
@[simp] theorem State.setSvcs_irq (x : Service) : (s.setSvcs x).irq = s.irq := rfl
@[simp] theorem State.setSvcs_hzl (x : Service) : (s.setSvcs x).hzl = s.hzl := rfl
@[simp] theorem State.setSvcs_house (x : Service) : (s.setSvcs x).house = s.house := rfl
@[simp] theorem State.setSvcs_resp (x : Service) : (s.setSvcs x).resp = s.resp := rfl
@[simp] theorem State.setSvcs_freeCtr (x : Service) : (s.setSvcs x).freeCtr = s.freeCtr := rfl
@[simp] theorem State.setSvcs_pending (x : Service) : (s.setSvcs x).pending = s.pending := rfl
@[simp] theorem State.setSvcs_reg (x : Service) (v : UnitId) (j : Nat) : (s.setSvcs x).reg v j = s.reg v j := rfl

@[simp] theorem State.setPort_regs (p : Fin 2) (x : Port) : (s.setPort p x).regs = s.regs := rfl
@[simp] theorem State.setPort_mem (p : Fin 2) (x : Port) : (s.setPort p x).mem = s.mem := rfl
@[simp] theorem State.setPort_dev (p : Fin 2) (x : Port) : (s.setPort p x).dev = s.dev := rfl
@[simp] theorem State.setPort_lanes (p : Fin 2) (x : Port) : (s.setPort p x).lanes = s.lanes := rfl
@[simp] theorem State.setPort_timing (p : Fin 2) (x : Port) : (s.setPort p x).timing = s.timing := rfl
@[simp] theorem State.setPort_seqs (p : Fin 2) (x : Port) : (s.setPort p x).seqs = s.seqs := rfl
@[simp] theorem State.setPort_chns (p : Fin 2) (x : Port) : (s.setPort p x).chns = s.chns := rfl
@[simp] theorem State.setPort_srvs (p : Fin 2) (x : Port) : (s.setPort p x).srvs = s.srvs := rfl
@[simp] theorem State.setPort_asts (p : Fin 2) (x : Port) : (s.setPort p x).asts = s.asts := rfl
@[simp] theorem State.setPort_heads (p : Fin 2) (x : Port) : (s.setPort p x).heads = s.heads := rfl
@[simp] theorem State.setPort_spn (p : Fin 2) (x : Port) : (s.setPort p x).spn = s.spn := rfl
@[simp] theorem State.setPort_buf (p : Fin 2) (x : Port) : (s.setPort p x).buf = s.buf := rfl
@[simp] theorem State.setPort_cmd (p : Fin 2) (x : Port) : (s.setPort p x).cmd = s.cmd := rfl
@[simp] theorem State.setPort_vault (p : Fin 2) (x : Port) : (s.setPort p x).vault = s.vault := rfl
@[simp] theorem State.setPort_lines (p : Fin 2) (x : Port) : (s.setPort p x).lines = s.lines := rfl
@[simp] theorem State.setPort_tcm (p : Fin 2) (x : Port) : (s.setPort p x).tcm = s.tcm := rfl
@[simp] theorem State.setPort_pools (p : Fin 2) (x : Port) : (s.setPort p x).pools = s.pools := rfl
@[simp] theorem State.setPort_irq (p : Fin 2) (x : Port) : (s.setPort p x).irq = s.irq := rfl
@[simp] theorem State.setPort_hzl (p : Fin 2) (x : Port) : (s.setPort p x).hzl = s.hzl := rfl
@[simp] theorem State.setPort_svcs (p : Fin 2) (x : Port) : (s.setPort p x).svcs = s.svcs := rfl
@[simp] theorem State.setPort_house (p : Fin 2) (x : Port) : (s.setPort p x).house = s.house := rfl
@[simp] theorem State.setPort_resp (p : Fin 2) (x : Port) : (s.setPort p x).resp = s.resp := rfl
@[simp] theorem State.setPort_freeCtr (p : Fin 2) (x : Port) : (s.setPort p x).freeCtr = s.freeCtr := rfl
@[simp] theorem State.setPort_pending (p : Fin 2) (x : Port) : (s.setPort p x).pending = s.pending := rfl
@[simp] theorem State.setPort_reg (p : Fin 2) (x : Port) (v : UnitId) (j : Nat) : (s.setPort p x).reg v j = s.reg v j := rfl

@[simp] theorem State.setSlot_regs (i : Nat) (x : Slot) : (s.setSlot i x).regs = s.regs := rfl
@[simp] theorem State.setSlot_mem (i : Nat) (x : Slot) : (s.setSlot i x).mem = s.mem := rfl
@[simp] theorem State.setSlot_dev (i : Nat) (x : Slot) : (s.setSlot i x).dev = s.dev := rfl
@[simp] theorem State.setSlot_lanes (i : Nat) (x : Slot) : (s.setSlot i x).lanes = s.lanes := rfl
@[simp] theorem State.setSlot_timing (i : Nat) (x : Slot) : (s.setSlot i x).timing = s.timing := rfl
@[simp] theorem State.setSlot_seqs (i : Nat) (x : Slot) : (s.setSlot i x).seqs = s.seqs := rfl
@[simp] theorem State.setSlot_chns (i : Nat) (x : Slot) : (s.setSlot i x).chns = s.chns := rfl
@[simp] theorem State.setSlot_srvs (i : Nat) (x : Slot) : (s.setSlot i x).srvs = s.srvs := rfl
@[simp] theorem State.setSlot_asts (i : Nat) (x : Slot) : (s.setSlot i x).asts = s.asts := rfl
@[simp] theorem State.setSlot_heads (i : Nat) (x : Slot) : (s.setSlot i x).heads = s.heads := rfl
@[simp] theorem State.setSlot_spn (i : Nat) (x : Slot) : (s.setSlot i x).spn = s.spn := rfl
@[simp] theorem State.setSlot_buf (i : Nat) (x : Slot) : (s.setSlot i x).buf = s.buf := rfl
@[simp] theorem State.setSlot_vault (i : Nat) (x : Slot) : (s.setSlot i x).vault = s.vault := rfl
@[simp] theorem State.setSlot_hosts (i : Nat) (x : Slot) : (s.setSlot i x).hosts = s.hosts := rfl
@[simp] theorem State.setSlot_lines (i : Nat) (x : Slot) : (s.setSlot i x).lines = s.lines := rfl
@[simp] theorem State.setSlot_tcm (i : Nat) (x : Slot) : (s.setSlot i x).tcm = s.tcm := rfl
@[simp] theorem State.setSlot_pools (i : Nat) (x : Slot) : (s.setSlot i x).pools = s.pools := rfl
@[simp] theorem State.setSlot_irq (i : Nat) (x : Slot) : (s.setSlot i x).irq = s.irq := rfl
@[simp] theorem State.setSlot_hzl (i : Nat) (x : Slot) : (s.setSlot i x).hzl = s.hzl := rfl
@[simp] theorem State.setSlot_svcs (i : Nat) (x : Slot) : (s.setSlot i x).svcs = s.svcs := rfl
@[simp] theorem State.setSlot_house (i : Nat) (x : Slot) : (s.setSlot i x).house = s.house := rfl
@[simp] theorem State.setSlot_resp (i : Nat) (x : Slot) : (s.setSlot i x).resp = s.resp := rfl
@[simp] theorem State.setSlot_freeCtr (i : Nat) (x : Slot) : (s.setSlot i x).freeCtr = s.freeCtr := rfl
@[simp] theorem State.setSlot_pending (i : Nat) (x : Slot) : (s.setSlot i x).pending = s.pending := rfl
@[simp] theorem State.setSlot_reg (i : Nat) (x : Slot) (v : UnitId) (j : Nat) : (s.setSlot i x).reg v j = s.reg v j := rfl

@[simp] theorem State.setByte_regs (a : Nat) (b : Byte) : (s.setByte a b).regs = s.regs := rfl
@[simp] theorem State.setByte_dev (a : Nat) (b : Byte) : (s.setByte a b).dev = s.dev := rfl
@[simp] theorem State.setByte_lanes (a : Nat) (b : Byte) : (s.setByte a b).lanes = s.lanes := rfl
@[simp] theorem State.setByte_timing (a : Nat) (b : Byte) : (s.setByte a b).timing = s.timing := rfl
@[simp] theorem State.setByte_seqs (a : Nat) (b : Byte) : (s.setByte a b).seqs = s.seqs := rfl
@[simp] theorem State.setByte_chns (a : Nat) (b : Byte) : (s.setByte a b).chns = s.chns := rfl
@[simp] theorem State.setByte_srvs (a : Nat) (b : Byte) : (s.setByte a b).srvs = s.srvs := rfl
@[simp] theorem State.setByte_asts (a : Nat) (b : Byte) : (s.setByte a b).asts = s.asts := rfl
@[simp] theorem State.setByte_heads (a : Nat) (b : Byte) : (s.setByte a b).heads = s.heads := rfl
@[simp] theorem State.setByte_spn (a : Nat) (b : Byte) : (s.setByte a b).spn = s.spn := rfl
@[simp] theorem State.setByte_buf (a : Nat) (b : Byte) : (s.setByte a b).buf = s.buf := rfl
@[simp] theorem State.setByte_cmd (a : Nat) (b : Byte) : (s.setByte a b).cmd = s.cmd := rfl
@[simp] theorem State.setByte_vault (a : Nat) (b : Byte) : (s.setByte a b).vault = s.vault := rfl
@[simp] theorem State.setByte_hosts (a : Nat) (b : Byte) : (s.setByte a b).hosts = s.hosts := rfl
@[simp] theorem State.setByte_tcm (a : Nat) (b : Byte) : (s.setByte a b).tcm = s.tcm := rfl
@[simp] theorem State.setByte_pools (a : Nat) (b : Byte) : (s.setByte a b).pools = s.pools := rfl
@[simp] theorem State.setByte_irq (a : Nat) (b : Byte) : (s.setByte a b).irq = s.irq := rfl
@[simp] theorem State.setByte_hzl (a : Nat) (b : Byte) : (s.setByte a b).hzl = s.hzl := rfl
@[simp] theorem State.setByte_svcs (a : Nat) (b : Byte) : (s.setByte a b).svcs = s.svcs := rfl
@[simp] theorem State.setByte_house (a : Nat) (b : Byte) : (s.setByte a b).house = s.house := rfl
@[simp] theorem State.setByte_resp (a : Nat) (b : Byte) : (s.setByte a b).resp = s.resp := rfl
@[simp] theorem State.setByte_freeCtr (a : Nat) (b : Byte) : (s.setByte a b).freeCtr = s.freeCtr := rfl
@[simp] theorem State.setByte_pending (a : Nat) (b : Byte) : (s.setByte a b).pending = s.pending := rfl
@[simp] theorem State.setByte_reg (a : Nat) (b : Byte) (v : UnitId) (j : Nat) : (s.setByte a b).reg v j = s.reg v j := rfl

@[simp] theorem State.answer_regs (r : Resp) : (s.answer r).regs = s.regs := rfl
@[simp] theorem State.answer_mem (r : Resp) : (s.answer r).mem = s.mem := rfl
@[simp] theorem State.answer_dev (r : Resp) : (s.answer r).dev = s.dev := rfl
@[simp] theorem State.answer_lanes (r : Resp) : (s.answer r).lanes = s.lanes := rfl
@[simp] theorem State.answer_timing (r : Resp) : (s.answer r).timing = s.timing := rfl
@[simp] theorem State.answer_seqs (r : Resp) : (s.answer r).seqs = s.seqs := rfl
@[simp] theorem State.answer_chns (r : Resp) : (s.answer r).chns = s.chns := rfl
@[simp] theorem State.answer_srvs (r : Resp) : (s.answer r).srvs = s.srvs := rfl
@[simp] theorem State.answer_asts (r : Resp) : (s.answer r).asts = s.asts := rfl
@[simp] theorem State.answer_heads (r : Resp) : (s.answer r).heads = s.heads := rfl
@[simp] theorem State.answer_spn (r : Resp) : (s.answer r).spn = s.spn := rfl
@[simp] theorem State.answer_buf (r : Resp) : (s.answer r).buf = s.buf := rfl
@[simp] theorem State.answer_cmd (r : Resp) : (s.answer r).cmd = s.cmd := rfl
@[simp] theorem State.answer_vault (r : Resp) : (s.answer r).vault = s.vault := rfl
@[simp] theorem State.answer_hosts (r : Resp) : (s.answer r).hosts = s.hosts := rfl
@[simp] theorem State.answer_lines (r : Resp) : (s.answer r).lines = s.lines := rfl
@[simp] theorem State.answer_tcm (r : Resp) : (s.answer r).tcm = s.tcm := rfl
@[simp] theorem State.answer_pools (r : Resp) : (s.answer r).pools = s.pools := rfl
@[simp] theorem State.answer_irq (r : Resp) : (s.answer r).irq = s.irq := rfl
@[simp] theorem State.answer_hzl (r : Resp) : (s.answer r).hzl = s.hzl := rfl
@[simp] theorem State.answer_svcs (r : Resp) : (s.answer r).svcs = s.svcs := rfl
@[simp] theorem State.answer_house (r : Resp) : (s.answer r).house = s.house := rfl
@[simp] theorem State.answer_freeCtr (r : Resp) : (s.answer r).freeCtr = s.freeCtr := rfl
@[simp] theorem State.answer_pending (r : Resp) : (s.answer r).pending = s.pending := rfl
@[simp] theorem State.answer_reg (r : Resp) (v : UnitId) (j : Nat) : (s.answer r).reg v j = s.reg v j := rfl

@[simp] theorem State.ignore_regs : (s.ignore).regs = s.regs := rfl
@[simp] theorem State.ignore_mem : (s.ignore).mem = s.mem := rfl
@[simp] theorem State.ignore_dev : (s.ignore).dev = s.dev := rfl
@[simp] theorem State.ignore_lanes : (s.ignore).lanes = s.lanes := rfl
@[simp] theorem State.ignore_timing : (s.ignore).timing = s.timing := rfl
@[simp] theorem State.ignore_seqs : (s.ignore).seqs = s.seqs := rfl
@[simp] theorem State.ignore_chns : (s.ignore).chns = s.chns := rfl
@[simp] theorem State.ignore_srvs : (s.ignore).srvs = s.srvs := rfl
@[simp] theorem State.ignore_asts : (s.ignore).asts = s.asts := rfl
@[simp] theorem State.ignore_heads : (s.ignore).heads = s.heads := rfl
@[simp] theorem State.ignore_spn : (s.ignore).spn = s.spn := rfl
@[simp] theorem State.ignore_buf : (s.ignore).buf = s.buf := rfl
@[simp] theorem State.ignore_cmd : (s.ignore).cmd = s.cmd := rfl
@[simp] theorem State.ignore_vault : (s.ignore).vault = s.vault := rfl
@[simp] theorem State.ignore_hosts : (s.ignore).hosts = s.hosts := rfl
@[simp] theorem State.ignore_lines : (s.ignore).lines = s.lines := rfl
@[simp] theorem State.ignore_tcm : (s.ignore).tcm = s.tcm := rfl
@[simp] theorem State.ignore_pools : (s.ignore).pools = s.pools := rfl
@[simp] theorem State.ignore_irq : (s.ignore).irq = s.irq := rfl
@[simp] theorem State.ignore_hzl : (s.ignore).hzl = s.hzl := rfl
@[simp] theorem State.ignore_svcs : (s.ignore).svcs = s.svcs := rfl
@[simp] theorem State.ignore_house : (s.ignore).house = s.house := rfl
@[simp] theorem State.ignore_freeCtr : (s.ignore).freeCtr = s.freeCtr := rfl
@[simp] theorem State.ignore_pending : (s.ignore).pending = s.pending := rfl
@[simp] theorem State.ignore_reg (v : UnitId) (j : Nat) : (s.ignore).reg v j = s.reg v j := rfl

@[simp] theorem State.wait_regs : (s.wait).regs = s.regs := rfl
@[simp] theorem State.wait_mem : (s.wait).mem = s.mem := rfl
@[simp] theorem State.wait_dev : (s.wait).dev = s.dev := rfl
@[simp] theorem State.wait_lanes : (s.wait).lanes = s.lanes := rfl
@[simp] theorem State.wait_timing : (s.wait).timing = s.timing := rfl
@[simp] theorem State.wait_seqs : (s.wait).seqs = s.seqs := rfl
@[simp] theorem State.wait_chns : (s.wait).chns = s.chns := rfl
@[simp] theorem State.wait_srvs : (s.wait).srvs = s.srvs := rfl
@[simp] theorem State.wait_asts : (s.wait).asts = s.asts := rfl
@[simp] theorem State.wait_heads : (s.wait).heads = s.heads := rfl
@[simp] theorem State.wait_spn : (s.wait).spn = s.spn := rfl
@[simp] theorem State.wait_buf : (s.wait).buf = s.buf := rfl
@[simp] theorem State.wait_cmd : (s.wait).cmd = s.cmd := rfl
@[simp] theorem State.wait_vault : (s.wait).vault = s.vault := rfl
@[simp] theorem State.wait_hosts : (s.wait).hosts = s.hosts := rfl
@[simp] theorem State.wait_lines : (s.wait).lines = s.lines := rfl
@[simp] theorem State.wait_tcm : (s.wait).tcm = s.tcm := rfl
@[simp] theorem State.wait_pools : (s.wait).pools = s.pools := rfl
@[simp] theorem State.wait_irq : (s.wait).irq = s.irq := rfl
@[simp] theorem State.wait_hzl : (s.wait).hzl = s.hzl := rfl
@[simp] theorem State.wait_svcs : (s.wait).svcs = s.svcs := rfl
@[simp] theorem State.wait_house : (s.wait).house = s.house := rfl
@[simp] theorem State.wait_freeCtr : (s.wait).freeCtr = s.freeCtr := rfl
@[simp] theorem State.wait_pending : (s.wait).pending = s.pending := rfl
@[simp] theorem State.wait_reg (v : UnitId) (j : Nat) : (s.wait).reg v j = s.reg v j := rfl

@[simp] theorem State.spend_regs : (s.spend).regs = s.regs := rfl
@[simp] theorem State.spend_mem : (s.spend).mem = s.mem := rfl
@[simp] theorem State.spend_dev : (s.spend).dev = s.dev := rfl
@[simp] theorem State.spend_lanes : (s.spend).lanes = s.lanes := rfl
@[simp] theorem State.spend_timing : (s.spend).timing = s.timing := rfl
@[simp] theorem State.spend_seqs : (s.spend).seqs = s.seqs := rfl
@[simp] theorem State.spend_chns : (s.spend).chns = s.chns := rfl
@[simp] theorem State.spend_srvs : (s.spend).srvs = s.srvs := rfl
@[simp] theorem State.spend_asts : (s.spend).asts = s.asts := rfl
@[simp] theorem State.spend_heads : (s.spend).heads = s.heads := rfl
@[simp] theorem State.spend_spn : (s.spend).spn = s.spn := rfl
@[simp] theorem State.spend_buf : (s.spend).buf = s.buf := rfl
@[simp] theorem State.spend_cmd : (s.spend).cmd = s.cmd := rfl
@[simp] theorem State.spend_vault : (s.spend).vault = s.vault := rfl
@[simp] theorem State.spend_hosts : (s.spend).hosts = s.hosts := rfl
@[simp] theorem State.spend_lines : (s.spend).lines = s.lines := rfl
@[simp] theorem State.spend_tcm : (s.spend).tcm = s.tcm := rfl
@[simp] theorem State.spend_pools : (s.spend).pools = s.pools := rfl
@[simp] theorem State.spend_irq : (s.spend).irq = s.irq := rfl
@[simp] theorem State.spend_hzl : (s.spend).hzl = s.hzl := rfl
@[simp] theorem State.spend_svcs : (s.spend).svcs = s.svcs := rfl
@[simp] theorem State.spend_house : (s.spend).house = s.house := rfl
@[simp] theorem State.spend_resp : (s.spend).resp = s.resp := rfl
@[simp] theorem State.spend_pending : (s.spend).pending = s.pending := rfl
@[simp] theorem State.spend_reg (v : UnitId) (j : Nat) : (s.spend).reg v j = s.reg v j := rfl

@[simp] theorem State.setPlace_regs (p : Place) : (s.setPlace p).regs = s.regs := rfl
@[simp] theorem State.setPlace_mem (p : Place) : (s.setPlace p).mem = s.mem := rfl
@[simp] theorem State.setPlace_dev (p : Place) : (s.setPlace p).dev = s.dev := rfl
@[simp] theorem State.setPlace_lanes (p : Place) : (s.setPlace p).lanes = s.lanes := rfl
@[simp] theorem State.setPlace_timing (p : Place) : (s.setPlace p).timing = s.timing := rfl
@[simp] theorem State.setPlace_seqs (p : Place) : (s.setPlace p).seqs = s.seqs := rfl
@[simp] theorem State.setPlace_chns (p : Place) : (s.setPlace p).chns = s.chns := rfl
@[simp] theorem State.setPlace_srvs (p : Place) : (s.setPlace p).srvs = s.srvs := rfl
@[simp] theorem State.setPlace_asts (p : Place) : (s.setPlace p).asts = s.asts := rfl
@[simp] theorem State.setPlace_heads (p : Place) : (s.setPlace p).heads = s.heads := rfl
@[simp] theorem State.setPlace_spn (p : Place) : (s.setPlace p).spn = s.spn := rfl
@[simp] theorem State.setPlace_buf (p : Place) : (s.setPlace p).buf = s.buf := rfl
@[simp] theorem State.setPlace_cmd (p : Place) : (s.setPlace p).cmd = s.cmd := rfl
@[simp] theorem State.setPlace_vault (p : Place) : (s.setPlace p).vault = s.vault := rfl
@[simp] theorem State.setPlace_lines (p : Place) : (s.setPlace p).lines = s.lines := rfl
@[simp] theorem State.setPlace_tcm (p : Place) : (s.setPlace p).tcm = s.tcm := rfl
@[simp] theorem State.setPlace_pools (p : Place) : (s.setPlace p).pools = s.pools := rfl
@[simp] theorem State.setPlace_irq (p : Place) : (s.setPlace p).irq = s.irq := rfl
@[simp] theorem State.setPlace_hzl (p : Place) : (s.setPlace p).hzl = s.hzl := rfl
@[simp] theorem State.setPlace_svcs (p : Place) : (s.setPlace p).svcs = s.svcs := rfl
@[simp] theorem State.setPlace_house (p : Place) : (s.setPlace p).house = s.house := rfl
@[simp] theorem State.setPlace_resp (p : Place) : (s.setPlace p).resp = s.resp := rfl
@[simp] theorem State.setPlace_freeCtr (p : Place) : (s.setPlace p).freeCtr = s.freeCtr := rfl
@[simp] theorem State.setPlace_pending (p : Place) : (s.setPlace p).pending = s.pending := rfl
@[simp] theorem State.setPlace_reg (p : Place) (v : UnitId) (j : Nat) : (s.setPlace p).reg v j = s.reg v j := rfl
@[simp] theorem State.setPlace_place (p : Place) : (s.setPlace p).place = p := rfl
@[simp] theorem State.setPlace_zones (p : Place) : (s.setPlace p).hosts.zones = s.hosts.zones := rfl
@[simp] theorem State.setPlace_namespaces (p : Place) : (s.setPlace p).hosts.namespaces = s.hosts.namespaces := rfl

@[simp] theorem State.setREng_regs (e : Nat) (x : RoundEngine) : (s.setREng e x).regs = s.regs := rfl
@[simp] theorem State.setREng_mem (e : Nat) (x : RoundEngine) : (s.setREng e x).mem = s.mem := rfl
@[simp] theorem State.setREng_dev (e : Nat) (x : RoundEngine) : (s.setREng e x).dev = s.dev := rfl
@[simp] theorem State.setREng_lanes (e : Nat) (x : RoundEngine) : (s.setREng e x).lanes = s.lanes := rfl
@[simp] theorem State.setREng_timing (e : Nat) (x : RoundEngine) : (s.setREng e x).timing = s.timing := rfl
@[simp] theorem State.setREng_seqs (e : Nat) (x : RoundEngine) : (s.setREng e x).seqs = s.seqs := rfl
@[simp] theorem State.setREng_chns (e : Nat) (x : RoundEngine) : (s.setREng e x).chns = s.chns := rfl
@[simp] theorem State.setREng_srvs (e : Nat) (x : RoundEngine) : (s.setREng e x).srvs = s.srvs := rfl
@[simp] theorem State.setREng_asts (e : Nat) (x : RoundEngine) : (s.setREng e x).asts = s.asts := rfl
@[simp] theorem State.setREng_heads (e : Nat) (x : RoundEngine) : (s.setREng e x).heads = s.heads := rfl
@[simp] theorem State.setREng_spn (e : Nat) (x : RoundEngine) : (s.setREng e x).spn = s.spn := rfl
@[simp] theorem State.setREng_buf (e : Nat) (x : RoundEngine) : (s.setREng e x).buf = s.buf := rfl
@[simp] theorem State.setREng_cmd (e : Nat) (x : RoundEngine) : (s.setREng e x).cmd = s.cmd := rfl
@[simp] theorem State.setREng_vault (e : Nat) (x : RoundEngine) : (s.setREng e x).vault = s.vault := rfl
@[simp] theorem State.setREng_hosts (e : Nat) (x : RoundEngine) : (s.setREng e x).hosts = s.hosts := rfl
@[simp] theorem State.setREng_lines (e : Nat) (x : RoundEngine) : (s.setREng e x).lines = s.lines := rfl
@[simp] theorem State.setREng_tcm (e : Nat) (x : RoundEngine) : (s.setREng e x).tcm = s.tcm := rfl
@[simp] theorem State.setREng_pools (e : Nat) (x : RoundEngine) : (s.setREng e x).pools = s.pools := rfl
@[simp] theorem State.setREng_irq (e : Nat) (x : RoundEngine) : (s.setREng e x).irq = s.irq := rfl
@[simp] theorem State.setREng_svcs (e : Nat) (x : RoundEngine) : (s.setREng e x).svcs = s.svcs := rfl
@[simp] theorem State.setREng_house (e : Nat) (x : RoundEngine) : (s.setREng e x).house = s.house := rfl
@[simp] theorem State.setREng_resp (e : Nat) (x : RoundEngine) : (s.setREng e x).resp = s.resp := rfl
@[simp] theorem State.setREng_freeCtr (e : Nat) (x : RoundEngine) : (s.setREng e x).freeCtr = s.freeCtr := rfl
@[simp] theorem State.setREng_pending (e : Nat) (x : RoundEngine) : (s.setREng e x).pending = s.pending := rfl
@[simp] theorem State.setREng_reg (e : Nat) (x : RoundEngine) (v : UnitId) (j : Nat) : (s.setREng e x).reg v j = s.reg v j := rfl
@[simp] theorem State.setREng_rEng (e : Nat) (x : RoundEngine) : (s.setREng e x).rEng e = x := by simp [State.rEng, State.setREng]
@[simp] theorem State.setREng_sessions (e : Nat) (x : RoundEngine) : (s.setREng e x).hzl.sessions = s.hzl.sessions := rfl

@[simp] theorem State.answer_resp (r : Resp) : (s.answer r).resp = r := rfl
@[simp] theorem State.ignore_resp : s.ignore.resp = .ignored := rfl
@[simp] theorem State.wait_resp : s.wait.resp = .waiting := rfl
@[simp] theorem State.when_true (t : State) : s.when true t = t := rfl
@[simp] theorem State.when_false (t : State) : s.when false t = s.ignore := rfl

/-! ### Registers -/

/-- A register after a write. -/
theorem State.reg_setReg (u v : UnitId) (o j : Nat) (w : Word) :
    (s.setReg u o w).reg v j = if key v j = key u o then w else s.reg v j := by
  simp [State.reg, State.setReg]

@[simp] theorem State.reg_setReg_same (u : UnitId) (o : Nat) (w : Word) : (s.setReg u o w).reg u o = w := by
  simp [State.reg_setReg]

/-- A write leaves the registers of other keys. -/
theorem State.reg_setReg_ne {u v : UnitId} {o j : Nat} (h : key v j ≠ key u o) (w : Word) :
    (s.setReg u o w).reg v j = s.reg v j := by
  simp [State.reg_setReg, h]

/-- Registers of one unit have one key each. -/
theorem key_inj_off {u : UnitId} {o j : Nat} : key u o = key u j ↔ o = j := by simp [key]

/-- Unit numbers have 12 bits. -/
theorem UnitId.num_lt (u : UnitId) : u.num < 4096 := by
  cases u <;> simp only [UnitId.num] <;> omega

/-- Each unit has its own number (R23). -/
theorem UnitId.num_inj {u v : UnitId} (h : u.num = v.num) : u = v := by
  cases u <;> cases v <;> simp only [UnitId.num, UnitId.piv.injEq, UnitId.lane.injEq, UnitId.chn.injEq, UnitId.tsq.injEq,
    UnitId.srv.injEq, UnitId.ast.injEq, UnitId.pep.injEq, UnitId.pool.injEq, reduceCtorEq] at h ⊢ <;>
    first | (apply Fin.ext; omega) | omega

/-- Keys of registers inside their blocks tell the registers apart. -/
theorem key_inj {u v : UnitId} {o j : Nat} (ho : o < 0x1000) (hj : j < 0x1000) : key u o = key v j ↔ u = v ∧ o = j := by
  constructor
  · intro h
    have h1 : u.num = v.num := by simp only [key] at h; omega
    refine ⟨UnitId.num_inj h1, ?_⟩
    simp only [key] at h; omega
  · rintro ⟨rfl, rfl⟩; rfl

@[simp] theorem State.setReg_reset_wf (h : Sparse.wf regReset s.regs = true) (u : UnitId) (o : Nat) (w : Word) :
    Sparse.wf regReset (s.setReg u o w).regs = true := Sparse.wf_set h _ _

/-! ### Memory -/

/-- A byte after a store. -/
theorem State.byte_setByte (a c : Nat) (b : Byte) : (s.setByte a b).byte c = if c = a then b else s.byte c := by
  simp [State.byte, State.setByte]

/-- A store of one byte keeps the canonical form of memory. -/
theorem State.setByte_wf (h : Memory.wf s.mem = true) (a : Nat) (b : Byte) : Memory.wf (s.setByte a b).mem = true :=
  Sparse.wf_set h _ _

/-- A store of bytes keeps the canonical form of memory. -/
theorem State.setBytes_wf (l : List Byte) : ∀ (s : State) (a : Nat), Memory.wf s.mem = true → Memory.wf (s.setBytes a l).mem = true := by
  induction l with
  | nil => exact fun _ _ h => h
  | cons b t ih => exact fun s a h => ih _ _ (s.setByte_wf h a b)

/-- A store of bytes leaves every byte outside them, and puts them in their order. -/
theorem State.byte_setBytes (l : List Byte) : ∀ (s : State) (a c : Nat),
    (s.setBytes a l).byte c = if a ≤ c ∧ c < a + l.length then l.getD (c - a) 0 else s.byte c := by
  induction l with
  | nil => intro s a c; simp [State.setBytes]
  | cons b t ih =>
    intro s a c
    rw [State.setBytes, ih, State.byte_setByte]
    by_cases h : c = a
    · subst h; simp
    · by_cases h1 : a + 1 ≤ c ∧ c < a + 1 + t.length
      · obtain ⟨k, rfl⟩ : ∃ k, c = a + 1 + k := ⟨c - (a + 1), by omega⟩
        have e1 : a + 1 + k - (a + 1) = k := by omega
        have e2 : a + 1 + k - a = k + 1 := by omega
        have h2 : a ≤ a + 1 + k ∧ a + 1 + k < a + (b :: t).length := by simp; omega
        rw [if_pos h1, if_pos h2, e1, e2]; simp
      · have h2 : ¬(a ≤ c ∧ c < a + (b :: t).length) := by simp at h1 ⊢; omega
        rw [if_neg h1, if_neg h2, if_neg h]

/-- A cold reset's memory is in canonical form when the memory before was (R43). -/
theorem keepNor_wf {m : List Host.Cell} (h : Memory.wf m = true) : Memory.wf (keepNor m) = true := Sparse.wf_filter _ h

/-! ### Outcomes -/

/-- What a running device answers to a command (R43). -/
theorem done_on (f : State → State) (h : s.dev.power = .on) :
    done s f = .next { f { s with resp := .none } with pending := s.pending } := by simp [done, leave, h]

/-- What a held device answers to a command (R43, R56). -/
theorem done_held (f : State → State) (h : s.dev.power ≠ .on) : done s f = .next { s with resp := .ignored } := by
  simp [done, leave, h, State.ignore]

/-- Every outcome of `done` is a next state with the queue as it was. -/
theorem done_next (f : State → State) : ∃ t, done s f = .next t ∧ t.pending = s.pending := ⟨_, rfl, rfl⟩

end Sys2Proof.Machine
end

