-- ==== Sys2Proof/Laws/Field.lean ====
section
/-! SUPPORT. Laws of register fields: a field reads back what was put into it, and the others stay. -/

namespace Sys2Proof.Machine

/-- Bit `i` of a field's mask. -/
theorem Field.getLsbD_mask (f : Field) {i : Nat} (h : i < 32) :
    f.mask.getLsbD i = decide (f.lo ≤ i ∧ i < f.lo + f.width) := by
  simp only [Field.mask, BitVec.getLsbD_ofNat, h, decide_true, Bool.true_and]
  by_cases h1 : f.lo ≤ i
  · obtain ⟨k, rfl⟩ := Nat.exists_eq_add_of_le h1
    rw [Nat.mul_comm, Nat.testBit_two_pow_mul]
    simp
  · rw [Nat.mul_comm, Nat.testBit_two_pow_mul]
    simp [h1]

/-- Bit `i` of a word with a field put into it. -/
theorem Field.getLsbD_put (f : Field) (w : Word) (v : Nat) {i : Nat} (h : i < 32) :
    (f.put w v).getLsbD i = if f.lo ≤ i ∧ i < f.lo + f.width then v.testBit (i - f.lo) else w.getLsbD i := by
  simp only [Field.put, BitVec.getLsbD_or, BitVec.getLsbD_and, BitVec.getLsbD_not, h, decide_true, Bool.true_and,
    Field.getLsbD_mask f h, BitVec.getLsbD_shiftLeft, BitVec.getLsbD_ofNat, Nat.testBit_mod_two_pow]
  by_cases h1 : f.lo ≤ i <;> by_cases h2 : i < f.lo + f.width
  · have h3 : i - f.lo < f.width := by omega
    have h4 : i - f.lo < 32 := by omega
    have h5 : ¬ i < f.lo := by omega
    simp [h1, h2, h3, h4, h5]
  · have h3 : ¬ i - f.lo < f.width := by omega
    simp [h1, h2, h3]
  · have h5 : i < f.lo := by omega
    simp [h1, h5]
  · have h5 : i < f.lo := by omega
    simp [h1, h5]

/-- A field reads back what was put into it, cut to its width. -/
theorem Field.get_put (f : Field) (w : Word) (v : Nat) (h : f.lo + f.width ≤ 32) : f.get (f.put w v) = v % 2 ^ f.width := by
  apply Nat.eq_of_testBit_eq
  intro i
  simp only [Field.get, Nat.testBit_mod_two_pow]
  rw [show ∀ (x : BitVec f.width), x.toNat.testBit i = x.getLsbD i from fun x => rfl, BitVec.getLsbD_extractLsb']
  by_cases hi : i < f.width
  · rw [Field.getLsbD_put f w v (by omega)]
    simp [hi]
  · simp [hi]

/-- A field of other bits reads as before. -/
theorem Field.get_put_ne (f g : Field) (w : Word) (v : Nat) (hg : g.lo + g.width ≤ 32)
    (h : g.lo + g.width ≤ f.lo ∨ f.lo + f.width ≤ g.lo) : g.get (f.put w v) = g.get w := by
  apply Nat.eq_of_testBit_eq
  intro i
  simp only [Field.get]
  rw [show ∀ (x : BitVec g.width), x.toNat.testBit i = x.getLsbD i from fun x => rfl,
    show ∀ (x : BitVec g.width), x.toNat.testBit i = x.getLsbD i from fun x => rfl,
    BitVec.getLsbD_extractLsb', BitVec.getLsbD_extractLsb']
  by_cases hi : i < g.width
  · rw [Field.getLsbD_put f w v (by omega)]
    have : ¬(f.lo ≤ g.lo + i ∧ g.lo + i < f.lo + f.width) := by omega
    simp [this]
  · simp [hi]

variable (s : State)

/-- A field after it is set. -/
theorem State.f_setF_same (u : UnitId) (f : Field) (v : Nat) (h : f.lo + f.width ≤ 32) :
    (s.setF u f v).f u f = v % 2 ^ f.width := by
  simp [State.f, State.setF, Field.get_put f _ v h]

/-- A field of other bits of the same register after a field is set. -/
theorem State.f_setF_ne (u : UnitId) (f g : Field) (v : Nat) (ho : g.off = f.off) (hg : g.lo + g.width ≤ 32)
    (h : g.lo + g.width ≤ f.lo ∨ f.lo + f.width ≤ g.lo) : (s.setF u f v).f u g = s.f u g := by
  simp [State.f, State.setF, ho, Field.get_put_ne f g _ v hg h]

/-- A register after a field of a register is set. -/
theorem State.reg_setF (u w : UnitId) (f : Field) (v o : Nat) :
    (s.setF u f v).reg w o = if key w o = key u f.off then f.put (s.reg u f.off) v else s.reg w o := by
  simp [State.setF, State.reg_setReg]

end Sys2Proof.Machine
end

