-- ==== Sys2Proof/Laws/Outcome.lean ====
section
/-! SUPPORT. Laws of outcomes: what `done`, an access, a condition and a parity outcome can do, each said once. -/

namespace Sys2Proof.Machine

variable {s t : State}

/-- A command of a running device completes with what its meaning leaves. -/
theorem Completes.of_done {i : Instr} {f : State → State} {P : State → Prop} (hr : s.running)
    (he : exec i s = done s f) (h : P { f { s with resp := .none } with pending := s.pending }) : Completes i s P :=
  ⟨_, he.trans (done_on s f hr), h⟩

/-- A condition either lets the effect happen or leaves the state but for the answer. -/
theorem State.when_cases (b : Bool) (t : State) : (b = true ∧ s.when b t = t) ∨ (b = false ∧ s.when b t = s.ignore) := by
  cases b
  · exact .inr ⟨rfl, rfl⟩
  · exact .inl ⟨rfl, rfl⟩

/-- A register access passes its checks and has its effect, or is refused with a bus error and nothing else changed (R29). -/
theorem State.gate_cases (u : UnitId) (own : Option BusCause) (t : State) :
    (s.inReset u = false ∧ own = none ∧ s.gate u own t = t) ∨ ∃ c, s.gate u own t = s.answer (.busError c) := by
  unfold State.gate
  cases h : s.inReset u
  · cases own with
    | none => exact .inl ⟨rfl, rfl, rfl⟩
    | some c => exact .inr ⟨c, rfl⟩
  · exact .inr ⟨_, rfl⟩

/-- An access by a register row, as its engine sees it: carried out, or a bus error (R29, R384). -/
theorem State.access_cases (e : Engine) (k : CoreKind) (u : UnitId) (off : Nat) (own : Option BusCause) (t : State) :
    (s.inReset u = false ∧ own = none ∧ s.access e k u off own t = t.toRequester e k (regAddr u off)) ∨
      ∃ c, s.access e k u off own t = (s.answer (.busError c)).toRequester e k (regAddr u off) := by
  unfold State.access
  obtain ⟨h, g, r⟩ | ⟨c, r⟩ := s.gate_cases u own t
  · exact .inl ⟨h, g, by rw [r]⟩
  · exact .inr ⟨c, by rw [r]⟩

/-- What ends without a bus error reaches every engine alike. -/
theorem State.toRequester_ok {e : Engine} {k : CoreKind} {a : Nat} (h : ∀ c, t.resp ≠ .busError c) : t.toRequester e k a = t := by
  cases e with
  | core c =>
    show t.orFault c k a = t
    unfold State.orFault
    split
    · exact absurd ‹_› (h _)
    · rfl
  | _ => rfl

/-- An access that no rule refuses, and that answers no bus error itself, is carried out. -/
theorem State.access_ok {e : Engine} {k : CoreKind} {u : UnitId} {off : Nat} (h : s.inReset u = false)
    (g : ∀ c, t.resp ≠ .busError c) : s.access e k u off none t = t := by
  simp [State.access, State.gate, h, State.toRequester_ok g]

/-- An access to a unit in RESET changes nothing but what a core records of it (R15, R384). -/
theorem State.access_reset {e : Engine} {k : CoreKind} {u : UnitId} {off : Nat} {own : Option BusCause} (h : s.inReset u = true) :
    s.access e k u off own t = (s.answer (.busError .unitInReset)).toRequester e k (regAddr u off) := by
  simp [State.access, State.gate, h]

/-- A lasting parity failure ends the transaction, counts one lasting fault and does nothing else (R27). -/
theorem State.parity_lasting (u : UnitId) (f : State → State) :
    s.parity u .lasting f = (s.lasting u).answer (.busError .fabricParity) := rfl

/-- Registers only: the relation holds of a state and itself, and along two steps. -/
theorem OnlyRegs.refl (s : State) : OnlyRegs s s := rfl

theorem OnlyRegs.trans {u : State} (h : OnlyRegs s t) (k : OnlyRegs t u) : OnlyRegs s u := by
  unfold OnlyRegs at *; rw [k, h]

theorem OnlyRegs.setReg (s : State) (u : UnitId) (o : Nat) (w : Word) : OnlyRegs s (s.setReg u o w) := rfl
theorem OnlyRegs.setF (s : State) (u : UnitId) (f : Field) (v : Nat) : OnlyRegs s (s.setF u f v) := rfl
theorem OnlyRegs.answer (s : State) (r : Resp) : OnlyRegs s (s.answer r) := rfl

/-- A register write changes its register and no other. -/
theorem RegsBut.setReg (s : State) (u : UnitId) {o : Nat} (ho : o < 0x1000) (w : Word) : RegsBut s (s.setReg u o w) [(u, o)] := by
  intro v j hj hv
  refine State.reg_setReg_ne s (fun h => ?_) w
  rw [key_inj hj ho] at h
  simp [h.1, h.2] at hv

theorem RegsBut.refl (s : State) (l : List (UnitId × Nat)) : RegsBut s s l := fun _ _ _ _ => rfl

theorem RegsBut.trans {u : State} {l : List (UnitId × Nat)} (h : RegsBut s t l) (k : RegsBut t u l) : RegsBut s u l :=
  fun v o ho hv => (k v o ho hv).trans (h v o ho hv)

theorem RegsBut.mono {l m : List (UnitId × Nat)} (h : RegsBut s t l) (hlm : ∀ x ∈ l, x ∈ m) : RegsBut s t m :=
  fun v o ho hv => h v o ho (fun hx => hv (hlm _ hx))

theorem RegsBut.of_regs {l : List (UnitId × Nat)} (h : t.regs = s.regs) : RegsBut s t l := by
  intro v o _ _; simp [State.reg, h]

end Sys2Proof.Machine
end

