-- ==== Sys2Proof/Laws/Lane.lean ====
section
/-! SUPPORT. Laws of lanes: what an epoch, a settled sector, a report, the timing unit's halt and a write stop can reach. -/

namespace Sys2Proof.Machine

/-- `t` differs from `s` in registers, lanes, channels, timing units, assist controllers and the command engine only. -/
def LaneOnly (s t : State) : Prop :=
  t = { s with regs := t.regs, lanes := t.lanes, chns := t.chns, timing := t.timing, asts := t.asts, cmd := t.cmd }

theorem LaneOnly.refl (s : State) : LaneOnly s s := rfl

theorem LaneOnly.trans {s t u : State} (h : LaneOnly s t) (k : LaneOnly t u) : LaneOnly s u := by
  unfold LaneOnly at *; rw [k, h]

theorem LaneOnly.foldl {α : Type} (f : State → α → State) (h : ∀ s a, LaneOnly s (f s a)) (l : List α) :
    ∀ s, LaneOnly s (l.foldl f s) := by
  induction l with
  | nil => exact fun s => .refl s
  | cons a t ih => exact fun s => (h s a).trans (ih _)

theorem LaneOnly.mem {s t : State} (h : LaneOnly s t) : t.mem = s.mem := by rw [h]
theorem LaneOnly.hosts {s t : State} (h : LaneOnly s t) : t.hosts = s.hosts := by rw [h]
theorem LaneOnly.heads {s t : State} (h : LaneOnly s t) : t.heads = s.heads := by rw [h]
theorem LaneOnly.dev {s t : State} (h : LaneOnly s t) : t.dev = s.dev := by rw [h]

variable (s : State)

theorem LaneOnly.setReg (u : UnitId) (o : Nat) (w : Word) : LaneOnly s (s.setReg u o w) := rfl
theorem LaneOnly.setF (u : UnitId) (f : Field) (v : Nat) : LaneOnly s (s.setF u f v) := LaneOnly.setReg s u _ _
theorem LaneOnly.setCh (n : Fin 4) (c : Channel) : LaneOnly s (s.setCh n c) := rfl
theorem LaneOnly.setLane (n : Fin 4) (l : Lane) : LaneOnly s (s.setLane n l) := rfl
theorem LaneOnly.err (u : UnitId) (i : Nat) : LaneOnly s (s.err u i) := LaneOnly.setReg s u _ _
theorem LaneOnly.countSat (u : UnitId) (o : Nat) : LaneOnly s (s.countSat u o) := by
  unfold State.countSat; split <;> rfl
theorem LaneOnly.count64 (u : UnitId) (o : Nat) : LaneOnly s (s.count64 u o) :=
  (LaneOnly.setReg s u o _).trans (LaneOnly.setReg _ u _ _)

/-- The result of a deep-decode command (R113). -/
theorem State.ddResult_only (n : Fin 4) (a b c : Nat) : LaneOnly s (s.ddResult n a b c) := rfl

/-- The next deep-decode command (R112). -/
theorem State.ddNext_only (n : Fin 4) : LaneOnly s (s.ddNext n) := by
  unfold State.ddNext
  dsimp only
  split
  · exact .refl s
  · split
    · exact (LaneOnly.setCh s n _).trans (State.ddResult_only _ _ _ _ _)
    · split
      · exact (LaneOnly.setCh s n _).trans (State.ddResult_only _ _ _ _ _)
      · exact LaneOnly.setCh s n _

/-- A release of pinned samples (R111, R112). -/
theorem State.releaseOn_only (n : Fin 4) (p : Pin → Bool) : LaneOnly s (s.releaseOn n p) := by
  unfold State.releaseOn
  dsimp only
  split
  · exact (LaneOnly.setCh s n _).trans (State.ddNext_only _ n)
  · exact LaneOnly.setCh s n _

/-- A sector classed (R123). -/
theorem State.classify_only (n : Fin 4) (r : SectRef) (b : Bool) : LaneOnly s (s.classify n r b) := by
  unfold State.classify State.transient State.lasting
  split
  · split
    · exact LaneOnly.countSat _ _ _
    · exact LaneOnly.countSat _ _ _
  · exact .refl s

/-- An epoch's advance (R80, R83, R87). -/
theorem State.advanceEpoch_only (i : Nat) : LaneOnly s (s.advanceEpoch i) := by
  unfold State.advanceEpoch
  dsimp only
  refine LaneOnly.trans ?_ (LaneOnly.foldl _ (fun t n => t.releaseOn_only n _) _ _)
  refine LaneOnly.trans ?_ (LaneOnly.foldl _ (fun t n => LaneOnly.foldl _ (fun u x => u.classify_only n _ _) _ t) _ _)
  rfl

theorem State.raceCheck_only (i : Nat) : LaneOnly s (s.raceCheck i) := by
  unfold State.raceCheck
  split
  · rfl
  · split
    · exact s.advanceEpoch_only i
    · rfl

theorem State.legEnded_only (n : Fin 4) (i e : Nat) : LaneOnly s (s.legEnded n i e) := by
  unfold State.legEnded
  split
  · rfl
  · exact LaneOnly.trans (t := s.setTracker _) rfl (State.raceCheck_only _ i)

theorem State.formReport_only (n : Fin 4) (d : Disp) (st : Nat) : LaneOnly s (s.formReport n d st) := by
  unfold State.formReport
  dsimp only
  split
  · exact (LaneOnly.setLane s n _).trans (State.legEnded_only _ n _ _)
  · rfl

theorem State.reportNow_only (n : Fin 4) (d : Disp) (st : Nat) (b : Bool) : LaneOnly s (s.reportNow n d st b) := by
  unfold State.reportNow
  dsimp only
  split
  · exact (LaneOnly.setLane s n _).trans (State.legEnded_only _ n _ _)
  · rfl

theorem State.reportSettled_only (n : Fin 4) : LaneOnly s (s.reportSettled n) := by
  unfold State.reportSettled
  exact (LaneOnly.setLane s n _).trans (LaneOnly.foldl _ (fun t d => t.formReport_only n d _) _ _)

/-- A sector settled (R120, R128). -/
theorem State.settle_only (n : Fin 4) (id idx : Nat) (ok : Bool) : LaneOnly s (s.settle n id idx ok) := by
  unfold State.settle
  exact (LaneOnly.setLane s n _).trans (State.reportSettled_only _ n)

/-- A sector's handling ended (R120, R123). -/
theorem State.finish_only (n : Fin 4) (r : SectRef) (ok : Bool) : LaneOnly s (s.finish n r ok) := by
  unfold State.finish
  exact (s.classify_only n r ok).trans (State.settle_only _ n _ _ _)

theorem State.updAgate_only (n : Fin 4) : LaneOnly s (s.updAgate n) := by
  unfold State.updAgate
  dsimp only
  repeat' (first | rfl | split)

/-- A halt of the timing unit (R156). -/
theorem State.haltTiming_only (n : Fin 4) (w : Bool) : LaneOnly s (s.haltTiming n w) := by
  unfold State.haltTiming
  dsimp only
  refine LaneOnly.trans ?_ (State.updAgate_only _ n)
  refine LaneOnly.trans ?_ (LaneOnly.foldl _ (fun t (r : SectRef) => State.finish_only t n r false) _ _)
  rfl

/-- A write stop (R128). -/
theorem State.writeStop_only (n : Fin 4) (c : Nat) : LaneOnly s (s.writeStop n c) := by
  unfold State.writeStop
  dsimp only
  refine LaneOnly.trans ?_ (State.haltTiming_only _ n true)
  refine LaneOnly.trans ?_ (LaneOnly.setCh _ n _)
  refine LaneOnly.trans ?_ (LaneOnly.err _ _ _)
  refine LaneOnly.trans ?_ (LaneOnly.count64 _ _ _)
  exact LaneOnly.trans (LaneOnly.setF s _ _ _) (LaneOnly.setF _ _ _ _)

end Sys2Proof.Machine
end

