-- ==== Sys2Proof/Laws/Memory.lean ====
section
/-! SUPPORT. Every operation that changes memory keeps its canonical form, and what each leaves. -/

namespace Sys2Proof.Machine

variable (s : State)

/-- An erase of the NOR keeps the form (R478). -/
theorem State.norErase_wf (h : Memory.wf s.mem = true) (off n : Nat) : Memory.wf (s.norErase off n).mem = true :=
  Sparse.wf_filter _ h

/-- Zeroing of a Controller Memory Buffer keeps the form (R365). -/
theorem State.zeroBytes_wf (h : Memory.wf s.mem = true) (a n : Nat) : Memory.wf (s.zeroBytes a n).mem = true :=
  Sparse.wf_filter _ h

/-- A program of the NOR keeps the form (R478). -/
theorem State.norProgram_wf (l : List Byte) : ∀ (s : State) (off : Nat), Memory.wf s.mem = true →
    Memory.wf (s.norProgram off l).mem = true := by
  induction l with
  | nil => exact fun _ _ h => h
  | cons b t ih => exact fun s off h => ih _ _ (s.setByte_wf h _ _)

/-- Bytes put back one by one keep the form. -/
theorem Memory.putBack_wf (base : Nat) (l : List (Byte × Nat)) : ∀ m : List Host.Cell, Memory.wf m = true →
    Memory.wf (l.foldl (fun m (b : Byte × Nat) => Sparse.set memReset m (base + b.2) b.1) m) = true := by
  induction l with
  | nil => exact fun _ h => h
  | cons b t ih => exact fun m h => ih _ (Sparse.wf_set h _ _)

/-- The discard of a dirty line keeps the form (R402). -/
theorem State.lineLost_wf (h : Memory.wf s.mem = true) (x : CLine) : Memory.wf (s.lineLost x).mem = true := by
  unfold State.lineLost
  split
  · exact h
  · exact Memory.putBack_wf _ _ _ h

/-- The discard of dirty lines keeps the form (R402, R405). -/
theorem State.linesLost_wf (l : List CLine) : ∀ s : State, Memory.wf s.mem = true → Memory.wf (l.foldl State.lineLost s).mem = true := by
  induction l with
  | nil => exact fun _ h => h
  | cons x t ih => exact fun s h => ih _ (s.lineLost_wf h x)

/-- The memory of the state after reset has the form. -/
theorem State.reset_mem_wf : Memory.wf State.reset.mem = true := rfl

/-- A table without some keys reads nothing at those, and as before at every other. -/
theorem Sparse.get_filter {α : Type} (d : Nat → α) (p : Nat → Bool) (l : List (Nat × α)) (k : Nat) :
    Sparse.get d (l.filter (fun e => p e.1)) k = if p k then Sparse.get d l k else d k := by
  unfold Sparse.get
  induction l with
  | nil => simp [Sparse.find?]
  | cons e t ih =>
    obtain ⟨j, v⟩ := e
    by_cases hj : j = k
    · subst hj
      cases hp : p j <;> simp_all [Sparse.find?]
    · cases hp : p j <;> simp_all [Sparse.find?]

/-- An erased byte of the NOR reads as a byte that nothing has written, and every other byte as before (R478). -/
theorem State.byte_norErase (off n a : Nat) :
    (s.norErase off n).byte a = if norBase + off ≤ a ∧ a < norBase + off + n then memReset a else s.byte a := by
  have h := Sparse.get_filter memReset (fun c => !decide (norBase + off ≤ c ∧ c < norBase + off + n)) s.mem a
  simp only [State.byte, State.norErase, h]
  split <;> split <;> simp_all

/-- A zeroed byte reads as a byte that nothing has written, and every other byte as before (R365). -/
theorem State.byte_zeroBytes (b n a : Nat) :
    (s.zeroBytes b n).byte a = if b ≤ a ∧ a < b + n then memReset a else s.byte a := by
  have h := Sparse.get_filter memReset (fun c => !decide (b ≤ c ∧ c < b + n)) s.mem a
  simp only [State.byte, State.zeroBytes, h]
  split <;> split <;> simp_all

end Sys2Proof.Machine
end

