-- ==== Sys2Proof/WellFormed.lean ====
section
/-! DEFINITION. Which commands are well formed: operands inside the widths that the manual gives their fields, and data of
the length that the command carries. -/

namespace Sys2Proof

/-- A number that a field of `w` bits can hold. -/
def u (w n : Nat) : Bool := decide (n < 2 ^ w)

/-- An access is of a power of two of bytes, one data-plane beat of 64 bytes at most (R26; DEDUCED, log entry 110). -/
def sizeOk (n : Nat) : Bool := [1, 2, 4, 8, 16, 32, 64].contains n

/-- A submission entry has sixteen dwords. -/
def sqeOk (e : Sqe) : Bool := e.length == 16

/-- A codeword lies on 40 pins (R262). -/
def readOk (r : LineRead) : Bool := u 40 r.a.pins && u 40 r.b.pins

/-- A line found in error. -/
def foundOk (f : LineFound) : Bool := readOk f.first && readOk f.again

/-- A move of one granule (R268): a slot number of 16 bits, a handle number of 23, a host address of 64. -/
def moveOk : DmaMove → Bool
  | .hostIn _ slot peer data => u 16 slot && u 64 peer && !data.isEmpty
  | .hostOut _ slot handle peer found => u 16 slot && u 23 handle && u 64 peer && found.all foundOk
  | .fetch _ found => found.all foundOk

/-- A band lies on one of 24 surfaces, in one of the recording zones that 8 bits number (R65, R290). -/
def bandOk (b : Band) : Bool := decide (b.surface < 24) && u 8 b.rzone && decide (0 < b.bt) && decide (0 < b.spt)

/-- A namespace has at least one band, 0, 8 or 16 metadata bytes, and a protection type of NVM Express (R289). -/
def specOk (x : NsSpec) : Bool := !x.bands.isEmpty && x.bands.all bandOk && x.free.all bandOk
    && [0, 8, 16].contains x.ms && decide (x.pi ≤ 3) && decide (1 ≤ x.ana && x.ana ≤ 32)

/-- The field of a wedge is looked for at 17 positions, without lock over the whole wedge interval, and its SAM has 16 bits (R170, R171,
R186). -/
def wedgeOk (r : WedgeRead) : Bool := decide (17 ≤ r.sam.length) && r.sam.all (fun e => decide (e ≤ 16))

/-- SM2 and the resync mark have 40 bits, looked for at 129 and 25 positions (R116, R117). -/
def syncOk (f : SyncFound) : Bool :=
  f.sm2.length == 129 && f.sm2.all (fun e => decide (e ≤ 40))
    && f.resync.all (fun l => l.length == 25 && l.all (fun e => decide (e ≤ 40)))

/-- The rotor angle is a fraction of a revolution in 16 bits, and the observer's share is at most the whole (R228). -/
def sampleOk (x : DtcSample) : Bool := u 16 x.rotor && decide (x.gain ≤ 65536)

/-- An ACK and a CRC of a Halyard frame have 8 bits, data 16 (R219). -/
def replyOk : HalReply → Bool
  | .silent => true
  | .ack c => u 8 c
  | .data v c => u 16 v && u 8 c

/-- Lines found in error while a Swallowtail read's data leaves. -/
def fastOk : FastEnd → Bool
  | .good => true
  | .guardMismatch => true
  | .refTag => true
  | .appTag => true
  | .lines l => l.all foundOk

/-- A transaction that had no response names a slot of 16 bits or an address of 40. -/
def timedOk : TimedOut → Bool
  | .unit _ => true
  | .core _ _ addr => u 40 addr
  | .command slot => u 16 slot

/-- A handle's number has 24 bits (R266). -/
def srcOk : DramSrc → Bool
  | .engine _ => true
  | .handle h => u 24 h
  | .dataPlane _ => true

/-- Media key slots are numbered 0 to 4095, namespaces by 32 bits (R428, R289). -/
def tcgOk : Tcg → Bool
  | .other => true
  | .lock slot _ _ => u 12 slot
  | .range slot nsid _ _ => u 12 slot && u 32 nsid
  | .genKey slot => u 12 slot
  | .inject _ _ => true
  | .eraseTag _ => true
  | .kpio nsid _ => u 32 nsid
  | .revert nsid => u 32 nsid

/-- Whether the operands of a command are ones that the device can be sent. -/
def Instr.wf : Instr → Bool
  | .registerWrite _ size addr _ _ => sizeOk size && u 40 addr
  | .fabricTimeout w => timedOk w
  | .lowWordRead _ _ off => u 12 off
  | .highWordRead _ _ off => u 12 off
  | .unitReset _ _ _ => true
  | .unitResetComplete _ => true
  | .unitEnableChange _ _ _ => true
  | .unitDrainEnd _ => true
  | .crystalLost => true
  | .crystalReturn => true
  | .holdover50ms => true
  | .holdover2s => true
  | .crystalRestart _ => true
  | .lnClkDivWrite _ _ _ => true
  | .clkDivTakeEffect _ => true
  | .lclkSettled _ => true
  | .pwronNFall => true
  | .coldStart _ => true
  | .warmReset _ => true
  | .warmStart _ => true
  | .nvmSubsystemReset _ => true
  | .perstAssert _ => true
  | .hotReset _ => true
  | .linkDown _ => true
  | .controllerReset _ => true
  | .functionLevelReset _ => true
  | .vfEnableClear _ num => u 16 num
  | .cmbZeroingDone _ => true
  | .pwrCapWrite _ _ => true
  | .setPowerManagement _ ps => u 5 ps
  | .apstTransition ps => u 5 ps
  | .dispatchFetch _ => true
  | .cancelReceive _ slot => u 16 slot
  | .cancelAck _ slot => u 16 slot
  | .reportWrite _ => true
  | .sectorResultDma _ _ => true
  | .headStateWrite _ _ => true
  | .defectDetect _ => true
  | .defectEnd _ => true
  | .timingLockLost _ => true
  | .sectorDecode _ _ x _ => syncOk x.found
  | .autoRecovery _ _ _ _ => true
  | .deepDecodeCmd _ _ _ => true
  | .deepDecodeDone _ _ _ _ => true
  | .sbufRelease _ _ _ => true
  | .pinTimeout _ _ => true
  | .syncEventPop _ _ => true
  | .paFaultInput _ _ => true
  | .seqNop _ => true
  | .seqMov _ => true
  | .seqAdd _ => true
  | .seqSub _ => true
  | .seqAnd _ => true
  | .seqOr _ => true
  | .seqXor _ => true
  | .seqShl _ => true
  | .seqShr _ => true
  | .seqCmp _ => true
  | .seqDec _ => true
  | .seqLd _ _ => true
  | .seqSt _ => true
  | .seqJump _ _ => true
  | .seqCall _ _ => true
  | .seqRet _ _ => true
  | .seqDispatch _ _ => true
  | .seqEnd _ _ => true
  | .sectRd _ _ => true
  | .sectWr _ _ => true
  | .headSelect _ => true
  | .seek _ => true
  | .seekHold _ _ => true
  | .astArm _ => true
  | .astDisarm _ => true
  | .eventPost _ _ => true
  | .timingEventFire p => (p.sm1.isEmpty || (p.sm1.length == 97 && p.sm1.all (fun e => decide (e ≤ 32))))
  | .dataWindowStart _ => true
  | .waitConditionMet _ => true
  | .waitTimeout _ => true
  | .waitCancel _ _ => true
  | .wordWatchdog _ => true
  | .patchWordCommit _ _ _ => true
  | .patchWordRead _ _ => true
  | .servoWedge _ r _ => wedgeOk r
  | .vcmCurrentLoop _ => true
  | .lockRegainTimeout _ => true
  | .seekTimeout _ => true
  | .coefWrite _ _ _ => true
  | .servoLoad _ _ => true
  | .loadLockTimeout _ => true
  | .servoUnload _ _ => true
  | .unloadParked _ => true
  | .unloadTimeout _ => true
  | .hwRetract _ _ => true
  | .retractParked _ => true
  | .retractTimeout _ => true
  | .shockNAccept _ => true
  | .shockNRelease => true
  | .assistModelPeriod _ _ => true
  | .assistCheck _ _ v crc => u 16 v && u 8 crc
  | .agIdleTimeout _ => true
  | .agOntimeTimeout _ => true
  | .halyardFrame _ r => replyOk r
  | .spindleStart _ => true
  | .spindleStop _ => true
  | .spindleCoast _ => true
  | .dirWrite _ _ => true
  | .dtcPeriod x => sampleOk x
  | .speedLoop _ => true
  | .measureEnd x => u 16 x.angle
  | .holdEnd => true
  | .alignDone peaks => peaks.length == 6
  | .spinupTimeout => true
  | .brakeTimeout => true
  | .lossOfSync => true
  | .losClearTimer => true
  | .chopFeedbackTimeout => true
  | .chopRiseTest _ => true
  | .revolution _ => true
  | .spindleFaultClear _ _ => true
  | .spFltAccept => true
  | .pfailAccept => true
  | .pageProgramFail _ _ => true
  | .saveComplete _ _ => true
  | .pfailHigh10ms => true
  | .pfailClr _ _ _ => true
  | .vaultAreaErase _ _ => true
  | .areaEraseDone _ => true
  | .dramRead src line first again => srcOk src && u 34 line && readOk first && readOk again
  | .dramLineWrite src line data => srcOk src && u 34 line && data.length == 64
  | .dramPartialWrite src line off data first again => srcOk src && u 34 line && !data.isEmpty && off + data.length ≤ 64 && readOk first && readOk again
  | .writeBack first again => readOk first && readOk again
  | .ddrTrained _ => true
  | .zeroFillDone => true
  | .patrolScrubRead _ first again => readOk first && readOk again
  | .rangeGo _ _ => true
  | .rangePassDone found => found.all foundOk
  | .bttWrite _ _ => true
  | .dmaGranule m _ _ => moveOk m
  | .fltResume _ _ => true
  | .fltAbort _ _ => true
  | .fltTmo _ => true
  | .fltPop _ => true
  | .bufEvPop _ => true
  | .retireGo _ _ => true
  | .retireDone found => found.all foundOk
  | .injectArm _ _ => true
  | .sqDoorbell _ sqid tail => u 16 sqid && u 16 tail
  | .sqFetchComplete _ sqid entries => u 16 sqid && entries.all sqeOk
  | .queueSramEntryWrite _ sqid idx e => u 16 sqid && u 16 idx && sqeOk e
  | .commandTake _ sqid slot _ => u 16 sqid && u 16 slot
  | .lockGrant slot => u 16 slot
  | .workEntryWrite => true
  | .completionRingEntry _ => true
  | .slotFree slot => u 16 slot
  | .extentInsert slot => u 16 slot
  | .hfreeWrite _ _ => true
  | .extDataCommit _ _ => true
  | .abortAttempt _ _ => true
  | .dmaPreempt _ _ => true
  | .dmaResume _ _ => true
  | .nvmRead slot r => u 16 slot && fastOk r
  | .nvmWrite slot => u 16 slot
  | .nvmFlush slot => u 16 slot
  | .nvmWriteUncorrectable slot => u 16 slot
  | .nvmCompare slot => u 16 slot
  | .nvmWriteZeroes slot => u 16 slot
  | .nvmDatasetManagement slot => u 16 slot
  | .zoneAppend slot => u 16 slot
  | .orderedBarrier slot => u 16 slot
  | .zoneReset slot => u 16 slot
  | .zoneFinish slot => u 16 slot
  | .zoneOpen slot => u 16 slot
  | .zoneClose slot => u 16 slot
  | .zoneOffline slot => u 16 slot
  | .zoneReceive slot => u 16 slot
  | .abortCommand _ slot => u 16 slot
  | .fwDownload _ offset _ => u 34 offset
  | .fwCommitWrite _ slot _ => u 16 slot
  | .fwCommitWriteNext _ slot _ => u 16 slot
  | .fwCommitNext _ slot _ => u 16 slot
  | .fwCommitHandover _ cid slot _ => u 16 cid && u 16 slot
  | .fwReplyWrite _ _ => true
  | .handoverReadyTimeout => true
  | .heartbeatSample => true
  | .probationEnd _ => true
  | .setQueueOrdering _ _ => true
  | .getQueueOrdering _ _ => true
  | .setTwinReadPolicy nsid _ => u 32 nsid
  | .getTwinReadPolicy nsid => u 32 nsid
  | .getThermalThrottleReport => true
  | .setThermalThrottleReport _ => true
  | .setVolatileWriteCache _ _ => true
  | .setNumberOfQueues _ nsq ncq => u 16 nsq && u 16 ncq
  | .setInterruptCoalescing _ _ => true
  | .createIoCompletionQueue _ cqid size _ _ => u 16 cqid && u 16 size
  | .identify _ cns nsid => u 8 cns && u 32 nsid
  | .errorInformationLog _ _ off n => u 32 off && u 34 n
  | .smartHealthLog _ _ off n => u 32 off && u 34 n
  | .firmwareSlotLog _ _ off n => u 32 off && u 34 n
  | .settingsResetLog _ _ off n => u 32 off && u 34 n
  | .bootHistoryLog _ _ off n => u 32 off && u 34 n
  | .thermalShutdownLog _ _ off n => u 32 off && u 34 n
  | .twinHeadHealthLog _ _ off n => u 32 off && u 34 n
  | .asyncEventRequest _ cid => u 16 cid
  | .securitySend _ _ _ _ nsid desc buf _ => u 32 nsid && u 32 desc && u 40 buf
  | .securityReceive _ _ _ _ nsid desc buf len => u 32 nsid && u 32 desc && u 40 buf && u 32 len
  | .formatNvm _ nsid ses ms pi => u 32 nsid && u 3 ses && u 16 ms && u 3 pi
  | .namespaceCreate _ spec => specOk spec
  | .namespaceDelete _ nsid => u 32 nsid
  | .hostReadFail _ _ _ _ => true
  | .poisonedWriteReceived _ => true
  | .cmbRead _ off n _ found => u 32 off && u 34 n && found.all foundOk
  | .cmbWrite _ off _ => u 32 off
  | .anaStateWrite _ _ _ => true
  | .setEndpointId _ => true
  | .smbusClockLowTimeout => true
  | .miDataStructure typ ctrl => u 8 typ && u 16 ctrl
  | .miSubsystemPoll _ => true
  | .miControllerPoll first => u 64 first
  | .miConfigSet id value => u 16 id && u 32 value
  | .miConfigGet id => u 16 id
  | .vpdRead off n => u 32 off && u 34 n
  | .vpdWrite off _ _ => u 32 off
  | .miReset => true
  | .basicManagement code _ => u 8 code
  | .tunnelledAdmin cntlid slot e => u 16 cntlid && u 16 slot && sqeOk e
  | .getVersion => true
  | .getCapabilities => true
  | .negotiateAlgorithms => true
  | .getDigests => true
  | .getCertificate => true
  | .spdmChallenge => true
  | .getMeasurements index => u 8 index
  | .keyExchange => true
  | .spdmFinish id => u 16 id
  | .spdmHeartbeat id => u 16 id
  | .keyUpdate id => u 16 id
  | .endSession id => u 16 id
  | .heartbeatExpiry id => u 16 id
  | .coreLoad _ _ addr n _ _ first again => u 40 addr && u 34 n && readOk first && readOk again
  | .coreStore _ _ addr _ _ _ first again => u 40 addr && readOk first && readOk again
  | .evictionWriteback _ line _ => u 34 line
  | .smallEngineBusError _ _ => true
  | .dcC _ addr => u 40 addr
  | .dcCi _ addr => u 40 addr
  | .dcI _ _ addr => u 40 addr
  | .icI _ addr => u 40 addr
  | .dcCsw _ level _ _ => (level == 1 || level == 2)
  | .dcCisw _ level _ _ => (level == 1 || level == 2)
  | .dcIsw _ _ level _ _ => (level == 1 || level == 2)
  | .icIall _ => true
  | .msync _ => true
  | .isync _ => true
  | .poolCmoClean _ _ => true
  | .poolCmoCleanInvalidate _ _ => true
  | .poolCmoInvalidate _ _ => true
  | .poolCmoDone _ => true
  | .l1dDisable _ _ => true
  | .l1dSweepDone _ => true
  | .l1iDisable _ _ => true
  | .l2Disable _ _ => true
  | .l2SweepDone _ => true
  | .coreHold _ _ => true
  | .coreHeld _ => true
  | .coreRelease _ _ => true
  | .tcmPortAccess _ _ _ _ => true
  | .mbxReserve _ _ => true
  | .mbxLoWrite _ _ _ => true
  | .mbxPush _ _ _ => true
  | .mbxPop _ _ => true
  | .mbxReservationTimeout _ _ => true
  | .irqDeliver _ => true
  | .irqClaim _ _ => true
  | .irqEoi _ _ _ => true
  | .irqRouteWrite _ _ => true
  | .irqSwi _ _ => true
  | .irqSwc _ _ => true
  | .hzlRequestPush _ _ _ => true
  | .hzlVerify => true
  | .hzlPatch => true
  | .hzlMeasure => true
  | .svnAdvance => true
  | .hzlSpdm _ => true
  | .rsvWait => true
  | .rsvDone => true
  | .rsvLoad => true
  | .secSend m => tcgOk m
  | .secRecv => true
  | .nsKey => true
  | .nsErase => true
  | .hzlSeal => true
  | .hzlUnseal => true
  | .enclaveMbxRetry _ => true
  | .rsvDoneTimeout => true
  | .selfTestDone _ => true
  | .entropyHealthFail => true
  | .drbgReseed => true
  | .cipherMessageStart _ _ _ _ => true
  | .cipherMessageEnd _ => true
  | .keyUnbind _ => true
  | .serving _ => true
  | .bootReplyWrite _ _ => true
  | .configLock _ => true
  | .watchdogKick _ _ => true
  | .startWatchdogExpiry => true
  | .kickTimeout => true
  | .channelSample _ _ _ _ _ => true
  | .roundEnd => true
  | .roundTimeout => true
  | .fastPathSample t => t.length == 16
  | .shutdownFinal _ => true
  | .thermalHoldEnd _ => true
  | .dieThrottleFrame _ => true
  | .mediaThrottleFrame _ => true
  | .thrStatRead _ => true
  | .recSlotArm _ _ => true
  | .gpioLevelChange _ _ _ => true
  | .inputStuckMask _ => true
  | .maskReleaseCheck _ _ => true
  | .eventRecordProgram pon _ _ _ _ _ => u 32 pon
  | .linkUp _ _ _ _ _ => true
  | .perstDeassert _ => true
  | .controllerEnable _ asqs acqs _ _ => u 16 asqs && u 16 acqs
  | .shutdownNotification _ => true
  | .vfEnableSet _ num => u 16 num
  | .createIoSubmissionQueue _ sqid cqid size _ _ _ => u 16 sqid && u 16 cqid && u 16 size
  | .deleteIoSubmissionQueue _ sqid => u 16 sqid
  | .namespaceResize _ nsid bands free => u 32 nsid && bands.all bandOk && free.all bandOk
  | .aggregationTimeExpiry _ vector => u 16 vector
  | .spFltNRelease => true
  | .loadRcoilMeasured _ _ => true
  | .headsOffRamp _ => true
  | .unplannedPowerLoss => true

end Sys2Proof
end

