-- ==== Sys2Proof/Tests/Slice0.lean ====
section
/-! SUPPORT. Tests: a smoke test of well-formedness, a few single steps with results of the spec's examples, and for every
statement with hypotheses states and operands that meet them (the theorems wit_…). -/

open Sys2Proof Sys2Proof.Machine

set_option Elab.async false

/-- The state after reset with a unit's STATE and its EN and those of the groups above it set. -/
def wUnit (u : UnitId) : State := ((u :: u.above).foldl (fun s v => s.setF v F.UNIT_CTL_EN 1) State.reset).setUnitState u stIdle
def wLost : State := State.reset.setReg .dev Reg.DEV_CLK_STAT 4
def wLost50 : State := { wLost with dev := { wLost.dev with lost50 := true } }
def wPend : State := (wUnit (.lane 1)).setLane 1 { State.reset.lane 1 with divPending := some 0x00100000 }

/-! ### Well-formedness: terms that every check lets through, and an ill-formed term for each check, which it refuses -/

def wSubEntry : Sqe := List.replicate 16 0
def wBand : Band := ⟨0, 0, 0, 1, 1, 1000⟩
def wNsSpec : NsSpec := ⟨false, 0, 0, false, 1, [wBand], [], []⟩
def wWedgeBlank : WedgeRead := ⟨List.replicate 17 16, 0, 0, 0, 0, .ok⟩
def wSync : SyncFound := ⟨List.replicate 129 40, [List.replicate 25 40]⟩

theorem test_wf_accepts_0 : ([.registerWrite .service 4 0 0 .ok,
    .fabricTimeout (.unit .svc),
    .lowWordRead .service .svc 0,
    .highWordRead .service .svc 0,
    .vfEnableClear 0 0,
    .setPowerManagement 0 0,
    .apstTransition 0,
    .cancelReceive 0 0,
    .cancelAck 0 0,
    .sectorDecode 0 0 ⟨wSync, []⟩ .good,
    .timingEventFire ⟨0, List.replicate 97 32⟩,
    .servoWedge 0 wWedgeBlank 0,
    .assistCheck 0 true 0 0,
    .halyardFrame 0 (.ack 0),
    .dtcPeriod ⟨0, 0, 0, 0, 0, 0, 0, 0, 65536⟩,
    .measureEnd ⟨0, 0⟩,
    .alignDone (List.replicate 6 0),
    .dramRead (.engine .service) 0 ⟨⟨0, .uncorr⟩, ⟨0, .uncorr⟩⟩ ⟨⟨0, .uncorr⟩, ⟨0, .uncorr⟩⟩,
    .dramLineWrite (.engine .service) 0 (List.replicate 64 0),
    .dramPartialWrite (.engine .service) 0 0 [0] ⟨⟨0, .uncorr⟩, ⟨0, .uncorr⟩⟩ ⟨⟨0, .uncorr⟩, ⟨0, .uncorr⟩⟩] : List Instr).all Instr.wf = true := by
  decide +kernel

theorem test_wf_accepts_1 : ([.writeBack ⟨⟨0, .uncorr⟩, ⟨0, .uncorr⟩⟩ ⟨⟨0, .uncorr⟩, ⟨0, .uncorr⟩⟩,
    .patrolScrubRead true ⟨⟨0, .uncorr⟩, ⟨0, .uncorr⟩⟩ ⟨⟨0, .uncorr⟩, ⟨0, .uncorr⟩⟩,
    .rangePassDone [],
    .dmaGranule (.fetch 0 []) 0 ⟨.ok, true⟩,
    .retireDone [],
    .sqDoorbell 0 0 0,
    .sqFetchComplete 0 0 [],
    .queueSramEntryWrite 0 0 0 wSubEntry,
    .commandTake 0 0 0 .none,
    .lockGrant 0,
    .slotFree 0,
    .extentInsert 0,
    .nvmRead 0 .good,
    .nvmWrite 0,
    .nvmFlush 0,
    .nvmWriteUncorrectable 0,
    .nvmCompare 0,
    .nvmWriteZeroes 0,
    .nvmDatasetManagement 0,
    .zoneAppend 0] : List Instr).all Instr.wf = true := by
  decide +kernel

theorem test_wf_accepts_2 : ([.orderedBarrier 0,
    .zoneReset 0,
    .zoneFinish 0,
    .zoneOpen 0,
    .zoneClose 0,
    .zoneOffline 0,
    .zoneReceive 0,
    .abortCommand .service 0,
    .fwDownload 0 0 [0],
    .fwCommitWrite 0 0 .ok,
    .fwCommitWriteNext 0 0 .ok,
    .fwCommitNext 0 0 .ok,
    .fwCommitHandover 0 0 0 .ok,
    .setTwinReadPolicy 0 ⟨0, true⟩,
    .getTwinReadPolicy 0,
    .setNumberOfQueues 0 0 0,
    .createIoCompletionQueue 0 0 0 true none,
    .identify 0 0 0,
    .errorInformationLog 0 true 0 0,
    .smartHealthLog 0 true 0 0] : List Instr).all Instr.wf = true := by
  decide +kernel

theorem test_wf_accepts_3 : ([.firmwareSlotLog 0 true 0 0,
    .settingsResetLog 0 true 0 0,
    .bootHistoryLog 0 true 0 0,
    .thermalShutdownLog 0 true 0 0,
    .twinHeadHealthLog 0 true 0 0,
    .asyncEventRequest 0 0,
    .securitySend 0 0 0 0 0 0 0 [0],
    .securityReceive 0 0 0 0 0 0 0 0,
    .formatNvm 0 0 0 0 0,
    .namespaceCreate 0 wNsSpec,
    .namespaceDelete 0 0,
    .cmbRead 0 0 0 .ok [],
    .cmbWrite 0 0 [0],
    .miDataStructure 0 0,
    .miControllerPoll 0,
    .miConfigSet 0 0,
    .miConfigGet 0,
    .vpdRead 0 0,
    .vpdWrite 0 [0] .ok,
    .basicManagement 0 true] : List Instr).all Instr.wf = true := by
  decide +kernel

theorem test_wf_accepts_4 : ([.tunnelledAdmin 0 0 wSubEntry,
    .getMeasurements 0,
    .spdmFinish 0,
    .spdmHeartbeat 0,
    .keyUpdate 0,
    .endSession 0,
    .heartbeatExpiry 0,
    .coreLoad 0 .load 0 0 ⟨0, 0, 0⟩ ⟨.ok, true⟩ ⟨⟨0, .uncorr⟩, ⟨0, .uncorr⟩⟩ ⟨⟨0, .uncorr⟩, ⟨0, .uncorr⟩⟩,
    .coreStore 0 .load 0 [0] ⟨0, 0, 0⟩ .ok ⟨⟨0, .uncorr⟩, ⟨0, .uncorr⟩⟩ ⟨⟨0, .uncorr⟩, ⟨0, .uncorr⟩⟩,
    .evictionWriteback 0 0 0,
    .dcC 0 0,
    .dcCi 0 0,
    .dcI 0 true 0,
    .icI 0 0,
    .dcCsw 0 1 0 0,
    .dcCisw 0 1 0 0,
    .dcIsw 0 true 1 0 0,
    .secSend .other,
    .fastPathSample (List.replicate 16 0),
    .eventRecordProgram 0 0 0 0 [0] .ok] : List Instr).all Instr.wf = true := by
  decide +kernel

theorem test_wf_accepts_5 : ([.controllerEnable 0 0 0 none true,
    .vfEnableSet 0 0,
    .createIoSubmissionQueue 0 0 0 0 true 0 none,
    .deleteIoSubmissionQueue 0 0,
    .namespaceResize 0 0 [wBand] [wBand],
    .aggregationTimeExpiry 0 0] : List Instr).all Instr.wf = true := by
  decide +kernel

theorem test_wf_refuses_0 : ([.registerWrite .service 4 (2 ^ 40) 0 .ok,
    .registerWrite .service 3 0 0 .ok,
    .fabricTimeout (.core 0 .load (2 ^ 40)),
    .fabricTimeout (.command 65536),
    .lowWordRead .service .svc (2 ^ 12),
    .highWordRead .service .svc (2 ^ 12),
    .vfEnableClear 0 (2 ^ 16),
    .setPowerManagement 0 (2 ^ 5),
    .apstTransition (2 ^ 5),
    .cancelReceive 0 (2 ^ 16),
    .cancelAck 0 (2 ^ 16),
    .sectorDecode 0 0 ⟨{ wSync with sm2 := [] }, []⟩ .good,
    .sectorDecode 0 0 ⟨{ wSync with sm2 := List.replicate 129 41 }, []⟩ .good,
    .sectorDecode 0 0 ⟨{ wSync with resync := [[]] }, []⟩ .good,
    .sectorDecode 0 0 ⟨{ wSync with resync := [List.replicate 25 41] }, []⟩ .good,
    .timingEventFire ⟨0, [0]⟩,
    .timingEventFire ⟨0, List.replicate 97 33⟩,
    .servoWedge 0 { wWedgeBlank with sam := List.replicate 16 16 } 0,
    .servoWedge 0 { wWedgeBlank with sam := List.replicate 17 17 } 0,
    .assistCheck 0 true 0 256] : List Instr).all (fun i => !i.wf) = true := by
  decide +kernel

theorem test_wf_refuses_1 : ([.assistCheck 0 true 65536 0,
    .assistCheck 0 true 0 256,
    .halyardFrame 0 (.ack 256),
    .halyardFrame 0 (.data 65536 0),
    .halyardFrame 0 (.data 0 256),
    .dtcPeriod ⟨0, 0, 0, 0, 0, 0, 0, 65536, 0⟩,
    .dtcPeriod ⟨0, 0, 0, 0, 0, 0, 0, 0, 65537⟩,
    .measureEnd ⟨0, (2 ^ 16)⟩,
    .alignDone [],
    .dramRead (.engine .service) (2 ^ 34) ⟨⟨0, .uncorr⟩, ⟨0, .uncorr⟩⟩ ⟨⟨0, .uncorr⟩, ⟨0, .uncorr⟩⟩,
    .dramRead (.handle (2 ^ 24)) 0 ⟨⟨0, .uncorr⟩, ⟨0, .uncorr⟩⟩ ⟨⟨0, .uncorr⟩, ⟨0, .uncorr⟩⟩,
    .dramRead (.engine .service) 0 ⟨⟨2 ^ 40, .uncorr⟩, ⟨0, .uncorr⟩⟩ ⟨⟨0, .uncorr⟩, ⟨0, .uncorr⟩⟩,
    .dramRead (.engine .service) 0 ⟨⟨0, .uncorr⟩, ⟨2 ^ 40, .uncorr⟩⟩ ⟨⟨0, .uncorr⟩, ⟨0, .uncorr⟩⟩,
    .dramRead (.engine .service) 0 ⟨⟨0, .uncorr⟩, ⟨0, .uncorr⟩⟩ ⟨⟨2 ^ 40, .uncorr⟩, ⟨0, .uncorr⟩⟩,
    .dramRead (.engine .service) 0 ⟨⟨0, .uncorr⟩, ⟨0, .uncorr⟩⟩ ⟨⟨0, .uncorr⟩, ⟨2 ^ 40, .uncorr⟩⟩,
    .dramLineWrite (.engine .service) (2 ^ 34) (List.replicate 64 0),
    .dramLineWrite (.handle (2 ^ 24)) 0 (List.replicate 64 0),
    .dramLineWrite (.engine .service) 0 [0],
    .dramPartialWrite (.engine .service) (2 ^ 34) 0 [0] ⟨⟨0, .uncorr⟩, ⟨0, .uncorr⟩⟩ ⟨⟨0, .uncorr⟩, ⟨0, .uncorr⟩⟩,
    .dramPartialWrite (.handle (2 ^ 24)) 0 0 [0] ⟨⟨0, .uncorr⟩, ⟨0, .uncorr⟩⟩ ⟨⟨0, .uncorr⟩, ⟨0, .uncorr⟩⟩] : List Instr).all (fun i => !i.wf) = true := by
  decide +kernel

theorem test_wf_refuses_2 : ([.dramPartialWrite (.engine .service) 0 0 [0] ⟨⟨2 ^ 40, .uncorr⟩, ⟨0, .uncorr⟩⟩ ⟨⟨0, .uncorr⟩, ⟨0, .uncorr⟩⟩,
    .dramPartialWrite (.engine .service) 0 0 [0] ⟨⟨0, .uncorr⟩, ⟨2 ^ 40, .uncorr⟩⟩ ⟨⟨0, .uncorr⟩, ⟨0, .uncorr⟩⟩,
    .dramPartialWrite (.engine .service) 0 0 [0] ⟨⟨0, .uncorr⟩, ⟨0, .uncorr⟩⟩ ⟨⟨2 ^ 40, .uncorr⟩, ⟨0, .uncorr⟩⟩,
    .dramPartialWrite (.engine .service) 0 0 [0] ⟨⟨0, .uncorr⟩, ⟨0, .uncorr⟩⟩ ⟨⟨0, .uncorr⟩, ⟨2 ^ 40, .uncorr⟩⟩,
    .dramPartialWrite (.engine .service) 0 0 [] ⟨⟨0, .uncorr⟩, ⟨0, .uncorr⟩⟩ ⟨⟨0, .uncorr⟩, ⟨0, .uncorr⟩⟩,
    .dramPartialWrite (.engine .service) 0 64 [0] ⟨⟨0, .uncorr⟩, ⟨0, .uncorr⟩⟩ ⟨⟨0, .uncorr⟩, ⟨0, .uncorr⟩⟩,
    .writeBack ⟨⟨2 ^ 40, .uncorr⟩, ⟨0, .uncorr⟩⟩ ⟨⟨0, .uncorr⟩, ⟨0, .uncorr⟩⟩,
    .writeBack ⟨⟨0, .uncorr⟩, ⟨2 ^ 40, .uncorr⟩⟩ ⟨⟨0, .uncorr⟩, ⟨0, .uncorr⟩⟩,
    .writeBack ⟨⟨0, .uncorr⟩, ⟨0, .uncorr⟩⟩ ⟨⟨2 ^ 40, .uncorr⟩, ⟨0, .uncorr⟩⟩,
    .writeBack ⟨⟨0, .uncorr⟩, ⟨0, .uncorr⟩⟩ ⟨⟨0, .uncorr⟩, ⟨2 ^ 40, .uncorr⟩⟩,
    .patrolScrubRead true ⟨⟨2 ^ 40, .uncorr⟩, ⟨0, .uncorr⟩⟩ ⟨⟨0, .uncorr⟩, ⟨0, .uncorr⟩⟩,
    .patrolScrubRead true ⟨⟨0, .uncorr⟩, ⟨2 ^ 40, .uncorr⟩⟩ ⟨⟨0, .uncorr⟩, ⟨0, .uncorr⟩⟩,
    .patrolScrubRead true ⟨⟨0, .uncorr⟩, ⟨0, .uncorr⟩⟩ ⟨⟨2 ^ 40, .uncorr⟩, ⟨0, .uncorr⟩⟩,
    .patrolScrubRead true ⟨⟨0, .uncorr⟩, ⟨0, .uncorr⟩⟩ ⟨⟨0, .uncorr⟩, ⟨2 ^ 40, .uncorr⟩⟩,
    .rangePassDone [⟨0, ⟨⟨2 ^ 40, .uncorr⟩, ⟨0, .uncorr⟩⟩, ⟨⟨0, .uncorr⟩, ⟨0, .uncorr⟩⟩⟩],
    .rangePassDone [⟨0, ⟨⟨0, .uncorr⟩, ⟨0, .uncorr⟩⟩, ⟨⟨2 ^ 40, .uncorr⟩, ⟨0, .uncorr⟩⟩⟩],
    .dmaGranule (.hostIn 0 65536 0 [0]) 0 ⟨.ok, true⟩,
    .dmaGranule (.hostIn 0 0 (2 ^ 64) [0]) 0 ⟨.ok, true⟩,
    .dmaGranule (.hostIn 0 0 0 []) 0 ⟨.ok, true⟩,
    .dmaGranule (.hostOut 0 65536 0 0 []) 0 ⟨.ok, true⟩] : List Instr).all (fun i => !i.wf) = true := by
  decide +kernel

theorem test_wf_refuses_3 : ([.dmaGranule (.hostOut 0 0 (2 ^ 23) 0 []) 0 ⟨.ok, true⟩,
    .dmaGranule (.hostOut 0 0 0 (2 ^ 64) []) 0 ⟨.ok, true⟩,
    .dmaGranule (.hostOut 0 0 0 0 [⟨0, ⟨⟨2 ^ 40, .uncorr⟩, ⟨0, .uncorr⟩⟩, ⟨⟨0, .uncorr⟩, ⟨0, .uncorr⟩⟩⟩]) 0 ⟨.ok, true⟩,
    .dmaGranule (.fetch 0 [⟨0, ⟨⟨2 ^ 40, .uncorr⟩, ⟨0, .uncorr⟩⟩, ⟨⟨0, .uncorr⟩, ⟨0, .uncorr⟩⟩⟩]) 0 ⟨.ok, true⟩,
    .retireDone [⟨0, ⟨⟨2 ^ 40, .uncorr⟩, ⟨0, .uncorr⟩⟩, ⟨⟨0, .uncorr⟩, ⟨0, .uncorr⟩⟩⟩],
    .retireDone [⟨0, ⟨⟨0, .uncorr⟩, ⟨0, .uncorr⟩⟩, ⟨⟨2 ^ 40, .uncorr⟩, ⟨0, .uncorr⟩⟩⟩],
    .sqDoorbell 0 (2 ^ 16) 0,
    .sqDoorbell 0 0 (2 ^ 16),
    .sqFetchComplete 0 (2 ^ 16) [],
    .sqFetchComplete 0 0 [[0]],
    .queueSramEntryWrite 0 (2 ^ 16) 0 wSubEntry,
    .queueSramEntryWrite 0 0 (2 ^ 16) wSubEntry,
    .queueSramEntryWrite 0 0 0 [0],
    .commandTake 0 (2 ^ 16) 0 .none,
    .commandTake 0 0 (2 ^ 16) .none,
    .lockGrant (2 ^ 16),
    .slotFree (2 ^ 16),
    .extentInsert (2 ^ 16),
    .nvmRead (2 ^ 16) .good,
    .nvmRead 0 (.lines [⟨0, ⟨⟨2 ^ 40, .uncorr⟩, ⟨0, .uncorr⟩⟩, ⟨⟨0, .uncorr⟩, ⟨0, .uncorr⟩⟩⟩])] : List Instr).all (fun i => !i.wf) = true := by
  decide +kernel

theorem test_wf_refuses_4 : ([.nvmWrite (2 ^ 16),
    .nvmFlush (2 ^ 16),
    .nvmWriteUncorrectable (2 ^ 16),
    .nvmCompare (2 ^ 16),
    .nvmWriteZeroes (2 ^ 16),
    .nvmDatasetManagement (2 ^ 16),
    .zoneAppend (2 ^ 16),
    .orderedBarrier (2 ^ 16),
    .zoneReset (2 ^ 16),
    .zoneFinish (2 ^ 16),
    .zoneOpen (2 ^ 16),
    .zoneClose (2 ^ 16),
    .zoneOffline (2 ^ 16),
    .zoneReceive (2 ^ 16),
    .abortCommand .service (2 ^ 16),
    .fwDownload 0 (2 ^ 34) [0],
    .fwCommitWrite 0 (2 ^ 16) .ok,
    .fwCommitWriteNext 0 (2 ^ 16) .ok,
    .fwCommitNext 0 (2 ^ 16) .ok,
    .fwCommitHandover 0 (2 ^ 16) 0 .ok] : List Instr).all (fun i => !i.wf) = true := by
  decide +kernel

theorem test_wf_refuses_5 : ([.fwCommitHandover 0 0 (2 ^ 16) .ok,
    .setTwinReadPolicy (2 ^ 32) ⟨0, true⟩,
    .getTwinReadPolicy (2 ^ 32),
    .setNumberOfQueues 0 (2 ^ 16) 0,
    .setNumberOfQueues 0 0 (2 ^ 16),
    .createIoCompletionQueue 0 (2 ^ 16) 0 true none,
    .createIoCompletionQueue 0 0 (2 ^ 16) true none,
    .identify 0 (2 ^ 8) 0,
    .identify 0 0 (2 ^ 32),
    .errorInformationLog 0 true (2 ^ 32) 0,
    .errorInformationLog 0 true 0 (2 ^ 34),
    .smartHealthLog 0 true (2 ^ 32) 0,
    .smartHealthLog 0 true 0 (2 ^ 34),
    .firmwareSlotLog 0 true (2 ^ 32) 0,
    .firmwareSlotLog 0 true 0 (2 ^ 34),
    .settingsResetLog 0 true (2 ^ 32) 0,
    .settingsResetLog 0 true 0 (2 ^ 34),
    .bootHistoryLog 0 true (2 ^ 32) 0,
    .bootHistoryLog 0 true 0 (2 ^ 34),
    .thermalShutdownLog 0 true (2 ^ 32) 0] : List Instr).all (fun i => !i.wf) = true := by
  decide +kernel

theorem test_wf_refuses_6 : ([.thermalShutdownLog 0 true 0 (2 ^ 34),
    .twinHeadHealthLog 0 true (2 ^ 32) 0,
    .twinHeadHealthLog 0 true 0 (2 ^ 34),
    .asyncEventRequest 0 (2 ^ 16),
    .securitySend 0 0 0 0 (2 ^ 32) 0 0 [0],
    .securitySend 0 0 0 0 0 (2 ^ 32) 0 [0],
    .securitySend 0 0 0 0 0 0 (2 ^ 40) [0],
    .securityReceive 0 0 0 0 (2 ^ 32) 0 0 0,
    .securityReceive 0 0 0 0 0 (2 ^ 32) 0 0,
    .securityReceive 0 0 0 0 0 0 (2 ^ 40) 0,
    .securityReceive 0 0 0 0 0 0 0 (2 ^ 32),
    .formatNvm 0 (2 ^ 32) 0 0 0,
    .formatNvm 0 0 (2 ^ 3) 0 0,
    .formatNvm 0 0 0 (2 ^ 16) 0,
    .formatNvm 0 0 0 0 (2 ^ 3),
    .namespaceCreate 0 { wNsSpec with bands := [] },
    .namespaceCreate 0 { wNsSpec with bands := [{ wBand with spt := 0 }] },
    .namespaceCreate 0 { wNsSpec with free := [{ wBand with bt := 0 }] },
    .namespaceCreate 0 { wNsSpec with ms := 4 },
    .namespaceCreate 0 { wNsSpec with pi := 4 }] : List Instr).all (fun i => !i.wf) = true := by
  decide +kernel

theorem test_wf_refuses_7 : ([.namespaceCreate 0 { wNsSpec with ana := 0 },
    .namespaceCreate 0 { wNsSpec with ana := 33 },
    .namespaceDelete 0 (2 ^ 32),
    .cmbRead 0 (2 ^ 32) 0 .ok [],
    .cmbRead 0 0 (2 ^ 34) .ok [],
    .cmbRead 0 0 0 .ok [⟨0, ⟨⟨2 ^ 40, .uncorr⟩, ⟨0, .uncorr⟩⟩, ⟨⟨0, .uncorr⟩, ⟨0, .uncorr⟩⟩⟩],
    .cmbRead 0 0 0 .ok [⟨0, ⟨⟨0, .uncorr⟩, ⟨0, .uncorr⟩⟩, ⟨⟨2 ^ 40, .uncorr⟩, ⟨0, .uncorr⟩⟩⟩],
    .cmbWrite 0 (2 ^ 32) [0],
    .miDataStructure (2 ^ 8) 0,
    .miDataStructure 0 (2 ^ 16),
    .miControllerPoll (2 ^ 64),
    .miConfigSet (2 ^ 16) 0,
    .miConfigSet 0 (2 ^ 32),
    .miConfigGet (2 ^ 16),
    .vpdRead (2 ^ 32) 0,
    .vpdRead 0 (2 ^ 34),
    .vpdWrite (2 ^ 32) [0] .ok,
    .basicManagement (2 ^ 8) true,
    .tunnelledAdmin (2 ^ 16) 0 wSubEntry,
    .tunnelledAdmin 0 (2 ^ 16) wSubEntry] : List Instr).all (fun i => !i.wf) = true := by
  decide +kernel

theorem test_wf_refuses_8 : ([.tunnelledAdmin 0 0 [0],
    .getMeasurements (2 ^ 8),
    .spdmFinish (2 ^ 16),
    .spdmHeartbeat (2 ^ 16),
    .keyUpdate (2 ^ 16),
    .endSession (2 ^ 16),
    .heartbeatExpiry (2 ^ 16),
    .coreLoad 0 .load (2 ^ 40) 0 ⟨0, 0, 0⟩ ⟨.ok, true⟩ ⟨⟨0, .uncorr⟩, ⟨0, .uncorr⟩⟩ ⟨⟨0, .uncorr⟩, ⟨0, .uncorr⟩⟩,
    .coreLoad 0 .load 0 (2 ^ 34) ⟨0, 0, 0⟩ ⟨.ok, true⟩ ⟨⟨0, .uncorr⟩, ⟨0, .uncorr⟩⟩ ⟨⟨0, .uncorr⟩, ⟨0, .uncorr⟩⟩,
    .coreLoad 0 .load 0 0 ⟨0, 0, 0⟩ ⟨.ok, true⟩ ⟨⟨2 ^ 40, .uncorr⟩, ⟨0, .uncorr⟩⟩ ⟨⟨0, .uncorr⟩, ⟨0, .uncorr⟩⟩,
    .coreLoad 0 .load 0 0 ⟨0, 0, 0⟩ ⟨.ok, true⟩ ⟨⟨0, .uncorr⟩, ⟨2 ^ 40, .uncorr⟩⟩ ⟨⟨0, .uncorr⟩, ⟨0, .uncorr⟩⟩,
    .coreLoad 0 .load 0 0 ⟨0, 0, 0⟩ ⟨.ok, true⟩ ⟨⟨0, .uncorr⟩, ⟨0, .uncorr⟩⟩ ⟨⟨2 ^ 40, .uncorr⟩, ⟨0, .uncorr⟩⟩,
    .coreLoad 0 .load 0 0 ⟨0, 0, 0⟩ ⟨.ok, true⟩ ⟨⟨0, .uncorr⟩, ⟨0, .uncorr⟩⟩ ⟨⟨0, .uncorr⟩, ⟨2 ^ 40, .uncorr⟩⟩,
    .coreStore 0 .load (2 ^ 40) [0] ⟨0, 0, 0⟩ .ok ⟨⟨0, .uncorr⟩, ⟨0, .uncorr⟩⟩ ⟨⟨0, .uncorr⟩, ⟨0, .uncorr⟩⟩,
    .coreStore 0 .load 0 [0] ⟨0, 0, 0⟩ .ok ⟨⟨2 ^ 40, .uncorr⟩, ⟨0, .uncorr⟩⟩ ⟨⟨0, .uncorr⟩, ⟨0, .uncorr⟩⟩,
    .coreStore 0 .load 0 [0] ⟨0, 0, 0⟩ .ok ⟨⟨0, .uncorr⟩, ⟨2 ^ 40, .uncorr⟩⟩ ⟨⟨0, .uncorr⟩, ⟨0, .uncorr⟩⟩,
    .coreStore 0 .load 0 [0] ⟨0, 0, 0⟩ .ok ⟨⟨0, .uncorr⟩, ⟨0, .uncorr⟩⟩ ⟨⟨2 ^ 40, .uncorr⟩, ⟨0, .uncorr⟩⟩,
    .coreStore 0 .load 0 [0] ⟨0, 0, 0⟩ .ok ⟨⟨0, .uncorr⟩, ⟨0, .uncorr⟩⟩ ⟨⟨0, .uncorr⟩, ⟨2 ^ 40, .uncorr⟩⟩,
    .evictionWriteback 0 (2 ^ 34) 0,
    .dcC 0 (2 ^ 40)] : List Instr).all (fun i => !i.wf) = true := by
  decide +kernel

theorem test_wf_refuses_9 : ([.dcCi 0 (2 ^ 40),
    .dcI 0 true (2 ^ 40),
    .icI 0 (2 ^ 40),
    .dcCsw 0 3 0 0,
    .dcCisw 0 3 0 0,
    .dcIsw 0 true 3 0 0,
    .secSend (.lock 4096 true true),
    .secSend (.range 4096 0 0 0),
    .secSend (.range 0 (2 ^ 32) 0 0),
    .secSend (.genKey 4096),
    .secSend (.kpio (2 ^ 32) true),
    .secSend (.revert (2 ^ 32)),
    .fastPathSample [0],
    .eventRecordProgram (2 ^ 32) 0 0 0 [0] .ok,
    .controllerEnable 0 (2 ^ 16) 0 none true,
    .controllerEnable 0 0 (2 ^ 16) none true,
    .vfEnableSet 0 (2 ^ 16),
    .createIoSubmissionQueue 0 (2 ^ 16) 0 0 true 0 none,
    .createIoSubmissionQueue 0 0 (2 ^ 16) 0 true 0 none,
    .createIoSubmissionQueue 0 0 0 (2 ^ 16) true 0 none] : List Instr).all (fun i => !i.wf) = true := by
  decide +kernel

theorem test_wf_refuses_10 : ([.deleteIoSubmissionQueue 0 (2 ^ 16),
    .namespaceResize 0 (2 ^ 32) [wBand] [wBand],
    .namespaceResize 0 0 [{ wBand with surface := 24 }] [wBand],
    .namespaceResize 0 0 [{ wBand with rzone := 256 }] [wBand],
    .namespaceResize 0 0 [{ wBand with bt := 0 }] [wBand],
    .namespaceResize 0 0 [{ wBand with spt := 0 }] [wBand],
    .namespaceResize 0 0 [wBand] [{ wBand with surface := 24 }],
    .namespaceResize 0 0 [wBand] [{ wBand with rzone := 256 }],
    .namespaceResize 0 0 [wBand] [{ wBand with bt := 0 }],
    .namespaceResize 0 0 [wBand] [{ wBand with spt := 0 }],
    .aggregationTimeExpiry 0 (2 ^ 16)] : List Instr).all (fun i => !i.wf) = true := by
  decide +kernel


/-! ### Single steps and tables, with the results that the spec's examples give -/

/-- The next state, where there is one. -/
def wAfter (o : Host.Outcome State Fault Refusal) : Option State :=
  match o with
  | .next t => some t
  | .fault _ => none
  | .refused _ => none

/-- UNIT_ID of channel 2 (R10 and the example beside R6). -/
theorem test_unit_id : State.reset.view .service (.chn 2) Reg.UNIT_ID = 0x01040402 := by decide +kernel

/-- Heads 17 and 41 serve surface 17 with head index 5 on lanes 1 and 3 (the example beside R64). -/
theorem test_head_numbers : laneOfHead 17 = 1 ∧ headIndex 17 = 5 ∧ laneOfHead 41 = 3 ∧ headIndex 41 = 5 ∧ twinHead 17 = 41 := by decide

/-- The divider of the 5.2 Gb/s example, and the first values outside the range (R41). -/
theorem test_divider :
    ((wAfter (execLnClkDivWrite .service 1 0x000EC4EC (wUnit (.lane 1)))).map (fun t => (t.lane 1).divPending)) = some (some 0x000EC4EC)
    ∧ ((wAfter (execLnClkDivWrite .service 1 0x000CCCCC (wUnit (.lane 1)))).map (fun t => t.f (.lane 1) F.LN_CLK_STAT_RANGE_ERR)) = some 1
    ∧ ((wAfter (execLnClkDivWrite .service 1 0x00400001 (wUnit (.lane 1)))).map (fun t => t.f (.lane 1) F.LN_CLK_STAT_RANGE_ERR)) = some 1 := by
  decide +kernel

/-- AST_LEAD of the example: 150 × 768 ÷ 14.769 226 07, rounded up (R209). -/
theorem test_lead : leadBits 150 0x000EC4EC = 7801 := by decide

/-- The injection example: pins 3, 9 and 20 are three symbols of one codeword, which is uncorrectable (R263, R285). -/
theorem test_injection : cwDecode false 0x00100208 .miss = .uncorr ∧ cwDecode false 0x00000208 .miss = .corrected := by decide

/-- A word in memory has its lowest byte first (log entry 98), and a bit of the NOR that is 0 stays 0 (R478). -/
theorem test_byte_order : (State.reset.setBytes 0x30000000 [1, 2, 3, 4]).word 0x30000000 = 0x04030201
    ∧ ((State.reset.norProgram 0 [0xF0]).norProgram 0 [0x0F]).byte 0x40000000 = 0 := by decide +kernel

/-- An empty queue idles, and a command that waits is taken first in, first out. -/
theorem test_queue : ((wAfter (step State.reset)).map (fun t => t.pending)) = some []
    ∧ ((wAfter (step { State.reset with pending := [.crystalLost, .holdover2s] })).map (fun t => t.pending)) = some [.holdover2s] := by
  decide +kernel

/-- The example word at 0xC10: ALU ADD, DST G1, SA G6, IMM 40, an announcement of SECT_RD with CREG G2 in the next window, NEXT 0xC01
(R137). -/
theorem test_control_word :
    let w : BitVec 128 := 0x00000200_0028100F_06120000_00000C01
    CsWord.next w = 0xC01 ∧ CsWord.aluOp w = 2 ∧ CsWord.dst w = 1 ∧ CsWord.sa w = 6 ∧ CsWord.sbImm w = true ∧ CsWord.imm w = 40
      ∧ CsWord.evtEn w = true ∧ CsWord.evtWin w = 1 ∧ CsWord.evtSrc w = true ∧ CsWord.cmd w = 1 ∧ CsWord.creg w = 2 := by decide +kernel

/-- The band of the example beside R291: its tracks, its capacity, and two of its blocks past the slip at track 40, sector 800. -/
theorem test_place_block :
    Band.tracks ⟨9, 9, 140250, 121, 2, 1077⟩ = 125 ∧ Band.cap ⟨9, 9, 140250, 121, 2, 1077⟩ = 130304
      ∧ placeBlock 1077 [(40, 800)] 64400 = (60, 57) ∧ placeBlock 1077 [(40, 800)] 130303 = (121, 263) := by decide

/-- The tweak of NSID 3 and LBA 0x1_2345_6789 (the example beside R436). -/
theorem test_xts_tweak : xtsTweak 3 0x123456789 = [0x89, 0x67, 0x45, 0x23, 0x01, 0x03, 0, 0, 0, 0, 0, 0, 0, 0, 0, 0] := by decide +kernel

/-! ### Witnesses of the statements: file part 05 -/

/-- Sequencer 0 runs the word `w`, in its first cycle. -/
def wSeq (w : BitVec 128) : State :=
  (wUnit (.tsq 0)).setSq 0 { (State.reset.sq 0) with word := w, running := true, pc := 0xC10 }
/-- A control-store word from its fields: the low bit and the value of each. -/
def wWord (l : List (Nat × Nat)) : BitVec 128 := l.foldl (fun a e => a ||| BitVec.ofNat 128 (e.2 <<< e.1)) 0
/-- Sequencer 0 runs the word `w`, with its ALU operation executed. -/
def wSeqAlu (w : BitVec 128) : State := (wSeq w).setSq 0 { (wSeq w).sq 0 with aluDone := true }
/-- A dispatch: its descriptor's words from the fields given. -/
def wDisp (op mode slot head track first count : Nat) : Disp :=
  { raw := [BitVec.ofNat 32 (op + 256 * mode), BitVec.ofNat 32 (slot + 2 ^ 24 * head), BitVec.ofNat 32 track,
      BitVec.ofNat 32 (first + 65536 * count), 3, 0x00200000, 0, 0, 0, 0, 0, 0, 0, 0, 0, 0],
    id := 1, leg := false, announced := [], settled := [], good := [], ended := none, align := 0, headStop := false }
/-- A patch RAM word of zeros with good parity at 0xC20 and 0xC22. -/
def wPatch (s : State) : State := s.setSq 0 { s.sq 0 with patch := [(0x20, (0, 0xFFFF)), (0x22, (0, 0xFFFF))] }
/-- The dispatch `d` is in progress on lane 0. -/
def wCur (s : State) (d : Disp) : State := s.setLane 0 { s.lane 0 with cur := some d }

theorem wit_alu_each : ∀ op : Fin 13, (wSeq (wWord [(48, op.val), (64, 1), (80, 3)])).running
    ∧ (wSeq (wWord [(48, op.val), (64, 1), (80, 3)])).aluDue 0 op.val = true := by decide +kernel
theorem wit_alu_st : ((wSeq (wWord [(48, 0xC), (64, 1), (80, 64)])).tim 0).evq = 0
    ∧ ((wSeq (wWord [(48, 0xC), (64, 1), (80, 64)])).tim 0).act = [] := by decide +kernel
theorem wit_alu_reserved : let s := wSeq (wWord [(48, 0xD)])
    s.running ∧ s.seqRuns 0 = true ∧ (s.sq 0).aluDone = false ∧ 0xD ≤ CsWord.aluOp (s.sq 0).word := by decide +kernel
theorem wit_seqJump : let s := wPatch (wSeqAlu (wWord [(0, 0xC20)]))
    s.running ∧ s.seqDue 0 0 = true ∧ s.fetchGood 0 (s.branchAddr 0) := by decide +kernel
theorem wit_seqCall : let s := wPatch (wSeqAlu (wWord [(0, 0xC20), (12, 1)]))
    s.running ∧ s.seqDue 0 1 = true ∧ s.fetchGood 0 (s.branchAddr 0) ∧ (s.sq 0).stack.length < 4 := by decide +kernel
def wStack (s : State) (l : List Nat) : State := s.setSq 0 { s.sq 0 with stack := l }
theorem wit_seqCall_full : let s := wStack (wSeqAlu (wWord [(0, 0xC20), (12, 1)])) [1, 2, 3, 4]
    s.running ∧ s.seqDue 0 1 = true ∧ 4 ≤ (s.sq 0).stack.length := by decide +kernel
theorem wit_seqRet : let s := wPatch (wStack (wSeqAlu (wWord [(12, 2)])) [0xC20])
    s.running ∧ s.seqDue 0 2 = true ∧ (s.sq 0).stack = 0xC20 :: [] ∧ s.fetchGood 0 0xC20 := by decide +kernel
theorem wit_seqRet_empty : let s := wSeqAlu (wWord [(12, 2)])
    s.running ∧ s.seqDue 0 2 = true ∧ (s.sq 0).stack = [] := by decide +kernel
theorem wit_seqDispatch_cur : let s := wCur (wPatch (wSeqAlu (wWord [(0, 0xC20), (12, 3)]))) (wDisp 0x20 0 5 3 100 7 2)
    s.running ∧ s.seqDue 0 3 = true ∧ (s.lane 0).next = none ∧ (s.lane 0).cur = some (wDisp 0x20 0 5 3 100 7 2)
      ∧ s.fetchGood 0 (CsWord.next (s.sq 0).word ||| (wDisp 0x20 0 5 3 100 7 2).op % 16) := by decide +kernel
def wNext (s : State) (d : Disp) : State := s.setLane 0 { s.lane 0 with next := some d }
theorem wit_seqDispatch_next : ∀ op ∈ [0x20, 2], let s := wNext (wPatch (wSeqAlu (wWord [(0, 0xC20), (12, 3)]))) (wDisp op 0 5 3 100 7 2)
    s.running ∧ s.seqDue 0 3 = true ∧ (s.lane 0).next = some (wDisp op 0 5 3 100 7 2) ∧ s.dispWaits 0 = true
      ∧ (s.lane 0).paLow = false ∧ s.fetchGood 0 (CsWord.next (s.sq 0).word ||| (wDisp op 0 5 3 100 7 2).op % 16) := by decide +kernel
theorem wit_seqDispatch_preamp : let s0 := wNext (wSeqAlu (wWord [(0, 0xC20), (12, 3)])) (wDisp 2 0 5 3 100 7 2)
    let s := s0.setLane 0 { s0.lane 0 with paLow := true }
    s.running ∧ s.seqDue 0 3 = true ∧ (s.lane 0).next = some (wDisp 2 0 5 3 100 7 2) ∧ s.dispWaits 0 = true
      ∧ (wDisp 2 0 5 3 100 7 2).isWrite = true ∧ (s.lane 0).paLow = true := by decide +kernel
theorem wit_seqEnd : let s := wCur (wPatch (wSeqAlu (wWord [(0, 0xC20), (12, 4)]))) (wDisp 2 0 5 3 100 7 2)
    s.running ∧ s.seqDue 0 4 = true ∧ CsWord.imm (s.sq 0).word % 8 = 0 ∧ (s.lane 0).cur = some (wDisp 2 0 5 3 100 7 2)
      ∧ (s.inRom 0 && s.romRefuses (wDisp 2 0 5 3 100 7 2)) = false
      ∧ (s.tim 0).act = [] ∧ (s.tim 0).caps = [] ∧ (s.tim 0).waitingSects = [] ∧ s.fetchGood 0 (CsWord.next (s.sq 0).word) := by
  decide +kernel
theorem wit_seqEnd_refused : let s0 := wCur (wPatch (wSeqAlu (wWord [(0, 0xC20), (12, 4)]))) (wDisp 2 0 5 3 100 7 0)
    let s := s0.setSq 0 { s0.sq 0 with pc := 0x100 }
    s.running ∧ s.seqDue 0 4 = true ∧ (s.lane 0).cur = some (wDisp 2 0 5 3 100 7 0) ∧ s.inRom 0 = true
      ∧ s.romRefuses (wDisp 2 0 5 3 100 7 0) = true
      ∧ (s.tim 0).act = [] ∧ (s.tim 0).caps = [] ∧ (s.tim 0).waitingSects = [] ∧ s.fetchGood 0 (CsWord.next (s.sq 0).word) := by
  decide +kernel
theorem wit_waitConditionMet : let s := wSeqAlu (wWord [(22, 1), (23, 28)])
    s.running ∧ s.waiting 0 = true ∧ s.waitCancelled 0 = false ∧ s.cond 0 (CsWord.waitSel (s.sq 0).word) = !CsWord.waitPol (s.sq 0).word := by decide +kernel
theorem wit_waitTimeout : let s := wSeqAlu (wWord [(22, 1), (23, 29), (32, 9)])
    s.running ∧ s.waiting 0 = true ∧ s.waitCancelled 0 = false ∧ s.cond 0 (CsWord.waitSel (s.sq 0).word) = CsWord.waitPol (s.sq 0).word
      ∧ CsWord.tmo (s.sq 0).word ≠ 0 ∧ (CsWord.tmoUnit (s.sq 0).word = 3 → CsWord.tmo (s.sq 0).word ≤ (s.tim 0).starts) := by
  decide +kernel
def wCancel (s : State) : State := s.setLane 0 { s.lane 0 with cancelSeen := true }
theorem wit_waitCancel : let s := wCancel (wSeqAlu (wWord [(22, 1), (23, 29), (29, 1)]))
    s.running ∧ s.waiting 0 = true ∧ CsWord.waitCx (s.sq 0).word = true ∧ (s.lane 0).cancelSeen = true := by decide +kernel
theorem wit_waitCancel_fetch : (wCancel (wSeqAlu (wWord [(22, 1), (23, 29), (29, 1)]))).fetchGood 0 0x3C0 := by
  have h : (wCancel (wSeqAlu (wWord [(22, 1), (23, 29), (29, 1)]))).vectored 0 0x3C0 = 0x3C0 := by decide +kernel
  simp [State.fetchGood, h, State.storeWord]
theorem wit_wordWatchdog : (wSeq 0).running ∧ (wSeq 0).seqRuns 0 = true := by decide +kernel
theorem wit_patchPort : State.reset.running ∧ State.reset.unitState (.tsq 3) = stOff := by decide +kernel

/-- A lane whose timing unit is in a window of 1,000,000 data bits. -/
def wWin (s : State) : State := s.setTim 0 { s.tim 0 with excl := false, winbits := 200000, winSeq := 4 }
theorem wit_sectRd : let s := wWin (wCur (wSeqAlu (wWord [(65, 1), (76, 1), (80, 5000)])) (wDisp 1 0 5 3 100 0 2))
    s.running ∧ s.cmdDue 0 1 = true ∧ CsWord.evtEn (s.sq 0).word = true ∧ s.workDisp 0 = some (wDisp 1 0 5 3 100 0 2)
      ∧ s.postFits 0 100 = true := by decide +kernel
theorem wit_sectWr : let s := wWin (wCur (wSeqAlu (wWord [(65, 1), (76, 2), (80, 5000)])) (wDisp 2 0 5 3 100 0 2))
    s.running ∧ s.cmdDue 0 2 = true ∧ CsWord.evtEn (s.sq 0).word = true ∧ s.workDisp 0 = some (wDisp 2 0 5 3 100 0 2)
      ∧ (wDisp 2 0 5 3 100 0 2).isWrite = true ∧ s.postFits 0 4872 = true := by decide +kernel
theorem wit_eventPost : let s := wWin (wSeqAlu (wWord [(65, 1), (68, 3), (72, 2), (80, 128)]))
    s.running ∧ s.postReady 0 = true ∧ CsWord.evtEn (s.sq 0).word = true ∧ CsWord.cmd (s.sq 0).word ≠ 1
      ∧ CsWord.cmd (s.sq 0).word ≠ 2 ∧ s.postFits 0 0 = true := by decide +kernel
def wTimed (x : Timed) : State := (wWin State.reset).setTim 0 { (wWin State.reset).tim 0 with timed := [x] }
theorem wit_timingEventFire : let s := wTimed ⟨4, 100, .event 2 2 none⟩
    s.running ∧ (s.tim 0).timed = ⟨4, 100, .event 2 2 none⟩ :: [] ∧ (s.tim 0).excl = false ∧ 4 ≤ (s.tim 0).winSeq
      ∧ Nat.testBit 2 0 = false := by decide +kernel
/-- Servo `0` follows a track with lock. -/
def wFollow (s : State) : State := (s.setF (.srv 0) F.SRV_STAT_SLOCK 1).setF (.srv 0) F.SRV_STAT_MODE mFollow
theorem wit_dataWindowStart : let s := wFollow State.reset
    s.running ∧ s.slock 0 = true ∧ (s.tim 0).excl = true ∧ (s.tim 0).caps = [] ∧ (s.tim 0).wreq = false := by decide +kernel
theorem wit_headSelect : let s := wFollow (wCur (wSeqAlu (wWord [(76, 3)])) (wDisp 1 0 5 3 100 0 2))
    s.running ∧ s.cmdDue 0 3 = true ∧ s.workDisp 0 = some (wDisp 1 0 5 3 100 0 2) := by decide +kernel
theorem wit_seek : let s := wFollow (wCur (wSeqAlu (wWord [(76, 4)])) (wDisp 1 0 5 3 100 0 2))
    s.running ∧ s.cmdDue 0 4 = true ∧ s.workDisp 0 = some (wDisp 1 0 5 3 100 0 2) ∧ (s.sv 0).seeking = false ∧ s.dev.mediaPause = false
      ∧ s.capSeeks < capSeekLimit s.capLevel ∧ closedLoop (s.mode 0) = true ∧ s.slock 0 = true
      ∧ beyond30 (s.offtrk 0 (wDisp 1 0 5 3 100 0 2) + signed 8 (s.sq 0).srvOfs)
          ((s.sv 0).bandOffset (s.activeHead 0) (wDisp 1 0 5 3 100 0 2).track) = false := by decide +kernel
def wSeeking (s : State) : State := s.setSv 0 { s.sv 0 with seeking := true }
theorem wit_seekHold : let s := wSeeking (wFollow (wSeqAlu (wWord [(76, 5)])))
    s.running ∧ s.cmdDue 0 5 = true ∧ closedLoop (s.mode 0) = true ∧ (s.sv 0).seeking = true ∧ s.slock 0 = true := by decide +kernel
/-- Head 0 of lane 0 is a HAMR head with a row of its own, and the drive is in its window. -/
def wHamr (s : State) : State :=
  ((s.setAt 0 { s.at 0 with hdTab := [(0, F.AST_HD_DATA_W0_KIND.put 0 1), (1, F.AST_HD_DATA_W1_SP_MAX.put 0 9)] }).setF (.ast 0)
    F.AST_WIN_STAT_DRV_OK 1).setUnitState (.ast 0) stIdle
theorem wit_astArm : let s := wHamr (wCur (wSeqAlu (wWord [(76, 6)])) (wDisp 2 0 5 0 100 0 2))
    s.running ∧ s.cmdDue 0 6 = true ∧ s.workDisp 0 = some (wDisp 2 0 5 0 100 0 2) ∧ s.takes (.ast 0) = true
      ∧ s.assistFaulted 0 = false ∧ s.on (.ast 0) F.AST_WIN_STAT_DRV_OK = true
      ∧ F.AST_HD_DATA_W0_KIND.get ((s.at 0).hdWord (s.activeHead 0) 0) = 1
      ∧ F.AST_HD_DATA_W1_SP_MIN.get ((s.at 0).hdWord (s.activeHead 0) 1)
          ≤ F.AST_HD_DATA_W1_SP_MAX.get ((s.at 0).hdWord (s.activeHead 0) 1) := by decide +kernel
theorem wit_astArm_fault : let s := (wCur (wSeqAlu (wWord [(76, 6)])) (wDisp 2 0 5 0 100 0 2)).setUnitState (.ast 0) stFault
    s.running ∧ s.cmdDue 0 6 = true ∧ s.workDisp 0 = some (wDisp 2 0 5 0 100 0 2) ∧ s.unitState (.ast 0) = stFault := by decide +kernel
theorem wit_astDisarm : let s := wSeqAlu (wWord [(76, 7)])
    s.running ∧ s.cmdDue 0 7 = true := by decide +kernel

/-! ### Witnesses of the statements: file part 06 -/

/-- Servo 0 in IDLE and in mode `m`, with lock or without it. -/
def wSrv (m lock : Nat) : State :=
  ((((State.reset.setUnitState (.srv 0) stIdle).setF (.srv 0) F.SRV_STAT_MODE m).setF (.srv 0) F.SRV_STAT_SLOCK lock).setF .med
    F.MED_WEDGE_CFG_WEDGES 600).setF (.srv 0) F.SRV_PES_THR_WI_THR 0x18
/-- A wedge read without an error in its SAM: the track's Gray code, the wedge number and their parities. -/
def wRead (track wn : Nat) (frac : Int) : WedgeRead :=
  let tid : Nat := track ^^^ (track / 2)
  ⟨List.replicate 8 16 ++ [0] ++ List.replicate 8 16, BitVec.ofNat 22 tid, BitVec.ofNat 10 wn,
    BitVec.ofNat 2 (bit (oddOnes 10 wn) + 2 * bit (oddOnes 22 tid)), frac, .ok⟩
/-- A wedge whose SAM is not found. -/
def wNoSam (wn : Nat) : WedgeRead := { wRead 0 wn 0 with sam := List.replicate 17 2 }
def wMissed (s : State) : State := s.setSv 0 { s.sv 0 with missed := true }
theorem wit_servoWedge_good : let s := wSrv mFollow 1
    s.running ∧ s.live (.srv 0) = true ∧ s.mode 0 = mFollow ∧ s.slock 0 = true ∧ 599 < s.wedges ∧ (s.sv 0).missed = false
      ∧ (s.sv 0).moved = false ∧ (s.sv 0).check = 0 ∧ (s.sv 0).shockInh = false
      ∧ beyond ((wRead 0 599 245).pos * 25 - (s.sv 0).target - s.runout 0 599 0 .ok * 25) (s.wiThr 0) = false := by decide +kernel
theorem wit_wedge_read : (wRead 0 599 245).ok = true ∧ (wRead 0 599 245).wnum = 599 ∧ (wRead 0 599 245).track = 0
    ∧ (wRead 0 599 245).runout = .ok ∧ (wRead 0x3FFFFF 0 0).ok = true ∧ (wRead 0x3FFFFF 0 0).track = 0x3FFFFF
    ∧ (wNoSam 599).ok = false ∧ (wNoSam 599).wnum = 599 := by decide +kernel
theorem wit_servoWedge_missed : ∀ b : Bool, let s := if b then wMissed (wSrv mFollow 1) else wSrv mFollow 1
    s.running ∧ s.live (.srv 0) = true ∧ s.mode 0 = mFollow ∧ s.slock 0 = true ∧ (wNoSam 599).wnum < s.wedges ∧ (s.sv 0).missed = b
      ∧ (s.sv 0).moved = false ∧ (s.sv 0).check = 0 := by decide +kernel
theorem wit_vcmCurrentLoop : let s := wSrv mFollow 1
    s.running ∧ s.live (.srv 0) = true ∧ mLoading ≤ s.mode 0 ∧ s.mode 0 ≤ mUnloading := by decide +kernel
/-- Servo 0 retracts with a voltage code of 546 and BEMF_MAX 4. -/
def wRetr : State := ((wSrv mRetract 0).setF (.srv 0) F.SRV_VCM_OUT_VCM 546).setF (.srv 0) F.SRV_RETRACT_BEMF_MAX 4
theorem wit_vcmCurrentLoop_retract : wRetr.dev.power ≠ .off ∧ wRetr.mode 0 = mRetract
    ∧ 10 * (wRetr.f (.srv 0) F.SRV_RETRACT_BEMF_MAX : Int) < wRetr.bemf 0 0 ∧ 0 < wRetr.f (.srv 0) F.SRV_VCM_OUT_VCM
    ∧ (wRetr.setF (.srv 0) F.SRV_VCM_OUT_VCM 0).bemf 0 0
        ≤ 10 * ((wRetr.setF (.srv 0) F.SRV_VCM_OUT_VCM 0).f (.srv 0) F.SRV_RETRACT_BEMF_MAX : Int) := by decide +kernel
theorem wit_lockRegainTimeout : let s := wSrv mAcquire 0
    s.running ∧ s.mode 0 = mAcquire ∧ (s.sv 0).loadTry = 0 := by decide +kernel
theorem wit_seekTimeout : (wSeeking (wSrv mSeek 1)).running ∧ ((wSeeking (wSrv mSeek 1)).sv 0).seeking = true := by decide +kernel
theorem wit_coefWrite : let s := (wSrv mFollow 1).setF (.srv 0) F.SRV_COEF_IDX_INDEX 511
    s.running ∧ s.inReset (.srv 0) = false ∧ s.f (.srv 0) F.SRV_COEF_IDX_INDEX < 512
      ∧ s.bankNamed 0 (s.f (.srv 0) F.SRV_COEF_IDX_INDEX / 64) = false := by decide +kernel
theorem wit_coefWrite_refused : let s := wSrv mFollow 1
    s.running ∧ s.inReset (.srv 0) = false ∧ s.f (.srv 0) F.SRV_COEF_IDX_INDEX < 512
      ∧ s.bankNamed 0 (s.f (.srv 0) F.SRV_COEF_IDX_INDEX / 64) = true := by decide +kernel
/-- The spindle is at speed, and the drive is warm. -/
def wLoad : State :=
  let s := (((wSrv mParked 0).setF .spn F.SPN_STAT_AT_SPEED 1).setF (.srv 0) F.SRV_WEDGE_CFG_POSTG 0x40).setF (.srv 0)
    F.SRV_WEDGE_CFG_EXCL 0x200
  { s with house := { s.house with data := [(16, F.HKP_CH_DATA_VALID.put 100 1)] } }
theorem wit_servoLoad : wLoad.running ∧ wLoad.inReset (.srv 0) = false ∧ wLoad.mode 0 = mParked
    ∧ wLoad.on .spn F.SPN_STAT_AT_SPEED = true ∧ wLoad.warmEnough = true ∧ wLoad.wedgeCfgOk 0 = true := by decide +kernel
theorem wit_servoLoad_stopped : let s := wLoad.setF .spn F.SPN_STAT_AT_SPEED 0
    s.running ∧ s.inReset (.srv 0) = false ∧ s.mode 0 = mParked ∧ s.on .spn F.SPN_STAT_AT_SPEED = false
      ∧ s.wedgeCfgOk 0 = true := by decide +kernel
theorem wit_servoLoad_mode : (wSrv mLoading 0).running ∧ (wSrv mLoading 0).inReset (.srv 0) = false
    ∧ (wSrv mLoading 0).mode 0 ≠ mParked ∧ (wSrv mLoading 0).mode 0 = mLoading := by decide +kernel
theorem wit_loading : (wSrv mLoading 0).running ∧ (wSrv mLoading 0).mode 0 = mLoading ∧ (65535 : Nat) < 2 ^ 16 := by decide +kernel
def wTry (s : State) (k : Nat) (r : Bool) : State := s.setSv 0 { s.sv 0 with loadTry := k, retryLoad := r, offRamp := true }
theorem wit_loadLockTimeout : ∀ m ∈ [mLoading, mAcquire], let s := wTry (wSrv m 0) 1 false
    s.running ∧ s.mode 0 = m ∧ (s.sv 0).loadTry ≠ 0 := by decide +kernel
theorem wit_servoUnload : let s := wSrv mShock 1
    s.running ∧ s.inReset (.srv 0) = false ∧ closedLoop (s.mode 0) = true := by decide +kernel
theorem wit_unloadParked : ∀ k : Fin 3, let s := wTry (wSrv mUnloading 0) k.val (k != 0)
    s.running ∧ s.mode 0 = mUnloading ∧ (s.sv 0).retryLoad = (k != 0) ∧ (s.sv 0).loadTry = k.val := by decide +kernel
theorem wit_hwRetract : (wSrv mFollow 1).running ∧ (wSrv mFollow 1).mode 0 ≠ mRetract
    ∧ (∀ tr ∈ [RetractTrigger.pfail, .unitReset, .warmReset, .spFault, .thermalTrip, .unloadTimeout, .enableFall],
        (wSrv mFollow 1).retractHits 0 tr = true)
    ∧ (wSrv mParked 0).retractHits 0 .pfail = true ∧ (wSrv mRetract 0).mode 0 = mRetract
    ∧ (wSrv mRetract 0).retractHits 0 .thermalTrip = true := by decide +kernel
theorem wit_retractParked : let s := wSrv mRetract 0
    s.dev.power ≠ .off ∧ s.mode 0 = mRetract ∧ (s.sv 0).faultAfter = false ∧ s.retractParks 0 = true := by decide +kernel
theorem wit_retractParked_retry : let s := wTry (wSrv mRetract 0) 1 true
    s.dev.power ≠ .off ∧ s.mode 0 = mRetract ∧ (s.sv 0).faultAfter = false ∧ s.unitState (.srv 0) = stIdle
      ∧ (s.sv 0).retryLoad = true ∧ (s.sv 0).loadTry = 1 := by decide +kernel
theorem wit_shockNAccept : let s := wSrv mFollow 1
    s.running ∧ s.house.shockFilt = false ∧ s.house.shockMask = false ∧ s.live (.srv 0) = true := by decide +kernel
def wShock : State := { wSrv mShock 1 with house := { State.reset.house with shockFilt := true } }
theorem wit_shockNRelease : wShock.running ∧ wShock.house.shockFilt = true ∧ wShock.house.shockMask = false := by decide +kernel

/-! ### Witnesses of the statements: file part 09 -/

/-- The buffer is in IDLE with 2 GiB of trained DRAM, 16 handles and a table at page 0. -/
def wBuf : State :=
  ([(F.BUF_STAT_TRAINED, 1), (F.BUF_CFG_SIZE, 1), (F.BUF_HDL_LIMIT_LIMIT, 16), (F.BUF_FW_PAGES_PAGES, 1)] : List (Field × Nat)).foldl
    (fun t e => t.setF .buf e.1 e.2) (State.reset.setUnitState .buf stIdle)
/-- A read in which the mask `p` of pins of the first codeword is wrong. -/
def wLine (p : Nat) (f : Far) : LineRead := ⟨⟨p, f⟩, ⟨0, .uncorr⟩⟩
theorem wit_dramRead_clean : wBuf.running ∧ wBuf.lineGate (.engine .service) 7 false = none ∧ wBuf.lineStalls (.engine .service) = false
    ∧ (wBuf.decodeLine 7 goodRead).kind = .clean ∧ (wBuf.decodeLine 7 goodRead).miss = false := by decide +kernel
theorem wit_dramRead_corrected : (wBuf.decodeLine 7 (wLine 3 .uncorr)).kind = .corrected
    ∧ (wBuf.decodeLine 7 (wLine 3 .uncorr)).miss = false := by decide +kernel
theorem wit_dramRead_uncorr : (wBuf.decodeLine 7 (wLine 7 .uncorr)).kind = .uncorr := by decide +kernel
theorem wit_dramWrite : wBuf.lineGate (.engine .service) 64 true = none ∧ wBuf.lineGate (.dataPlane .command) 63 true = none
    ∧ (64 : Nat) ≤ (List.replicate 64 (1 : Byte)).length := by decide +kernel
theorem wit_dramRead_denied : 64 * 64 < wBuf.dramUsed ∧ wBuf.inFirmware (lineAddr 64) 64 = false
    ∧ (wBuf.decodeLine 63 (wLine 7 .uncorr)).kind = .uncorr := by decide +kernel
theorem wit_dramRead_handle : let s := wBuf.setBtt 3 0x80000005
    s.lineGate (.handle 3) 320 true = none ∧ s.lineGate (.handle 3) 383 false = none ∧ s.lineStalls (.handle 3) = false := by decide +kernel
theorem wit_dramPartialWrite : (63 : Nat) + [(1 : Byte)].length ≤ 64 ∧ (wBuf.decodeLine 64 goodRead).kind = .clean
    ∧ (wBuf.decodeLine 64 goodRead).miss = false := by decide +kernel
def wBufS (b : Buffer) : State := { wBuf with buf := b }
theorem wit_writeBack : let s := wBufS { wBuf.buf with wbq := [7, 9] }
    s.running ∧ s.live .buf = true ∧ s.buf.wbq = 7 :: [9] ∧ (s.decodeLine 7 (wLine 3 .uncorr)).kind = .corrected
      ∧ (s.decodeLine 7 (wLine 3 .uncorr)).miss = false := by decide +kernel
def wPatrol (pos : Nat) : State := (wBuf.setF .buf F.BUF_SCRUB_CTL_PATROL_EN 1).setF .buf F.BUF_SCRUB_POS_LINE pos
theorem wit_patrol : (wPatrol 33554430).patrolRuns = true
    ∧ ((wPatrol 33554430).decodeLine ((wPatrol 33554430).f .buf F.BUF_SCRUB_POS_LINE) goodRead).kind = .clean
    ∧ 64 * ((wPatrol 33554430).f .buf F.BUF_SCRUB_POS_LINE + 1) < (wPatrol 33554430).dramUsed := by decide +kernel
theorem wit_patrol_lap : (wPatrol 33554431).patrolRuns = true
    ∧ (wPatrol 33554431).dramUsed ≤ 64 * ((wPatrol 33554431).f .buf F.BUF_SCRUB_POS_LINE + 1) := by decide +kernel
theorem wit_rangeGo : wBuf.takes .buf = true ∧ F.BUF_SCRUB_CTL_RANGE_GO.get 0x40000001 = 1
    ∧ F.BUF_SCRUB_CTL_RANGE_EN.get 0x40000001 = 1 ∧ wBuf.buf.range = none
    ∧ wBuf.f .buf F.BUF_RANGE_START_PAGE ≤ wBuf.f .buf F.BUF_RANGE_END_PAGE
    ∧ wBuf.f .buf F.BUF_RANGE_END_PAGE < wBuf.dramUsed / 4096 := by decide +kernel
theorem wit_rangeGo_refused : let s := wBuf.setF .buf F.BUF_RANGE_START_PAGE 1
    s.running ∧ s.takes .buf = true ∧ s.f .buf F.BUF_RANGE_END_PAGE < s.f .buf F.BUF_RANGE_START_PAGE := by decide +kernel
theorem wit_rangePassDone : let s := wBufS { wBuf.buf with range := some (0, 5) }
    s.running ∧ s.live .buf = true ∧ s.buf.range = some (0, 5) ∧ 0 ≤ 5 ∧ 5 < 2 ^ 23 ∧ s.buf.flips = [] ∧ s.buf.poisoned = [] := by decide +kernel
theorem wit_zeroFillDone : (wBuf.setF .buf F.BUF_STAT_FILLING 1).running
    ∧ (wBuf.setF .buf F.BUF_STAT_FILLING 1).on .buf F.BUF_STAT_FILLING = true := by decide +kernel
theorem wit_ddrTrained : let s := (wBuf.setF .buf F.BUF_STAT_TRAINED 0).setF .svc F.SVC_BOOT_STAT_STAGE 8
    s.running ∧ s.takes .buf = true ∧ s.on .buf F.BUF_STAT_TRAINED = false ∧ s.stage = 8 ∧ s.bufConfigBad = false := by decide +kernel
theorem wit_bttWrite : wBuf.inReset .buf = false ∧ wBuf.f .buf F.BUF_BTT_IDX_HANDLE < wBuf.f .buf F.BUF_HDL_LIMIT_LIMIT
    ∧ bttMoving 0x80000005 = false ∧ bttMoving (wBuf.btt (wBuf.f .buf F.BUF_BTT_IDX_HANDLE)) = false
    ∧ wBuf.inPool (bttPpn 0x80000005) = true := by decide +kernel
theorem wit_bttWrite_refused : bttValid 0x80000000 = true ∧ wBuf.inPool (bttPpn 0x80000000) = false := by decide +kernel
/-- Handle 3 is valid and names page 5; the spare page is 6. -/
def wEntry : State := (wBuf.setBtt 3 0x80000005).setF .buf F.BUF_RET_SPARE_PPN 6
theorem wit_retireGo : wEntry.running ∧ wEntry.takes .buf = true ∧ F.BUF_RET_CMD_GO.get 0x80000003 = 1 ∧ wEntry.buf.ret = none
    ∧ bttValid (wEntry.btt (F.BUF_RET_CMD_HANDLE.get 0x80000003)) = true
    ∧ wEntry.inPool (wEntry.f .buf F.BUF_RET_SPARE_PPN) = true := by decide +kernel
theorem wit_retireGo_refused : wBuf.inReset .buf = false ∧ F.BUF_RET_CMD_GO.get 0x80000003 = 1 ∧ wBuf.inPool (wBuf.f .buf F.BUF_RET_SPARE_PPN) = false := by decide +kernel
theorem wit_retireDone : let s : State := { wEntry with buf := { wEntry.buf with ret := some (3, 6) } }
    s.running ∧ s.live .buf = true ∧ s.buf.ret = some (3, 6) ∧ 3 < s.f .buf F.BUF_HDL_LIMIT_LIMIT ∧ 6 < 2 ^ 23 ∧ s.buf.flips = []
      ∧ s.buf.poisoned = [] := by decide +kernel
theorem wit_injectArm : (wBuf.setF .buf F.BUF_CFG_INJ_EN 1).inReset .buf = false
    ∧ (wBuf.setF .buf F.BUF_CFG_INJ_EN 1).on .buf F.BUF_CFG_INJ_EN = true
    ∧ wBuf.on .buf F.BUF_CFG_INJ_EN = false := by decide +kernel
/-- A write dispatch of handle 3 is in progress on lane 0. -/
def wFetch : State :=
  wCur (wEntry.setUnitState (.chn 0) stIdle) { wDisp 2 0 5 3 100 0 2 with raw := (wDisp 2 0 5 3 100 0 2).raw.set 6 3 }
theorem wit_fetch : let d : Disp := { wDisp 2 0 5 3 100 0 2 with raw := (wDisp 2 0 5 3 100 0 2).raw.set 6 3 }
    wFetch.running ∧ wFetch.live (.chn 0) = true ∧ (wFetch.lane 0).cur = some d ∧ d.isWrite = true ∧ d.ended = none ∧ 0 < d.count
      ∧ d.settled = [] ∧ (wFetch.ch 0).wfifo = [] ∧ wFetch.translate d.handle false = .page 5 ∧ wFetch.lines = []
      ∧ wFetch.buf.flips = [] ∧ wFetch.buf.poisoned = [] := by decide +kernel
/-- A submission entry: opcode, CID, namespace, first block, blocks minus 1, dword 13. -/
def wSqe (op cid nsid lba nlb dw13 : Nat) : Sqe :=
  [BitVec.ofNat 32 (op + 65536 * cid), BitVec.ofNat 32 nsid, 0, 0, 0, 0, 0, 0, 0, 0, BitVec.ofNat 32 lba, 0, BitVec.ofNat 32 nlb,
    BitVec.ofNat 32 dw13, 0, 0]
/-- A slot of function 0, queue 1. -/
def wSlot (st : SlotState) (sqe : Sqe) : Slot :=
  { st := st, fn := 0, sqid := 1, cid := sqeCid sqe, sqe := sqe, order := 5, ordered := false, lock := none, waitedEntry := false,
    waitedLock := false, lba := sqeLba sqe, granules := [], filled := 0, inserted := false, ringOwed := false, beats := 0,
    placed := false, cpl := none, bound := none, kept := false, decoded := true, acted := false, snap := [], seqno := 0, pool := none }
/-- The slot `i` holds `x`, and the command engine is in IDLE. -/
def wHeld (s : State) (i : Nat) (x : Slot) : State := (s.setUnitState .cmd stIdle).setSlot i x
def wWriteSlot : Slot :=
  { wSlot .taken (wSqe 1 7 1 40 1 0) with lock := some ⟨1, 40, 2, true⟩, granules := [(3, 2)], bound := some (2, 1) }
theorem wit_hostIn : let s := wHeld wEntry 9 wWriteSlot
    s.running ∧ s.live .cmd = true ∧ s.cmd.stopped = false ∧ s.slot? 9 = some wWriteSlot ∧ wWriteSlot.st = .taken
      ∧ wWriteSlot.engineWrite = true ∧ wWriteSlot.lock.isSome = true ∧ wWriteSlot.granules = [(3, sqeCount wWriteSlot.sqe)]
      ∧ wWriteSlot.inserted = false ∧ wWriteSlot.filled = 0 ∧ wWriteSlot.bound = some (2, 1) ∧ s.hasContext 9 = false
      ∧ s.dev.diePause = false ∧ s.cmd.dma = [] ∧ s.cmd.dmaWait = [] ∧ s.translate 3 true = .page 5 := by decide +kernel
theorem wit_hostIn_data : (List.replicate 4096 (0x5A : Byte)).length = 4096 := List.length_replicate
def wOutSlot : Slot := { wSlot .work (wSqe 2 8 1 40 0 0) with bound := some (2, 1) }
theorem wit_hostOut : let s := wHeld wEntry 9 wOutSlot
    s.running ∧ s.live .cmd = true ∧ s.cmd.stopped = false ∧ s.slot? 9 = some wOutSlot ∧ wOutSlot.st = .work
      ∧ wOutSlot.bound = some (2, 1) ∧ s.hasContext 9 = false ∧ s.dev.diePause = false ∧ s.cmd.dma = [] ∧ s.cmd.dmaWait = []
      ∧ s.translate 3 false = .page 5 ∧ s.lines = [] ∧ s.buf.flips = [] ∧ s.buf.poisoned = [] := by decide +kernel
def wCtx : State := { wHeld wEntry 9 wWriteSlot with buf := { wEntry.buf with ctxs := [(4, ⟨false, 0, 9, 3, 0, 2, 1, 2, 0⟩)] } }
theorem wit_ctx : let d : DmaCtx := ⟨false, 0, 9, 3, 0, 2, 1, 2, 0⟩
    wCtx.running ∧ wCtx.inReset .buf = false ∧ wCtx.live .buf = true ∧ wCtx.ctx? 4 = some d ∧ d.preempted = false ∧ d.req < 2
      ∧ (wCtx.slotState d.tag).isOpen = true ∧ bttValid (wCtx.btt d.hdl) = true ∧ wCtx.dsrBase = none
      ∧ wCtx.cmd.stopped = false := by decide +kernel
theorem wit_pops : let s := wBufS { wBuf.buf with notices := [5], events := [(1, 2)] }
    s.running ∧ s.inReset .buf = false ∧ s.buf.notices = 5 :: [] ∧ s.buf.events = (1, 2) :: [] := by decide +kernel

/-! ### Witnesses of the statements: file part 10 -/

/-- A band of 100 tracks of 1,000 sectors. -/
def wBand100 : Band := ⟨0, 0, 0, 100, 1, 1000⟩
/-- A namespace of one zone. -/
def wNs : Namespace :=
  { nsid := 1, zoned := true, size := 131072, ms := 0, pi := 0, kpio := false, ana := 1, attached := [0], bands := [wBand100],
    lens := [99840], free := [], dulbe := [] }
/-- A zone action `act` in slot 9, on a zone in state `st`. -/
def wZone (act : Nat) (st : ZState) : State :=
  let s := wHeld State.reset 9 (wSlot .work (wSqe 0x79 7 1 0 0 act))
  { s with hosts := { s.hosts with namespaces := [wNs],
                                   zones := Sparse.set (fun _ => Zone.reset) [] (zoneKey 1 0) { Zone.reset with st := st } } }
theorem wit_zoneReset : (wZone zaReset .full).zoneDue 9 zaReset (wSlot .work (wSqe 0x79 7 1 0 0 zaReset)) wNs
    ∧ ((wZone zaReset .full).zoneNamed (wSlot .work (wSqe 0x79 7 1 0 0 zaReset))).st = .full := by decide +kernel
theorem wit_zoneFinish : (wZone zaFinish .closed).zoneDue 9 zaFinish (wSlot .work (wSqe 0x79 7 1 0 0 zaFinish)) wNs
    ∧ ((wZone zaFinish .closed).zoneNamed (wSlot .work (wSqe 0x79 7 1 0 0 zaFinish))).st.isActive = true := by decide +kernel
theorem wit_zoneOpen : (wZone zaOpen .empty).zoneDue 9 zaOpen (wSlot .work (wSqe 0x79 7 1 0 0 zaOpen)) wNs
    ∧ ((wZone zaOpen .empty).zoneNamed (wSlot .work (wSqe 0x79 7 1 0 0 zaOpen))).st = .empty
    ∧ (wZone zaOpen .empty).zonesOf 1 = [] := by decide +kernel
theorem wit_zoneFinish_empty : (wZone zaFinish .empty).zoneDue 9 zaFinish (wSlot .work (wSqe 0x79 7 1 0 0 zaFinish)) wNs
    ∧ ((wZone zaFinish .empty).zoneNamed (wSlot .work (wSqe 0x79 7 1 0 0 zaFinish))).st = .empty := by decide +kernel
theorem wit_zoneOpen_open : (wZone zaOpen .implOpen).zoneDue 9 zaOpen (wSlot .work (wSqe 0x79 7 1 0 0 zaOpen)) wNs
    ∧ ((wZone zaOpen .implOpen).zoneNamed (wSlot .work (wSqe 0x79 7 1 0 0 zaOpen))).st = .implOpen := by decide +kernel
theorem wit_zoneOpen_full : (wZone zaOpen .full).zoneDue 9 zaOpen (wSlot .work (wSqe 0x79 7 1 0 0 zaOpen)) wNs
    ∧ ((wZone zaOpen .full).zoneNamed (wSlot .work (wSqe 0x79 7 1 0 0 zaOpen))).st = .full := by decide +kernel
theorem wit_zoneClose : (wZone zaClose .implOpen).zoneDue 9 zaClose (wSlot .work (wSqe 0x79 7 1 0 0 zaClose)) wNs
    ∧ ((wZone zaClose .implOpen).zoneNamed (wSlot .work (wSqe 0x79 7 1 0 0 zaClose))).st.isOpen = true := by decide +kernel
theorem wit_zoneOffline : (wZone zaOffline .readOnly).zoneDue 9 zaOffline (wSlot .work (wSqe 0x79 7 1 0 0 zaOffline)) wNs
    ∧ ((wZone zaOffline .readOnly).zoneNamed (wSlot .work (wSqe 0x79 7 1 0 0 zaOffline))).st = .readOnly := by decide +kernel
def wZoneRecv : State := (wZone 0 .empty).setSlot 9 (wSlot .work (wSqe 0x7A 7 1 0 31 0))
theorem wit_zoneReceive : let x := wSlot .work (wSqe 0x7A 7 1 0 31 0)
    wZoneRecv.running ∧ wZoneRecv.slot? 9 = some x ∧ x.st = .work ∧ sqeOp x.sqe = opZoneRecv ∧ x.io = true
      ∧ wZoneRecv.ns? (sqeNsid x.sqe) = some wNs ∧ sqeBits x.sqe 13 0 8 = 0 := by decide +kernel
/-- An Abort of queue 1, CID 7 in slot 2. -/
def wAbortSlot : Slot :=
  { wSlot .work [0x00090008, 0, 0, 0, 0, 0, 0, 0, 0, 0, 0x00070001, 0, 0, 0, 0, 0] with sqid := 0 }
def wAbort (s : State) : State := s.setSlot 2 wAbortSlot
theorem wit_abort_wins : let s := wAbort (wHeld State.reset 9 wWriteSlot)
    s.running ∧ s.live .cmd = true ∧ s.cmd.stopped = false ∧ s.slot? 2 = some wAbortSlot ∧ wAbortSlot.st = .work
      ∧ wAbortSlot.sqid = 0 ∧ sqeOp wAbortSlot.sqe = opAbort ∧ wAbortSlot.acted = false
      ∧ (s.cmd.slots.filter (fun (e : Nat × Slot) => e.2.fn == wAbortSlot.fn && e.2.sqid == 0 && sqeOp e.2.sqe == opAbort
          && e.2.st.isOpen && decide (e.2.order < wAbortSlot.order))).length < 4
      ∧ F.CMD_ABT_KEY_SQID.get (sqeDw wAbortSlot.sqe 10) ≠ 0
      ∧ s.cmd.slots.find? (fun (e : Nat × Slot) => e.2.fn == wAbortSlot.fn
          && e.2.sqid == F.CMD_ABT_KEY_SQID.get (sqeDw wAbortSlot.sqe 10)
          && e.2.cid == F.CMD_ABT_KEY_CID.get (sqeDw wAbortSlot.sqe 10) && e.2.st.isOpen) = some (9, wWriteSlot) := by
  decide +kernel
theorem wit_abort_none : let s := wAbort (State.reset.setUnitState .cmd stIdle)
    s.cmd.slots.all (fun (e : Nat × Slot) => !(e.2.fn == wAbortSlot.fn
      && e.2.sqid == F.CMD_ABT_KEY_SQID.get (sqeDw wAbortSlot.sqe 10)
      && e.2.cid == F.CMD_ABT_KEY_CID.get (sqeDw wAbortSlot.sqe 10) && e.2.sqid != 0)) = true := by decide +kernel

/-- A vault is fitted, and area A protects and is armed. -/
def wVault (s : State) : State :=
  let t := (((s.setF .svc F.SVC_VLT_CFG_FITTED 1).setF .svc F.SVC_VLT_CFG_CE_EN 1).setF .svc F.SVC_VLT_STAT_ARMED_A 1)
  { t with dev := { t.dev with saveArmed := true } }
theorem wit_pfailAccept : let s := wSrv mFollow 1
    s.running ∧ s.on .hkp F.HKP_IN_STAT_PFAIL_LATCH = false ∧ s.saveReady = false ∧ s.dev.warmInProgress = false
      ∧ s.maybeOffRamp 0 = true := by decide +kernel
theorem wit_pfailAccept_save : (wVault State.reset).saveReady = true ∧ (wVault State.reset).vault.saving = none := by decide +kernel
def wSave : Save := { seq := 1, planned := 2, partialSave := false, grans := [⟨1, 5, false, []⟩, ⟨1, 6, false, []⟩], zones := [], lost := [] }
def wSaving : State := { wVault State.reset with vault := { Vault.reset with saving := some wSave } }
theorem wit_pageProgramFail : wSaving.running ∧ wSaving.vault.saving = some wSave
    ∧ wSave.grans = ⟨1, 5, false, []⟩ :: [⟨1, 6, false, []⟩]
    ∧ ([⟨1, 6, false, []⟩] : List SavedGran).all (fun r => r.nsid != 1 || r.lba != 5) = true := by decide +kernel
theorem wit_saveComplete : wSaving.on .hkp F.HKP_IN_STAT_PFAIL_LATCH = false ∧ wSaving.on .spn F.SPN_STAT_HOLDUP_LOW = false := by
  decide +kernel
def wStopped : State := { State.reset with vault := { Vault.reset with stopped := true } }
theorem wit_pfailHigh10ms : wStopped.running ∧ wStopped.vault.stopped = true ∧ State.reset.vault.stopped = false := by decide +kernel
theorem wit_pfailClr : State.reset.inReset .hkp = false ∧ F.HKP_IN_CTL_PFAIL_CLR.get 1 = 1 := by decide +kernel
theorem wit_vaultAreaErase : (wVault State.reset).inReset .svc = false ∧ F.SVC_VLT_CMD_GO.get 0x80000001 = 1
    ∧ F.SVC_VLT_CMD_AREA.get 0x80000001 ≠ (wVault State.reset).protArea
    ∧ (wVault State.reset).saveOf (F.SVC_VLT_CMD_AREA.get 0x80000001) = none
    ∧ F.SVC_VLT_CMD_AREA.get 0x80000000 = (wVault State.reset).protArea := by decide +kernel
def wErasing : State := { wVault State.reset with vault := { Vault.reset with erasing := [1] } }
theorem wit_areaEraseDone : 65535 < 2 ^ 16 ∧ wErasing.running ∧ wErasing.vault.erasing = 1 :: [] := by decide +kernel

/-! ### Witnesses of the statements: file part 11 -/

/-- Namespace 1, not zoned, attached to function 0. -/
def wFlat : Namespace := { wNs with zoned := false, bands := [], lens := [] }
/-- A submission queue of function 0. -/
def wSq (sqid : Nat) : Sq :=
  { fn := 0, sqid := sqid, cqid := sqid, size := 8, sram := false, ordered := false, prio := 0, head := 1, tail := 3, fetched := 2,
    base := 0, entries := [wSqe 8 7 1 40 1 0], held := false }
def wCq (cqid : Nat) : Cq := { fn := 0, cqid := cqid, size := 8, vector := none, tail := 7, phase := true }
/-- Controller 0 serves, with an admin queue and the queue `q`; namespace `n` exists with its key; 10 handles are free and the dirty
limit is 256 MiB. -/
def wHostQ (n : Namespace) (q : Sq) : State :=
  let s := (State.reset.setUnitState .cmd stIdle).setCtrl 0 { Ctrl.reset with en := true, rdy := true }
  let t := (s.setKeySlot 0 { KeySlot.reset with loaded := true, cur := 1 }).setF .svc F.SVC_VLT_DIRTY_LIM_MIB 256
  { t with hosts := { t.hosts with namespaces := [n], spareSlots := 100000 },
           cmd := { t.cmd with sqs := [{ wSq 0 with entries := [] }, q], cqs := [wCq 0, wCq 1], freeRuns := [(3, 10)] } }
def wHost : State := wHostQ wFlat (wSq 1)
theorem wit_doorbell : 7 < (wSq 1).size ∧ wHost.running ∧ wHost.subq? 0 1 = some (wSq 1) ∧ wHost.ctrlServes 0 = true ∧ wHost.engineRuns = true := by
  decide +kernel
theorem wit_sqFetch : (wSq 1).sram = false ∧ (wSq 1).fetched + 1 ≤ (wSq 1).size
    ∧ 1 ≤ ((wSq 1).tail + (wSq 1).size - (wSq 1).fetched) % (wSq 1).size := by decide +kernel
def wSramQ : Sq := { wSq 1 with sram := true, base := 0x30000000 }
theorem wit_sramEntry : (wHostQ wFlat wSramQ).running ∧ (wHostQ wFlat wSramQ).subq? 0 1 = some wSramQ
    ∧ ((wHostQ wFlat wSramQ).port ((wHostQ wFlat wSramQ).fnPort 0)).zeroing = false := by decide +kernel
theorem wit_take : (wSq 1).ready = true ∧ wHost.slot? 65535 = none ∧ (wSq 1).held = false ∧ wHost.dev.diePause = false ∧ wHost.dev.ps < 3
    ∧ wHost.yields (wSq 1) = false
    ∧ wHost.entryParity (wSq 1) .none = .none ∧ wHost.mayTake 0 = true
    ∧ wHost.takeStatus 0 (wHost.nextEntry (wSq 1)) .none = none
    ∧ sqeOp (wHost.nextEntry (wSq 1)) ≠ opBarrier := by decide +kernel
def wAdmin : State := wHostQ wFlat (wSq 1) |>.setSubq (wSq 0)
theorem wit_take_admin : wAdmin.running ∧ wAdmin.subq? 0 0 = some (wSq 0) ∧ wAdmin.engineRuns = true ∧ wAdmin.ctrlServes 0 = true
    ∧ (wSq 0).ready = true ∧ wAdmin.slot? 9 = none ∧ wAdmin.dev.diePause = false ∧ wAdmin.entryParity (wSq 0) .none = .none
    ∧ wAdmin.mayTake 0 = true := by decide +kernel
def wBarQ : Sq := { wSq 1 with entries := [wSqe 0x8C 7 1 0 0 0] }
/-- The spindle in IDLE and in mode `m`. -/
def wSpn (m : Nat) : State := (State.reset.setUnitState .spn stIdle).setF .spn F.SPN_STAT_MODE m
/-- A motor configuration that START accepts. -/
def wMotor (s : State) : State :=
  ([(F.SPN_MOT_R_RS, 100), (F.SPN_MOT_R_LS, 200), (F.SPN_MOT_K_KE, 1), (F.SPN_MOT_K_FLUX_REF, 100), (F.SPN_HOLDUP_CFG_INERTIA, 5),
    (F.SPN_ILIM_ILIM_TRIP, 2000), (F.SPN_ILIM_ILIM_RUN, 1000), (F.SPN_VBUS_LIM_VBUS_HI, 1400), (F.SPN_VBUS_LIM_VBUS_TRIP, 1600),
    (F.SPN_EST_CFG_HFI_UP, 700), (F.SPN_EST_CFG_HFI_DN, 500), (F.SPN_REGEN_VBUS_REG, 1200)] : List (Field × Nat)).foldl
    (fun t e => t.setF .spn e.1 e.2) s
/-- The device is in power state 3 and returns to `op`; the spindle is stopped, and with `st` the entry stopped it. -/
def wAsleep (st : Bool) : State :=
  let t := wMotor ((wHost.setUnitState .spn stIdle).setF .spn F.SPN_STAT_MODE spStopped)
  { t with dev := { t.dev with ps := 3, lastOp := 2, psStopped := st } }
theorem wit_take_wakes : ∀ b : Bool, (wAsleep b).running ∧ (wAsleep b).subq? 0 1 = some (wSq 1) ∧ (wAsleep b).engineRuns = true
    ∧ (wAsleep b).ctrlServes 0 = true ∧ (wSq 1).ready = true ∧ (wAsleep b).slot? 9 = none ∧ (wSq 1).held = false
    ∧ (wAsleep b).dev.diePause = false ∧ (wAsleep b).yields (wSq 1) = false ∧ (wAsleep b).entryParity (wSq 1) .none = .none
    ∧ (wAsleep b).mayTake 0 = true ∧ 3 ≤ (wAsleep b).dev.ps ∧ (wAsleep b).dev.lastOp < 3 ∧ (wAsleep b).dev.psStopped = b
    ∧ (wAsleep b).on .spn F.SPN_STAT_AT_SPEED = false ∧ (wAsleep b).takes .spn = true ∧ (wAsleep b).spMode = spStopped
    ∧ (wAsleep b).ploss = false ∧ (wAsleep b).spConfigBad = false
    ∧ (wAsleep b).takeStatus 0 ((wAsleep b).nextEntry (wSq 1)) .none = none
    ∧ sqeOp ((wAsleep b).nextEntry (wSq 1)) ≠ opBarrier := by decide +kernel
theorem wit_take_barrier : let s := wHostQ wFlat wBarQ
    s.running ∧ wBarQ.held = false ∧ s.dev.ps < 3 ∧ s.subq? 0 1 = some wBarQ ∧ s.engineRuns = true ∧ s.ctrlServes 0 = true ∧ wBarQ.ready = true ∧ s.slot? 9 = none
      ∧ s.dev.diePause = false ∧ s.yields wBarQ = false ∧ s.entryParity wBarQ .none = .none ∧ s.mayTake 0 = true
      ∧ s.takeStatus 0 (s.nextEntry wBarQ) .none = none ∧ sqeOp (s.nextEntry wBarQ) = opBarrier := by decide +kernel

/-- A slot in LOCKWAIT, with a lock. -/
def wWait (op : Nat) : Slot := { wSlot .lockwait (wSqe op 7 1 40 1 0) with lock := some ⟨1, 40, 2, true⟩, waitedLock := true }
theorem wit_lockGrant : ∀ op : Fin 9, let s := wHost.setSlot 9 (wWait op.val)
    s.running ∧ s.live .cmd = true ∧ s.cmd.stopped = false ∧ s.slot? 9 = some (wWait op.val)
      ∧ s.lockConflict (wWait op.val) ⟨1, 40, 2, true⟩ = false := by decide +kernel
theorem wit_lockGrant_kinds : (wWait 1).engineWrite = true ∧ (wWait 8).engineWrite = false ∧ sqeOp (wWait 8).sqe ≠ opRead
    ∧ ((wHost.setSlot 9 (wWait 8)).setSlot 4 { wWait 1 with order := 2 }).lockConflict (wWait 8) ⟨1, 40, 2, true⟩ = true := by
  decide +kernel
def wWork : WorkEntry := ⟨wSqe 8 7 1 40 1 0, 9, 0, 1, 0, 0, 0, 0⟩
/-- Pool 0's rings are enabled, with 8 entries each, in its work SRAM. -/
def wRings (s : State) : State :=
  ([(Reg.CMD_WQp_CTL, 0x80000007), (Reg.CMD_WQp_BASE, 0x20000000), (Reg.CMD_CQp_CTL, 0x80000007), (Reg.CMD_CQp_BASE, 0x20001000),
    (Reg.CMD_CQp_TAIL, 1)] : List (Nat × Word)).foldl (fun t e => t.setReg .cmd e.1 e.2) (s.setF .cmd F.CMD_CTL_POOL_MASK 1)
def wPlaced : State :=
  let s := wRings (wHost.setSlot 9 (wWait 8))
  { s with cmd := { s.cmd with workQ := [wWork] } }
theorem wit_workEntry : wPlaced.running ∧ wPlaced.live .cmd = true ∧ wPlaced.cmd.stopped = false ∧ wPlaced.cmd.workQ = wWork :: []
    ∧ wPlaced.workPool = some 0 ∧ (wPlaced.workRing 0).full = false ∧ wPlaced.slot? wWork.slot = some (wWait 8)
    ∧ wWork.kind ≠ 1 := by decide +kernel
def wAtWork : Slot := wSlot .work (wSqe 8 7 1 40 1 0)
def wRinged : State := (wPlaced.setByte 0x20001008 9).setSlot 9 wAtWork
theorem wit_ring : (wRinged.cplRing 0).empty = false
    ∧ wRinged.slot? ((wRinged.word ((wRinged.reg .cmd (Reg.CMD_CQp_BASE + ringOff 0)).toNat / 16 * 16
        + 16 * (wRinged.cplRing 0).head + 8)).toNat % 2 ^ 16) = some wAtWork
    ∧ wAtWork.st.isOpen = true ∧ wAtWork.st ≠ .fast := by decide +kernel
theorem wit_ring_free : (wPlaced.cplRing 0).empty = false
    ∧ wPlaced.slot? ((wPlaced.word ((wPlaced.reg .cmd (Reg.CMD_CQp_BASE + ringOff 0)).toNat / 16 * 16
        + 16 * (wPlaced.cplRing 0).head + 8)).toNat % 2 ^ 16) = none := by decide +kernel
def wDrain : Slot := wSlot .drain (wSqe 8 7 1 40 1 0)
theorem wit_slotFree : (wHost.setSlot 9 wDrain).slot? 9 = some wDrain ∧ (wHost.setSlot 9 wDrain).drainHeld 9 wDrain = false := by
  decide +kernel
theorem wit_hfree : wHost.inReset .cmd = false := by decide +kernel
def wKey : State := (wHost.setSlot 9 wAtWork).setAbt (.core 0) (0x00070001, 0)
theorem wit_abortAttempt : wKey.running ∧ wKey.inReset .cmd = false ∧ wKey.cmd.stopped = false ∧ F.CMD_ABT_GO_GO.get 0x80000000 = 1
    ∧ wKey.cmd.slots.find? (fun (e : Nat × Slot) => e.2.fn == F.CMD_ABT_GO_FN.get 0x80000000
      && e.2.sqid == F.CMD_ABT_KEY_SQID.get (wKey.abt (.core 0)).1 && e.2.cid == F.CMD_ABT_KEY_CID.get (wKey.abt (.core 0)).1
      && F.CMD_ABT_KEY_SQID.get (wKey.abt (.core 0)).1 != 0 && e.2.st.isOpen) = some (9, wAtWork) := by decide +kernel
theorem wit_abortAttempt_none : wHost.cmd.slots.all (fun (e : Nat × Slot) => !(e.2.fn == F.CMD_ABT_GO_FN.get 0x80000000
      && e.2.sqid == F.CMD_ABT_KEY_SQID.get (wHost.abt (.core 0)).1 && e.2.cid == F.CMD_ABT_KEY_CID.get (wHost.abt (.core 0)).1
      && F.CMD_ABT_KEY_SQID.get (wHost.abt (.core 0)).1 != 0)) = true := by decide +kernel
/-- All channels carry transfers of slot 9, and an urgent transfer of slot 5 waits. -/
def wUrgent : State :=
  let s := (wHost.setSlot 5 wAtWork).setCtrl 0 { Ctrl.reset with en := true, rdy := true, wrr := true }
  let t := ((s.setReg .buf Reg.BUF_DSR_BASE 0x10000000).setF .cmd F.CMD_PREEMPT_PE_EN 1).setF .cmd F.CMD_PREEMPT_QUANTUM 4
  { t with cmd := { t.cmd with dma := (List.range 16).map (fun i => (i, ⟨9, 3, 8, 8, 2, true, 0⟩)),
                               dmaWait := [⟨5, 3, 0, 0, 2, true, 0⟩] } }
theorem wit_preempt : wUrgent.running ∧ wUrgent.live .cmd = true ∧ wUrgent.chan? 2 = some ⟨9, 3, 8, 8, 2, true, 0⟩
    ∧ wUrgent.dsrBase = some 0x10000000 ∧ wUrgent.on .cmd F.CMD_PREEMPT_PE_EN = true ∧ wUrgent.quantum ≤ 8
    ∧ wUrgent.urgentWaits = true ∧ wUrgent.ctx? 4 = none := by decide +kernel
def wPreempted : State :=
  let s := wHost.setReg .buf Reg.BUF_DSR_BASE 0x10000000
  { s with buf := { s.buf with ctxs := [(4, ⟨true, 1, 9, 3, 8, 2, 1, 0, 0⟩)] } }
theorem wit_resume : wPreempted.running ∧ wPreempted.live .cmd = true ∧ wPreempted.cmd.stopped = false
    ∧ wPreempted.ctx? 4 = some ⟨true, 1, 9, 3, 8, 2, 1, 0, 0⟩ ∧ wPreempted.urgentWaits = false ∧ wPreempted.chan? 2 = none
    ∧ wPreempted.dev.diePause = false ∧ wPreempted.dsrBase = some 0x10000000 := by decide +kernel
/-- The link of port 0 is up, and one VF exists. -/
def wLink (s : State) : State := s.setF (.pep 0) F.PEP_STAT_LINK_UP 1
theorem wit_ctrlReset : (wLink wHost).running ∧ (wLink wHost).fnExists 0 = true ∧ (wLink wHost).linkIsUp ((wLink wHost).fnPort 0) = true
    ∧ (wLink wHost).cmd.slots.all (fun (e : Nat × Slot) => e.2.fn != 0) = true ∧ (wLink wHost).isPf 0 = true
    ∧ ((wLink wHost).port ((wLink wHost).fnPort 0)).numVfs = 0 := by decide +kernel
def wVf : State := (wLink wHost).setPort 0 { (wLink wHost).port 0 with numVfs := 1 }
theorem wit_flr_vf : wVf.running ∧ wVf.isPf 1 = false ∧ wVf.fnExists 1 = true ∧ wVf.linkIsUp (wVf.fnPort 1) = true
    ∧ wVf.cmd.slots.all (fun (e : Nat × Slot) => e.2.fn != 1) = true := by decide +kernel
def wReadSlot (st : SlotState) : Slot := { wSlot st (wSqe 2 7 1 40 1 0) with decoded := false }
theorem wit_ctrlReset_slot : let s := (wLink wHost).setSlot 9 (wReadSlot .taken)
    s.running ∧ s.fnExists 0 = true ∧ s.linkIsUp (s.fnPort 0) = true ∧ s.cmd.stopped = false ∧ s.cmd.slots = [(9, wReadSlot .taken)]
      ∧ (wReadSlot .taken).st.isOpen = true ∧ (wReadSlot .taken).anyWrite = false := by decide +kernel

/-- Slot 9 holds an undecoded command of opcode `op`, blocks 40 and 41. -/
def wNew (op : Nat) : Slot := { wSlot .taken (wSqe op 7 1 40 1 0) with decoded := false }
def wDec (op : Nat) : State := wHost.setSlot 9 (wNew op)
def wCovered : State :=
  let s := (wDec 2).setF .cmd F.CMD_CTL_FP_EN 1
  { s with cmd := { s.cmd with exts := [(0, ⟨true, 0, 32, 31, 3, none⟩)] } }
theorem wit_read_fast : wCovered.running ∧ wCovered.nextDecode 9 opRead = some (wNew 2) ∧ wCovered.locksUsed < 2048
    ∧ wCovered.rangeFor (wNew 2) true = .inl wFlat ∧ wCovered.locksUsed < 2048 ∧ wCovered.entryWaiter (wNew 2) = false
    ∧ wCovered.lockConflict (wNew 2) ((wNew 2).wants wFlat) = false ∧ wCovered.readsLost (wNew 2) = false
    ∧ wCovered.readReason (wNew 2) wFlat = none ∧ (wNew 2).bound = none
    ∧ wCovered.keyCheck wFlat (wNew 2).lba (sqeTag (wNew 2).sqe) false = .inl (0, 1) := by decide +kernel
theorem wit_read_pass : (wDec 2).running ∧ (wDec 2).locksUsed < 2048 ∧ (wDec 2).entryWaiter (wNew 2) = false
    ∧ (wDec 2).lockConflict (wNew 2) ((wNew 2).wants wFlat) = false ∧ (wDec 2).readsLost (wNew 2) = false ∧ (wDec 2).nextDecode 9 opRead = some (wNew 2) ∧ (wDec 2).rangeFor (wNew 2) true = .inl wFlat
    ∧ (wDec 2).readReason (wNew 2) wFlat = some 1 := by decide +kernel
/-- The Read is in FAST, and handles 11 and 12 hold its blocks in mapped pages. -/
def wFast : State :=
  let s := ([(F.BUF_STAT_TRAINED, 1), (F.BUF_CFG_SIZE, 1), (F.BUF_HDL_LIMIT_LIMIT, 16), (F.BUF_FW_PAGES_PAGES, 1)]
    : List (Field × Nat)).foldl (fun t e => t.setF .buf e.1 e.2) ((wCovered.setSlot 9 (wReadSlot .fast)).setUnitState .buf stIdle)
  (s.setBtt 11 0x80000005).setBtt 12 0x80000006
theorem wit_read_end : wFast.running ∧ wFast.live .cmd = true ∧ wFast.cmd.stopped = false ∧ wFast.cmd.slots = [(9, wReadSlot .fast)]
    ∧ wFast.fastStalls (wReadSlot .fast) = false ∧ wFast.dev.diePause = false ∧ (wFast.fastRead (wReadSlot .fast) .good).2.1 = none
    ∧ (wReadSlot .fast).ordered = false ∧ sqeOp (wReadSlot .fast).sqe = opRead
    ∧ wFast.subq? 0 1 = some (wSq 1) ∧ wFast.compq? 0 1 = some (wCq 1) := by decide +kernel
theorem wit_write : (wDec 1).running ∧ (wDec 1).nextDecode 9 opWrite = some (wNew 1) ∧ (wDec 1).heldByAction (wNew 1) = false
    ∧ wFlat.zoned = false ∧ (wNew 1).inserted = false ∧ (wNew 1).granules = [] ∧ (wDec 1).cacheHolds (wNew 1) = false ∧ (wDec 1).rangeFor (wNew 1) true = .inl wFlat
    ∧ (wDec 1).keyCheck wFlat (wNew 1).lba (sqeTag (wNew 1).sqe) true = .inl (0, 1) ∧ (wDec 1).locksUsed < 2048
    ∧ (wDec 1).entryWaiter (wNew 1) = false ∧ (wDec 1).lockConflict (wNew 1) ((wNew 1).wants wFlat) = false
    ∧ (wDec 1).granuleWaiter (wNew 1) = false ∧ (wDec 1).withinLimit (sqeCount (wNew 1).sqe) = true
    ∧ sqeCount (wNew 1).sqe ≤ (wDec 1).freeGranules := by decide +kernel
def wApp : Slot := { wSlot .taken (wSqe 0x7D 7 1 0 1 0) with decoded := false }
def wAppend : State := ((wHostQ wNs (wSq 1)).setZone 1 0 { Zone.reset with st := .implOpen, wp := 50 }).setSlot 9 wApp
theorem wit_append : wAppend.running ∧ wAppend.nextDecode 9 opZoneAppend = some wApp ∧ wApp.lock = none ∧ wAppend.heldByAction wApp = false
    ∧ wNs.zoned = true ∧ wApp.inserted = false ∧ wApp.granules = [] ∧ wAppend.rangeFor wApp true = .inl wNs
    ∧ wAppend.keyCheck wNs wApp.lba (sqeTag wApp.sqe) true = .inl (0, 1) ∧ wApp.lba % zoneSize = 0
    ∧ (wAppend.zone 1 0).st = .implOpen ∧ (wAppend.zone 1 0).wp + sqeCount wApp.sqe < wNs.cap 0 ∧ wAppend.locksUsed < 2048
    ∧ wAppend.entryWaiter wApp = false ∧ wAppend.lockConflict wApp ⟨1, 50, 2, true⟩ = false
    ∧ wAppend.granuleWaiter wApp = false ∧ wAppend.withinLimit 2 = true ∧ 2 ≤ wAppend.freeGranules := by decide +kernel
def wDirty (op : Nat) : State := { wDec op with cmd := { (wDec op).cmd with exts := [(0, ⟨true, 0, 32, 31, 3, some (0, 1)⟩)] } }
theorem wit_flush : (wDec 0).running ∧ (wDec 0).nextDecode 9 opFlush = some (wNew 0) ∧ sqeNsid (wNew 0).sqe ≠ 0xFFFFFFFF
    ∧ (wDec 0).nsFor (wNew 0) = .inl wFlat
    ∧ (wDec 0).cmd.exts.all (fun (e : Nat × Extent) => !(e.2.dirty && e.2.nsx == nsxOf wFlat.nsid)) = true := by decide +kernel
theorem wit_flush_wait : (wDirty 0).running ∧ sqeNsid (wNew 0).sqe ≠ 0xFFFFFFFF ∧ (wDirty 0).nextDecode 9 opFlush = some (wNew 0) ∧ (wDirty 0).nsFor (wNew 0) = .inl wFlat
    ∧ (wDirty 0).vaultFitted = false ∧ (wDirty 0).dirtyBlocks (fun e => e.nsx == nsxOf wFlat.nsid) ≠ [] := by decide +kernel
theorem wit_pool_common : ∀ op : Fin 10, (wDec op.val).running ∧ (wDec op.val).heldByAction (wNew op.val) = false
    ∧ (wDec op.val).locksUsed < 2048 ∧ (wDec op.val).entryWaiter (wNew op.val) = false
    ∧ (wDec op.val).lockConflict (wNew op.val) ((wNew op.val).wants wFlat) = false := by decide +kernel
theorem wit_pool_each : (wDec 5).nextDecode 9 opCompare = some (wNew 5) ∧ (wDec 5).rangeFor (wNew 5) true = .inl wFlat
    ∧ (wDec 5).keyCheck wFlat (wNew 5).lba (sqeTag (wNew 5).sqe) false = .inl (0, 1)
    ∧ (wDec 8).nextDecode 9 opWriteZeroes = some (wNew 8) ∧ (wDec 8).rangeFor (wNew 8) false = .inl wFlat
    ∧ (wDec 4).nextDecode 9 opWriteUnc = some (wNew 4) ∧ (wDec 4).rangeFor (wNew 4) false = .inl wFlat := by decide +kernel
def wDsm : Slot := { wNew 9 with sqe := (wNew 9).sqe.set 11 4 }
theorem wit_dsm : (wHost.setSlot 9 wDsm).nextDecode 9 opDsm = some wDsm ∧ (wHost.setSlot 9 wDsm).nsFor wDsm = .inl wFlat
    ∧ sqeBits wDsm.sqe 11 2 1 = 1 ∧ (wDec 9).nextDecode 9 opDsm = some (wNew 9) ∧ (wDec 9).nsFor (wNew 9) = .inl wFlat
    ∧ sqeBits (wNew 9).sqe 11 2 1 = 0 := by decide +kernel
def wBar : Slot := { wSlot .taken (wSqe 0x8C 7 1 0 0 0) with decoded := false }
theorem wit_barrier : let s := wHost.setSlot 9 wBar
    s.running ∧ s.nextDecode 9 opBarrier = some wBar ∧ sqeBits wBar.sqe 10 0 1 = 0 ∧ wBar.acted = false
      ∧ s.cmd.slots.all (fun (e : Nat × Slot) =>
          !(e.2.fn == wBar.fn && e.2.sqid == wBar.sqid && decide (e.2.order < wBar.order) && e.2.st.isOpen)) = true
      ∧ s.subq? wBar.fn wBar.sqid = some (wSq 1) := by decide +kernel
def wFilled : Slot := { wWriteSlot with filled := 2 }
theorem wit_extentInsert : let s := wHost.setSlot 9 wFilled
    s.running ∧ s.live .cmd = true ∧ s.cmd.stopped = false ∧ s.slot? 9 = some wFilled ∧ wFilled.engineWrite = true
      ∧ wFilled.st = .taken ∧ wFilled.inserted = false
      ∧ wFilled.granules = [(3, sqeCount wFilled.sqe)] ∧ wFilled.filled = sqeCount wFilled.sqe
      ∧ s.touched (nsxOf (sqeNsid wFilled.sqe)) wFilled.lba (sqeCount wFilled.sqe) = []
      ∧ wFilled.lba % 256 + sqeCount wFilled.sqe ≤ 256 ∧ s.cmd.exts.length < 131072
      ∧ s.writeThrough wFilled.fn (sqeFua wFilled.sqe) = false ∧ 0 ≤ s.cmd.exts.length
      ∧ Sparse.find? s.cmd.exts 0 = none := by decide +kernel
def wStaged : State :=
  let s := (wHost.setReg .cmd Reg.CMD_EXT_IDX 5).setF .buf F.BUF_HDL_LIMIT_LIMIT 16
  { s with cmd := { s.cmd with staged := [(1, 64), (2, 0x300), (3, 8)] } }
theorem wit_extCommit : wStaged.running ∧ wStaged.inReset .cmd = false ∧ F.CMD_EXT_DATA_W0_VALID.get 0xC0000000 = 1
    ∧ (wStaged.extRead 5 1).toNat + 2 ^ 32 * F.CMD_EXT_DATA_W2_SLBA_HI.get (wStaged.extRead 5 2) = 64
    ∧ F.CMD_EXT_DATA_W2_LEN_M1.get (wStaged.extRead 5 2) = 3 ∧ F.CMD_EXT_DATA_W3_HANDLE.get (wStaged.extRead 5 3) = 8
    ∧ wStaged.f .cmd F.CMD_EXT_IDX_ENTRY = 5 ∧ Sparse.find? wStaged.cmd.exts 5 = none
    ∧ wStaged.cmd.exts.all (fun (o : Nat × Extent) => !o.2.meets 0 64 4) = true ∧ 64 % 256 + 3 ≤ 255
    ∧ 8 + 3 < wStaged.f .buf F.BUF_HDL_LIMIT_LIMIT := by decide +kernel
theorem wit_extClear : let s : State := { wStaged with cmd := { wStaged.cmd with exts := [(5, ⟨false, 0, 64, 3, 8, none⟩)] } }
    s.running ∧ s.inReset .cmd = false ∧ F.CMD_EXT_DATA_W0_VALID.get 0 = 0 ∧ Sparse.find? s.cmd.exts (s.f .cmd F.CMD_EXT_IDX_ENTRY) = some ⟨false, 0, 64, 3, 8, none⟩ := by
  decide +kernel
theorem wit_features : wHost.running ∧ wHost.ctrlServes 0 = true ∧ wHost.svcs.chrysalis = false
    ∧ wHost.subq? 0 ((1 : Word).toNat % 2 ^ 16) = some (wSq 1) ∧ wHost.subq? 0 ((7 : Word).toNat % 2 ^ 16) = none
    ∧ wHost.ns? 1 = some wFlat ∧ (0x10000 : Word).toNat / 2 ^ 8 % 2 ^ 9 = 256
    ∧ (0x100 : Word).toNat / 2 ^ 8 % 2 ^ 9 = 1 := by decide +kernel
theorem wit_twin_save : let s : State := { wHost with hzl := { wHost.hzl with block := 1 } }
    s.sealKey.sealReady = true ∧ s.hzl.standing = none ∧ wHost.sealKey.sealReady = false := by decide +kernel

/-! ### Witnesses of the statements: file part 12 -/

/-- Port 0 is enabled and its link is down. -/
def wPort : State := (wHost.setUnitState (.pep 0) stIdle).setPort 0 { wHost.port 0 with perst := false }
theorem wit_linkUp : wPort.running ∧ wPort.takes (.pep 0) = true ∧ wPort.linkIsUp 0 = false ∧ (wPort.port 0).perst = false := by
  decide +kernel
theorem wit_linkDown : (wLink wHost).running ∧ (wLink wHost).linkIsUp 0 = true ∧ (wLink wHost).cmd.slots = []
    ∧ (wLink wHost).hasCmb 0 = true ∧ ((wLink wHost).port 0).numVfs ≤ 2 ∧ 2 ≤ (wLink wHost).totalVfs := by decide +kernel
theorem wit_vfClear : wVf.linkIsUp 0 = true ∧ 0 ≤ (wVf.port 0).numVfs ∧ wVf.cmd.slots = [] ∧ wVf.fnPort 1 = 0 ∧ wVf.isPf 1 = false
    ∧ wVf.fnExists 1 = true ∧ 0 < wVf.vfNum 1 := by decide +kernel
def wZeroing : State := (wLink wHost).setPort 0 { (wLink wHost).port 0 with zeroing := true }
theorem wit_cmbZeroing : wZeroing.running ∧ (wZeroing.port 0).zeroing = true ∧ wZeroing.hasCmb 0 = true ∧ wZeroing.linkIsUp 0 = true
    ∧ wZeroing.cmbRange 64 4 = true := by decide +kernel
theorem wit_cmb : (wLink wHost).cmbRange 0x1FFFFC 4 = true ∧ ((wLink wHost).port 0).zeroing = false
    ∧ 0x1FFFFC < (wLink wHost).cmbSram ∧ (wLink wHost).buf.sramBad = [] := by decide +kernel
theorem wit_anaWrite : wHost.running ∧ wPort.inReset (.pep 0) = false ∧ F.PEP_ANA_DATA_STATE.get 15 ∈ anaStates
    ∧ F.PEP_ANA_DATA_STATE.get 4 ∉ anaStates ∧ wPort.fnPort 0 = 0 ∧ wPort.fnExists 0 = true := by decide +kernel
theorem wit_hostRead : wHost.fnPort 0 = 0 ∧ wHost.ctrlServes 0 = true ∧ (wHost.subq? 0 1).isSome = true := by decide +kernel
theorem wit_hostRead_data : let s := wHost.setSlot 9 wAtWork
    s.running ∧ s.ctrlServes 0 = true ∧ s.slot? 9 = some wAtWork ∧ wAtWork.fn = 0 ∧ wAtWork.st.isOpen = true ∧ s.cmd.stopped = false := by
  decide +kernel
/-- Controller 0 is not enabled. -/
def wOff : State := (wLink wHost).setCtrl 0 Ctrl.reset
theorem wit_enable : wOff.running ∧ wOff.fnExists 0 = true ∧ wOff.linkIsUp (wOff.fnPort 0) = true ∧ (wOff.ctrl 0).en = false
    ∧ (wOff.ctrl 0).rdy = false ∧ wOff.isPf 0 = true ∧ wOff.hasCmb (wOff.fnPort 0) = true := by decide +kernel
theorem wit_shutdown : wHost.fnExists 0 = true ∧ (wHost.ctrl 0).en = true ∧ (wHost.ctrl 0).shn ≠ 2 ∧ wHost.dirtyGranules = 0
    ∧ (wDirty 0).running ∧ (wDirty 0).fnExists 0 = true ∧ ((wDirty 0).ctrl 0).en = true ∧ ((wDirty 0).ctrl 0).shn ≠ 2
    ∧ (wDirty 0).vaultFitted = false ∧ (wDirty 0).dirtyGranules ≠ 0 := by decide +kernel
theorem wit_createCq : wHost.queueIdOk 0 (wHost.ctrl 0).ncq 2 = true ∧ wHost.compq? 0 2 = none ∧ 3 < wHost.vec 0 := by decide +kernel
theorem wit_createSq : wHost.queueIdOk 0 (wHost.ctrl 0).nq 3 = true ∧ wHost.subq? 0 3 = none ∧ (wHost.compq? 0 1).isSome = true ∧ wHost.isPf 0 = true
    ∧ wHost.hasCmb (wHost.fnPort 0) = true ∧ (0x3FFE000 : Nat) + 64 * 128 ≤ cmbSize := by decide +kernel
theorem wit_deleteSq : (wHost.subq? 0 1).isSome = true ∧ wHost.cmd.stopped = false
    ∧ wHost.cmd.slots.all (fun (e : Nat × Slot) => !(e.2.fn == 0 && e.2.sqid == 1 && e.2.st.isOpen)) = true := by decide +kernel
def wAgg : State := wHost.setCtrl 0 { wHost.ctrl 0 with agg := [(2, 3)] }
theorem wit_agg : wAgg.running ∧ Sparse.find? (wAgg.ctrl 0).agg 2 = some 3 ∧ (wAgg.msixOf 0).masked.contains 2 = false := by
  decide +kernel
/-- The function's MSI-X is off, or its vector 2 is masked. -/
def wMsix (off : Bool) : State :=
  { wAgg with hosts := { wAgg.hosts with msixTab := Sparse.insert [] 0 { Msix.reset with off := off, masked := if off then [] else [2] } } }
theorem wit_agg_off : ∀ b : Bool, (wMsix b).running ∧ Sparse.find? ((wMsix b).ctrl 0).agg 2 = some 3
    ∧ ((wMsix b).msixOf 0).off = b ∧ ((wMsix b).msixOf 0).masked.contains 2 = !b := by decide +kernel
theorem wit_cache : wHost.vaultFitted = false ∧ wHost.dirtyGranules = 0 ∧ (wHost.ctrl 0).events = [] := by decide +kernel
def wEvent : State := wHost.setCtrl 0 { wHost.ctrl 0 with events := [⟨2, 0, 4⟩] }
theorem wit_aer : wEvent.running ∧ wEvent.ctrlServes 0 = true ∧ wEvent.svcs.chrysalis = false ∧ wEvent.cmd.stopped = false
    ∧ (wEvent.ctrl 0).events = [⟨2, 0, 4⟩] ∧ (wEvent.ctrl 0).aers = []
    ∧ wEvent.subq? 0 0 = some { wSq 0 with entries := [] } ∧ wEvent.compq? 0 0 = some (wCq 0) := by decide +kernel
theorem wit_identify : wHost.running ∧ wHost.ctrlServes 0 = true ∧ wHost.svcs.chrysalis = false ∧ wHost.ns? 1 = some wFlat
    ∧ (0 : Nat) ∈ wFlat.attached := by decide +kernel
theorem wit_logs : (4 : Nat) ≤ (wHost.errorLog 0).length ∧ 4 ≤ wHost.slotLog.length ∧ 4 ≤ wHost.settingsLog.length
    ∧ 4 ≤ wHost.bootLog.length ∧ 4 ≤ wHost.shutLog.length ∧ 4 ≤ wHost.headLog.length := by decide +kernel
def wPool : State := wHost.setUnitState (.pool 1) stIdle
theorem wit_security : wPool.running ∧ wPool.ctrlServes 0 = true ∧ wPool.svcs.chrysalis = false ∧ (0x01 : BitVec 8).toNat ∈ secProtocols
    ∧ wPool.live (.pool 1) = true ∧ wPool.region 0x10000040 = some .sysSram ∧ wPool.inWork 0x10000040 64 = true
    ∧ wPool.inWork 0x10001000 12 = true ∧ (wPool.rqs 2).length < 8 := by decide +kernel
theorem wit_format : formatOk 8 1 = true ∧ wHost.nsNamed 1 = [wFlat] ∧ wHost.nsBusy 1 = false
    ∧ (wHost.nsSlots 1).any wHost.keyFull = false := by decide +kernel
/-- Four bands of 99,840 blocks. -/
def wFour : List Band := (List.range 4).map (fun k => { wBand100 with first := 103 * k })
def wOne : List Band := [wBand100]
def wTwo : List Band := [{ wBand100 with first := 103 }, { wBand100 with first := 206 }]
def wLast : List Band := [{ wBand100 with first := 309 }]
/-- The four bands are free. -/
def wBands : State := { wHost with hosts := { wHost.hosts with freeBands := wFour } }
def wSpec : NsSpec :=
  { zoned := false, bands := wOne, free := wTwo, ms := 0, pi := 0, kpio := false, ana := 1, attached := [0] }
theorem wit_nsCreate : wBands.running ∧ wBands.ctrlServes 0 = true ∧ wBands.svcs.chrysalis = false
    ∧ wSpec.attached.all (fun f => wBands.fnExists f.val) = true ∧ formatOk wSpec.ms wSpec.pi = true
    ∧ takeBands (wSpec.bands ++ wSpec.free) wBands.hosts.freeBands = some wLast
    ∧ bandsOk wSpec.zoned (wSpec.bands.map Band.cap) wSpec.free = true ∧ 1 ≤ wSpec.ana ∧ wSpec.ana ≤ 32 ∧ wSpec.bands ≠ []
    ∧ (List.range 256).find? (fun k => (wBands.ns? (k + 1)).isNone) = some 1 ∧ wBands.drbgDue = false ∧ wBands.keyFull 1 = false := by
  decide +kernel
theorem wit_nsResize : wBands.ns? 1 = some wFlat ∧ wOne ≠ []
    ∧ wOne.take (min wOne.length wFlat.bands.length) = wFlat.bands.take (min wOne.length wFlat.bands.length)
    ∧ takeBands (wOne ++ wTwo) (wBands.hosts.freeBands ++ wFlat.bands ++ wFlat.free) = some wLast
    ∧ bandsOk wFlat.zoned (wFlat.lens.take (min wOne.length wFlat.bands.length)
        ++ (wOne.drop (min wOne.length wFlat.bands.length)).map Band.cap) wTwo = true ∧ wBands.nsBusy 1 = false := by decide +kernel
theorem wit_mi : miConfigOk 1 3 = true ∧ wHost.mgmt.busBusy = false
    ∧ Sparse.find? ((wHost.setMgmt { wHost.mgmt with config := [(3, 128)] }).mgmt.config) 3 = some 128 := by decide +kernel
def wServe : State := wHost.setF .svc F.SVC_BOOT_CTL_SERVING 1
theorem wit_tunnel : wServe.running ∧ wServe.fnExists 0 = true ∧ sqeOp (wSqe 6 7 0 0 0 0) ∈ wServe.tunnelOps ∧ wServe.slot? 9 = none
    ∧ wServe.serves = true ∧ wServe.engineRuns = true ∧ wServe.keptFree 0 = true := by decide +kernel

/-! ### Witnesses of the statements: file part 07 -/

theorem wit_assistModelPeriod : let s := wHamr State.reset
    s.running ∧ s.live (.ast 0) = true ∧ (100 : Nat) ≤ 512 ∧ (s.at 0).spWas = none
      ∧ (s.setAt 0 { s.at 0 with spWas := some 7 }).live (.ast 0) = true := by decide +kernel
/-- The assist gate of lane 0 is high, armed for a HAMR head. -/
def wGate : State :=
  let s := (((wHamr State.reset).setF (.ast 0) F.AST_STAT_ARMED 1).setF (.ast 0) F.AST_STAT_AGATE 1).setF (.ast 0) F.AST_STAT_SP 10
  s.setAt 0 { s.at 0 with row := [F.AST_HD_DATA_W0_KIND.put 0 1, F.AST_HD_DATA_W1_MON_HI.put 0 0xFF] }
theorem wit_assistCheck_first : wGate.running ∧ wGate.live (.ast 0) = true ∧ wGate.agate 0 = true ∧ (wGate.at 0).sinceCheck = 0
    ∧ (wGate.at 0).repeated = none ∧ (wGate.at 0).withdrawn = false ∧ (wGate.at 0).queue = []
    ∧ wGate.monOk 0 8 = true ∧ wGate.monOk 0 255 = false := by decide +kernel
def wFrame (s : State) (q : List Frame) (r : Option Frame) : State := s.setAt 0 { s.at 0 with queue := q, repeated := r }
theorem wit_assistCheck_repeat : let s := wFrame wGate [.check 0x18 true, .sliderCheck] none
    s.running ∧ s.live (.ast 0) = true ∧ s.agate 0 = true ∧ (s.at 0).repeated = none ∧ (s.at 0).withdrawn = false
      ∧ (s.at 0).queue = .check 0x18 true :: [.sliderCheck] ∧ s.monOk 0 255 = false := by decide +kernel
theorem wit_sliderRead : let s := wFrame wGate [.sliderCheck] none
    s.running ∧ s.live (.ast 0) = true ∧ (s.at 0).repeated = none ∧ (s.at 0).withdrawn = false
      ∧ (s.at 0).dueFrame = some .sliderCheck ∧ signed 8 (0 % 256) ≤ s.sliderMax 0 ∧ s.sliderMax 0 < signed 8 (1 % 256)
      ∧ s.agate 0 = true := by decide +kernel
theorem wit_agTimeouts : wGate.running ∧ wGate.agate 0 = true ∧ (wGate.lane 0).wgate = false := by decide +kernel
theorem wit_halyardFrame : let s := wFrame (wHamr State.reset) [.telemetry 0, .headSel 2] none
    s.running ∧ s.live (.ast 0) = true ∧ (s.at 0).repeated = none ∧ (s.at 0).dueFrame = some (.headSel 2)
      ∧ F.AST_HD_DATA_W0_KIND.get ((s.at 0).hdWord 2 0) ≠ 1 ∧ HalReply.ack 0x3A ≠ .ack 0xC5 := by decide +kernel
theorem wit_halyardFrame_repeat : let s := wFrame (wHamr State.reset) [.telemetry 0] (some (.headSel 2))
    s.running ∧ s.live (.ast 0) = true ∧ (s.at 0).repeated = some (.headSel 2) ∧ HalReply.silent ≠ .ack 0xC5 := by decide +kernel

/-! ### Witnesses of the statements: file part 08 -/

theorem wit_spindleStart : let s := wMotor (wSpn spStopped)
    s.running ∧ s.inReset .spn = false ∧ s.spMode = spStopped ∧ s.ploss = false ∧ s.spConfigBad = false := by decide +kernel
theorem wit_spindleStart_ploss : let s := (wMotor (wSpn spStopped)).setF .spn F.SPN_STAT_PLOSS 1
    s.running ∧ s.inReset .spn = false ∧ s.ploss = true := by decide +kernel
theorem wit_spindleStart_fault : (wSpn Machine.spFault).running ∧ (wSpn Machine.spFault).inReset .spn = false
    ∧ (wSpn Machine.spFault).spMode = Machine.spFault := by decide +kernel
theorem wit_spindleStop : let s := wSpn spRun
    s.running ∧ s.inReset .spn = false ∧ s.spMode = spRun ∧ s.ploss = false ∧ s.chopFlt = false := by decide +kernel
theorem wit_spindleCoast : let s := wSpn spRun
    s.spMode ≠ spOff ∧ s.spMode ≠ Machine.spFault := by decide +kernel
/-- The spindle turns at `rpm` in mode `m`. -/
def wTurn (m rpm : Nat) : State := ((wSpn m).setF .spn F.SPN_SPEED_VALID 1).setF .spn F.SPN_SPEED_SPEED (rpm * 16)
theorem wit_dirWrite_stopped : (wSpn spStopped).running ∧ (wSpn spStopped).inReset .spn = false ∧ (wSpn spStopped).spMode = spStopped := by
  decide +kernel
theorem wit_dirWrite_turning : let s := wTurn spRun 60
    s.running ∧ s.inReset .spn = false ∧ s.spMode = spRun ∧ 960 ≤ s.spAbs ∧ (F.SPN_CTL_DIR.get 1 == 1) ≠ s.spn.dir := by decide +kernel
theorem wit_spindleFaultClear : let s := wUnit .spn |>.setF .spn F.SPN_STAT_MODE Machine.spFault
    s.running ∧ s.inReset .spn = false ∧ s.spMode = Machine.spFault ∧ s.spn.stageIn = false ∧ s.effEn .spn = true := by decide +kernel
theorem wit_dtcPeriod : let s := wMotor (wSpn spRun)
    let x : DtcSample := ⟨100, -100, 0, 0, 0, 0, 1400, 65535, 0⟩
    s.running ∧ s.clocked .spn = true ∧ s.spMode = spRun ∧ x.vbus ≤ s.f .spn F.SPN_VBUS_LIM_VBUS_TRIP
      ∧ x.vbus ≤ s.f .spn F.SPN_VBUS_LIM_VBUS_HI ∧ s.on .spn F.SPN_STAT_CHOP_ON = false ∧ s.sumOk x = true ∧ s.overTrip x = false
      ∧ s.spn.senseBad = false ∧ s.spn.tripped = false ∧ s.spn.ramp < 9 ∧ 0 ≤ s.spn.tRef
      ∧ x.rotor < 2 ^ 16 ∧ x.gain = 0 ∧ (s.setF .spn F.SPN_STAT_EST 1).overTrip x = false
      ∧ (s.setF .spn F.SPN_STAT_EST 1).on .spn F.SPN_STAT_EST = true ∧ (s.setF .spn F.SPN_STAT_EST 1).clocked .spn = true := by decide +kernel
theorem wit_dtcPeriod_trip : (wMotor (wSpn spRun)).spMode ≠ spOff ∧ (wMotor (wSpn spRun)).f .spn F.SPN_VBUS_LIM_VBUS_TRIP < 1601 := by
  decide +kernel
theorem wit_spindle_modes : ∀ m : Fin 12, (wSpn m.val).running ∧ (wSpn m.val).live .spn = true ∧ (wSpn m.val).spMode = m.val
    ∧ (wSpn m.val).spn.losOnce = false ∧ (wSpn m.val).spn.alignTry = 0 := by decide +kernel
def wSpnS (s : State) (p : Spindle) : State := { s with spn := p }
theorem wit_spinupTimeout : ∀ k : Fin 3, let s := wSpnS (wSpn spAccel) { Spindle.reset with startTry := k.val }
    s.running ∧ s.live .spn = true ∧ s.spMode = spAccel ∧ s.spn.startTry = k.val := by decide +kernel
theorem wit_lossOfSync : let s := wSpnS ((wSpn spRun).setF .spn F.SPN_CTL_LOS_EN 1) { Spindle.reset with fluxOut := 200 }
    s.running ∧ s.live .spn = true ∧ s.spMode = spRun ∧ s.on .spn F.SPN_CTL_LOS_EN = true
      ∧ s.syncLost = true ∧ s.spn.losOnce = false := by decide +kernel
theorem wit_losClearTimer : let s := wSpnS (wSpn spRun) { Spindle.reset with losOnce := true }
    s.running ∧ s.live .spn = true ∧ spDriving s.spMode = true ∧ s.spn.losOnce = true := by decide +kernel
theorem wit_chop : let s := wSpnS ((wSpn spDecel).setF .spn F.SPN_STAT_CHOP_ON 1) { Spindle.reset with chopRise := 1400 }
    s.running ∧ s.on .spn F.SPN_STAT_CHOP_ON = true ∧ s.spn.chopRise ≤ 1400 ∧ 1399 < s.spn.chopRise := by decide +kernel
theorem wit_spFltAccept : let s := ((wSpn spRun).setF (.srv 0) F.SRV_STAT_MODE mFollow)
    s.running ∧ s.live .spn = true ∧ s.maybeOffRamp 0 = true := by decide +kernel
theorem wit_spFltNRelease : let s := wSpnS (wSpn spRun) { Spindle.reset with stageIn := true }
    s.running ∧ s.spn.stageIn = true := by decide +kernel
/-- An open phase: a lower and an upper command are never both high at a phase that a vector drives. -/
theorem wit_spGate : let s := wSpnS (wSpn spRun) { Spindle.reset with open_ := false }
    ∃ ph : Fin 3, ∃ c : Fin 3, (s.spGate ph.val (c.val * 200)).1 = true ∨ (s.spGate ph.val (c.val * 200)).2 = true := by decide +kernel
theorem wit_speedLoop : ∀ v : Fin 3, let s := wMotor (wSpn spRun)
    s.running ∧ s.live .spn = true ∧ s.spMode = spRun ∧ (((v.val : Int) - 1) * 131071).natAbs < 2 ^ 17 := by decide +kernel
theorem wit_revolution : let s := wMotor (wSpn spRun)
    s.running ∧ s.live .spn = true ∧ s.spMode ≠ spOff ∧ s.dev.psParked = [] ∧ 3333333 < 2 ^ 29 := by decide +kernel
/-- RUN at 7,200 rpm with AT_SPEED 1, three revolutions outside ±0.1%. -/
def wOut : State :=
  wSpnS (((wMotor (wSpn spRun)).setF .spn F.SPN_STAT_AT_SPEED 1).setF .spn F.SPN_SPD_REF_RPM 7200) { Spindle.reset with outBand := 3 }
theorem wit_atSpeedLost : let s := wOut
    s.running ∧ s.live .spn = true ∧ s.spMode = spRun ∧ s.on .spn F.SPN_STAT_AT_SPEED = true ∧ s.ploss = false ∧ 3 ≤ s.spn.outBand
      ∧ s.f .spn F.SPN_SPD_REF_RPM * 3300000
          < ((24000000000 : Int) - (s.f .spn F.SPN_SPD_REF_RPM * 3300000 : Nat)).natAbs * 1000 := by decide +kernel
theorem wit_measureEnd : ∀ b : Fin 2, let s := wSpnS (wSpn Machine.spMeasure) { Spindle.reset with losOnce := b.val == 1 }
    s.running ∧ s.live .spn = true ∧ s.spMode = Machine.spMeasure ∧ s.spn.losOnce = (b.val == 1)
      ∧ (-959 : Int).natAbs < 960 ∧ 960 ≤ (-960 : Int).natAbs ∧ (4801 : Int) < 2 ^ 17 := by decide +kernel
theorem wit_alignDone : let s := wSpn spAlign
    s.running ∧ s.live .spn = true ∧ s.spMode = spAlign ∧ s.spn.alignTry = 0 ∧ (alignAngle [100, 50, 10, 10, 10, 10]).isSome = true
      ∧ alignAngle [10, 10, 10, 10, 10, 10] = none := by decide +kernel

/-! ### Witnesses of the statements: file part 13 -/

/-- Core `0` runs, with its caches off; pool 0 is in IDLE. -/
def wCore : State :=
  (((State.reset.setUnitState (.pool 0) stIdle).setReg (.pool 0) Reg.POOL_CTL 0).setF (.pool 0) F.POOL_STAT_HELD 0xFE).setCf 0
    F.POOL_Cc_STAT_RUN 1
def wWays : Ways := ⟨1, 2, 3⟩
theorem wit_load_tcm : wCore.running ∧ wCore.coreRuns 0 = true ∧ tcmAt 0x8100008 = some (true, 8) ∧ (wCore.pl (poolOf 0)).tcmBad = [] := by
  decide +kernel
theorem wit_load_sram : tcmAt 0x10000040 = none ∧ wCore.checkMap (.engine (.core 0)) 0x10000040 8 .read = none
    ∧ wCore.buf.sramBad = [] ∧ wCore.region 0x10000040 = some .sysSram ∧ wCore.lines = [] ∧ wCore.l2Used (poolOf 0) = false
    ∧ wCore.checkMap (.engine (.core 0)) 0x10000040 8 .execute = none ∧ wCore.l1iUsed 0 = false
    ∧ wCore.checkMap (.engine (.core 0)) 0x10000040 8 .write = none := by decide +kernel
theorem wit_load_empty : (0 : Nat) < 8 ∧ [(0x5A : Byte), 0xA5] ≠ [] ∧ Parity.transient ≠ Parity.lasting := by decide +kernel
theorem wit_load_register : tcmAt 0x20000002 = none ∧ wCore.checkMap (.engine (.core 0)) 0x20000002 2 .read = none
    ∧ wCore.region 0x20000002 = some .unitSpace ∧ wCore.checkReg (.engine (.core 0)) 0x20000002 2 .read = some .accessSize := by
  decide +kernel
theorem wit_store_queue : wCore.checkMap (.engine (.core 0)) 0x30000040 2 .write = none := by decide +kernel
theorem wit_load_queue : tcmAt 0x30000040 = none ∧ wCore.checkMap (.engine (.core 0)) 0x30000040 8 .read = none
    ∧ wCore.region 0x30000040 = some .queueSram := by decide +kernel
/-- The pool's L2 and core 0's L1D are in use. -/
def wCached : State := (wCore.setF (.pool 0) F.POOL_STAT_L2_ON 1).setCf 0 F.POOL_Cc_STAT_D_ON 1
theorem wit_load_fill : wCached.running ∧ wCached.coreRuns 0 = true ∧ wCached.checkMap (.engine (.core 0)) 0x10000040 8 .read = none
    ∧ wCached.lines = [] ∧ wCached.l2Used (poolOf 0) = true ∧ (wCached.pl (poolOf 0)).locked = [] ∧ wCached.l1dUsed 0 = true := by
  decide +kernel
theorem wit_load_fault : tcmAt 0x50000000 = none ∧ wCore.checkMap (.engine (.core 0)) 0x50000000 8 .read = some .unmapped
    ∧ wCore.cf 0 F.POOL_Cc_FLT_VALID = 0 := by decide +kernel
/-- Line 0x400001 is dirty in core 0's L1D, and its L1I holds line 7. -/
def wLined : State :=
  { wCore with lines := [⟨.l1d 0, 1, 0x400001, true, false, List.replicate 64 5⟩, ⟨.l1i 0, 0, 7, false, false, []⟩] }
theorem wit_dc : wLined.running ∧ wLined.coreRuns 0 = true ∧ (∀ x ∈ wLined.lines, x.data.length ≤ 64)
    ∧ wLined.cf 0 F.POOL_Cc_FLT_VALID = 0 ∧ wLined.swPick 0 1 1 1 ⟨.l1d 0, 1, 0x400001, true, false, []⟩ = true := by decide +kernel
theorem wit_dcIsw : ∀ x ∈ wCore.lines, wCore.swPick 0 1 1 1 x = true → x.live = false := by decide +kernel
theorem wit_cmo : wCore.inReset (.pool 0) = false ∧ engMain (.core 3) = true ∧ (wCore.pl 0).cmo = none ∧ wCore.allHeld 0 = false := by
  decide +kernel
/-- Every core of pool 0 is held. -/
def wAllHeld : State := (wLined.setF (.pool 0) F.POOL_STAT_HELD 0xFF).setF (.pool 0) F.POOL_CTL_CORE_HOLD 0xFF
theorem wit_cmo_invalidate : wAllHeld.running ∧ wAllHeld.inReset (.pool 0) = false ∧ (wAllHeld.pl 0).cmo = none ∧ wAllHeld.allHeld 0 = true
    ∧ wAllHeld.heldBit 0 = true ∧ wAllHeld.holdBit 0 = true ∧ wAllHeld.cf 0 F.POOL_Cc_TCM_IDX_AUTOINC = 0
    ∧ (wAllHeld.pl (poolOf 0)).tcmBad = [] := by decide +kernel
def wCmo : State := wCore.setPl 0 { wCore.pl 0 with cmo := some 1 }
theorem wit_cmoDone : wCmo.running ∧ (wCmo.pl 0).cmo.isSome = true := by decide +kernel
def wL1d (en drain : Nat) : State := (wLined.setCf 0 F.POOL_Cc_CTL_L1D_EN en).setCf 0 F.POOL_Cc_STAT_D_DRAINING drain
theorem wit_l1d : (wL1d 1 0).running ∧ (wL1d 1 0).inReset (.pool (poolOf 0)) = false ∧ (wL1d 1 0).cf 0 F.POOL_Cc_CTL_L1D_EN = 1
    ∧ (wL1d 1 0).cf 0 F.POOL_Cc_STAT_D_DRAINING = 0 ∧ (wL1d 0 1).cf 0 F.POOL_Cc_STAT_D_DRAINING = 1
    ∧ 0 ∉ ((wL1d 0 1).pl (poolOf 0)).l1Held := by decide +kernel
def wL2 (en drain : Nat) : State := (wLined.setF (.pool 0) F.POOL_CTL_L2_EN en).setF (.pool 0) F.POOL_STAT_DRAINING drain
theorem wit_l2 : (wL2 1 0).running ∧ (wL2 1 0).inReset (.pool 0) = false ∧ (wL2 1 0).on (.pool 0) F.POOL_CTL_L2_EN = true
    ∧ (wL2 1 0).on (.pool 0) F.POOL_STAT_DRAINING = false ∧ (wL2 0 1).on (.pool 0) F.POOL_STAT_DRAINING = true
    ∧ ((wL2 0 1).pl 0).l2Held = false := by decide +kernel
def wHolding : State := (wLined.hold 0).setPl 0 { wLined.pl 0 with reserved := [0] }
theorem wit_coreHeld : wHolding.running ∧ wHolding.live (.pool (poolOf 0)) = true ∧ wHolding.holdBit 0 = true
    ∧ wHolding.heldBit 0 = false := by decide +kernel
theorem wit_evict : wLined.lines.any (fun x => x.inPool 0 && x.line == 0x400001 && x.live) = true
    ∧ wLined.on (.pool 0) F.POOL_WB_FLT_VALID = false := by decide +kernel
theorem wit_small : engSmall .service = true ∧ (wUnit .svc).running ∧ (wUnit .svc).live (engUnit .service) = true := by decide +kernel
def wFull : State := wCore.setPl 0 { wCore.pl 0 with fifo := List.replicate 64 ⟨1, 2, 3⟩ }
def wMbx : State := wCore.setPl 0 { wCore.pl 0 with fifo := [⟨1, 2, 3⟩], reserved := [5], low := [(5, 9)] }
theorem wit_mbx : wMbx.running ∧ wMbx.inReset (.pool 0) = false ∧ engNum (.core 4) ∉ (wMbx.pl 0).reserved ∧ (wMbx.pl 0).used < 64
    ∧ Sparse.find? (wMbx.pl 0).low (engNum (.core 5)) = some 9 ∧ engNum (.core 5) ∈ (wMbx.pl 0).reserved
    ∧ (wMbx.pl 0).fifo = ⟨1, 2, 3⟩ :: [] ∧ wFull.running ∧ wFull.inReset (.pool 0) = false ∧ engNum (.core 4) ∉ (wFull.pl 0).reserved
    ∧ 64 ≤ (wFull.pl 0).used := by decide +kernel
/-- Software interrupt 0x42 is set and routed to core 0 with priority 3. -/
def wIrq : State :=
  let s := (wCore.setReg .dev Reg.DEV_IRQ_SWI 4).setReg .dev Reg.DEV_IRQ_IDX 0x42
  { s with irq := { s.irq with route := [(0x42, 0x80000300)] } }
theorem wit_irq : wIrq.running ∧ wIrq.deliverable 0x42 0 = true ∧ Sparse.find? wIrq.irq.delivered 0x42 = none ∧ wIrq.coreRuns 0 = true
    ∧ (wIrq.hold 0).running ∧ (wIrq.hold 0).deliverable 0x42 0 = true ∧ (wIrq.hold 0).coreRuns 0 = false
    ∧ wIrq.inReset (.pool (poolOf 0)) = false ∧ wIrq.bestIrq 0 = some 0x42 ∧ wCore.bestIrq 0 = none := by decide +kernel
theorem wit_eoi : let s : State := { wIrq with irq := { wIrq.irq with service := [(0x42, 0)] } }
    Sparse.find? s.irq.service (F.POOL_Cc_IRQ_EOI_SOURCE.get 0x42) = some 0 := by decide +kernel
theorem wit_route : wIrq.inReset .dev = false ∧ irqSource (wIrq.f .dev F.DEV_IRQ_IDX_SOURCE) = true
    ∧ F.DEV_IRQ_ROUTE_TARGET.get 0x80000210 < 17 := by decide +kernel

/-! ### Witnesses of the statements: file part 14 -/


/-- The enclave is ready, and channel `c` holds a request whose descriptor, at 10000040H, has operation `op`, the input `src` at
10000100H, `len` bytes at 10000400H for the output, and `param` from byte 40. -/
def wReqS (s : State) (c op : Nat) (src : List Byte) (dst len : Nat) (param : List Byte) : State :=
  let t := (((s.setUnitState .hzl stIdle).setUnitState (.pool 0) stIdle).setF .hzl F.HZL_STAT_READY 1).setRqs c [⟨0x10000040, false⟩]
  let d := wordBytes (BitVec.ofNat 32 (op + 2 ^ 16 * 5)) ++ wordBytes 0 ++ quadBytes 0x10000100
    ++ wordBytes (BitVec.ofNat 32 src.length) ++ wordBytes 0 ++ quadBytes dst ++ wordBytes (BitVec.ofNat 32 len) ++ wordBytes 0 ++ param
  (t.setBytes 0x10000040 d).setBytes 0x10000100 src
def wReq (c op : Nat) (src : List Byte) (dst len : Nat) (param : List Byte) : State := wReqS State.reset c op src dst len param
abbrev wD : Nat := 0x10000040
abbrev wO : Nat := 0x10000400
theorem wit_verify : let s := wReq 0 hoVerify [1, 2] 0 0 [1]
    s.reqDue hoVerify 0 wD ∧ s.dByte wD 40 + 256 * s.dByte wD 41 = 1 ∧ s.dDst wD = 0 := by decide +kernel
theorem wit_patch : (wReq 0 hoPatch [1, 2] 0 0 []).reqDue hoPatch 0 wD := by decide +kernel
theorem wit_measure : let s := wReq 0 hoMeasure [1, 2, 3, 4] 0 0 [6]
    s.reqDue hoMeasure 0 wD ∧ s.dByte wD 40 = 6 ∧ s.dSrcLen wD = 4 := by decide +kernel
theorem wit_svn : let s := wReq 0 hoSvn [] 0 0 [2, 7]
    s.reqDue hoSvn 0 wD ∧ s.dByte wD 40 = 2 ∧ s.dByte wD 41 = 7 := by decide +kernel
theorem wit_spdm : let s := wReq 1 hoSpdm [1] 0 0 []
    s.reqDue hoSpdm 1 wD ∧ s.dDst wD = 0 := by decide +kernel
def wNotDue : State := { State.reset with hzl := { Enclave.reset with block := 2, sealCtr := 70000 } }
theorem wit_rsvWait : (wReqS wNotDue 0 hoRsvWait [] 0 0 []).reqDue hoRsvWait 0 wD ∧ (wReqS wNotDue 0 hoRsvWait [] 0 0 []).rsvDue = false := by
  decide +kernel
theorem wit_rsvWait_due : let s := wReq 0 hoRsvWait [] wO 32 []
    s.reqDue hoRsvWait 0 wD ∧ s.rsvDue = true ∧ s.outClear wD 32 := by decide +kernel
def wAsked : State := { State.reset with hzl := { Enclave.reset with asked := true } }
theorem wit_rsvDone : let s := wReqS wAsked 0 hoRsvDone [] 0 0 []
    s.reqDue hoRsvDone 0 wD ∧ s.hzl.asked = true ∧ s.quad (wD + 40) = s.hzl.block ∧ s.hzl.standing = none := by decide +kernel
theorem wit_rsvDone_other : let s := wReqS wAsked 0 hoRsvDone [] 0 0 [3]
    s.reqDue hoRsvDone 0 wD ∧ s.quad (wD + 40) ≠ s.hzl.block := by decide +kernel
theorem wit_rsvLoad : let s := wReq 0 hoRsvLoad (rsvRecord 1 5 9) 0 0 [1]
    s.reqDue hoRsvLoad 0 wD ∧ s.word (wD + 40) = 1 ∧ s.dSrcLen wD = 32 ∧ rsvOk (s.dIn wD) = true ∧ s.hzl.standing = none := by decide +kernel
def wTcg : State := State.reset.setF .hzl F.HZL_CFG_KPIO_BASE 300
theorem wit_secSend : let s := wReqS wTcg 1 hoSecSend [1] 0 0 [1]
    s.reqDue hoSecSend 1 wD ∧ s.dByte wD 40 ∈ secProtocols ∧ s.offered 7 = true ∧ s.dDst wD = 0 := by decide +kernel
theorem wit_secRecv : let s := wReqS wTcg 1 hoSecRecv [] 0 0 [1]
    s.reqDue hoSecRecv 1 wD ∧ s.dDst wD = 0 ∧ (s.pl 0).used < 64 ∧ s.unitState (.pool 0) ≠ stReset
      ∧ s.unitState (.pool 0) ≠ stOff ∧ engNum .enclave ∉ (s.pl 0).reserved := by decide +kernel
def wKeyed : State := wTcg.setKeySlot 6 { KeySlot.reset with loaded := true, cur := 9 }
theorem wit_nsKey : let s := wReqS wKeyed 1 hoNsKey [] 0 0 [0, 0, 0, 0, 7]
    s.reqDue hoNsKey 1 wD ∧ 7 = s.dNsid wD ∧ 7 - 1 < s.kpioBase ∧ s.drbgDue = false ∧ (s.keySlot (7 - 1)).inProg = none
      ∧ (s.keySlot (7 - 1)).held = none ∧ s.bindCount (7 - 1) (s.keySlot (7 - 1)).cur = 0 ∧ s.keyBusy ⟨false, 1, wD⟩ = false := by decide +kernel
theorem wit_nsErase : let s := wReqS wKeyed 1 hoNsErase [] 0 0 [0, 0, 0, 0, 7]
    s.reqDue hoNsErase 1 wD ∧ 7 = s.dNsid wD ∧ s.nsSlots 7 = [7 - 1] ∧ (s.keySlot (7 - 1)).inProg = none
      ∧ (s.keySlot (7 - 1)).held = none ∧ s.bindCount (7 - 1) (s.keySlot (7 - 1)).cur = 0 ∧ s.keyBusy ⟨true, 1, wD⟩ = false := by decide +kernel
theorem wit_seal : let s := wReqS wNotDue 1 hoSeal [1, 2, 3] wO 31 []
    s.reqDue hoSeal 1 wD ∧ 3 = s.dSrcLen wD ∧ s.outClear wD 31 ∧ s.hzl.sealCtr < s.hzl.block * 65536 ∧ s.hzl.sealCtr + 1 < 2 ^ 48
      ∧ s.hzl.standing = none := by decide +kernel
theorem wit_unseal : let s := wReq 1 hoUnseal (List.replicate 30 0) wO 2 []
    s.reqDue hoUnseal 1 wD ∧ s.dSrcLen wD = 2 + 28 ∧ s.outClear wD 2 ∧ leNat (slice (s.dIn wD) 0 4) = s.hzl.sealVer := by decide +kernel

def wHzl : State := (State.reset.setUnitState .hzl stIdle).setF .hzl F.HZL_STAT_READY 1
theorem wit_push : wHzl.running ∧ wHzl.inReset .hzl = false ∧ rqOwner .service 0 = true ∧ (wHzl.rqs 0).length < 8
    ∧ rqOwner .service 1 = false ∧ 8 ≤ ((wHzl.setRqs 0 (List.replicate 8 ⟨64, false⟩)).rqs 0).length := by decide +kernel
def wOwed : State := { (wHzl.setUnitState (.pool 0) stIdle) with hzl := { wHzl.hzl with owed := [(0, ⟨1, 2, 17⟩)] } }
theorem wit_retry : wOwed.running ∧ wOwed.inReset .hzl = false
    ∧ wOwed.hzl.owed.find? (fun (e : Nat × Message) => e.1 == 0) = some (0, ⟨1, 2, 17⟩) ∧ wOwed.unitState (.pool 0) ≠ stReset
    ∧ wOwed.unitState (.pool 0) ≠ stOff ∧ (wOwed.pl 0).used < 64 ∧ engNum .enclave ∉ (wOwed.pl 0).reserved := by decide +kernel
def wSealHeld : State := (wReq 1 hoSeal [1, 2, 3] wO 31 []).setRqs 1 [⟨wD, true⟩]
theorem wit_timeout : wSealHeld.running ∧ wSealHeld.region wD = some .sysSram ∧ wSealHeld.inWork wD 64 = true ∧
    [1, 2].flatMap (fun c => ((wSealHeld.rqs c).filter (fun r => r.held && wSealHeld.dOp r.addr == hoSeal)).map (fun r => (c, r.addr)))
      = [(1, wD)] := by decide +kernel
theorem wit_reseed : ({ wHzl with hzl := { wHzl.hzl with generate := 2 ^ 20 } } : State).drbgDue = true := by decide +kernel
def wOld : State :=
  (wHzl.setKeySlot 6 { loaded := true, cur := 9, old := some 8, inProg := some ⟨false, 3, 0⟩, held := none }).setREng 2 ⟨none, [], false, [(6, 8)]⟩
theorem wit_unbind : wOld.running ∧ (wOld.keySlot 6).old = some 8 ∧ (wOld.keySlot 6).inProg = some ⟨false, 3, 0⟩
    ∧ (wOld.keySlot 6).held = none ∧ wOld.bindCount 6 8 = 0 ∧ (wOld.rEng 2).keys = [(6, 8)] := by decide +kernel
theorem wit_cipher : wHzl.running ∧ wHzl.takes .hzl = true ∧ wHzl.on .hzl F.HZL_STAT_READY = true ∧ wHzl.dev.diePause = false
    ∧ wHzl.messageRoom = true ∧ wHzl.idleEng = some 0 := by decide +kernel
def wBound : State := wHzl.setSlot 9 wWriteSlot
theorem wit_cipher_slot : wBound.running ∧ wBound.takes .hzl = true ∧ wBound.on .hzl F.HZL_STAT_READY = true ∧ wBound.dev.diePause = false
    ∧ wBound.messageRoom = true ∧ wBound.idleEng = some 0 ∧ wBound.slot? 9 = some wWriteSlot ∧ wWriteSlot.st.isOpen = true
    ∧ wWriteSlot.bound = some (2, 1) := by decide +kernel
/-- All 24 engines run a message of priority `p`. -/
def wEngines (p : Nat) : State :=
  { wHzl with hzl := { wHzl.hzl with engines := (List.range 24).map (fun e => (e, ⟨some ⟨e, 2, 3, p, some 0⟩, [], false, [(2, 3)]⟩)) } }
def wCapped : State := wEngines 0
theorem wit_cipher_suspend : let s := wEngines 2
    s.running ∧ s.takes .hzl = true ∧ s.on .hzl F.HZL_STAT_READY = true ∧ s.dev.diePause = false ∧ s.messageRoom = false
      ∧ s.suspendable 1 = some 0 ∧ (s.rEng 0).run = some ⟨0, 2, 3, 2, some 0⟩ := by decide +kernel
theorem wit_cipher_wait : wCapped.running ∧ wCapped.takes .hzl = true ∧ wCapped.on .hzl F.HZL_STAT_READY = true
    ∧ wCapped.dev.diePause = false ∧ wCapped.messageRoom = false ∧ wCapped.suspendable 2 = none := by decide +kernel
def wMsg : State := wHzl.setREng 3 ⟨some ⟨1, 2, 3, 0, some 0⟩, [], false, [(2, 3)]⟩
theorem wit_cipher_end : wMsg.running ∧ wMsg.live .hzl = true ∧ (wMsg.rEng 3).run = some ⟨1, 2, 3, 0, some 0⟩ ∧ wMsg.hzl.waiting = []
    ∧ wMsg.hzl.engines.all (fun (x : Nat × RoundEngine) => x.2.susp.isEmpty) = true := by decide +kernel
theorem wit_spdm_ready : wHzl.running ∧ wHzl.clocked .hzl = true ∧ wHzl.on .hzl F.HZL_STAT_READY = true
    ∧ wHzl.hzl.sessions.length < 4 ∧ wHzl.newSession < 4 ∧ wHzl.session? 0 = none := by decide +kernel
def wSession : State := { wHzl with hzl := { wHzl.hzl with sessions := [⟨1, [4, 5, 6, 7], 3, false⟩] } }
theorem wit_session : wSession.running ∧ wSession.clocked .hzl = true ∧ wSession.on .hzl F.HZL_STAT_READY = true
    ∧ wSession.session? 1 = some ⟨1, [4, 5, 6, 7], 3, false⟩ := by decide +kernel

theorem wit_session_operands : (3 : Nat) + 1 < 2 ^ 48 ∧ Instr.getDigests
    ∈ [Instr.getVersion, .getCapabilities, .negotiateAlgorithms, .getDigests, .getCertificate, .spdmChallenge] := by decide +kernel

/-! ### Witnesses of the statements: file part 15 -/


/-- A staged image that opens with MAGIC and a kind; nothing else of it is there. -/
def wStagedKind (k : Byte) : State :=
  { (wHost.setF .svc F.SVC_NOR_STAT_SLOT_MIB 25) with
    svcs := { wHost.svcs with staged := [(0, 0x31), (1, 0x53), (2, 0x7A), (3, 0x48), (4, k)], stagedLen := 6 } }
theorem wit_download : wHost.running ∧ wHost.ctrlServes 0 = true ∧ wHost.svcs.chrysalis = false ∧ 4096 + [1, 2].length ≤ stagingSize := by
  decide +kernel
theorem wit_download_chrysalis :
    let s : State := ({ wHost with svcs := { wHost.svcs with chrysalis := true } } : State).setF .buf F.BUF_STAT_TRAINED 1
    s.running ∧ s.ctrlServes 0 = true ∧ s.svcs.chrysalis = true ∧ s.on .buf F.BUF_STAT_TRAINED = true := by decide +kernel
theorem wit_commit : (wStagedKind 1).running ∧ (wStagedKind 1).ctrlServes 0 = true ∧ (wStagedKind 1).svcs.handover = none
    ∧ envMagic (wStagedKind 1).stagedImage = envMagicValue ∧ envKind (wStagedKind 1).stagedImage = 1
    ∧ (wStagedKind 1).writeSlot 0 = some 2 ∧ (wStagedKind 1).slotSize ≤ 25 * 2 ^ 20 ∧ (wStagedKind 1).bootRec.seq + 1 < 2 ^ 64 := by
  decide +kernel
theorem wit_commit_idsar : (wStagedKind 2).running ∧ (wStagedKind 2).ctrlServes 0 = true ∧ (wStagedKind 2).svcs.handover = none
    ∧ envMagic (wStagedKind 2).stagedImage = envMagicValue ∧ envKind (wStagedKind 2).stagedImage = 2
    ∧ 1 = 1 - (wStagedKind 2).f .svc F.SVC_BOOT_SEL_IDSAR ∧ (wStagedKind 2).bootRec.seq + 1 < 2 ^ 64 := by decide +kernel
theorem wit_record : State.reset.bootRec.seq + 1 < 2 ^ 64 := by decide +kernel
theorem wit_handover : wHost.svcs.handover = none ∧ wHost.svcs.fallback = false ∧ wHost.bootRec.next = wHost.bootRec.committed
    ∧ 2 ≠ wHost.bootRec.committed ∧ wHost.lines = [] ∧ wHost.bootRec.setPair ≤ 1 := by decide +kernel
def wHand (step : Nat) (back : Bool) : Handover := ⟨0, 7, 1, 2, step, back, true, 0, 5, 0, 0, false⟩
def wActive (step : Nat) (back : Bool) : State :=
  { (wHost.setUnitState .svc stIdle) with svcs := { wHost.svcs with handover := some (wHand step back) } }
theorem wit_handover_busy : (wActive 3 false).running ∧ (wActive 3 false).ctrlServes 0 = true
    ∧ (wActive 3 false).svcs.handover.isSome = true := by decide +kernel
theorem wit_reply : (wActive 7 false).running ∧ (wActive 7 false).inReset .svc = false
    ∧ (wActive 7 false).svcs.handover.all (fun h => h.step == 7) = true
    ∧ F.SVC_FW_REPLY_REFUSE.get ((wActive 7 false).reg .svc Reg.SVC_FW_REPLY) = 0 ∧ F.SVC_FW_REPLY_REFUSE.get 3 = 0 := by decide +kernel
theorem wit_reply_ready : (wActive 6 false).svcs.handover = some (wHand 6 false)
    ∧ F.SVC_FW_REPLY_REFUSE.get ((wActive 6 false).reg .svc Reg.SVC_FW_REPLY) = 0
    ∧ F.SVC_FW_REPLY_REFUSE.get 0x80000000 = 0 ∧ F.SVC_FW_REPLY_READY.get 0x80000000 = 1 ∧ (wActive 6 false).xferOk = true
    ∧ (wHand 6 false).owed = true
    ∧ (wActive 6 false).subq? 0 0 = some { wSq 0 with entries := [] } ∧ (wActive 6 false).compq? 0 0 = some (wCq 0) := by decide +kernel
theorem wit_readyTimeout : (wActive 6 true).running ∧ (wActive 6 true).svcs.handover = some (wHand 6 true) := by decide +kernel
theorem wit_heartbeat : (wActive 7 false).svcs.handover = some (wHand 7 false) ∧ (wHand 7 false).miss0 = 0 ∧ (wHand 7 false).miss1 = 0
    ∧ cores.any (fun c => (wActive 7 false).cf c F.POOL_Cc_STAT_RUN == 3) = false := by decide +kernel
theorem wit_probationEnd : (wHand 7 false).slotN < 256 ∧ (wActive 7 false).bootRec.seq + 1 < 2 ^ 64
    ∧ (wActive 7 false).bootRec.setPair ≤ 1 := by decide +kernel

/-! ### Witnesses of the statements: file part 16 -/


def wWorld : StartWorld := { StartWorld.none with norMib := 128, nor := .ok, boot := 0 }
theorem wit_start : wWorld.nor = .ok ∧ 64 ≤ wWorld.norMib ∧ wWorld.boot ≠ 1 ∧ wWorld.boot ≠ 2 ∧ State.reset.bootRec.next < 4
    ∧ ({ State.reset with dev := { Device.reset with power := .coldHeld } } : State).dev.power = .coldHeld := by decide +kernel
def wWarm : State := { (State.reset.setUnitState .svc stIdle) with dev := { Device.reset with power := .on, warmInProgress := true } }
theorem wit_warmStart : wWarm.running ∧ wWarm.dev.warmInProgress = true ∧ wWarm.stage = 0 ∧ wWarm.inReset .svc = false
    ∧ wWarm.entersChrysalis = false ∧ wWarm.on .hzl F.HZL_STAT_READY = false := by decide +kernel
def wTest : State := wWarm.setUnitState .hzl stIdle
theorem wit_selfTest : wTest.running ∧ wTest.inReset .hzl = false ∧ wTest.hzl.tested = false ∧ wTest.hzl.entropyBad = false
    ∧ wTest.stage < 2 ∧ wTest.starting = false := by decide +kernel
def wReady : State := (wWarm.setStage 6).setReg .svc Reg.SVC_BOOT_REPLY 3
theorem wit_bootReply : wReady.running ∧ wReady.inReset .svc = false ∧ F.SVC_BOOT_REPLY_REFUSE.get 2 = 0
    ∧ F.SVC_BOOT_REPLY_P0_READY.get 2 = 0 := by decide +kernel
theorem wit_bootReply_refuse : F.SVC_BOOT_REPLY_REFUSE.get 0x80000000 = 1 ∧ wReady.starting = true := by decide +kernel
theorem wit_bootReply_ready : let s := wWarm.setStage 6
    s.running ∧ s.inReset .svc = false ∧ s.stage = 6 ∧ F.SVC_BOOT_REPLY_P0_READY.get (s.reg .svc Reg.SVC_BOOT_REPLY) = 0
      ∧ F.SVC_BOOT_REPLY_REFUSE.get 1 = 0 ∧ F.SVC_BOOT_REPLY_P0_READY.get 1 = 1
      ∧ ({ s with resp := .none } : State).pool0Start.isSome = true := by decide +kernel
theorem wit_serving_denied : Instr.configLock (.core 2)
    ∈ [Instr.serving (.core 2), .configLock (.core 2), .watchdogKick (.core 2) 0] := by decide +kernel
theorem wit_serving : wReady.stage = 6 ∧ wReady.poolsReady = true := by decide +kernel
theorem wit_lock : wWarm.locked = false ∧ wWarm.stage = 0 := by decide +kernel
theorem wit_watchdog : wReady.on .svc F.SVC_BOOT_CTL_SERVING = false ∧ wReady.on .svc F.SVC_WDOG_HOLD = false
    ∧ wReady.svcs.chrysalis = false := by decide +kernel

/-! ### Witnesses of the statements: file part 17 -/


def wHkp : State := State.reset.setUnitState .hkp stIdle
/-- Every channel has a reading in range: 50 °C. -/
def wRound : State := wHkp.setHouse { wHkp.house with readings := (List.range 48).map (fun c => (c, (true, 200))) }
theorem wit_channel : wHkp.running ∧ wHkp.live .hkp = true := by decide +kernel
theorem wit_round : wRound.running ∧ wRound.live .hkp = true ∧ wRound.on .svc F.SVC_BOOT_CTL_SERVING = false
    ∧ wRound.reg64 .hkp Reg.HKP_PON_LO < Sparse.get (fun _ => 0) wRound.hosts.life lifePon + 3600
    ∧ wRound.house.dieLevel ≤ 7 ∧ wRound.house.drvLevel ≤ 7 ∧ wRound.house.paLevel ≤ 7 := by decide +kernel
theorem wit_round_die : dieValid wRound.dieReadings = List.range 16 ∧ dieHot wRound.dieReadings (List.range 16) = []
    ∧ dieHottest wRound.dieReadings (List.range 16) = some 200 := by decide +kernel
theorem wit_thrStat : wHkp.inReset .hkp = false := by decide +kernel
theorem wit_fastPath : wHkp.house.excluded = [] ∧ Sparse.get (fun _ => 0) wHkp.house.above155 3 < 20 ∧ ([600, 630] : List Int)[1]? = some 630 := by
  decide +kernel
theorem wit_trip : ([600, 640] : List Int)[1]? = some 640 ∧ 1 ∉ wHkp.house.excluded := by decide +kernel
def wHotFast : State := wHkp.setHouse { wHkp.house with above155 := [(1, 20)] }
theorem wit_orderly : wHotFast.running ∧ 1 ∉ wHotFast.house.excluded ∧ 20 ≤ Sparse.get (fun _ => 0) wHotFast.house.above155 1
    ∧ (∀ w ∈ ([600, 630] : List Int), w < 640) ∧ wHotFast.on .hkp F.HKP_THM_STAT_SHUT = false ∧ wHotFast.vaultFitted = false
    ∧ wHotFast.svcs.handover = none := by decide +kernel
theorem wit_orderly_dirty : let s := { wHotFast with cmd := { wHotFast.cmd with exts := [(0, ⟨true, 0, 32, 31, 3, none⟩)] } }
    wHotFast.dirtyGranules = 0 ∧ 0 < s.dirtyGranules ∧ s.vaultFitted = false := by decide +kernel
def wShut : State := wHkp.setF .hkp F.HKP_THM_STAT_SHUT 1
theorem wit_shutdownFinal : wShut.running ∧ wShut.on .hkp F.HKP_THM_STAT_SHUT = true ∧ wShut.vault.saving = none
    ∧ wShut.on .hkp F.HKP_THM_STAT_ARMED = false := by decide +kernel
def wGpio : State := wHkp.setUnitState (.pool 0) stIdle
theorem wit_gpio : wGpio.running ∧ wGpio.live .hkp = true ∧ F.HKP_GPIO_CFG_DIR.get (wGpio.gpioCfg 5) = 0
    ∧ F.HKP_GPIO_CFG_POOL.get (wGpio.gpioCfg 5) = 0 ∧ wGpio.gpioFilt 5 = false ∧ wGpio.gpioMask 5 = false
    ∧ wGpio.unitState (.pool 0) ≠ stReset ∧ wGpio.unitState (.pool 0) ≠ stOff ∧ (wGpio.pl 0).used < 64
    ∧ engNum .housekeeping ∉ (wGpio.pl 0).reserved := by decide +kernel
def wGpioOn : State := wHkp.setF .hkp F.HKP_GPIO_STAT_FILT 0x20
theorem wit_gpio_on : wGpioOn.running ∧ wGpioOn.gpioFilt 5 = true ∧ wGpioOn.gpioMask 5 = false
    ∧ F.HKP_GPIO_CFG_DIR.get (wGpioOn.gpioCfg 5) = 0 ∧ F.HKP_GPIO_CFG_STUCK_S.get (wGpioOn.gpioCfg 5) ≠ 0 := by decide +kernel
def wShockOn (m : Bool) : State := wHkp.setHouse { wHkp.house with shockFilt := true, shockMask := m }
theorem wit_shock : (wShockOn false).running ∧ (wShockOn false).house.shockFilt = true ∧ (wShockOn false).house.shockMask = false
    ∧ (wShockOn true).house.shockMask = true := by decide +kernel
def wMaskOn : State := wGpioOn.setF .hkp F.HKP_GPIO_STAT_MASK 0x20
theorem wit_maskRelease : wMaskOn.running ∧ wMaskOn.gpioMask 5 = true := by decide +kernel

/-! ### Witnesses of the statements: file part 18 -/


def wLog : State := State.reset.setUnitState .svc stIdle
theorem wit_event : wLog.running ∧ wLog.live .svc = true ∧ 0 < (wLog.svcs.refill 7).budget ∧ (wLog.svcs.refill 7).crits.length < 64 := by
  decide +kernel
def wFullLog : State := { wLog with svcs := { wLog.svcs with budget := 0, budgetAt := 7, crits := List.replicate 64 7 } }
theorem wit_event_refused : wFullLog.running ∧ wFullLog.live .svc = true ∧ (wFullLog.svcs.refill 7).budget = 0
    ∧ 64 ≤ (wFullLog.svcs.refill 7).crits.length := by decide +kernel

/-! ### Witnesses of the statements: file part 00 -/


/-- A device held in cold reset, with a command that waits. -/
def wHeldDev : State := { State.reset with dev := { Device.reset with power := .coldHeld }, pending := [.crystalLost] }
theorem wit_stopped : ¬wHeldDev.running ∧ Instr.actsHeld .crystalLost = false ∧ (∀ c ∈ wHeldDev.pending, c.actsHeld = false) := by
  decide +kernel
theorem wit_front : wHeldDev.pending = Instr.crystalLost :: [] := by decide +kernel
theorem wit_idle : State.reset.pending = [] ∧ State.reset.on .svc F.SVC_BOOT_CTL_SERVING = false := by decide +kernel
theorem wit_idle_serving : let s := (State.reset.setF .svc F.SVC_BOOT_CTL_SERVING 1).setUnitState (.pool 0) stIdle
    s.pending = [] ∧ s.running ∧ s.on .svc F.SVC_BOOT_CTL_SERVING = true ∧ s.live (.pool 0) = true := by decide +kernel
theorem wit_queueAndHold : QueueAndHold wHeldDev wHeldDev ∧ step wHeldDev = .next { wHeldDev with pending := [], resp := .ignored } :=
  ⟨⟨⟨0, rfl⟩, fun _ _ => rfl⟩, by rfl⟩
theorem wit_memory : Memory.wf State.reset.mem = true ∧ SameMemory State.reset State.reset := ⟨by decide +kernel, fun _ => rfl⟩
theorem wit_accessCodes : ∀ i : Fin 4, i.val < 32 := by decide +kernel
theorem wit_unitTree : (0xFFC : Nat) < 0x1000 ∧ (UnitId.chn 2).parent = some (.lane 2) ∧ UnitId.chn 2 ∈ (UnitId.lane 2).children := by
  decide +kernel
theorem wit_divider : (wUnit (.lane 1)).running ∧ (wUnit (.lane 1)).inReset (.lane 1) = false ∧ (0x00400000 : Word).toNat < 2 ^ 23
    ∧ (0x000CCCCC : Word).toNat < 2 ^ 23 ∧ (0x000CCCCD : Word).toNat < 2 ^ 23 ∧ (0x00400001 : Word).toNat < 2 ^ 23 := by decide +kernel
theorem wit_cause : State.reset.running ∧ (6 : Nat) < 7 := by decide +kernel
theorem wit_cause_commands : wLost50.running ∧ wLost50.holdover = true ∧ wLost50.dev.lost50 = true ∧ (wLink wHost).running
    ∧ (wLink wHost).fnExists 0 = true ∧ (wLink wHost).linkIsUp ((wLink wHost).fnPort 0) = true ∧ wWorld.nor = .ok ∧ 64 ≤ wWorld.norMib
    ∧ wWorld.boot ≠ 1 ∧ wWorld.boot ≠ 2
    ∧ ({ State.reset with dev := { Device.reset with power := .thermHeld } } : State).bootRec.next < 4 := by decide +kernel

/-! ### Witnesses of the statements: file part 01 -/


theorem wit_registerWrite : (wUnit (.lane 1)).running ∧ (wUnit (.lane 1)).inReset (.lane 1) = false ∧ 0x44 ≤ Reg.LN_DQ_BASE
    ∧ Reg.LN_DQ_BASE % 4 = 0 ∧ (regDef (.lane 1) Reg.LN_DQ_BASE).isSome = true := by decide +kernel
theorem wit_lowWord : (wUnit (.chn 0)).running ∧ (wUnit (.chn 0)).inReset (.chn 0) = false ∧ isLow (.chn 0) 0xA8 = true
    ∧ popsFifo (.chn 0) 0xA8 = false ∧ (wUnit (.chn 0)).readRule .service (.chn 0) 0xA8 = none := by decide +kernel
def wLatched : State := (wUnit (.chn 0)).setLatch (.chn 0) .service 0xA8 7
theorem wit_highWord : wLatched.running ∧ wLatched.inReset (.chn 0) = false ∧ isHigh (.chn 0) 0xAC = true
    ∧ wLatched.readRule .service (.chn 0) 0xAC = none ∧ wLatched.latch? (.chn 0) .service = some (0xAC - 4, 7) := by decide +kernel
theorem wit_timeout_unit : State.reset.running ∧ (wUnit (.lane 1)).inReset (.lane 1) = false := by decide +kernel
theorem wit_timeout_core : wCore.running ∧ wCore.coreRuns 0 = true ∧ wCore.cf 0 F.POOL_Cc_FLT_VALID = 0 := by decide +kernel
theorem wit_timeout_command : wBound.running ∧ wBound.slot? 9 = some wWriteSlot := by decide +kernel
theorem wit_unitReset : resetRefused .service (.chn 0) = none ∧ (UnitId.chn 0) ≠ .dev := by decide +kernel
theorem wit_resetComplete : let s := State.reset.setUnitState (.chn 0) stReset
    s.running ∧ plainLeaf (.chn 0) = true ∧ s.inReset (.chn 0) = true ∧ s.effEn (.chn 0) = false ∧ s.stage = 0 := by decide +kernel
theorem wit_resetComplete_buf : let s := (State.reset.setUnitState .buf stReset).setF .buf F.BUF_STAT_SELF_REF 1
    s.running ∧ plainLeaf .buf = true ∧ s.inReset .buf = true ∧ s.effEn .buf = false := by decide +kernel
theorem wit_disable : (wUnit (.chn 0)).running ∧ (wUnit (.chn 0)).unitState (.chn 0) = stIdle ∧ (wUnit (.chn 0)).effEn (.chn 0) = true := by
  decide +kernel
theorem wit_unitEnable : let s := (wUnit (.lane 0)).setUnitState (.chn 0) stOff
    s.running ∧ s.unitState (.chn 0) = stOff ∧ (UnitId.chn 0).above.all (fun v => s.en v) = true ∧ s.en (.chn 0) = false := by decide +kernel
theorem wit_enable_tsq :
    let s := wPatch (((wUnit (.lane 0)).setUnitState (.tsq 0) stOff).setReg (.tsq 0) Reg.TSQ_PV (F.TSQ_PV_EN.put (F.TSQ_PV_TARGET.put 0 0x20) 1))
    s.running ∧ s.unitState (.tsq 0) = stOff ∧ (UnitId.tsq 0).above.all (fun v => s.en v) = true ∧ s.en (.tsq 0) = false
      ∧ (s.sq 0).running = false ∧ s.fetchGood 0 0 := by decide +kernel
theorem wit_drainEnd : let s := State.reset.setUnitState (.chn 0) stDrain
    s.running ∧ s.unitState (.chn 0) = stDrain ∧ s.unitWork (.chn 0) = false ∧ s.effEn (.chn 0) = false := by decide +kernel

/-! ### Witnesses of the statements: file part 02 -/


theorem wit_crystalLost : State.reset.running ∧ State.reset.holdover = false := by decide +kernel
theorem wit_crystalReturn : wLost.running ∧ wLost.holdover = true ∧ wLost.dev.lost50 = false ∧ wLost.saveReady = false := by decide +kernel
theorem wit_holdover50 : let s := (wVault wLost).setF (.srv 0) F.SRV_STAT_MODE mFollow
    s.running ∧ s.holdover = true ∧ s.dev.lost50 = false ∧ s.saveReady = true ∧ s.vault.saving = none
      ∧ closedLoop (s.mode 0) = true := by decide +kernel
theorem wit_holdover2s : wLost50.running ∧ wLost50.holdover = true ∧ wLost50.dev.lost50 = true := by decide +kernel
theorem wit_clkDivTakeEffect : wPend.running ∧ wPend.clocked (.lane 1) = true ∧ (wPend.lane 1).divPending = some 0x00100000 ∧ wPend.readGate 1 = false
    ∧ (wPend.lane 1).wgate = false ∧ wPend.agate 1 = false := by decide +kernel
theorem wit_clkDivWaits : let s := wPend.setF (.ast 1) F.AST_STAT_AGATE 1
    s.running ∧ s.clocked (.lane 1) = true ∧ (s.lane 1).divPending = some 0x00100000 ∧ s.agate 1 = true := by decide +kernel
def wSlewing : State := (wUnit (.lane 1)).setF (.lane 1) F.LN_CLK_STAT_SETTLED 0
theorem wit_lclkSettled : wSlewing.running ∧ wSlewing.clocked (.lane 1) = true ∧ wSlewing.settled 1 = false := by decide +kernel
theorem wit_subsystemReset : (wLink wHost).running ∧ (wLink wHost).fnExists 0 = true ∧ (wLink wHost).linkIsUp ((wLink wHost).fnPort 0) = true
    ∧ (wLink wHost).linkIsUp 0 = true := by decide +kernel
def wPerst (b : Bool) : State := State.reset.setPort 0 { State.reset.port 0 with perst := b }
theorem wit_perst : (wPerst false).running ∧ ((wPerst false).port 0).perst = false ∧ ((wPerst true).port 0).perst = true := by decide +kernel
theorem wit_powerState : wHost.running ∧ wHost.ctrlServes 0 = true ∧ wHost.svcs.chrysalis = false ∧ wHost.inReset .dev = false := by
  decide +kernel
theorem wit_apst : wHost.dev.ps < 3 ∧ wHost.allParked = true ∧ wHost.dirtyGranules = 0 ∧ wHost.dev.psStopped = false
    ∧ wHost.dev.psParked = [] ∧ wHost.capLevel ≤ 2 := by decide +kernel
theorem wit_apst_spindle : let s := wSpn spRun
    s.running ∧ s.svcs.chrysalis = false ∧ s.dev.ps < 4 ∧ s.allParked = true ∧ s.dirtyGranules = 0 ∧ s.takes .spn = true
      ∧ s.spMode ≠ spStopped := by decide +kernel
theorem wit_apst_wait : let s := wSrv mFollow 1
    s.running ∧ s.svcs.chrysalis = false ∧ s.dev.ps < 3 ∧ s.allParked = false ∧ closedLoop (s.mode 0) = true := by decide +kernel
theorem wit_capWrite : State.reset.inReset .dev = false ∧ State.reset.capLevel ≤ (3 : Word).toNat % 4
    ∧ (1 : Word).toNat % 4 < (State.reset.setF .dev F.DEV_PWR_CAP_LEVEL 3).capLevel
    ∧ (State.reset.setF .dev F.DEV_PWR_CAP_LEVEL 3).inReset .dev = false := by decide +kernel
theorem wit_perst_registers : ∀ n : Fin 4, let s := wSrv mFollow 1
    (UnitId.srv n, Reg.SRV_STAT) ≠ (UnitId.dev, Reg.DEV_RST_CAUSE) ∧ (n = 0 → s.maybeOffRamp n = true) ∧ Reg.HZL_SVN < 0x1000 := by
  decide +kernel

/-! ### Witnesses of the statements: file part 03 -/


/-- Lane 0 can fetch from a ring whose only descriptor is `d`, and slot 9 is open. -/
def wFetchable (d : List Word) : State :=
  let s := ((wUnit (.tsq 0)).setUnitState (.lane 0) stIdle).setSlot 9 wAtWork
  (([(Reg.LN_DQ_CTL, 0x80000007), (Reg.LN_DQ_BASE, 0x10000000), (Reg.LN_DQ_TAIL, 1), (Reg.LN_RQ_CTL, 0x80000007),
    (Reg.LN_RQ_BASE, 0x10001000)] : List (Nat × Word)).foldl (fun t e => t.setReg (.lane 0) e.1 e.2) s).setBytes 0x10000000
      (d.flatMap wordBytes)
theorem wit_dispatchFetch_refused : let s := wFetchable [0, 0, 0, 0]
    s.running ∧ s.fetchReady 0 = true ∧ s.fetchHeld = false ∧ s.badDescriptor 0 (s.nextDescriptor 0) = true := by decide +kernel
theorem wit_dispatchFetch : let s := wFetchable (wDisp 1 0 9 3 100 0 1).raw
    s.running ∧ s.fetchReady 0 = true ∧ s.fetchHeld = false ∧ s.badDescriptor 0 (s.nextDescriptor 0) = false
      ∧ (s.slotState (s.nextDescriptor 0).slot).isOpen = true ∧ (s.nextDescriptor 0).mode = 0
      ∧ s.headRefuses ((s.nextDescriptor 0).stamp (s.epoch (s.nextDescriptor 0).slot)) = false := by decide +kernel
theorem wit_dispatchFetch_epoch : let s := wFetchable (wDisp 2 1 9 3 100 0 1).raw
    s.running ∧ s.fetchReady 0 = true ∧ s.fetchHeld = false ∧ s.badDescriptor 0 (s.nextDescriptor 0) = false
      ∧ s.fetchWaits (s.nextDescriptor 0) = false ∧ (s.slotState (s.nextDescriptor 0).slot).isOpen = true ∧ (s.nextDescriptor 0).mode = 1
      ∧ s.headRefuses ((s.nextDescriptor 0).stamp ((s.epoch (s.nextDescriptor 0).slot + 1) % 256)) = false := by decide +kernel
theorem wit_dispatchFetch_held : let s := wFetchable (wDisp 1 0 9 3 100 0 1).raw
    let t : State := { s with dev := { s.dev with mediaPause := true } }
    t.running ∧ t.fetchReady 0 = true ∧ t.fetchHeld = true := by decide +kernel
/-- Slot 9 has been cancelled on lane 0: its epoch is 1. -/
def wOwes : State := { State.reset with cmd := { State.reset.cmd with cancels := [⟨9, 1, [0]⟩], epochs := [(9, 1)] } }
def wOwesCur : State := wCur wOwes (wDisp 1 0 9 3 100 0 1)
theorem wit_cancelReceive : wOwesCur.running ∧ wOwesCur.owes 0 9 = true ∧ (wOwesCur.lane 0).next = none ∧ (wOwesCur.lane 0).tails = []
    ∧ (wOwesCur.lane 0).reports = [] ∧ (wOwesCur.lane 0).cur.any (wOwesCur.staleDisp 9) = true := by decide +kernel
theorem wit_cancelReceive_none : wOwes.running ∧ wOwes.owes 0 9 = true ∧ (wOwes.lane 0).next = none ∧ (wOwes.lane 0).tails = []
    ∧ (wOwes.lane 0).reports = [] ∧ (wOwes.lane 0).cur.any (wOwes.staleDisp 9) = false := by decide +kernel
theorem wit_cancelAck : wOwes.running ∧ wOwes.owes 0 9 = true
    ∧ ((wOwes.lane 0).next.toList ++ (wOwes.lane 0).cur.toList).any (wOwes.staleDisp 9) = false := by decide +kernel
def wRep (stamped : Bool) : Report := ⟨9, 0, 3, 0, 1, 0, 0, 0, stamped, none⟩
def wReported (s : State) (b : Bool) : State := s.setLane 0 { s.lane 0 with reports := [wRep b] }
theorem wit_report : let s := wReported (wFetchable [0, 0, 0, 0]) false
    s.running ∧ (s.lane 0).reports = wRep false :: [] ∧ s.staleReport (wRep false) = false ∧ (s.rq 0).full = false := by decide +kernel
theorem wit_report_stale : (wReported wOwes true).running ∧ ((wReported wOwes true).lane 0).reports = wRep true :: []
    ∧ (wReported wOwes true).staleReport (wRep true) = true := by decide +kernel
def wSect (prof : Word) : SectRef :=
  { dispId := 1, idx := 0, slot := 9, epoch := 0, head := 3, track := 100, sector := 0, handle := 3, write := false, dual := false,
    prof := prof, captured := true, lockLost := false }
def wResult : SectResult := ⟨wSect 0, [], .otf, false⟩
def wDma (s : State) : State :=
  (s.setUnitState (.chn 0) stIdle).setCh 0 { s.ch 0 with results := [wResult] }
theorem wit_sectorResult_stale : (wDma wOwes).running ∧ (wDma wOwes).live (.chn 0) = true ∧ ((wDma wOwes).ch 0).results = wResult :: []
    ∧ (wDma wOwes).staleSector (wSect 0) = true := by decide +kernel
theorem wit_sectorResult : (wDma wEntry).running ∧ (wDma wEntry).live (.chn 0) = true ∧ ((wDma wEntry).ch 0).results = wResult :: []
    ∧ (wDma wEntry).staleSector (wSect 0) = false ∧ (wSect 0).dual = false ∧ (wDma wEntry).translate (wSect 0).handle true = .page 5
    ∧ (List.replicate 4096 (7 : Byte)).length = 4096 := by
  decide +kernel
def wHeadIdx (i : Nat) : State := (wUnit .med).setReg .med Reg.MED_HEAD_IDX (BitVec.ofNat 32 i)
theorem wit_headStateWrite : (wHeadIdx 50).running ∧ (wHeadIdx 50).inReset .med = false
    ∧ 48 ≤ ((wHeadIdx 48).reg .med Reg.MED_HEAD_IDX).toNat % 64 ∧ ((wHeadIdx 47).reg .med Reg.MED_HEAD_IDX).toNat % 64 < 48
    ∧ (wHeadIdx 47).inReset .med = false := by decide +kernel

/-! ### Witnesses of the statements: file part 04 -/


def wChn : State := wUnit (.chn 0)
/-- A sector is being captured, so the read gate is open. -/
def wCapture : State := (wChn.setF (.chn 0) F.CHN_CTL_DEFECT_EN 1).setTim 0 { wChn.tim 0 with caps := [wSect 0], excl := false }
theorem wit_defect : wCapture.running ∧ wCapture.live (.chn 0) = true ∧ wCapture.readGate 0 = true
    ∧ (wCapture.tim 0).excl = false ∧ wCapture.on (.chn 0) F.CHN_CTL_DEFECT_EN = true := by decide +kernel
theorem wit_lockLost : let s := wCapture.setTim 0 { wCapture.tim 0 with act := [wSect 0] }
    s.running ∧ s.live (.chn 0) = true ∧ s.readGate 0 = true ∧ (s.tim 0).caps = [wSect 0]
      ∧ (s.tim 0).act.any (fun q => q.same (wSect 0)) = true := by decide +kernel
theorem wit_defectEnd : let s := wCapture.setCh 0 { wCapture.ch 0 with defect := true }
    s.running ∧ (s.ch 0).defect = true ∧ (s.tim 0).dhold = false ∧ s.readGate 0 = true := by decide +kernel
def wSynced : State := wChn.setCh 0 { wChn.ch 0 with sync := [SyncEvent.make 1 0 0 (wSect 0)] }
theorem wit_syncPop : wSynced.running ∧ wSynced.inReset (.chn 0) = false ∧ (wSynced.ch 0).sync = SyncEvent.make 1 0 0 (wSect 0) :: []
    ∧ (wChn.ch 0).sync = [] := by decide +kernel
def wWriting : State := wChn.setTim 0 { wChn.tim 0 with wreq := true }
theorem wit_paFault : wChn.running ∧ wChn.writing 0 = false ∧ wWriting.running ∧ wWriting.writing 0 = true := by decide +kernel
def wDue (prof : Word) : State := wChn.setCh 0 { wChn.ch 0 with due := [wSect prof] }
theorem wit_decode : (wDue 0).running ∧ (wDue 0).live (.chn 0) = true ∧ ((wDue 0).ch 0).due = wSect 0 :: []
    ∧ (wDue 0).pin? 0 2 = none ∧ (wSect 0).captured = true ∧ (wSect 0).lockLost = false := by decide +kernel
theorem wit_decode_pin : ((wDue 0x20800).ch 0).due = wSect 0x20800 :: [] ∧ F.CHN_RPROF_PIN.get (wSect 0x20800).prof ≠ 0
    ∧ ((wDue 0x20800).ch 0).pins.length < 2 ∧ (wDue 0x20800).autoWanted 0 (wSect 0x20800) = true := by decide +kernel
def wPin (auto : Bool) : Pin := ⟨2, wSect 0x20800, auto, false, [(1, 2)], wSync, false⟩
def wPinned (auto : Bool) (j : Option DdJob) : State := wChn.setCh 0 { wChn.ch 0 with pins := [wPin auto], job := j }
theorem wit_autoRecovery : (wPinned true none).running ∧ (wPinned true none).live (.chn 0) = true ∧ ((wPinned true none).ch 0).job = none
    ∧ ((wPinned true none).ch 0).queued = none ∧ ((wPinned true none).ch 0).pins.find? (fun p => p.auto && !p.done) = some (wPin true)
    ∧ (wPin true).ref.ddglob ≠ 0 := by decide +kernel
theorem wit_deepDecodeCmd : (wPinned false none).running ∧ (wPinned false none).inReset (.chn 0) = false
    ∧ F.CHN_DD_CMD_GO.get 0x80000012 = 1 ∧ ((wPinned false none).ch 0).queued = none ∧ ((wPinned false none).ch 0).ddBusy = false
    ∧ 1 ≤ F.CHN_DD_CMD_GLOB.get 0x80000012 ∧ F.CHN_DD_CMD_GLOB.get 0x80000012 ≤ 20
    ∧ (wPinned false none).pin? 0 (F.CHN_DD_CMD_SLOT.get 0x80000012) = some (wPin false) ∧ (wPin false).auto = false := by decide +kernel
def wJob : DdJob := ⟨2, wSect 0x20800, false, 1, 0, false, false⟩
theorem wit_deepDecodeDone : ((wPinned false (some wJob)).ch 0).job = some wJob ∧ ((wPinned false (some wJob)).ch 0).queued = none
    ∧ wJob.released = false
    ∧ wJob.done = false ∧ (wPinned false (some wJob)).pin? 0 wJob.num = some (wPin false) ∧ wJob.num < 4 := by decide +kernel
theorem wit_slots : let s := wPinned false none
    s.running ∧ s.inReset (.chn 0) = false ∧ s.pin? 0 2 = some (wPin false) ∧ (wPin false).auto = false ∧ (wPin false).cmd = false
      ∧ (s.ch 0).queued = none := by decide +kernel
end

/-! SUPPORT. The access codes and the unit tree: what a write does to each bit of a register, and where each unit stands. -/

namespace Sys2Proof.Machine

/-- Bit `i` of a register after a write (R7). -/
theorem RegDef.getLsbD_write (r : RegDef) (lock : Bool) (old v : Word) {i : Nat} (h : i < 32) :
    (r.write lock old v).getLsbD i
      = if r.w1s.getLsbD i = true ∧ v.getLsbD i = true then true
        else if r.w1c.getLsbD i = true ∧ v.getLsbD i = true then false
        else if r.rw.getLsbD i = true ∨ (r.rwl.getLsbD i = true ∧ lock = false) then v.getLsbD i else old.getLsbD i := by
  have hlock : (if lock then (0 : Word) else r.rwl).getLsbD i = (!lock && r.rwl.getLsbD i) := by cases lock <;> simp
  simp only [RegDef.write, BitVec.getLsbD_or, BitVec.getLsbD_and, BitVec.getLsbD_not, h, hlock, decide_true, Bool.true_and]
  cases lock <;> cases r.rw.getLsbD i <;> cases r.rwl.getLsbD i <;> cases r.w1c.getLsbD i <;> cases r.w1s.getLsbD i <;>
    cases v.getLsbD i <;> simp

/-- Every unit is among the 35 (R23). -/
theorem mem_units (u : UnitId) : u ∈ units := by
  cases u with
  | piv p | pep p | pool p => revert p; decide
  | lane n | chn n | tsq n | srv n | ast n => revert n; decide
  | _ => decide

/-- A unit's number finds it (R6, R23). -/
theorem unitOfNum_num (u : UnitId) : unitOfNum u.num = some u := by
  cases h : unitOfNum u.num with
  | none =>
    have := List.find?_eq_none.mp h u (mem_units u)
    simp at this
  | some v =>
    have hv := List.find?_some h
    rw [UnitId.num_inj (beq_iff_eq.mp hv)]

/-- An address in a unit's block names that unit and the offset (R6, R8). -/
theorem unitAt_block (u : UnitId) {o : Nat} (h : o < 0x1000) : unitAt (0x20000000 + 0x1000 * u.num + o) = some (u, o) := by
  have hn := UnitId.num_lt u
  have hblock : (0x20000000 + 0x1000 * u.num + o - 0x20000000) / 0x1000 = u.num := by omega
  have hoff : (0x20000000 + 0x1000 * u.num + o) % 0x1000 = o := by omega
  rw [unitAt, if_pos (by omega), hblock, hoff, unitOfNum_num, Option.map_some]

/-- A unit is among another's children exactly if that one is its parent (R23). -/
theorem UnitId.mem_children_iff (u v : UnitId) : v ∈ u.children ↔ v.parent = some u := by
  have h : ∀ u ∈ units, ∀ v ∈ units, v ∈ u.children ↔ v.parent = some u := by decide +kernel
  exact h u (mem_units u) v (mem_units v)

/-- The groups above a unit are its parent and the groups above that one (R23). -/
theorem UnitId.above_of_parent (u v : UnitId) (h : u.parent = some v) : u.above = v :: v.above := by
  cases u <;> cases h <;> rfl

/-- The groups are the units that have children (R23). -/
theorem UnitId.isGroup_eq (u : UnitId) : u.isGroup = !u.children.isEmpty := by
  cases u with
  | piv p => revert p; decide
  | _ => rfl

/-- Settles O6: the write of a register, bit by bit. -/
theorem accessCodes : Obligations.AccessCodes := fun r lock old v _ h => r.getLsbD_write lock old v h

/-- Settles O8, from the numbers and the links of the units. -/
theorem unitTree : Obligations.UnitTree :=
  ⟨rfl, by decide, mem_units, fun u _ h => unitAt_block u h, fun _ _ h => UnitId.num_inj h, UnitId.mem_children_iff,
    UnitId.isGroup_eq, UnitId.above_of_parent⟩

end Sys2Proof.Machine

/-! SUPPORT. Accesses over the fabric: a command's result on a running device, reads of the words of a pair (R4), a write of a
lane's register (R7) and the fault record of a core (R384). -/

namespace Sys2Proof.Machine

variable {s t : State}

/-- A command of a running device completes with its result, where that keeps the queue. -/
theorem Completes.of_result {i : Instr} {f : State → State} {P : State → Prop} (hr : s.running) (he : exec i s = done s f)
    (hf : f (s.answer .none) = t) (h : P t) (hq : t.pending = s.pending) : Completes i s P := by
  have hkept : { t with pending := s.pending } = t := by
    cases t
    cases hq
    rfl
  refine ⟨t, ?_, h⟩
  calc exec i s = .next { f (s.answer .none) with pending := s.pending } := he.trans (done_on s f hr)
    _ = .next t := by rw [hf, hkept]

theorem exec_registerWrite (e : Engine) (size addr : Nat) (v : Word) (par : Parity) (s : State) :
    exec (.registerWrite e size addr v par) s = execRegisterWrite e size addr v par s := rfl
theorem exec_lowWordRead (e : Engine) (u : UnitId) (off : Nat) (s : State) :
    exec (.lowWordRead e u off) s = execLowWordRead e u off s := rfl
theorem exec_highWordRead (e : Engine) (u : UnitId) (off : Nat) (s : State) :
    exec (.highWordRead e u off) s = execHighWordRead e u off s := rfl
theorem exec_fabricTimeout (w : TimedOut) (s : State) : exec (.fabricTimeout w) s = execFabricTimeout w s := rfl

/-! ### Causes and latches -/

/-- A leaf sets a common cause in its own bit, a group in its own byte (R19). -/
theorem State.reg_err (s : State) (u : UnitId) (i : Nat) : (s.err u i).reg u Reg.UNIT_ERR
    = s.reg u Reg.UNIT_ERR ||| BitVec.ofNat 32 (2 ^ (if u.isGroup then 8 + i else i)) := by
  simp [State.err, State.setBits]

theorem OnlyRegs.pending (h : OnlyRegs s t) : t.pending = s.pending := by rw [h]

/-- A cause set in UNIT_ERR changes no other register. -/
theorem RegsBut.err (s : State) (u : UnitId) (i : Nat) : RegsBut s (s.err u i) [(u, Reg.UNIT_ERR)] :=
  RegsBut.setReg s u (by decide) _

/-- The latch of an engine holds what was last loaded into it. -/
theorem State.latch?_setLatch (s : State) (u : UnitId) (e : Engine) (lo : Nat) (hi : Word) :
    (s.setLatch u e lo hi).latch? u e = some (lo, hi) := by
  simp [State.latch?, State.setLatch, Sparse.find?_insert]

/-! ### Reads of the words of a pair (R4) -/

/-- The register is a word of a pair. -/
def inPair (u : UnitId) (off : Nat) : Bool := isLow u off || isHigh u off

theorem inPair_ne {u : UnitId} {off k : Nat} (h : inPair u off = true) (hk : inPair u k = false) : off ≠ k := by
  rintro rfl
  simp [h] at hk

/-- The low word of a high word's pair. -/
theorem isHigh_iff {u : UnitId} {off : Nat} : isHigh u off = true ↔ ∃ k ∈ lowWords u, off = k + 4 := by
  simp only [isHigh, Bool.and_eq_true, decide_eq_true_eq, List.contains_iff_mem]
  constructor
  · rintro ⟨h4, hmem⟩
    exact ⟨_, hmem, by omega⟩
  · rintro ⟨k, hmem, rfl⟩
    exact ⟨by omega, hmem⟩

/-- A word of a pair is its low word or its high word. -/
theorem inPair_iff {u : UnitId} {off : Nat} : inPair u off = true ↔ ∃ k ∈ lowWords u, off = k ∨ off = k + 4 := by
  simp only [inPair, Bool.or_eq_true, isHigh_iff, isLow, List.contains_iff_mem]
  constructor
  · rintro (h | ⟨k, h, rfl⟩)
    · exact ⟨_, h, .inl rfl⟩
    · exact ⟨k, h, .inr rfl⟩
  · rintro ⟨k, h, rfl | rfl⟩
    · exact .inl h
    · exact .inr ⟨k, h, rfl⟩

/-- Where a core's register lies in its pool's block and among the core's registers (R411). -/
theorem coreAt_off {p : Fin 2} {off : Nat} {c : Fin 16} {o : Nat} (h : coreAt p off = some (c, o)) :
    0x100 ≤ off ∧ o = 0x100 + (off - 0x100) % 0x40 := by
  unfold coreAt at h
  split at h
  · rename_i hoff
    obtain ⟨_, _, he⟩ := Option.map_eq_some_iff.mp h
    exact ⟨hoff.1, (Prod.mk.inj he).2.symm⟩
  · exact absurd h nofun

/-- The word of a pair in a core's registers is one of its fault address (R412). -/
theorem inPair_coreAt {p : Fin 2} {off : Nat} {c : Fin 16} {o : Nat} (h : inPair (.pool p) off = true)
    (hc : coreAt p off = some (c, o)) : o = Reg.POOL_Cc_FLT_ADDR_LO ∨ o = Reg.POOL_Cc_FLT_ADDR_HI := by
  obtain ⟨hoff, ho⟩ := coreAt_off hc
  simp only [Reg.POOL_Cc_FLT_ADDR_LO, Reg.POOL_Cc_FLT_ADDR_HI]
  obtain ⟨k, hk, hword⟩ := inPair_iff.mp h
  simp only [lowWords, List.mem_append, List.mem_cons, List.mem_map, List.not_mem_nil, or_false, Reg.POOL_MBX_POP_LO,
    Reg.POOL_Cc_FLT_ADDR_LO] at hk
  obtain hm | ⟨i, -, hi⟩ := hk <;> omega

/-- A word of a pair in a pool, but for one that removes a message, is read with its latch. -/
theorem State.readPool_of_pair (e : Engine) {p : Fin 2} {off : Nat} (hpop : popsFifo (.pool p) off = false)
    (h : inPair (.pool p) off = true) : s.readPool e p off = s.readPlain e (.pool p) off := by
  have hrsv : off ≠ Reg.POOL_MBX_RSV := inPair_ne h rfl
  have hlo : off ≠ Reg.POOL_MBX_POP_LO := by simpa [popsFifo] using hpop
  simp only [State.readPool, hrsv, hlo, if_false]
  split
  · rename_i c o hc
    obtain rfl | rfl := inPair_coreAt h hc <;> rfl
  · rfl

/-- A word of a pair, but for those that remove a FIFO entry, is read with its latch. -/
theorem State.readReg_of_pair (e : Engine) {u : UnitId} {off : Nat} (hpop : popsFifo u off = false)
    (h : inPair u off = true) : s.readReg e u off = s.readPlain e u off := by
  cases u with
  | chn n =>
    have : off ≠ Reg.CHN_SEV_LO := by simpa [popsFifo] using hpop
    simp only [State.readReg, this, if_false]
  | tsq n => exact if_neg (inPair_ne h rfl)
  | srv n => exact (if_neg (inPair_ne h rfl)).trans (if_neg (inPair_ne h rfl))
  | ast n => exact if_neg (inPair_ne h rfl)
  | spn => exact if_neg (inPair_ne h rfl)
  | buf =>
    have : off ≠ Reg.BUF_EV_LO := by simpa [popsFifo] using hpop
    exact (if_neg this).trans (if_neg (inPair_ne h rfl))
  | cmd => exact if_neg (inPair_ne h rfl)
  | pool p => exact State.readPool_of_pair e hpop h
  | hkp => exact if_neg (inPair_ne h rfl)
  | svc => exact if_neg (inPair_ne h rfl)
  | med => exact if_neg (fun hc => inPair_ne h rfl hc.1)
  | _ => rfl

/-- A read of a low word that no rule refuses answers it and loads the reader's latch. -/
theorem State.regRead_low {e : Engine} {u : UnitId} {off : Nat} (hrule : s.readRule e u off = none) (h : isLow u off = true)
    (hpop : popsFifo u off = false) : s.regRead e u off = s.readLow e u off := by
  have hp : inPair u off = true := by simp [inPair, h]
  simp only [State.regRead, hrule, State.readReg_of_pair e hpop hp, State.readPlain, h, if_true]

/-- No high word is a low word, and none removes a FIFO entry. -/
theorem lowWords_add_four {u : UnitId} {k : Nat} (h : k ∈ lowWords u) : isLow u (k + 4) = false ∧ popsFifo u (k + 4) = false := by
  have hall : ∀ u ∈ units, ∀ k ∈ lowWords u, isLow u (k + 4) = false ∧ popsFifo u (k + 4) = false := by decide +kernel
  exact hall u (mem_units u) k h

/-- A read of a high word that no rule refuses answers the word that the reader's latch holds for it. -/
theorem State.regRead_high {e : Engine} {u : UnitId} {off : Nat} {hi : Word} (hrule : s.readRule e u off = none)
    (h : isHigh u off = true) (hl : s.latch? u e = some (off - 4, hi)) : s.regRead e u off = s.answer (.value hi) := by
  have hp : inPair u off = true := by simp [inPair, h]
  obtain ⟨k, hk, rfl⟩ := isHigh_iff.mp h
  obtain ⟨hlow, hpop⟩ := lowWords_add_four hk
  simp [State.regRead, hrule, State.readReg_of_pair e hpop hp, State.readPlain, hlow, h, State.readHigh, hl]

/-- A read of a low word that nothing refuses completes as a read with the latch. -/
theorem Completes.lowWordRead {e : Engine} {u : UnitId} {off : Nat} {P : State → Prop} (hr : s.running) (hrst : s.inReset u = false)
    (hlow : isLow u off = true) (hpop : popsFifo u off = false) (hrule : s.readRule e u off = none)
    (hP : P ((s.answer .none).readLow e u off)) : Completes (.lowWordRead e u off) s P := by
  refine Completes.of_result hr (exec_lowWordRead e u off s) ?_ hP rfl
  have hread : (s.answer .none).regRead e u off = (s.answer .none).readLow e u off := State.regRead_low hrule hlow hpop
  simp only [hlow, hread, State.when_true]
  exact State.access_ok hrst (fun _ h => nomatch (h : Resp.value _ = Resp.busError _))

/-- A read of a high word that nothing refuses completes with the latched word. -/
theorem Completes.highWordRead {e : Engine} {u : UnitId} {off : Nat} {hi : Word} {P : State → Prop} (hr : s.running)
    (hrst : s.inReset u = false) (hhigh : isHigh u off = true) (hrule : s.readRule e u off = none)
    (hl : s.latch? u e = some (off - 4, hi)) (hP : P (s.answer (.value hi))) : Completes (.highWordRead e u off) s P := by
  refine Completes.of_result hr (exec_highWordRead e u off s) ?_ hP rfl
  have hread : (s.answer .none).regRead e u off = (s.answer .none).answer (.value hi) := State.regRead_high hrule hhigh hl
  simp only [hhigh, hread, State.when_true]
  exact State.access_ok hrst (fun _ h => nomatch (h : Resp.value _ = Resp.busError _))

/-! ### A write of a lane's register (R7) -/

/-- The address of a lane's register. -/
theorem addr_lane (n : Fin 4) (off : Nat) : 0x20300000 + 0x1000 * n.val + off = 0x20000000 + 0x1000 * (UnitId.lane n).num + off := by
  simp only [UnitId.num]
  omega

/-- Every register of a lane lies below 0x70 in its block. -/
theorem regDef_lane_lt {n : Fin 4} {off : Nat} {r : RegDef} (h : regDef (.lane n) off = some r) : off < 0x70 := by
  unfold regDef at h
  split at h
  · omega
  · have hall : ∀ r ∈ laneRegs, r.off < 0x70 := by decide
    have hoff := List.find?_some h
    have := hall r (List.mem_of_find?_eq_some h)
    simp only [beq_iff_eq] at hoff
    omega

/-- Every word of the unit register space is open to a write of every engine (R31). -/
theorem State.checkMap_unitSpace (e : Engine) {a : Nat} (hlo : 0x20000000 ≤ a) (hhi : a + 4 ≤ 0x24000000) :
    s.region a = some .unitSpace ∧ s.checkMap (.engine e) a 4 .write = none := by
  have hregion : ∀ b, 0x20000000 ≤ b → b ≤ 0x23FFFFFF → s.region b = some .unitSpace := by
    intro b hb hb'
    simp only [State.region]
    rw [if_neg (by omega), if_neg (by omega), if_pos ⟨hb, hb'⟩]
  have hrights : rights (.engine e) .unitSpace .write = true := by cases e <;> rfl
  refine ⟨hregion a hlo (by omega), ?_⟩
  simp only [State.checkMap, hregion a hlo (by omega), hregion (a + 4 - 1) (by omega) (by omega), State.allowed, hrights, if_true,
    Bool.and_self]

/-- A write of a lane's register, but for its divider, acts as the access codes say. -/
theorem State.regWriteAll_lane (e : Engine) {n : Fin 4} {off : Nat} (v : Word) {r : RegDef} (h : 0x44 ≤ off)
    (hr : regDef (.lane n) off = some r) :
    s.regWriteAll e (.lane n) off v = s.setReg (.lane n) off (r.write s.locked (s.reg (.lane n) off) v) := by
  have hhdr : ¬off < 0x40 := by omega
  have hdiv : off ≠ Reg.LN_CLK_DIV := by
    simp only [Reg.LN_CLK_DIV]
    omega
  simp [State.regWriteAll, State.writeRule, State.writeReg, State.writePlain, hhdr, hdiv, hr]

/-- A write of four bytes with good parity reaches the register at an address in a block of the unit register space. -/
theorem State.unitAccess_write (e : Engine) {u : UnitId} {off : Nat} (ho : off < 0x1000) (h4 : off % 4 = 0)
    (hrst : s.inReset u = false) (f : State → UnitId → Nat → State) :
    s.unitAccess e (0x20000000 + 0x1000 * u.num + off) 4 .write .ok false f = f s u off := by
  have hn := UnitId.num_lt u
  have hmap := (s.checkMap_unitSpace e (a := 0x20000000 + 0x1000 * u.num + off) (by omega) (by omega)).2
  have halign : (0x20000000 + 0x1000 * u.num + off) % 4 = 0 := by omega
  simp [State.unitAccess, State.checkReg, hmap, unitAt_block u ho, halign, hrst, State.parity, State.parityAt]

/-- A write of a lane's register, but for its divider, with good parity completes as the access codes say. -/
theorem Completes.registerWrite_lane (e : Engine) {n : Fin 4} {off : Nat} (v : Word) {r : RegDef} {P : State → Prop} (hr : s.running)
    (hrst : s.inReset (.lane n) = false) (h : 0x44 ≤ off) (h4 : off % 4 = 0) (hd : regDef (.lane n) off = some r)
    (hP : P ((s.answer .none).setReg (.lane n) off (r.write s.locked (s.reg (.lane n) off) v))) :
    Completes (.registerWrite e 4 (0x20300000 + 0x1000 * n.val + off) v .ok) s P := by
  have ho : off < 0x70 := regDef_lane_lt hd
  have hn := UnitId.num_lt (.lane n)
  obtain ⟨hregion, hmap⟩ := (s.answer .none).checkMap_unitSpace e
    (a := 0x20000000 + 0x1000 * (UnitId.lane n).num + off) (by omega) (by omega)
  refine Completes.of_result hr (exec_registerWrite e _ _ v .ok s) ?_ hP rfl
  rw [addr_lane]
  simp only [hmap, hregion, if_true]
  rw [State.unitAccess_write (s := s.answer .none) e (by omega) h4 hrst, State.regWriteAll_lane e v h hd]
  exact State.toRequester_ok (fun _ h => nomatch (h : Resp.none = Resp.busError _))

/-! ### The fault record of a core (R384, R412) -/

/-- A field of a core's registers reads back what was put into it. -/
theorem State.cf_setCf_same (s : State) (c : Fin 16) (f : Field) (v : Nat) (h : f.lo + f.width ≤ 32) :
    (s.setCf c f v).cf c f = v % 2 ^ f.width := s.f_setF_same _ (f.at (coreOff c)) v h

/-- A field of other bits of the same register of a core after a field is set. -/
theorem State.cf_setCf_ne (s : State) (c : Fin 16) (f g : Field) (v : Nat) (ho : g.off = f.off) (hg : g.lo + g.width ≤ 32)
    (h : g.lo + g.width ≤ f.lo ∨ f.lo + f.width ≤ g.lo) : (s.setCf c f v).cf c g = s.cf c g :=
  s.f_setF_ne _ (f.at (coreOff c)) (g.at (coreOff c)) v (congrArg (· + coreOff c) ho) hg h

/-- A field of a core's registers after a write of another register of its pool. -/
theorem State.cf_setReg_ne (s : State) (c : Fin 16) (f : Field) {o : Nat} (w : Word) (h : f.off + coreOff c ≠ o) :
    (s.setReg (.pool (poolOf c)) o w).cf c f = s.cf c f := by
  have hk : key (.pool (poolOf c)) (f.at (coreOff c)).off ≠ key (.pool (poolOf c)) o := fun hk => h (key_inj_off.mp hk)
  simp only [State.cf, State.f, State.reg_setReg_ne s hk]

/-- An access fault of a core whose record is free, as the writes it makes. -/
theorem State.coreFault_eq (s : State) (c : Fin 16) (kind : Nat) (b : BusCause) (a : Nat) (hv : s.cf c F.POOL_Cc_FLT_VALID = 0) :
    s.coreFault c kind b a
      = (((((s.setCf c F.POOL_Cc_FLT_VALID 1).setCf c F.POOL_Cc_FLT_KIND kind).setCf c F.POOL_Cc_FLT_CAUSE b.code).setReg
          (.pool (poolOf c)) (Reg.POOL_Cc_FLT_ADDR_LO + coreOff c) (BitVec.ofNat 32 a)).setReg (.pool (poolOf c))
            (Reg.POOL_Cc_FLT_ADDR_HI + coreOff c) (BitVec.ofNat 32 (a / 2 ^ 32 % 256))).answer (.busError b) := by
  simp [State.coreFault, hv]

/-- A cause set in a pool's UNIT_ERR leaves the fields of its cores' registers. -/
theorem State.cf_err (s : State) (c : Fin 16) (f : Field) (i : Nat) (h : 0x10 < f.off) :
    (s.err (.pool (poolOf c)) i).cf c f = s.cf c f :=
  s.cf_setReg_ne c f _ (by simp only [Reg.UNIT_ERR]; omega)

/-- An access fault of a core whose record is free fills the record and nothing else. -/
theorem State.coreFault_free (s : State) (c : Fin 16) (k : CoreKind) (b : BusCause) (a : Nat) (hb : b.code < 16)
    (hv : s.cf c F.POOL_Cc_FLT_VALID = 0) :
    (s.coreFault c (kindCode k) b a).resp = .busError b
      ∧ (s.coreFault c (kindCode k) b a).cf c F.POOL_Cc_FLT_VALID = 1
      ∧ (s.coreFault c (kindCode k) b a).cf c F.POOL_Cc_FLT_CAUSE = b.code
      ∧ (s.coreFault c (kindCode k) b a).cf c F.POOL_Cc_FLT_KIND = kindCode k
      ∧ (s.coreFault c (kindCode k) b a).reg (.pool (poolOf c)) (Reg.POOL_Cc_FLT_ADDR_LO + coreOff c) = BitVec.ofNat 32 a
      ∧ (s.coreFault c (kindCode k) b a).reg (.pool (poolOf c)) Reg.UNIT_ERR = s.reg (.pool (poolOf c)) Reg.UNIT_ERR
      ∧ OnlyRegs s (s.coreFault c (kindCode k) b a) := by
  rw [State.coreFault_eq s c _ b a hv]
  have hlo : ∀ f : Field, f.off = 0x108 → f.off + coreOff c ≠ Reg.POOL_Cc_FLT_ADDR_LO + coreOff c := fun f h => by
    simp only [h, Reg.POOL_Cc_FLT_ADDR_LO]; omega
  have hhi : ∀ f : Field, f.off = 0x108 → f.off + coreOff c ≠ Reg.POOL_Cc_FLT_ADDR_HI + coreOff c := fun f h => by
    simp only [h, Reg.POOL_Cc_FLT_ADDR_HI]; omega
  have hrec : ∀ f : Field, f.off = 0x108 → ∀ t : State,
      (((t.setReg (.pool (poolOf c)) (Reg.POOL_Cc_FLT_ADDR_LO + coreOff c) (BitVec.ofNat 32 a)).setReg (.pool (poolOf c))
        (Reg.POOL_Cc_FLT_ADDR_HI + coreOff c) (BitVec.ofNat 32 (a / 2 ^ 32 % 256))).answer (.busError b)).cf c f = t.cf c f :=
    fun f h t => ((t.setReg _ _ _).cf_setReg_ne c f _ (hhi f h)).trans (t.cf_setReg_ne c f _ (hlo f h))
  refine ⟨rfl, ?_, ?_, ?_, ?_, ?_, rfl⟩
  · rw [hrec _ rfl, State.cf_setCf_ne _ c F.POOL_Cc_FLT_CAUSE F.POOL_Cc_FLT_VALID _ rfl (by decide) (by decide),
      State.cf_setCf_ne _ c F.POOL_Cc_FLT_KIND F.POOL_Cc_FLT_VALID _ rfl (by decide) (by decide),
      State.cf_setCf_same _ c F.POOL_Cc_FLT_VALID _ (by decide)]
    rfl
  · rw [hrec _ rfl, State.cf_setCf_same _ c F.POOL_Cc_FLT_CAUSE _ (by decide)]
    exact Nat.mod_eq_of_lt hb
  · rw [hrec _ rfl, State.cf_setCf_ne _ c F.POOL_Cc_FLT_CAUSE F.POOL_Cc_FLT_KIND _ rfl (by decide) (by decide),
      State.cf_setCf_same _ c F.POOL_Cc_FLT_KIND _ (by decide)]
    cases k <;> rfl
  · rw [State.answer_reg, State.reg_setReg_ne, State.reg_setReg_same]
    rw [Ne, key_inj_off]
    simp only [Reg.POOL_Cc_FLT_ADDR_LO, Reg.POOL_Cc_FLT_ADDR_HI]
    omega
  · have herr : ∀ o, 0x108 ≤ o → key (.pool (poolOf c)) Reg.UNIT_ERR ≠ key (.pool (poolOf c)) (o + coreOff c) := fun o ho => by
      rw [Ne, key_inj_off]
      simp only [Reg.UNIT_ERR]
      omega
    rw [State.answer_reg, State.reg_setReg_ne _ (herr _ (by decide)), State.reg_setReg_ne _ (herr _ (by decide))]
    simp only [State.setCf, State.setF, Field.at]
    rw [State.reg_setReg_ne _ (herr _ (by decide)), State.reg_setReg_ne _ (herr _ (by decide)), State.reg_setReg_ne _ (herr _ (by decide))]

/-! ### The statement -/

/-- Settles O11: each access with its checks passed, one clause per command and requester. -/
theorem fabricAccesses : Obligations.FabricAccesses := by
  refine ⟨?_, ?_, ?_, ?_, ?_, ?_⟩
  · intro s eng n off v r hr hrst h h4 hd
    have ho := regDef_lane_lt hd
    refine Completes.registerWrite_lane eng v hr hrst h h4 hd ⟨State.reg_setReg_same _ _ _ _, rfl, ?_, rfl⟩
    exact RegsBut.setReg (s.answer .none) (.lane n) (by omega) _
  · intro s e u off hr hrst hlow hpop hrule
    exact Completes.lowWordRead hr hrst hlow hpop hrule ⟨rfl, State.latch?_setLatch _ _ _ _ _, rfl⟩
  · intro s e u off hi hr hrst hhigh hrule hl
    exact Completes.highWordRead hr hrst hhigh hrule hl ⟨rfl, rfl⟩
  · intro s u hr hrst
    refine Completes.of_result hr (exec_fabricTimeout _ s) (if_pos (congrArg (! ·) hrst)) ⟨rfl, ?_, ?_, rfl⟩ rfl
    · rw [State.answer_reg, State.reg_err]
      cases u.isGroup <;> rfl
    · exact RegsBut.err (s.answer .none) u _
  · intro s c k a hr hcore hv
    have hv' : ((s.answer .none).err (.pool (poolOf c)) eTimeout).cf c F.POOL_Cc_FLT_VALID = 0 :=
      (State.cf_err _ c _ _ (by decide)).trans hv
    have honly0 : OnlyRegs s ((s.answer .none).err (.pool (poolOf c)) eTimeout) := rfl
    obtain ⟨hresp, hvalid, hcause, hkind, haddr, herr, honly⟩ :=
      ((s.answer .none).err (.pool (poolOf c)) eTimeout).coreFault_free c k .timeout a (by decide) hv'
    refine Completes.of_result hr (exec_fabricTimeout _ s) (if_pos hcore)
      ⟨hresp, hvalid, hcause, hkind, haddr, ?_, honly0.trans honly⟩ honly.pending
    rw [herr, State.reg_err]
    rfl
  · intro s i x hr hx
    have hslot : (s.answer .none).slot? i = some x := hx
    have htimeout : (s.answer .none).fabricTimeout (.command i) = ((s.answer .none).err .cmd eTimeout).complete i .internalError :=
      if_pos (by rw [hslot]; rfl)
    calc exec (.fabricTimeout (.command i)) s
        = leave s ((s.answer .none).fabricTimeout (.command i)) :=
          (exec_fabricTimeout _ s).trans (congrArg (leave s) (if_pos hr))
      _ = leave s (((s.answer .none).err .cmd eTimeout).complete i .internalError) := congrArg (leave s) htimeout

end Sys2Proof.Machine

/-! SUPPORT. The channel's events: what a hold's start and end, a lost lock, a sync event taken and the level of the preamplifier's
fault input change, and that the sectors a halt gives up leave the write status and the timing units. -/

namespace Sys2Proof.Machine

variable (s : State)

/-! ### The parts of a lane after one is replaced -/

@[simp] theorem State.ch_setCh_same (n : Fin 4) (c : Channel) : (s.setCh n c).ch n = c := by simp [State.ch, State.setCh]
@[simp] theorem State.tim_setTim_same (n : Fin 4) (x : Timing) : (s.setTim n x).tim n = x := by simp [State.tim, State.setTim]
@[simp] theorem State.lane_setLane_same (n : Fin 4) (x : Lane) : (s.setLane n x).lane n = x := by simp [State.lane, State.setLane]
@[simp] theorem State.tim_setCh (n m : Fin 4) (c : Channel) : (s.setCh n c).tim m = s.tim m := rfl
@[simp] theorem State.ch_setTim (n m : Fin 4) (x : Timing) : (s.setTim n x).ch m = s.ch m := rfl

theorem exec_defectDetect (n : Fin 4) (b : Nat) : exec (.defectDetect ⟨n, b⟩) s = done s (fun s =>
    s.when (s.live (.chn n) && s.readGate n && !(s.tim n).excl && s.on (.chn n) F.CHN_CTL_DEFECT_EN)
      ((s.holdStart n (s.tim n).winSeq b).setCh n { (s.holdStart n (s.tim n).winSeq b).ch n with defect := true })) := rfl
theorem exec_defectEnd (n : Fin 4) (b : Nat) : exec (.defectEnd ⟨n, b⟩) s = done s (fun s =>
    s.when (s.ch n).defect ((s.setCh n { s.ch n with defect := false }).holdEnd n (s.tim n).winSeq b)) := rfl
theorem exec_timingLockLost (n : Fin 4) : exec (.timingLockLost n) s = execTimingLockLost n s := rfl
theorem exec_syncEventPop (e : Engine) (n : Fin 4) : exec (.syncEventPop e n) s = execSyncEventPop e n s := rfl
theorem exec_paFaultInput (n : Fin 4) (low : Bool) : exec (.paFaultInput n low) s = execPaFaultInput n low s := rfl

/-! ### Holds (R103) -/

/-- The loops that run take free values; nothing else changes. -/
theorem State.runLoops_only (n : Fin 4) : s.runLoops n = { s with chns := (s.runLoops n).chns, freeCtr := (s.runLoops n).freeCtr } := by
  unfold State.runLoops
  split <;> rfl

/-- A hold begins where none is in force, or goes on; nothing but the loops and the timing unit changes. -/
theorem State.holdStart_only (n : Fin 4) (w p : Nat) :
    s.holdStart n w p = { s with chns := (s.holdStart n w p).chns, timing := (s.holdStart n w p).timing,
                                 freeCtr := (s.holdStart n w p).freeCtr } := by
  unfold State.holdStart
  dsimp only
  rw [s.runLoops_only n]
  rfl

theorem State.holdStart_pending (n : Fin 4) (w p : Nat) : (s.holdStart n w p).pending = s.pending := by
  rw [State.holdStart_only]

theorem State.holdStart_holds (n : Fin 4) (w p : Nat) : ((s.holdStart n w p).tim n).holdFrom.isSome = true := by
  simp only [State.holdStart, State.tim_setTim_same]
  cases ((s.runLoops n).tim n).holdFrom <;> rfl

/-- A capture that is open stays open when its sectors change. -/
theorem Timing.mapRead_caps_ne (t : Timing) (p : SectRef → Bool) (f : SectRef → SectRef) :
    ((t.mapRead p f).caps != []) = (t.caps != []) := by
  simp only [Timing.mapRead]
  cases t.caps <;> rfl

/-- The end of the last hold: none is in force, and the loops of an open capture run at their acquisition gains. -/
theorem State.holdEnd_last (n : Fin 4) (w p : Nat) (hd : (s.ch n).defect = false) (hh : (s.tim n).dhold = false) :
    ((s.holdEnd n w p).tim n).holdFrom = none ∧ (s.readGate n = true → ((s.holdEnd n w p).ch n).acq = true) := by
  unfold State.holdEnd
  simp only [hd, hh, Bool.or_self, Bool.false_eq_true, if_false]
  split
  · rename_i hgate
    constructor
    · simp [State.addTimed]
    · simp [State.addTimed]
  · rename_i hgate
    constructor
    · simp
    · intro h
      refine absurd ?_ hgate
      simpa [State.readGate, Timing.mapRead] using h

/-- The end of a hold changes no defect flag and nothing but channels and timing units. -/
theorem State.holdEnd_only (n : Fin 4) (w p : Nat) :
    ((s.holdEnd n w p).ch n).defect = (s.ch n).defect
      ∧ s.holdEnd n w p = { s with chns := (s.holdEnd n w p).chns, timing := (s.holdEnd n w p).timing } := by
  unfold State.holdEnd
  split
  · exact ⟨rfl, rfl⟩
  · dsimp only
    split
    · exact ⟨by simp [State.addTimed], rfl⟩
    · exact ⟨rfl, rfl⟩

theorem State.holdEnd_pending (n : Fin 4) (w p : Nat) : (s.holdEnd n w p).pending = s.pending := by
  rw [(s.holdEnd_only n w p).2]

/-! ### The timing lock (R104) -/

/-- A read sector whose span is in progress has lost lock; the capture stays as long. -/
theorem Timing.loseLock_caps (t : Timing) : (∀ r ∈ t.loseLock.caps, r.write = false → t.act.any (fun q => q.same r) = true →
    r.lockLost = true) ∧ t.loseLock.caps.length = t.caps.length := by
  simp only [Timing.loseLock, Timing.mapRead, List.length_map, and_true]
  intro r hr hw hact
  obtain ⟨x, -, rfl⟩ := List.mem_map.mp hr
  by_cases hx : (t.act.any (fun q => q.same x) && !x.write) = true
  · rw [if_pos hx]
  · rw [if_neg hx] at hw hact
    simp [hw, hact] at hx

/-- LOCKED cleared and LOCK_LOST set: what the registers read as (R104). -/
theorem State.lockLost_regs (n : Fin 4) :
    ((s.setF (.chn n) F.CHN_LOOP_STAT_LOCKED 0).err (.chn n) 10).on (.chn n) F.CHN_LOOP_STAT_LOCKED = false
      ∧ ((s.setF (.chn n) F.CHN_LOOP_STAT_LOCKED 0).err (.chn n) 10).reg (.chn n) Reg.UNIT_ERR
          = s.reg (.chn n) Reg.UNIT_ERR ||| 0x400
      ∧ RegsBut s ((s.setF (.chn n) F.CHN_LOOP_STAT_LOCKED 0).err (.chn n) 10)
          [(.chn n, Reg.CHN_LOOP_STAT), (.chn n, Reg.UNIT_ERR)] := by
  have hset : RegsBut s (s.setF (.chn n) F.CHN_LOOP_STAT_LOCKED 0) [(.chn n, Reg.CHN_LOOP_STAT)] :=
    RegsBut.setReg s (.chn n) (by decide) _
  have herr := RegsBut.err (s.setF (.chn n) F.CHN_LOOP_STAT_LOCKED 0) (.chn n) 10
  refine ⟨?_, ?_, (hset.mono (by simp)).trans (herr.mono (by simp))⟩
  · have hstat := herr (.chn n) Reg.CHN_LOOP_STAT (by decide) (by simp)
    have hcleared : (s.setF (.chn n) F.CHN_LOOP_STAT_LOCKED 0).f (.chn n) F.CHN_LOOP_STAT_LOCKED = 0 :=
      s.f_setF_same _ _ _ (by decide)
    have hzero := (congrArg F.CHN_LOOP_STAT_LOCKED.get hstat).trans hcleared
    exact congrArg (· == 1) hzero
  · rw [State.reg_err, hset (.chn n) Reg.UNIT_ERR (by decide) (by simp)]
    rfl

/-! ### Sync events taken by firmware (R119, R130, R301) -/

section hosts

variable {s t : State}

/-- A slot taken changes what firmware keeps of media, and depends on that and on the command engine. -/
theorem State.takeSlot_only (nsid lba : Nat) (r : Bool) :
    s.takeSlot nsid lba r = { s with hosts := (s.takeSlot nsid lba r).hosts } := by
  unfold State.takeSlot
  split
  · rfl
  · split <;> rfl

theorem State.freeSlot_congr (hh : t.hosts = s.hosts) : t.freeSlot = s.freeSlot := by
  simp only [State.freeSlot, State.place, hh]

theorem State.setPlace_congr (hh : t.hosts = s.hosts) (p : Place) : (t.setPlace p).hosts = (s.setPlace p).hosts := by
  simp only [State.setPlace, hh]

theorem State.takeSlot_congr (hh : t.hosts = s.hosts) (hc : t.cmd = s.cmd) (nsid lba : Nat) (r : Bool) :
    (t.takeSlot nsid lba r).hosts = (s.takeSlot nsid lba r).hosts := by
  have hd : t.dirtyCount = s.dirtyCount := by
    simp only [State.dirtyCount, State.reservedGranules, State.dirtyGranules, hc]
  cases hf : s.freeSlot <;>
    simp only [State.takeSlot, State.place, hd, (State.freeSlot_congr hh).trans hf, hf, hh, apply_ite State.hosts]

/-- A sector dropped changes what firmware keeps of media, and depends on that alone. -/
theorem State.dropSector_only (x : Nat × (Nat × Nat)) : s.dropSector x = { s with hosts := (s.dropSector x).hosts } := by
  unfold State.dropSector
  dsimp only
  split
  · split <;> rfl
  · split <;> rfl
  · rfl

theorem State.dropSector_congr (hh : t.hosts = s.hosts) (x : Nat × (Nat × Nat)) : (t.dropSector x).hosts = (s.dropSector x).hosts := by
  have hp : t.place = s.place := congrArg Hosts.place hh
  have hset := State.setPlace_congr hh { s.place with dropped := s.place.dropped ++ [x] }
  unfold State.dropSector
  simp only [hp]
  cases stripFind s.place.logArea x.1 x.2.1 x.2.2 with
  | some pos =>
    dsimp only
    cases s.place.log.find? (fun r => decide (r.pos ≤ pos ∧ pos < r.pos + r.len)) with
    | none => exact hset
    | some r => exact State.setPlace_congr hset _
  | none =>
    cases stripFind s.place.area x.1 x.2.1 x.2.2 with
    | none => exact hset
    | some k =>
      dsimp only
      rw [State.freeSlot_congr hset]
      cases (s.setPlace { s.place with dropped := s.place.dropped ++ [x] }).freeSlot with
      | none => exact hset
      | some j => exact State.setPlace_congr hset _

/-- A sector recovered changes what firmware keeps of media, and depends on that and on the command engine. -/
theorem State.recovered_only (a b c : Nat) : s.recovered a b c = { s with hosts := (s.recovered a b c).hosts } := by
  unfold State.recovered
  split
  · split
    · split
      · exact State.takeSlot_only _ _ _
      · rfl
    · rfl
  · dsimp only
    split
    · exact State.dropSector_only _
    · rfl

theorem State.recovered_congr (hh : t.hosts = s.hosts) (hc : t.cmd = s.cmd) (a b c : Nat) :
    (t.recovered a b c).hosts = (s.recovered a b c).hosts := by
  have hband : t.bandAt a b = s.bandAt a b := by simp only [State.bandAt, hh]
  have hblock : ∀ n z x, t.blockIn n z x b c = s.blockIn n z x b c := fun n z x => by simp only [State.blockIn, State.zone, hh]
  have hp : t.place = s.place := congrArg Hosts.place hh
  unfold State.recovered
  rw [hband]
  cases s.bandAt a b with
  | none =>
    simp only [hp, apply_ite State.hosts, State.dropSector_congr hh, State.setPlace_congr hh]
  | some x =>
    simp only [hblock]
    cases s.blockIn x.1.nsid x.2.1 x.2.2 b c with
    | none => exact hh
    | some k => simp only [apply_ite State.hosts, State.takeSlot_congr hh hc, hh]

theorem State.eventTaken_only (e : SyncEvent) : s.eventTaken e = { s with hosts := (s.eventTaken e).hosts } := by
  unfold State.eventTaken
  dsimp only
  split
  · exact State.recovered_only _ _ _
  · rfl

theorem State.eventTaken_congr (hh : t.hosts = s.hosts) (hc : t.cmd = s.cmd) (e : SyncEvent) :
    (t.eventTaken e).hosts = (s.eventTaken e).hosts := by
  simp only [State.eventTaken, apply_ite State.hosts, State.recovered_congr hh hc, hh]

end hosts

/-- A read of the sync event FIFO removes its oldest event and latches the high word; nothing else changes but the overflow
flag. -/
theorem State.syncEventPop_cons (e : Engine) (n : Fin 4) {x : SyncEvent} {rest : List SyncEvent} (h : (s.ch n).sync = x :: rest) :
    ((s.syncEventPop e n).ch n).sync = rest ∧ (s.syncEventPop e n).latch? (.chn n) e = some (Reg.CHN_SEV_LO, x.hi)
      ∧ RegsBut s (s.syncEventPop e n) [(.chn n, Reg.CHN_SEV_STAT)]
      ∧ s.syncEventPop e n = { s with regs := (s.syncEventPop e n).regs, chns := (s.syncEventPop e n).chns,
                                      dev := (s.syncEventPop e n).dev, resp := .value x.lo } := by
  simp only [State.syncEventPop, h]
  split
  · refine ⟨?_, ?_, ?_, rfl⟩
    · exact congrArg Channel.sync (State.ch_setCh_same s n _)
    · exact State.latch?_setLatch _ _ _ _ _
    · exact RegsBut.setReg ((s.setCh n _).setLatch _ _ _ _) (.chn n) (by decide) _
  · refine ⟨?_, ?_, RegsBut.of_regs rfl, rfl⟩
    · exact congrArg Channel.sync (State.ch_setCh_same s n _)
    · exact State.latch?_setLatch _ _ _ _ _

/-- A read of an empty sync event FIFO answers 0 and latches 0. -/
theorem State.eventPopped_nil (e : Engine) (n : Fin 4) (h : (s.ch n).sync = []) :
    s.eventPopped e n = (s.setLatch (.chn n) e Reg.CHN_SEV_LO 0).answer (.value 0) := by
  simp only [State.eventPopped, State.syncEventPop, h]

/-- A read of the sync event FIFO, and what firmware makes of the event. -/
theorem State.eventPopped_cons (e : Engine) (n : Fin 4) {x : SyncEvent} {rest : List SyncEvent} (h : (s.ch n).sync = x :: rest) :
    ((s.eventPopped e n).ch n).sync = rest ∧ (s.eventPopped e n).latch? (.chn n) e = some (Reg.CHN_SEV_LO, x.hi)
      ∧ RegsBut s (s.eventPopped e n) [(.chn n, Reg.CHN_SEV_STAT)] ∧ (s.eventPopped e n).hosts = (s.eventTaken x).hosts
      ∧ s.eventPopped e n = { s with regs := (s.eventPopped e n).regs, chns := (s.eventPopped e n).chns,
                                     dev := (s.eventPopped e n).dev, hosts := (s.eventPopped e n).hosts, resp := .value x.lo } := by
  obtain ⟨hsync, hlatch, hregs, honly⟩ := s.syncEventPop_cons e n h
  have hpop : s.eventPopped e n = (s.syncEventPop e n).eventTaken x := by simp only [State.eventPopped, h]
  have htaken := State.eventTaken_only (s := s.syncEventPop e n) x
  have hhosts : ((s.syncEventPop e n).eventTaken x).hosts = (s.eventTaken x).hosts :=
    State.eventTaken_congr (by rw [honly]) (by rw [honly]) x
  rw [hpop]
  refine ⟨?_, ?_, ?_, hhosts, ?_⟩
  · rw [htaken]
    exact hsync
  · rw [htaken]
    exact hlatch
  · rw [htaken]
    exact hregs
  · rw [htaken, honly]

/-! ### What sectors settled leave (R120, R128) -/

/-- What a sector's settling, and the end of its dispatch or race, leave: the timing units, the channels' write status, the
command slots and the buffer's UNIT_ERR. -/
structure SettleKeeps (s t : State) : Prop where
  timing : t.timing = s.timing
  status : ∀ n, t.reg (.chn n) Reg.CHN_WR_STAT = s.reg (.chn n) Reg.CHN_WR_STAT
  slots : t.cmd.slots = s.cmd.slots
  bufErr : t.reg .buf Reg.UNIT_ERR = s.reg .buf Reg.UNIT_ERR

section settleKeeps

variable {s}

theorem SettleKeeps.refl (s : State) : SettleKeeps s s := ⟨rfl, fun _ => rfl, rfl, rfl⟩

theorem SettleKeeps.trans {t u : State} (h : SettleKeeps s t) (k : SettleKeeps t u) : SettleKeeps s u :=
  ⟨k.timing.trans h.timing, fun n => (k.status n).trans (h.status n), k.slots.trans h.slots, k.bufErr.trans h.bufErr⟩

theorem SettleKeeps.foldl {α : Type} (f : State → α → State) (h : ∀ s a, SettleKeeps s (f s a)) (l : List α) :
    ∀ s, SettleKeeps s (l.foldl f s) := by
  induction l with
  | nil => exact SettleKeeps.refl
  | cons a t ih => exact fun s => (h s a).trans (ih _)

/-- A state with the same registers, timing units and command slots. -/
theorem SettleKeeps.of_eq {t : State} (ht : t.timing = s.timing) (hr : t.regs = s.regs) (hs : t.cmd.slots = s.cmd.slots) :
    SettleKeeps s t := ⟨ht, fun n => by simp only [State.reg, hr], hs, by simp only [State.reg, hr]⟩

end settleKeeps

theorem SettleKeeps.setReg {u : UnitId} {o : Nat} (ho : o < 0x1000) (hu : u ≠ .buf) (hne : o ≠ Reg.CHN_WR_STAT) (w : Word) :
    SettleKeeps s (s.setReg u o w) where
  timing := rfl
  status _ := State.reg_setReg_ne s (fun h => hne ((key_inj (by decide) ho).mp h).2.symm) w
  slots := rfl
  bufErr := State.reg_setReg_ne s (fun h => hu ((key_inj (by decide) ho).mp h).1.symm) w

theorem SettleKeeps.countSat {u : UnitId} {o : Nat} (ho : o < 0x1000) (hu : u ≠ .buf) (hne : o ≠ Reg.CHN_WR_STAT) :
    SettleKeeps s (s.countSat u o) := SettleKeeps.setReg s ho hu hne _

theorem SettleKeeps.count64 {u : UnitId} {o : Nat} (ho : o + 4 < 0x1000) (hu : u ≠ .buf)
    (hne : o ≠ Reg.CHN_WR_STAT ∧ o + 4 ≠ Reg.CHN_WR_STAT) : SettleKeeps s (s.count64 u o) :=
  (SettleKeeps.setReg s (by omega) hu hne.1 _).trans (SettleKeeps.setReg _ ho hu hne.2 _)

theorem SettleKeeps.err {u : UnitId} (hu : u ≠ .buf) (i : Nat) : SettleKeeps s (s.err u i) :=
  SettleKeeps.setReg s (by decide) hu (by decide) _

theorem SettleKeeps.setCh (n : Fin 4) (c : Channel) : SettleKeeps s (s.setCh n c) := .of_eq rfl rfl rfl

theorem SettleKeeps.setLane (n : Fin 4) (l : Lane) : SettleKeeps s (s.setLane n l) := .of_eq rfl rfl rfl

/-- A field set in a register that is none of those kept. -/
theorem SettleKeeps.setF {u : UnitId} {f : Field} (ho : f.off < 0x1000) (hu : u ≠ .buf) (hne : f.off ≠ Reg.CHN_WR_STAT) (v : Nat) :
    SettleKeeps s (s.setF u f v) := SettleKeeps.setReg s ho hu hne _

theorem SettleKeeps.setTracker (x : Tracker) : SettleKeeps s (s.setTracker x) := .of_eq rfl rfl rfl

/-- The result of a deep-decode command (R113). -/
theorem State.ddResult_keeps (n : Fin 4) (a b c : Nat) : SettleKeeps s (s.ddResult n a b c) :=
  ((SettleKeeps.setF s (by decide) (by simp) (by decide) _).trans (SettleKeeps.setF _ (by decide) (by simp) (by decide) _)).trans
    (SettleKeeps.setF _ (by decide) (by simp) (by decide) _)

/-- The next deep-decode command (R112). -/
theorem State.ddNext_keeps (n : Fin 4) : SettleKeeps s (s.ddNext n) := by
  unfold State.ddNext
  dsimp only
  split
  · exact .refl s
  · split
    · exact (SettleKeeps.setCh s n _).trans (State.ddResult_keeps _ _ _ _ _)
    · split
      · exact (SettleKeeps.setCh s n _).trans (State.ddResult_keeps _ _ _ _ _)
      · exact SettleKeeps.setCh s n _

/-- A release of pinned samples (R111). -/
theorem State.releaseOn_keeps (n : Fin 4) (p : Pin → Bool) : SettleKeeps s (s.releaseOn n p) := by
  unfold State.releaseOn
  dsimp only
  split
  · exact (SettleKeeps.setCh s n _).trans (State.ddNext_keeps _ n)
  · exact SettleKeeps.setCh s n _

/-- A sector classed (R123). -/
theorem State.classify_keeps (n : Fin 4) (r : SectRef) (b : Bool) : SettleKeeps s (s.classify n r b) := by
  unfold State.classify State.transient State.lasting
  split
  · split
    · exact (SettleKeeps.err s (by simp) _).trans (SettleKeeps.countSat _ (by decide) (by simp) (by decide))
    · exact (SettleKeeps.err s (by simp) _).trans (SettleKeeps.countSat _ (by decide) (by simp) (by decide))
  · exact .refl s

/-- An epoch's advance (R80, R87). -/
theorem State.advanceEpoch_keeps (i : Nat) : SettleKeeps s (s.advanceEpoch i) := by
  unfold State.advanceEpoch
  dsimp only
  refine SettleKeeps.trans ?_ (SettleKeeps.foldl _ (fun t n => t.releaseOn_keeps n _) _ _)
  refine SettleKeeps.trans ?_ (SettleKeeps.foldl _ (fun t n => SettleKeeps.foldl _ (fun u x => u.classify_keeps n _ _) _ t) _ _)
  exact .of_eq rfl rfl rfl

theorem State.raceCheck_keeps (i : Nat) : SettleKeeps s (s.raceCheck i) := by
  unfold State.raceCheck
  split
  · exact .refl s
  · split
    · exact s.advanceEpoch_keeps i
    · exact .refl s

theorem State.legEnded_keeps (n : Fin 4) (i e : Nat) : SettleKeeps s (s.legEnded n i e) := by
  unfold State.legEnded
  split
  · exact .refl s
  · exact (SettleKeeps.setTracker s _).trans (State.raceCheck_keeps _ i)

theorem State.formReport_keeps (n : Fin 4) (d : Disp) (st : Nat) : SettleKeeps s (s.formReport n d st) := by
  unfold State.formReport
  dsimp only
  split
  · exact (SettleKeeps.setLane s n _).trans (State.legEnded_keeps _ n _ _)
  · exact SettleKeeps.setLane s n _

theorem State.reportSettled_keeps (n : Fin 4) : SettleKeeps s (s.reportSettled n) :=
  (SettleKeeps.setLane s n _).trans (SettleKeeps.foldl _ (fun t d => t.formReport_keeps n d _) _ _)

/-- A sector settled (R120, R128). -/
theorem State.settle_keeps (n : Fin 4) (id idx : Nat) (ok : Bool) : SettleKeeps s (s.settle n id idx ok) :=
  (SettleKeeps.setLane s n _).trans (State.reportSettled_keeps _ n)

/-- A sector's handling ended (R120, R123). -/
theorem State.finish_keeps (n : Fin 4) (r : SectRef) (ok : Bool) : SettleKeeps s (s.finish n r ok) :=
  (s.classify_keeps n r ok).trans (State.settle_keeps _ n _ _ _)

/-- The assist gate's update (R208). -/
theorem State.updAgate_keeps (n : Fin 4) : SettleKeeps s (s.updAgate n) := by
  unfold State.updAgate
  dsimp only
  split
  · exact (SettleKeeps.setF s (u := .ast n) (f := F.AST_STAT_AGATE) (by decide) (by simp) (by decide) _).trans (.of_eq rfl rfl rfl)
  · split
    · exact (SettleKeeps.setF s (u := .ast n) (f := F.AST_STAT_AGATE) (by decide) (by simp) (by decide) _).trans (.of_eq rfl rfl rfl)
    · exact SettleKeeps.setF s (u := .ast n) (f := F.AST_STAT_AGATE) (by decide) (by simp) (by decide) _

/-- The end of a halt: the sectors given up are settled, and the assist gate follows (R156). -/
theorem State.giveUp_keeps (n : Fin 4) (l : List SectRef) :
    SettleKeeps s ((l.foldl (fun u r => u.finish n r false) s).updAgate n) :=
  (SettleKeeps.foldl _ (fun t r => t.finish_keeps n r false) l s).trans (State.updAgate_keeps _ n)

/-- A halt of the timing unit ends the write and leaves the write status (R156). -/
theorem State.haltTiming_ends (n : Fin 4) (w : Bool) : (s.haltTiming n w).writing n = false
    ∧ (s.haltTiming n w).reg (.chn n) Reg.CHN_WR_STAT = s.reg (.chn n) Reg.CHN_WR_STAT := by
  unfold State.haltTiming
  dsimp only
  obtain ⟨htim, hstat, -, -⟩ := State.giveUp_keeps (((((s.setTim n _).setCh n _).setF (.ast n) F.AST_STAT_AG 0)).updWgate n) n _
  constructor
  · rw [State.writing, State.tim, htim]
    exact congrArg Timing.wreq (State.tim_setTim_same s n _)
  · rw [hstat n]
    exact (SettleKeeps.setF ((s.setTim n _).setCh n _) (u := .ast n) (f := F.AST_STAT_AG) (by decide) (by simp) (by decide) 0).status n

/-- A write stop latches its cause and ends the write (R128). -/
theorem State.writeStop_ends (n : Fin 4) (c : Nat) (hc : c < 8) : (s.writeStop n c).writing n = false
    ∧ (s.writeStop n c).f (.chn n) F.CHN_WR_STAT_CAUSE = c := by
  have hcause : ∀ v, ((s.setF (.chn n) F.CHN_WR_STAT_CAUSE c).setF (.chn n) F.CHN_WR_STAT_SECTOR v).f (.chn n) F.CHN_WR_STAT_CAUSE
      = c := fun v => by
    rw [State.f_setF_ne _ _ F.CHN_WR_STAT_SECTOR F.CHN_WR_STAT_CAUSE _ rfl (by decide) (by decide), State.f_setF_same _ _ _ _ (by decide)]
    exact Nat.mod_eq_of_lt hc
  unfold State.writeStop
  refine ⟨(State.haltTiming_ends _ n true).1, ?_⟩
  rw [State.f, (State.haltTiming_ends _ n true).2, (SettleKeeps.setCh _ n _).status n,
    (SettleKeeps.err _ (by simp) _).status n, (SettleKeeps.count64 _ (by decide) (by simp) (by decide)).status n]
  exact hcause _

/-! ### The preamplifier's fault input (R127, R208) -/

/-- What the update of the assist gate reaches, and what it leaves it at (R208). -/
theorem State.updAgate_spec (n : Fin 4) : (s.updAgate n).agate n = s.agateCond n
    ∧ RegsBut s (s.updAgate n) [(.ast n, Reg.AST_STAT)]
    ∧ s.updAgate n = { s with regs := (s.updAgate n).regs, asts := (s.updAgate n).asts } := by
  have hbit : (s.setF (.ast n) F.AST_STAT_AGATE (bit (s.agateCond n))).agate n = s.agateCond n := by
    rw [State.agate, State.on, State.f_setF_same _ _ _ _ (by decide)]
    cases s.agateCond n <;> rfl
  have hregs : RegsBut s (s.setF (.ast n) F.AST_STAT_AGATE (bit (s.agateCond n))) [(.ast n, Reg.AST_STAT)] :=
    RegsBut.setReg s (.ast n) (by decide) _
  unfold State.updAgate
  dsimp only
  split
  · exact ⟨hbit, hregs, rfl⟩
  · split
    · exact ⟨hbit, hregs, rfl⟩
    · exact ⟨hbit, hregs, rfl⟩

/-- Where no write is in progress, the input's level reaches both gates and stops nothing. -/
theorem State.paFaultInput_idle (n : Fin 4) (low : Bool) (hw : s.writing n = false) :
    ((s.paFaultInput n low).lane n).paLow = low ∧ ((s.paFaultInput n low).lane n).wgate = false
      ∧ (low = true → (s.paFaultInput n low).agate n = false)
      ∧ RegsBut s (s.paFaultInput n low) [(.ast n, Reg.AST_STAT)]
      ∧ s.paFaultInput n low = { s with regs := (s.paFaultInput n low).regs, lanes := (s.paFaultInput n low).lanes,
                                        asts := (s.paFaultInput n low).asts } := by
  let s1 := s.setLane n { s.lane n with paLow := low }
  have hcond : s1.wgateCond n = false := by
    rw [State.wgateCond, show (s1.tim n).wreq = false from hw]
    simp
  have hstop : s.paFaultInput n low = (s1.updWgate n).updAgate n := by
    have : (low && s1.writing n) = false := by rw [show s1.writing n = false from hw, Bool.and_false]
    exact congrArg (State.updAgate · n) (if_neg (by rw [this]; decide))
  have hlane : (s1.updWgate n).lane n = { s.lane n with paLow := low, wgate := false } := by
    rw [State.updWgate, State.lane_setLane_same, hcond]
    simp only [s1, State.lane_setLane_same]
  obtain ⟨hagate, hregs, honly⟩ := (s1.updWgate n).updAgate_spec n
  have hkept : ((s1.updWgate n).updAgate n).lane n = (s1.updWgate n).lane n := by rw [honly]; rfl
  rw [hstop]
  refine ⟨?_, ?_, fun hlow => ?_, hregs, ?_⟩
  · rw [hkept, hlane]
  · rw [hkept, hlane]
  · rw [hagate, State.agateCond, hlane, hlow]
    simp
  · rw [honly]
    rfl

theorem LaneOnly.pending {s t : State} (h : LaneOnly s t) : t.pending = s.pending := by rw [h]

/-- Low in a write, the input stops it with the preamplifier's cause (R128). -/
theorem State.paFaultInput_writing (n : Fin 4) (hw : s.writing n = true) :
    (s.paFaultInput n true).f (.chn n) F.CHN_WR_STAT_CAUSE = wsPreamp ∧ (s.paFaultInput n true).writing n = false
      ∧ LaneOnly s (s.paFaultInput n true) := by
  let s1 := s.setLane n { s.lane n with paLow := true }
  have hstop : s.paFaultInput n true = (s1.writeStop n wsPreamp).updAgate n :=
    congrArg (State.updAgate · n) (if_pos hw)
  obtain ⟨hends, hcause⟩ := s1.writeStop_ends n wsPreamp (by decide)
  obtain ⟨htim, hstat, -, -⟩ := (s1.writeStop n wsPreamp).updAgate_keeps n
  rw [hstop]
  refine ⟨?_, ?_, ?_⟩
  · rw [State.f, hstat n]
    exact hcause
  · rw [State.writing, State.tim, htim]
    exact hends
  · exact ((LaneOnly.setLane s n _).trans (s1.writeStop_only n wsPreamp)).trans (State.updAgate_only _ n)

/-! ### The statement -/

/-- Settles O18, one clause per command and case. -/
theorem channelEvents : Obligations.ChannelEvents := by
  refine ⟨?_, ?_, ?_, ?_, ?_, ?_, ?_⟩
  · intro s n b hr hlive hgate hexcl hen
    have hguard : (s.live (.chn n) && s.readGate n && !(s.tim n).excl && s.on (.chn n) F.CHN_CTL_DEFECT_EN) = true := by
      rw [hlive, hgate, hexcl, hen]
      rfl
    refine Completes.of_result hr (exec_defectDetect s n b) (if_pos hguard) ⟨?_, ?_, State.holdStart_holds _ n _ b, ?_⟩ ?_
    · rw [State.ch_setCh_same]
    · simp [State.frozen]
    · rw [(s.answer .none).holdStart_only n _ b]
      rfl
    · simp [State.holdStart_pending]
  · intro s n b hr hd
    refine Completes.of_result hr (exec_defectEnd s n b) (if_pos hd) ⟨?_, fun hh => ?_, ?_⟩
      (State.holdEnd_pending _ n _ b)
    · exact (State.holdEnd_only _ n _ b).1.trans (by rw [State.ch_setCh_same])
    · exact State.holdEnd_last _ n _ b (by rw [State.ch_setCh_same]) hh
    · rw [(State.holdEnd_only ((s.answer .none).setCh n _) n _ b).2]
      rfl
  · intro s n hr hlive hgate
    have hguard : (s.live (.chn n) && s.readGate n) = true := by rw [hlive, hgate]; rfl
    obtain ⟨hlost, hlen⟩ := Timing.loseLock_caps (s.tim n)
    obtain ⟨hlocked, herr, hregs⟩ := (s.answer .none).lockLost_regs n
    refine Completes.of_result hr (exec_timingLockLost s n) (if_pos hguard) ⟨hlocked, herr, ?_, ?_, hregs, rfl⟩ rfl
    · rw [State.tim_setTim_same]
      exact hlost
    · rw [State.tim_setTim_same]
      exact hlen
  · intro s eng n e rest hr hrst hsync
    obtain ⟨hrest, hlatch, hregs, hhosts, honly⟩ := (s.answer .none).eventPopped_cons eng n hsync
    have hresp : ((s.answer .none).eventPopped eng n).resp = .value e.lo := by rw [honly]
    refine Completes.of_result hr (exec_syncEventPop s eng n) (State.access_ok hrst fun c h => ?_)
      ⟨hresp, hrest, hlatch, hregs, ?_, ?_⟩ (by rw [honly]; rfl)
    · rw [hresp] at h
      exact nomatch h
    · exact hhosts.trans (State.eventTaken_congr (s := s) (t := s.answer .none) rfl rfl e)
    · rw [honly]
      rfl
  · intro s eng n hr hrst hsync
    have hpop := (s.answer .none).eventPopped_nil eng n hsync
    refine Completes.of_result (t := ((s.answer .none).setLatch (.chn n) eng Reg.CHN_SEV_LO 0).answer (.value 0)) hr
      (exec_syncEventPop s eng n) ?_ ⟨rfl, State.latch?_setLatch _ _ _ _ _, rfl⟩ rfl
    rw [hpop]
    exact State.access_ok hrst (fun _ h => nomatch (h : Resp.value _ = Resp.busError _))
  · intro s n low hr hw
    obtain ⟨hlow, hwgate, hagate, hregs, honly⟩ := (s.answer .none).paFaultInput_idle n low hw
    refine Completes.of_result hr (exec_paFaultInput s n low) rfl ⟨hlow, hwgate, hagate, hregs, ?_⟩ (by rw [honly]; rfl)
    rw [honly]
    rfl
  · intro s n hr hw
    obtain ⟨hcause, hends, honly⟩ := (s.answer .none).paFaultInput_writing n hw
    exact Completes.of_result hr (exec_paFaultInput s n true) rfl ⟨hcause, hends, honly.mem, honly.hosts⟩ honly.pending

end Sys2Proof.Machine

/-! SUPPORT. The moves of granules and the contexts of suspended transfers: pops, the read and the write of a granule through its
handle, and what a command that completes leaves behind. -/

namespace Sys2Proof.Machine

variable (s : State)

theorem exec_dmaGranule (m : DmaMove) (ctx : Fin 64) (par : WayParity) :
    exec (.dmaGranule m ctx par) s = execDmaGranule m ctx par s := rfl
theorem exec_fltResume (e : Engine) (ctx : Fin 64) : exec (.fltResume e ctx) s = execFltResume e ctx s := rfl
theorem exec_fltAbort (e : Engine) (ctx : Fin 64) : exec (.fltAbort e ctx) s = execFltAbort e ctx s := rfl
theorem exec_fltTmo (ctx : Fin 64) : exec (.fltTmo ctx) s = execFltTmo ctx s := rfl
theorem exec_fltPop (e : Engine) : exec (.fltPop e) s = execFltPop e s := rfl
theorem exec_bufEvPop (e : Engine) : exec (.bufEvPop e) s = execBufEvPop e s := rfl

/-! ### Pops (R4, R269, R287) -/

/-- A read of the notice FIFO removes its oldest notice. -/
theorem State.fltPop_cons {w : Word} {rest : List Word} (h : s.buf.notices = w :: rest) :
    s.fltPop = ({ s with buf := { s.buf with notices := rest } } : State).answer (.value w) := by
  simp only [State.fltPop, h]

/-- A read of the event FIFO removes its oldest event and latches the high word; of registers, only the overflow flag may change. -/
theorem State.bufEvPop_cons (e : Engine) {lo hi : Word} {rest : List (Word × Word)} (h : s.buf.events = (lo, hi) :: rest) :
    (s.bufEvPop e).buf = { s.buf with events := rest } ∧ (s.bufEvPop e).latch? .buf e = some (Reg.BUF_EV_LO, hi)
      ∧ RegsBut s (s.bufEvPop e) [(.buf, Reg.BUF_EV_STAT)]
      ∧ s.bufEvPop e = { s with buf := (s.bufEvPop e).buf, regs := (s.bufEvPop e).regs, dev := (s.bufEvPop e).dev, resp := .value lo } := by
  simp only [State.bufEvPop, h]
  split
  · exact ⟨rfl, State.latch?_setLatch _ _ _ _ _,
      RegsBut.setReg ({ s with buf := { s.buf with events := rest } } : State) .buf (o := Reg.BUF_EV_STAT) (by decide) _, rfl⟩
  · exact ⟨rfl, State.latch?_setLatch _ _ _ _ _, RegsBut.of_regs rfl, rfl⟩

/-! ### Reads of a granule (R268) -/

/-- Where no line of DRAM is stored in error and no cache holds a line, a granule is read as stored. -/
theorem State.readGranule_good (h page src : Nat) (hl : s.lines = []) (hf : s.buf.flips = []) (hp : s.buf.poisoned = []) :
    s.readGranule h page src [] = (s, none) ∧ s.granuleMiss page [] = false := by
  have hbad : s.badLines (page * 64) 64 [] = [] := by simp [State.badLines, hf, hp]
  simp [State.readGranule, State.badCached, State.granuleMiss, hl, hbad]

/-- A free DMA engine takes a fresh transfer. -/
theorem State.transferOn_fresh (ch : Nat) (t : Transfer) (hd : s.cmd.dma = []) (hw : s.cmd.dmaWait = []) :
    s.transferOn ch t = some t := by
  simp [State.transferOn, State.chan?, State.chanOf, hd, hw, Sparse.find?]

/-- A command whose key is bound binds none (R430). -/
theorem State.bindKey_bound {i : Nat} {x : Slot} {b : Nat × Nat} (hx : s.slot? i = some x) (hb : x.bound = some b) :
    s.bindKey i = .inl s := by
  simp [State.bindKey, hx, hb]

/-- A write sector that comes next is fetched into an empty FIFO with its bytes. -/
theorem State.fetchSector_first (n : Fin 4) (d : Disp) (p : Nat) (u : UnitId) (hcur : (s.lane n).cur = some d) (hw : d.isWrite = true)
    (he : d.ended = none) (hc : 0 < d.count) (hs : d.settled = []) (hfifo : (s.ch n).wfifo = [])
    (ht : s.translate d.handle false = .page p) (hl : s.lines = []) (hf : s.buf.flips = []) (hp : s.buf.poisoned = []) :
    s.fetchSector n [] .ok u
      = s.setCh n { s.ch n with wfifo := [⟨0, d.id, false, s.bytes (dramBase + p * 4096) 4096⟩] } := by
  obtain ⟨hread, hmiss⟩ := s.readGranule_good d.handle p 1 hl hf hp
  have hfirst : (List.range d.count).find? (fun _ => true) = some 0 := by
    obtain ⟨k, hk⟩ := Nat.exists_eq_succ_of_ne_zero hc.ne'
    simp [hk, List.range_succ_eq_map]
  simp [State.fetchSector, hcur, hw, he, hs, hfifo, hfirst, ht, hread, hmiss, State.granuleData]

/-- A granule for the host of a command that a pool holds is delivered decrypted. -/
theorem State.hostOut_page {ch i h peer ctx p : Nat} {x : Slot} {b : Nat × Nat} (u : UnitId) (hx : s.slot? i = some x) (hst : x.st = .work)
    (hb : x.bound = some b) (hctx : s.hasContext i = false) (hpause : s.dev.diePause = false) (hd : s.cmd.dma = [])
    (hw : s.cmd.dmaWait = []) (ht : s.translate h false = .page p) (hl : s.lines = []) (hf : s.buf.flips = [])
    (hp : s.buf.poisoned = []) :
    s.hostOut ch i h peer [] ctx .ok u
      = (s.stepChan ch ⟨i, h, 0, 0, sqeCount x.sqe, true, peer⟩ (h + 1)).answer
          (.data (x.xts x.lba false (s.bytes (dramBase + p * 4096) 4096))) := by
  obtain ⟨hread, hmiss⟩ := s.readGranule_good h p 1 hl hf hp
  simp [State.hostOut, hx, hst, hctx, hpause, s.transferOn_fresh ch _ hd hw, s.bindKey_bound hx hb, ht, hread, hmiss, State.granuleData]

/-! ### Writes of a granule (R264, R268) -/

/-- A store of bytes changes memory and the cached copies of the lines, and nothing else. -/
theorem State.setBytes_only (l : List Byte) : ∀ (s : State) (a : Nat),
    s.setBytes a l = { s with mem := (s.setBytes a l).mem, lines := (s.setBytes a l).lines } := by
  induction l with
  | nil => exact fun _ _ => rfl
  | cons b t ih =>
    intro s a
    rw [State.setBytes, ih]
    rfl

/-- A change of POISON changes memory and the cached copies of the lines, and nothing else. -/
theorem State.setPoison_only (h : Nat) (p : Bool) :
    s.setPoison h p = { s with mem := (s.setPoison h p).mem, lines := (s.setPoison h p).lines } := by
  unfold State.setPoison State.setBtt
  split
  · exact State.setBytes_only _ _ _
  · rfl

/-- A change of POISON leaves every byte outside the handle's entry. -/
theorem State.byte_setPoison (h a : Nat) (p : Bool) (ha : a < s.bttAddr h ∨ s.bttAddr h + 4 ≤ a) :
    (s.setPoison h p).byte a = s.byte a := by
  unfold State.setPoison State.setBtt
  split
  · rw [State.byte_setBytes, if_neg]
    simp only [wordBytes, List.length_cons, List.length_nil]
    omega
  · rfl

/-- A mark in the correction history changes what the buffer holds, and nothing else. -/
theorem State.markWb_only (l : Nat) : s.markWb l = { s with buf := (s.markWb l).buf } := by
  unfold State.markWb
  split
  · split <;> rfl
  · rfl

/-- A line written whole changes registers of the buffer and what it holds, and nothing else. -/
theorem State.lineWritten_only (l : Nat) : s.lineWritten l = { s with regs := (s.lineWritten l).regs, buf := (s.lineWritten l).buf } := by
  unfold State.lineWritten
  dsimp only
  split
  · split
    · rw [State.markWb_only]
      rfl
    · rw [State.markWb_only]
      rfl
  · split <;> rfl

/-- Lines written whole change registers of the buffer and what it holds, and nothing else. -/
theorem State.linesWritten_only (f : Nat → Nat) (l : List Nat) : ∀ s : State, l.foldl (fun t i => t.lineWritten (f i)) s
    = { s with regs := (l.foldl (fun t i => t.lineWritten (f i)) s).regs,
               buf := (l.foldl (fun t i => t.lineWritten (f i)) s).buf } := by
  induction l with
  | nil => exact fun _ => rfl
  | cons i t ih =>
    intro s
    rw [List.foldl_cons, ih, s.lineWritten_only]

/-- A granule written through its handle: its page holds the bytes, but where the handle's entry lies, and nothing else changes but
the buffer's lines and the cached copies. -/
theorem State.writeGranule_spec (h p : Nat) (data : List Byte) (hlen : data.length = 4096) :
    (∀ k, k < 4096 → (dramBase + p * 4096 + k < s.bttAddr h ∨ s.bttAddr h + 4 ≤ dramBase + p * 4096 + k) →
        (s.writeGranule h p data).byte (dramBase + p * 4096 + k) = data.getD k 0)
      ∧ (∀ a, (a < dramBase + p * 4096 ∨ dramBase + p * 4096 + 4096 ≤ a) → (a < s.bttAddr h ∨ s.bttAddr h + 4 ≤ a) →
        (s.writeGranule h p data).byte a = s.byte a)
      ∧ s.writeGranule h p data = { s with mem := (s.writeGranule h p data).mem, lines := (s.writeGranule h p data).lines,
                                           regs := (s.writeGranule h p data).regs, buf := (s.writeGranule h p data).buf } := by
  have htake : data.take 4096 = data := List.take_of_length_le hlen.le
  have hwritten := State.linesWritten_only (p * 64 + ·) (List.range 64) ((s.setBytes (dramBase + p * 4096) data).setPoison h false)
  have haddr : (s.setBytes (dramBase + p * 4096) data).bttAddr h = s.bttAddr h := by
    rw [State.setBytes_only]
    rfl
  have hbyte : ∀ a, (a < s.bttAddr h ∨ s.bttAddr h + 4 ≤ a) →
      (s.writeGranule h p data).byte a = (s.setBytes (dramBase + p * 4096) data).byte a := fun a ha => by
    rw [State.writeGranule, htake, hwritten]
    exact State.byte_setPoison _ h a false (by rw [haddr]; exact ha)
  refine ⟨fun k hk ha => ?_, fun a hout ha => ?_, ?_⟩
  · rw [hbyte _ ha, State.byte_setBytes, if_pos (by omega), Nat.add_sub_cancel_left]
  · rw [hbyte a ha, State.byte_setBytes, if_neg (by omega)]
  · rw [State.writeGranule, htake, hwritten, State.setPoison_only, State.setBytes_only]

/-- A step of a channel leaves every slot. -/
theorem State.slot?_stepChan (ch : Nat) (t : Transfer) (next i : Nat) : (s.stepChan ch t next).slot? i = s.slot? i := by
  unfold State.stepChan
  dsimp only
  split <;> rfl

/-- A step of a channel changes the command engine only. -/
theorem State.stepChan_only (ch : Nat) (t : Transfer) (next : Nat) :
    s.stepChan ch t next = { s with cmd := (s.stepChan ch t next).cmd } := by
  unfold State.stepChan
  dsimp only
  split <;> rfl

/-- A slot and a channel leave memory. -/
theorem State.byte_setSlot_stepChan (i ch next a : Nat) (x : Slot) (t : Transfer) :
    ((s.setSlot i x).stepChan ch t next).byte a = s.byte a := by
  rw [State.stepChan_only]
  rfl

/-- A granule of a write from the host is written, encrypted, through its handle, and counted in its slot. -/
theorem State.hostIn_page {ch i peer ctx h p : Nat} {x : Slot} {b : Nat × Nat} (data : List Byte) (hx : s.slot? i = some x)
    (hst : x.st = .taken) (hwr : x.engineWrite = true) (hlock : x.lock.isSome = true) (hg : x.granules = [(h, sqeCount x.sqe)])
    (hins : x.inserted = false) (hfill : x.filled = 0) (hb : x.bound = some b) (hctx : s.hasContext i = false)
    (hpause : s.dev.diePause = false) (hd : s.cmd.dma = []) (hw : s.cmd.dmaWait = []) (ht : s.translate h true = .page p) :
    s.hostIn ch i peer data ctx .ok
      = ((s.writeGranule h p (x.xts x.lba true data)).setSlot i { x with filled := 1 }).stepChan ch
          ⟨i, h, 0, 0, sqeCount x.sqe, false, peer⟩ (nthHandle x.granules 1) := by
  have hcount : 0 < sqeCount x.sqe := Nat.succ_pos _
  have hnth : nthHandle x.granules 0 = h := by simp [hg, nthHandle, hcount]
  have hne : x.granules ≠ [] := by simp [hg]
  have hfree : x.lock ≠ none := fun hn => by simp [hn] at hlock
  simp [State.hostIn, hx, hst, hwr, hfree, hne, hins, hfill, hctx, hpause, hnth, hcount.ne', s.transferOn_fresh ch _ hd hw,
    s.bindKey_bound hx hb, ht]

/-- What a granule of a write from the host leaves: its page, the rest of memory and its slot's count. -/
theorem State.hostIn_leaves {ch i peer ctx h p : Nat} {x : Slot} {b : Nat × Nat} (data : List Byte) (hx : s.slot? i = some x)
    (hst : x.st = .taken) (hwr : x.engineWrite = true) (hlock : x.lock.isSome = true) (hg : x.granules = [(h, sqeCount x.sqe)])
    (hins : x.inserted = false) (hfill : x.filled = 0) (hb : x.bound = some b) (hctx : s.hasContext i = false)
    (hpause : s.dev.diePause = false) (hd : s.cmd.dma = []) (hw : s.cmd.dmaWait = []) (ht : s.translate h true = .page p) {t : State}
    (hres : s.hostIn ch i peer data ctx .ok = t) :
    (t.slot? i).map (fun y => y.filled) = some 1
      ∧ (∀ k, k < 4096 → (dramBase + p * 4096 + k < s.bttAddr h ∨ s.bttAddr h + 4 ≤ dramBase + p * 4096 + k) →
          t.byte (dramBase + p * 4096 + k) = (x.xts x.lba true data).getD k 0)
      ∧ (∀ a, (a < dramBase + p * 4096 ∨ dramBase + p * 4096 + 4096 ≤ a) → (a < s.bttAddr h ∨ s.bttAddr h + 4 ≤ a) →
          t.byte a = s.byte a)
      ∧ t = { s with mem := t.mem, lines := t.lines, regs := t.regs, buf := t.buf, cmd := t.cmd } := by
  obtain ⟨hin, hout, honly⟩ := s.writeGranule_spec h p (x.xts x.lba true data) (by simp [Slot.xts])
  rw [s.hostIn_page data hx hst hwr hlock hg hins hfill hb hctx hpause hd hw ht] at hres
  subst hres
  refine ⟨?_, ?_, ?_, ?_⟩
  · rw [State.slot?_stepChan]
    simp [State.slot?, State.setSlot, Sparse.find?_insert]
  · simpa only [State.byte_setSlot_stepChan] using hin
  · simpa only [State.byte_setSlot_stepChan] using hout
  · rw [State.stepChan_only, honly]
    rfl

/-! ### What the end of a command leaves (R325, R326, R344) -/

/-- What the completion of a command and what follows from it leave: a context that is free stays free, a slot that is not open
does not open, and the buffer's UNIT_ERR reads as before. -/
structure Recedes (s t : State) : Prop where
  ctxs : ∀ c, s.ctx? c = none → t.ctx? c = none
  closed : ∀ i, (s.slotState i).isOpen = false → (t.slotState i).isOpen = false
  bufErr : t.reg .buf Reg.UNIT_ERR = s.reg .buf Reg.UNIT_ERR

section recedes

variable {s} {t u : State}

theorem Recedes.refl (s : State) : Recedes s s := ⟨fun _ h => h, fun _ h => h, rfl⟩

theorem Recedes.trans (h : Recedes s t) (k : Recedes t u) : Recedes s u :=
  ⟨fun c hc => k.ctxs c (h.ctxs c hc), fun i hi => k.closed i (h.closed i hi), k.bufErr.trans h.bufErr⟩

theorem Recedes.foldl {α : Type} (f : State → α → State) (h : ∀ s a, Recedes s (f s a)) (l : List α) : ∀ s, Recedes s (l.foldl f s) := by
  induction l with
  | nil => exact Recedes.refl
  | cons a t ih => exact fun s => (h s a).trans (ih _)

theorem Recedes.ite {c : Prop} [Decidable c] (h : Recedes s t) (k : Recedes s u) : Recedes s (if c then t else u) := by
  split
  · exact h
  · exact k

/-- A state whose contexts, slots and UNIT_ERR of the buffer are the same. -/
theorem Recedes.of_eq (hb : t.buf.ctxs = s.buf.ctxs) (hs : t.cmd.slots = s.cmd.slots)
    (hr : t.reg .buf Reg.UNIT_ERR = s.reg .buf Reg.UNIT_ERR) : Recedes s t where
  ctxs c hc := by simpa only [State.ctx?, hb] using hc
  closed i hi := by simpa only [State.slotState, State.slot?, hs] using hi
  bufErr := hr

end recedes

/-- The state of a slot after one is replaced. -/
theorem State.slotState_setSlot (i j : Nat) (x : Slot) : (s.setSlot i x).slotState j = if j = i then x.st else s.slotState j := by
  simp only [State.slotState, State.slot?, State.setSlot, Sparse.find?_insert]
  by_cases h : j = i
  · simp only [h, if_true]
  · simp only [h, if_false]

/-- A slot replaced by one that is not open, or is open only where it was. -/
theorem Recedes.setSlot {i : Nat} {x : Slot} (h : x.st.isOpen = true → (s.slotState i).isOpen = true) : Recedes s (s.setSlot i x) where
  ctxs _ hc := hc
  closed j hj := by
    rw [State.slotState_setSlot]
    split
    · rename_i hji
      subst hji
      cases hx : x.st.isOpen with
      | false => rfl
      | true => rw [h hx] at hj; exact hj
    · exact hj
  bufErr := rfl

/-- A host's controller changes. -/
theorem Recedes.setCtrl (fn : Nat) (c : Ctrl) : Recedes s (s.setCtrl fn c) := .of_eq rfl rfl rfl

/-- An interrupt message (R366). -/
theorem State.sendMsix_recedes (fn v : Nat) : Recedes s (s.sendMsix fn v) := by
  unfold State.sendMsix
  exact .ite (.of_eq rfl rfl rfl) (.of_eq rfl rfl rfl)

theorem State.completionMsix_recedes (fn q v : Nat) : Recedes s (s.completionMsix fn q v) := by
  unfold State.completionMsix
  refine .ite (s.sendMsix_recedes fn v) (.ite ?_ (.setCtrl s fn _))
  exact (Recedes.setCtrl s fn _).trans (State.sendMsix_recedes _ fn v)

/-- A completion entry (R333). -/
theorem State.postCpl_recedes (fn q cid : Nat) (c : Cpl) : Recedes s (s.postCpl fn q cid c) := by
  unfold State.postCpl
  split
  · exact .refl s
  · split
    · exact .refl s
    · dsimp only
      split
      · refine Recedes.trans ?_ (State.completionMsix_recedes _ _ _ _)
        exact .of_eq rfl rfl rfl
      · exact .of_eq rfl rfl rfl

/-- One completion entry, and its slot enters DRAIN (R326). -/
theorem State.postOne_recedes : Recedes s s.postOne := by
  have hdrain {i : Nat} : SlotState.drain.isOpen = true → (s.slotState i).isOpen = true := fun h => absurd h (by decide)
  unfold State.postOne
  split
  · exact .refl s
  · split
    · exact .setSlot s hdrain
    · exact .ite ((Recedes.setSlot s hdrain).trans (.of_eq rfl rfl rfl))
        ((Recedes.setSlot s hdrain).trans (State.postCpl_recedes _ _ _ _ _))

theorem State.postAll_recedes : Recedes s s.postAll :=
  .ite (.refl s) (Recedes.foldl _ (fun t _ => t.postOne_recedes) _ _)

/-- An asynchronous event that is delivered (R536). -/
theorem State.deliverEvents_recedes (fn : Nat) : Recedes s (s.deliverEvents fn) := by
  refine Recedes.foldl _ (fun t _ => ?_) _ s
  unfold State.deliverEvent
  dsimp only
  split
  · exact .ite (.refl t) ((Recedes.setCtrl t fn _).trans (State.postCpl_recedes _ _ _ _ _))
  · exact .refl t

theorem State.raise_recedes (fn : Nat) (e : AsyncEvent) : Recedes s (s.raise fn e) :=
  .ite (.refl s) ((Recedes.setCtrl s fn _).trans (State.deliverEvents_recedes _ fn))

/-- A seventeenth void run finishes its zone (R296). -/
theorem State.voidFinish_recedes (n z : Nat) : Recedes s (s.voidFinish n z) := by
  unfold State.voidFinish
  split
  · exact .refl s
  · refine .ite (Recedes.trans ?_ (Recedes.foldl _ (fun t f => t.raise_recedes f _) _ _)) (.refl s)
    exact .of_eq rfl rfl rfl

/-- What a completion leaves in the life counters and the events held (R545). -/
theorem State.account_recedes (x : Slot) (st : CStatus) : Recedes s (s.account x st) := by
  have hlife : ∀ (t : State) (k n : Nat), Recedes t (t.countLife k n) := fun _ _ _ => .of_eq rfl rfl rfl
  have hmedia : Recedes s (s.countMedia x st) := by
    unfold State.countMedia
    split
    · exact .ite (hlife s _ _) (.refl s)
    · exact .refl s
    · have hfree : Recedes s (if s.freeBool then s.countLife lifeMedia 1 else s) := .ite (hlife s _ _) (.refl s)
      exact .ite (.refl s) (.ite (hlife s _ _) (hfree.trans (.of_eq rfl rfl rfl)))
  unfold State.account
  refine .ite hmedia (.ite (.ite (.setCtrl s _ _) (.refl s)) (.ite ((hlife s _ _).trans (hlife _ _ _)) (.ite ?_ (.refl s))))
  exact (hlife s _ _).trans (hlife _ _ _)

/-- A write given up releases its granules (R344). -/
theorem State.releaseWrite_recedes (i : Nat) : Recedes s (s.releaseWrite i) := by
  unfold State.releaseWrite
  split
  · exact .refl s
  · rename_i x hx
    have hst : s.slotState i = x.st := by simp only [State.slotState, hx]
    have hvoid : ∀ (t : State) (n l c : Nat), Recedes t (t.voidBlocks n l c) := fun t n l c => by
      unfold State.voidBlocks
      split
      · exact .refl t
      · exact .ite (.refl t) (.of_eq rfl rfl rfl)
    refine .ite (.refl s) ((Recedes.ite (.refl s) ?_).trans (hvoid _ _ _ _))
    exact (Recedes.setSlot s (x := { x with granules := [], filled := 0 }) (by rw [hst]; exact id)).trans (.of_eq rfl rfl rfl)

/-- A rewritten state record changes memory and the cached copies of its line, and nothing else (R270). -/
theorem State.recordState_only (c v : Nat) :
    s.recordState c v = { s with mem := (s.recordState c v).mem, lines := (s.recordState c v).lines } := by
  unfold State.recordState
  split <;> rfl

/-- A table cut down to some of its entries finds no key that it did not find. -/
theorem Sparse.find?_filter_none {α : Type} (p : Nat × α → Bool) {l : List (Nat × α)} {k : Nat} (h : Sparse.find? l k = none) :
    Sparse.find? (l.filter p) k = none := by
  induction l with
  | nil => rfl
  | cons e t ih =>
    obtain ⟨j, v⟩ := e
    by_cases hj : j = k
    · simp [Sparse.find?, hj] at h
    · simp only [Sparse.find?, hj, if_false] at h
      by_cases hp : p (j, v) = true
      · simpa [List.filter_cons, hp, Sparse.find?, hj] using ih h
      · simpa [List.filter_cons, hp] using ih h

/-- A record rewritten, as far as a command's end goes. -/
theorem State.recordState_recedes (c v : Nat) : Recedes s (s.recordState c v) := by
  rw [State.recordState_only]
  exact .of_eq rfl rfl rfl

/-- Contexts that are dropped are free (R272). -/
theorem State.dropContexts_recedes (i : Nat) (p : DmaCtx → Bool) : Recedes s (s.dropContexts i p) := by
  unfold State.dropContexts
  refine Recedes.trans ?_ ⟨fun c hc => Sparse.find?_filter_none _ hc, fun _ h => h, rfl⟩
  exact Recedes.foldl _ (fun t (e : Nat × DmaCtx) => t.recordState_recedes e.1 4) _ s

/-- What the end of a command's slot leaves, the slot itself no longer open. -/
def Closes (i : Nat) (s t : State) : Prop := Recedes s t ∧ (t.slotState i).isOpen = false

theorem Closes.trans {i : Nat} {s t u : State} (h : Closes i s t) (k : Recedes t u) : Closes i s u := ⟨h.1.trans k, k.closed i h.2⟩

/-- The media work of a slot goes stale (R87). -/
theorem State.advanceEpoch_recedes (i : Nat) : Recedes s (s.advanceEpoch i) :=
  .of_eq (by rw [s.advanceEpoch_only i]) (s.advanceEpoch_keeps i).slots (s.advanceEpoch_keeps i).bufErr

/-- The commit point closes the slot (R325, R326). -/
theorem State.commit_closes (i : Nat) {dest : SlotState} (c : Option Cpl) (ring : Bool) (hdest : dest.isOpen = false)
    (hstop : s.cmd.stopped = false) : Closes i s (s.commit i dest c ring) := by
  unfold State.commit
  split
  · rename_i hx
    exact ⟨.refl s, by simp only [State.slotState, hx]; rfl⟩
  · rename_i x hx
    split
    · rename_i hclosed
      refine ⟨.refl s, ?_⟩
      simpa [State.slotState, hx, hstop] using hclosed
    · extract_lets s1 good s2 s3 y y1 s4 cmd4 s5 s6 s7
      have h1 : Recedes s s1 := .ite (s.advanceEpoch_recedes i) (.refl s)
      have h2 : Recedes s1 s2 :=
        Recedes.trans (t := (s1.dropTransfers i).dropWork i) (.of_eq rfl rfl rfl) (State.dropContexts_recedes _ i _)
      have h3 : Recedes s2 s3 := .ite (.refl s2) (s2.releaseWrite_recedes i)
      have h4 : Recedes s3 s4 := .setSlot s3 (fun h => by rw [hdest] at h; exact nomatch h)
      have hclosed : (s4.slotState i).isOpen = false := by
        rw [State.slotState_setSlot, if_pos rfl]
        exact hdest
      have h5 : Recedes s4 s5 := .of_eq rfl rfl rfl
      have h6 : Recedes s5 s6 := by
        cases c with
        | none => exact .refl s5
        | some k => exact Recedes.trans (.ite (.setCtrl s5 _ _) (.refl s5)) (State.account_recedes _ x k.status)
      have h7 : Recedes s6 s7 := .ite (s6.voidFinish_recedes _ _) (.refl s6)
      have hslot : Closes i s s4 := ⟨((h1.trans h2).trans h3).trans h4, hclosed⟩
      exact hslot.trans (((h5.trans h6).trans h7).trans s7.postAll_recedes)

/-! ### The contexts of suspended transfers (R271) -/

/-- A context that ends frees itself, closes its command's slot and sets no cause of the buffer. -/
theorem State.abortCtx_ends {c : Nat} {d : DmaCtx} (hreq : d.req < 2) (hstop : s.cmd.stopped = false) :
    (s.abortCtx c d).ctx? c = none ∧ ((s.abortCtx c d).slotState d.tag).isOpen = false
      ∧ (s.abortCtx c d).reg .buf Reg.UNIT_ERR = s.reg .buf Reg.UNIT_ERR := by
  have hfree : ((s.recordState c 3).freeCtx c).ctx? c = none := by
    simp [State.freeCtx, State.ctx?, Sparse.find?_erase]
  have hrun : ((s.recordState c 3).freeCtx c).cmd.stopped = false := by
    rw [State.recordState_only]
    exact hstop
  obtain ⟨hrec, hclosed⟩ := State.commit_closes ((s.recordState c 3).freeCtx c) d.tag (some (Cpl.ofStatus .internalError)) false
    (dest := .done) rfl hrun
  rw [State.abortCtx, if_pos hreq, State.complete]
  exact ⟨hrec.ctxs c hfree, hclosed, hrec.bufErr.trans (s.recordState_recedes c 3).bufErr⟩

/-- A context whose handle is mapped again is freed and its transfer waits for a channel, where no record is kept. -/
theorem State.fltResume_mapped {c : Nat} {d : DmaCtx} (hctx : s.ctx? c = some d) (hpre : d.preempted = false)
    (hopen : (s.slotState d.tag).isOpen = true) (hmap : bttValid (s.btt d.hdl) = true) (hdsr : s.dsrBase = none) :
    s.fltResume c = { s with cmd := { s.cmd with dmaWait := s.cmd.dmaWait ++ [d.transfer] },
                             buf := { s.buf with ctxs := Sparse.erase s.buf.ctxs c } } := by
  simp [State.fltResume, hctx, hpre, hopen, hmap, State.resumeCtx, State.recordState, hdsr, State.freeCtx]

/-- What a requester makes of its answer changes registers and the answer only (R29, R384). -/
theorem State.toRequester_only (e : Engine) (k : CoreKind) (a : Nat) : OnlyRegs s (s.toRequester e k a) := by
  unfold State.toRequester
  split
  · unfold State.orFault
    split
    · unfold State.coreFault
      dsimp only
      split <;> rfl
    · rfl
  · rfl

/-- An access to a unit out of RESET leaves what its effect leaves, but for registers and the answer. -/
theorem State.access_only {t : State} {e : Engine} {k : CoreKind} {u : UnitId} {off : Nat} (h : s.inReset u = false) :
    OnlyRegs t (s.access e k u off none t) := by
  rw [State.access, State.gate, h]
  exact t.toRequester_only e k _

/-- FLT_ABORT on a context that is not preempted ends it. -/
theorem State.fltAbort_held {c : Nat} {d : DmaCtx} (hctx : s.ctx? c = some d) (hpre : d.preempted = false) :
    s.fltAbort c = s.abortCtx c d := by
  simp [State.fltAbort, hctx, hpre]

/-- FLT_TMO on a context that is not preempted ends it, and the buffer sets its cause. -/
theorem State.fltTmo_held {c : Nat} {d : DmaCtx} (hctx : s.ctx? c = some d) (hpre : d.preempted = false) :
    s.fltTmo c = (s.err .buf beFltTmo).abortCtx c d := by
  simp [State.fltTmo, hctx, hpre]

/-- Settles O34: each move and each act on a context from the lemma of its function; a context that ends closes its command's slot by
the commit point. -/
theorem granulesAndContexts : Obligations.GranulesAndContexts := by
  refine ⟨?_, ?_, ?_, ?_, ?_, ?_, ?_, ?_⟩
  · intro s n ctx d p back hr hlive hcur hw he hc hs hfifo ht hl hf hp
    have hmove := fun u => (s.answer .none).fetchSector_first n d p u hcur hw he hc hs hfifo ht hl hf hp
    refine Completes.of_result hr (exec_dmaGranule s (.fetch n []) ctx ⟨.ok, back⟩) ((if_pos hlive).trans (hmove _)) ⟨?_, ?_⟩ ?_
    · rw [State.ch_setCh_same]
      rfl
    · rfl
    · rfl
  · intro s ch ctx i peer h p data x b back hr hlive hstop hx hst hwr hlock hg hins hfill hb hctx hpause hd hdw ht hlen
    have hguard : (s.live .cmd && !s.cmd.stopped) = true := by rw [hlive, hstop]; rfl
    obtain ⟨hslot, hin, hout, honly⟩ := (s.answer .none).hostIn_leaves (ctx := ctx.val) (peer := peer) (ch := ch.val) data hx hst hwr
      hlock hg hins hfill hb hctx hpause hd hdw ht rfl
    exact Completes.of_result hr (exec_dmaGranule s (.hostIn ch i peer data) ctx ⟨.ok, back⟩) (if_pos hguard) ⟨hslot, hin, hout, honly⟩
      (by rw [honly]; rfl)
  · intro s ch ctx i peer h p x b back hr hlive hstop hx hst hb hctx hpause hd hdw ht hl hf hp
    have hguard : (s.live .cmd && !s.cmd.stopped) = true := by rw [hlive, hstop]; rfl
    have hmove := fun u => (s.answer .none).hostOut_page (ctx := ctx.val) (peer := peer) (ch := ch.val) u hx hst hb hctx hpause hd hdw
      ht hl hf hp
    refine Completes.of_result hr (exec_dmaGranule s (.hostOut ch i h peer []) ctx ⟨.ok, back⟩) ((if_pos hguard).trans (hmove _))
      ⟨rfl, ?_⟩ ?_
    · rw [State.stepChan_only]
      rfl
    · rw [State.stepChan_only]
      rfl
  · intro s eng ctx d hr hrst hctx hpre hopen hmap hdsr
    have hresume := (s.answer .none).fltResume_mapped hctx hpre hopen hmap hdsr
    have hok : ∀ c, ((s.answer .none).fltResume ctx.val).resp ≠ .busError c := by
      rw [hresume]
      exact fun _ h => nomatch (h : Resp.none = Resp.busError _)
    refine Completes.of_result hr (exec_fltResume s eng ctx) ((State.access_ok hrst hok).trans hresume) ⟨?_, ?_, ?_⟩ ?_ <;> rfl
  · intro s eng ctx d hr hrst hctx hpre hreq hstop
    obtain ⟨hfree, hclosed, -⟩ := (s.answer .none).abortCtx_ends (c := ctx.val) hreq hstop
    have honly := State.access_only (s.answer .none) (t := (s.answer .none).fltAbort ctx.val) (e := eng) (k := .store) (u := .buf)
      (off := Reg.BUF_FLT_CMD) hrst
    rw [← (s.answer .none).fltAbort_held hctx hpre] at hfree hclosed
    exact Completes.of_done hr (exec_fltAbort s eng ctx)
      ⟨(congrArg (fun t : State => t.ctx? ctx.val) honly).trans hfree,
        (congrArg (fun t : State => (t.slotState d.tag).isOpen) honly).trans hclosed⟩
  · intro s ctx d hr hlive hctx hpre hreq hstop
    obtain ⟨hfree, hclosed, herr⟩ := ((s.answer .none).err .buf beFltTmo).abortCtx_ends (c := ctx.val) hreq hstop
    have htmo : (s.answer .none).when (s.live .buf) ((s.answer .none).fltTmo ctx.val)
        = ((s.answer .none).err .buf beFltTmo).abortCtx ctx.val d :=
      (if_pos hlive).trans ((s.answer .none).fltTmo_held hctx hpre)
    have hbit : ((((s.answer .none).err .buf beFltTmo).abortCtx ctx.val d).reg .buf Reg.UNIT_ERR).getLsbD 9 = true := by
      rw [herr, State.reg_err, BitVec.getLsbD_or]
      exact Bool.or_eq_true_iff.mpr (.inr (by decide))
    rw [← htmo] at hfree hclosed hbit
    exact Completes.of_done hr (exec_fltTmo s ctx) ⟨hfree, hclosed, hbit⟩
  · intro s eng w rest hr hrst hn
    have hpop := (s.answer .none).fltPop_cons hn
    have hok : ∀ c, (s.answer .none).fltPop.resp ≠ .busError c := by
      rw [hpop]
      exact fun _ h => nomatch (h : Resp.value _ = Resp.busError _)
    refine Completes.of_result hr (exec_fltPop s eng) ((State.access_ok hrst hok).trans hpop) ⟨?_, ?_, ?_⟩ ?_ <;> rfl
  · intro s eng lo hi rest hr hrst he
    obtain ⟨hrest, hlatch, hregs, honly⟩ := (s.answer .none).bufEvPop_cons eng he
    have hresp : ((s.answer .none).bufEvPop eng).resp = .value lo := by rw [honly]
    refine Completes.of_result hr (exec_bufEvPop s eng) (State.access_ok hrst fun c h => ?_) ⟨hresp, hrest, hlatch, hregs, ?_⟩
      (by rw [honly]; rfl)
    · rw [hresp] at h
      exact nomatch h
    · rw [honly]
      rfl

end Sys2Proof.Machine

/-! SUPPORT. UNIT_ID, and the form of memory: what a cold reset and the retracts it begins leave of memory, and what a program
of the NOR reads as. -/

namespace Sys2Proof.Machine

variable (s : State)

/-! ### UNIT_ID (R10) -/

/-- UNIT_ID of a unit reads its word to every reader. -/
theorem State.view_unitId (e : Engine) (u : UnitId) : s.view e u Reg.UNIT_ID = u.idWord := rfl

/-- The fields of UNIT_ID. -/
theorem UnitId.idWord_fields (u : UnitId) :
    u.idWord = BitVec.ofNat 32 (0x01 * 2 ^ 24 + bit u.isGroup * 2 ^ 20 + u.above.length * 2 ^ 16 + u.num) := by
  simp only [UnitId.idWord, UnitId.depth]
  congr 1
  omega

/-- Settles O7: the word that UNIT_ID reads, and that a unit's number has 12 bits. -/
theorem unitIdentification : Obligations.UnitIdentification :=
  ⟨fun s e u => ⟨(s.view_unitId e u).trans (UnitId.idWord_fields u), UnitId.num_lt u⟩, unitAt_block (.chn 2) (o := 0) (by decide), rfl,
    fun s e => s.view_unitId e (.chn 2)⟩

/-! ### What a retract leaves (R48, R197) -/

theorem State.updWgate_only (n : Fin 4) : LaneOnly s (s.updWgate n) := LaneOnly.setLane s n _

/-- A change of the write inhibit (R187). -/
theorem State.setInhibit_only (n : Fin 4) (b : Bool) : LaneOnly s (s.setInhibit n b) := by
  unfold State.setInhibit
  extract_lets rise s1 s2
  have h1 : LaneOnly s s1 := LaneOnly.setF s _ _ _
  have h2 : LaneOnly s s2 := by
    simp only [s2]
    split
    · exact h1.trans (LaneOnly.count64 _ _ _)
    · exact h1
  split
  · exact h2.trans (State.writeStop_only _ n _)
  · exact h2.trans (State.updWgate_only _ n)

/-- A loss of servo lock (R156, R187). -/
theorem State.slockFall_only (n : Fin 4) : LaneOnly s (s.slockFall n) := by
  unfold State.slockFall
  split
  · exact (((LaneOnly.setF s _ _ _).trans (State.setInhibit_only _ n _)).trans (State.haltTiming_only _ n _)).trans
      (State.updAgate_only _ n)
  · exact s.setInhibit_only n true

/-- A change of MODE (R181, R187). -/
theorem State.enterMode_only (n : Fin 4) (m : Nat) : LaneOnly s (s.enterMode n m) := by
  unfold State.enterMode
  extract_lets s1
  have h1 : LaneOnly s s1 := by
    simp only [s1]
    split
    · exact LaneOnly.setF s _ _ _
    · exact (LaneOnly.setF s _ _ _).trans (State.setInhibit_only _ n _)
  split
  · exact h1
  · exact h1.trans (LaneOnly.setReg _ _ _ _)

theorem State.endSeekForMode_mem (n : Fin 4) : (s.endSeekForMode n).mem = s.mem := by
  unfold State.endSeekForMode
  split <;> rfl

theorem State.rotValid_mem : s.rotValid.mem = s.mem := by
  unfold State.rotValid
  split
  · rfl
  · split <;> rfl

/-- The hardware retract path leaves memory. -/
theorem State.hwRetract_mem (n : Fin 4) (failing : Bool) : (s.hwRetract n failing).mem = s.mem := by
  unfold State.hwRetract
  extract_lets fault s1 v s2
  calc (s2.setF (.srv n) F.SRV_STAT_SHOCK 0).rotValid.mem
      = (((s.slockFall n).endSeekForMode n).enterMode n mRetract).mem := State.rotValid_mem _
    _ = ((s.slockFall n).endSeekForMode n).mem := (State.enterMode_only _ n _).mem
    _ = s.mem := (State.endSeekForMode_mem _ n).trans (s.slockFall_only n).mem

/-- Steps that each leave memory leave it together. -/
theorem State.foldl_mem {α : Type} (f : State → α → State) (h : ∀ s a, (f s a).mem = s.mem) (l : List α) :
    ∀ s : State, (l.foldl f s).mem = s.mem := by
  induction l with
  | nil => exact fun _ => rfl
  | cons a t ih => exact fun s => (ih _).trans (h s a)

theorem State.retractLoaded_mem : s.retractLoaded.mem = s.mem := by
  refine State.foldl_mem _ (fun t n => ?_) _ s
  split
  · exact t.hwRetract_mem n false
  · rfl

theorem State.carryRetracts_mem (t : State) : (s.carryRetracts t).mem = t.mem := by
  refine State.foldl_mem _ (fun u n => ?_) _ t
  split <;> rfl

/-! ### The form of memory (R31, R43, R451) -/

/-- A cold reset leaves of memory the NOR window (R43). -/
theorem State.coldReset_mem (c : Nat) (p : Power) : (s.coldReset c p).mem = keepNor s.mem := by
  have hloaded : (if p = .off then s else s.retractLoaded).mem = s.mem := by
    rw [apply_ite State.mem, State.retractLoaded_mem, ite_self]
  unfold State.coldReset
  dsimp only
  rw [apply_ite State.mem, State.carryRetracts_mem, ite_self]
  exact congrArg keepNor hloaded

/-- A byte after a cold reset: kept in the NOR window, and one that nothing has written elsewhere. -/
theorem State.byte_coldReset (c b : Nat) (p : Power) :
    (s.coldReset c p).byte b = if inNor b = true then s.byte b else memReset b := by
  simp only [State.byte, State.coldReset_mem]
  exact Sparse.get_filter memReset inNor s.mem b

/-- A programmed byte of the NOR keeps its 0 bits, and every other byte reads as before (R474). -/
theorem State.byte_norProgram (l : List Byte) : ∀ (s : State) (off b : Nat), (s.norProgram off l).byte b
    = if norBase + off ≤ b ∧ b < norBase + off + l.length then l.getD (b - (norBase + off)) 0 &&& s.byte b else s.byte b := by
  induction l with
  | nil => intro s off b; simp [State.norProgram]
  | cons x t ih =>
    intro s off b
    rw [State.norProgram, ih, State.byte_setByte]
    by_cases hfirst : b = norBase + off
    · subst hfirst
      simp
    · by_cases hrest : norBase + (off + 1) ≤ b ∧ b < norBase + (off + 1) + t.length
      · obtain ⟨k, rfl⟩ : ∃ k, b = norBase + (off + 1) + k := ⟨b - (norBase + (off + 1)), by omega⟩
        have hall : norBase + off ≤ norBase + (off + 1) + k ∧ norBase + (off + 1) + k < norBase + off + (x :: t).length := by
          simp only [List.length_cons]
          omega
        have hk : norBase + (off + 1) + k - (norBase + off) = k + 1 := by omega
        rw [if_pos hrest, if_pos hall, if_neg hfirst, Nat.add_sub_cancel_left, hk, List.getD_cons_succ]
      · have hall : ¬(norBase + off ≤ b ∧ b < norBase + off + (x :: t).length) := by
          simp only [List.length_cons]
          omega
        rw [if_neg hrest, if_neg hall, if_neg hfirst]

/-- Settles O5: each operation's bytes and form, and that the form makes memories that read alike the same. -/
theorem memoryForm : Obligations.MemoryForm :=
  ⟨State.reset_mem_wf, fun s a b v => s.byte_setByte a b v, fun s a b l => State.byte_setBytes l s a b,
    fun s off n b => s.byte_norErase off n b, fun s off b l => State.byte_norProgram l s off b,
    fun s c b p => s.byte_coldReset c b p,
    fun s h => ⟨s.setByte_wf h, fun a l => State.setBytes_wf l s a h, s.zeroBytes_wf h, s.norErase_wf h,
      fun off l => State.norProgram_wf l s off h, s.lineLost_wf h, fun c p => by rw [s.coldReset_mem c p]; exact keepNor_wf h⟩,
    fun _ _ hs ht hsame => Sparse.ext_of_get ht hs hsame⟩

end Sys2Proof.Machine

/-! SUPPORT. The event log: a record appended to a region of the NOR goes to an erased entry and reads back, and its CRC is good. -/

namespace Sys2Proof.Machine

variable (s : State)

theorem exec_eventRecordProgram (pon : Nat) (cls unit : BitVec 16) (sev : Fin 4) (data : List Byte) (prog : Parity) :
    exec (.eventRecordProgram pon cls sev unit data prog) s = execEventRecordProgram pon cls sev unit data prog s := rfl

/-! ### Entries of a region of the NOR (R478, R543) -/

/-- What a list holds after words are added to it, each once. -/
theorem mem_foldl_addOnce {α : Type} (f : α → Nat) (x : Nat) (l : List α) : ∀ a : List Nat,
    x ∈ l.foldl (fun a c => addOnce a (f c)) a ↔ x ∈ a ∨ ∃ c ∈ l, f c = x := by
  induction l with
  | nil => simp
  | cons c t ih =>
    intro a
    have hadd : x ∈ addOnce a (f c) ↔ x ∈ a ∨ f c = x := by
      unfold addOnce
      split
      · rename_i hin
        refine ⟨.inl, fun h => h.elim id fun hc => ?_⟩
        exact hc ▸ List.contains_iff_mem.mp hin
      · simp [eq_comm]
    simp only [List.foldl_cons, ih, hadd, List.mem_cons, exists_eq_or_imp, or_assoc]

/-- The entries that hold a programmed byte. -/
theorem State.mem_norEntries (base blocks e : Nat) : e ∈ s.norEntries base blocks ↔
    ∃ c ∈ s.mem, (norBase + base ≤ c.1 ∧ c.1 < norBase + base + blocks * 65536) ∧ (c.1 - norBase - base) / 64 = e := by
  simp only [State.norEntries, mem_foldl_addOnce, List.not_mem_nil, false_or, List.mem_filter, decide_eq_true_eq, and_assoc]

/-- A table with no entry at a key lists nothing there. -/
theorem Sparse.find?_none {α : Type} {k : Nat} {l : List (Nat × α)} (h : ∀ e ∈ l, e.1 ≠ k) : Sparse.find? l k = none := by
  induction l with
  | nil => rfl
  | cons e t ih =>
    obtain ⟨j, v⟩ := e
    rw [Sparse.find?, if_neg (h (j, v) List.mem_cons_self)]
    exact ih fun e he => h e (List.mem_cons_of_mem _ he)

/-- The bytes of an entry without a programmed byte are erased. -/
theorem State.byte_of_not_mem_norEntries {base blocks e : Nat} (h : e ∉ s.norEntries base blocks) (he : e < 1024 * blocks) {i : Nat}
    (hi : i < 64) : s.byte (norBase + base + 64 * e + i) = memReset (norBase + base + 64 * e + i) := by
  have hnone : ∀ c ∈ s.mem, c.1 ≠ norBase + base + 64 * e + i := fun c hc hat =>
    h ((s.mem_norEntries base blocks e).mpr ⟨c, hc, by omega, by omega⟩)
  rw [State.byte, Sparse.get, Sparse.find?_none hnone, Option.getD_none]

/-- The newest record is one of those given. -/
theorem newestRec_mem {seqAt : Nat} {l : List (Nat × List Byte)} {r : Nat × List Byte} (h : newestRec seqAt l = some r) : r ∈ l := by
  have hfold : ∀ (l : List (Nat × List Byte)) (a : Option (Nat × List Byte)),
      l.foldl (fun a r => match a with
        | none => some r
        | some q => if seqOf seqAt q.2 < seqOf seqAt r.2 then some r else some q) a = some r → a = some r ∨ r ∈ l := by
    intro l
    induction l with
    | nil => exact fun _ h => .inl h
    | cons x t ih =>
      intro a h
      obtain hacc | hmem := ih _ h
      · cases a with
        | none => exact .inr (List.mem_cons.mpr (.inl (Option.some.inj hacc).symm))
        | some q =>
          dsimp only at hacc
          split at hacc
          · exact .inr (List.mem_cons.mpr (.inl (Option.some.inj hacc).symm))
          · exact .inl hacc
      · exact .inr (List.mem_cons_of_mem _ hmem)
  exact (hfold l none h).resolve_left nofun

/-- A record of a region lies in one of its blocks. -/
theorem State.norRecords_lt {base blocks : Nat} {r : Nat × List Byte} (h : r ∈ s.norRecords base blocks) : r.1 < 1024 * blocks := by
  obtain ⟨e, he, rfl⟩ := List.mem_map.mp (List.mem_filter.mp h).1
  obtain ⟨c, -, hrange, hentry⟩ := (s.mem_norEntries base blocks e).mp he
  dsimp only
  omega

/-- The block that the next record of a region goes to first. -/
def State.norBlock (s : State) (base blocks seqAt : Nat) : Nat :=
  match newestRec seqAt (s.norRecords base blocks) with
  | some r => r.1 / 1024
  | none => 0

theorem State.norBlock_lt (base seqAt : Nat) {blocks : Nat} (hb : 0 < blocks) : s.norBlock base blocks seqAt < blocks := by
  unfold State.norBlock
  split
  · rename_i r hr
    have := s.norRecords_lt (newestRec_mem hr)
    omega
  · exact hb

/-- The next record of a region goes to an entry of that block that holds nothing, or to the first of the next block, erased. -/
theorem State.norPlace_cases (base blocks seqAt : Nat) :
    (∃ e, s.blankEntry base blocks (s.norBlock base blocks seqAt) = some e ∧ s.norPlace base blocks seqAt = (s, e))
      ∨ s.blankEntry base blocks (s.norBlock base blocks seqAt) = none ∧ s.norPlace base blocks seqAt
          = (s.norErase (base + (s.norBlock base blocks seqAt + 1) % blocks * 65536) 65536,
              (s.norBlock base blocks seqAt + 1) % blocks * 1024) := by
  unfold State.norPlace
  extract_lets b
  change (∃ e, s.blankEntry base blocks b = some e ∧ _) ∨ s.blankEntry base blocks b = none ∧ _
  cases s.blankEntry base blocks b with
  | some e => exact .inl ⟨e, rfl, rfl⟩
  | none => exact .inr ⟨rfl, rfl⟩

/-- A blank entry of a block lies in that block and holds no programmed byte. -/
theorem State.blankEntry_spec {base blocks b e : Nat} (h : s.blankEntry base blocks b = some e) :
    e ∉ s.norEntries base blocks ∧ e < 1024 * (b + 1) := by
  obtain ⟨k, hk, rfl⟩ := List.mem_map.mp (List.mem_of_find?_eq_some h)
  have hfree := List.find?_some h
  rw [List.mem_range] at hk
  refine ⟨by simpa using hfree, by omega⟩

/-- Where the next record of a region goes: an entry of the region whose bytes are erased, and nothing outside the region has
changed. -/
theorem State.norPlace_spec (base seqAt : Nat) {blocks : Nat} (hb : 0 < blocks) :
    (s.norPlace base blocks seqAt).2 < 1024 * blocks
      ∧ (∀ i, i < 64 → (s.norPlace base blocks seqAt).1.byte (norBase + base + 64 * (s.norPlace base blocks seqAt).2 + i)
          = memReset (norBase + base + 64 * (s.norPlace base blocks seqAt).2 + i))
      ∧ (∀ a, (a < norBase + base ∨ norBase + base + blocks * 65536 ≤ a) → (s.norPlace base blocks seqAt).1.byte a = s.byte a) := by
  have hblock := s.norBlock_lt base seqAt hb
  obtain ⟨e, hblank, hplace⟩ | ⟨-, hplace⟩ := s.norPlace_cases base blocks seqAt
  · obtain ⟨hfree, hlt⟩ := s.blankEntry_spec hblank
    rw [hplace]
    have he : e < 1024 * blocks := by omega
    exact ⟨he, fun i hi => s.byte_of_not_mem_norEntries hfree he hi, fun _ _ => rfl⟩
  · have hnext : (s.norBlock base blocks seqAt + 1) % blocks < blocks := Nat.mod_lt _ hb
    rw [hplace]
    refine ⟨by dsimp only; omega, fun i hi => ?_, fun a ha => ?_⟩
    · dsimp only
      rw [State.byte_norErase, if_pos (by omega)]
    · dsimp only
      rw [State.byte_norErase, if_neg (by omega)]

/-- The entry that the next record of a region takes. -/
theorem State.norPlace_snd (base blocks seqAt : Nat) : (s.norPlace base blocks seqAt).2
    = (s.blankEntry base blocks (s.norBlock base blocks seqAt)).getD ((s.norBlock base blocks seqAt + 1) % blocks * 1024) := by
  obtain ⟨e, hblank, hplace⟩ | ⟨hblank, hplace⟩ := s.norPlace_cases base blocks seqAt
  · rw [hplace, hblank, Option.getD_some]
  · rw [hplace, hblank, Option.getD_none]

/-- Where the next record of a region goes depends on memory alone. -/
theorem State.norPlace_congr {t : State} (h : t.mem = s.mem) (base blocks seqAt : Nat) :
    (t.norPlace base blocks seqAt).2 = (s.norPlace base blocks seqAt).2 := by
  have hentries : t.norEntries base blocks = s.norEntries base blocks := by simp only [State.norEntries, h]
  have hrecords : t.norRecords base blocks = s.norRecords base blocks := by
    simp only [State.norRecords, hentries, State.norEntry, State.norBytes, State.bytes, State.byte, h]
  have hblock : t.norBlock base blocks seqAt = s.norBlock base blocks seqAt := by simp only [State.norBlock, hrecords]
  have hblank : ∀ b, t.blankEntry base blocks b = s.blankEntry base blocks b := fun b => by simp only [State.blankEntry, hentries]
  rw [t.norPlace_snd, s.norPlace_snd, hblock, hblank]

/-! ### A record appended (R543) -/

/-- A program of the NOR changes memory and the cached copies of its lines, and nothing else. -/
theorem State.norProgram_only (l : List Byte) : ∀ (s : State) (off : Nat),
    s.norProgram off l = { s with mem := (s.norProgram off l).mem, lines := (s.norProgram off l).lines } := by
  induction l with
  | nil => exact fun _ _ => rfl
  | cons b t ih =>
    intro s off
    rw [State.norProgram, ih]
    rfl

/-- A record appended to a region of the NOR changes memory and the cached copies of its lines, and nothing else. -/
theorem State.norAppend_only (base blocks seqAt : Nat) (l : List Byte) : s.norAppend base blocks seqAt l
    = { s with mem := (s.norAppend base blocks seqAt l).mem, lines := (s.norAppend base blocks seqAt l).lines } := by
  have hplace : (s.norPlace base blocks seqAt).1 = { s with mem := (s.norPlace base blocks seqAt).1.mem } := by
    obtain ⟨e, -, hplace⟩ | ⟨-, hplace⟩ := s.norPlace_cases base blocks seqAt <;> rw [hplace]
    rfl
  rw [State.norAppend, State.norProgram_only, hplace]

theorem State.norAppend_svcs (base blocks seqAt : Nat) (l : List Byte) : (s.norAppend base blocks seqAt l).svcs = s.svcs := by
  rw [State.norAppend_only]

/-- A record appended to a region of the NOR reads back from its entry, and nothing outside the region changes. -/
theorem State.norAppend_spec (base seqAt : Nat) {blocks : Nat} (hb : 0 < blocks) (hnor : base + blocks * 65536 ≤ 0x10000000)
    {l : List Byte} (hl : l.length = 64) :
    (s.norAppend base blocks seqAt l).norBytes (base + 64 * (s.norPlace base blocks seqAt).2) 64 = l
      ∧ (∀ a, (a < norBase + base ∨ norBase + base + blocks * 65536 ≤ a) →
          (s.norAppend base blocks seqAt l).byte a = s.byte a) := by
  obtain ⟨hentry, herased, hout⟩ := s.norPlace_spec base seqAt hb
  refine ⟨List.ext_getElem (by simp [State.norBytes, State.bytes, hl]) fun i hi hi' => ?_, fun a ha => ?_⟩
  · have hread : (s.norPlace base blocks seqAt).1.byte (norBase + (base + 64 * (s.norPlace base blocks seqAt).2) + i) = 0xFF := by
      rw [← Nat.add_assoc norBase, herased i (by omega), memReset, if_pos (by simp only [norBase]; omega)]
    simp only [State.norBytes, State.bytes, List.getElem_map, List.getElem_range, State.norAppend]
    rw [State.byte_norProgram, if_pos (by omega), hread, Nat.add_sub_cancel_left, List.getD_eq_getElem l 0 hi']
    exact BitVec.and_allOnes
  · rw [State.norAppend, State.byte_norProgram, if_neg (by omega), hout a ha]

/-- A number of `n` bytes reads back from its bytes. -/
theorem leNat_leBytes (n v : Nat) : leNat (leBytes n v) = v % 2 ^ (8 * n) := by
  induction n generalizing v with
  | zero => simp [leBytes, leNat, Nat.mod_one]
  | succ n ih =>
    have hcons : leBytes (n + 1) v = BitVec.ofNat 8 v :: leBytes n (v / 256) := by
      simp only [leBytes, List.range_succ_eq_map, List.map_cons, List.map_map, Nat.mul_zero, Nat.pow_zero, Nat.div_one]
      congr 1
      refine List.map_congr_left fun i _ => ?_
      simp only [Function.comp, Nat.succ_eq_add_one, Nat.div_div_eq_div_mul]
      congr 2
      rw [Nat.mul_add, Nat.pow_add, Nat.mul_comm]
    rw [hcons, leNat, ih, BitVec.toNat_ofNat, Nat.mul_add, Nat.pow_add, Nat.mul_comm (2 ^ (8 * n)), Nat.mod_mul]

@[simp] theorem length_leBytes (n v : Nat) : (leBytes n v).length = n := by simp [leBytes]

/-- The CRC that is put behind 56 bytes is good (R477). -/
theorem recordOk_withCrc {l : List Byte} (hl : l.length = 56) : recordOk (withCrc l) = true := by
  have hbody : slice (withCrc l) 0 56 = l := by simp [slice, withCrc, ← hl]
  have hcrc : slice (withCrc l) 56 8 = leBytes 8 (crcRecord l) := by
    simp [slice, withCrc, ← hl, List.take_of_length_le]
  have hlt : crcRecord l < 2 ^ (8 * 8) := BitVec.isLt _
  rw [recordOk, hbody, hcrc, leNat_leBytes, Nat.mod_eq_of_lt hlt, beq_self_eq_true]

/-- A record of the event log has 64 bytes and a good CRC (R543). -/
theorem State.eventBytes_spec (pon cls sev unit : Nat) (data : List Byte) :
    (s.eventBytes pon cls sev unit data).length = 64 ∧ recordOk (s.eventBytes pon cls sev unit data) = true := by
  unfold State.eventBytes
  extract_lets seq
  refine ⟨?_, recordOk_withCrc ?_⟩ <;> simp [withCrc]

/-! ### EVENT_RECORD_PROGRAM (R544) -/

@[simp] theorem State.setSvcs_byte (v : Service) (a : Nat) : (s.setSvcs v).byte a = s.byte a := rfl
@[simp] theorem State.setSvcs_norBytes (v : Service) (off n : Nat) : (s.setSvcs v).norBytes off n = s.norBytes off n := rfl

/-- The record passes its budget: one of severity 3 the 64 an hour, another the budget. -/
def Service.admits (v : Service) (sev : Nat) : Bool := if 3 ≤ sev then decide (v.crits.length < 64) else decide (0 < v.budget)

/-- What an admitted record takes from its budget. -/
def Service.charge (v : Service) (pon sev : Nat) : Service :=
  if 3 ≤ sev then { v with crits := v.crits ++ [pon] } else { v with budget := v.budget - 1 }

/-- A record that is refused is counted. -/
theorem State.eventRecord_refused {pon sev : Nat} (cls unit : Nat) (data : List Byte) (prog : Parity)
    (h : (s.svcs.refill pon).admits sev = false) : s.eventRecord pon cls sev unit data prog
      = { s with svcs := { s.svcs.refill pon with suppressed := s.svcs.suppressed + 1 } } := by
  unfold State.eventRecord
  exact if_pos (by rw [← Service.admits, h]; rfl)

/-- A record that is admitted is charged and programmed, and one that is programmed counts those refused before it. -/
theorem State.eventRecord_admitted {pon sev : Nat} (cls unit : Nat) (data : List Byte) (prog : Parity)
    (h : (s.svcs.refill pon).admits sev = true) : s.eventRecord pon cls sev unit data prog
      = (let r := (s.setSvcs ((s.svcs.refill pon).charge pon sev)).norTry prog
          (fun t => t.norAppend eventBase 5 0 (s.eventBytes pon cls sev unit data))
         if r.2 then r.1.setSvcs { r.1.svcs with suppressed := 0 } else r.1) := by
  unfold State.eventRecord
  exact if_neg (by rw [← Service.admits, h]; decide)

/-- A record that is admitted and whose program is good, as what it leaves. -/
theorem State.eventRecord_good {pon sev : Nat} (cls unit : Nat) (data : List Byte) (h : (s.svcs.refill pon).admits sev = true) :
    s.eventRecord pon cls sev unit data .ok
      = ((s.setSvcs ((s.svcs.refill pon).charge pon sev)).norAppend eventBase 5 0 (s.eventBytes pon cls sev unit data)).setSvcs
          { (s.svcs.refill pon).charge pon sev with suppressed := 0 } := by
  have hsvcs := (s.setSvcs ((s.svcs.refill pon).charge pon sev)).norAppend_svcs eventBase 5 0 (s.eventBytes pon cls sev unit data)
  rw [s.eventRecord_admitted cls unit data .ok h]
  simp only [State.norTry, if_true, hsvcs]
  rfl

theorem severity_three_iff (sev : Fin 4) : 3 ≤ sev.val ↔ sev.val = 3 := by omega

/-- The budget that a record of a severity passes. -/
theorem Service.admits_iff (v : Service) (sev : Fin 4) :
    v.admits sev.val = true ↔ if sev.val = 3 then v.crits.length < 64 else 0 < v.budget := by
  simp only [Service.admits, severity_three_iff]
  split <;> exact decide_eq_true_iff

theorem Service.charge_suppressed (v : Service) (pon sev : Nat) : (v.charge pon sev).suppressed = v.suppressed := by
  unfold Service.charge
  split <;> rfl

theorem Service.charge_budget (v : Service) (pon : Nat) (sev : Fin 4) :
    (v.charge pon sev.val).budget = if sev.val = 3 then v.budget else v.budget - 1 := by
  simp only [Service.charge, severity_three_iff, apply_ite Service.budget]

theorem Service.charge_crits (v : Service) (pon : Nat) (sev : Fin 4) :
    (v.charge pon sev.val).crits = if sev.val = 3 then v.crits ++ [pon] else v.crits := by
  simp only [Service.charge, severity_three_iff, apply_ite Service.crits]

/-- What a lasting failure of a program leaves: two causes, and one lasting fault counted (R21, R503). -/
theorem State.norFailed_regs : (((s.lasting .svc).err .svc seNor).reg .svc Reg.UNIT_ERR).getLsbD 9 = true
    ∧ RegsBut s ((s.lasting .svc).err .svc seNor) [(.svc, Reg.UNIT_ERR), (.svc, Reg.UNIT_LAST_CNT)] := by
  constructor
  · rw [State.reg_err, BitVec.getLsbD_or]
    exact Bool.or_eq_true_iff.mpr (.inr (by decide))
  · have hlasting : RegsBut s (s.err .svc eLasting) [(.svc, Reg.UNIT_ERR)] := .err s .svc eLasting
    have hcount : RegsBut (s.err .svc eLasting) (s.lasting .svc) [(.svc, Reg.UNIT_LAST_CNT)] := .setReg _ .svc (by decide) _
    have hnor : RegsBut (s.lasting .svc) ((s.lasting .svc).err .svc seNor) [(.svc, Reg.UNIT_ERR)] := .err _ .svc seNor
    exact ((hlasting.mono (by simp)).trans (hcount.mono (by simp))).trans (hnor.mono (by simp))

/-- Settles O60: a record admitted and good, one refused, and one whose program fails. -/
theorem eventRecords : Obligations.EventRecords := by
  refine ⟨?_, ?_, ?_⟩
  · intro s pon cls unit sev data hr hlive h
    obtain ⟨hlen, hcrc⟩ := s.eventBytes_spec pon cls.toNat sev.val unit.toNat data
    have hplace := State.norPlace_congr s (t := (s.answer .none).setSvcs ((s.svcs.refill pon).charge pon sev.val)) rfl eventBase 5 0
    obtain ⟨hread, hout⟩ := State.norAppend_spec ((s.answer .none).setSvcs ((s.svcs.refill pon).charge pon sev.val))
      eventBase 0 (blocks := 5) (by decide) (by decide) hlen
    rw [hplace] at hread
    have hgood := (s.answer .none).eventRecord_good cls.toNat unit.toNat data ((Service.admits_iff _ sev).mpr h)
    refine Completes.of_result hr (exec_eventRecordProgram s pon cls unit sev data .ok) ((if_pos hlive).trans hgood)
      ⟨(State.setSvcs_norBytes _ _ _ _).trans hread, hcrc, rfl, ?_, ?_, fun a ha => (State.setSvcs_byte _ _ a).trans (hout a ha), ?_⟩ ?_
    · exact Service.charge_budget _ pon sev
    · exact Service.charge_crits _ pon sev
    · rw [State.norAppend_only]
      rfl
    · rw [State.norAppend_only]
      rfl
  · intro s pon cls unit sev data prog hr hlive h
    have hfull : (s.svcs.refill pon).admits sev.val = false := by
      rw [← Bool.not_eq_true, Service.admits_iff]
      split <;> simp_all
    have hrefused := (s.answer .none).eventRecord_refused cls.toNat unit.toNat data prog hfull
    exact Completes.of_result hr (exec_eventRecordProgram s pon cls unit sev data prog) ((if_pos hlive).trans hrefused) rfl rfl
  · intro s pon cls unit sev data hr hlive h
    have hfailed := (s.answer .none).eventRecord_admitted cls.toNat unit.toNat data .lasting ((Service.admits_iff _ sev).mpr h)
    obtain ⟨hbit, hregs⟩ := State.norFailed_regs ((s.answer .none).setSvcs ((s.svcs.refill pon).charge pon sev.val))
    exact Completes.of_result hr (exec_eventRecordProgram s pon cls unit sev data .lasting) ((if_pos hlive).trans hfailed)
      ⟨rfl, hbit, Service.charge_suppressed _ _ _, hregs, rfl⟩ rfl

end Sys2Proof.Machine

/-! SUPPORT. The end of a unit's reset while a start is under way: the start goes on (R479), so the command leaves more than the
unit's own state. -/

namespace Sys2Proof.Machine

variable (s : State)

theorem exec_unitResetComplete (u : UnitId) : exec (.unitResetComplete u) s = done s (fun s =>
    if (s.resetComplete u).inReset u then s.resetComplete u else ((s.resetComplete u).startRelease u).startStep) := rfl

/-- A channel whose effective enable is 0 leaves RESET for OFF (R15). -/
theorem State.resetComplete_chn {n : Fin 4} (hrst : s.inReset (.chn n) = true) (hen : s.effEn (.chn n) = false) :
    s.resetComplete (.chn n) = s.setUnitState (.chn n) stOff := by
  simp [State.resetComplete, hrst, hen, UnitId.isGroup]

theorem State.stage_queue (q : List Instr) : ({ s with pending := q } : State).stage = s.stage := rfl

/-- A start that has failed in its configuration does not go on. -/
theorem State.startStep_of_failed (h : s.startConfig.stage = 0) : s.startStep = s.startConfig := by
  have hbuffer : s.startConfig.startBuffer = s.startConfig := if_neg fun hc => absurd (h.symm.trans hc.1) (by decide)
  have himage : s.startConfig.startImage = s.startConfig := if_pos (by rw [h]; decide)
  have hcode : s.startConfig.startCode = s.startConfig := if_pos (by rw [h]; decide)
  rw [State.startStep, hbuffer, himage, hcode]

/-- A warm start at its configuration (STAGE 2), the enclave ready, that waits for channel 0 alone to leave RESET; its NOR holds no
Idsar image. -/
def startWaits : State :=
  (((State.reset.setUnitState (.chn 0) stReset).setStage 2).setF .hzl F.HZL_STAT_READY 1).setSvcs
    { State.reset.svcs with idsarTry := [0, 1] }

/-- That state without its channel in RESET. -/
def startReady : State := (startWaits.answer .none).setUnitState (.chn 0) stOff

/-- With the channel out of RESET the start fails for want of an image, and a warm reset follows (R492). -/
theorem startReady_fails : startReady.startConfig.stage = 0 := by decide +kernel

/-- The channel's leaving RESET ends the start. -/
theorem exec_startWaits : exec (.unitResetComplete (.chn 0)) startWaits = leave startWaits startReady.startConfig := by
  have hcomplete : (startWaits.answer .none).resetComplete (.chn 0) = startReady :=
    State.resetComplete_chn _ (by decide +kernel) (by decide +kernel)
  have hout : startReady.inReset (.chn 0) = false := by decide +kernel
  have hrelease : startReady.startRelease (.chn 0) = startReady := rfl
  rw [exec_unitResetComplete, done, if_pos (by decide +kernel)]
  change leave startWaits (if ((startWaits.answer .none).resetComplete (.chn 0)).inReset (.chn 0) then _ else _) = _
  rw [hcomplete, hout, if_neg Bool.false_ne_true]
  change leave startWaits ((((startWaits.answer .none).resetComplete (.chn 0)).startRelease (.chn 0)).startStep) = _
  rw [hcomplete, hrelease, State.startStep_of_failed _ startReady_fails]

/-- Refutes O12: the second clause has no premise that no start is under way. In a warm start that waits for channel 0 to leave RESET
(R479), UNIT_RESET_COMPLETE of that channel lets the start go on, and STAGE changes. -/
theorem not_resetAndEnable : ¬ Obligations.ResetAndEnable := by
  unfold Obligations.ResetAndEnable
  rintro ⟨-, hclause, -⟩
  obtain ⟨t, hexec, -, -, hregs, -⟩ := hclause startWaits (.chn 0) (by decide +kernel) rfl (by decide +kernel) (by decide +kernel)
  have hkept : t.stage = startWaits.stage :=
    congrArg F.SVC_BOOT_STAT_STAGE.get (hregs .svc Reg.SVC_BOOT_STAT (by decide) (by decide))
  have hleft : t = { startReady.startConfig with pending := startWaits.pending } :=
    Host.Outcome.next.inj (hexec.symm.trans exec_startWaits)
  have hzero : t.stage = 0 := by rw [hleft, State.stage_queue, startReady_fails]
  exact absurd (hzero.symm.trans hkept) (by decide +kernel)

end Sys2Proof.Machine

/-! SUPPORT. The lines of DRAM: what a read that is good, corrected or uncorrectable leaves, what a write and a write-back leave, and
what an access makes of its answer. -/

namespace Sys2Proof.Machine

variable (s : State)

theorem exec_dramRead (src : DramSrc) (l : Nat) (first again : LineRead) : exec (.dramRead src l first again) s
    = done s (fun s => (s.dramRead src l first again).lineEnd src .load l) := rfl
theorem exec_dramLineWrite (src : DramSrc) (l : Nat) (data : List Byte) : exec (.dramLineWrite src l data) s
    = done s (fun s => (s.dramLineWrite src l data).lineEnd src .store l) := rfl
theorem exec_dramPartialWrite (src : DramSrc) (l off : Nat) (data : List Byte) (first again : LineRead) :
    exec (.dramPartialWrite src l off data first again) s
      = done s (fun s => (s.dramPartialWrite src l off data first again).lineEnd src .store l) := rfl
theorem exec_writeBack (first again : LineRead) : exec (.writeBack first again) s
    = done s (fun s => s.when (s.live .buf) (s.writeBack first again)) := rfl

/-! ### Registers: pairs of words, counters, and the answer of an access -/

/-- A 64-bit value reads back, cut to its width. -/
theorem State.reg64_setReg64 (u : UnitId) (lo v : Nat) : (s.setReg64 u lo v).reg64 u lo = v % 2 ^ 64 := by
  have hlo : (s.setReg64 u lo v).reg u lo = BitVec.ofNat 32 v := by
    rw [State.setReg64, State.reg_setReg_ne _ (fun h => absurd (key_inj_off.mp h) (by omega)), State.reg_setReg_same]
  have hhi : (s.setReg64 u lo v).reg u (lo + 4) = BitVec.ofNat 32 (v / 2 ^ 32) := State.reg_setReg_same _ _ _ _
  rw [State.reg64, hlo, hhi, BitVec.toNat_ofNat, BitVec.toNat_ofNat]
  omega

variable {s} in
/-- A pair of words that a relation on registers leaves. -/
theorem RegsBut.reg64 {t : State} {l : List (UnitId × Nat)} (h : RegsBut s t l) {u : UnitId} {lo : Nat} (hlo : lo + 4 < 0x1000)
    (hl : (u, lo) ∉ l) (hh : (u, lo + 4) ∉ l) : t.reg64 u lo = s.reg64 u lo := by
  rw [State.reg64, State.reg64, h u lo (by omega) hl, h u (lo + 4) hlo hh]

theorem RegsBut.setF (u : UnitId) (f : Field) (v : Nat) (ho : f.off < 0x1000) : RegsBut s (s.setF u f v) [(u, f.off)] :=
  .setReg s u ho _

theorem RegsBut.setReg64 (u : UnitId) {lo : Nat} (ho : lo + 4 < 0x1000) (v : Nat) :
    RegsBut s (s.setReg64 u lo v) [(u, lo), (u, lo + 4)] :=
  .trans (.mono (.setReg s u (by omega) _) (by simp)) (.mono (.setReg _ u ho _) (by simp))

theorem RegsBut.count64 (u : UnitId) {lo : Nat} (ho : lo + 4 < 0x1000) : RegsBut s (s.count64 u lo) [(u, lo), (u, lo + 4)] :=
  .setReg64 s u ho _

/-- A lasting fault counted (R21). -/
theorem RegsBut.lasting (u : UnitId) : RegsBut s (s.lasting u) [(u, Reg.UNIT_ERR), (u, Reg.UNIT_LAST_CNT)] :=
  .trans (.mono (.err s u _) (by simp)) (.mono (.setReg _ u (by decide) _) (by simp))

/-- The cause that a lasting fault of a leaf sets, and those that stood before (R21). -/
theorem State.lasting_err (u : UnitId) (hu : u.isGroup = false) {i : Nat}
    (h : i = eLasting ∨ (s.reg u Reg.UNIT_ERR).getLsbD i = true) : ((s.lasting u).reg u Reg.UNIT_ERR).getLsbD i = true := by
  have hcount : (s.lasting u).reg u Reg.UNIT_ERR = (s.err u eLasting).reg u Reg.UNIT_ERR :=
    RegsBut.setReg (s.err u eLasting) u (by decide) _ u Reg.UNIT_ERR (by decide) (by simp)
  rw [hcount, State.reg_err, BitVec.getLsbD_or, hu, Bool.or_eq_true_iff]
  exact h.symm.imp id fun hi => by rw [hi]; decide

@[simp] theorem State.answer_reg64 (r : Resp) (u : UnitId) (lo : Nat) : (s.answer r).reg64 u lo = s.reg64 u lo := rfl
@[simp] theorem State.answer_byte (r : Resp) (a : Nat) : (s.answer r).byte a = s.byte a := rfl

/-- What a requester makes of its answer leaves the answer (R29). -/
theorem State.toRequester_resp (e : Engine) (k : CoreKind) (a : Nat) : (s.toRequester e k a).resp = s.resp := by
  unfold State.toRequester
  split
  · unfold State.orFault
    split
    · rename_i hresp
      exact hresp.symm
    · rfl
  · rfl

/-- An access fault writes registers of the core's pool only (R384, R386). -/
theorem State.coreFault_reg (c : Fin 16) (kind : Nat) (b : BusCause) (a : Nat) {v : UnitId} {o : Nat} (hv : v ≠ .pool (poolOf c))
    (ho : o < 0x1000) : (s.coreFault c kind b a).reg v o = s.reg v o := by
  have hne : ∀ (t : State) (j : Nat) (w : Word), j < 0x1000 → (t.setReg (.pool (poolOf c)) j w).reg v o = t.reg v o :=
    fun t j w hj => State.reg_setReg_ne t (fun h => hv ((key_inj ho hj).mp h).1) w
  have hoff : coreOff c < 0x200 := by
    simp only [coreOff]
    omega
  unfold State.coreFault
  extract_lets u s1 s2
  rw [State.answer_reg]
  simp only [s2]
  split
  · exact (hne _ Reg.UNIT_ERR _ (by decide)).trans (hne s _ _ (by simp only [Field.at]; omega))
  · rw [hne _ _ _ (by simp only [Reg.POOL_Cc_FLT_ADDR_HI]; omega), hne _ _ _ (by simp only [Reg.POOL_Cc_FLT_ADDR_LO]; omega)]
    have hfield : ∀ (t : State) (f : Field) (v' : Nat), f.off = 0x108 → (t.setCf c f v').reg v o = t.reg v o :=
      fun t f v' hf => hne t _ _ (by simp only [Field.at, hf]; omega)
    rw [hfield _ _ _ rfl, hfield _ _ _ rfl, hfield _ _ _ rfl]

/-- What a requester makes of its answer leaves the buffer's registers. -/
theorem State.toRequester_reg_buf (e : Engine) (k : CoreKind) (a : Nat) {o : Nat} (ho : o < 0x1000) :
    (s.toRequester e k a).reg .buf o = s.reg .buf o := by
  unfold State.toRequester
  split
  · unfold State.orFault
    split
    · exact s.coreFault_reg _ _ _ _ nofun ho
    · rfl
  · rfl

/-- An access to a line that does not end in a bus error ends as it is. -/
theorem State.lineEnd_ok {src : DramSrc} {k : CoreKind} {l : Nat} (h : ∀ c, s.resp ≠ .busError c) : s.lineEnd src k l = s := by
  cases src with
  | engine e => exact State.toRequester_ok h
  | _ => rfl

/-! ### What the buffer's work changes -/

/-- `t` differs from `s` in registers and what the buffer holds only. -/
def BufOnly (s t : State) : Prop := t = { s with regs := t.regs, buf := t.buf }

section bufOnly

variable {s} {t u : State}

theorem BufOnly.refl (s : State) : BufOnly s s := rfl

theorem BufOnly.trans (h : BufOnly s t) (k : BufOnly t u) : BufOnly s u := by
  unfold BufOnly at *
  rw [k, h]

theorem BufOnly.mem (h : BufOnly s t) : t.mem = s.mem := by rw [h]
theorem BufOnly.pending (h : BufOnly s t) : t.pending = s.pending := by rw [h]

theorem BufOnly.sameMemory (h : BufOnly s t) : SameMemory s t := fun a => by simp only [State.byte, h.mem]

theorem BufOnly.bytes (h : BufOnly s t) (a n : Nat) : t.bytes a n = s.bytes a n := by
  simp only [State.bytes, State.byte, h.mem]

end bufOnly

theorem BufOnly.setHist (h : Nat) (e : Hist) : BufOnly s (s.setHist h e) := rfl
theorem BufOnly.dueWriteBack (l : Nat) : BufOnly s (s.dueWriteBack l) := rfl
theorem BufOnly.dropWriteBack (l : Nat) : BufOnly s (s.dropWriteBack l) := rfl
theorem BufOnly.poisonLine (l : Nat) : BufOnly s (s.poisonLine l) := rfl
theorem BufOnly.setReg (u : UnitId) (o : Nat) (w : Word) : BufOnly s (s.setReg u o w) := rfl
theorem BufOnly.err (u : UnitId) (i : Nat) : BufOnly s (s.err u i) := .setReg s u _ _
theorem BufOnly.setReg64 (u : UnitId) (lo v : Nat) : BufOnly s (s.setReg64 u lo v) := .trans (.setReg s u _ _) (.setReg _ u _ _)
theorem BufOnly.count64 (u : UnitId) (lo : Nat) : BufOnly s (s.count64 u lo) := .setReg64 s u _ _
theorem BufOnly.lasting (u : UnitId) : BufOnly s (s.lasting u) := .trans (.err s u _) (.setReg _ u _ _)

/-- An event posted (R287). -/
theorem State.bufEvent_only (kind addr src : Nat) (h : Option Nat) : BufOnly s (s.bufEvent kind addr src h) := by
  unfold State.bufEvent
  split <;> rfl

/-- The registers that an event may write: those of its loss (R288). -/
theorem State.bufEvent_regs (kind addr src : Nat) (h : Option Nat) :
    RegsBut s (s.bufEvent kind addr src h) [(.buf, Reg.BUF_EV_STAT), (.buf, Reg.UNIT_ERR)] := by
  unfold State.bufEvent
  split
  · exact .trans (.mono (.setF s .buf _ _ (by decide)) (by simp)) (.mono (.err _ .buf _) (by simp))
  · exact .of_regs rfl

/-- What the buffer holds stays, but for the events. -/
theorem State.bufEvent_buf (kind addr src : Nat) (h : Option Nat) :
    (s.bufEvent kind addr src h).buf = { s.buf with events := (s.bufEvent kind addr src h).buf.events } := by
  unfold State.bufEvent
  split <;> rfl

/-- An event clears no cause of the buffer's UNIT_ERR. -/
theorem State.bufEvent_err (kind addr src : Nat) (h : Option Nat) {i : Nat} (hi : (s.reg .buf Reg.UNIT_ERR).getLsbD i = true) :
    ((s.bufEvent kind addr src h).reg .buf Reg.UNIT_ERR).getLsbD i = true := by
  unfold State.bufEvent
  split
  · have hset : (s.setF .buf F.BUF_EV_STAT_OVF 1).reg .buf Reg.UNIT_ERR = s.reg .buf Reg.UNIT_ERR :=
      RegsBut.setF s .buf F.BUF_EV_STAT_OVF 1 (by decide) .buf Reg.UNIT_ERR (by decide) (by simp)
    rw [State.reg_err, hset, BitVec.getLsbD_or, hi, Bool.true_or]
  · exact hi

/-! ### Corrected and uncorrectable reads (R273, R276) -/

/-- The registers that a history update may write (R276). -/
abbrev histRegs : List (UnitId × Nat) :=
  [(.buf, Reg.BUF_EV_STAT), (.buf, Reg.UNIT_ERR), (.buf, Reg.BUF_CNT_RECUR_LO), (.buf, Reg.BUF_CNT_RECUR_LO + 4),
    (.buf, Reg.BUF_CNT_HMISS_LO), (.buf, Reg.BUF_CNT_HMISS_LO + 4)]

/-- A corrected read that recurs after its write-back is reported and counted. -/
theorem State.recurred_spec (l src : Nat) (hdl : Option Nat) :
    BufOnly s (((s.bufEvent evRecur l src hdl).err .buf beRecur).count64 .buf Reg.BUF_CNT_RECUR_LO)
      ∧ RegsBut s (((s.bufEvent evRecur l src hdl).err .buf beRecur).count64 .buf Reg.BUF_CNT_RECUR_LO) histRegs := by
  constructor
  · exact ((s.bufEvent_only _ _ _ _).trans (.err _ _ _)).trans (.count64 _ _ _)
  · exact (((s.bufEvent_regs _ _ _ _).mono (by simp)).trans (.mono (.err _ _ _) (by simp))).trans
      (.mono (.count64 _ _ (by decide)) (by simp))

/-- A history update (R276). -/
theorem State.histUpdate_spec (l pin src : Nat) (hdl : Option Nat) :
    BufOnly s (s.histUpdate l pin src hdl) ∧ RegsBut s (s.histUpdate l pin src hdl) histRegs := by
  have hset : ∀ e : Hist, BufOnly s (s.setHist (histIndex l) e) ∧ RegsBut s (s.setHist (histIndex l) e) histRegs :=
    fun e => ⟨rfl, .of_regs rfl⟩
  unfold State.histUpdate
  extract_lets i n fresh
  split
  · exact hset fresh
  · rename_i e _
    split
    · split
      · obtain ⟨honly, hregs⟩ := (s.setHist i { e with pin := pin }).recurred_spec l src hdl
        exact ⟨(hset _).1.trans honly, (hset _).2.trans hregs⟩
      · split
        · extract_lets c s1
          split
          · exact ⟨rfl, .of_regs rfl⟩
          · exact hset _
        · exact hset _
    · split
      · exact ⟨.count64 s _ _, .mono (.count64 s _ (by decide)) (by simp)⟩
      · exact hset fresh

/-- A corrected read counts its codewords and changes nothing else but the history (R276). -/
theorem State.corrected_spec (l src : Nat) (hdl : Option Nat) {k : LineKind} (hk : k.kind = .corrected) :
    BufOnly s (s.corrected l src hdl k)
      ∧ (s.corrected l src hdl k).reg64 .buf Reg.BUF_CNT_CE_LO = (s.reg64 .buf Reg.BUF_CNT_CE_LO + k.ce) % 2 ^ 64 := by
  obtain ⟨honly, hregs⟩ := (s.setReg64 .buf Reg.BUF_CNT_CE_LO (s.reg64 .buf Reg.BUF_CNT_CE_LO + k.ce)).histUpdate_spec l k.pin src hdl
  rw [State.corrected, if_pos hk]
  exact ⟨.trans (.setReg64 s _ _ _) honly, (hregs.reg64 (by decide) (by decide) (by decide)).trans (s.reg64_setReg64 _ _ _)⟩

theorem mem_addOnce (l : List Nat) (x : Nat) : x ∈ addOnce l x := by
  unfold addOnce
  split
  · rename_i hin
    exact List.contains_iff_mem.mp hin
  · simp

/-- A line that stays uncorrectable is poisoned, counted and reported, and the buffer sets its causes (R273). -/
theorem State.metUncorr_spec (l src : Nat) :
    BufOnly s (s.metUncorr l src none) ∧ l ∈ (s.metUncorr l src none).buf.poisoned
      ∧ (s.metUncorr l src none).reg64 .buf Reg.BUF_CNT_UE_LO = (s.reg64 .buf Reg.BUF_CNT_UE_LO + 1) % 2 ^ 64
      ∧ ((s.metUncorr l src none).reg .buf Reg.UNIT_ERR).getLsbD eUncorr = true
      ∧ ((s.metUncorr l src none).reg .buf Reg.UNIT_ERR).getLsbD eLasting = true := by
  have hpoison : BufOnly s (((s.poisonLine l).err .buf eUncorr).lasting .buf) :=
    .trans (.poisonLine s l) (.trans (.err _ _ _) (.lasting _ _))
  have hregs : RegsBut s (((s.poisonLine l).err .buf eUncorr).lasting .buf) [(.buf, Reg.UNIT_ERR), (.buf, Reg.UNIT_LAST_CNT)] :=
    .trans (.mono (.err (s.poisonLine l) .buf _) (by simp)) (.lasting _ .buf)
  have hevent := State.bufEvent_regs ((((s.poisonLine l).err .buf eUncorr).lasting .buf).count64 .buf Reg.BUF_CNT_UE_LO) evUncorr l src
    none
  have hcount := RegsBut.count64 (((s.poisonLine l).err .buf eUncorr).lasting .buf) .buf (lo := Reg.BUF_CNT_UE_LO) (by decide)
    .buf Reg.UNIT_ERR (by decide) (by decide)
  have herr : ((s.poisonLine l).err .buf eUncorr).reg .buf Reg.UNIT_ERR = s.reg .buf Reg.UNIT_ERR ||| BitVec.ofNat 32 (2 ^ eUncorr) :=
    State.reg_err _ _ _
  refine ⟨hpoison.trans (.trans (.count64 _ _ _) (State.bufEvent_only _ _ _ _ _)), ?_, ?_, ?_, ?_⟩
  · rw [State.metUncorr, State.bufEvent_buf]
    exact mem_addOnce _ _
  · rw [State.metUncorr, State.poisonVia, hevent.reg64 (by decide) (by decide) (by decide), State.count64, State.reg64_setReg64,
      hregs.reg64 (by decide) (by decide) (by decide)]
  · refine State.bufEvent_err _ _ _ _ _ ?_
    rw [State.poisonVia, hcount]
    refine State.lasting_err _ .buf rfl (.inr ?_)
    rw [herr, BitVec.getLsbD_or]
    exact Bool.or_eq_true_iff.mpr (.inr (by decide))
  · refine State.bufEvent_err _ _ _ _ _ ?_
    rw [State.poisonVia, hcount]
    exact State.lasting_err _ .buf rfl (.inl rfl)

/-! ### Reads of a line (R263) -/

variable {s}

/-- A line without a symbol in error is read as it is. -/
theorem State.readLine_clean {l : Nat} {first : LineRead} (src : Nat) (h : Option Nat) (again : LineRead)
    (hk : (s.decodeLine l first).kind = .clean) (hm : (s.decodeLine l first).miss = false) :
    s.readLine l src h first again = ⟨s, none, (s.decodeLine l first).ce, false⟩ := by
  simp [State.readLine, State.corrected, hk, hm]

/-- A line that the code corrects is read with its correction noted. -/
theorem State.readLine_corrected {l : Nat} {first : LineRead} (src : Nat) (h : Option Nat) (again : LineRead)
    (hk : (s.decodeLine l first).kind = .corrected) (hm : (s.decodeLine l first).miss = false) :
    s.readLine l src h first again
      = ⟨s.corrected l src h (s.decodeLine l first), none, (s.decodeLine l first).ce, false⟩ := by
  simp [State.readLine, hk, hm]

/-- A line that stays uncorrectable is read to the cause "uncorrectable". -/
theorem State.readLine_uncorr {l : Nat} {first again : LineRead} (src : Nat) (h : Option Nat)
    (hk : (s.decodeLine l first).kind = .uncorr) (hk' : (s.decodeLine l again).kind = .uncorr) :
    s.readLine l src h first again = ⟨s.metUncorr l src h, some .uncorrectable, 0, false⟩ := by
  simp [State.readLine, hk, hk']

theorem State.dramRead_clean {src : DramSrc} {l : Nat} {first : LineRead} (again : LineRead) (hg : s.lineGate src l false = none)
    (hst : s.lineStalls src = false) (hk : (s.decodeLine l first).kind = .clean) (hm : (s.decodeLine l first).miss = false) :
    s.dramRead src l first again = s.answer (.data (s.bytes (lineAddr l) 64)) := by
  simp [State.dramRead, hg, hst, State.readLine_clean _ _ again hk hm, State.lineData]

theorem State.dramRead_corrected {src : DramSrc} {l : Nat} {first : LineRead} (again : LineRead) (hg : s.lineGate src l false = none)
    (hst : s.lineStalls src = false) (hk : (s.decodeLine l first).kind = .corrected) (hm : (s.decodeLine l first).miss = false) :
    s.dramRead src l first again = (s.corrected l (srcNum src) (srcHandle src) (s.decodeLine l first)).answer
      (.data (s.bytes (lineAddr l) 64)) := by
  obtain ⟨honly, -⟩ := s.corrected_spec l (srcNum src) (srcHandle src) hk
  simp [State.dramRead, hg, hst, State.readLine_corrected _ _ again hk hm, State.lineData, honly.bytes]

theorem State.dramRead_uncorr {e : Engine} {l : Nat} {first again : LineRead} (hg : s.lineGate (.engine e) l false = none)
    (hk : (s.decodeLine l first).kind = .uncorr) (hk' : (s.decodeLine l again).kind = .uncorr) :
    s.dramRead (.engine e) l first again = (s.metUncorr l 0 none).answer (.busError .uncorrectable) := by
  simp [State.dramRead, hg, State.lineStalls, State.readLine_uncorr _ _ hk hk', srcNum, srcHandle]

/-- A data-plane port reaches no line outside the firmware region (R31, R265). -/
theorem State.lineGate_outside {p : DmaPort} {l : Nat} (hl : 64 * l < s.dramUsed) (hf : s.inFirmware (lineAddr l) 64 = false) :
    s.lineGate (.dataPlane p) l false = some .accessDenied := by
  simp [State.lineGate, State.lineMap, dramRequester, State.allowed, hf, Nat.not_le.mpr hl]

/-! ### Writes of a line (R264, R277, R285) -/

/-- A mark in the correction history changes the history only. -/
theorem State.markWb_hist (l : Nat) : s.markWb l = { s with buf := { s.buf with hist := (s.markWb l).buf.hist } } := by
  unfold State.markWb
  split
  · split <;> rfl
  · rfl

/-- A line written whole is not poisoned, its write-back is done, and of the registers only an armed injection's may change. -/
theorem State.lineWritten_spec (l : Nat) : l ∉ (s.lineWritten l).buf.poisoned ∧ l ∉ (s.lineWritten l).buf.wbq
    ∧ RegsBut s (s.lineWritten l) [(.buf, Reg.BUF_INJ_CTL)] := by
  unfold State.lineWritten
  extract_lets b s1 s2 pins beats fl s3
  have hs2 : l ∉ s2.buf.poisoned ∧ l ∉ s2.buf.wbq ∧ s2.regs = s.regs := by
    simp only [s2]
    split
    · rw [State.markWb_hist]
      exact ⟨by simp [s1, State.dropWriteBack], by simp [s1, State.dropWriteBack], rfl⟩
    · rename_i hwbq
      exact ⟨by simp [s1], by simpa [s1] using hwbq, rfl⟩
  obtain ⟨hpoison, hwbq, hregs⟩ := hs2
  split
  · exact ⟨hpoison, hwbq, .trans (.of_regs hregs) (.setF s2 .buf F.BUF_INJ_CTL_ARM 0 (by decide))⟩
  · exact ⟨hpoison, hwbq, .of_regs hregs⟩

/-- A line written whole: its bytes, its poison, and what else may change. -/
theorem State.writeLine_spec (l : Nat) {data : List Byte} (hlen : 64 ≤ data.length) :
    (∀ i, i < 64 → (s.writeLine l data).byte (lineAddr l + i) = data.getD i 0)
      ∧ (∀ a, (a < lineAddr l ∨ lineAddr l + 64 ≤ a) → (s.writeLine l data).byte a = s.byte a)
      ∧ l ∉ (s.writeLine l data).buf.poisoned ∧ l ∉ (s.writeLine l data).buf.wbq
      ∧ RegsBut s (s.writeLine l data) [(.buf, Reg.BUF_INJ_CTL)]
      ∧ s.writeLine l data = { s with mem := (s.writeLine l data).mem, lines := (s.writeLine l data).lines,
                                      regs := (s.writeLine l data).regs, buf := (s.writeLine l data).buf } := by
  obtain ⟨hpoison, hwbq, hregs⟩ := (s.setBytes (lineAddr l) (data.take 64)).lineWritten_spec l
  have hbyte : ∀ a, (s.writeLine l data).byte a = (s.setBytes (lineAddr l) (data.take 64)).byte a := fun a => by
    rw [State.writeLine, State.lineWritten_only]
    rfl
  have htake : (data.take 64).length = 64 := by simp [hlen]
  refine ⟨fun i hi => ?_, fun a ha => ?_, hpoison, hwbq, .trans (.of_regs ?_) hregs, ?_⟩
  · rw [hbyte, State.byte_setBytes, htake, if_pos (by omega), Nat.add_sub_cancel_left, List.getD_eq_getElem _ _ (by omega),
      List.getElem_take, List.getD_eq_getElem]
  · rw [hbyte, State.byte_setBytes, htake, if_neg (by omega)]
  · rw [State.setBytes_only]
  · rw [State.writeLine, State.lineWritten_only, State.setBytes_only]

/-- The bytes of a line with some of them replaced. -/
def patchLine (old : List Byte) (off : Nat) (data : List Byte) : List Byte :=
  (old.take off ++ data ++ old.drop (off + data.length)).take 64

theorem length_patchLine {old data : List Byte} {off : Nat} (hold : old.length = 64) (h : off + data.length ≤ 64) :
    (patchLine old off data).length = 64 := by
  simp only [patchLine, List.length_take, List.length_append, List.length_drop, hold]
  omega

/-- A byte of a line with some replaced. -/
theorem getD_patchLine {old data : List Byte} {off i : Nat} (hold : old.length = 64) (h : off + data.length ≤ 64) (hi : i < 64) :
    (patchLine old off data).getD i 0 = if off ≤ i ∧ i < off + data.length then data.getD (i - off) 0 else old.getD i 0 := by
  have hoff : (old.take off).length = off := by simp only [List.length_take, hold]; omega
  rw [patchLine, List.getD_eq_getElem?_getD, List.getElem?_take_of_lt hi]
  by_cases hlow : i < off
  · rw [List.append_assoc, List.getElem?_append_left (by omega), List.getElem?_take_of_lt hlow, if_neg (by omega),
      List.getD_eq_getElem?_getD]
  · by_cases hin : i < off + data.length
    · rw [List.getElem?_append_left (by rw [List.length_append]; omega), List.getElem?_append_right (by omega), hoff,
        if_pos ⟨by omega, hin⟩, List.getD_eq_getElem?_getD]
    · have hlen : (old.take off ++ data).length = off + data.length := by rw [List.length_append, hoff]
      rw [List.getElem?_append_right (by omega), hlen, List.getElem?_drop, if_neg (by omega), List.getD_eq_getElem?_getD]
      congr 2
      omega

/-- Bytes written into a good line: those bytes, every other as before, and what else may change. -/
theorem State.writePart_clean {l off : Nat} {data : List Byte} {first : LineRead} (src : Nat) (h : Option Nat) (again : LineRead)
    (hk : (s.decodeLine l first).kind = .clean) (hm : (s.decodeLine l first).miss = false) :
    s.writePart l off data src h first again = (s.writeLine l (patchLine (s.bytes (lineAddr l) 64) off data), none) := by
  simp [State.writePart, State.readLine_clean src h again hk hm, State.lineData, patchLine]

theorem State.writeLine_patch (l : Nat) {off : Nat} {data : List Byte} (h : off + data.length ≤ 64) :
    (∀ i, i < data.length → (s.writeLine l (patchLine (s.bytes (lineAddr l) 64) off data)).byte (lineAddr l + off + i) = data.getD i 0)
      ∧ ∀ a, (a < lineAddr l + off ∨ lineAddr l + off + data.length ≤ a) →
          (s.writeLine l (patchLine (s.bytes (lineAddr l) 64) off data)).byte a = s.byte a := by
  have hold : (s.bytes (lineAddr l) 64).length = 64 := by simp [State.bytes]
  obtain ⟨hin, hout, -⟩ := s.writeLine_spec l (length_patchLine hold h).ge
  refine ⟨fun i hi => ?_, fun a ha => ?_⟩
  · rw [Nat.add_assoc, hin _ (by omega), getD_patchLine hold h (by omega), if_pos (by omega), Nat.add_sub_cancel_left]
  · by_cases hline : lineAddr l ≤ a ∧ a < lineAddr l + 64
    · obtain ⟨k, rfl⟩ := Nat.exists_eq_add_of_le hline.1
      rw [hin k (by omega), getD_patchLine hold h (by omega), if_neg (by omega), List.getD_eq_getElem _ _ (by omega)]
      simp [State.bytes]
    · exact hout a (by omega)

/-- A write-back of a line that the code corrects, as its steps (R277). -/
theorem State.writeBack_corrected {l : Nat} {rest : List Nat} {first : LineRead} (again : LineRead) (hq : s.buf.wbq = l :: rest)
    (hk : (s.decodeLine l first).kind = .corrected) (hm : (s.decodeLine l first).miss = false) :
    s.writeBack first again = (((((s.dropWriteBack l).setReg64 .buf Reg.BUF_CNT_CE_LO
        (s.reg64 .buf Reg.BUF_CNT_CE_LO + (s.decodeLine l first).ce)).writeLine l (s.bytes (lineAddr l) 64)).markWb l).bufEvent
          evWritten l 4 none).count64 .buf Reg.BUF_CNT_WB_LO := by
  have hcount : (s.dropWriteBack l).reg64 .buf Reg.BUF_CNT_CE_LO = s.reg64 .buf Reg.BUF_CNT_CE_LO := rfl
  have hbytes : ∀ v, ((s.dropWriteBack l).setReg64 .buf Reg.BUF_CNT_CE_LO v).bytes (lineAddr l) 64 = s.bytes (lineAddr l) 64 :=
    fun v => (BufOnly.setReg64 (s.dropWriteBack l) _ _ v).bytes _ _
  simp [State.writeBack, hq, hk, hm, State.lineData, hcount, hbytes]

theorem State.markWb_reg64 (l : Nat) (u : UnitId) (lo : Nat) : (s.markWb l).reg64 u lo = s.reg64 u lo := by
  rw [State.markWb_hist]
  rfl

theorem State.markWb_byte (l a : Nat) : (s.markWb l).byte a = s.byte a := by
  rw [State.markWb_hist]
  rfl

theorem State.count64_buf (u : UnitId) (lo : Nat) : (s.count64 u lo).buf = s.buf :=
  (State.setReg_buf _ _ _ _).trans (State.setReg_buf _ _ _ _)

/-- What an event and a mark leave of the write-backs that are due. -/
theorem State.bufEvent_markWb_wbq (l kind addr src : Nat) (h : Option Nat) :
    ((s.markWb l).bufEvent kind addr src h).buf.wbq = s.buf.wbq := by
  rw [State.bufEvent_buf, State.markWb_hist]

/-- A line written back with its own bytes: it is no longer due, one write-back is counted, and every byte stays. -/
theorem State.writeBack_spec {l : Nat} {rest : List Nat} {first : LineRead} (again : LineRead) (hq : s.buf.wbq = l :: rest)
    (hk : (s.decodeLine l first).kind = .corrected) (hm : (s.decodeLine l first).miss = false) :
    l ∉ (s.writeBack first again).buf.wbq
      ∧ (s.writeBack first again).reg64 .buf Reg.BUF_CNT_WB_LO = (s.reg64 .buf Reg.BUF_CNT_WB_LO + 1) % 2 ^ 64
      ∧ SameMemory s (s.writeBack first again)
      ∧ s.writeBack first again = { s with mem := (s.writeBack first again).mem, lines := (s.writeBack first again).lines,
                                           regs := (s.writeBack first again).regs, buf := (s.writeBack first again).buf } := by
  rw [State.writeBack_corrected again hq hk hm]
  generalize hcounted : (s.dropWriteBack l).setReg64 .buf Reg.BUF_CNT_CE_LO _ = c
  have honly : BufOnly s c := hcounted ▸ (BufOnly.dropWriteBack s l).trans (.setReg64 _ _ _ _)
  have hpair : c.reg64 .buf Reg.BUF_CNT_WB_LO = s.reg64 .buf Reg.BUF_CNT_WB_LO := by
    rw [← hcounted]
    exact (RegsBut.setReg64 (s.dropWriteBack l) .buf (lo := Reg.BUF_CNT_CE_LO) (by decide) _).reg64 (by decide) (by decide) (by decide)
  have hlen : (s.bytes (lineAddr l) 64).length = 64 := by simp [State.bytes]
  obtain ⟨hin, hout, -, hwbq, hregs, hwrite⟩ := c.writeLine_spec l hlen.ge
  have hevent := ((c.writeLine l (s.bytes (lineAddr l) 64)).markWb l).bufEvent_only evWritten l 4 none
  have heventRegs := ((c.writeLine l (s.bytes (lineAddr l) 64)).markWb l).bufEvent_regs evWritten l 4 none
  have hlast := BufOnly.count64 (((c.writeLine l (s.bytes (lineAddr l) 64)).markWb l).bufEvent evWritten l 4 none) .buf
    Reg.BUF_CNT_WB_LO
  refine ⟨?_, ?_, fun a => ?_, ?_⟩
  · rw [State.count64_buf, State.bufEvent_markWb_wbq]
    exact hwbq
  · rw [State.count64, State.reg64_setReg64, heventRegs.reg64 (by decide) (by decide) (by decide), State.markWb_reg64,
      hregs.reg64 (by decide) (by decide) (by decide), hpair]
  · rw [(hevent.trans hlast).sameMemory a, State.markWb_byte]
    by_cases hline : lineAddr l ≤ a ∧ a < lineAddr l + 64
    · obtain ⟨k, rfl⟩ := Nat.exists_eq_add_of_le hline.1
      rw [hin k (by omega), List.getD_eq_getElem _ _ (by omega)]
      simp [State.bytes]
    · rw [hout a (by omega)]
      exact honly.sameMemory a
  · rw [hevent.trans hlast, State.markWb_hist, hwrite, honly]

/-! ### The statement -/

/-- A read of a line completes with its result, where that is no bus error. -/
theorem Completes.dramRead {src : DramSrc} {l : Nat} {first again : LineRead} {t : State} {P : State → Prop} (hr : s.running)
    (h : (s.answer .none).dramRead src l first again = t) (hok : ∀ c, t.resp ≠ .busError c) (hP : P t)
    (hq : t.pending = s.pending) : Completes (.dramRead src l first again) s P := by
  refine Completes.of_result hr (exec_dramRead s src l first again) ?_ hP hq
  rw [h, State.lineEnd_ok _ hok]

/-- What a write of a line to a device with its answer cleared leaves besides the line. -/
theorem State.writeLine_answer (l : Nat) {data : List Byte} (hlen : 64 ≤ data.length) {t : State}
    (ht : (s.answer .none).writeLine l data = t) :
    t = { s with mem := t.mem, lines := t.lines, regs := t.regs, buf := t.buf, resp := .none } := by
  obtain ⟨-, -, -, -, -, honly⟩ := (s.answer .none).writeLine_spec l hlen
  rw [ht] at honly
  exact honly

/-- A write of a line, of the bytes given or of those patched into it, completes with its result. -/
theorem Completes.of_writeLine {i : Instr} {src : DramSrc} {l : Nat} {data : List Byte} {f : State → State} {P : State → Prop}
    (hr : s.running) (he : exec i s = done s fun s => (f s).lineEnd src .store l)
    (hf : f (s.answer .none) = (s.answer .none).writeLine l data) (hlen : 64 ≤ data.length)
    (hP : P ((s.answer .none).writeLine l data)) : Completes i s P := by
  have honly := State.writeLine_answer l hlen (s := s) rfl
  refine Completes.of_result hr he ((congrArg (fun t : State => t.lineEnd src .store l) hf).trans (State.lineEnd_ok _ fun c => ?_)) hP ?_
  · rw [honly]
    exact nofun
  · rw [honly]

/-- A command that the buffer carries out on the answer cleared, with its own answer, changes what the buffer changes and the answer. -/
theorem BufOnly.answer {t : State} {r : Resp} (h : BufOnly (s.answer .none) t) :
    t.answer r = { s with regs := t.regs, buf := t.buf, resp := r } := by
  rw [h]
  rfl

/-- Settles O31: each command's result from the lemma of its function. -/
theorem dramLines : Obligations.DramLines := by
  have hdata : ∀ (t : State) (l : List Byte) (c : BusCause), (t.answer (.data l)).resp ≠ .busError c := fun _ _ _ h =>
    nomatch (h : Resp.data _ = Resp.busError _)
  refine ⟨?_, ?_, ?_, ?_, ?_, ?_, ?_⟩
  · intro s src l first again hr hg hst hk hm
    exact Completes.dramRead hr (State.dramRead_clean (s := s.answer .none) again hg hst hk hm) (hdata _ _) ⟨rfl, rfl⟩ rfl
  · intro s src l first again hr hg hst hk hm
    have hread := State.dramRead_corrected (s := s.answer .none) again hg hst hk hm
    obtain ⟨honly, hcount⟩ := (s.answer .none).corrected_spec l (srcNum src) (srcHandle src)
      (k := (s.answer .none).decodeLine l first) hk
    generalize (s.answer .none).corrected l (srcNum src) (srcHandle src) ((s.answer .none).decodeLine l first) = m at hread honly hcount
    exact Completes.dramRead hr hread (hdata _ _) ⟨rfl, hcount, honly.sameMemory, honly.answer⟩ honly.pending
  · intro s e l first again hr hg hk hk'
    have hread := State.dramRead_uncorr (s := s.answer .none) hg hk hk'
    obtain ⟨honly, hpoison, hcount, huncorr, hlasting⟩ := (s.answer .none).metUncorr_spec l 0
    generalize (s.answer .none).metUncorr l 0 none = m at hread honly hpoison hcount huncorr hlasting
    have hend := (m.answer (.busError .uncorrectable)).toRequester_only e .load (lineAddr l)
    have hreg : ∀ o, o < 0x1000 → ((m.answer (.busError .uncorrectable)).toRequester e .load (lineAddr l)).reg .buf o = m.reg .buf o :=
      fun o ho => State.toRequester_reg_buf _ e .load (lineAddr l) ho
    have hresp := (m.answer (.busError .uncorrectable)).toRequester_resp e .load (lineAddr l)
    generalize hfinal : (m.answer (.busError .uncorrectable)).toRequester e .load (lineAddr l) = t at hend hreg hresp
    have hmem : t.mem = s.mem := (congrArg State.mem hend).trans honly.mem
    refine Completes.of_result (t := t) hr (exec_dramRead s (.engine e) l first again) ?_ ⟨hresp, ?_, ?_, ?_, ?_, ?_, ?_⟩ ?_
    · rw [hread]
      exact hfinal
    · rw [hend]
      exact hpoison
    · rw [State.reg64, hreg _ (by decide), hreg _ (by decide)]
      exact hcount
    · rw [hreg _ (by decide)]
      exact huncorr
    · rw [hreg _ (by decide)]
      exact hlasting
    · exact fun a => by simp only [State.byte, hmem]
    · rw [hend, honly]
      rfl
    · rw [hend, honly]
      rfl
  · intro s p l first again hr hl hf
    have hgate := State.lineGate_outside (s := s.answer .none) (p := p) hl hf
    refine Completes.of_result (t := s.answer (.busError .accessDenied)) hr (exec_dramRead s _ l first again) ?_ ⟨rfl, rfl⟩ rfl
    simp only [State.dramRead, hgate, State.lineEnd]
    rfl
  · intro s src l data hr hg hst hlen
    obtain ⟨hin, hout, hpoison, -, hregs, -⟩ := (s.answer .none).writeLine_spec l hlen
    have hgate : (s.answer .none).lineGate src l true = none := hg
    have hstall : (s.answer .none).lineStalls src = false := hst
    refine Completes.of_writeLine hr (exec_dramLineWrite s src l data) ?_ hlen
      ⟨hin, hout, hpoison, hregs, State.writeLine_answer l hlen rfl⟩
    simp only [State.dramLineWrite, hgate, hstall, Bool.false_eq_true, if_false]
  · intro s src l off data first again hr hg hst hk hm hoff
    have hlen : 64 ≤ (patchLine ((s.answer .none).bytes (lineAddr l) 64) off data).length :=
      (length_patchLine (by simp [State.bytes]) hoff).ge
    obtain ⟨hin, hout⟩ := (s.answer .none).writeLine_patch l hoff
    obtain ⟨-, -, -, -, hregs, -⟩ := (s.answer .none).writeLine_spec l hlen
    have hgate : (s.answer .none).lineGate src l true = none := hg
    have hstall : (s.answer .none).lineStalls src = false := hst
    have hpart := State.writePart_clean (s := s.answer .none) (off := off) (data := data) (srcNum src) (srcHandle src) again hk hm
    refine Completes.of_writeLine hr (exec_dramPartialWrite s src l off data first again) ?_ hlen
      ⟨hin, hout, hregs, State.writeLine_answer l hlen rfl⟩
    simp only [State.dramPartialWrite, hgate, hstall, Bool.false_eq_true, if_false, hpart]
  · intro s l rest first again hr hlive hq hk hm
    obtain ⟨hwbq, hcount, hsame, honly⟩ := State.writeBack_spec (s := s.answer .none) again hq hk hm
    refine Completes.of_result hr (exec_writeBack s first again) (if_pos hlive) ⟨hwbq, hcount, hsame, ?_⟩ ?_
    · rw [honly]
      rfl
    · rw [honly]
      rfl

end Sys2Proof.Machine

/-! SUPPORT. The accesses of an application core: its TCM, reads of queue SRAM and system SRAM with and without caches in use, stores
past the caches, and its access faults. -/

namespace Sys2Proof.Machine

variable (s : State)

theorem exec_coreLoad (c : Fin 16) (k : CoreKind) (a n : Nat) (ways : Ways) (par : WayParity) (first again : LineRead) :
    exec (.coreLoad c k a n ways par first again) s = execCoreLoad c k a n ways par first again s := rfl
theorem exec_coreStore (c : Fin 16) (k : CoreKind) (a : Nat) (l : List Byte) (ways : Ways) (par : Parity) (first again : LineRead) :
    exec (.coreStore c k a l ways par first again) s = execCoreStore c k a l ways par first again s := rfl

/-! ### Where system SRAM and queue SRAM lie (R31) -/

variable {s}

theorem State.region_sysSram {a : Nat} (h : s.region a = some .sysSram) : 0x10000000 ≤ a ∧ a ≤ 0x107FFFFF := by
  unfold State.region at h
  split_ifs at h <;> simp_all

theorem State.region_queueSram {a : Nat} (h : s.region a = some .queueSram) : 0x30000000 ≤ a ∧ a ≤ 0x301FFFFF := by
  unfold State.region at h
  split_ifs at h <;> simp_all

theorem inNor_sysSram {a : Nat} (h : 0x10000000 ≤ a ∧ a ≤ 0x107FFFFF) : inNor a = false := decide_eq_false (by omega)

/-! ### The core's TCM (R382) -/

/-- A word of a TCM that holds no error is read as it is. -/
theorem State.tcmRead_good {p : Fin 2} (h : (s.pl p).tcmBad = []) (k : Nat) : s.tcmRead p k .ok = (s, none) := by
  simp [State.tcmRead, h]

/-- A load within a TCM that holds no error answers its bytes. -/
theorem State.tcmLoad_good {c : Fin 16} {off n : Nat} (hbad : (s.pl (poolOf c)).tcmBad = []) (hfit : off + n ≤ 65536) (k : CoreKind)
    (a : Nat) (d : Bool) :
    s.tcmLoad c k a n d off .ok = s.answer (.data ((List.range n).map (fun i => s.tcmByte c d (off + i)))) := by
  unfold State.tcmLoad
  rw [if_neg (by omega), List.foldl_fixed']
  intro w
  rw [ite_self]
  exact State.tcmRead_good hbad w.1

theorem State.setTcm_tcm (k : Nat) (w : Word) : (s.setTcm k w).tcm = Sparse.set (fun _ => 0) s.tcm k w := rfl

theorem State.setTcm_only (k : Nat) (w : Word) :
    s.setTcm k w = { s with tcm := (s.setTcm k w).tcm, pools := (s.setTcm k w).pools } := rfl

/-- A word of a TCM after a byte of it is stored. -/
def putByte (old : Word) (r : Nat) (b : Byte) : Word :=
  BitVec.ofNat 32 (old.toNat - (old.toNat / 2 ^ (8 * r) % 256) * 2 ^ (8 * r) + b.toNat * 2 ^ (8 * r))

/-- The bytes of a word after one is stored. -/
theorem extract_putByte (old : Word) (b : Byte) {r q : Nat} (hr : r < 4) (hq : q < 4) :
    (putByte old r b).extractLsb' (8 * q) 8 = if q = r then b else old.extractLsb' (8 * q) 8 := by
  have hold : old.toNat < 2 ^ 32 := old.isLt
  have hb : b.toNat < 2 ^ 8 := b.isLt
  have hnat : (putByte old r b).toNat / 2 ^ (8 * q) % 2 ^ 8 = if q = r then b.toNat else old.toNat / 2 ^ (8 * q) % 2 ^ 8 := by
    rw [putByte, BitVec.toNat_ofNat]
    interval_cases r <;> interval_cases q <;> simp only [Nat.reduceEqDiff, if_true, if_false] <;> omega
  apply BitVec.eq_of_toNat_eq
  rw [BitVec.extractLsb'_toNat, Nat.shiftRight_eq_div_pow, hnat]
  split
  · rfl
  · rw [BitVec.extractLsb'_toNat, Nat.shiftRight_eq_div_pow]

/-- A byte stored in a TCM changes TCMs and pools only. -/
theorem State.tcmStoreByte_only (c : Fin 16) (d whole : Bool) (s : State) (e : Byte × Nat) :
    State.tcmStoreByte c d whole s e
      = { s with tcm := (State.tcmStoreByte c d whole s e).tcm, pools := (State.tcmStoreByte c d whole s e).pools } := by
  unfold State.tcmStoreByte
  extract_lets w bad old sh t
  split <;> rfl

theorem State.tcmStoreByte_tcm (c : Fin 16) (d whole : Bool) (s : State) (e : Byte × Nat) :
    (State.tcmStoreByte c d whole s e).tcm = Sparse.set (fun _ => 0) s.tcm (tcmKey c.val d (e.2 / 4))
      (putByte (s.tcmWord (tcmKey c.val d (e.2 / 4))) (e.2 % 4) e.1) := by
  unfold State.tcmStoreByte
  extract_lets w bad old sh t
  rw [apply_ite State.tcm]
  exact ite_self _

/-- A byte stored in a TCM reads back, and every other byte of that TCM as before. -/
theorem State.tcmByte_tcmStoreByte (c : Fin 16) (d whole : Bool) (s : State) (b : Byte) (o j : Nat) :
    (State.tcmStoreByte c d whole s (b, o)).tcmByte c d j = if j = o then b else s.tcmByte c d j := by
  rw [State.tcmByte, State.tcmWord, State.tcmStoreByte_tcm, Sparse.get_set]
  by_cases hword : j / 4 = o / 4
  · rw [hword, if_pos rfl, extract_putByte _ _ (Nat.mod_lt _ (by decide)) (Nat.mod_lt _ (by decide))]
    by_cases hj : j = o
    · rw [hj, if_pos rfl, if_pos rfl]
    · rw [if_neg (by omega), if_neg hj, State.tcmByte, State.tcmWord, hword]
      rfl
  · have hkey : tcmKey c.val d (j / 4) ≠ tcmKey c.val d (o / 4) := by
      simp only [tcmKey]
      omega
    have hj : j ≠ o := fun h => hword (by rw [h])
    rw [if_neg hkey, if_neg hj]
    rfl

/-- Bytes stored in a TCM read back in their order, every other byte of that TCM as before, and nothing changes but TCMs and
pools. -/
theorem State.tcmStoreBytes_spec (c : Fin 16) (d whole : Bool) (l : List Byte) : ∀ (s : State) (off : Nat),
    (∀ o, ((l.zipIdx off).foldl (State.tcmStoreByte c d whole) s).tcmByte c d o
        = if off ≤ o ∧ o < off + l.length then l.getD (o - off) 0 else s.tcmByte c d o)
      ∧ (l.zipIdx off).foldl (State.tcmStoreByte c d whole) s
        = { s with tcm := ((l.zipIdx off).foldl (State.tcmStoreByte c d whole) s).tcm,
                   pools := ((l.zipIdx off).foldl (State.tcmStoreByte c d whole) s).pools } := by
  induction l with
  | nil => exact fun s off => ⟨fun o => by simp, rfl⟩
  | cons b t ih =>
    intro s off
    obtain ⟨hbyte, honly⟩ := ih (State.tcmStoreByte c d whole s (b, off)) (off + 1)
    rw [List.zipIdx_cons, List.foldl_cons]
    refine ⟨fun o => ?_, ?_⟩
    · rw [hbyte, State.tcmByte_tcmStoreByte]
      by_cases hfirst : o = off
      · subst hfirst
        simp
      · by_cases hrest : off + 1 ≤ o ∧ o < off + 1 + t.length
        · have hk : o - off = o - (off + 1) + 1 := by omega
          rw [if_pos hrest, if_pos (by rw [List.length_cons]; omega), hk, List.getD_cons_succ]
        · rw [if_neg hrest, if_neg hfirst, if_neg (by rw [List.length_cons]; omega)]
    · rw [honly, State.tcmStoreByte_only]

/-! ### Reads of system SRAM and queue SRAM (R283, R394) -/

/-- A read of SRAM that holds no error delivers what is stored. -/
theorem State.sramRead_good (h : s.buf.sramBad = []) (a n : Nat) : s.sramRead a n .ok = (s, none) := by
  simp [State.sramRead, h]

/-- With no line cached, there is none to drop, to clean or to hit. -/
theorem State.dropLines_nil (h : s.lines = []) (p : CLine → Bool) : s.dropLines p = s := by
  cases s
  cases h
  rfl

theorem State.aheadOfSweep_nil (h : s.lines = []) (c : Fin 16) (l : Nat) : s.aheadOfSweep c l = s := by
  have hclean : ∀ p, s.cleanLines p = s := fun p => by simp [State.cleanLines, h]
  simp only [State.aheadOfSweep, hclean, State.dropLines_nil h]

theorem State.cl?_nil (h : s.lines = []) (k : CacheId) (l : Nat) : s.cl? k l = none := by simp [State.cl?, h]

/-- A line of system SRAM that no cache holds is read from there. -/
theorem State.lineFetch_sysSram (h : s.lines = []) (hbad : s.buf.sramBad = []) {a : Nat} (ha : 0x10000000 ≤ a ∧ a ≤ 0x107FFFFF)
    (first again : LineRead) : s.lineFetch (a / 64) .ok first again = (s, none) := by
  have hnor : inNor (64 * (a / 64)) = false := inNor_sysSram (by omega)
  have hdram : ¬dramBase ≤ 64 * (a / 64) := by
    simp only [dramBase]
    omega
  simp [State.lineFetch, h, hnor, hdram, State.sramRead_good hbad]

/-- An access within a line of system SRAM is not split. -/
theorem State.splits_line {a n : Nat} (h : a % 64 + n ≤ 64) : s.splits a n = false := by
  have hline : ¬64 < a % 64 + n := by omega
  simp [State.splits, hline]

theorem State.splits_queueSram {a : Nat} (h : s.region a = some .queueSram) (n : Nat) : s.splits a n = false := by
  simp [State.splits, h]

theorem State.backParity_ok (c : Fin 16) (k : CoreKind) (a : Nat) (back : Bool) : s.backParity c k a .ok back = (s, none) :=
  ite_self _

/-- A load or an atomic's read of queue SRAM answers the bytes that it holds. -/
theorem State.coreRead_queueSram {c : Fin 16} {k : CoreKind} {a n : Nat} (hk : k ≠ .fetch)
    (hmap : s.checkMap (.engine (.core c)) a n .read = none) (hregion : s.region a = some .queueSram) (hbad : s.buf.sramBad = [])
    (ways : Ways) (back : Bool) (first again : LineRead) :
    s.coreRead c k a n ways .ok back first again = s.answer (.data (s.bytes a n)) := by
  simp [State.coreRead, hk, hmap, hregion, State.backParity_ok, State.splits_queueSram hregion, State.sramRead_good hbad]

/-- A load or an atomic's read of system SRAM answers the bytes of its line, once that is where the core reads it. -/
theorem State.coreRead_sysSram {c : Fin 16} {k : CoreKind} {a n : Nat} {ways : Ways} {first again : LineRead} {t : State}
    (hk : k ≠ .fetch) (hmap : s.checkMap (.engine (.core c)) a n .read = none) (hregion : s.region a = some .sysSram)
    (hn : a % 64 + n ≤ 64) (hline : s.dataLine c (a / 64) ways .ok first again = (t, none)) (back : Bool) :
    s.coreRead c k a n ways .ok back first again = t.answer (.data (t.bytes a n)) := by
  have hnor : inNor a = false := inNor_sysSram (State.region_sysSram hregion)
  simp [State.coreRead, hk, hmap, hregion, State.backParity_ok, State.splits_line hn, hline, State.dataBytes, hnor]

/-- A fetch from system SRAM answers the bytes of its line, where the core has no L1I in use. -/
theorem State.coreRead_fetch {c : Fin 16} {a n : Nat} {ways : Ways} {first again : LineRead}
    (hmap : s.checkMap (.engine (.core c)) a n .execute = none) (hregion : s.region a = some .sysSram)
    (hn : a % 64 + n ≤ 64) (hbad : s.buf.sramBad = []) (hl : s.lines = []) (hi : s.l1iUsed c = false) (back : Bool) :
    s.coreRead c .fetch a n ways .ok back first again = s.answer (.data (s.bytes a n)) := by
  have hfetch : s.fetchLine c (a / 64) ways .ok first again = (s, none) := by
    simp [State.fetchLine, State.aheadOfSweep_nil hl, hi, State.cl?_nil hl,
      State.lineFetch_sysSram hl hbad (State.region_sysSram hregion)]
  simp [State.coreRead, hmap, hregion, State.backParity_ok, State.splits_line hn, hfetch, State.fetchBytes, State.cl?_nil hl]

/-- A miss in every cache of the core fills the L2 and the L1D from memory. -/
theorem State.dataLine_miss {a : Nat} (hl : s.lines = []) (hbad : s.buf.sramBad = []) (ha : 0x10000000 ≤ a ∧ a ≤ 0x107FFFFF)
    (c : Fin 16) (ways : Ways) (first again : LineRead) : s.dataLine c (a / 64) ways .ok first again
      = ((s.fillL2 (poolOf c) (a / 64) ways.l2.val []).fillL1d c (a / 64) ways [], none) := by
  have hnor : inNor (64 * (a / 64)) = false := inNor_sysSram (by omega)
  simp [State.dataLine, State.aheadOfSweep_nil hl, State.cl?_nil hl, State.lineFetch_sysSram hl hbad ha, hnor]

/-- With the L2 out of use, a miss fills no cache. -/
theorem State.fill_unused {c : Fin 16} (hl : s.lines = []) (hu : s.l2Used (poolOf c) = false) (l w : Nat) (ways : Ways)
    (data : List Byte) : (s.fillL2 (poolOf c) l w data).fillL1d c l ways data = s := by
  simp [State.fillL2, hu, State.fillL1d, State.cl?_nil hl]

/-! ### Fills (R394) -/

/-- The caches of a core belong to its pool. -/
theorem pool_l2 (c : Fin 16) : (CacheId.l2 (poolOf c).val).pool = poolOf c := by
  revert c
  decide
theorem pool_l1d (c : Fin 16) : (CacheId.l1d c.val).pool = poolOf c := by
  revert c
  decide

/-- Where no way is locked out, a line goes to the way given. -/
theorem State.wayFor_unlocked {k : CacheId} (h : (s.pl k.pool).locked = []) (set w : Nat) : s.wayFor k set w = some w := by
  simp [State.wayFor, State.wayLocked, h]

/-- A miss with the L2 in use, and with no line cached and no way locked out, fills the L2, and the L1D where that is in use. -/
theorem State.fill_used {c : Fin 16} (hl : s.lines = []) (hu : s.l2Used (poolOf c) = true) (hlock : (s.pl (poolOf c)).locked = [])
    (l : Nat) (ways : Ways) :
    (((s.fillL2 (poolOf c) l ways.l2.val []).fillL1d c l ways []).cl? (.l2 (poolOf c).val) l).isSome = true
      ∧ (((s.fillL2 (poolOf c) l ways.l2.val []).fillL1d c l ways []).cl? (.l1d c.val) l).isSome = s.l1dUsed c
      ∧ (s.fillL2 (poolOf c) l ways.l2.val []).fillL1d c l ways []
          = { s with lines := ((s.fillL2 (poolOf c) l ways.l2.val []).fillL1d c l ways []).lines } := by
  have hl2 : s.fillL2 (poolOf c) l ways.l2.val [] = s.placeLine (.l2 (poolOf c).val) ways.l2.val l [] := by
    have hway := State.wayFor_unlocked (k := .l2 (poolOf c).val) (by rw [pool_l2]; exact hlock)
    simp [State.fillL2, hu, State.cl?_nil hl, hway, State.clAt?, hl]
  have hhit : ((s.placeLine (.l2 (poolOf c).val) ways.l2.val l []).cl? (.l2 (poolOf c).val) l).isSome = true := by
    simp [State.cl?, State.placeLine, hl]
  have hused : (s.placeLine (.l2 (poolOf c).val) ways.l2.val l []).l1dUsed c = s.l1dUsed c := rfl
  rw [hl2]
  cases hd : s.l1dUsed c with
  | false =>
    have hl1 : (s.placeLine (.l2 (poolOf c).val) ways.l2.val l []).fillL1d c l ways []
        = s.placeLine (.l2 (poolOf c).val) ways.l2.val l [] := by
      simp [State.fillL1d, hused, hd]
    rw [hl1]
    exact ⟨hhit, by simp [State.cl?, State.placeLine, hl], rfl⟩
  | true =>
    have hway := State.wayFor_unlocked (s := s.placeLine (.l2 (poolOf c).val) ways.l2.val l []) (k := .l1d c.val)
      (by rw [pool_l1d]; exact hlock)
    have hset : (s.placeLine (.l2 (poolOf c).val) ways.l2.val l []).clAt? (.l1d c.val) ((CacheId.l1d c.val).setOf l) ways.l1.val
        = none := by
      simp [State.clAt?, State.placeLine, hl]
    have hl1 : (s.placeLine (.l2 (poolOf c).val) ways.l2.val l []).fillL1d c l ways []
        = (s.placeLine (.l2 (poolOf c).val) ways.l2.val l []).placeLine (.l1d c.val) ways.l1.val l [] := by
      simp [State.fillL1d, hused, hd, Option.isSome_iff_ne_none.mp hhit, hway, hset]
    rw [hl1]
    exact ⟨by simp [State.cl?, State.placeLine, hl], by simp [State.cl?, State.placeLine, hl], rfl⟩

/-! ### Stores past the caches (R264, R283, R407) -/

/-- A write into an SRAM changes the armed injection and what the buffer holds. -/
theorem State.sramWritten_spec (s : State) (a n : Nat) :
    BufOnly s (s.sramWritten a n) ∧ RegsBut s (s.sramWritten a n) [(.buf, Reg.BUF_INJ_CTL)] := by
  unfold State.sramWritten
  extract_lets b t pins disarmed b'
  split
  · exact ⟨rfl, .of_regs rfl⟩
  · dsimp only
    split
    · exact ⟨rfl, .trans (.of_regs rfl) (.setF t .buf F.BUF_INJ_CTL_ARM 0 (by decide))⟩
    · exact ⟨rfl, .of_regs rfl⟩

theorem State.bytes_setBytes (s : State) (a : Nat) (l : List Byte) : (s.setBytes a l).bytes a l.length = l := by
  refine List.ext_getElem (by simp [State.bytes]) fun i hi hi' => ?_
  simp only [State.bytes, List.getElem_map, List.getElem_range]
  rw [State.byte_setBytes, if_pos (by omega), Nat.add_sub_cancel_left, List.getD_eq_getElem _ _ hi']

/-- Bytes stored in an SRAM read back, every other byte as before, and what else may change. -/
theorem State.storeSram_spec (s : State) (a : Nat) (l : List Byte) :
    ((s.setBytes a l).sramWritten a l.length).bytes a l.length = l
      ∧ (∀ b, (b < a ∨ a + l.length ≤ b) → ((s.setBytes a l).sramWritten a l.length).byte b = s.byte b)
      ∧ RegsBut s ((s.setBytes a l).sramWritten a l.length) [(.buf, Reg.BUF_INJ_CTL)]
      ∧ (s.setBytes a l).sramWritten a l.length
          = { s with mem := ((s.setBytes a l).sramWritten a l.length).mem, lines := ((s.setBytes a l).sramWritten a l.length).lines,
                     regs := ((s.setBytes a l).sramWritten a l.length).regs,
                     buf := ((s.setBytes a l).sramWritten a l.length).buf } := by
  obtain ⟨honly, hregs⟩ := (s.setBytes a l).sramWritten_spec a l.length
  refine ⟨(honly.bytes a _).trans (s.bytes_setBytes a l), fun b hb => ?_, .trans (.of_regs ?_) hregs, ?_⟩
  · rw [honly.sameMemory b, State.byte_setBytes, if_neg (by omega)]
  · rw [State.setBytes_only]
  · rw [honly, State.setBytes_only]

/-- With no line cached, a store invalidates none. -/
theorem State.setBytes_lines_nil (l : List Byte) : ∀ (s : State) (a : Nat), s.lines = [] → (s.setBytes a l).lines = [] := by
  induction l with
  | nil => exact fun _ _ h => h
  | cons b t ih => exact fun s a h => ih (s.setByte a b) (a + 1) (by simp [State.setByte, h])

/-- The parity of a transaction that does not fail for good: its repeat may be counted (R27). -/
theorem State.parityAt_passes (s : State) (u : UnitId) {par : Parity} (h : par ≠ .lasting) :
    (s.parityAt u par).2 = none ∧ (par = .ok → (s.parityAt u par).1 = s)
      ∧ RegsBut s (s.parityAt u par).1 [(u, Reg.UNIT_ERR), (u, Reg.UNIT_RETRY_CNT)]
      ∧ (s.parityAt u par).1 = { s with regs := (s.parityAt u par).1.regs } := by
  cases par with
  | ok => exact ⟨rfl, fun _ => rfl, .refl _ _, rfl⟩
  | transient =>
    refine ⟨rfl, nofun, ?_, rfl⟩
    exact .trans (.mono (.err s u _) (by simp)) (.mono (.setReg _ u (by decide) _) (by simp))
  | lasting => exact absurd rfl h

/-- A store to system SRAM past the caches, once its transaction's parity has passed. -/
theorem State.coreWrite_sysSram {c : Fin 16} {k : CoreKind} {a : Nat} {l : List Byte} {par : Parity}
    (hmap : s.checkMap (.engine (.core c)) a l.length .write = none) (hregion : s.region a = some .sysSram)
    (hn : a % 64 + l.length ≤ 64) (hl : s.lines = []) (hu : s.l2Used (poolOf c) = false) (hp : (s.parityAt .buf par).2 = none)
    (ways : Ways) (first again : LineRead) :
    s.coreWrite c k a l ways par first again
      = if k = .atomic then (((s.parityAt .buf par).1.setBytes a l).sramWritten a l.length).answer (.data (s.bytes a l.length))
        else ((s.parityAt .buf par).1.setBytes a l).sramWritten a l.length := by
  have ha := State.region_sysSram hregion
  have hdram : ¬dramBase ≤ a := by
    simp only [dramBase]
    omega
  simp [State.coreWrite, hmap, hregion, State.splits_line hn, State.storesBtt, hdram, State.cacheStore, hu,
    State.aheadOfSweep_nil hl, State.plainStore, hp]

/-- A store to system SRAM past the caches whose parity fails for good is an access fault, and stores nothing (R27). -/
theorem State.coreWrite_lasting {c : Fin 16} {k : CoreKind} {a : Nat} {l : List Byte}
    (hmap : s.checkMap (.engine (.core c)) a l.length .write = none) (hregion : s.region a = some .sysSram)
    (hn : a % 64 + l.length ≤ 64) (hl : s.lines = []) (hu : s.l2Used (poolOf c) = false) (ways : Ways) (first again : LineRead) :
    s.coreWrite c k a l ways .lasting first again = (s.lasting .buf).coreFault c (kindCode k) .fabricParity a := by
  have ha := State.region_sysSram hregion
  have hdram : ¬dramBase ≤ a := by
    simp only [dramBase]
    omega
  simp [State.coreWrite, hmap, hregion, State.splits_line hn, State.storesBtt, hdram, State.cacheStore, hu,
    State.aheadOfSweep_nil hl, State.plainStore, State.parityAt]

/-- A store to queue SRAM with good parity. -/
theorem State.coreWrite_queueSram {c : Fin 16} {a : Nat} {l : List Byte}
    (hmap : s.checkMap (.engine (.core c)) a l.length .write = none) (hregion : s.region a = some .queueSram)
    (hresp : s.resp = .none) (k : CoreKind) (ways : Ways) (first again : LineRead) :
    s.coreWrite c k a l ways .ok first again = (s.setBytes a l).sramWritten a l.length := by
  have ha := State.region_queueSram hregion
  have hqueue : inQueueSram a = true := decide_eq_true (by omega)
  have hstored : ((s.setBytes a l).sramWritten a l.length).resp = .none := by
    rw [(s.storeSram_spec a l).2.2.2]
    exact hresp
  simp [State.coreWrite, hmap, hregion, State.parity, State.parityAt, State.cmbStore, hqueue, State.orFault, hstored]

/-! ### Access faults (R27, R29, R384) -/

/-- Where the fault record of a core lies among its pool's registers (R412). -/
abbrev faultRegs (c : Fin 16) : List (UnitId × Nat) :=
  [(.pool (poolOf c), Reg.POOL_Cc_FLT + coreOff c), (.pool (poolOf c), Reg.POOL_Cc_FLT_ADDR_LO + coreOff c),
    (.pool (poolOf c), Reg.POOL_Cc_FLT_ADDR_HI + coreOff c)]

theorem RegsBut.answer {t : State} {r : List (UnitId × Nat)} (h : RegsBut s t r) (x : Resp) : RegsBut s (t.answer x) r :=
  fun v o ho hv => (State.answer_reg t x v o).trans (h v o ho hv)

/-- An access fault of a core whose record is free writes that record alone, the address's high part with it. -/
theorem State.coreFault_record (s : State) (c : Fin 16) (kind : Nat) (b : BusCause) (a : Nat)
    (hv : s.cf c F.POOL_Cc_FLT_VALID = 0) :
    (s.coreFault c kind b a).reg (.pool (poolOf c)) (Reg.POOL_Cc_FLT_ADDR_HI + coreOff c) = BitVec.ofNat 32 (a / 2 ^ 32 % 256)
      ∧ RegsBut s (s.coreFault c kind b a) (faultRegs c) := by
  have hoff : coreOff c < 0x200 := by
    simp only [coreOff]
    omega
  have hfield : ∀ (t : State) (f : Field) (v : Nat), f.off = Reg.POOL_Cc_FLT → RegsBut t (t.setCf c f v) (faultRegs c) :=
    fun t f v hf => .mono (.setF t _ (f.at (coreOff c)) v (by simp only [Field.at, hf, Reg.POOL_Cc_FLT]; omega))
      (by simp [Field.at, hf])
  have haddr : ∀ (t : State) (o : Nat) (w : Word), (UnitId.pool (poolOf c), o) ∈ faultRegs c → o < 0x1000 →
      RegsBut t (t.setReg (.pool (poolOf c)) o w) (faultRegs c) :=
    fun t o w hin ho => .mono (.setReg t _ ho w) (by simpa using hin)
  rw [State.coreFault_eq s c kind b a hv]
  refine ⟨by rw [State.answer_reg, State.reg_setReg_same], ?_⟩
  refine .answer (.trans (.trans (.trans (.trans (hfield s F.POOL_Cc_FLT_VALID 1 rfl) (hfield _ F.POOL_Cc_FLT_KIND kind rfl))
    (hfield _ F.POOL_Cc_FLT_CAUSE b.code rfl)) (haddr _ _ _ (by simp) ?_)) (haddr _ _ _ (by simp) ?_)) _
  · simp only [Reg.POOL_Cc_FLT_ADDR_LO]
    omega
  · simp only [Reg.POOL_Cc_FLT_ADDR_HI]
    omega

theorem BusCause.code_lt (b : BusCause) : b.code < 16 := by cases b <;> decide

/-- A read that the address map refuses is an access fault. -/
theorem State.coreRead_refused {c : Fin 16} {k : CoreKind} {a n : Nat} {b : BusCause} (hk : k ≠ .fetch)
    (hmap : s.checkMap (.engine (.core c)) a n .read = some b) (ways : Ways) (par : Parity) (back : Bool) (first again : LineRead) :
    s.coreRead c k a n ways par back first again = s.coreFault c (kindCode k) b a := by
  simp [State.coreRead, hk, hmap]

/-- A read that the register space refuses is an access fault. -/
theorem State.coreRead_regRefused {c : Fin 16} {k : CoreKind} {a n : Nat} {b : BusCause} (hk : k ≠ .fetch)
    (hmap : s.checkMap (.engine (.core c)) a n .read = none) (hregion : s.region a = some .unitSpace)
    (hreg : s.checkReg (.engine (.core c)) a n .read = some b) (ways : Ways) (par : Parity) (back : Bool) (first again : LineRead) :
    s.coreRead c k a n ways par back first again = (s.answer (.busError b)).coreFault c (kindCode k) b a := by
  simp [State.coreRead, hk, hmap, hregion, State.unitAccess, hreg, State.orFault]

/-- A read of memory whose data fails its parity for good on the way back is an access fault, which the core's pool detects
(R27). -/
theorem State.coreRead_backLasting {c : Fin 16} {k : CoreKind} {a n : Nat} (hk : k ≠ .fetch)
    (hmap : s.checkMap (.engine (.core c)) a n .read = none) (hregion : s.region a = some .sysSram) (hn : a % 64 + n ≤ 64)
    (hl : s.lines = []) (ways : Ways) (first again : LineRead) :
    s.coreRead c k a n ways .lasting true first again
      = (s.lasting (.pool (poolOf c))).coreFault c (kindCode k) .fabricParity a := by
  have hmiss : s.hitsCache c k (a / 64) = false := by simp [State.hitsCache, hl]
  simp [State.coreRead, hk, hmap, hregion, State.splits_line hn, State.backParity, hmiss, State.parityAt]

/-- A lasting fault of a unit leaves the fields of a core's registers. -/
theorem State.cf_lasting (s : State) (u : UnitId) (c : Fin 16) {f : Field} (hlow : 0x100 ≤ f.off) (hhigh : f.off < 0x200) :
    (s.lasting u).cf c f = s.cf c f := by
  have hoff : coreOff c < 0x200 := by
    simp only [coreOff]
    omega
  have hreg := RegsBut.lasting s u (.pool (poolOf c)) (f.off + coreOff c) (by omega) (by
    simp only [List.mem_cons, Prod.mk.injEq, List.not_mem_nil, or_false, Reg.UNIT_ERR, Reg.UNIT_LAST_CNT]
    omega)
  exact congrArg (f.at (coreOff c)).get hreg

/-! ### The statement -/

/-- A load of a running core from its TCM. -/
theorem Completes.coreLoad_tcm {c : Fin 16} {k : CoreKind} {a n off : Nat} {d : Bool} {ways : Ways} {par : WayParity}
    {first again : LineRead} {t : State} {P : State → Prop} (hr : s.running) (hruns : s.coreRuns c = true) (hk : k ≠ .store)
    (hn : 0 < n) (htcm : tcmAt a = some (d, off)) (hload : (s.answer .none).tcmLoad c k a n d off par.outcome = t) (hP : P t)
    (hq : t.pending = s.pending) : Completes (.coreLoad c k a n ways par first again) s P := by
  have hruns' : (s.answer .none).coreRuns c = true := hruns
  have hn' : n ≠ 0 := by omega
  refine Completes.of_result hr (exec_coreLoad s c k a n ways par first again) ?_ hP hq
  simpa [hruns', hk, hn', htcm] using hload

/-- A load of a running core outside its TCM. -/
theorem Completes.coreLoad_memory {c : Fin 16} {k : CoreKind} {a n : Nat} {ways : Ways} {par : WayParity} {first again : LineRead}
    {t : State} {P : State → Prop} (hr : s.running) (hruns : s.coreRuns c = true) (hk : k ≠ .store) (hn : 0 < n)
    (htcm : tcmAt a = none) (hread : (s.answer .none).coreRead c k a n ways par.outcome par.back first again = t) (hP : P t)
    (hq : t.pending = s.pending) : Completes (.coreLoad c k a n ways par first again) s P := by
  have hruns' : (s.answer .none).coreRuns c = true := hruns
  have hn' : n ≠ 0 := by omega
  refine Completes.of_result hr (exec_coreLoad s c k a n ways par first again) ?_ hP hq
  simpa [hruns', hk, hn', htcm] using hread

/-- A store or an atomic of a running core to its TCM. -/
theorem Completes.coreStore_tcm {c : Fin 16} {k : CoreKind} {a off : Nat} {l : List Byte} {d : Bool} {ways : Ways} {par : Parity}
    {first again : LineRead} {t : State} {P : State → Prop} (hr : s.running) (hruns : s.coreRuns c = true)
    (hk : k = .store ∨ k = .atomic) (hl : l ≠ []) (htcm : tcmAt a = some (d, off))
    (hstore : (s.answer .none).tcmStore c k a l d off = t) (hP : P t) (hq : t.pending = s.pending) :
    Completes (.coreStore c k a l ways par first again) s P := by
  have hruns' : (s.answer .none).coreRuns c = true := hruns
  refine Completes.of_result hr (exec_coreStore s c k a l ways par first again) ?_ hP hq
  obtain rfl | rfl := hk <;> simpa [hruns', hl, htcm] using hstore

/-- A store or an atomic of a running core outside its TCM. -/
theorem Completes.coreStore_memory {c : Fin 16} {k : CoreKind} {a : Nat} {l : List Byte} {ways : Ways} {par : Parity}
    {first again : LineRead} {t : State} {P : State → Prop} (hr : s.running) (hruns : s.coreRuns c = true)
    (hk : k = .store ∨ k = .atomic) (hl : l ≠ []) (htcm : tcmAt a = none)
    (hwrite : (s.answer .none).coreWrite c k a l ways par first again = t) (hP : P t) (hq : t.pending = s.pending) :
    Completes (.coreStore c k a l ways par first again) s P := by
  have hruns' : (s.answer .none).coreRuns c = true := hruns
  refine Completes.of_result hr (exec_coreStore s c k a l ways par first again) ?_ hP hq
  obtain rfl | rfl := hk <;> simpa [hruns', hl, htcm] using hwrite

/-- Bytes stored in system SRAM with no line cached, after a transaction whose parity did not fail for good. -/
theorem State.storeSram_parity (s : State) {par : Parity} (hpar : par ≠ .lasting) (hl : s.lines = []) (a : Nat) (l : List Byte)
    {t : State} (ht : ((s.parityAt .buf par).1.setBytes a l).sramWritten a l.length = t) :
    t.bytes a l.length = l ∧ (∀ b, (b < a ∨ a + l.length ≤ b) → t.byte b = s.byte b)
      ∧ (par = .ok → RegsBut s t [(.buf, Reg.BUF_INJ_CTL)])
      ∧ RegsBut s t [(.buf, Reg.BUF_INJ_CTL), (.buf, Reg.UNIT_ERR), (.buf, Reg.UNIT_RETRY_CNT)]
      ∧ t = { s with mem := t.mem, regs := t.regs, buf := t.buf } := by
  obtain ⟨-, hok, hregs, hparity⟩ := s.parityAt_passes .buf hpar
  generalize (s.parityAt .buf par).1 = p at ht hok hregs hparity
  obtain ⟨hread, hother, hinj, honly⟩ := p.storeSram_spec a l
  have hnone : (p.setBytes a l).lines = [] := State.setBytes_lines_nil l p a (by rw [hparity]; exact hl)
  have hlines : ((p.setBytes a l).sramWritten a l.length).lines = [] := by
    rw [((p.setBytes a l).sramWritten_spec a l.length).1]
    exact hnone
  rw [ht] at hread hother hinj honly hlines
  refine ⟨hread, fun b hb => (hother b hb).trans (by rw [hparity]; rfl), fun h => hok h ▸ hinj, ?_, ?_⟩
  · exact .trans (.mono hregs (by simp)) (.mono hinj (by simp))
  · rw [honly, hlines, hparity, ← hl]

/-- The access fault of a lasting parity failure: the core's record is written, and the unit that detects it holds the cause
(R27). -/
theorem State.lastingFault (s : State) {u : UnitId} (hu : u.isGroup = false) {c : Fin 16} (k : CoreKind) (a : Nat)
    (hv : s.cf c F.POOL_Cc_FLT_VALID = 0) {t : State} (ht : t = (s.lasting u).coreFault c (kindCode k) .fabricParity a) :
    t.resp = .busError .fabricParity ∧ t.cf c F.POOL_Cc_FLT_VALID = 1 ∧ t.cf c F.POOL_Cc_FLT_KIND = kindCode k
      ∧ t.cf c F.POOL_Cc_FLT_CAUSE = BusCause.fabricParity.code ∧ (t.reg u Reg.UNIT_ERR).getLsbD eLasting = true
      ∧ OnlyRegs s t := by
  have hfree : (s.lasting u).cf c F.POOL_Cc_FLT_VALID = 0 := (State.cf_lasting s u c (by decide) (by decide)).trans hv
  obtain ⟨hresp, hvalid, hcause, hkind, -, hpool, honly⟩ :=
    State.coreFault_free (s.lasting u) c k .fabricParity a (by decide) hfree
  have herr : t.reg u Reg.UNIT_ERR = (s.lasting u).reg u Reg.UNIT_ERR := by
    rw [ht]
    by_cases hpu : u = .pool (poolOf c)
    · rw [hpu] at hpool ⊢
      exact hpool
    · exact State.coreFault_reg (s.lasting u) c _ _ a hpu (by decide)
  have hlast : OnlyRegs s (s.lasting u) := rfl
  have honly' : OnlyRegs s t := ht ▸ hlast.trans honly
  exact ⟨ht ▸ hresp, ht ▸ hvalid, ht ▸ hkind, ht ▸ hcause, by rw [herr]; exact s.lasting_err u hu (.inl rfl), honly'⟩

/-- Settles O45, by what each kind of memory answers, what a store past the caches changes, and the record of a core's access
fault. -/
theorem coreAccesses : Obligations.CoreAccesses := by
  refine ⟨?_, ?_, ?_, ?_, ?_, ?_, ?_, ?_, ?_, ?_, ?_⟩
  · intro s c k a n off d back ways first again hr hruns hk hn htcm hfit hbad
    exact Completes.coreLoad_tcm hr hruns hk hn htcm (State.tcmLoad_good (s := s.answer .none) hbad hfit k a d) ⟨rfl, rfl⟩ rfl
  · intro s c k a n back ways first again hr hruns hk hn htcm hmap hbad hwhere
    have hfetch : k ≠ .fetch := by
      rintro rfl
      simp at hk
    have hstore : k ≠ .store := by
      rintro rfl
      simp at hk
    refine Completes.coreLoad_memory (t := s.answer (.data (s.bytes a n))) hr hruns hstore hn htcm ?_ ⟨rfl, rfl⟩ rfl
    obtain hq | ⟨hline, hregion, hl, hu⟩ := hwhere
    · exact State.coreRead_queueSram (s := s.answer .none) hfetch hmap hq hbad ways back first again
    · have hmiss := State.dataLine_miss (s := s.answer .none) hl hbad (State.region_sysSram hregion) c ways first again
      rw [State.fill_unused (s := s.answer .none) hl hu] at hmiss
      exact State.coreRead_sysSram (s := s.answer .none) hfetch hmap hregion hline hmiss back
  · intro s c a n back ways first again hr hruns hn hline htcm hmap hbad hregion hl hi
    exact Completes.coreLoad_memory (t := s.answer (.data (s.bytes a n))) hr hruns (by decide) hn htcm
      (State.coreRead_fetch (s := s.answer .none) hmap hregion hline hbad hl hi back) ⟨rfl, rfl⟩ rfl
  · intro s c a n back ways first again hr hruns hn hline htcm hmap hbad hregion hl hu hlock
    have hmiss := State.dataLine_miss (s := s.answer .none) hl hbad (State.region_sysSram hregion) c ways first again
    have hread := State.coreRead_sysSram (s := s.answer .none) (k := .load) (by decide) hmap hregion hline hmiss back
    obtain ⟨hl2, hl1, honly⟩ := State.fill_used (s := s.answer .none) hl hu hlock (a / 64) ways
    generalize ((s.answer .none).fillL2 (poolOf c) (a / 64) ways.l2.val []).fillL1d c (a / 64) ways [] = t
      at hread hl2 hl1 honly
    refine Completes.coreLoad_memory hr hruns (by decide) hn htcm hread ⟨?_, hl2, hl1, ?_⟩ ?_
    · rw [honly]
      rfl
    · rw [honly]
      rfl
    · rw [honly]
      rfl
  · intro s c a n b back ways par first again hr hruns hn htcm hmap hv
    have hread := State.coreRead_refused (s := s.answer .none) (k := .load) (by decide) hmap ways par back first again
    obtain ⟨hresp, hvalid, hcause, hkind, hlo, -, honly⟩ := State.coreFault_free (s.answer .none) c .load b a b.code_lt hv
    obtain ⟨hhi, hregs⟩ := State.coreFault_record (s.answer .none) c (kindCode .load) b a hv
    generalize (s.answer .none).coreFault c (kindCode .load) b a = t
      at hread hresp hvalid hcause hkind hlo honly hhi hregs
    exact Completes.coreLoad_memory hr hruns (by decide) hn htcm hread ⟨hresp, hvalid, hkind, hcause, hlo, hhi, hregs, honly⟩
      (OnlyRegs.pending honly)
  · intro s c a n b back ways par first again hr hruns hn htcm hmap hregion hreg hv
    have hread := State.coreRead_regRefused (s := s.answer .none) (k := .load) (by decide) hmap hregion hreg ways par
      back first again
    obtain ⟨hresp, hvalid, hcause, -, -, -, honly⟩ :=
      State.coreFault_free ((s.answer .none).answer (.busError b)) c .load b a b.code_lt hv
    generalize ((s.answer .none).answer (.busError b)).coreFault c (kindCode .load) b a = t
      at hread hresp hvalid hcause honly
    refine Completes.coreLoad_memory hr hruns (by decide) hn htcm hread ⟨hresp, fun h => absurd rfl (h c), ?_⟩
      (OnlyRegs.pending honly)
    rintro c' hc -
    obtain rfl : c = c' := Engine.core.inj hc
    exact ⟨hvalid, hcause, honly⟩
  · intro s c a n ways first again hr hruns hn hline htcm hmap hregion hl hv
    have hread := State.coreRead_backLasting (s := s.answer .none) (k := .load) (by decide) hmap hregion hline hl ways first again
    obtain ⟨hresp, hvalid, -, hcause, herr, honly⟩ := State.lastingFault (s.answer .none)
      (u := .pool (poolOf c)) rfl .load a hv hread
    exact Completes.coreLoad_memory hr hruns (by decide) hn htcm rfl ⟨hresp, hvalid, hcause, herr, honly⟩
      (OnlyRegs.pending honly)
  · intro s c k a off l d ways par first again hr hruns hk hl htcm hfit
    have hstore : (s.answer .none).tcmStore c k a l d off
        = (l.zipIdx off).foldl (State.tcmStoreByte c d (off % 4 == 0 && l.length % 4 == 0)) (s.answer .none) := by
      unfold State.tcmStore
      rw [if_neg (by omega)]
    obtain ⟨hbyte, honly⟩ := State.tcmStoreBytes_spec c d (off % 4 == 0 && l.length % 4 == 0) l (s.answer .none) off
    generalize (l.zipIdx off).foldl (State.tcmStoreByte c d (off % 4 == 0 && l.length % 4 == 0)) (s.answer .none) = t
      at hstore hbyte honly
    refine Completes.coreStore_tcm hr hruns hk hl htcm hstore ⟨fun i hi => ?_, fun o ho => ?_, honly⟩ ?_
    · rw [hbyte, if_pos (by omega), Nat.add_sub_cancel_left]
    · rw [hbyte, if_neg (by omega)]
      rfl
    · rw [honly]
      rfl
  · intro s c k a l ways par first again hr hruns hk hne hline htcm hmap hregion hl hu hpar
    have hwrite := State.coreWrite_sysSram (s := s.answer .none) (k := k) hmap hregion hline hl hu
      ((s.answer .none).parityAt_passes .buf hpar).1 ways first again
    generalize ht : (((s.answer .none).parityAt .buf par).1.setBytes a l).sramWritten a l.length = t at hwrite
    obtain ⟨hread, hother, hok, hregs, honly⟩ := State.storeSram_parity (s.answer .none) hpar hl a l ht
    refine Completes.coreStore_memory hr hruns hk hne htcm hwrite ?_ ?_
    · split
      · exact ⟨hread, hother, rfl, fun h => (hok h).answer _, hregs.answer _, by rw [honly]; rfl⟩
      · exact ⟨hread, hother, by rw [honly]; rfl, hok, hregs, by rw [honly]; rfl⟩
    · split <;> rw [honly] <;> rfl
  · intro s c a l ways first again hr hruns hne hline htcm hmap hregion hl hu hv
    have hwrite := State.coreWrite_lasting (s := s.answer .none) (k := .store) hmap hregion hline hl hu ways first again
    obtain ⟨hresp, hvalid, hkind, hcause, herr, honly⟩ := State.lastingFault (s.answer .none) (u := .buf) rfl .store
      a hv hwrite
    exact Completes.coreStore_memory hr hruns (.inl rfl) hne htcm rfl ⟨hresp, hvalid, hkind, hcause, herr, honly⟩
      (OnlyRegs.pending honly)
  · intro s c k a l ways first again hr hruns hk hne htcm hmap hregion
    have hwrite := State.coreWrite_queueSram (s := s.answer .none) hmap hregion rfl k ways first again
    obtain ⟨hread, hother, hregs, honly⟩ := (s.answer .none).storeSram_spec a l
    generalize ((s.answer .none).setBytes a l).sramWritten a l.length = t at hwrite hread hother hregs honly
    exact Completes.coreStore_memory hr hruns hk hne htcm hwrite ⟨hread, hother, hregs, honly⟩ (by rw [honly]; rfl)

end Sys2Proof.Machine

/-! SUPPORT. What any command can do: its meaning runs on a running device alone, but for a start, a restart, the loss of the rails and
the commands of the retract path; so a step takes the front command and no other, and a device that is held stays as it is. -/

namespace Sys2Proof.Machine

variable {s t : State}

/-- A command acts on a running device alone, or it is one of those that may act on a held one (R43, R48, R56, R518). -/
theorem exec_cases (i : Instr) (s : State) :
    (∃ f, exec i s = done s f) ∨ (i.actsHeld = true ∧ ∃ t, exec i s = leave s t) := by
  cases i with
  | coldStart | thermalHoldEnd | crystalRestart | pwronNFall | unplannedPowerLoss | vcmCurrentLoop | retractParked | retractTimeout =>
    exact .inr ⟨rfl, _, rfl⟩
  | defectDetect d => exact .inl ⟨_, exec_defectDetect s d.lane d.bit⟩
  | defectEnd d => exact .inl ⟨_, exec_defectEnd s d.lane d.bit⟩
  | assistCheck n driven v crc =>
    exact .inl ⟨fun s => s.when (s.live (.ast n) && s.agate n) (s.assistCheck n (if driven then .data v crc else .silent)), rfl⟩
  | _ => dsimp only [exec]; exact .inl ⟨_, rfl⟩

/-- A command answers a next state, with the queue as it was. -/
theorem exec_next (i : Instr) (s : State) : ∃ t, exec i s = .next t ∧ t.pending = s.pending := by
  obtain ⟨f, h⟩ | ⟨-, t, h⟩ := exec_cases i s
  · exact h ▸ done_next s f
  · exact ⟨_, h, rfl⟩

/-- A device that does not run ignores every command but those that act on a held one (R43, R56). -/
theorem exec_held (i : Instr) (s : State) (hs : ¬s.running) (hi : i.actsHeld = false) :
    exec i s = .next { s with resp := .ignored } := by
  obtain ⟨f, h⟩ | ⟨h, -⟩ := exec_cases i s
  · exact h.trans (done_held s f hs)
  · exact absurd (hi.symm.trans h) nofun

/-- Firmware's work without a command needs a running device. -/
theorem State.background_held (hs : ¬s.running) : s.background = s := if_neg fun h => hs h.1

/-- A step answers a next state and takes the front command. -/
theorem step_next (s : State) : ∃ t, step s = .next t ∧ t.pending = s.pending.tail := by
  unfold step
  cases h : s.pending with
  | nil => exact ⟨_, rfl, h⟩
  | cons i rest => exact exec_next i { s with pending := rest }

/-- A step of a device that does not run, with no command in front that acts on a held one, changes the queue and the answer alone. -/
theorem step_held (hs : ¬s.running) (hi : ∀ c ∈ s.pending, c.actsHeld = false) (h : step s = .next t) :
    t = { s with pending := t.pending, resp := t.resp } := by
  unfold step at h
  cases hq : s.pending with
  | nil =>
    simp only [hq, leave, State.background_held hs, Host.Outcome.next.injEq] at h
    rw [← h]
  | cons i rest =>
    have hexec := exec_held i { s with pending := rest } hs (hi i (hq ▸ List.mem_cons_self))
    simp only [hq, hexec, Host.Outcome.next.injEq] at h
    rw [← h]

/-- Settles O2, from what any command can do. -/
theorem everyCommandAnswers : Obligations.EveryCommandAnswers :=
  ⟨exec_next, step_next, exec_held⟩

/-- Settles O3: the front command leaves the queue, and a device that does not run stays as it is. -/
theorem queueAndHoldKept : Obligations.QueueAndHoldKept := by
  rintro r s t ⟨⟨n, hqueue⟩, hheld⟩ hstep
  refine ⟨⟨n + 1, ?_⟩, fun hr hacts => ?_⟩
  · obtain ⟨t', hnext, htail⟩ := step_next s
    obtain rfl : t' = t := Host.Outcome.next.inj (hnext.symm.trans hstep)
    rw [htail, hqueue, List.tail_drop]
  · have hs := hheld hr hacts
    have hdown : ¬s.running := by rw [hs]; exact hr
    have hfront : ∀ c ∈ s.pending, c.actsHeld = false := fun c hc => hacts c (List.mem_of_mem_drop (hqueue ▸ hc))
    rw [step_held hdown hfront hstep, hs]

end Sys2Proof.Machine

/-! SUPPORT. The divider of a lane's clock: a write of it, the moment it takes effect, and the settling of the clock. -/

namespace Sys2Proof.Machine

variable {s t : State}

/-! ### Fields of registers -/

/-- A field of another register of the same unit after a register is written. -/
theorem State.f_setReg_off (s : State) {u : UnitId} {o : Nat} {f : Field} (h : f.off ≠ o) (w : Word) :
    (s.setReg u o w).f u f = s.f u f := by
  rw [State.f, State.f, State.reg_setReg_ne s (fun hk => h (key_inj_off.mp hk))]

/-- A field of another register of the same unit after a field is set. -/
theorem State.f_setF_off (s : State) {u : UnitId} {f g : Field} (h : g.off ≠ f.off) (v : Nat) : (s.setF u f v).f u g = s.f u g :=
  s.f_setReg_off h _

/-- A register access that nothing refuses completes with its effect. -/
theorem Completes.of_access {i : Instr} {e : Engine} {k : CoreKind} {u : UnitId} {off : Nat} {f : State → State} {P : State → Prop}
    (hr : s.running) (hreset : s.inReset u = false) (he : exec i s = done s (fun s => s.access e k u off none (f s)))
    (hresp : (f (s.answer .none)).resp = .none) (hq : (f (s.answer .none)).pending = s.pending) (h : P (f (s.answer .none))) :
    Completes i s P :=
  Completes.of_result hr he (State.access_ok hreset fun _ hc => nomatch hresp.symm.trans hc) h hq

/-! ### LN_CLK_DIV_WRITE (R41, R42) -/

theorem exec_lnClkDivWrite (e : Engine) (n : Fin 4) (v : Word) (s : State) :
    exec (.lnClkDivWrite e n v) s = done s (fun s => s.access e .store (.lane n) Reg.LN_CLK_DIV none (s.divWrite n v)) := rfl

/-- A value inside the range is pending (R41, R42). -/
theorem State.divWrite_accepted (n : Fin 4) {v : Word} (h : divAccepted (v &&& 0x007FFFFF) = true) :
    (s.divWrite n v).reg (.lane n) Reg.LN_CLK_DIV = v &&& 0x007FFFFF ∧ ((s.divWrite n v).lane n).divPending = some (v &&& 0x007FFFFF)
      ∧ (s.divWrite n v).f (.lane n) F.LN_CLK_STAT_PENDING = 1 ∧ (s.divWrite n v).f (.lane n) F.LN_CLK_STAT_RANGE_ERR = 0
      ∧ ((s.divWrite n v).lane n).divInForce = (s.lane n).divInForce := by
  simp only [State.divWrite, h, if_true]
  refine ⟨State.reg_setReg_same _ _ _ _, ?_, ?_, ?_, ?_⟩
  · rw [State.lane_setLane_same]
  · show State.f (State.setReg _ _ _ _) _ _ = 1
    rw [State.f_setReg_off _ (by decide), State.f_setF_same _ _ _ _ (by decide)]
    rfl
  · show State.f (State.setReg _ _ _ _) _ _ = 0
    rw [State.f_setReg_off _ (by decide), State.f_setF_ne _ _ F.LN_CLK_STAT_PENDING F.LN_CLK_STAT_RANGE_ERR _ rfl (by decide) (by decide), State.f_setF_same _ _ _ _ (by decide)]
    rfl
  · rw [State.lane_setLane_same]

/-- A value outside the range sets RANGE_ERR and is discarded (R41). -/
theorem State.divWrite_refused (n : Fin 4) {v : Word} (h : divAccepted (v &&& 0x007FFFFF) = false) :
    s.divWrite n v = s.setF (.lane n) F.LN_CLK_STAT_RANGE_ERR 1 := by
  unfold State.divWrite
  exact if_neg (by rw [h]; nofun)

/-- What a write of the divider reaches. -/
theorem State.divWrite_only (n : Fin 4) (v : Word) : RegsBut s (s.divWrite n v) [(.lane n, Reg.LN_CLK_DIV), (.lane n, Reg.LN_CLK_STAT)]
    ∧ s.divWrite n v = { s with regs := (s.divWrite n v).regs, lanes := (s.divWrite n v).lanes } := by
  have hstat : ∀ (s : State) (f : Field) (x : Nat), f.off = Reg.LN_CLK_STAT → RegsBut s (s.setF (.lane n) f x)
      [(.lane n, Reg.LN_CLK_DIV), (.lane n, Reg.LN_CLK_STAT)] := fun s f x hf =>
    (RegsBut.setF s (.lane n) f x (by rw [hf]; decide)).mono (by simp [hf])
  unfold State.divWrite
  dsimp only
  split
  · refine ⟨?_, rfl⟩
    exact (hstat _ _ _ rfl).trans ((hstat _ _ _ rfl).trans ((RegsBut.setReg _ _ (by decide) _).mono (by simp)))
  · exact ⟨hstat _ _ _ rfl, rfl⟩

/-- LN_CLK_DIV_WRITE of an engine that nothing refuses. -/
theorem Completes.lnClkDivWrite {e : Engine} {n : Fin 4} {v : Word} {P : State → Prop} (hr : s.running)
    (hreset : s.inReset (.lane n) = false) (h : P ((s.answer .none).divWrite n v)) : Completes (.lnClkDivWrite e n v) s P := by
  have honly := ((s.answer .none).divWrite_only n v).2
  exact Completes.of_access hr hreset (exec_lnClkDivWrite e n v s) (by rw [honly]; rfl) (by rw [honly]; rfl) h

theorem divAccepted_iff (v : Word) : divAccepted v = true ↔ 0x000CCCCD ≤ v.toNat ∧ v.toNat ≤ 0x00400000 := decide_eq_true_iff

/-- Settles O9: a value of 23 bits is written as it stands. -/
theorem dividerRange : Obligations.DividerRange := by
  intro s e n v hr hreset hv
  have hmask : v &&& 0x007FFFFF = v := by
    apply BitVec.eq_of_toNat_eq
    rw [BitVec.toNat_and]
    exact Nat.and_two_pow_sub_one_of_lt_two_pow (n := 23) hv
  refine Completes.lnClkDivWrite hr hreset ⟨fun hin => ?_, fun hout => ?_⟩
  · have hok : divAccepted (v &&& 0x007FFFFF) = true := by rw [hmask]; exact (divAccepted_iff v).mpr hin
    obtain ⟨hdiv, hpend, -, herr, -⟩ := (s.answer .none).divWrite_accepted n hok
    rw [hmask] at hdiv hpend
    exact ⟨hpend, hdiv, herr⟩
  · have hbad : divAccepted (v &&& 0x007FFFFF) = false := by
      rw [hmask]; exact Bool.eq_false_iff.mpr fun h => hout ((divAccepted_iff v).mp h)
    rw [State.divWrite_refused n hbad]
    exact ⟨State.f_setF_same _ _ _ _ (by decide), State.reg_setReg_ne _ (by simp [key_inj_off]) _, rfl, rfl⟩

end Sys2Proof.Machine

/-! SUPPORT. The reach of one lane's media work: what a halt, a write stop, a change of servo mode, a retract or an unload of one lane
leaves of the registers of other units, of the other lanes and of the rest of the device. -/

namespace Sys2Proof.Machine

variable {s t : State}

/-! ### Registers outside a set -/

/-- `t` has the registers of `s` but for those of a set. -/
def RegsOff (P : UnitId → Nat → Prop) (s t : State) : Prop := ∀ u o, o < 0x1000 → ¬ P u o → t.reg u o = s.reg u o

theorem RegsOff.trans {P : UnitId → Nat → Prop} {u : State} (h : RegsOff P s t) (k : RegsOff P t u) : RegsOff P s u :=
  fun v o ho hn => (k v o ho hn).trans (h v o ho hn)

theorem RegsOff.mono {P Q : UnitId → Nat → Prop} (h : RegsOff P s t) (hpq : ∀ u o, P u o → Q u o) : RegsOff Q s t :=
  fun u o ho hn => h u o ho (fun hp => hn (hpq u o hp))

theorem RegsOff.of_regs {P : UnitId → Nat → Prop} (h : t.regs = s.regs) : RegsOff P s t := fun u o _ _ => by simp only [State.reg, h]

theorem RegsOff.of_but {P : UnitId → Nat → Prop} {l : List (UnitId × Nat)} (h : RegsBut s t l) (hl : ∀ x ∈ l, P x.1 x.2) : RegsOff P s t :=
  fun u o ho hn => h u o ho (fun hm => hn (hl _ hm))

theorem RegsOff.setReg {P : UnitId → Nat → Prop} (s : State) {u : UnitId} {o : Nat} (ho : o < 0x1000) (hp : P u o) (w : Word) :
    RegsOff P s (s.setReg u o w) := .of_but (RegsBut.setReg s u ho w) (by simpa using hp)

/-- A field of a register outside the set. -/
theorem RegsOff.f {P : UnitId → Nat → Prop} (h : RegsOff P s t) {u : UnitId} {f : Field} (ho : f.off < 0x1000) (hn : ¬ P u f.off) :
    t.f u f = s.f u f := by rw [State.f, State.f, h u f.off ho hn]

/-- Two registers outside the set, read as one. -/
theorem RegsOff.reg64 {P : UnitId → Nat → Prop} (h : RegsOff P s t) {u : UnitId} {o : Nat} (ho : o + 4 < 0x1000) (hlo : ¬ P u o)
    (hhi : ¬ P u (o + 4)) : t.reg64 u o = s.reg64 u o := by
  rw [State.reg64, State.reg64, h u o (by omega) hlo, h u (o + 4) ho hhi]

/-! ### The reach of a lane -/

/-- The registers that media work of lane `n` can write: those of channels but for the write status of another lane, those of the
lane's own assist controller and servo, its pivot's mailbox and the rotational position. -/
def reachedRegs (n : Fin 4) (u : UnitId) (o : Nat) : Prop :=
  match u with
  | .chn m => m = n ∨ o ≠ Reg.CHN_WR_STAT
  | .ast m => m = n
  | .srv m => m = n
  | .piv _ => True
  | .med => True
  | _ => False

theorem reachedRegs.ast (n : Fin 4) (o : Nat) : reachedRegs n (.ast n) o := rfl

theorem reachedRegs.srv (n : Fin 4) (o : Nat) : reachedRegs n (.srv n) o := rfl

theorem reachedRegs.piv (n : Fin 4) (p : Fin 2) (o : Nat) : reachedRegs n (.piv p) o := trivial

theorem reachedRegs.med (n : Fin 4) (o : Nat) : reachedRegs n .med o := trivial

theorem reachedRegs.ownChn (n : Fin 4) (o : Nat) : reachedRegs n (.chn n) o := .inl rfl

theorem reachedRegs.chn (n m : Fin 4) {o : Nat} (h : o ≠ Reg.CHN_WR_STAT) : reachedRegs n (.chn m) o := .inr h

/-- What media work of lane `n` leaves. -/
structure LaneReach (n : Fin 4) (s t : State) : Prop where
  regs : RegsOff (reachedRegs n) s t
  gate : ∀ m, m ≠ n → (t.lane m).wgate = (s.lane m).wgate
  tim : ∀ m, m ≠ n → t.tim m = s.tim m
  sv : ∀ m, m ≠ n → t.sv m = s.sv m
  cmd : t.cmd = { s.cmd with epochs := t.cmd.epochs, cancels := t.cmd.cancels, trackers := t.cmd.trackers }
  dev : t.dev = { s.dev with caps := t.dev.caps }
  only : t = { s with regs := t.regs, dev := t.dev, lanes := t.lanes, timing := t.timing, seqs := t.seqs, chns := t.chns, srvs := t.srvs,
                      asts := t.asts, cmd := t.cmd, freeCtr := t.freeCtr }

variable {n : Fin 4}

theorem LaneReach.refl (s : State) : LaneReach n s s :=
  ⟨fun _ _ _ _ => rfl, fun _ _ => rfl, fun _ _ => rfl, fun _ _ => rfl, rfl, rfl, rfl⟩

theorem LaneReach.trans {u : State} (h : LaneReach n s t) (k : LaneReach n t u) : LaneReach n s u where
  regs := h.regs.trans k.regs
  gate m hm := (k.gate m hm).trans (h.gate m hm)
  tim m hm := (k.tim m hm).trans (h.tim m hm)
  sv m hm := (k.sv m hm).trans (h.sv m hm)
  cmd := by rw [k.cmd, h.cmd]
  dev := by rw [k.dev, h.dev]
  only := by rw [k.only, h.only]

theorem LaneReach.foldl {α : Type} (f : State → α → State) (h : ∀ s a, LaneReach n s (f s a)) (l : List α) :
    ∀ s, LaneReach n s (l.foldl f s) := by
  induction l with
  | nil => exact fun s => .refl s
  | cons a t ih => exact fun s => (h s a).trans (ih _)

/-- A state that differs in registers that the lane can write. -/
theorem LaneReach.of_setReg (s : State) {u : UnitId} {o : Nat} (ho : o < 0x1000) (hu : reachedRegs n u o) (w : Word) :
    LaneReach n s (s.setReg u o w) :=
  ⟨RegsOff.setReg s ho hu w, fun _ _ => rfl, fun _ _ => rfl, fun _ _ => rfl, rfl, rfl, rfl⟩

theorem LaneReach.of_setF (s : State) {u : UnitId} {f : Field} (ho : f.off < 0x1000) (hu : reachedRegs n u f.off) (v : Nat) :
    LaneReach n s (s.setF u f v) := LaneReach.of_setReg s ho hu _

theorem LaneReach.of_count64 (s : State) {u : UnitId} {o : Nat} (ho : o + 4 < 0x1000) (hu : reachedRegs n u o) (hv : reachedRegs n u (o + 4)) :
    LaneReach n s (s.count64 u o) := (LaneReach.of_setReg s (by omega) hu _).trans (LaneReach.of_setReg _ ho hv _)

/-- Channels, assist controllers and sequencers are the lane's to change. -/
theorem LaneReach.of_units (s : State) (c : Vector Channel 4) (a : Vector Assist 4) (q : Vector Sequencer 4) :
    LaneReach n s { s with chns := c, asts := a, seqs := q } :=
  ⟨fun _ _ _ _ => rfl, fun _ _ => rfl, fun _ _ => rfl, fun _ _ => rfl, rfl, rfl, rfl⟩

theorem LaneReach.setCh (s : State) (m : Fin 4) (c : Channel) : LaneReach n s (s.setCh m c) := .of_units s _ _ _

theorem LaneReach.setAt (s : State) (m : Fin 4) (a : Assist) : LaneReach n s (s.setAt m a) := .of_units s _ _ _

theorem LaneReach.setSq (s : State) (m : Fin 4) (q : Sequencer) : LaneReach n s (s.setSq m q) := .of_units s _ _ _

theorem State.lane_setLane_ne (s : State) {m k : Fin 4} (h : m ≠ k) (l : Lane) : (s.setLane k l).lane m = s.lane m := by
  simp [State.lane, State.setLane, Vector.getElem_set_ne, Fin.val_ne_iff.mpr h.symm]

theorem State.tim_setTim_ne (s : State) {m k : Fin 4} (h : m ≠ k) (l : Timing) : (s.setTim k l).tim m = s.tim m := by
  simp [State.tim, State.setTim, Vector.getElem_set_ne, Fin.val_ne_iff.mpr h.symm]

theorem State.sv_setSv_ne (s : State) {m k : Fin 4} (h : m ≠ k) (v : Servo) : (s.setSv k v).sv m = s.sv m := by
  simp [State.sv, State.setSv, Vector.getElem_set_ne, Fin.val_ne_iff.mpr h.symm]

/-- A lane whose write gate stays. -/
theorem LaneReach.setLane (s : State) (m : Fin 4) {l : Lane} (hl : l.wgate = (s.lane m).wgate) : LaneReach n s (s.setLane m l) where
  regs _ _ _ _ := rfl
  gate k _ := by
    by_cases hk : k = m
    · rw [hk, State.lane_setLane_same, hl]
    · rw [State.lane_setLane_ne s hk]
  tim _ _ := rfl
  sv _ _ := rfl
  cmd := rfl
  dev := rfl
  only := rfl

/-- The lane's own state. -/
theorem LaneReach.setLane_own (s : State) (l : Lane) : LaneReach n s (s.setLane n l) where
  regs _ _ _ _ := rfl
  gate _ hm := by rw [State.lane_setLane_ne s hm]
  tim _ _ := rfl
  sv _ _ := rfl
  cmd := rfl
  dev := rfl
  only := rfl

theorem LaneReach.setTim (s : State) (x : Timing) : LaneReach n s (s.setTim n x) where
  regs _ _ _ _ := rfl
  gate _ _ := rfl
  tim _ hm := State.tim_setTim_ne s hm x
  sv _ _ := rfl
  cmd := rfl
  dev := rfl
  only := rfl

theorem LaneReach.setSv (s : State) (v : Servo) : LaneReach n s (s.setSv n v) where
  regs _ _ _ _ := rfl
  gate _ _ := rfl
  tim _ _ := rfl
  sv _ hm := State.sv_setSv_ne s hm v
  cmd := rfl
  dev := rfl
  only := rfl

theorem LaneReach.setTracker (s : State) (x : Tracker) : LaneReach n s (s.setTracker x) :=
  ⟨fun _ _ _ _ => rfl, fun _ _ => rfl, fun _ _ => rfl, fun _ _ => rfl, rfl, rfl, rfl⟩

theorem LaneReach.capEnd (s : State) (k : CapKind) : LaneReach n s (s.capEnd k) :=
  ⟨fun _ _ _ _ => rfl, fun _ _ => rfl, fun _ _ => rfl, fun _ _ => rfl, rfl, rfl, rfl⟩

theorem LaneReach.spend (s : State) : LaneReach n s s.spend :=
  ⟨fun _ _ _ _ => rfl, fun _ _ => rfl, fun _ _ => rfl, fun _ _ => rfl, rfl, rfl, rfl⟩

/-! ### Sectors settled (R120, R123, R128)

A sector's handling, whatever lane it is of, stays within every lane's reach: it writes channel registers but no write status, and no
gate or timing unit. -/

theorem State.ddResult_reach (s : State) (m : Fin 4) (a b c : Nat) : LaneReach n s (s.ddResult m a b c) :=
  ((LaneReach.of_setF s (by decide) (.chn _ _ (by decide)) _).trans (LaneReach.of_setF _ (by decide) (.chn _ _ (by decide)) _)).trans
    (LaneReach.of_setF _ (by decide) (.chn _ _ (by decide)) _)

theorem State.ddNext_reach (s : State) (m : Fin 4) : LaneReach n s (s.ddNext m) := by
  unfold State.ddNext
  dsimp only
  split
  · exact .refl s
  · split
    · exact (LaneReach.setCh s m _).trans (State.ddResult_reach _ _ _ _ _)
    · split
      · exact (LaneReach.setCh s m _).trans (State.ddResult_reach _ _ _ _ _)
      · exact LaneReach.setCh s m _

theorem State.releaseOn_reach (s : State) (m : Fin 4) (p : Pin → Bool) : LaneReach n s (s.releaseOn m p) := by
  unfold State.releaseOn
  dsimp only
  split
  · exact (LaneReach.setCh s m _).trans (State.ddNext_reach _ m)
  · exact LaneReach.setCh s m _

theorem LaneReach.chnErr (s : State) (m : Fin 4) (i : Nat) : LaneReach n s (s.err (.chn m) i) :=
  LaneReach.of_setReg s (by decide) (.chn _ _ (by decide)) _

theorem State.classify_reach (s : State) (m : Fin 4) (r : SectRef) (b : Bool) : LaneReach n s (s.classify m r b) := by
  unfold State.classify State.transient State.lasting
  split
  · split
    · exact (LaneReach.chnErr s m _).trans (LaneReach.of_setReg _ (by decide) (.chn _ _ (by decide)) _)
    · exact (LaneReach.chnErr s m _).trans (LaneReach.of_setReg _ (by decide) (.chn _ _ (by decide)) _)
  · exact .refl s

/-- An epoch's advance (R80, R87). -/
theorem State.advanceEpoch_reach (s : State) (i : Nat) : LaneReach n s (s.advanceEpoch i) := by
  unfold State.advanceEpoch
  dsimp only
  refine LaneReach.trans ?_ (LaneReach.foldl _ (fun t m => t.releaseOn_reach m _) _ _)
  refine LaneReach.trans ?_ (LaneReach.foldl _ (fun t m => LaneReach.foldl _ (fun u x => u.classify_reach m _ _) _ t) _ _)
  exact ⟨fun _ _ _ _ => rfl, fun m _ => by simp [State.lane], fun _ _ => rfl, fun _ _ => rfl, rfl, rfl, rfl⟩

theorem State.raceCheck_reach (s : State) (i : Nat) : LaneReach n s (s.raceCheck i) := by
  unfold State.raceCheck
  split
  · exact .refl s
  · split
    · exact s.advanceEpoch_reach i
    · exact .refl s

theorem State.legEnded_reach (s : State) (m : Fin 4) (i e : Nat) : LaneReach n s (s.legEnded m i e) := by
  unfold State.legEnded
  split
  · exact .refl s
  · exact (LaneReach.setTracker s _).trans (State.raceCheck_reach _ i)

theorem State.formReport_reach (s : State) (m : Fin 4) (d : Disp) (st : Nat) : LaneReach n s (s.formReport m d st) := by
  unfold State.formReport
  dsimp only
  split
  · exact (LaneReach.setLane s m (by rfl)).trans (State.legEnded_reach _ m _ _)
  · exact LaneReach.setLane s m (by rfl)

theorem State.reportSettled_reach (s : State) (m : Fin 4) : LaneReach n s (s.reportSettled m) :=
  (LaneReach.setLane s m (by rfl)).trans (LaneReach.foldl _ (fun t d => t.formReport_reach m d _) _ _)

theorem State.finish_reach (s : State) (m : Fin 4) (r : SectRef) (ok : Bool) : LaneReach n s (s.finish m r ok) :=
  (s.classify_reach m r ok).trans ((LaneReach.setLane _ m (by rfl)).trans (State.reportSettled_reach _ m))

/-! ### Gates (R127, R156, R208) -/

theorem State.updWgate_reach (s : State) (n : Fin 4) : LaneReach n s (s.updWgate n) := LaneReach.setLane_own s _

theorem State.updAgate_reach (s : State) (n : Fin 4) : LaneReach n s (s.updAgate n) := by
  have hbit : LaneReach n s (s.setF (.ast n) F.AST_STAT_AGATE (bit (s.agateCond n))) := LaneReach.of_setF s (by decide) (.ast _ _) _
  unfold State.updAgate
  dsimp only
  split
  · exact hbit.trans (LaneReach.setAt _ n _)
  · split
    · exact hbit.trans (LaneReach.setAt _ n _)
    · exact hbit

theorem State.haltTiming_reach (s : State) (n : Fin 4) (w : Bool) : LaneReach n s (s.haltTiming n w) := by
  unfold State.haltTiming
  dsimp only
  refine LaneReach.trans ?_ (State.updAgate_reach _ n)
  refine LaneReach.trans ?_ (LaneReach.foldl _ (fun t r => t.finish_reach n r false) _ _)
  exact (((LaneReach.setTim s _).trans (LaneReach.setCh _ n _)).trans (LaneReach.of_setF _ (by decide) (.ast _ _) 0)).trans
    (State.updWgate_reach _ n)

theorem State.writeStop_reach (s : State) (n : Fin 4) (c : Nat) : LaneReach n s (s.writeStop n c) := by
  unfold State.writeStop
  dsimp only
  refine LaneReach.trans ?_ (State.haltTiming_reach _ n true)
  refine LaneReach.trans ?_ (LaneReach.setCh _ n _)
  refine LaneReach.trans ?_ (LaneReach.chnErr _ n _)
  refine LaneReach.trans ?_ (LaneReach.of_count64 _ (by decide) (.ownChn _ _) (.ownChn _ _))
  exact (LaneReach.of_setF s (by decide) (.ownChn _ _) _).trans (LaneReach.of_setF _ (by decide) (.ownChn _ _) _)

/-! ### Servo modes (R156, R181, R185, R187) -/

theorem State.setInhibit_reach (s : State) (n : Fin 4) (b : Bool) : LaneReach n s (s.setInhibit n b) := by
  unfold State.setInhibit
  extract_lets rise s1 s2
  have h2 : LaneReach n s s2 := by
    have h1 : LaneReach n s s1 := LaneReach.of_setF s (by decide) (.srv _ _) _
    simp only [s2]
    split
    · exact h1.trans (LaneReach.of_count64 _ (by decide) (.srv _ _) (.srv _ _))
    · exact h1
  split
  · exact h2.trans (State.writeStop_reach _ n _)
  · exact h2.trans (State.updWgate_reach _ n)

theorem State.slockFall_reach (s : State) (n : Fin 4) : LaneReach n s (s.slockFall n) := by
  unfold State.slockFall
  split
  · exact (((LaneReach.of_setF s (by decide) (.srv _ _) _).trans (State.setInhibit_reach _ n _)).trans (State.haltTiming_reach _ n _)).trans
      (State.updAgate_reach _ n)
  · exact s.setInhibit_reach n true

theorem mbxOff_lt (n : Fin 4) : mbxOff n < 0x1000 := by revert n; decide

theorem State.enterMode_reach (s : State) (n : Fin 4) (m : Nat) : LaneReach n s (s.enterMode n m) := by
  unfold State.enterMode
  extract_lets s1
  have h1 : LaneReach n s s1 := by
    have hmode : LaneReach n s (s.setMode n m) := LaneReach.of_setF s (by decide) (.srv _ _) m
    simp only [s1]
    split
    · exact hmode
    · exact hmode.trans (State.setInhibit_reach _ n _)
  split
  · exact h1
  · exact h1.trans (LaneReach.of_setReg _ (mbxOff_lt n) (.piv _ _ _) _)

theorem State.seekError_reach (s : State) (n : Fin 4) (us : Nat) : LaneReach n s (s.seekError n us) := by
  have hstat : LaneReach n s (s.seekStat n 2 us) :=
    (((LaneReach.of_setF s (by decide) (.srv _ _) _).trans (LaneReach.of_setF _ (by decide) (.srv _ _) _)).trans
      (LaneReach.of_setF _ (by decide) (.srv _ _) _)).trans (LaneReach.of_setF _ (by decide) (.srv _ _) _)
  exact ((hstat.trans (LaneReach.setSv _ _)).trans (LaneReach.capEnd _ _)).trans (LaneReach.setSq _ n _)

theorem State.endSeekForMode_reach (s : State) (n : Fin 4) : LaneReach n s (s.endSeekForMode n) := by
  unfold State.endSeekForMode
  split
  · exact (s.seekError_reach n _).trans (LaneReach.spend _)
  · exact .refl s

theorem State.rotValid_reach (s : State) : LaneReach n s s.rotValid := by
  unfold State.rotValid
  split
  · exact .refl s
  · split
    · exact ((LaneReach.of_setF s (by decide) (.med _ _) _).trans (LaneReach.of_setF _ (by decide) (.med _ _) _)).trans (LaneReach.spend _)
    · exact .refl s

/-- The way into a mode that takes the head off its track (R156, R185, R196, R197). -/
theorem State.leaveTrack_reach (s : State) (n : Fin 4) (m : Nat) : LaneReach n s (((s.slockFall n).endSeekForMode n).enterMode n m) :=
  ((s.slockFall_reach n).trans (State.endSeekForMode_reach _ n)).trans (State.enterMode_reach _ n m)

theorem State.hwRetract_reach (s : State) (n : Fin 4) (b : Bool) : LaneReach n s (s.hwRetract n b) := by
  unfold State.hwRetract State.voltageOut
  dsimp only
  refine LaneReach.trans ?_ (State.rotValid_reach _)
  refine LaneReach.trans ?_ (LaneReach.of_setF _ (by decide) (.srv _ _) 0)
  refine LaneReach.trans ?_ (LaneReach.setSv _ _)
  exact ((s.leaveTrack_reach n mRetract).trans (LaneReach.of_setF _ (by decide) (.srv _ _) _)).trans (LaneReach.of_setF _ (by decide) (.srv _ _) _)

theorem State.retractLane_reach (s : State) (n : Fin 4) : LaneReach n s (s.retractLane n) := by
  unfold State.retractLane
  split
  · exact LaneReach.setSv s _
  · exact s.hwRetract_reach n false

theorem State.beginUnload_reach (s : State) (n : Fin 4) : LaneReach n s (s.beginUnload n) := by
  unfold State.beginUnload State.bemfDrive
  dsimp only
  refine LaneReach.trans ?_ (State.rotValid_reach _)
  refine LaneReach.trans ?_ (LaneReach.setSv _ _)
  exact ((s.leaveTrack_reach n mUnloading).trans (LaneReach.of_setF _ (by decide) (.srv _ _) _)).trans (LaneReach.spend _)

end Sys2Proof.Machine

/-! SUPPORT. What a halt of a lane, a retract and an unload achieve: the lane's gates and the servo's mode. -/

namespace Sys2Proof.Machine

variable {s t : State}

/-! ### Gates (R127, R156, R208) -/

/-- Every lane has another. -/
theorem exists_lane_ne (m : Fin 4) : ∃ k, m ≠ k := ⟨m + 1, by revert m; decide⟩

/-- The sectors given up leave the lane's write gate and every servo's registers. -/
theorem State.giveUp_leaves (s : State) (n : Fin 4) (l : List SectRef) (m : Fin 4) :
    ((l.foldl (fun u r => u.finish n r false) s).lane m).wgate = (s.lane m).wgate
      ∧ ∀ o, o < 0x1000 → (l.foldl (fun u r => u.finish n r false) s).reg (.srv m) o = s.reg (.srv m) o := by
  obtain ⟨k, hk⟩ := exists_lane_ne m
  have hreach : LaneReach k s (l.foldl (fun u r => u.finish n r false) s) := LaneReach.foldl _ (fun t r => t.finish_reach n r false) l s
  exact ⟨hreach.gate m hk, fun o ho => hreach.regs _ o ho hk⟩

/-- The assist gate's update leaves every servo's registers. -/
theorem State.updAgate_srv (s : State) (n m : Fin 4) {o : Nat} (ho : o < 0x1000) : (s.updAgate n).reg (.srv m) o = s.reg (.srv m) o :=
  (s.updAgate_spec n).2.1 _ o ho (by simp)

/-- A halt leaves every servo's registers. -/
theorem State.haltTiming_srv (s : State) (n : Fin 4) (w : Bool) (m : Fin 4) {o : Nat} (ho : o < 0x1000) :
    (s.haltTiming n w).reg (.srv m) o = s.reg (.srv m) o := by
  unfold State.haltTiming
  dsimp only
  rw [State.updAgate_srv _ n m ho, (State.giveUp_leaves _ n _ m).2 o ho]
  exact State.reg_setReg_ne _ (by simp [key_inj ho (show F.AST_STAT_AG.off < 0x1000 by decide)]) _

/-- A write stop leaves every servo's registers. -/
theorem State.writeStop_srv (s : State) (n : Fin 4) (c : Nat) (m : Fin 4) {o : Nat} (ho : o < 0x1000) :
    (s.writeStop n c).reg (.srv m) o = s.reg (.srv m) o := by
  have hchn : ∀ (t : State) (j : Nat) (w : Word), j < 0x1000 → (t.setReg (.chn n) j w).reg (.srv m) o = t.reg (.srv m) o :=
    fun t j w hj => State.reg_setReg_ne t (by simp [key_inj ho hj]) w
  unfold State.writeStop State.err State.setBits State.count64 State.setReg64 State.setF
  dsimp only
  rw [State.haltTiming_srv _ n true m ho, State.setCh_reg, hchn _ _ _ (by decide), hchn _ _ _ (by decide), hchn _ _ _ (by decide),
    hchn _ _ _ (by decide), hchn _ _ _ (by decide)]

/-- A halt closes the lane's gates and ends its captures, its entries and its write (R156). -/
theorem State.haltTiming_closes (s : State) (n : Fin 4) (w : Bool) : ((s.haltTiming n w).lane n).wgate = false
    ∧ (s.haltTiming n w).agate n = false ∧ ((s.haltTiming n w).tim n).caps = [] ∧ ((s.haltTiming n w).tim n).timed = []
    ∧ ((s.haltTiming n w).tim n).wreq = false := by
  unfold State.haltTiming
  extract_lets t waiting same reads cut lost s1 c s2 s3
  let s4 := lost.foldl (fun u r => u.finish n r false) s3
  have h3 : s3.tim n = { t with timed := [], act := [], caps := [], ag := false, wreq := false, wstop := t.wstop || w } :=
    State.tim_setTim_same s n _
  have htim : (s4.updAgate n).tim n = s3.tim n := congrArg (fun v : Vector Timing 4 => v[n]) (State.giveUp_keeps s3 n lost).timing
  have htim4 : s4.tim n = s3.tim n :=
    congrArg (fun v : Vector Timing 4 => v[n]) (SettleKeeps.foldl _ (fun t r => t.finish_keeps n r false) lost s3).timing
  refine ⟨?_, ?_, ?_⟩
  · have hw3 : (s3.lane n).wgate = false := by
      simp only [s3, State.updWgate, State.lane_setLane_same, State.wgateCond]
      rw [show State.tim (State.setF s2 (.ast n) F.AST_STAT_AG 0) n = s3.tim n from rfl, h3]
      rfl
    have hlanes : (s4.updAgate n).lane n = s4.lane n := by rw [(s4.updAgate_spec n).2.2]; rfl
    rw [show ((s4.updAgate n).lane n).wgate = (s4.lane n).wgate from congrArg Lane.wgate hlanes, (State.giveUp_leaves s3 n lost n).1, hw3]
  · rw [show (s4.updAgate n).agate n = _ from (s4.updAgate_spec n).1, State.agateCond, htim4, h3]
    rfl
  · rw [show State.tim (s4.updAgate n) n = _ from htim, h3]
    exact ⟨rfl, rfl, rfl⟩

theorem State.writeStop_closes (s : State) (n : Fin 4) (c : Nat) : ((s.writeStop n c).lane n).wgate = false
    ∧ (s.writeStop n c).agate n = false ∧ ((s.writeStop n c).tim n).caps = [] ∧ ((s.writeStop n c).tim n).timed = []
    ∧ ((s.writeStop n c).tim n).wreq = false := by
  unfold State.writeStop
  exact State.haltTiming_closes _ n true

/-! ### Modes (R181, R187, R196, R197) -/

/-- A change of the write inhibit leaves every other field of SRV_STAT. -/
theorem State.setInhibit_mode (s : State) (n : Fin 4) (b : Bool) : (s.setInhibit n b).mode n = s.mode n := by
  have hfield : (s.setF (.srv n) F.SRV_STAT_WINH (bit b)).mode n = s.mode n :=
    s.f_setF_ne (.srv n) F.SRV_STAT_WINH F.SRV_STAT_MODE _ rfl (by decide) (by decide)
  have hreg : (s.setInhibit n b).reg (.srv n) Reg.SRV_STAT = (s.setF (.srv n) F.SRV_STAT_WINH (bit b)).reg (.srv n) Reg.SRV_STAT := by
    unfold State.setInhibit
    extract_lets rise s1 s2
    have h2 : s2.reg (.srv n) Reg.SRV_STAT = s1.reg (.srv n) Reg.SRV_STAT := by
      simp only [s2]
      split
      · exact RegsBut.count64 s1 (.srv n) (by decide) _ _ (by decide) (by simp; decide)
      · rfl
    split
    · exact (s2.writeStop_srv n _ n (by decide)).trans h2
    · exact h2
  exact (congrArg F.SRV_STAT_MODE.get hreg).trans hfield

/-- MODE takes the value (R181). -/
theorem State.enterMode_mode (s : State) (n : Fin 4) {m : Nat} (hm : m < 16) : (s.enterMode n m).mode n = m := by
  have hset : (s.setMode n m).mode n = m := (s.f_setF_same (.srv n) F.SRV_STAT_MODE m (by decide)).trans (Nat.mod_eq_of_lt hm)
  unfold State.enterMode
  extract_lets s1
  have h1 : s1.mode n = m := by
    simp only [s1]
    split
    · exact hset
    · exact (State.setInhibit_mode _ n true).trans hset
  split
  · exact h1
  · have hpiv : ∀ w, (s1.setReg (pivUnit n) (mbxOff n) w).reg (.srv n) Reg.SRV_STAT = s1.reg (.srv n) Reg.SRV_STAT := fun w =>
      State.reg_setReg_ne s1 (by simp [key_inj (show Reg.SRV_STAT < 0x1000 by decide) (mbxOff_lt n), pivUnit]) w
    exact (congrArg F.SRV_STAT_MODE.get (hpiv _)).trans h1

/-- Another unit's register, and another register of the servo, leave the mode. -/
theorem State.mode_setReg_ne (s : State) (n : Fin 4) {u : UnitId} {o : Nat} (h : key (.srv n) Reg.SRV_STAT ≠ key u o) (w : Word) :
    (s.setReg u o w).mode n = s.mode n := congrArg F.SRV_STAT_MODE.get (State.reg_setReg_ne s h w)

theorem State.rotValid_mode (s : State) (n : Fin 4) : s.rotValid.mode n = s.mode n := by
  have hmed : ∀ (t : State) (o : Nat) (w : Word), o < 0x1000 → (t.setReg .med o w).mode n = t.mode n := fun t o w ho =>
    State.mode_setReg_ne t n (by simp [key_inj (show Reg.SRV_STAT < 0x1000 by decide) ho]) w
  unfold State.rotValid
  split
  · rfl
  · split
    · exact (hmed _ _ _ (by decide)).trans (hmed _ _ _ (by decide))
    · rfl

/-- A field of another register of the servo leaves the mode. -/
theorem State.mode_setF_off (s : State) (n : Fin 4) {f : Field} (h : f.off ≠ Reg.SRV_STAT) (v : Nat) :
    (s.setF (.srv n) f v).mode n = s.mode n := State.mode_setReg_ne s n (key_inj_off.not.mpr h.symm) _

theorem State.mode_spend (s : State) (n : Fin 4) : s.spend.mode n = s.mode n := rfl

theorem State.mode_setSv (s : State) (n : Fin 4) (v : Servo) : (s.setSv n v).mode n = s.mode n := rfl

/-- The hardware retract path's mode (R197). -/
theorem State.hwRetract_mode (s : State) (n : Fin 4) (b : Bool) : (s.hwRetract n b).mode n = mRetract := by
  have hshock : ∀ t : State, (t.setF (.srv n) F.SRV_STAT_SHOCK 0).mode n = t.mode n := fun t =>
    t.f_setF_ne (.srv n) F.SRV_STAT_SHOCK F.SRV_STAT_MODE _ rfl (by decide) (by decide)
  unfold State.hwRetract State.voltageOut
  dsimp only
  rw [State.rotValid_mode, hshock, State.mode_setSv, State.mode_setF_off _ n (by decide), State.mode_setF_off _ n (by decide),
    State.enterMode_mode _ n (by decide)]

theorem State.retractLane_mode (s : State) (n : Fin 4) : (s.retractLane n).mode n = mRetract := by
  unfold State.retractLane
  split
  case isTrue h => exact h
  case isFalse => exact s.hwRetract_mode n false

/-- An unload's mode (R196). -/
theorem State.beginUnload_mode (s : State) (n : Fin 4) : (s.beginUnload n).mode n = mUnloading := by
  unfold State.beginUnload State.bemfDrive
  dsimp only
  rw [State.rotValid_mode, State.mode_setSv, State.mode_spend, State.mode_setF_off _ n (by decide), State.enterMode_mode _ n (by decide)]

/-! ### Every lane in turn -/

/-- An operation of one lane after another does to each lane of the list what it does to one, where it leaves what it needs and what it
has done in the others. -/
theorem foldl_each {f : State → Fin 4 → State} {P Q : State → Fin 4 → Prop} (hdo : ∀ s n, P s n → Q (f s n) n)
    (hneeds : ∀ s n m, m ≠ n → P s m → P (f s n) m) (hdone : ∀ s n m, m ≠ n → Q s m → Q (f s n) m) {l : List (Fin 4)} (hnd : l.Nodup)
    {m : Fin 4} (hm : m ∈ l) : ∀ s, P s m → Q (l.foldl f s) m := by
  have hkeeps : ∀ (l : List (Fin 4)), m ∉ l → ∀ s, Q s m → Q (l.foldl f s) m := by
    intro l
    induction l with
    | nil => exact fun _ _ h => h
    | cons a t ih => exact fun hm s h => ih (fun ht => hm (List.mem_cons_of_mem _ ht)) _ (hdone s a m (fun he => hm (by simp [he])) h)
  induction l with
  | nil => exact nomatch hm
  | cons a t ih =>
    intro s hp
    obtain ⟨hat, hnt⟩ := List.nodup_cons.mp hnd
    by_cases hma : m = a
    · subst hma
      exact hkeeps t hat _ (hdo s m hp)
    · exact ih hnt ((List.mem_cons.mp hm).resolve_left hma) _ (hneeds s a m hma hp)

theorem mem_lanes4 (n : Fin 4) : n ∈ lanes4 := by revert n; decide

/-- A lane's mode, from the registers outside another lane's reach. -/
theorem LaneReach.mode {n m : Fin 4} (h : LaneReach n s t) (hm : m ≠ n) : t.mode m = s.mode m :=
  h.regs.f (f := F.SRV_STAT_MODE) (by decide) hm

/-- What the media's work leaves: registers outside the channels, servos, assist controllers, pivots and the media group; the rest of the
device but for the lanes' state. -/
def mediaRegs (u : UnitId) (_ : Nat) : Prop :=
  match u with
  | .chn _ | .ast _ | .srv _ | .piv _ | .med => True
  | _ => False

/-- What media work of any lanes leaves. -/
structure MediaReach (s t : State) : Prop where
  regs : RegsOff mediaRegs s t
  cmd : t.cmd = { s.cmd with epochs := t.cmd.epochs, cancels := t.cmd.cancels, trackers := t.cmd.trackers }
  dev : t.dev = { s.dev with caps := t.dev.caps }
  only : t = { s with regs := t.regs, dev := t.dev, lanes := t.lanes, timing := t.timing, seqs := t.seqs, chns := t.chns, srvs := t.srvs,
                      asts := t.asts, cmd := t.cmd, freeCtr := t.freeCtr }

theorem MediaReach.refl (s : State) : MediaReach s s := ⟨fun _ _ _ _ => rfl, rfl, rfl, rfl⟩

theorem MediaReach.trans {u : State} (h : MediaReach s t) (k : MediaReach t u) : MediaReach s u where
  regs := h.regs.trans k.regs
  cmd := by rw [k.cmd, h.cmd]
  dev := by rw [k.dev, h.dev]
  only := by rw [k.only, h.only]

/-- One lane's reach is the media's. -/
theorem LaneReach.media {n : Fin 4} (h : LaneReach n s t) : MediaReach s t where
  regs := h.regs.mono fun u _ hu => by
    cases u <;> trivial
  cmd := h.cmd
  dev := h.dev
  only := h.only

/-- Every lane in turn stays within the media's reach. -/
theorem MediaReach.lanes {f : State → Fin 4 → State} (h : ∀ s n, LaneReach n s (f s n)) (l : List (Fin 4)) :
    ∀ s, MediaReach s (l.foldl f s) := by
  induction l with
  | nil => exact MediaReach.refl
  | cons a t ih => exact fun s => (h s a).media.trans (ih _)

theorem State.retractAll_reach (s : State) : MediaReach s s.retractAll := MediaReach.lanes State.retractLane_reach lanes4 s

/-- Every lane's stack retracts (R198). -/
theorem State.retractAll_mode (s : State) (n : Fin 4) : s.retractAll.mode n = mRetract :=
  foldl_each (P := fun _ _ => True) (Q := fun t m => t.mode m = mRetract) (fun t m _ => t.retractLane_mode m) (fun _ _ _ _ h => h)
    (fun t m _ hne h => ((t.retractLane_reach m).mode hne).trans h) (by decide) (mem_lanes4 n) s trivial

/-- A lane unloads where its loop is closed. -/
theorem State.unloadLane_reach (s : State) (n : Fin 4) : LaneReach n s (if closedLoop (s.mode n) then s.beginUnload n else s) := by
  split
  · exact s.beginUnload_reach n
  · exact .refl s

theorem State.unloadAll_reach (s : State) : MediaReach s s.unloadAll := MediaReach.lanes State.unloadLane_reach lanes4 s

/-- Every lane in closed loop unloads (R196). -/
theorem State.unloadAll_mode (s : State) (n : Fin 4) (h : closedLoop (s.mode n) = true) : s.unloadAll.mode n = mUnloading :=
  foldl_each (P := fun t m => closedLoop (t.mode m) = true) (Q := fun t m => t.mode m = mUnloading)
    (fun t m hm => by rw [if_pos hm, t.beginUnload_mode m])
    (fun t m _ hne hk => by rw [(t.unloadLane_reach m).mode hne, hk]) (fun t m _ hne hk => ((t.unloadLane_reach m).mode hne).trans hk)
    (by decide) (mem_lanes4 n) s h

end Sys2Proof.Machine

/-! SUPPORT. What resets leave: the cause of a warm reset, and the registers, the modes and the rest of the device after a cold one. -/

namespace Sys2Proof.Machine

variable {s t : State}

theorem exec_warmReset (c : WarmCause) (s : State) : exec (.warmReset c) s = done s (fun s => s.warmReset c) := rfl

theorem exec_nvmSubsystemReset (fn : Fin 64) (s : State) : exec (.nvmSubsystemReset fn) s
    = done s (fun s => s.when (s.fnExists fn.val && s.linkIsUp (s.fnPort fn.val)) (s.warmReset .subsystem)) := rfl

theorem exec_pwronNFall (s : State) : exec .pwronNFall s = leave s (s.coldReset 0 .coldHeld) := rfl

theorem exec_unplannedPowerLoss (s : State) : exec .unplannedPowerLoss s = leave s (s.coldReset 0 .off) := rfl

theorem exec_holdover2s (s : State) : exec .holdover2s s = done s State.holdover2 := rfl

/-! ### Warm resets (R43, R52) -/

/-- DEV_RST_CAUSE is written after every unit has reset. -/
theorem State.warmReset_cause (s : State) (c : WarmCause) :
    (s.warmReset c).reg .dev Reg.DEV_RST_CAUSE = BitVec.ofNat 32 (2 ^ warmBit c) := by
  unfold State.warmReset State.countSat
  exact (State.reg_setReg_ne _ (key_inj_off.not.mpr (by decide)) _).trans (State.reg_setReg_same _ _ _ _)

/-! ### The retracts of a cold reset (R48) -/

/-- A lane whose stack may be off its ramp retracts. -/
theorem State.retractOne_reach (s : State) (n : Fin 4) :
    LaneReach n s (if s.maybeOffRamp n && s.mode n != mRetract then s.hwRetract n false else s) := by
  split
  · exact s.hwRetract_reach n false
  · exact .refl s

theorem State.retractLoaded_reach (s : State) : MediaReach s s.retractLoaded := MediaReach.lanes State.retractOne_reach lanes4 s

/-- The modes when every stack that may be off its ramp retracts. -/
theorem State.retractLoaded_mode (s : State) (n : Fin 4) :
    s.retractLoaded.mode n = if s.maybeOffRamp n = true then mRetract else s.mode n := by
  refine foldl_each (P := fun t m => t.mode m = s.mode m ∧ t.sv m = s.sv m)
    (Q := fun t m => t.mode m = if s.maybeOffRamp m = true then mRetract else s.mode m) ?_ ?_ ?_ (by decide) (mem_lanes4 n) s ⟨rfl, rfl⟩
  · rintro t m ⟨hmode, hsv⟩
    have hoff : t.maybeOffRamp m = s.maybeOffRamp m := by rw [State.maybeOffRamp, State.maybeOffRamp, hmode, hsv]
    rw [hoff, hmode]
    cases s.maybeOffRamp m with
    | false => exact hmode
    | true =>
      by_cases hret : s.mode m = mRetract
      · simp [hret, hmode]
      · simp [hret, t.hwRetract_mode m]
  · rintro t k m hne ⟨hmode, hsv⟩
    exact ⟨((t.retractOne_reach k).mode hne).trans hmode, ((t.retractOne_reach k).sv m hne).trans hsv⟩
  · exact fun t k m hne h => ((t.retractOne_reach k).mode hne).trans h

/-- The registers that a retract in progress keeps. -/
def carriedRegs (s : State) (u : UnitId) (o : Nat) : Prop :=
  ∃ n, u = .srv n ∧ s.mode n = mRetract ∧ (o = Reg.UNIT_STAT ∨ o = Reg.SRV_STAT ∨ o = Reg.SRV_VCM_OUT)

/-- The retract of one lane goes on (R48). -/
def State.carryOne (s u : State) (n : Fin 4) : State :=
  if s.mode n = mRetract then
    ((((u.setReg (.srv n) Reg.SRV_STAT (s.reg (.srv n) Reg.SRV_STAT)).setReg (.srv n) Reg.SRV_VCM_OUT
      (s.reg (.srv n) Reg.SRV_VCM_OUT)).setSv n
        { Servo.reset with retract := true, offRamp := true, rIdsar := (s.sv n).rIdsar })).setUnitState (.srv n) stReset
  else u

theorem State.carryRetracts_eq (s t : State) : s.carryRetracts t = lanes4.foldl s.carryOne t := rfl

/-- What a retract that goes on leaves, and what it carries. -/
theorem State.carryOne_spec (s u : State) (n : Fin 4) : RegsOff (fun v o => carriedRegs s v o ∧ v = .srv n) u (s.carryOne u n)
    ∧ s.carryOne u n = { u with regs := (s.carryOne u n).regs, srvs := (s.carryOne u n).srvs }
    ∧ (s.mode n = mRetract → (s.carryOne u n).mode n = mRetract ∧ (s.carryOne u n).unitState (.srv n) = stReset) := by
  unfold State.carryOne
  split
  case isTrue h =>
    have hcarried : ∀ o, o = Reg.UNIT_STAT ∨ o = Reg.SRV_STAT ∨ o = Reg.SRV_VCM_OUT → carriedRegs s (.srv n) o ∧ UnitId.srv n = .srv n :=
      fun o ho => ⟨⟨n, rfl, h, ho⟩, rfl⟩
    refine ⟨?_, rfl, fun _ => ⟨?_, State.f_setF_same _ _ _ _ (by decide)⟩⟩
    · refine RegsOff.trans ?_ (RegsOff.setReg _ (by decide) (hcarried _ (.inl rfl)) _)
      exact (RegsOff.setReg u (by decide) (hcarried _ (.inr (.inl rfl))) _).trans
        (RegsOff.setReg _ (by decide) (hcarried _ (.inr (.inr rfl))) _)
    · rw [State.setUnitState, State.mode_setF_off _ n (by decide), State.mode_setSv, State.mode_setReg_ne _ n (key_inj_off.not.mpr (by decide))]
      exact (congrArg F.SRV_STAT_MODE.get (State.reg_setReg_same u _ _ _)).trans h
  case isFalse h => exact ⟨fun _ _ _ _ => rfl, rfl, fun hm => absurd hm h⟩

theorem State.carryRetracts_regs (s t : State) : RegsOff (carriedRegs s) t (s.carryRetracts t) := by
  have hlist : ∀ (l : List (Fin 4)) (u : State), RegsOff (carriedRegs s) u (l.foldl s.carryOne u) := by
    intro l
    induction l with
    | nil => exact fun _ _ _ _ _ => rfl
    | cons n l ih => exact fun u => ((s.carryOne_spec u n).1.mono fun _ _ h => h.1).trans (ih _)
  exact hlist lanes4 t

theorem State.carryRetracts_only (s t : State) :
    s.carryRetracts t = { t with regs := (s.carryRetracts t).regs, srvs := (s.carryRetracts t).srvs } := by
  have hlist : ∀ (l : List (Fin 4)) (u : State), l.foldl s.carryOne u
      = { u with regs := (l.foldl s.carryOne u).regs, srvs := (l.foldl s.carryOne u).srvs } := by
    intro l
    induction l with
    | nil => exact fun _ => rfl
    | cons n l ih =>
      intro u
      rw [List.foldl_cons, ih, (s.carryOne_spec u n).2.1]
  exact hlist lanes4 t

/-- A retract goes on, and its servo is in RESET (R48). -/
theorem State.carryRetracts_mode (s t : State) {n : Fin 4} (h : s.mode n = mRetract) :
    (s.carryRetracts t).mode n = mRetract ∧ (s.carryRetracts t).unitState (.srv n) = stReset := by
  refine foldl_each (P := fun _ m => s.mode m = mRetract) (Q := fun u m => u.mode m = mRetract ∧ u.unitState (.srv m) = stReset)
    (fun u m hm => (s.carryOne_spec u m).2.2 hm) (fun _ _ _ _ hm => hm) ?_ (by decide) (mem_lanes4 n) t h
  intro u k m hne hm
  have hsrv : ∀ o, o < 0x1000 → (s.carryOne u k).reg (.srv m) o = u.reg (.srv m) o := fun o ho =>
    (s.carryOne_spec u k).1 _ o ho fun hc => hne (UnitId.srv.inj hc.2)
  exact ⟨(congrArg F.SRV_STAT_MODE.get (hsrv Reg.SRV_STAT (by decide))).trans hm.1,
    (congrArg F.UNIT_STAT_STATE.get (hsrv Reg.UNIT_STAT (by decide))).trans hm.2⟩

/-! ### Cold resets (R43) -/

/-- What a cold reset leaves but for the retracts in progress. -/
def State.coldState (s : State) (cause : Nat) (p : Power) : State :=
  ((({ State.reset with
    mem := keepNor s.mem
    vault := { Vault.reset with saveA := s.vault.saveA, saveB := s.vault.saveB, lost := s.vault.lost }
    hosts := { Hosts.reset with namespaces := s.hosts.namespaces, zones := s.hosts.zones, freeBands := s.hosts.freeBands,
                                spareSlots := s.hosts.spareSlots, allSlots := s.hosts.allSlots,
                                place := { s.place with comp := none }, life := s.hosts.life,
                                clean := s.hosts.clean, thermEvent := s.hosts.thermEvent }
    house := { House.reset with shockMask := false, pfailRaw := s.house.pfailRaw }
    dev := { Device.reset with power := p }
    freeCtr := s.freeCtr
    pending := s.pending } : State).setReg .dev Reg.DEV_RST_CAUSE (BitVec.ofNat 32 (2 ^ cause))).setReg .hzl Reg.HZL_SVN
      (s.reg .hzl Reg.HZL_SVN))

theorem State.coldReset_off (s : State) (cause : Nat) : s.coldReset cause .off = s.coldState cause .off := rfl

theorem State.coldReset_held (s : State) (cause : Nat) {p : Power} (h : p ≠ .off) :
    s.coldReset cause p = s.retractLoaded.carryRetracts (s.retractLoaded.coldState cause p) := by
  unfold State.coldReset
  simp only [if_neg h]
  rfl

/-- The registers of a state whose table is empty have their reset values. -/
theorem State.reg_of_regs_nil (h : s.regs = []) (u : UnitId) (o : Nat) : s.reg u o = regReset (key u o) := by
  rw [State.reg, h]
  rfl

theorem State.coldState_cause (s : State) (cause : Nat) (p : Power) :
    (s.coldState cause p).reg .dev Reg.DEV_RST_CAUSE = BitVec.ofNat 32 (2 ^ cause) := by
  unfold State.coldState
  exact (State.reg_setReg_ne _ (by decide) _).trans (State.reg_setReg_same _ _ _ _)

theorem State.coldState_reg (s : State) (cause : Nat) (p : Power) {u : UnitId} {o : Nat} (ho : o < 0x1000)
    (hcause : (u, o) ≠ (.dev, Reg.DEV_RST_CAUSE)) (hsvn : (u, o) ≠ (.hzl, Reg.HZL_SVN)) :
    (s.coldState cause p).reg u o = regReset (key u o) := by
  have hne : ∀ {v : UnitId} {j : Nat}, j < 0x1000 → (u, o) ≠ (v, j) → key u o ≠ key v j := fun hj h hk =>
    h (Prod.ext_iff.mpr ((key_inj ho hj).mp hk))
  unfold State.coldState
  rw [State.reg_setReg_ne _ (hne (by decide) hsvn), State.reg_setReg_ne _ (hne (by decide) hcause)]
  exact State.reg_of_regs_nil rfl u o

/-- A register outside the servos after a cold reset. -/
theorem State.coldReset_reg_other (s : State) (cause : Nat) (p : Power) {u : UnitId} {o : Nat} (ho : o < 0x1000) (hu : ∀ n, u ≠ .srv n) :
    ∃ s' : State, (s.coldReset cause p).reg u o = (s'.coldState cause p).reg u o := by
  by_cases hp : p = .off
  · subst hp
    exact ⟨s, rfl⟩
  · refine ⟨s.retractLoaded, ?_⟩
    rw [State.coldReset_held s cause hp]
    exact State.carryRetracts_regs _ _ u o ho fun ⟨n, hn, _⟩ => hu n hn

/-- DEV_RST_CAUSE after a cold reset (R52). -/
theorem State.coldReset_cause (s : State) (cause : Nat) (p : Power) :
    (s.coldReset cause p).reg .dev Reg.DEV_RST_CAUSE = BitVec.ofNat 32 (2 ^ cause) := by
  obtain ⟨s', h⟩ := s.coldReset_reg_other cause p (show Reg.DEV_RST_CAUSE < 0x1000 by decide) (u := .dev) nofun
  rw [h, State.coldState_cause]

/-- A register after a cold reset, where it is none of a servo that retracts. -/
theorem State.coldReset_reg (s : State) (cause : Nat) (p : Power) {u : UnitId} {o : Nat} (ho : o < 0x1000)
    (hcause : (u, o) ≠ (.dev, Reg.DEV_RST_CAUSE)) (hsvn : (u, o) ≠ (.hzl, Reg.HZL_SVN))
    (hret : p = .off ∨ ¬ carriedRegs s.retractLoaded u o) : (s.coldReset cause p).reg u o = regReset (key u o) := by
  by_cases hp : p = .off
  · subst hp
    exact State.coldState_reg s cause .off ho hcause hsvn
  · rw [State.coldReset_held s cause hp, State.carryRetracts_regs _ _ u o ho (hret.resolve_left hp)]
    exact State.coldState_reg _ cause p ho hcause hsvn

/-- What a cold reset leaves besides registers, memory and the servos' own state. -/
theorem State.coldReset_frame (s : State) (cause : Nat) (p : Power) : ∃ s' : State, MediaReach s s'
    ∧ s.coldReset cause p = { s'.coldState cause p with regs := (s.coldReset cause p).regs, srvs := (s.coldReset cause p).srvs } := by
  by_cases hp : p = .off
  · subst hp
    exact ⟨s, .refl s, rfl⟩
  · exact ⟨s.retractLoaded, s.retractLoaded_reach, by rw [State.coldReset_held s cause hp]; exact State.carryRetracts_only _ _⟩

theorem State.coldReset_power (s : State) (cause : Nat) (p : Power) : (s.coldReset cause p).dev = { Device.reset with power := p } := by
  obtain ⟨s', -, h⟩ := s.coldReset_frame cause p
  rw [h]
  rfl

end Sys2Proof.Machine

/-! SUPPORT. The NOR beside a region: what a program, an erase and a record appended to one region leave of memory, and that the boot
record depends on its own region alone. -/

namespace Sys2Proof.Machine

variable {s t : State}

/-! ### Tables outside some keys -/

/-- A key that a filter drops can be erased before it. -/
theorem Sparse.filter_erase {α : Type} {p : Nat → Bool} {k : Nat} (hk : p k = false) (l : List (Nat × α)) :
    (Sparse.erase l k).filter (fun e => p e.1) = l.filter (fun e => p e.1) := by
  induction l with
  | nil => rfl
  | cons e t ih =>
    obtain ⟨j, v⟩ := e
    rw [Sparse.erase]
    split
    case isTrue h =>
      subst h
      rw [ih, List.filter_cons_of_neg (by simp [hk])]
    case isFalse => simp only [List.filter_cons, ih]

/-- A key that a filter drops can be inserted before it. -/
theorem Sparse.filter_insert {α : Type} {p : Nat → Bool} {k : Nat} (hk : p k = false) (v : α) (l : List (Nat × α)) :
    (Sparse.insert l k v).filter (fun e => p e.1) = l.filter (fun e => p e.1) := by
  induction l with
  | nil => simp [Sparse.insert, hk]
  | cons e t ih =>
    obtain ⟨j, w⟩ := e
    rw [Sparse.insert]
    split
    · rw [List.filter_cons_of_neg (by simp [hk])]
    · split
      case isTrue h =>
        subst h
        rw [List.filter_cons_of_neg (by simp [hk]), List.filter_cons_of_neg (by simp [hk])]
      case isFalse => simp only [List.filter_cons, ih]

theorem Sparse.filter_set {α : Type} [DecidableEq α] {p : Nat → Bool} {k : Nat} (hk : p k = false) (d : Nat → α) (v : α)
    (l : List (Nat × α)) : (Sparse.set d l k v).filter (fun e => p e.1) = l.filter (fun e => p e.1) := by
  rw [Sparse.set]
  split
  · exact Sparse.filter_erase hk l
  · exact Sparse.filter_insert hk v l

/-! ### Memory outside a range -/

/-- The bytes that a set of addresses lists. -/
def State.window (s : State) (p : Nat → Bool) : List Host.Cell := s.mem.filter (fun c => p c.1)

/-- `t` differs from `s` in memory from `lo` to `hi` and in cached lines only. -/
structure NorReach (lo hi : Nat) (s t : State) : Prop where
  window : ∀ p : Nat → Bool, (∀ a, lo ≤ a → a < hi → p a = false) → t.window p = s.window p
  only : t = { s with mem := t.mem, lines := t.lines }

variable {lo hi : Nat}

theorem NorReach.refl (s : State) : NorReach lo hi s s := ⟨fun _ _ => rfl, rfl⟩

theorem NorReach.trans {u : State} (h : NorReach lo hi s t) (k : NorReach lo hi t u) : NorReach lo hi s u where
  window p hp := (k.window p hp).trans (h.window p hp)
  only := by rw [k.only, h.only]

theorem NorReach.mono {lo' hi' : Nat} (h : NorReach lo hi s t) (hlo : lo' ≤ lo) (hhi : hi ≤ hi') : NorReach lo' hi' s t where
  window p hp := h.window p fun a ha hb => hp a (by omega) (by omega)
  only := h.only

/-- A byte that a window lists. -/
theorem State.byte_of_window (p : Nat → Bool) (h : t.window p = s.window p) {a : Nat} (ha : p a = true) : t.byte a = s.byte a := by
  have hget : ∀ u : State, u.byte a = Sparse.get memReset (u.window p) a := fun u => by
    rw [State.window, Sparse.get_filter, if_pos ha, State.byte]
  rw [hget, hget, h]

/-- A byte outside the range. -/
theorem NorReach.byte (h : NorReach lo hi s t) {a : Nat} (ha : a < lo ∨ hi ≤ a) : t.byte a = s.byte a :=
  State.byte_of_window (fun b => decide (b < lo ∨ hi ≤ b)) (h.window _ fun b hlo hhi => by simp; omega) (by simpa using ha)

theorem State.setByte_reach (s : State) {a : Nat} (hlo : lo ≤ a) (hhi : a < hi) (b : Byte) : NorReach lo hi s (s.setByte a b) where
  window _ hp := Sparse.filter_set (hp a hlo hhi) memReset b s.mem
  only := rfl

theorem State.norProgram_reach (l : List Byte) : ∀ (s : State) (off : Nat), lo ≤ norBase + off → norBase + off + l.length ≤ hi →
    NorReach lo hi s (s.norProgram off l) := by
  induction l with
  | nil => exact fun s _ _ _ => .refl s
  | cons b t ih =>
    intro s off hlo hhi
    rw [List.length_cons] at hhi
    exact (s.setByte_reach hlo (by omega) _).trans (ih _ _ (by omega) (by omega))

theorem State.norErase_reach (s : State) {off n : Nat} (hlo : lo ≤ norBase + off) (hhi : norBase + off + n ≤ hi) :
    NorReach lo hi s (s.norErase off n) where
  window p hp := by
    rw [State.window, State.window, State.norErase, List.filter_filter]
    refine List.filter_congr fun c _ => ?_
    by_cases hc : norBase + off ≤ c.1 ∧ c.1 < norBase + off + n
    · rw [hp c.1 (by omega) (by omega), Bool.false_and]
    · rw [decide_eq_false hc, Bool.not_false, Bool.and_true]
  only := rfl

/-! ### A record appended (R478) -/

/-- Where the next record of a region goes is found within it. -/
theorem State.norPlace_reach (s : State) (base seqAt : Nat) {blocks : Nat} (hb : 0 < blocks) :
    NorReach (norBase + base) (norBase + base + blocks * 65536) s (s.norPlace base blocks seqAt).1 := by
  obtain ⟨e, -, hplace⟩ | ⟨-, hplace⟩ := s.norPlace_cases base blocks seqAt
  · rw [hplace]
    exact .refl s
  · have hnext : (s.norBlock base blocks seqAt + 1) % blocks < blocks := Nat.mod_lt _ hb
    rw [hplace]
    exact s.norErase_reach (by omega) (by omega)

/-- A record of up to 64 bytes appended to a region stays in it. -/
theorem State.norAppend_reach (s : State) (base seqAt : Nat) {blocks : Nat} (hb : 0 < blocks) {l : List Byte} (hl : l.length ≤ 64) :
    NorReach (norBase + base) (norBase + base + blocks * 65536) s (s.norAppend base blocks seqAt l) := by
  obtain ⟨hentry, -, -⟩ := s.norPlace_spec base seqAt hb
  exact (s.norPlace_reach base seqAt hb).trans (State.norProgram_reach l _ _ (by omega) (by omega))

/-- A record of up to 64 bytes appended to a region reads back from its entry. -/
theorem State.norAppend_reads (s : State) (base seqAt : Nat) {blocks : Nat} (hb : 0 < blocks) (hnor : base + blocks * 65536 ≤ 0x10000000)
    {l : List Byte} (hl : l.length ≤ 64) :
    (s.norAppend base blocks seqAt l).norBytes (base + 64 * (s.norPlace base blocks seqAt).2) l.length = l := by
  obtain ⟨hentry, herased, -⟩ := s.norPlace_spec base seqAt hb
  refine List.ext_getElem (by simp [State.norBytes, State.bytes]) fun i hi hi' => ?_
  have hread : (s.norPlace base blocks seqAt).1.byte (norBase + (base + 64 * (s.norPlace base blocks seqAt).2) + i) = 0xFF := by
    rw [← Nat.add_assoc norBase, herased i (by omega), memReset, if_pos (by simp only [norBase]; omega)]
  simp only [State.norBytes, State.bytes, List.getElem_map, List.getElem_range, State.norAppend]
  rw [State.byte_norProgram, if_pos (by omega), hread, Nat.add_sub_cancel_left, List.getD_eq_getElem l 0 hi']
  exact BitVec.and_allOnes

/-! ### Regions that keep their bytes -/

/-- The addresses of a region. -/
def inRegion (base blocks a : Nat) : Bool := decide (norBase + base ≤ a ∧ a < norBase + base + blocks * 65536)

/-- The entries of a region depend on its bytes alone. -/
theorem State.norEntries_congr {base blocks : Nat} (h : t.window (inRegion base blocks) = s.window (inRegion base blocks)) :
    t.norEntries base blocks = s.norEntries base blocks :=
  congrArg (List.foldl (fun (l : List Nat) (c : Nat × Byte) => addOnce l ((c.1 - norBase - base) / 64)) []) h

/-- Bytes of a region read as before. -/
theorem State.norBytes_congr {base blocks off n : Nat} (h : t.window (inRegion base blocks) = s.window (inRegion base blocks))
    (hlo : base ≤ off) (hhi : off + n ≤ base + blocks * 65536) : t.norBytes off n = s.norBytes off n := by
  refine List.map_congr_left fun i hi => ?_
  rw [List.mem_range] at hi
  exact State.byte_of_window _ h (by simp only [inRegion, decide_eq_true_eq]; omega)

/-- The good records of a region depend on its bytes alone. -/
theorem State.norRecords_congr {base blocks : Nat} (h : t.window (inRegion base blocks) = s.window (inRegion base blocks)) :
    t.norRecords base blocks = s.norRecords base blocks := by
  have hentries := State.norEntries_congr h
  have hmap : (s.norEntries base blocks).map (fun e => (e, t.norEntry base e)) = (s.norEntries base blocks).map (fun e => (e, s.norEntry base e)) := by
    refine List.map_congr_left fun e he => ?_
    obtain ⟨c, -, hrange, hentry⟩ := (s.mem_norEntries base blocks e).mp he
    rw [State.norEntry, State.norEntry, State.norBytes_congr h (by omega) (by omega)]
  rw [State.norRecords, State.norRecords, hentries, hmap]

/-- The slot that the boot record chooses depends on the boot record's region alone. -/
theorem State.bootRec_next_congr (h : t.window (inRegion 0 2) = s.window (inRegion 0 2)) : t.bootRec.next = s.bootRec.next := by
  unfold State.bootRec
  rw [State.norRecords_congr h]
  split <;> rfl

end Sys2Proof.Machine

/-! SUPPORT. Starts: what the start's preparation, the record of an unfinished start, and the choice of the attempt each leave. -/

namespace Sys2Proof.Machine

variable {s t : State}

theorem exec_coldStart (w : StartWorld) (s : State) : exec (.coldStart w) s
    = leave s (if s.dev.power = .coldHeld ∨ s.dev.power = .off ∨ (s.dev.power = .on ∧ s.stage = 0 ∧ s.dev.warmInProgress = false)
        then s.coldStart 0 w else s.ignore) := rfl

theorem exec_thermalHoldEnd (w : StartWorld) (s : State) :
    exec (.thermalHoldEnd w) s = leave s (if s.dev.power = .thermHeld then s.coldStart 5 w else s.ignore) := rfl

theorem exec_crystalRestart (w : StartWorld) (s : State) :
    exec (.crystalRestart w) s = leave s (if s.dev.power = .xtalHeld then s.coldStart 6 w else s.ignore) := rfl

theorem exec_warmStart (w : StartWorld) (s : State) : exec (.warmStart w) s = done s (fun s => s.warmStart w) := rfl

theorem exec_selfTestDone (failed : Option Nat) (s : State) : exec (.selfTestDone failed) s = done s (fun s => s.selfTestDone failed) := rfl

/-! ### Fields -/

/-- A field is below the size of its width. -/
theorem State.f_lt (s : State) (u : UnitId) (f : Field) : s.f u f < 2 ^ f.width := BitVec.isLt _

/-- A field of a register that a relation on registers leaves. -/
theorem RegsBut.f {l : List (UnitId × Nat)} (h : RegsBut s t l) {u : UnitId} {f : Field} (ho : f.off < 0x1000) (hl : (u, f.off) ∉ l) :
    t.f u f = s.f u f := congrArg f.get (h u f.off ho hl)

/-- A relation on registers reads the registers alone. -/
theorem RegsBut.of_eq {l : List (UnitId × Nat)} (h : RegsBut s t l) {s' t' : State} (hs : s'.regs = s.regs) (ht : t'.regs = t.regs) :
    RegsBut s' t' l := fun v o ho hl => by simpa only [State.reg, hs, ht] using h v o ho hl

theorem NorReach.regs {lo hi : Nat} (h : NorReach lo hi s t) : t.regs = s.regs := by rw [h.only]

/-! ### Boot history (R492, R499) -/

/-- A record of the boot history has up to 64 bytes. -/
theorem State.length_histBytes_le (s : State) (kind seq result reason ms : Nat) : (s.histBytes kind seq result reason ms).length ≤ 64 := by
  have hrev : ∀ k, (s.slotRev k).length ≤ 8 := fun k => by
    unfold State.slotRev fwRev slice
    dsimp only
    split <;> simp
  have hrest : ∀ (c : Bool) (k : Nat), (if c then List.replicate 8 0 else s.slotRev k).length ≤ 8 := fun c k => by
    cases c
    · exact hrev k
    · simp
  have hfit := hrest s.svcs.chrysalis (if s.svcs.chrysalis then 0 else s.f .svc F.SVC_BOOT_SEL_SLOT)
  unfold State.histBytes withCrc
  simp only [List.length_append, length_leBytes, List.length_map, List.length_cons, List.length_nil, List.length_replicate]
  omega

/-- A record of the boot history stays in its region. -/
theorem State.histAppend_reach (s : State) {l : List Byte} (hl : l.length ≤ 64) :
    NorReach (norBase + 0x20000) (norBase + 0x40000) s (s.histAppend l) := s.norAppend_reach 0x20000 8 (blocks := 2) (by decide) hl

/-- The record of a start that ended without one, where there is one to write. -/
def State.startClosed (s : State) : State := match s.openStart with | some l => s.closeStart l | none => s

theorem State.startClosed_reach (s : State) :
    ∃ k, NorReach (norBase + 0x20000) (norBase + 0x40000) { s with freeCtr := k } s.startClosed := by
  unfold State.startClosed
  split
  · refine ⟨s.freeCtr + 1, ?_⟩
    have happend : ∀ l : List Byte, l.length ≤ 64 → NorReach (norBase + 0x20000) (norBase + 0x40000) { s with freeCtr := s.freeCtr + 1 }
        (s.histAppend l).spend := fun l hl =>
      ⟨(s.histAppend_reach hl).window, by rw [(s.histAppend_reach hl).only]; rfl⟩
    refine happend _ ?_
    simp only [withCrc, slice, List.length_append, length_leBytes, List.length_cons, List.length_nil, List.length_take, List.length_drop]
    omega
  · exact ⟨s.freeCtr, .refl s⟩

/-! ### The start's preparation (R473, R545) -/

/-- What a start does before it looks for an unfinished one, with a NOR that answers: the straps, the counts of starts, the stage and
the size of the NOR. -/
def State.startNor (s : State) (w : StartWorld) (warm : Bool) : State :=
  let s0 := ((s.setSvcs { s.svcs with world := w }).setF .svc F.SVC_BOOT_STAT_WARM (bit warm)).setF .svc F.SVC_BOOT_STAT_STRAP_BOOT
    s.svcs.strapBoot
  let bump := fun (l : List (Nat × Nat)) (k : Nat) (b : Bool) =>
    if b then Sparse.set (fun _ => 0) l k (Sparse.get (fun _ => 0) l k + 1) else l
  let s1 : State := { s0 with
    hosts := { s0.hosts with life := bump (bump s0.hosts.life lifeCycles (!warm)) lifeUnsafe (!s0.hosts.clean), clean := false }
    dev := { s0.dev with saveArmed := warm && s0.vaultFitted && s0.on .svc F.SVC_SAVE_PLAN_VALID && w.vaultMeta } }
  (s1.setStage 1 |>.setF .svc F.SVC_NOR_STAT_NOR_MIB (min w.norMib 256)).setF .svc F.SVC_NOR_STAT_SLOT_MIB (slotMib (min w.norMib 256))

/-- A start whose NOR answers. -/
theorem State.startBegin_good (s : State) {w : StartWorld} (hnor : w.nor = .ok) (hmib : 64 ≤ w.norMib) (warm : Bool) :
    s.startBegin w warm = if (s.startNor w warm).startClosed.entersChrysalis then (s.startNor w warm).startClosed.enterChrysalis
      else (s.startNor w warm).startClosed.startAttempt := by
  have hbad : ¬(w.nor = .lasting ∨ w.norMib < 64) := by simp [hnor]; omega
  have hgood : ¬ w.nor = .transient := by simp [hnor]
  unfold State.startBegin
  dsimp only
  rw [if_neg hbad, if_neg hgood]
  rfl

/-- What the preparation leaves. -/
theorem State.startNor_spec (s : State) (w : StartWorld) (warm : Bool) :
    RegsBut s (s.startNor w warm) [(.svc, Reg.SVC_BOOT_STAT), (.svc, Reg.SVC_NOR_STAT)]
      ∧ s.startNor w warm = { s with regs := (s.startNor w warm).regs, svcs := { s.svcs with world := w }, dev := (s.startNor w warm).dev,
                                     hosts := { s.hosts with life := (s.startNor w warm).hosts.life, clean := false } }
      ∧ (s.startNor w warm).dev.power = s.dev.power := by
  refine ⟨?_, rfl, rfl⟩
  have hset : ∀ (u : State) (f : Field) (v : Nat), f.off = Reg.SVC_BOOT_STAT ∨ f.off = Reg.SVC_NOR_STAT →
      RegsBut u (u.setF .svc f v) [(.svc, Reg.SVC_BOOT_STAT), (.svc, Reg.SVC_NOR_STAT)] := fun u f v h =>
    (RegsBut.setF u .svc f v (by obtain h | h := h <;> rw [h] <;> decide)).mono (by obtain h | h := h <;> simp [h])
  unfold State.startNor State.setStage
  dsimp only
  refine RegsBut.trans ?_ (hset _ _ _ (.inr rfl))
  refine RegsBut.trans ?_ (hset _ _ _ (.inr rfl))
  refine RegsBut.trans ?_ (hset _ _ _ (.inl rfl))
  exact ((hset _ _ _ (.inl rfl)).trans (hset _ _ _ (.inl rfl))).of_eq rfl rfl

/-- The fields that the preparation writes. -/
theorem State.startNor_fields (s : State) (w : StartWorld) (warm : Bool) :
    (s.startNor w warm).f .svc F.SVC_BOOT_STAT_WARM = bit warm ∧ (s.startNor w warm).f .svc F.SVC_NOR_STAT_NOR_MIB = min w.norMib 256
      ∧ (s.startNor w warm).f .svc F.SVC_NOR_STAT_SLOT_MIB = slotMib (min w.norMib 256) := by
  unfold State.startNor State.setStage
  dsimp only
  refine ⟨?_, ?_, ?_⟩
  · rw [State.f_setF_off _ (by decide), State.f_setF_off _ (by decide),
      State.f_setF_ne _ _ F.SVC_BOOT_STAT_STAGE F.SVC_BOOT_STAT_WARM _ rfl (by decide) (by decide)]
    refine (State.f_setF_ne _ .svc F.SVC_BOOT_STAT_STRAP_BOOT F.SVC_BOOT_STAT_WARM _ rfl (by decide) (by decide)).trans ?_
    rw [State.f_setF_same _ _ _ _ (by decide)]
    cases warm <;> rfl
  · rw [State.f_setF_ne _ _ F.SVC_NOR_STAT_SLOT_MIB F.SVC_NOR_STAT_NOR_MIB _ rfl (by decide) (by decide), State.f_setF_same _ _ _ _ (by decide)]
    exact Nat.mod_eq_of_lt (by simp only; omega)
  · rw [State.f_setF_same _ _ _ _ (by decide)]
    refine Nat.mod_eq_of_lt ?_
    unfold slotMib
    split <;> decide

/-! ### The attempt (R483, R488, R494, R520) -/

/-- The shutdown record is armed. -/
theorem State.armRecord_spec (s : State) :
    (∀ p : Nat → Bool, (∀ a, norBase + shutBase ≤ a → a < norBase + 0x100000 → p a = false) → s.armRecord.window p = s.window p)
      ∧ RegsBut s s.armRecord [(.hkp, Reg.HKP_REC_SLOT), (.hkp, Reg.HKP_REC_SEQ_LO), (.hkp, Reg.HKP_REC_SEQ_LO + 4), (.hkp, Reg.HKP_THM_STAT)]
      ∧ s.armRecord = { s with mem := s.armRecord.mem, lines := s.armRecord.lines, regs := s.armRecord.regs }
      ∧ s.armRecord.on .hkp F.HKP_THM_STAT_ARMED = true := by
  have hplace : NorReach (norBase + shutBase) (norBase + shutBase + 4 * 65536) s (s.norPlace shutBase 4 8).1 :=
    s.norPlace_reach shutBase 8 (by decide)
  unfold State.armRecord
  generalize s.norPlace shutBase 4 8 = p at hplace ⊢
  extract_lets r seq
  refine ⟨fun q hq => ?_, ?_, ?_, ?_⟩
  · have hplaced : p.1.window q = s.window q := hplace.window q fun a hlo hhi => hq a hlo (by omega)
    exact hplaced
  · have hregs : ∀ {l m : List (UnitId × Nat)} {u v : State}, RegsBut u v l → l ⊆ m → RegsBut u v m := fun h hl => h.mono hl
    refine RegsBut.trans (RegsBut.of_regs (t := p.1) hplace.regs) ?_
    refine RegsBut.trans (hregs (RegsBut.setF p.1 .hkp F.HKP_REC_SLOT_ENTRY p.2 (by decide)) (by simp)) ?_
    refine RegsBut.trans (hregs (RegsBut.setReg64 _ .hkp (lo := Reg.HKP_REC_SEQ_LO) (by decide) seq) (by simp)) ?_
    refine RegsBut.trans (hregs (RegsBut.setF _ .hkp F.HKP_REC_SLOT_ARM 1 (by decide)) (by simp)) ?_
    exact hregs (RegsBut.setF _ .hkp F.HKP_THM_STAT_ARMED 1 (by decide)) (by simp)
  · have honly : p.1 = { s with mem := p.1.mem, lines := p.1.lines } := hplace.only
    rw [honly]
    rfl
  · rw [State.on, State.f_setF_same _ _ _ _ (by decide)]
    rfl

/-- Bytes outside both regions that a start writes. -/
def startLeaves (p : Nat → Bool) : Prop := (∀ a, norBase + 0x20000 ≤ a → a < norBase + 0x40000 → p a = false)
  ∧ ∀ a, norBase + shutBase ≤ a → a < norBase + 0x100000 → p a = false

/-- SVC_BOOT_SEL of an attempt, and the Idsar locations it tries. -/
def State.attemptOrder (s : State) : List Nat :=
  if s.on .svc F.SVC_BOOT_SEL_VALID then [s.f .svc F.SVC_BOOT_SEL_IDSAR] else s.idsarOrder

def State.attemptSel (s : State) : Word :=
  F.SVC_BOOT_SEL_SLOT.put (F.SVC_BOOT_SEL_IDSAR.put (F.SVC_BOOT_SEL_PATCH.put (F.SVC_BOOT_SEL_SETPAIR.put (F.SVC_BOOT_SEL_VALID.put 0 1)
    (if s.on .svc F.SVC_BOOT_SEL_VALID then s.f .svc F.SVC_BOOT_SEL_SETPAIR else s.bootRec.setPair)) (s.attemptPatch s.attempt))
    (s.attemptOrder.headD 0)) (s.bootRec.slot s.attempt)

/-- The attempt's choice, before its records. -/
def State.attemptChosen (s : State) : State :=
  (((s.setSvcs { s.svcs with fallback := decide (2 ≤ s.attempt), idsarTry := s.attemptOrder }).setF .svc F.SVC_BOOT_STAT_ATTEMPT
    s.attempt).setReg .svc Reg.SVC_BOOT_SEL s.attemptSel)

theorem State.startAttempt_eq (s : State) : s.startAttempt
    = ((s.attemptChosen.histBegin 1 (if s.svcs.strapBoot = 3 then 0x11 else 0)).armRecord).setStage 2 := rfl

/-- The attempt of a start that does not enter Chrysalis mode is 1, 2 or 3. -/
theorem State.attempt_lt (h : s.entersChrysalis = false) : s.attempt < 4 := by
  have hlt : s.f .svc F.SVC_FAIL_COUNT < 4 := s.f_lt .svc F.SVC_FAIL_COUNT
  unfold State.attempt
  split
  · decide
  · simp only [State.entersChrysalis] at h
    simp_all
    omega

/-- What the attempt's choice leaves. -/
theorem State.startAttempt_frame (s : State) : (∀ p, startLeaves p → s.startAttempt.window p = s.window p)
    ∧ RegsBut s s.startAttempt [(.svc, Reg.SVC_BOOT_STAT), (.svc, Reg.SVC_BOOT_SEL), (.hkp, Reg.HKP_REC_SLOT), (.hkp, Reg.HKP_REC_SEQ_LO),
        (.hkp, Reg.HKP_REC_SEQ_LO + 4), (.hkp, Reg.HKP_THM_STAT)]
    ∧ s.startAttempt = { s with mem := s.startAttempt.mem, lines := s.startAttempt.lines, regs := s.startAttempt.regs,
                                svcs := { s.svcs with fallback := decide (2 ≤ s.attempt), idsarTry := s.attemptOrder } } := by
  rw [State.startAttempt_eq]
  have hhist := s.attemptChosen.histAppend_reach
    (s.attemptChosen.length_histBytes_le 1 (s.attemptChosen.startSeq + 1) 0 (if s.svcs.strapBoot = 3 then 0x11 else 0) 0)
  obtain ⟨hwin, hregs, honly, -⟩ := (s.attemptChosen.histBegin 1 (if s.svcs.strapBoot = 3 then 0x11 else 0)).armRecord_spec
  refine ⟨fun p hp => ?_, ?_, ?_⟩
  · have hstage : ∀ u : State, (u.setStage 2).window p = u.window p := fun _ => rfl
    have hchosen : s.attemptChosen.window p = s.window p := rfl
    rw [hstage, hwin p hp.2, State.histBegin, hhist.window p hp.1, hchosen]
  · have hstat : RegsBut s (s.attemptChosen) [(.svc, Reg.SVC_BOOT_STAT), (.svc, Reg.SVC_BOOT_SEL)] :=
      ((RegsBut.setF s .svc F.SVC_BOOT_STAT_ATTEMPT s.attempt (by decide)).mono (by simp)).trans
        ((RegsBut.setReg _ .svc (by decide) _).mono (by simp))
    refine RegsBut.trans (hstat.mono (by simp)) ?_
    refine RegsBut.trans (RegsBut.of_regs hhist.regs) ?_
    refine RegsBut.trans (hregs.mono (by simp)) ?_
    exact (RegsBut.setF _ .svc F.SVC_BOOT_STAT_STAGE 2 (by decide)).mono (by simp)
  · have hbegin : s.attemptChosen.histBegin 1 (if s.svcs.strapBoot = 3 then 0x11 else 0) = { s.attemptChosen with
        mem := (s.attemptChosen.histBegin 1 (if s.svcs.strapBoot = 3 then 0x11 else 0)).mem
        lines := (s.attemptChosen.histBegin 1 (if s.svcs.strapBoot = 3 then 0x11 else 0)).lines } := hhist.only
    generalize s.attemptChosen.histBegin 1 (if s.svcs.strapBoot = 3 then 0x11 else 0) = x at honly hbegin ⊢
    generalize x.armRecord = y at honly ⊢
    rw [honly, hbegin]
    rfl

/-- The fields that the attempt's choice writes. -/
theorem State.startAttempt_fields (s : State) (h : s.entersChrysalis = false) : s.startAttempt.stage = 2
    ∧ s.startAttempt.f .svc F.SVC_BOOT_STAT_ATTEMPT = s.attempt
    ∧ s.startAttempt.f .svc F.SVC_BOOT_STAT_WARM = s.f .svc F.SVC_BOOT_STAT_WARM
    ∧ s.startAttempt.f .svc F.SVC_BOOT_SEL_SLOT = s.bootRec.slot s.attempt % 4
    ∧ s.startAttempt.on .svc F.SVC_BOOT_SEL_VALID = true ∧ s.startAttempt.on .hkp F.HKP_THM_STAT_ARMED = true := by
  rw [State.startAttempt_eq]
  have hhist := s.attemptChosen.histAppend_reach
    (s.attemptChosen.length_histBytes_le 1 (s.attemptChosen.startSeq + 1) 0 (if s.svcs.strapBoot = 3 then 0x11 else 0) 0)
  obtain ⟨-, hregs, -, harmed⟩ := (s.attemptChosen.histBegin 1 (if s.svcs.strapBoot = 3 then 0x11 else 0)).armRecord_spec
  have hkept : RegsBut s.attemptChosen (s.attemptChosen.histBegin 1 (if s.svcs.strapBoot = 3 then 0x11 else 0)).armRecord
      [(.hkp, Reg.HKP_REC_SLOT), (.hkp, Reg.HKP_REC_SEQ_LO), (.hkp, Reg.HKP_REC_SEQ_LO + 4), (.hkp, Reg.HKP_THM_STAT)] :=
    (RegsBut.of_regs hhist.regs).trans hregs
  have hsel : s.attemptChosen.reg .svc Reg.SVC_BOOT_SEL = s.attemptSel := State.reg_setReg_same _ _ _ _
  refine ⟨State.f_setF_same _ _ _ _ (by decide), ?_, ?_, ?_, ?_, ?_⟩
  · rw [State.setStage, State.f_setF_ne _ _ F.SVC_BOOT_STAT_STAGE F.SVC_BOOT_STAT_ATTEMPT _ rfl (by decide) (by decide),
      hkept.f (by decide) (by simp), State.attemptChosen, State.f_setReg_off _ (by decide), State.f_setF_same _ _ _ _ (by decide)]
    exact Nat.mod_eq_of_lt (State.attempt_lt h)
  · rw [State.setStage, State.f_setF_ne _ _ F.SVC_BOOT_STAT_STAGE F.SVC_BOOT_STAT_WARM _ rfl (by decide) (by decide),
      hkept.f (by decide) (by simp), State.attemptChosen, State.f_setReg_off _ (by decide)]
    exact State.f_setF_ne _ .svc F.SVC_BOOT_STAT_ATTEMPT F.SVC_BOOT_STAT_WARM _ rfl (by decide) (by decide)
  · rw [State.setStage, State.f_setF_off _ (by decide), hkept.f (by decide) (by simp), State.f, hsel]
    exact Field.get_put _ _ _ (by decide)
  · have hvalid : F.SVC_BOOT_SEL_VALID.get s.attemptSel = 1 := by
      rw [State.attemptSel, Field.get_put_ne F.SVC_BOOT_SEL_SLOT _ _ _ (by decide) (by decide),
        Field.get_put_ne F.SVC_BOOT_SEL_IDSAR _ _ _ (by decide) (by decide), Field.get_put_ne F.SVC_BOOT_SEL_PATCH _ _ _ (by decide) (by decide),
        Field.get_put_ne F.SVC_BOOT_SEL_SETPAIR _ _ _ (by decide) (by decide), Field.get_put _ _ _ (by decide)]
      rfl
    rw [State.on, State.setStage, State.f_setF_off _ (by decide), hkept.f (by decide) (by simp), State.f, hsel, hvalid]
    rfl
  · have hoff : ((s.attemptChosen.histBegin 1 (if s.svcs.strapBoot = 3 then 0x11 else 0)).armRecord.setStage 2).f .hkp F.HKP_THM_STAT_ARMED
        = (s.attemptChosen.histBegin 1 (if s.svcs.strapBoot = 3 then 0x11 else 0)).armRecord.f .hkp F.HKP_THM_STAT_ARMED :=
      (RegsBut.setF _ .svc F.SVC_BOOT_STAT_STAGE 2 (by decide)).f (by decide) (by simp)
    rw [State.on, hoff]
    exact harmed

end Sys2Proof.Machine

/-! SUPPORT. Starts as far as the configuration stage, and DEV_RST_CAUSE after each reset. -/

namespace Sys2Proof.Machine

variable {s t : State}

/-! ### A start that waits (R479) -/

/-- A start goes on in STAGE 2 with the enclave ready and in STAGE 3 to 5 alone. -/
theorem State.startStep_waits (hconf : s.stage ≠ 2 ∨ s.on .hzl F.HZL_STAT_READY = false) (hbuf : s.stage ≠ 3) (himage : s.stage ≠ 4)
    (hcode : s.stage ≠ 5) : s.startStep = s := by
  have h1 : s.startConfig = s := if_pos (hconf.imp_right .inl)
  have h2 : s.startBuffer = s := if_neg fun h => hbuf h.1
  have h3 : s.startImage = s := if_pos himage
  have h4 : s.startCode = s := if_pos hcode
  rw [State.startStep, h1, h2, h3, h4]

/-! ### The attempt of a start (R472, R473, R479, R494) -/

/-- The state in which a start whose NOR answers chooses its attempt. -/
def State.startReady (s : State) (w : StartWorld) (warm : Bool) : State := (s.startNor w warm).startClosed

/-- What a start leaves until it chooses its attempt. -/
theorem State.startReady_spec (s : State) (w : StartWorld) (warm : Bool) :
    (∀ p, startLeaves p → (s.startReady w warm).window p = s.window p)
      ∧ (s.startReady w warm).regs = (s.startNor w warm).regs
      ∧ s.startReady w warm = { s with mem := (s.startReady w warm).mem, lines := (s.startReady w warm).lines, regs := (s.startReady w warm).regs, svcs := { s.svcs with world := w }, dev := (s.startNor w warm).dev, hosts := { s.hosts with life := (s.startNor w warm).hosts.life, clean := false }, freeCtr := (s.startReady w warm).freeCtr } := by
  obtain ⟨k, hclosed⟩ := (s.startNor w warm).startClosed_reach
  obtain ⟨-, honly, -⟩ := s.startNor_spec w warm
  have hframe : s.startReady w warm = { s.startNor w warm with
      mem := (s.startReady w warm).mem, lines := (s.startReady w warm).lines, freeCtr := k } := hclosed.only
  generalize hx : s.startReady w warm = x at hframe ⊢
  refine ⟨fun p hp => ?_, ?_, ?_⟩
  · have hwin : x.window p = (s.startNor w warm).window p := hx ▸ hclosed.window p hp.1
    rw [hwin, honly]
    rfl
  · rw [hframe]
  · generalize s.startNor w warm = y at honly hframe ⊢
    rw [hframe, honly]

/-- The counts of failed starts and the straps choose the attempt. -/
theorem State.attempt_congr (hstrap : t.svcs.strapBoot = s.svcs.strapBoot) (hcount : t.f .svc F.SVC_FAIL_COUNT = s.f .svc F.SVC_FAIL_COUNT) :
    t.attempt = s.attempt ∧ t.entersChrysalis = s.entersChrysalis := by
  constructor
  · rw [State.attempt, State.attempt, hstrap, hcount]
  · rw [State.entersChrysalis, State.entersChrysalis, hstrap, hcount]

/-- A start whose NOR answers, outside Chrysalis mode. -/
structure Started (s : State) (w : StartWorld) (warm : Bool) (t : State) : Prop where
  window : ∀ p, startLeaves p → t.window p = s.window p
  regs : RegsBut s t [(.svc, Reg.SVC_BOOT_STAT), (.svc, Reg.SVC_BOOT_SEL), (.svc, Reg.SVC_NOR_STAT), (.hkp, Reg.HKP_REC_SLOT),
    (.hkp, Reg.HKP_REC_SEQ_LO), (.hkp, Reg.HKP_REC_SEQ_LO + 4), (.hkp, Reg.HKP_THM_STAT)]
  only : t = { s with mem := t.mem, lines := t.lines, regs := t.regs, dev := (s.startNor w warm).dev, freeCtr := t.freeCtr,
                      svcs := { s.svcs with world := w, fallback := decide (2 ≤ s.attempt), idsarTry := t.svcs.idsarTry },
                      hosts := { s.hosts with life := (s.startNor w warm).hosts.life, clean := false } }
  stage : t.stage = 2
  attempt : t.f .svc F.SVC_BOOT_STAT_ATTEMPT = s.attempt
  warm : t.f .svc F.SVC_BOOT_STAT_WARM = bit warm
  slot : s.attempt = 1 → t.f .svc F.SVC_BOOT_SEL_SLOT = s.bootRec.next % 4
  valid : t.on .svc F.SVC_BOOT_SEL_VALID = true
  armed : t.on .hkp F.HKP_THM_STAT_ARMED = true
  norMib : t.f .svc F.SVC_NOR_STAT_NOR_MIB = min w.norMib 256
  slotMib : t.f .svc F.SVC_NOR_STAT_SLOT_MIB = slotMib (min w.norMib 256)

/-- The boot record's region lies outside those that a start writes. -/
theorem startLeaves_bootRec : startLeaves (inRegion 0 2) :=
  ⟨fun _ _ _ => decide_eq_false (by omega), fun _ _ _ => decide_eq_false (by simp only [shutBase] at *; omega)⟩

/-- A start as far as the configuration stage. -/
theorem State.startBegin_started {w : StartWorld} (hnor : w.nor = .ok) (hmib : 64 ≤ w.norMib) (warm : Bool)
    (hchr : s.entersChrysalis = false) : Started s w warm (s.startBegin w warm) := by
  obtain ⟨hwin, hregs, honly⟩ := s.startReady_spec w warm
  obtain ⟨hprep, -, -⟩ := s.startNor_spec w warm
  obtain ⟨hfwarm, hfnor, hfslot⟩ := s.startNor_fields w warm
  have hready : RegsBut s (s.startReady w warm) [(.svc, Reg.SVC_BOOT_STAT), (.svc, Reg.SVC_NOR_STAT)] := hprep.of_eq rfl hregs
  have hstrap : (s.startReady w warm).svcs.strapBoot = s.svcs.strapBoot := by rw [honly]
  obtain ⟨hattempt, hmode⟩ := State.attempt_congr hstrap (hready.f (by decide) (by simp))
  have hnext := State.bootRec_next_congr (hwin _ startLeaves_bootRec)
  have hf : ∀ f : Field, (s.startReady w warm).f .svc f = (s.startNor w warm).f .svc f := fun f => by
    simp only [State.f, State.reg, hregs]
  have hbegin : s.startBegin w warm = (s.startReady w warm).startAttempt := by
    rw [State.startBegin_good s hnor hmib, if_neg (by rw [← State.startReady, hmode, hchr]; nofun)]
    rfl
  rw [hbegin]
  generalize s.startReady w warm = x at *
  obtain ⟨hawin, haregs, haonly⟩ := x.startAttempt_frame
  obtain ⟨hstage, hatt, hwarm, hslot, hvalid, harmed⟩ := x.startAttempt_fields (hmode.trans hchr)
  refine ⟨fun p hp => (hawin p hp).trans (hwin p hp), (hready.mono (by simp)).trans (haregs.mono (by simp)), ?_, hstage,
    hatt.trans hattempt, ?_, fun h => ?_, hvalid, harmed, ?_, ?_⟩
  · rw [hattempt] at haonly
    generalize x.startAttempt = y at haonly ⊢
    rw [haonly, honly]
  · rw [hwarm, hf, hfwarm]
  · rw [hslot, hattempt, h, ← hnext]
    rfl
  · rw [haregs.f (by decide) (by simp), hf, hfnor]
  · rw [haregs.f (by decide) (by simp), hf, hfslot]

/-- A byte outside the regions that a start writes. -/
theorem Started.byte {w : StartWorld} {warm : Bool} (h : Started s w warm t) {a : Nat}
    (h1 : a < norBase + 0x20000 ∨ norBase + 0x40000 ≤ a) (h2 : a < norBase + shutBase ∨ norBase + 0x100000 ≤ a) : t.byte a = s.byte a := by
  refine State.byte_of_window (fun b => decide (b = a)) (h.window _ ⟨fun b hlo hhi => ?_, fun b hlo hhi => ?_⟩) (by simp)
  · exact decide_eq_false (by omega)
  · exact decide_eq_false (by omega)

/-- The start waits for the enclave. -/
theorem Started.waits {w : StartWorld} {warm : Bool} (h : Started s w warm t) (hready : s.on .hzl F.HZL_STAT_READY = false) :
    t.startStep = t := by
  have hkept : t.on .hzl F.HZL_STAT_READY = s.on .hzl F.HZL_STAT_READY := by
    rw [State.on, State.on, h.regs.f (by decide) (by simp)]
  exact State.startStep_waits (.inr (hkept.trans hready)) (by rw [h.stage]; decide) (by rw [h.stage]; decide) (by rw [h.stage]; decide)

/-! ### Cold starts (R43, R52) -/

/-- A state with the straps sampled (R472). -/
def State.strapped (s : State) (w : StartWorld) : State :=
  (({ s with resp := .none } : State).setSvcs { s.svcs with strapBoot := w.boot.val }).setF (.pep 0) F.PEP_STAT_STRAP (bit w.split)

/-- The state that a cold start begins with: the cold reset, the straps, and port 1 of a device that is not split. -/
def State.coldBegin (s : State) (cause : Nat) (w : StartWorld) : State :=
  if w.split then (s.coldReset cause .on).strapped w else ((s.coldReset cause .on).strapped w).setUnitState (.pep 1) stParked

theorem State.coldStart_eq (s : State) (cause : Nat) (w : StartWorld) :
    s.coldStart cause w = ((s.coldBegin cause w).startBegin w false).startStep := by
  unfold State.coldStart State.coldBegin State.strapped
  dsimp only

theorem State.strapped_spec (s : State) (w : StartWorld) : RegsBut s (s.strapped w) [(.pep 0, Reg.PEP_STAT)]
    ∧ s.strapped w = { s with resp := .none, regs := (s.strapped w).regs, svcs := { s.svcs with strapBoot := w.boot.val } }
    ∧ (s.strapped w).f (.pep 0) F.PEP_STAT_STRAP = bit w.split := by
  unfold State.strapped
  generalize UnitId.pep 0 = u
  refine ⟨?_, rfl, ?_⟩
  · exact (RegsBut.of_regs (t := ({ s with resp := .none } : State).setSvcs { s.svcs with strapBoot := w.boot.val }) rfl).trans
      (RegsBut.setF _ u F.PEP_STAT_STRAP (bit w.split) (by decide))
  · rw [State.f_setF_same _ _ _ _ (by decide)]
    cases w.split <;> rfl

/-- What the straps leave of the cold reset. -/
theorem State.coldBegin_spec (s : State) (cause : Nat) (w : StartWorld) :
    RegsBut (s.coldReset cause .on) (s.coldBegin cause w) [(.pep 0, Reg.PEP_STAT), (.pep 1, Reg.UNIT_STAT)]
      ∧ s.coldBegin cause w = { s.coldReset cause .on with resp := .none, regs := (s.coldBegin cause w).regs, svcs := { (s.coldReset cause .on).svcs with strapBoot := w.boot.val } }
      ∧ (s.coldBegin cause w).f (.pep 0) F.PEP_STAT_STRAP = bit w.split := by
  unfold State.coldBegin
  obtain ⟨hregs, honly, hbit⟩ := (s.coldReset cause .on).strapped_spec w
  generalize s.coldReset cause .on = r at hregs honly hbit ⊢
  generalize r.strapped w = x at hregs honly hbit ⊢
  have hpark : RegsBut x (x.setUnitState (.pep 1) stParked) [(.pep 1, Reg.UNIT_STAT)] :=
    RegsBut.setF x (.pep 1) F.UNIT_STAT_STATE stParked (by decide)
  split
  · exact ⟨hregs.mono (by simp), honly, hbit⟩
  · refine ⟨(hregs.mono (by simp)).trans (hpark.mono (by simp)), ?_, ?_⟩
    · generalize UnitId.pep 1 = u
      rw [State.setUnitState, State.setF, State.setReg, honly]
    · rw [hpark.f (f := F.PEP_STAT_STRAP) (by decide) (by simp), hbit]

/-- A field of a unit that is no servo has its reset value after a cold reset. -/
theorem State.coldReset_f (s : State) (cause : Nat) (p : Power) {u : UnitId} {f : Field} (ho : f.off < 0x1000) (hu : ∀ n, u ≠ .srv n)
    (hdev : u ≠ .dev) (hsvn : (u, f.off) ≠ (.hzl, Reg.HZL_SVN)) : (s.coldReset cause p).f u f = f.get (regReset (key u f.off)) := by
  have hret : ¬carriedRegs s.retractLoaded u f.off := fun ⟨n, hn, _⟩ => hu n hn
  rw [State.f, State.coldReset_reg s cause p ho (fun h => hdev (Prod.ext_iff.mp h).1) hsvn (.inr hret)]

/-- A window of the NOR after a cold reset. -/
theorem State.coldReset_window (s : State) (cause : Nat) (p : Power) {q : Nat → Bool} (hq : ∀ a, q a = true → inNor a = true) :
    (s.coldReset cause p).window q = s.window q := by
  rw [State.window, State.window, State.coldReset_mem, keepNor, List.filter_filter]
  refine List.filter_congr fun c _ => ?_
  cases hc : q c.1 with
  | false => rfl
  | true => rw [hq _ hc, Bool.true_and]

theorem State.coldReset_life (s : State) (cause : Nat) (p : Power) :
    (s.coldReset cause p).hosts.life = s.hosts.life ∧ (s.coldReset cause p).hosts.namespaces = s.hosts.namespaces
      ∧ (s.coldReset cause p).hosts.zones = s.hosts.zones := by
  obtain ⟨s', hmedia, h⟩ := s.coldReset_frame cause p
  have hhosts : s'.hosts = s.hosts := by rw [hmedia.only]
  rw [h, ← hhosts]
  exact ⟨rfl, rfl, rfl⟩

/-- A cold start leaves its count one more (R545). -/
theorem State.startNor_cycles (s : State) (w : StartWorld) : Sparse.get (fun _ => 0) (s.startNor w false).hosts.life lifeCycles
    = Sparse.get (fun _ => 0) s.hosts.life lifeCycles + 1 := by
  unfold State.startNor
  dsimp only [State.setStage, State.setF, State.setReg, State.setSvcs]
  rw [if_pos (by rfl : (!false) = true)]
  split
  · rw [Sparse.get_set, if_neg (by decide), Sparse.get_set, if_pos rfl]
  · rw [Sparse.get_set, if_pos rfl]

/-- A cold start as far as the configuration stage. -/
theorem State.coldStart_started (s : State) (cause : Nat) {w : StartWorld} (hnor : w.nor = .ok) (hmib : 64 ≤ w.norMib) (h1 : w.boot ≠ 1)
    (h2 : w.boot ≠ 2) : Started (s.coldBegin cause w) w false (s.coldStart cause w) ∧ (s.coldBegin cause w).attempt = 1 := by
  obtain ⟨hregs, honly, -⟩ := s.coldBegin_spec cause w
  have hstrap : (s.coldBegin cause w).svcs.strapBoot = w.boot.val := by rw [honly]
  have hcount : (s.coldBegin cause w).f .svc F.SVC_FAIL_COUNT = 0 := by
    rw [hregs.f (by decide) (by simp), State.coldReset_f s cause .on (f := F.SVC_FAIL_COUNT) (by decide) (by simp) (by simp) (by simp)]
    decide
  have hready : (s.coldBegin cause w).on .hzl F.HZL_STAT_READY = false := by
    rw [State.on, hregs.f (by decide) (by simp), State.coldReset_f s cause .on (f := F.HZL_STAT_READY) (by decide) (by simp) (by simp) (by decide)]
    decide
  have hne1 : w.boot.val ≠ 1 := fun he => h1 (Fin.ext he)
  have hne2 : w.boot.val ≠ 2 := fun he => h2 (Fin.ext he)
  have hchr : (s.coldBegin cause w).entersChrysalis = false := by
    rw [State.entersChrysalis, hstrap, hcount, beq_eq_false_iff_ne.mpr hne2, show (0 == 3) = false from rfl, Bool.and_false, Bool.or_false]
  have hstarted := State.startBegin_started hnor hmib false hchr
  refine ⟨?_, ?_⟩
  · rw [State.coldStart_eq, hstarted.waits hready]
    exact hstarted
  · rw [State.attempt, hstrap, hcount, if_neg hne1]

/-- DEV_RST_CAUSE after a cold start (R52). -/
theorem State.coldStart_cause (s : State) (cause : Nat) {w : StartWorld} (hnor : w.nor = .ok) (hmib : 64 ≤ w.norMib) (h1 : w.boot ≠ 1)
    (h2 : w.boot ≠ 2) : (s.coldStart cause w).reg .dev Reg.DEV_RST_CAUSE = BitVec.ofNat 32 (2 ^ cause) := by
  obtain ⟨hstarted, -⟩ := s.coldStart_started cause hnor hmib h1 h2
  rw [hstarted.regs _ _ (by decide) (by simp), (s.coldBegin_spec cause w).1 _ _ (by decide) (by simp), State.coldReset_cause]

end Sys2Proof.Machine

/-! SUPPORT. DEV_RST_CAUSE after each reset, and the starts. -/

namespace Sys2Proof.Machine

variable {s t : State}

/-! ### DEV_RST_CAUSE (R52) -/

/-- A command that leaves a state, whatever the device does. -/
theorem Completes.of_leave {i : Instr} {P : State → Prop} (he : exec i s = leave s t) (h : P { t with pending := s.pending }) :
    Completes i s P := ⟨_, he, h⟩

/-- The queue is no register. -/
theorem State.reg_queue (s : State) (q : List Instr) (u : UnitId) (o : Nat) : ({ s with pending := q } : State).reg u o = s.reg u o := rfl

/-- A command of a running device, whose meaning may change the queue of the state it is given. -/
theorem Completes.of_run {i : Instr} {f : State → State} {P : State → Prop} (hr : s.running) (he : exec i s = done s f)
    (hf : f (s.answer .none) = t) (h : P { t with pending := s.pending }) : Completes i s P := by
  subst hf
  exact ⟨_, he.trans (done_on s f hr), h⟩

/-- NVM_SUBSYSTEM_RESET of a function behind a link that is up. -/
theorem State.subsystemReset_of_link {fn : Fin 64} (hfn : s.fnExists fn.val = true) (hlink : s.linkIsUp (s.fnPort fn.val) = true) :
    s.when (s.fnExists fn.val && s.linkIsUp (s.fnPort fn.val)) (s.warmReset .subsystem) = s.warmReset .subsystem := by
  rw [hfn, hlink, Bool.and_self, State.when_true]

/-- The house is no register. -/
theorem State.reg_setHouse (s : State) (h : House) (u : UnitId) (o : Nat) : (s.setHouse h).reg u o = s.reg u o := rfl

/-- HOLDOVER_2S after 50 ms of holdover: the hold in reset (R37, R52). -/
theorem State.holdover2_spec (hhold : s.holdover = true) (hlost : s.dev.lost50 = true) : s.holdover2.dev.power = .xtalHeld
    ∧ s.holdover2.house.tripped = true ∧ s.holdover2.reg .dev Reg.DEV_RST_CAUSE = 0x40 := by
  unfold State.holdover2
  rw [if_neg (by simp [hhold, hlost])]
  have hdev := s.coldReset_power 6 .xtalHeld
  have hcause := s.coldReset_cause 6 .xtalHeld
  generalize s.coldReset 6 .xtalHeld = r at hdev hcause ⊢
  exact ⟨congrArg Device.power hdev, rfl, (State.reg_setHouse _ _ _ _).trans hcause⟩

/-- Settles O10: each reset writes DEV_RST_CAUSE after it has reset the device group. -/
theorem resetCause : Obligations.ResetCause := by
  refine ⟨fun s c => ?_, fun s p cause _ => s.coldReset_cause cause p, fun s hr => ⟨?_, ?_⟩, fun s => ?_, fun s fn hr hfn hlink => ?_,
    fun s hr hhold hlost => ?_, fun s w hnor hmib h1 h2 _ hp => ?_, by decide⟩
  · rw [s.warmReset_cause c]
    cases c <;> rfl
  · exact Completes.of_run hr (exec_warmReset .service s) rfl ((State.reg_queue _ _ _ _).trans (State.warmReset_cause _ .service))
  · exact Completes.of_run hr (exec_warmReset .watchdog s) rfl ((State.reg_queue _ _ _ _).trans (State.warmReset_cause _ .watchdog))
  · exact Completes.of_leave (exec_pwronNFall s) ((State.reg_queue _ _ _ _).trans (s.coldReset_cause 0 .coldHeld))
  · exact Completes.of_run hr (exec_nvmSubsystemReset fn s) (State.subsystemReset_of_link (s := s.answer .none) hfn hlink)
      ((State.reg_queue _ _ _ _).trans (State.warmReset_cause _ .subsystem))
  · exact Completes.of_run hr (exec_holdover2s s) rfl
      ((State.reg_queue _ _ _ _).trans (State.holdover2_spec (s := s.answer .none) hhold hlost).2.2)
  · exact Completes.of_leave ((exec_thermalHoldEnd w s).trans (by rw [if_pos hp]))
      ((State.reg_queue _ _ _ _).trans (s.coldStart_cause 5 hnor hmib h1 h2))

/-! ### Starts (R417, R479) -/

/-- The three cold starts, each from its hold. -/
theorem exec_coldStarts {i : Instr} {w : StartWorld} {cause : Nat}
    (h : (i = .coldStart w ∧ cause = 0 ∧ (s.dev.power = .coldHeld ∨ s.dev.power = .off
        ∨ (s.dev.power = .on ∧ s.stage = 0 ∧ s.dev.warmInProgress = false)))
      ∨ (i = .thermalHoldEnd w ∧ cause = 5 ∧ s.dev.power = .thermHeld)
      ∨ (i = .crystalRestart w ∧ cause = 6 ∧ s.dev.power = .xtalHeld)) : exec i s = leave s (s.coldStart cause w) := by
  obtain ⟨rfl, rfl, hp⟩ | ⟨rfl, rfl, hp⟩ | ⟨rfl, rfl, hp⟩ := h
  · rw [exec_coldStart, if_pos hp]
  · rw [exec_thermalHoldEnd, if_pos hp]
  · rw [exec_crystalRestart, if_pos hp]

/-- WARM_START of a device whose warm reset is in progress and whose service core has left RESET. -/
theorem State.warmStart_started {w : StartWorld} (hwarm : s.dev.warmInProgress = true) (hstage : s.stage = 0)
    (hsvc : s.inReset .svc = false) (hnor : w.nor = .ok) (hmib : 64 ≤ w.norMib) (hchr : s.entersChrysalis = false)
    (hready : s.on .hzl F.HZL_STAT_READY = false) : Started s w true (s.warmStart w) := by
  have hbegin := State.startBegin_started hnor hmib true hchr
  have hstart : s.warmStart w = (s.startBegin w true).startStep := by
    unfold State.warmStart
    rw [if_neg (by simp [hwarm, hstage]), if_neg (by simp [hsvc])]
  rw [hstart, hbegin.waits hready]
  exact hbegin

/-- What self-tests that pass leave (R417). -/
def State.selfTestPassed (s : State) : State :=
  ({ s with hzl := { s.hzl with tested := true } } : State).setF .hzl F.HZL_STAT_READY 1

theorem State.selfTestPassed_spec (s : State) : RegsBut s s.selfTestPassed [(.hzl, Reg.HZL_STAT)]
    ∧ s.selfTestPassed = { s with hzl := { s.hzl with tested := true }, regs := s.selfTestPassed.regs }
    ∧ s.selfTestPassed.on .hzl F.HZL_STAT_READY = true := by
  let s1 : State := { s with hzl := { s.hzl with tested := true } }
  refine ⟨(RegsBut.of_regs (t := s1) rfl).trans (RegsBut.setF s1 .hzl F.HZL_STAT_READY 1 (by decide)), rfl, ?_⟩
  rw [State.selfTestPassed, State.on, State.f_setF_same _ _ _ _ (by decide)]
  rfl

/-- The self-tests pass while no start waits for them. -/
theorem State.selfTestDone_passed (htested : s.hzl.tested = false) (hreset : s.inReset .hzl = false) (hbad : s.hzl.entropyBad = false)
    (hstage : s.stage < 2 ∨ 5 < s.stage) : s.selfTestDone none = s.selfTestPassed := by
  have hkept : s.selfTestPassed.stage = s.stage := s.selfTestPassed_spec.1.f (f := F.SVC_BOOT_STAT_STAGE) (by decide) (by simp)
  have hdone : s.selfTestDone none = s.selfTestPassed.startStep := by
    unfold State.selfTestDone
    rw [if_neg (by simp [htested, hreset])]
    dsimp only
    rw [if_neg (by simp [hbad])]
    rfl
  rw [hdone, State.startStep_waits (.inl (by omega)) (by omega) (by omega) (by omega)]

/-- What a self-test that fails leaves (R417). -/
def State.selfTestFailed (s : State) (k : Nat) : State :=
  ((((({ s with hzl := { s.hzl with tested := true } } : State).setF .hzl F.HZL_STAT_ST_FAIL 1).setF .hzl F.HZL_STAT_ST_ID k).err
    .hzl heStFail).setUnitState .hzl stFault).spend

theorem State.selfTestFailed_spec (s : State) (k : Nat) :
    RegsBut s (s.selfTestFailed k) [(.hzl, Reg.HZL_STAT), (.hzl, Reg.UNIT_ERR), (.hzl, Reg.UNIT_STAT)]
      ∧ s.selfTestFailed k = { s with hzl := { s.hzl with tested := true }, regs := (s.selfTestFailed k).regs, freeCtr := s.freeCtr + 1 }
      ∧ (s.selfTestFailed k).on .hzl F.HZL_STAT_ST_FAIL = true ∧ (s.selfTestFailed k).f .hzl F.HZL_STAT_ST_ID = k % 256
      ∧ (s.selfTestFailed k).unitState .hzl = stFault ∧ ((s.selfTestFailed k).reg .hzl Reg.UNIT_ERR).getLsbD 8 = true := by
  let s1 : State := { s with hzl := { s.hzl with tested := true } }
  let s2 := (s1.setF .hzl F.HZL_STAT_ST_FAIL 1).setF .hzl F.HZL_STAT_ST_ID k
  have hstat : RegsBut s s2 [(.hzl, Reg.HZL_STAT)] :=
    ((RegsBut.of_regs (t := s1) rfl).trans (RegsBut.setF s1 .hzl F.HZL_STAT_ST_FAIL 1 (by decide))).trans
      (RegsBut.setF _ .hzl F.HZL_STAT_ST_ID k (by decide))
  have herr := RegsBut.err s2 .hzl heStFail
  have hunit : RegsBut (s2.err .hzl heStFail) (s.selfTestFailed k) [(.hzl, Reg.UNIT_STAT)] :=
    RegsBut.setF (s2.err .hzl heStFail) .hzl F.UNIT_STAT_STATE stFault (by decide)
  have hkept : RegsBut s2 (s.selfTestFailed k) [(.hzl, Reg.UNIT_ERR), (.hzl, Reg.UNIT_STAT)] :=
    (herr.mono (by simp)).trans (hunit.mono (by simp))
  refine ⟨(hstat.mono (by simp)).trans (hkept.mono (by simp)), rfl, ?_, ?_, State.f_setF_same _ _ _ _ (by decide), ?_⟩
  · rw [State.on, hkept.f (by decide) (by simp),
      State.f_setF_ne _ _ F.HZL_STAT_ST_ID F.HZL_STAT_ST_FAIL _ rfl (by decide) (by decide), State.f_setF_same _ _ _ _ (by decide)]
    rfl
  · rw [hkept.f (by decide) (by simp), State.f_setF_same _ _ _ _ (by decide)]
    rfl
  · rw [hunit _ _ (by decide) (by simp), State.reg_err, BitVec.getLsbD_or]
    exact Bool.or_eq_true_iff.mpr (.inr (by decide))

/-- A self-test fails while no start that can fail is under way. -/
theorem State.selfTestDone_failed (k : Nat) (htested : s.hzl.tested = false) (hreset : s.inReset .hzl = false)
    (hstart : s.starting = false) : s.selfTestDone (some k) = s.selfTestFailed k := by
  have hstage : (s.selfTestFailed k).starting = false := by
    rw [State.starting, State.stage, (s.selfTestFailed_spec k).1.f (by decide) (by simp)]
    exact hstart
  unfold State.selfTestDone
  rw [if_neg (by simp [htested, hreset])]
  simp only [Option.isNone_some, Bool.and_false, Bool.false_eq_true, if_false]
  exact if_neg (by rw [← State.selfTestFailed, hstage]; nofun)

/-- What the straps leave of the cold reset besides registers. -/
theorem State.coldBegin_kept (s : State) (cause : Nat) (w : StartWorld) : (s.coldBegin cause w).mem = (s.coldReset cause .on).mem
    ∧ (s.coldBegin cause w).hosts = (s.coldReset cause .on).hosts ∧ (s.coldBegin cause w).dev = (s.coldReset cause .on).dev := by
  obtain ⟨-, honly, -⟩ := s.coldBegin_spec cause w
  generalize s.coldBegin cause w = x at honly ⊢
  generalize s.coldReset cause .on = y at honly ⊢
  rw [honly]
  exact ⟨rfl, rfl, rfl⟩

/-- The hosts' side and the power after a start. -/
theorem Started.hosts {w : StartWorld} {warm : Bool} (h : Started s w warm t) : t.hosts.life = (s.startNor w warm).hosts.life
    ∧ t.hosts.namespaces = s.hosts.namespaces ∧ t.dev.power = s.dev.power := by
  have hpower := (s.startNor_spec w warm).2.2
  have honly := h.only
  generalize s.startNor w warm = x at honly hpower ⊢
  refine ⟨?_, ?_, ?_⟩
  · rw [congrArg State.hosts honly]
  · rw [congrArg State.hosts honly]
  · rw [congrArg State.dev honly, hpower]

/-- A cold start, as the parts of its end. -/
theorem State.coldStart_spec (s : State) (cause : Nat) {w : StartWorld} (hnor : w.nor = .ok) (hmib : 64 ≤ w.norMib) (h1 : w.boot ≠ 1)
    (h2 : w.boot ≠ 2) (hnext : s.bootRec.next < 4) : (s.coldStart cause w).dev.power = .on
      ∧ (s.coldStart cause w).f .svc F.SVC_BOOT_SEL_SLOT = s.bootRec.next
      ∧ (s.coldStart cause w).f (.pep 0) F.PEP_STAT_STRAP = bit w.split
      ∧ Sparse.get (fun _ => 0) (s.coldStart cause w).hosts.life lifeCycles = Sparse.get (fun _ => 0) s.hosts.life lifeCycles + 1
      ∧ (s.coldStart cause w).hosts.namespaces = s.hosts.namespaces := by
  obtain ⟨hstarted, hattempt⟩ := s.coldStart_started cause hnor hmib h1 h2
  obtain ⟨-, -, hstrap⟩ := s.coldBegin_spec cause w
  obtain ⟨hmem, hhosts, hdev⟩ := s.coldBegin_kept cause w
  obtain ⟨hlife, hns, -⟩ := s.coldReset_life cause .on
  obtain ⟨hslife, hsns, hspower⟩ := hstarted.hosts
  have hwin : (s.coldBegin cause w).window (inRegion 0 2) = s.window (inRegion 0 2) := by
    have hcold : (s.coldBegin cause w).window (inRegion 0 2) = (s.coldReset cause .on).window (inRegion 0 2) := by
      rw [State.window, State.window, hmem]
    rw [hcold, State.coldReset_window s cause .on fun a ha => ?_]
    simp only [inRegion, inNor, norBase, decide_eq_true_eq] at ha ⊢
    omega
  refine ⟨?_, ?_, ?_, ?_, ?_⟩
  · rw [hspower, hdev, State.coldReset_power]
  · rw [hstarted.slot hattempt, State.bootRec_next_congr hwin, Nat.mod_eq_of_lt hnext]
  · rw [hstarted.regs.f (f := F.PEP_STAT_STRAP) (by decide) (by simp), hstrap]
  · rw [hslife, State.startNor_cycles, hhosts, hlife]
  · rw [hsns, hhosts, hns]

/-- The bytes after a cold start (R43, R488). -/
theorem State.coldStart_byte (s : State) (cause : Nat) {w : StartWorld} (hnor : w.nor = .ok) (hmib : 64 ≤ w.norMib) (h1 : w.boot ≠ 1)
    (h2 : w.boot ≠ 2) {a : Nat} (ha1 : a < norBase + 0x20000 ∨ norBase + 0x40000 ≤ a)
    (ha2 : a < norBase + shutBase ∨ norBase + 0x100000 ≤ a) :
    (s.coldStart cause w).byte a = if inNor a = true then s.byte a else memReset a := by
  obtain ⟨hstarted, -⟩ := s.coldStart_started cause hnor hmib h1 h2
  have hbegin : (s.coldBegin cause w).byte a = (s.coldReset cause .on).byte a :=
    congrArg (Sparse.get memReset · a) (s.coldBegin_kept cause w).1
  rw [hstarted.byte ha1 ha2, hbegin, State.byte_coldReset]

/-- Settles O55: a cold start is the start that a cold reset and the straps begin, and a warm start keeps the straps and the counts. -/
theorem starts : Obligations.Starts := by
  refine ⟨?_, ?_, ?_, ?_⟩
  · intro s i w cause hnor hmib h1 h2 hnext hi
    obtain ⟨hstarted, hattempt⟩ := s.coldStart_started cause hnor hmib h1 h2
    obtain ⟨hpower, hslot, hsplit, hlife, hns⟩ := s.coldStart_spec cause hnor hmib h1 h2 hnext
    have hcause := s.coldStart_cause cause hnor hmib h1 h2
    have hbyte := fun a => s.coldStart_byte cause hnor hmib h1 h2 (a := a)
    refine Completes.of_leave (exec_coldStarts hi) ?_
    generalize s.coldStart cause w = r at *
    refine ⟨hpower, hstarted.stage, hcause, hstarted.attempt.trans hattempt, hstarted.warm, hslot, hstarted.valid, hstarted.norMib,
      hstarted.slotMib, hsplit, hlife, hns, fun a ha => ?_, fun a ha ha1 ha2 => ?_⟩
    · have hout : a < 0x40000000 ∨ 0x50000000 ≤ a := by
        simp only [inNor, decide_eq_false_iff_not] at ha
        omega
      have hbase : norBase = 0x40000000 := rfl
      have hshut : shutBase = 0xC0000 := rfl
      exact (hbyte a (by omega) (by omega)).trans (if_neg (by simp [ha]))
    · exact (hbyte a ha1 ha2).trans (if_pos ha)
  · intro s w hr hwarm hstage hsvc hnor hmib hchr hready
    have hstarted := State.warmStart_started (s := s.answer .none) hwarm hstage hsvc hnor hmib hchr hready
    refine Completes.of_run hr (exec_warmStart w s) rfl ?_
    generalize (s.answer .none).warmStart w = r at hstarted ⊢
    have honly := hstarted.only
    generalize (s.answer .none).startNor w true = x at honly
    refine ⟨hstarted.stage, hstarted.attempt, hstarted.warm, ?_, ?_, hstarted.armed, fun a ha1 ha2 => hstarted.byte ha1 ha2, hstarted.regs, ?_⟩
    · change r.svcs.fallback = _
      rw [congrArg State.svcs honly]
      rfl
    · change r.svcs.strapBoot = _
      rw [congrArg State.svcs honly]
      rfl
    · rw [honly]
      rfl
  · intro s hr hreset htested hbad hstage
    obtain ⟨hregs, honly, hready⟩ := (s.answer .none).selfTestPassed_spec
    refine Completes.of_run hr (exec_selfTestDone none s) (State.selfTestDone_passed (s := s.answer .none) htested hreset hbad hstage) ?_
    generalize (s.answer .none).selfTestPassed = r at *
    refine ⟨hready, hregs, ?_⟩
    rw [honly]
    rfl
  · intro s k hr hreset htested hstart
    obtain ⟨hregs, honly, hfail, hid, hfault, herr⟩ := (s.answer .none).selfTestFailed_spec k
    refine Completes.of_run hr (exec_selfTestDone (some k) s) (State.selfTestDone_failed (s := s.answer .none) k htested hreset hstart) ?_
    generalize (s.answer .none).selfTestFailed k = r at *
    refine ⟨hfail, hid, hfault, herr, hregs, ?_⟩
    rw [honly]
    rfl

end Sys2Proof.Machine

/-! SUPPORT. What a record of the boot history is made of, and the thermal shutdown. -/

namespace Sys2Proof.Machine

variable {s t : State}

/-! ### What a record of the boot history is made of (R499) -/

/-- The parts of the state that a record of the boot history is made of are those of `s`. -/
structure SameStart (s t : State) : Prop where
  mem : t.mem = s.mem
  life : t.hosts.life = s.hosts.life
  counts : t.hosts.counts = s.hosts.counts
  chrysalis : t.svcs.chrysalis = s.svcs.chrysalis
  strapBoot : t.svcs.strapBoot = s.svcs.strapBoot
  regs : ∀ o ∈ [Reg.SVC_BOOT_STAT, Reg.SVC_BOOT_SEL, Reg.SVC_FAIL, Reg.SVC_NOR_STAT], t.reg .svc o = s.reg .svc o
  cause : t.reg .dev Reg.DEV_RST_CAUSE = s.reg .dev Reg.DEV_RST_CAUSE

theorem State.byte_congr (h : t.mem = s.mem) (a : Nat) : t.byte a = s.byte a := congrArg (Sparse.get memReset · a) h

theorem State.norBytes_congr_mem (h : t.mem = s.mem) (off n : Nat) : t.norBytes off n = s.norBytes off n :=
  List.map_congr_left fun _ _ => State.byte_congr h _

/-- The sequence number of a start is that of the newest record of the boot history. -/
theorem SameStart.startSeq (h : SameStart s t) : t.startSeq = s.startSeq := by
  have hrecords : t.norRecords 0x20000 2 = s.norRecords 0x20000 2 :=
    State.norRecords_congr (by rw [State.window, State.window, h.mem])
  rw [State.startSeq, State.startSeq, State.history, State.history, hrecords]

theorem SameStart.f (h : SameStart s t) {f : Field} (hf : f.off ∈ [Reg.SVC_BOOT_STAT, Reg.SVC_BOOT_SEL, Reg.SVC_FAIL, Reg.SVC_NOR_STAT]) :
    t.f .svc f = s.f .svc f := congrArg f.get (h.regs f.off hf)

/-- The revision of a slot's image. -/
theorem SameStart.slotRev (h : SameStart s t) (k : Nat) : t.slotRev k = s.slotRev k := by
  have hsize : t.slotSize = s.slotSize := congrArg (· * 2 ^ 20) (h.f (f := F.SVC_NOR_STAT_SLOT_MIB) (by decide))
  have himage : t.slotImage k = s.slotImage k := by
    simp only [State.slotImage, State.slotAt, hsize, State.imageAt, State.holdsImage, State.norBytes_congr_mem h.mem]
    rfl
  rw [State.slotRev, State.slotRev, himage]

/-- A count that no register feeds. -/
theorem State.life_pon (s : State) : s.life lifePon
    = Sparse.get (fun _ => 0) s.hosts.life lifePon + Sparse.get (fun _ => 0) s.hosts.counts lifePon := by
  have hsource : lifeSources.find? (fun (e : Nat × (UnitId × Nat)) => e.1 == lifePon) = none := by decide
  rw [State.life, hsource]

/-- The bytes of a record of the boot history. -/
theorem SameStart.histBytes (h : SameStart s t) (kind seq result reason ms : Nat) :
    t.histBytes kind seq result reason ms = s.histBytes kind seq result reason ms := by
  have hsel : t.histSel = s.histSel := by
    rw [State.histSel, State.histSel, h.f (f := F.SVC_BOOT_SEL_IDSAR) (by decide), h.f (f := F.SVC_BOOT_SEL_PATCH) (by decide),
      h.f (f := F.SVC_BOOT_SEL_SETPAIR) (by decide), h.strapBoot]
  unfold State.histBytes
  rw [h.chrysalis, h.f (f := F.SVC_BOOT_SEL_SLOT) (by decide), h.f (f := F.SVC_BOOT_STAT_ATTEMPT) (by decide),
    h.f (f := F.SVC_FAIL_COUNT) (by decide), hsel, h.cause, t.life_pon, s.life_pon, h.life, h.counts]
  simp only [h.slotRev]

/-! ### The loss of dirty data (R37, R499) -/

/-- The record of the loss changes memory and the cached copies of its lines alone. -/
theorem State.lossRecord_only (s : State) : s.lossRecord = { s with mem := s.lossRecord.mem, lines := s.lossRecord.lines } := by
  unfold State.lossRecord
  split
  · rfl
  · exact s.norAppend_only _ _ _ _

/-- Without a vault and with dirty data, the record is in the boot history. -/
theorem State.lossRecord_dirty (hvault : s.vaultFitted = false) (hdirty : 0 < s.dirtyGranules) :
    s.lossRecord = s.histAppend (s.histBytes 4 s.startSeq 0 0 0) := by
  unfold State.lossRecord
  exact if_neg (by simp [hvault]; omega)

/-- Without dirty data there is no loss. -/
theorem State.lossRecord_clean (hdirty : s.dirtyGranules = 0) : s.lossRecord = s := by
  unfold State.lossRecord
  exact if_pos (by simp [hdirty])

/-- The memory that an appended record leaves depends on memory alone. -/
theorem State.norProgram_mem_congr (l : List Byte) : ∀ {s t : State} (off : Nat), t.mem = s.mem →
    (t.norProgram off l).mem = (s.norProgram off l).mem := by
  induction l with
  | nil => exact fun _ h => h
  | cons b l ih =>
    intro s t off h
    refine ih _ ?_
    rw [State.setByte, State.setByte, State.byte_congr h, h]

theorem State.norPlace_mem_congr (h : t.mem = s.mem) (base blocks seqAt : Nat) :
    (t.norPlace base blocks seqAt).1.mem = (s.norPlace base blocks seqAt).1.mem := by
  have hentries : t.norEntries base blocks = s.norEntries base blocks := by rw [State.norEntries, State.norEntries, h]
  have hrecords : t.norRecords base blocks = s.norRecords base blocks := State.norRecords_congr (by rw [State.window, State.window, h])
  have hblank : ∀ b, t.blankEntry base blocks b = s.blankEntry base blocks b := fun b => by
    rw [State.blankEntry, State.blankEntry, hentries]
  unfold State.norPlace
  dsimp only
  rw [hrecords, hblank]
  split
  · exact h
  · rw [State.norErase, State.norErase, h]

theorem State.norAppend_mem_congr (h : t.mem = s.mem) (base blocks seqAt : Nat) (l : List Byte) :
    (t.norAppend base blocks seqAt l).mem = (s.norAppend base blocks seqAt l).mem := by
  rw [State.norAppend, State.norAppend, State.norPlace_congr s h]
  exact State.norProgram_mem_congr l _ (State.norPlace_mem_congr h base blocks seqAt)

/-- The memory that the record of a loss leaves. -/
theorem SameStart.lossRecord_mem (h : SameStart s t) (hvault : t.vaultFitted = s.vaultFitted)
    (hdirty : t.dirtyGranules = s.dirtyGranules) : t.lossRecord.mem = s.lossRecord.mem := by
  unfold State.lossRecord
  rw [hvault, hdirty]
  split
  · exact h.mem
  · rw [h.startSeq, h.histBytes]
    exact State.norAppend_mem_congr h.mem _ _ _ _

/-- The record of a loss is in the boot history, and leaves every byte outside it. -/
theorem SameStart.lossRecord_dirty (h : SameStart s t) (hvault : t.vaultFitted = false) (hdirty : 0 < t.dirtyGranules) :
    t.lossRecord.norBytes (0x20000 + 64 * (s.norPlace 0x20000 2 8).2) (s.histBytes 4 s.startSeq 0 0 0).length
        = s.histBytes 4 s.startSeq 0 0 0
      ∧ ∀ a, (a < norBase + 0x20000 ∨ norBase + 0x40000 ≤ a) → t.lossRecord.byte a = s.byte a := by
  have hlen := s.length_histBytes_le 4 s.startSeq 0 0 0
  rw [State.lossRecord_dirty hvault hdirty, h.startSeq, h.histBytes, ← State.norPlace_congr s h.mem 0x20000 2 8]
  exact ⟨t.norAppend_reads 0x20000 8 (blocks := 2) (by decide) (by decide) hlen, fun a ha =>
    ((t.histAppend_reach hlen).byte ha).trans (State.byte_congr h.mem a)⟩

end Sys2Proof.Machine

/-! SUPPORT. The thermal shutdown: the fast path's samples, the trip, the orderly shutdown and its end. -/

namespace Sys2Proof.Machine

variable {s t : State}

theorem exec_fastPathSample (l : List Int) (s : State) : exec (.fastPathSample l) s = done s (fun s => s.fastPath l) := rfl

theorem exec_shutdownFinal (late : Bool) (s : State) : exec (.shutdownFinal late) s = done s (fun s => s.shutdownFinal late) := rfl

theorem exec_recSlotArm (e : Engine) (v : Word) (s : State) : exec (.recSlotArm e v) s
    = done s (fun s => s.access e .store .hkp Reg.HKP_REC_SLOT (svcOnly e) (s.recSlot v)) := rfl

/-! ### The fast path (R507, R516) -/

/-- The samples of the sensors that are not excluded. -/
def State.liveSamples (s : State) (l : List Int) : List (Int × Nat) :=
  l.zipIdx.filter (fun e => !s.house.excluded.contains e.2 && decide (e.2 < 16))

theorem State.mem_liveSamples (s : State) (l : List Int) (v : Int) (k : Nat) :
    (v, k) ∈ s.liveSamples l ↔ l[k]? = some v ∧ k < 16 ∧ k ∉ s.house.excluded := by
  simp only [State.liveSamples, List.mem_filter, List.mem_zipIdx_iff_getElem?, Bool.and_eq_true, decide_eq_true_eq, Bool.not_eq_true',
    List.contains_eq_mem, decide_eq_false_iff_not]
  exact and_congr_right fun _ => and_comm

/-- Each sensor has one sample. -/
theorem State.liveSamples_nodup (s : State) (l : List Int) : ((s.liveSamples l).map Prod.snd).Nodup := by
  refine List.Nodup.sublist ((List.filter_sublist (l := l.zipIdx)).map Prod.snd) ?_
  rw [List.zipIdx_map_snd]
  exact List.nodup_range'

/-- The highest of a list of samples. -/
theorem foldl_max_le (l : List (Int × Nat)) : ∀ m : Int, m ≤ l.foldl (fun m e => max m e.1) m
    ∧ ∀ e ∈ l, e.1 ≤ l.foldl (fun m e => max m e.1) m := by
  induction l with
  | nil => exact fun m => ⟨le_refl m, nofun⟩
  | cons x t ih =>
    intro m
    obtain ⟨hm, ht⟩ := ih (max m x.1)
    refine ⟨(le_max_left _ _).trans hm, fun e he => ?_⟩
    obtain rfl | he := List.mem_cons.mp he
    · exact (le_max_right _ _).trans hm
    · exact ht e he

/-- The count of a sensor after its sample (R516). -/
def countAbove (old : Nat) (v : Int) : Nat := if 620 ≤ v then old + 1 else 0

/-- Each sensor's count follows its own sample. -/
theorem get_foldl_countAbove {l : List (Int × Nat)} (hnd : (l.map Prod.snd).Nodup) {v : Int} {k : Nat} (h : (v, k) ∈ l) :
    ∀ a : List (Nat × Nat), Sparse.get (fun _ => 0) (l.foldl (fun a e => Sparse.set (fun _ => 0) a e.2
      (if 620 ≤ e.1 then Sparse.get (fun _ => 0) a e.2 + 1 else 0)) a) k = countAbove (Sparse.get (fun _ => 0) a k) v := by
  have hother : ∀ (l : List (Int × Nat)), k ∉ l.map Prod.snd → ∀ a : List (Nat × Nat), Sparse.get (fun _ => 0) (l.foldl (fun a e =>
      Sparse.set (fun _ => 0) a e.2 (if 620 ≤ e.1 then Sparse.get (fun _ => 0) a e.2 + 1 else 0)) a) k = Sparse.get (fun _ => 0) a k := by
    intro l
    induction l with
    | nil => exact fun _ _ => rfl
    | cons x t ih =>
      intro hk a
      rw [List.map_cons, List.mem_cons, not_or] at hk
      rw [List.foldl_cons, ih hk.2, Sparse.get_set, if_neg hk.1]
  induction l with
  | nil => exact nomatch h
  | cons x t ih =>
    intro a
    rw [List.map_cons, List.nodup_cons] at hnd
    obtain rfl | ht := List.mem_cons.mp h
    · rw [List.foldl_cons, hother t hnd.1, Sparse.get_set, if_pos rfl]
      rfl
    · have hne : k ≠ x.2 := fun he => hnd.1 (he ▸ List.mem_map_of_mem (f := Prod.snd) ht)
      rw [List.foldl_cons, ih hnd.2 ht, Sparse.get_set, if_neg hne]

/-- The house after the samples, before what they lead to. -/
def State.fastSampled (s : State) (l : List Int) : State :=
  s.setHouse { s.house with
    peak := (s.liveSamples l).foldl (fun m e => max m e.1) s.house.peak
    above155 := (s.liveSamples l).foldl (fun a e => Sparse.set (fun _ => 0) a e.2
      (if 620 ≤ e.1 then Sparse.get (fun _ => 0) a e.2 + 1 else 0)) s.house.above155 }

/-- The count of a sensor that has a sample. -/
theorem State.fastSampled_count (s : State) {l : List Int} {v : Int} {k : Nat} (h : (v, k) ∈ s.liveSamples l) :
    Sparse.get (fun _ => 0) (s.fastSampled l).house.above155 k = countAbove (Sparse.get (fun _ => 0) s.house.above155 k) v :=
  get_foldl_countAbove (s.liveSamples_nodup l) h s.house.above155

/-- What the samples lead to: the trip, the orderly shutdown, or nothing. -/
theorem State.fastPath_eq (s : State) (l : List Int) : s.fastPath l =
    match (s.liveSamples l).find? (fun e => decide (640 ≤ e.1)) with
    | some e => (s.fastSampled l).hardwareTrip e.2
    | none =>
      match (s.liveSamples l).find? (fun e => decide (21 ≤ Sparse.get (fun _ => 0) (s.fastSampled l).house.above155 e.2)) with
      | some e => (s.fastSampled l).orderlyShutdown e.2
      | none => s.fastSampled l := rfl

/-- No sample is at the trip's temperature, and no sensor's count is full. -/
theorem State.fastPath_quiet {l : List Int} (h : ∀ k v, (v, k) ∈ s.liveSamples l →
    v < 640 ∧ (620 ≤ v → Sparse.get (fun _ => 0) s.house.above155 k < 20)) : s.fastPath l = s.fastSampled l := by
  have htrip : (s.liveSamples l).find? (fun e => decide (640 ≤ e.1)) = none := List.find?_eq_none.mpr fun e he => by
    have := (h e.2 e.1 he).1
    simp only [decide_eq_true_eq]
    omega
  have hfull : (s.liveSamples l).find? (fun e => decide (21 ≤ Sparse.get (fun _ => 0) (s.fastSampled l).house.above155 e.2)) = none := by
    refine List.find?_eq_none.mpr fun e he => ?_
    have hcount := (h e.2 e.1 he).2
    rw [s.fastSampled_count he, countAbove, decide_eq_true_eq]
    split
    case isTrue hhot => have := hcount hhot; omega
    case isFalse => omega
  rw [s.fastPath_eq, htrip, hfull]

/-- A sample at the trip's temperature trips the hardware. -/
theorem State.fastPath_trip {l : List Int} {v : Int} {k : Nat} (h : (v, k) ∈ s.liveSamples l) (hv : 640 ≤ v) :
    ∃ trig, s.fastPath l = (s.fastSampled l).hardwareTrip trig := by
  obtain ⟨e, he⟩ : ∃ e, (s.liveSamples l).find? (fun e => decide (640 ≤ e.1)) = some e :=
    Option.isSome_iff_exists.mp (List.find?_isSome.mpr ⟨_, h, decide_eq_true hv⟩)
  exact ⟨e.2, by rw [s.fastPath_eq, he]⟩

/-- A sensor's 21st sample in a row begins the orderly shutdown, where no sample is at the trip's temperature. -/
theorem State.fastPath_orderly {l : List Int} {v : Int} {k : Nat} (h : (v, k) ∈ s.liveSamples l) (hv : 620 ≤ v)
    (hcount : 20 ≤ Sparse.get (fun _ => 0) s.house.above155 k) (hcool : ∀ w ∈ l, w < 640) :
    ∃ trig, s.fastPath l = (s.fastSampled l).orderlyShutdown trig := by
  have htrip : (s.liveSamples l).find? (fun e => decide (640 ≤ e.1)) = none := List.find?_eq_none.mpr fun e he => by
    have hmem : e.1 ∈ l := List.mem_of_getElem? ((s.mem_liveSamples l e.1 e.2).mp he).1
    have := hcool e.1 hmem
    simp only [decide_eq_true_eq]
    omega
  have hfull : 21 ≤ Sparse.get (fun _ => 0) (s.fastSampled l).house.above155 k := by
    rw [s.fastSampled_count h, countAbove, if_pos hv]
    omega
  obtain ⟨e, he⟩ : ∃ e, (s.liveSamples l).find? (fun e => decide (21 ≤ Sparse.get (fun _ => 0) (s.fastSampled l).house.above155 e.2)) = some e :=
    Option.isSome_iff_exists.mp (List.find?_isSome.mpr ⟨_, h, decide_eq_true hfull⟩)
  exact ⟨e.2, by rw [s.fastPath_eq, htrip, he]⟩

/-! ### The thermal hold (R516, R518) -/

/-- The hold: the cold reset, THERM_TRIP_N and the event of the next start. -/
theorem State.thermalHold_spec (s : State) : s.thermalHold.dev.power = .thermHeld ∧ s.thermalHold.house.tripped = true
    ∧ s.thermalHold.hosts.thermEvent = true ∧ s.thermalHold.resp = .none
    ∧ ∀ a, s.thermalHold.byte a = if inNor a = true then s.byte a else memReset a := by
  have hdev := s.coldReset_power 0 .thermHeld
  have hbyte := fun a => s.byte_coldReset 0 a .thermHeld
  have hresp : (s.coldReset 0 .thermHeld).resp = .none := by
    obtain ⟨s', -, h⟩ := s.coldReset_frame 0 .thermHeld
    rw [h]
    rfl
  unfold State.thermalHold
  generalize s.coldReset 0 .thermHeld = r at *
  exact ⟨congrArg Device.power hdev, rfl, rfl, hresp, hbyte⟩

/-- The orderly shutdown without a vault and outside a handover (R37, R516). -/
theorem State.orderlyShutdown_eq (trig : Nat) (hshut : s.on .hkp F.HKP_THM_STAT_SHUT = false) (hvault : s.vaultFitted = false)
    (hhand : s.svcs.handover = none) : ∃ x : State, s.orderlyShutdown trig = x.lossRecord
      ∧ RegsBut s x [(.hkp, Reg.HKP_THM_STAT), (.hkp, Reg.UNIT_ERR)] ∧ x.on .hkp F.HKP_THM_STAT_SHUT = true
      ∧ (x.reg .hkp Reg.UNIT_ERR).getLsbD 11 = true
      ∧ x = { s with regs := x.regs, dev := { s.dev with shutdown := true }, cmd := { s.cmd with stopped := true }, house := x.house } := by
  let x : State := { (s.setF .hkp F.HKP_THM_STAT_SHUT 1).err .hkp hkShut with
    dev := { s.dev with shutdown := true }, cmd := { s.cmd with stopped := true }, house := { s.house with trig := trig } }
  have hstat : RegsBut s (s.setF .hkp F.HKP_THM_STAT_SHUT 1) [(.hkp, Reg.HKP_THM_STAT)] := RegsBut.setF s .hkp F.HKP_THM_STAT_SHUT 1 (by decide)
  have herr : RegsBut (s.setF .hkp F.HKP_THM_STAT_SHUT 1) x [(.hkp, Reg.UNIT_ERR)] :=
    (RegsBut.err (s.setF .hkp F.HKP_THM_STAT_SHUT 1) .hkp hkShut).trans (RegsBut.of_regs rfl)
  have hregs : RegsBut s x [(.hkp, Reg.HKP_THM_STAT), (.hkp, Reg.UNIT_ERR)] := (hstat.mono (by simp)).trans (herr.mono (by simp))
  have hfit : x.vaultFitted = false := by
    rw [State.vaultFitted, State.on, hregs.f (by decide) (by simp), hregs.f (by decide) (by simp)]
    exact hvault
  have hsame : x.abandonHandover = x := by
    have hx : x.svcs.handover = none := hhand
    rw [State.abandonHandover, hx]
  refine ⟨x, ?_, hregs, ?_, ?_, rfl⟩
  · have hready : x.saveReady = false := by rw [State.saveReady, hfit, Bool.and_false, Bool.false_and]
    unfold State.orderlyShutdown
    rw [if_neg (by simp [hshut])]
    change (if x.abandonHandover.saveReady && x.abandonHandover.vault.saving.isNone then x.abandonHandover.beginSave
      else x.abandonHandover.lossRecord) = x.lossRecord
    rw [hsame, hready, Bool.false_and, if_neg Bool.false_ne_true]
  · rw [State.on, herr.f (by decide) (by simp), State.f_setF_same _ _ _ _ (by decide)]
    rfl
  · rw [show x.reg .hkp Reg.UNIT_ERR = _ from State.reg_err _ .hkp hkShut, BitVec.getLsbD_or]
    exact Bool.or_eq_true_iff.mpr (.inr (by decide))

/-- A record that is not armed is not committed (R520). -/
theorem State.commitRecord_unarmed (kind trig : Nat) (h : s.on .hkp F.HKP_THM_STAT_ARMED = false) : s.commitRecord kind trig = s :=
  if_pos (by simp [h])

/-- The shutdown's end holds the device (R516). -/
theorem State.shutdownFinal_eq {late : Bool} (hshut : s.on .hkp F.HKP_THM_STAT_SHUT = true) (hsave : s.vault.saving = none)
    (hend : late = true ∨ s.spMode = spStopped ∨ s.spMode = spOff) :
    s.shutdownFinal late = (s.commitRecord 1 s.house.trig).thermalHold := by
  have hover : ¬((!late && s.spMode != spStopped && s.spMode != spOff) = true) := by
    obtain h | h | h := hend <;> simp [h]
  unfold State.shutdownFinal
  rw [if_neg (by simp [hshut]), if_neg (by simp [hsave]), if_neg hover]

/-- What the trip leaves (R517, R518). -/
theorem State.hardwareTrip_hold (s : State) (trig : Nat) : ∃ x : State, s.hardwareTrip trig = x.thermalHold := ⟨_, rfl⟩

/-- A field of one bit reads that bit. -/
theorem Field.get_of_width_one {f : Field} (h : f.width = 1) (w : Word) : f.get w = bit (w.getLsbD f.lo) := by
  obtain ⟨o, lo, width⟩ := f
  obtain rfl : width = 1 := h
  rw [Field.get, BitVec.extractLsb'_toNat, Nat.shiftRight_eq_div_pow, bit, BitVec.getLsbD, Nat.testBit_eq_decide_div_mod_eq]
  rcases Nat.mod_two_eq_zero_or_one (w.toNat / 2 ^ lo) with h0 | h1
  · simp [h0]
  · simp [h1]

/-- REC_SLOT_ARM arms the record as its value says (R520, R528). -/
theorem State.recSlot_spec (s : State) (v : Word) : (s.recSlot v).on .hkp F.HKP_REC_SLOT_ARM = v.getLsbD 31
    ∧ (s.recSlot v).f .hkp F.HKP_REC_SLOT_ENTRY = v.toNat % 4096 ∧ (s.recSlot v).on .hkp F.HKP_THM_STAT_ARMED = v.getLsbD 31
    ∧ RegsBut s (s.recSlot v) [(.hkp, Reg.HKP_REC_SLOT), (.hkp, Reg.HKP_THM_STAT)] ∧ OnlyRegs s (s.recSlot v) := by
  have harm : F.HKP_REC_SLOT_ARM.get v = bit (v.getLsbD 31) := Field.get_of_width_one rfl v
  have hbit : ∀ b : Bool, (bit b % 2 ^ 1 == 1) = b := fun b => by cases b <;> rfl
  let s1 := s.setF .hkp F.HKP_REC_SLOT_ARM (F.HKP_REC_SLOT_ARM.get v)
  let s2 := s1.setF .hkp F.HKP_REC_SLOT_ENTRY (F.HKP_REC_SLOT_ENTRY.get v)
  have h12 : RegsBut s s2 [(.hkp, Reg.HKP_REC_SLOT)] := (RegsBut.setF s .hkp F.HKP_REC_SLOT_ARM _ (by decide)).trans
    (RegsBut.setF s1 .hkp F.HKP_REC_SLOT_ENTRY _ (by decide))
  have h3 : RegsBut s2 (s.recSlot v) [(.hkp, Reg.HKP_THM_STAT)] := RegsBut.setF s2 .hkp F.HKP_THM_STAT_ARMED _ (by decide)
  refine ⟨?_, ?_, ?_, (h12.mono (by simp)).trans (h3.mono (by simp)), rfl⟩
  · rw [State.on, h3.f (by decide) (by simp), State.f_setF_ne _ _ F.HKP_REC_SLOT_ENTRY F.HKP_REC_SLOT_ARM _ rfl (by decide) (by decide),
      State.f_setF_same _ _ _ _ (by decide), harm]
    exact hbit _
  · rw [h3.f (by decide) (by simp), State.f_setF_same _ _ _ _ (by decide), Nat.mod_eq_of_lt (show F.HKP_REC_SLOT_ENTRY.get v < 2 ^ F.HKP_REC_SLOT_ENTRY.width from BitVec.isLt _)]
    simp [Field.get, BitVec.extractLsb'_toNat]
  · rw [State.on, State.recSlot, State.f_setF_same _ _ _ _ (by decide), harm]
    exact hbit _

/-- Settles O58: the samples are told apart by their sensors' own counts, and the hold is a cold reset. -/
theorem thermalShutdown : Obligations.ThermalShutdown := by
  refine ⟨?_, ?_, ?_, ?_, ?_⟩
  · intro s l hr h
    have hlive : ∀ k v, (v, k) ∈ s.liveSamples l → v < 640 ∧ (620 ≤ v → Sparse.get (fun _ => 0) s.house.above155 k < 20) := fun k v hm =>
      have hk := (s.mem_liveSamples l v k).mp hm
      h k v hk.1 hk.2.1 hk.2.2
    obtain ⟨hpeak, hmax⟩ := foldl_max_le (s.liveSamples l) s.house.peak
    refine Completes.of_result hr (exec_fastPathSample l s) (State.fastPath_quiet (s := s.answer .none) hlive) ⟨fun k v hk hlt hex => ?_, hpeak, rfl⟩
      rfl
    have hm := (s.mem_liveSamples l v k).mpr ⟨hk, hlt, hex⟩
    exact ⟨hmax _ hm, s.fastSampled_count hm⟩
  · intro s l k v hr hk hlt hex hv
    obtain ⟨trig, htrip⟩ := State.fastPath_trip (s := s.answer .none) ((s.mem_liveSamples l v k).mpr ⟨hk, hlt, hex⟩) hv
    obtain ⟨x, hx⟩ := ((s.answer .none).fastSampled l).hardwareTrip_hold trig
    obtain ⟨hpower, htripped, hevent, hresp, hbyte⟩ := x.thermalHold_spec
    refine Completes.of_run hr (exec_fastPathSample l s) (htrip.trans hx) ?_
    generalize x.thermalHold = r at *
    refine ⟨hpower, htripped, hevent, hresp, fun a ha => ?_⟩
    exact (hbyte a).trans (if_neg (by simp [ha]))
  · intro s l k v hr hk hlt hex hv hcount hcool hshut hvault hhand
    obtain ⟨trig, horderly⟩ := State.fastPath_orderly (s := s.answer .none) ((s.mem_liveSamples l v k).mpr ⟨hk, hlt, hex⟩) hv hcount hcool
    obtain ⟨x, hx, hregs, hxshut, hxerr, honly⟩ := State.orderlyShutdown_eq (s := (s.answer .none).fastSampled l) trig hshut hvault hhand
    have hregs' : RegsBut s x [(.hkp, Reg.HKP_THM_STAT), (.hkp, Reg.UNIT_ERR)] := hregs.of_eq rfl rfl
    have hmem : x.mem = s.mem := by rw [honly]; rfl
    have hhosts : x.hosts = s.hosts := by rw [honly]; rfl
    have hsvcs : x.svcs = s.svcs := by rw [honly]; rfl
    have hcmd : x.dirtyGranules = s.dirtyGranules := by rw [honly]; rfl
    have hsame : SameStart s x := ⟨hmem, by rw [hhosts], by rw [hhosts], by rw [hsvcs], by rw [hsvcs],
      fun o ho => hregs' _ o (by fin_cases ho <;> decide) (by fin_cases ho <;> simp), hregs' _ _ (by decide) (by simp)⟩
    have hfit : x.vaultFitted = false := by
      rw [State.vaultFitted, State.on, hregs'.f (by decide) (by simp), hregs'.f (by decide) (by simp)]
      exact hvault
    have hclean : s.dirtyGranules = 0 → x.lossRecord.mem = s.mem := fun hc => by rw [x.lossRecord_clean (hcmd.trans hc), hmem]
    have hdirty : 0 < s.dirtyGranules → _ := fun hd => hsame.lossRecord_dirty hfit (hcmd ▸ hd)
    have hloss := x.lossRecord_only
    refine Completes.of_run hr (exec_fastPathSample l s) (horderly.trans hx) ?_
    generalize x.lossRecord = r at *
    have hreg : ∀ u o, r.reg u o = x.reg u o := fun u o => by rw [hloss]; rfl
    have hbits : ∀ u f, r.on u f = x.on u f := fun u f => by rw [hloss]; rfl
    refine ⟨(hbits _ _).trans hxshut, ?_, ?_, (congrArg (BitVec.getLsbD · 11) (hreg _ _)).trans hxerr,
      fun u o ho hl => (hreg u o).trans (hregs' u o ho hl), fun hc => State.byte_congr (hclean hc), hdirty, ?_⟩
    · change r.dev.shutdown = true
      rw [hloss, honly]
    · change r.cmd.stopped = true
      rw [hloss, honly]
    · rw [hloss, honly]
      rfl
  · intro s late hr hshut hsave hend
    have hfinal := State.shutdownFinal_eq (s := s.answer .none) hshut hsave hend
    obtain ⟨hpower, htripped, hevent, -, hbyte⟩ := ((s.answer .none).commitRecord 1 (s.answer .none).house.trig).thermalHold_spec
    refine Completes.of_run hr (exec_shutdownFinal late s) hfinal ?_
    have hunarmed : s.on .hkp F.HKP_THM_STAT_ARMED = false → ∀ a,
        ((s.answer .none).commitRecord 1 (s.answer .none).house.trig).thermalHold.byte a = if inNor a = true then s.byte a else memReset a := fun hun a => by
      rw [hbyte, State.commitRecord_unarmed (s := s.answer .none) 1 _ hun]
      rfl
    clear hbyte
    generalize ((s.answer .none).commitRecord 1 (s.answer .none).house.trig).thermalHold = r at *
    exact ⟨hpower, htripped, hevent, hunarmed⟩
  · intro s v hr hreset
    obtain ⟨harm, hentry, harmed, hregs, honly⟩ := (s.answer .none).recSlot_spec v
    exact Completes.of_access hr hreset (exec_recSlotArm .service v s) rfl rfl ⟨harm, hentry, harmed, hregs, rfl⟩

end Sys2Proof.Machine

/-! SUPPORT. The spindle engine: what a stop, a coast and a loss of power reach, and the mode that they leave. -/

namespace Sys2Proof.Machine

variable {s t : State}

/-- What the spindle engine's work leaves. -/
structure SpinReach (s t : State) : Prop where
  regs : RegsOff (fun u _ => u = .spn) s t
  only : t = { s with regs := t.regs, spn := t.spn }

theorem SpinReach.refl (s : State) : SpinReach s s := ⟨fun _ _ _ _ => rfl, rfl⟩

theorem SpinReach.trans {u : State} (h : SpinReach s t) (k : SpinReach t u) : SpinReach s u :=
  ⟨h.regs.trans k.regs, by rw [k.only, h.only]⟩

theorem SpinReach.setSpn (s : State) (x : Spindle) : SpinReach s { s with spn := x } := ⟨fun _ _ _ _ => rfl, rfl⟩

theorem SpinReach.setReg (s : State) {o : Nat} (ho : o < 0x1000) (w : Word) : SpinReach s (s.setReg .spn o w) :=
  ⟨RegsOff.setReg s ho rfl w, rfl⟩

theorem SpinReach.setF (s : State) {f : Field} (ho : f.off < 0x1000) (v : Nat) : SpinReach s (s.setF .spn f v) := .setReg s ho _

theorem SpinReach.count64 (s : State) {o : Nat} (ho : o + 4 < 0x1000) : SpinReach s (s.count64 .spn o) :=
  (SpinReach.setReg s (by omega) _).trans (SpinReach.setReg _ ho _)

theorem State.spOpen_reach (s : State) : SpinReach s s.spOpen :=
  ((SpinReach.setF s (f := F.SPN_STAT_VEC) (by decide) 0).trans (SpinReach.setF _ (f := F.SPN_STAT_SECTOR) (by decide) 0)).trans
    (SpinReach.setSpn _ _)

theorem State.spSlowed_reach (s : State) : SpinReach s s.spSlowed :=
  (SpinReach.setF s (f := F.SPN_STAT_AT_SPEED) (by decide) 0).trans (SpinReach.setSpn _ _)

theorem State.spVector_reach (s : State) (v : Nat) : SpinReach s (s.spVector v) :=
  (SpinReach.setF s (f := F.SPN_STAT_VEC) (by decide) v).trans (SpinReach.setSpn _ _)

theorem State.spEnter_reach (s : State) (m : Nat) : SpinReach s (s.spEnter m) := by
  unfold State.spEnter
  extract_lets s1 k x s2 s3
  have h2 : SpinReach s s2 := (SpinReach.setF s (f := F.SPN_STAT_MODE) (by decide) m).trans (SpinReach.setSpn _ _)
  have h3 : SpinReach s s3 := by
    simp only [s3]
    split
    · exact h2
    · exact h2.trans (State.spSlowed_reach _)
  split
  · exact h3
  · exact h3.trans (State.spOpen_reach _)

theorem State.spAbandon_reach (s : State) : SpinReach s s.spAbandon := SpinReach.setSpn s _

theorem State.spBrakeIn_reach (s : State) (b : Bool) : SpinReach s (s.spBrakeIn b) :=
  ((s.spEnter_reach spBrake).trans (SpinReach.setSpn _ _)).trans (State.spVector_reach _ 0)

theorem State.spRelease_reach (s : State) : SpinReach s s.spRelease := s.spEnter_reach _

theorem State.spStopMotor_reach (s : State) : SpinReach s s.spStopMotor := by
  unfold State.spStopMotor
  dsimp only
  split
  · exact .refl s
  · split
    · split
      · exact s.spAbandon_reach.trans (State.spBrakeIn_reach _ _)
      · exact (s.spAbandon_reach.trans (State.spEnter_reach _ _)).trans (SpinReach.setSpn _ _)
    · split
      · split
        · exact s.spAbandon_reach.trans (State.spBrakeIn_reach _ _)
        · exact s.spAbandon_reach.trans (State.spEnter_reach _ _)
      · exact .refl s

theorem State.spStop_reach (s : State) : SpinReach s s.spStop := s.spStopMotor_reach.trans (SpinReach.setSpn _ _)

theorem State.spPowerLoss_reach (s : State) : SpinReach s s.spPowerLoss := by
  have hloss : SpinReach s (s.setF .spn F.SPN_STAT_PLOSS 1) := SpinReach.setF s (by decide) 1
  unfold State.spPowerLoss
  generalize s.setF .spn F.SPN_STAT_PLOSS 1 = u at hloss ⊢
  dsimp only
  split
  · exact hloss
  · split
    · exact ((hloss.trans (State.spAbandon_reach _)).trans (State.spEnter_reach _ _)).trans (SpinReach.count64 _ (by decide))
    · exact (hloss.trans (State.spAbandon_reach _)).trans (State.spRelease_reach _)

/-! ### The mode and the loss of power (R241, R250) -/

/-- A field of SPN_STAT that a mode's entry leaves or writes last. -/
theorem State.spEnter_field (s : State) {m : Nat} {f : Field} (hf : f.off = Reg.SPN_STAT) (hw : f.lo + f.width ≤ 32)
    (hvec : f.lo + f.width ≤ F.SPN_STAT_VEC.lo ∨ F.SPN_STAT_VEC.lo + F.SPN_STAT_VEC.width ≤ f.lo)
    (hsec : f.lo + f.width ≤ F.SPN_STAT_SECTOR.lo ∨ F.SPN_STAT_SECTOR.lo + F.SPN_STAT_SECTOR.width ≤ f.lo)
    (hspeed : f.lo + f.width ≤ F.SPN_STAT_AT_SPEED.lo ∨ F.SPN_STAT_AT_SPEED.lo + F.SPN_STAT_AT_SPEED.width ≤ f.lo) :
    (s.spEnter m).f .spn f = (s.setF .spn F.SPN_STAT_MODE m).f .spn f := by
  have hopen : ∀ u : State, u.spOpen.f .spn f = u.f .spn f := fun u =>
    (State.f_setF_ne _ .spn F.SPN_STAT_SECTOR f 0 hf hw hsec).trans (u.f_setF_ne .spn F.SPN_STAT_VEC f 0 hf hw hvec)
  have hslow : ∀ u : State, u.spSlowed.f .spn f = u.f .spn f := fun u => u.f_setF_ne .spn F.SPN_STAT_AT_SPEED f 0 hf hw hspeed
  unfold State.spEnter
  extract_lets s1 k x s2 s3
  have h3 : s3.f .spn f = s1.f .spn f := by
    simp only [s3]
    split
    · rfl
    · exact hslow s2
  split
  · exact h3
  · exact (hopen s3).trans h3

theorem State.spEnter_mode (s : State) {m : Nat} (hm : m < 16) : (s.spEnter m).spMode = m :=
  (s.spEnter_field rfl (by decide) (by decide) (by decide) (by decide)).trans
    ((s.f_setF_same .spn F.SPN_STAT_MODE m (by decide)).trans (Nat.mod_eq_of_lt hm))

/-- PLOSS does not change with the mode. -/
theorem State.spEnter_ploss (s : State) (m : Nat) : (s.spEnter m).ploss = s.ploss :=
  congrArg (· == 1) ((s.spEnter_field (f := F.SPN_STAT_PLOSS) rfl (by decide) (by decide) (by decide) (by decide)).trans
    (s.f_setF_ne .spn F.SPN_STAT_MODE F.SPN_STAT_PLOSS m rfl (by decide) (by decide)))

theorem State.spBrakeIn_mode (s : State) (b : Bool) : (s.spBrakeIn b).spMode = spBrake := by
  have hvec : ∀ u : State, (u.spVector 0).spMode = u.spMode := fun u =>
    u.f_setF_ne .spn F.SPN_STAT_VEC F.SPN_STAT_MODE 0 rfl (by decide) (by decide)
  unfold State.spBrakeIn
  rw [hvec]
  exact s.spEnter_mode (by decide)

/-- The mode that a stop leaves (R241). -/
def State.stopMode (s : State) : Nat :=
  if s.ploss then s.spMode
  else if s.spMode = spAccel ∨ s.spMode = spRun then (if s.chopFlt then spBrake else spDecel)
  else if s.spMode = Machine.spMeasure ∨ s.spMode = spAlign ∨ s.spMode = spCoast then (if 60 * 16 ≤ s.spAbs then spBrake else spStopped)
  else s.spMode

theorem State.spStop_mode (s : State) : s.spStop.spMode = s.stopMode := by
  change s.spStopMotor.spMode = s.stopMode
  unfold State.spStopMotor State.stopMode
  dsimp only
  split
  · rfl
  · split
    · have hchop : s.spAbandon.chopFlt = s.chopFlt := rfl
      rw [hchop]
      split
      · exact State.spBrakeIn_mode _ true
      · exact State.spEnter_mode s.spAbandon (by decide)
    · split
      · have habs : s.spAbandon.spAbs = s.spAbs := rfl
        rw [habs]
        split
        · exact State.spBrakeIn_mode _ true
        · exact State.spEnter_mode s.spAbandon (by decide)
      · rfl

/-- The stop's mode depends on the spindle's registers alone. -/
theorem State.stopMode_congr (h : ∀ o, o < 0x1000 → t.reg .spn o = s.reg .spn o) : t.stopMode = s.stopMode := by
  have hf : ∀ f : Field, f.off < 0x1000 → t.f .spn f = s.f .spn f := fun f ho => congrArg f.get (h f.off ho)
  have hmode : t.spMode = s.spMode := hf F.SPN_STAT_MODE (by decide)
  have hploss : t.ploss = s.ploss := congrArg (· == 1) (hf F.SPN_STAT_PLOSS (by decide))
  have hchop : t.chopFlt = s.chopFlt := congrArg (BitVec.getLsbD · sfChop) (h Reg.SPN_FLT_STAT (by decide))
  have habs : t.spAbs = s.spAbs := by
    rw [State.spAbs, State.spAbs, State.spSpeed, State.spSpeed, hf F.SPN_SPEED_SPEED (by decide), State.on, State.on, State.on, State.on,
      hf F.SPN_SPEED_VALID (by decide), hf F.SPN_SPEED_BACK (by decide)]
  rw [State.stopMode, State.stopMode, hmode, hploss, hchop, habs]

/-- A loss of power sets PLOSS, whatever the mode (R250). -/
theorem State.spPowerLoss_ploss (s : State) : s.spPowerLoss.ploss = true := by
  have hset : (s.setF .spn F.SPN_STAT_PLOSS 1).ploss = true := by
    rw [State.ploss, State.on, State.f_setF_same _ _ _ _ (by decide)]
    rfl
  have habandon : ∀ (u : State) (m : Nat), (u.spAbandon.spEnter m).ploss = u.ploss := fun u m => u.spAbandon.spEnter_ploss m
  have hcount : ∀ u : State, (u.count64 .spn Reg.SPN_CNT_PLOSS_LO).ploss = u.ploss := fun u =>
    congrArg (· == 1) ((RegsBut.count64 u .spn (by decide)).f (f := F.SPN_STAT_PLOSS) (by decide) (by decide))
  unfold State.spPowerLoss
  dsimp only
  split
  · exact hset
  · split
    · rw [hcount, habandon, hset]
    · rw [State.spRelease, habandon, hset]

end Sys2Proof.Machine

/-! SUPPORT. The end of a handover, the save's beginning and the clean stop of a pool: what each leaves. -/

namespace Sys2Proof.Machine

variable {s t : State}

/-! ### A handover abandoned (R462) -/

/-- What the end of a handover leaves. -/
theorem State.abandonHandover_spec (s : State) : RegsBut s s.abandonHandover [(.svc, Reg.SVC_FW_RES), (.svc, Reg.SVC_FW_STAT)]
    ∧ s.abandonHandover = { s with regs := s.abandonHandover.regs, svcs := { s.svcs with handover := none } } := by
  unfold State.abandonHandover
  split
  case h_1 h =>
    refine ⟨RegsBut.refl s _, ?_⟩
    rw [← h]
  case h_2 h x hx =>
    have hset : ∀ (u : State) (f : Field) (v : Nat), f.off = Reg.SVC_FW_STAT →
        RegsBut u (u.setF .svc f v) [(.svc, Reg.SVC_FW_RES), (.svc, Reg.SVC_FW_STAT)] := fun u f v hf =>
      (RegsBut.setF u .svc f v (by rw [hf]; decide)).mono (by simp [hf])
    dsimp only
    refine ⟨?_, rfl⟩
    refine RegsBut.trans ?_ (hset _ _ _ rfl)
    refine RegsBut.trans ?_ (hset _ _ _ rfl)
    refine RegsBut.trans ?_ (hset _ _ _ rfl)
    exact (RegsBut.of_regs (t := { s with svcs := { s.svcs with handover := none } }) rfl).trans
      ((RegsBut.setReg _ .svc (by decide) _).mono (by simp))

/-! ### The save begins (R315, R537) -/

/-- The life counters persisted: the hosts' side and the assist controllers' own counts. -/
theorem State.lifePersist_only (s : State) : s.lifePersist = { s with hosts := s.lifePersist.hosts, asts := s.lifePersist.asts } := by
  have hlist : ∀ (l : List (Fin 4)) (u : State), l.foldl (fun (t : State) n => t.setAt n { t.at n with life := [] }) u
      = { u with asts := (l.foldl (fun (t : State) n => t.setAt n { t.at n with life := [] }) u).asts } := by
    intro l
    induction l with
    | nil => exact fun _ => rfl
    | cons n l ih =>
      intro u
      rw [List.foldl_cons, ih]
      rfl
  unfold State.lifePersist
  extract_lets regs read heads pon h s1
  rw [hlist lanes4 s1]

/-- Two halves of a counter written change the registers alone. -/
theorem State.setReg64_only (s : State) (u : UnitId) (lo v : Nat) : s.setReg64 u lo v = { s with regs := (s.setReg64 u lo v).regs } :=
  rfl

/-- What the save's beginning leaves. -/
theorem State.beginSave_spec (s : State) : RegsBut s s.beginSave [(.svc, Reg.SVC_VLT_SEQ_LO), (.svc, Reg.SVC_VLT_SEQ_LO + 4)]
    ∧ s.beginSave = { s with regs := s.beginSave.regs, asts := s.beginSave.asts, hosts := s.beginSave.hosts,
                             vault := { s.vault with saving := s.beginSave.vault.saving } }
    ∧ s.beginSave.vault.saving.map (fun x => x.seq) = some (s.reg64 .svc Reg.SVC_VLT_SEQ_LO + 1) := by
  unfold State.beginSave
  extract_lets g zones x v s1
  have hset : RegsBut s (s1.setReg64 .svc Reg.SVC_VLT_SEQ_LO x.seq) [(.svc, Reg.SVC_VLT_SEQ_LO), (.svc, Reg.SVC_VLT_SEQ_LO + 4)] :=
    (RegsBut.of_regs (t := s1) rfl).trans (RegsBut.setReg64 s1 .svc (lo := Reg.SVC_VLT_SEQ_LO) (by decide) x.seq)
  have honly : s1.setReg64 .svc Reg.SVC_VLT_SEQ_LO x.seq
      = { s with regs := (s1.setReg64 .svc Reg.SVC_VLT_SEQ_LO x.seq).regs, vault := { s.vault with saving := some x } } :=
    s1.setReg64_only _ _ _
  have hseq : x.seq = s.reg64 .svc Reg.SVC_VLT_SEQ_LO + 1 := rfl
  clear_value x
  generalize s1.setReg64 .svc Reg.SVC_VLT_SEQ_LO x.seq = y at hset honly ⊢
  have hlife := y.lifePersist_only
  generalize y.lifePersist = z at hlife ⊢
  refine ⟨hset.trans (RegsBut.of_regs (by rw [hlife])), ?_, ?_⟩
  · rw [hlife, honly]
  · rw [hlife, honly, ← hseq]
    rfl

/-! ### A pool's clean stop (R53, R410) -/

/-- The registers that a pool's stop writes: those of the pools and the buffer unit's. -/
def stopRegs (u : UnitId) (_ : Nat) : Prop :=
  match u with
  | .pool _ | .buf => True
  | _ => False

/-- What a pool's stop leaves. -/
structure PoolReach (s t : State) : Prop where
  regs : RegsOff stopRegs s t
  only : t = { s with regs := t.regs, mem := t.mem, buf := t.buf, lines := t.lines, tcm := t.tcm, pools := t.pools, irq := t.irq,
                      resp := t.resp }

theorem PoolReach.refl (s : State) : PoolReach s s := ⟨fun _ _ _ _ => rfl, rfl⟩

theorem PoolReach.trans {u : State} (h : PoolReach s t) (k : PoolReach t u) : PoolReach s u :=
  ⟨h.regs.trans k.regs, by rw [k.only, h.only]⟩

theorem PoolReach.foldl {α : Type} (f : State → α → State) (h : ∀ s a, PoolReach s (f s a)) (l : List α) :
    ∀ s, PoolReach s (l.foldl f s) := by
  induction l with
  | nil => exact fun s => .refl s
  | cons a t ih => exact fun s => (h s a).trans (ih _)

theorem PoolReach.setReg (s : State) {u : UnitId} {o : Nat} (ho : o < 0x1000) (hu : stopRegs u o) (w : Word) :
    PoolReach s (s.setReg u o w) := ⟨RegsOff.setReg s ho hu w, rfl⟩

theorem PoolReach.setPoolReg (s : State) (p : Fin 2) {o : Nat} (ho : o < 0x1000) (w : Word) : PoolReach s (s.setReg (.pool p) o w) :=
  PoolReach.setReg s (u := .pool p) ho trivial w

/-- A state that differs in the parts of a pool's stop that are no registers. -/
theorem PoolReach.of_regs (h : t.regs = s.regs)
    (honly : t = { s with regs := t.regs, mem := t.mem, buf := t.buf, lines := t.lines, tcm := t.tcm, pools := t.pools,
                          irq := t.irq, resp := t.resp }) : PoolReach s t := ⟨.of_regs h, honly⟩

theorem PoolReach.buf (s : State) (b : Buffer) : PoolReach s { s with buf := b } := .of_regs rfl rfl

theorem PoolReach.setPl (s : State) (p : Fin 2) (x : Pool) : PoolReach s (s.setPl p x) := .of_regs rfl rfl

theorem State.lineWritten_reach (s : State) (l : Nat) : PoolReach s (s.lineWritten l) :=
  ⟨.of_but (s.lineWritten_spec l).2.2 (by simp [stopRegs]), by rw [s.lineWritten_only l]⟩

theorem State.sramWritten_reach (s : State) (a n : Nat) : PoolReach s (s.sramWritten a n) := by
  obtain ⟨honly, hregs⟩ := s.sramWritten_spec a n
  refine ⟨.of_but hregs (by simp [stopRegs]), ?_⟩
  rw [honly]

theorem State.lineBack_reach (s : State) (x : CLine) : PoolReach s (s.lineBack x) := by
  unfold State.lineBack
  extract_lets a dram l b s1
  have h1 : PoolReach s s1 := by
    simp only [s1]
    split
    · split
      · exact PoolReach.buf s _
      · exact PoolReach.buf s _
    · split
      · exact s.lineWritten_reach l
      · exact s.sramWritten_reach a 64
  exact h1.trans (.of_regs rfl rfl)

theorem State.cleanLines_reach (s : State) (p : CLine → Bool) : PoolReach s (s.cleanLines p) :=
  PoolReach.foldl _ State.lineBack_reach _ s

theorem State.dropLines_reach (s : State) (p : CLine → Bool) : PoolReach s (s.dropLines p) := .of_regs rfl rfl

theorem State.loseLines_reach (s : State) (p : CLine → Bool) : PoolReach s (s.loseLines p) := by
  have hlost : ∀ (t : State) (x : CLine), PoolReach t (t.lineLost x) := fun t x => by
    unfold State.lineLost
    split
    · exact .refl t
    · exact .of_regs rfl rfl
  exact (PoolReach.foldl _ hlost _ s).trans (State.dropLines_reach _ _)

theorem State.mbxCancel_reach (s : State) (p : Fin 2) (e : Nat) : PoolReach s (s.mbxCancel p e) := PoolReach.setPl s p _

theorem State.mbxDrop_reach (s : State) (u : UnitId) : PoolReach s (s.mbxDrop u) :=
  PoolReach.foldl _ (fun t e => PoolReach.foldl _ (fun x p => x.mbxCancel_reach p e) _ t) _ s

/-- A register of a core lies in its pool's block. -/
theorem coreOff_le (c : Fin 16) : coreOff c ≤ 0x1C0 := by revert c; decide

theorem State.held_reach (s : State) (c : Fin 16) : PoolReach s (s.held c) := by
  unfold State.held
  split
  · exact .of_regs rfl rfl
  · refine PoolReach.trans ?_ (PoolReach.foldl _ (fun t p => t.mbxCancel_reach p c.val) _ _)
    refine PoolReach.trans ?_ (PoolReach.setPoolReg _ _ ?_ _)
    · refine PoolReach.trans ?_ (PoolReach.setPoolReg _ _ (by decide) _)
      exact ((s.cleanLines_reach _).trans (State.dropLines_reach _ _)).trans (State.dropLines_reach _ _)
    · exact Nat.lt_of_le_of_lt (Nat.add_le_add_left (coreOff_le c) _) (by decide)

theorem State.cleanStop_reach (s : State) (p : Fin 2) : PoolReach s (s.cleanStop p) := by
  refine (PoolReach.foldl _ (fun t c => ?_) _ s).trans (State.cleanLines_reach _ _)
  have hhold : PoolReach t (t.hold c) := PoolReach.setPoolReg t _ (by decide) _
  dsimp only
  split
  · exact hhold
  · exact hhold.trans (State.held_reach _ c)

theorem State.resetPool_reach (s : State) (p : Fin 2) (domain : Bool) : PoolReach s (s.resetPool p domain) := by
  unfold State.resetPool
  extract_lets s1 s2 mine pl s3 s4 c
  have h3 : PoolReach s s3 :=
    (((s.loseLines_reach _).trans (State.dropLines_reach _ _)).trans (State.mbxDrop_reach _ _)).trans (PoolReach.setPl _ p _)
  have h4 : PoolReach s s4 := by
    simp only [s4]
    split
    · exact h3.trans (.of_regs rfl rfl)
    · exact h3
  exact h4.trans (.of_regs rfl rfl)

theorem State.poolOff_reach (s : State) (p : Fin 2) : PoolReach s (s.poolOff p) := by
  refine ((s.resetPool_reach p true).trans (PoolReach.setPoolReg _ _ (by decide) _)).trans (PoolReach.foldl _ (fun t c => ?_) _ _)
  exact (PoolReach.setPoolReg t _ (by decide) _).trans (PoolReach.setPoolReg _ _ (by decide) _)

/-- A pool held for a save (R316). -/
theorem State.holdPool_reach (s : State) (p : Fin 2) : PoolReach s (s.holdPool p) :=
  ((s.cleanStop_reach p).trans (PoolReach.setPoolReg _ _ (by decide) _)).trans (State.poolOff_reach _ p)

end Sys2Proof.Machine

/-! SUPPORT. The crystal's loss and return, a divider that takes effect and a lane's clock that settles. -/

namespace Sys2Proof.Machine

variable {s t : State}

theorem exec_crystalLost (s : State) : exec .crystalLost s = done s State.xtalLost := rfl

theorem exec_crystalReturn (s : State) : exec .crystalReturn s = done s State.xtalReturn := rfl

theorem exec_holdover50ms (s : State) : exec .holdover50ms s = done s State.holdover50 := rfl

theorem exec_clkDivTakeEffect (n : Fin 4) (s : State) : exec (.clkDivTakeEffect n) s
    = done s (fun s => s.when (s.clocked (.lane n)) (s.divEffect n)) := rfl

theorem exec_lclkSettled (n : Fin 4) (s : State) : exec (.lclkSettled n) s = done s (fun s =>
    s.when (s.clocked (.lane n) && !s.settled n) (((s.setF (.lane n) F.LN_CLK_STAT_SETTLED 1).leadUpdate n).updWgate n |>.updAgate n)) :=
  rfl

/-! ### The crystal lost (R37) -/

/-- What the loss of the crystal does to one lane. -/
def State.xtalLostLane (s : State) (n : Fin 4) : State := if s.writing n then s.writeStop n wsReset else s.haltTiming n false

theorem State.xtalLost_eq (hhold : s.holdover = false) :
    s.xtalLost = lanes4.foldl State.xtalLostLane (s.setReg .dev Reg.DEV_CLK_STAT (F.DEV_CLK_STAT_HOLDOVER.put 0 1)) := by
  unfold State.xtalLost
  exact if_neg (by simp [hhold])

theorem State.xtalLostLane_reach (s : State) (n : Fin 4) : LaneReach n s (s.xtalLostLane n) := by
  unfold State.xtalLostLane
  split
  · exact s.writeStop_reach n _
  · exact s.haltTiming_reach n false

theorem State.xtalLostLane_only (s : State) (n : Fin 4) : LaneOnly s (s.xtalLostLane n) := by
  unfold State.xtalLostLane
  split
  · exact State.writeStop_only s n _
  · exact State.haltTiming_only s n false

/-- The lane's gates are closed and nothing of its timing is left. -/
def State.laneHalted (s : State) (n : Fin 4) : Prop := (s.lane n).wgate = false ∧ s.agate n = false ∧ (s.tim n).caps = []
  ∧ (s.tim n).timed = [] ∧ (s.tim n).wreq = false

theorem LaneReach.laneHalted {n m : Fin 4} (h : LaneReach n s t) (hm : m ≠ n) (hs : s.laneHalted m) : t.laneHalted m := by
  obtain ⟨hw, ha, htim⟩ := hs
  refine ⟨(h.gate m hm).trans hw, ?_, by rw [h.tim m hm]; exact htim⟩
  exact (congrArg (· == 1) (h.regs.f (u := .ast m) (f := F.AST_STAT_AGATE) (by decide) hm)).trans ha

theorem State.xtalLostLane_halts (s : State) (n : Fin 4) : (s.xtalLostLane n).laneHalted n := by
  unfold State.xtalLostLane
  split
  · exact s.writeStop_closes n _
  · exact s.haltTiming_closes n false

/-- A lane that was writing has stop cause 111b. -/
theorem State.xtalLostLane_cause (n : Fin 4) (h : s.writing n = true) : (s.xtalLostLane n).f (.chn n) F.CHN_WR_STAT_CAUSE = 7 := by
  unfold State.xtalLostLane
  rw [if_pos h]
  exact (State.writeStop_ends s n wsReset (by decide)).2

/-- After the loss of the crystal every lane is halted. -/
theorem State.xtalLost_halts (s : State) (n : Fin 4) : (lanes4.foldl State.xtalLostLane s).laneHalted n :=
  foldl_each (P := fun _ _ => True) (Q := State.laneHalted) (fun t m _ => t.xtalLostLane_halts m) (fun _ _ _ _ h => h)
    (fun t m _ hne h => (t.xtalLostLane_reach m).laneHalted hne h) (by decide) (mem_lanes4 n) s trivial

theorem State.xtalLost_cause {n : Fin 4} (h : s.writing n = true) :
    (lanes4.foldl State.xtalLostLane s).f (.chn n) F.CHN_WR_STAT_CAUSE = 7 :=
  foldl_each (P := fun t m => t.writing m = true) (Q := fun t m => t.f (.chn m) F.CHN_WR_STAT_CAUSE = 7)
    (fun t m hm => State.xtalLostLane_cause m hm)
    (fun t m k hne hk => (congrArg Timing.wreq ((t.xtalLostLane_reach m).tim k hne)).trans hk)
    (fun t m k hne hk => ((t.xtalLostLane_reach m).regs.f (u := .chn k) (f := F.CHN_WR_STAT_CAUSE) (by decide)
      (fun hr => hr.elim hne (fun ho => ho rfl))).trans hk) (by decide) (mem_lanes4 n) s h

theorem State.xtalLost_only (s : State) : LaneOnly s (lanes4.foldl State.xtalLostLane s) :=
  LaneOnly.foldl _ State.xtalLostLane_only lanes4 s

theorem State.xtalLost_reach (s : State) : MediaReach s (lanes4.foldl State.xtalLostLane s) :=
  MediaReach.lanes State.xtalLostLane_reach lanes4 s

/-! ### A divider takes effect (R42) -/

/-- A pending divider waits while a gate is active. -/
theorem State.divEffect_waits {n : Fin 4} {d : Word} (hpend : (s.lane n).divPending = some d)
    (hgate : s.readGate n = true ∨ (s.lane n).wgate = true ∨ s.agate n = true) : s.divEffect n = s.wait := by
  unfold State.divEffect
  rw [hpend]
  exact if_pos (by simpa [or_assoc] using hgate)

/-- What a divider that takes effect leaves. -/
def State.divTaken (s : State) (n : Fin 4) (d : Word) : State :=
  ((s.setF (.lane n) F.LN_CLK_STAT_PENDING 0).setF (.lane n) F.LN_CLK_STAT_SETTLED 0).setLane n
    { s.lane n with divInForce := d, divPending := none }

theorem State.divEffect_taken {n : Fin 4} {d : Word} (hpend : (s.lane n).divPending = some d)
    (hgate : ¬(s.readGate n = true ∨ (s.lane n).wgate = true ∨ s.agate n = true)) : s.divEffect n = s.divTaken n d := by
  unfold State.divEffect
  rw [hpend]
  exact if_neg (by simpa [or_assoc] using hgate)

theorem State.divTaken_spec (s : State) (n : Fin 4) (d : Word) : ((s.divTaken n d).lane n).divInForce = d
    ∧ ((s.divTaken n d).lane n).divPending = none ∧ (s.divTaken n d).f (.lane n) F.LN_CLK_STAT_PENDING = 0
    ∧ (s.divTaken n d).settled n = false ∧ RegsBut s (s.divTaken n d) [(.lane n, Reg.LN_CLK_STAT)]
    ∧ s.divTaken n d = { s with regs := (s.divTaken n d).regs, lanes := (s.divTaken n d).lanes } := by
  let s1 := s.setF (.lane n) F.LN_CLK_STAT_PENDING 0
  let s2 := s1.setF (.lane n) F.LN_CLK_STAT_SETTLED 0
  have hpend : s2.f (.lane n) F.LN_CLK_STAT_PENDING = 0 := by
    rw [State.f_setF_ne _ _ F.LN_CLK_STAT_SETTLED F.LN_CLK_STAT_PENDING _ rfl (by decide) (by decide), State.f_setF_same _ _ _ _ (by decide)]
    rfl
  have hsettled : s2.settled n = false := by
    rw [State.settled, State.on, State.f_setF_same _ _ _ _ (by decide)]
    rfl
  refine ⟨?_, ?_, hpend, hsettled, ?_, rfl⟩
  · rw [State.divTaken, State.lane_setLane_same]
  · rw [State.divTaken, State.lane_setLane_same]
  · exact ((RegsBut.setF s (.lane n) F.LN_CLK_STAT_PENDING 0 (by decide)).trans
      (RegsBut.setF s1 (.lane n) F.LN_CLK_STAT_SETTLED 0 (by decide))).trans (RegsBut.of_regs rfl)

/-! ### A lane's clock settles (R42, R153, R209) -/

/-- The write gate's condition after a state that differs in the assist controllers alone, and in registers only AST_STAT. -/
theorem State.wgateCond_congr {n : Fin 4} (hregs : RegsBut s t [(.ast n, Reg.AST_STAT)]) (htim : t.tim n = s.tim n)
    (hpa : (t.lane n).paLow = (s.lane n).paLow) : t.wgateCond n = s.wgateCond n := by
  have hf : ∀ (u : UnitId) (f : Field), f.off < 0x1000 → (u, f.off) ∉ [(UnitId.ast n, Reg.AST_STAT)] → t.f u f = s.f u f :=
    fun u f ho hn => hregs.f ho hn
  rw [State.wgateCond, State.wgateCond, htim, hpa, State.settled, State.settled, State.on, State.on, State.on, State.on,
    State.unitState, State.unitState, State.unitState, State.unitState, State.assistFaulted, State.assistFaulted,
    hf (.lane n) F.LN_CLK_STAT_SETTLED (by decide) (by simp), hf (.chn n) F.UNIT_STAT_STATE (by decide) (by simp),
    hf (.srv n) F.SRV_STAT_WINH (by decide) (by simp), hf (.ast n) F.AST_FLT_STAT_FAULTS (by decide) (by simp),
    hf (.tsq n) F.UNIT_STAT_STATE (by decide) (by simp)]

theorem State.at_setAt_same (s : State) (n : Fin 4) (a : Assist) : (s.setAt n a).at n = a := by simp [State.at, State.setAt]

/-- The assist gate's update leaves the assist's kind and its ARMED. -/
theorem State.updAgate_kept (s : State) (n : Fin 4) : ((s.updAgate n).at n).kind = (s.at n).kind ∧ (s.updAgate n).armed n = s.armed n := by
  have harmed : (s.setF (.ast n) F.AST_STAT_AGATE (bit (s.agateCond n))).armed n = s.armed n :=
    congrArg (· == 1) (s.f_setF_ne (.ast n) F.AST_STAT_AGATE F.AST_STAT_ARMED _ rfl (by decide) (by decide))
  unfold State.updAgate
  dsimp only
  split
  · exact ⟨(congrArg Assist.kind (State.at_setAt_same _ n _)).trans rfl, harmed⟩
  · split
    · exact ⟨(congrArg Assist.kind (State.at_setAt_same _ n _)).trans rfl, harmed⟩
    · exact ⟨rfl, harmed⟩

/-- The assist gate's condition does not change with its update. -/
theorem State.updAgate_agate (s : State) (n : Fin 4) : (s.updAgate n).agate n = (s.updAgate n).agateCond n := by
  obtain ⟨hgate, hregs, honly⟩ := s.updAgate_spec n
  obtain ⟨hkind, harmed⟩ := s.updAgate_kept n
  have hf : ∀ (u : UnitId) (f : Field), f.off < 0x1000 → (u, f.off) ∉ [(UnitId.ast n, Reg.AST_STAT)] →
      (s.updAgate n).f u f = s.f u f := fun u f ho hn => hregs.f ho hn
  generalize s.updAgate n = r at *
  have htim : r.tim n = s.tim n := by rw [honly]; rfl
  have hlane : r.lane n = s.lane n := by rw [honly]; rfl
  rw [hgate, State.agateCond, State.agateCond, htim, hlane, harmed, hkind, State.settled, State.settled, State.slock, State.slock,
    State.on, State.on, State.on, State.on, State.assistFaulted, State.assistFaulted,
    hf (.lane n) F.LN_CLK_STAT_SETTLED (by decide) (by simp), hf (.srv n) F.SRV_STAT_SLOCK (by decide) (by simp),
    hf (.ast n) F.AST_FLT_STAT_FAULTS (by decide) (by simp)]

/-- What a clock that settles leaves. -/
def State.clockSettled (s : State) (n : Fin 4) : State :=
  ((s.setF (.lane n) F.LN_CLK_STAT_SETTLED 1).leadUpdate n).updWgate n |>.updAgate n

theorem State.clockSettled_spec (s : State) (n : Fin 4) : (s.clockSettled n).settled n = true
    ∧ ((s.clockSettled n).lane n).wgate = (s.clockSettled n).wgateCond n ∧ (s.clockSettled n).agate n = (s.clockSettled n).agateCond n
    ∧ (s.clockSettled n).f (.ast n) F.AST_LEAD_LEAD = (s.leadUpdate n).f (.ast n) F.AST_LEAD_LEAD
    ∧ RegsBut s (s.clockSettled n) [(.lane n, Reg.LN_CLK_STAT), (.ast n, Reg.AST_LEAD), (.ast n, Reg.AST_STAT)]
    ∧ s.clockSettled n = { s with regs := (s.clockSettled n).regs, lanes := (s.clockSettled n).lanes, asts := (s.clockSettled n).asts } := by
  let s1 := s.setF (.lane n) F.LN_CLK_STAT_SETTLED 1
  let s2 := s1.leadUpdate n
  let s3 := s2.updWgate n
  have h1 : RegsBut s s1 [(.lane n, Reg.LN_CLK_STAT)] := RegsBut.setF s (.lane n) F.LN_CLK_STAT_SETTLED 1 (by decide)
  have h2 : RegsBut s1 s2 [(.ast n, Reg.AST_LEAD)] := RegsBut.setF s1 (.ast n) F.AST_LEAD_LEAD _ (by decide)
  have h23 : RegsBut s2 s3 [] := RegsBut.of_regs rfl
  obtain ⟨-, h4, honly⟩ := s3.updAgate_spec n
  have hsettled : s1.settled n = true := by
    rw [State.settled, State.on, State.f_setF_same _ _ _ _ (by decide)]
    rfl
  have hhead : s1.activeHead n = s.activeHead n := h1.f (f := F.SRV_STAT_HEAD) (by decide) (by simp)
  have hlead : s2.f (.ast n) F.AST_LEAD_LEAD = (s.leadUpdate n).f (.ast n) F.AST_LEAD_LEAD := by
    rw [State.leadUpdate, State.f_setF_same _ _ _ _ (by decide)]
    change (s1.leadUpdate n).f (.ast n) F.AST_LEAD_LEAD = _
    rw [State.leadUpdate, State.f_setF_same _ _ _ _ (by decide), hhead]
    rfl
  have hagate := s3.updAgate_agate n
  rw [show s.clockSettled n = s3.updAgate n from rfl]
  generalize s3.updAgate n = r at *
  have h24 : RegsBut s2 r [(.ast n, Reg.AST_STAT)] := (h23.mono (by simp)).trans h4
  have htim : r.tim n = s2.tim n := by rw [honly]; rfl
  have hlane : r.lane n = { s2.lane n with wgate := s2.wgateCond n } := by
    rw [honly]
    exact State.lane_setLane_same _ _ _
  have hpa : (r.lane n).paLow = (s2.lane n).paLow := by rw [hlane]
  refine ⟨?_, ?_, hagate, ?_, ?_, ?_⟩
  · rw [State.settled, State.on, h24.f (by decide) (by simp), h2.f (by decide) (by simp)]
    exact hsettled
  · rw [State.wgateCond_congr h24 htim hpa, hlane]
  · rw [h24.f (by decide) (by simp), hlead]
  · exact (h1.mono (by simp)).trans ((h2.mono (by simp)).trans (h24.mono (by simp)))
  · rw [honly]
    rfl

/-! ### 50 ms without the crystal (R37) -/

/-- The registers that the end of 50 ms of holdover reaches before the save or the record of the loss. -/
def stopStartRegs (u : UnitId) (o : Nat) : Prop := mediaRegs u o ∨ u = .spn ∨ (u, o) = (.svc, Reg.SVC_FW_RES) ∨ (u, o) = (.svc, Reg.SVC_FW_STAT)

/-- After 50 ms of holdover the handover is abandoned, the lanes unload and the spindle stops. -/
def State.mediaStopped (s : State) : State :=
  (({ s with dev := { s.dev with lost50 := true } } : State).abandonHandover).unloadAll.spStop

theorem State.mediaStopped_regs (s : State) : RegsOff stopStartRegs s s.mediaStopped := by
  let s1 : State := { s with dev := { s.dev with lost50 := true } }
  have h1 : RegsOff stopStartRegs s s1.abandonHandover :=
    RegsOff.of_but ((RegsBut.of_regs (t := s1) rfl).trans s1.abandonHandover_spec.1) (by simp [stopStartRegs])
  have h2 : RegsOff stopStartRegs s1.abandonHandover s1.abandonHandover.unloadAll :=
    (State.unloadAll_reach _).regs.mono fun _ _ h => .inl h
  exact (h1.trans h2).trans ((State.spStop_reach _).regs.mono fun _ _ h => .inr (.inl h))

theorem State.mediaStopped_only (s : State) : ∃ x : State, s.mediaStopped = { x with regs := s.mediaStopped.regs, spn := s.mediaStopped.spn }
    ∧ x.cmd = { s.cmd with epochs := x.cmd.epochs, cancels := x.cmd.cancels, trackers := x.cmd.trackers }
    ∧ x.dev = { s.dev with lost50 := true, caps := x.dev.caps }
    ∧ x = { s with regs := x.regs, dev := x.dev, lanes := x.lanes, timing := x.timing, seqs := x.seqs, chns := x.chns, srvs := x.srvs,
                   asts := x.asts, cmd := x.cmd, freeCtr := x.freeCtr, svcs := { s.svcs with handover := none } } := by
  let s1 : State := { s with dev := { s.dev with lost50 := true } }
  have h1 := s1.abandonHandover_spec.2
  have h2 := s1.abandonHandover.unloadAll_reach
  have h3 := s1.abandonHandover.unloadAll.spStop_reach.only
  refine ⟨s1.abandonHandover.unloadAll, h3, ?_, ?_, ?_⟩
  · rw [h2.cmd, congrArg State.cmd h1]
  · rw [h2.dev, congrArg State.dev h1]
  · rw [h2.only, h1]

/-- Every lane in closed loop unloads. -/
theorem State.mediaStopped_mode {n : Fin 4} (h : closedLoop (s.mode n) = true) : s.mediaStopped.mode n = mUnloading := by
  let s1 : State := { s with dev := { s.dev with lost50 := true } }
  have hmode : s1.abandonHandover.mode n = s.mode n := s1.abandonHandover_spec.1.f (f := F.SRV_STAT_MODE) (by decide) (by simp)
  have hspn : s.mediaStopped.mode n = s1.abandonHandover.unloadAll.mode n :=
    (State.spStop_reach _).regs.f (f := F.SRV_STAT_MODE) (by decide) (by simp)
  rw [hspn, State.unloadAll_mode _ n (by rw [hmode, h])]

/-- The spindle stops as STOP does (R241). -/
theorem State.mediaStopped_spMode (s : State) : s.mediaStopped.spMode = s.spStop.spMode := by
  let s1 : State := { s with dev := { s.dev with lost50 := true } }
  change s1.abandonHandover.unloadAll.spStop.spMode = s.spStop.spMode
  rw [State.spStop_mode, State.spStop_mode]
  refine State.stopMode_congr fun o ho => ?_
  rw [s1.abandonHandover.unloadAll_reach.regs .spn o ho (fun h => h)]
  exact s1.abandonHandover_spec.1 _ o ho (by simp)

/-- HOLDOVER_50MS: a save where one is ready, else the record of the loss. -/
theorem State.holdover50_eq (hhold : s.holdover = true) (hlost : s.dev.lost50 = false) : s.holdover50
    = if s.mediaStopped.saveReady && s.mediaStopped.vault.saving.isNone then
        (({ s.mediaStopped with cmd := { s.mediaStopped.cmd with stopped := true } } : State).beginSave).holdPool s.heldPool
      else s.mediaStopped.lossRecord := by
  unfold State.holdover50
  exact if_neg (by simp [hhold, hlost])

/-- The vault is armed as it was. -/
theorem RegsOff.saveReady {P : UnitId → Nat → Prop} (h : RegsOff P s t) (hcfg : ¬ P .svc Reg.SVC_VLT_CFG)
    (hstat : ¬ P .svc Reg.SVC_VLT_STAT) (harmed : t.dev.saveArmed = s.dev.saveArmed) :
    t.saveReady = s.saveReady ∧ t.vaultFitted = s.vaultFitted := by
  have hf : ∀ f : Field, f.off = Reg.SVC_VLT_CFG ∨ f.off = Reg.SVC_VLT_STAT → t.f .svc f = s.f .svc f := by
    rintro f (hf | hf)
    · exact h.f (by rw [hf]; decide) (by rw [hf]; exact hcfg)
    · exact h.f (by rw [hf]; decide) (by rw [hf]; exact hstat)
  have hfit : t.vaultFitted = s.vaultFitted := by
    rw [State.vaultFitted, State.vaultFitted, State.on, State.on, hf F.SVC_VLT_CFG_FITTED (.inl rfl), hf F.SVC_VLT_CFG_CE_EN (.inl rfl)]
  have harea : t.protArea = s.protArea := hf F.SVC_VLT_STAT_PROT (.inr rfl)
  have hoff : ∀ a, (armedField a).off = Reg.SVC_VLT_STAT := fun a => by
    unfold armedField
    split <;> rfl
  refine ⟨?_, hfit⟩
  rw [State.saveReady, State.saveReady, harmed, hfit, harea, State.on, State.on, hf _ (.inr (hoff _))]

/-- A save that begins, and the pool that is held for it. -/
theorem State.saveBegun_spec (s : State) (p : Fin 2) :
    (s.beginSave.holdPool p).vault.saving.map (fun x => x.seq) = some (s.reg64 .svc Reg.SVC_VLT_SEQ_LO + 1)
      ∧ (s.beginSave.holdPool p).vault.saveA = s.vault.saveA ∧ (s.beginSave.holdPool p).vault.saveB = s.vault.saveB
      ∧ (s.beginSave.holdPool p).cmd = s.cmd ∧ (s.beginSave.holdPool p).dev = s.dev ∧ (s.beginSave.holdPool p).svcs = s.svcs
      ∧ RegsOff (fun u o => stopRegs u o ∨ u = .svc) s (s.beginSave.holdPool p) := by
  obtain ⟨hregs, honly, hseq⟩ := s.beginSave_spec
  have hpool := s.beginSave.holdPool_reach p
  have hoff : RegsOff (fun u o => stopRegs u o ∨ u = .svc) s (s.beginSave.holdPool p) :=
    (RegsOff.of_but hregs (by simp)).trans (hpool.regs.mono fun _ _ h => .inl h)
  have hpo := hpool.only
  generalize s.beginSave.holdPool p = r at *
  generalize s.beginSave = y at *
  refine ⟨?_, ?_, ?_, ?_, ?_, ?_, hoff⟩
  · rw [hpo]; exact hseq
  · rw [hpo, honly]
  · rw [hpo, honly]
  · rw [hpo, honly]
  · rw [hpo, honly]
  · rw [hpo, honly]

end Sys2Proof.Machine

/-! SUPPORT. The commands of the crystal and of a lane's clock. -/

namespace Sys2Proof.Machine

variable {s t : State}

/-- The parts that a record of the boot history is made of are kept while the media stop. -/
theorem State.mediaStopped_same (s : State) : SameStart s s.mediaStopped := by
  have hregs := s.mediaStopped_regs
  obtain ⟨x, honly, -, -, hx⟩ := s.mediaStopped_only
  generalize s.mediaStopped = r at *
  have hsvc : ∀ o, o < 0x1000 → o ≠ Reg.SVC_FW_RES → o ≠ Reg.SVC_FW_STAT → r.reg .svc o = s.reg .svc o := fun o ho h1 h2 =>
    hregs _ o ho (by simp [stopStartRegs, mediaRegs, h1, h2])
  refine ⟨?_, ?_, ?_, ?_, ?_, fun o ho => ?_, hregs _ _ (by decide) (by simp [stopStartRegs, mediaRegs])⟩
  · rw [honly, congrArg State.mem hx]
  · rw [honly, congrArg State.hosts hx]
  · rw [honly, congrArg State.hosts hx]
  · rw [honly, congrArg State.svcs hx]
  · rw [honly, congrArg State.svcs hx]
  · exact hsvc o (by fin_cases ho <;> decide) (by fin_cases ho <;> decide) (by fin_cases ho <;> decide)

/-- The end of 50 ms of holdover, in each of its two branches. -/
theorem State.holdover50_spec (hhold : s.holdover = true) (hlost : s.dev.lost50 = false) :
    s.holdover50.dev.lost50 = true ∧ s.holdover50.svcs.handover = none
      ∧ (∀ n, closedLoop (s.mode n) = true → s.holdover50.mode n = mUnloading) ∧ s.holdover50.spMode = s.spStop.spMode
      ∧ (s.saveReady = true → s.vault.saving = none →
          s.holdover50.vault.saving.isSome = true ∧ s.holdover50.cmd.stopped = true)
      ∧ (s.saveReady = false → s.holdover50.mem = s.lossRecord.mem) := by
  have hmode := fun n => s.mediaStopped_mode (n := n)
  have hspin := s.mediaStopped_spMode
  have hsame := s.mediaStopped_same
  have hregs := s.mediaStopped_regs
  obtain ⟨x, honly, hcmd, hdev, hx⟩ := s.mediaStopped_only
  rw [State.holdover50_eq hhold hlost]
  generalize s.mediaStopped = r at *
  have hrdev : r.dev = { s.dev with lost50 := true, caps := x.dev.caps } := by rw [honly, ← hdev]
  have hrsvcs : r.svcs.handover = none := by rw [honly, congrArg State.svcs hx]
  have hrvault : r.vault = s.vault := by rw [honly, congrArg State.vault hx]
  have hexts : r.cmd.exts = s.cmd.exts := by rw [honly, congrArg CmdEngine.exts hcmd]
  have hrdirty : r.dirtyGranules = s.dirtyGranules := by rw [State.dirtyGranules, State.dirtyGranules, hexts]
  obtain ⟨hready, hfit⟩ := hregs.saveReady (by simp [stopStartRegs, mediaRegs]) (by simp [stopStartRegs, mediaRegs])
    (by rw [hrdev])
  have hmem := hsame.lossRecord_mem hfit hrdirty
  split
  case isTrue hsave =>
    obtain ⟨hseq, -, -, hpcmd, hpdev, hpsvcs, hpregs⟩ :=
      State.saveBegun_spec { r with cmd := { r.cmd with stopped := true } } s.heldPool
    generalize State.holdPool _ s.heldPool = q at *
    have hsome : q.vault.saving.isSome = true := by
      rw [← Option.isSome_map (f := fun x : Save => x.seq), hseq]
      rfl
    have hstop : q.cmd.stopped = true := by rw [hpcmd]
    have hq : ∀ (u : UnitId) (f : Field), f.off < 0x1000 → ¬ stopRegs u f.off → u ≠ .svc → q.f u f = r.f u f :=
      fun u f ho h1 h2 => hpregs.f ho (fun h => h.elim h1 h2)
    refine ⟨?_, ?_, fun n hn => ?_, ?_, fun _ _ => ⟨hsome, hstop⟩, fun hno => ?_⟩
    · rw [hpdev, hrdev]
    · rw [hpsvcs, hrsvcs]
    · exact (hq (.srv n) F.SRV_STAT_MODE (by decide) (fun h => h) (by simp)).trans (hmode n hn)
    · exact (hq .spn F.SPN_STAT_MODE (by decide) (fun h => h) (by simp)).trans hspin
    · rw [hready, hno] at hsave
      exact nomatch hsave
  case isFalse hsave =>
    have hloss := r.lossRecord_only
    generalize r.lossRecord = q at *
    have hq : ∀ u f, q.f u f = r.f u f := fun u f => by rw [hloss]; rfl
    refine ⟨?_, ?_, fun n hn => (hq _ _).trans (hmode n hn), (hq _ _).trans hspin, fun hyes hnone => ?_, fun _ => hmem⟩
    · rw [hloss, hrdev]
    · rw [hloss, hrsvcs]
    · rw [hready, hrvault, hyes, hnone] at hsave
      exact absurd rfl hsave

/-- Settles O13: the loss of the crystal halts every lane in turn, and 50 ms of holdover stop the media and then save or record. -/
theorem clockCommands : Obligations.ClockCommands := by
  refine ⟨?_, ?_, ?_, ?_, ?_, ?_, ?_, ?_⟩
  · intro s hr hhold
    let s1 := (s.answer .none).setReg .dev Reg.DEV_CLK_STAT (F.DEV_CLK_STAT_HOLDOVER.put 0 1)
    have honly : LaneOnly (s.answer .none) (lanes4.foldl State.xtalLostLane s1) :=
      (LaneOnly.setReg (s.answer .none) .dev _ _).trans s1.xtalLost_only
    have hstat : (lanes4.foldl State.xtalLostLane s1).reg .dev Reg.DEV_CLK_STAT = 4 :=
      (s1.xtalLost_reach.regs .dev _ (by decide) (fun h => h)).trans (State.reg_setReg_same _ _ _ _)
    refine Completes.of_result hr (exec_crystalLost s) (State.xtalLost_eq (s := s.answer .none) hhold) ⟨hstat, ?_, fun n => ?_, ?_⟩ ?_
    · have hhold' : (lanes4.foldl State.xtalLostLane s1).holdover = true := by
        rw [State.holdover, State.on, State.f, show F.DEV_CLK_STAT_HOLDOVER.off = Reg.DEV_CLK_STAT from rfl, hstat]
        decide
      exact Bool.or_eq_true_iff.mpr (.inl (Bool.or_eq_true_iff.mpr (.inl (Bool.or_eq_true_iff.mpr (.inl hhold')))))
    · obtain ⟨hw, ha, hcaps, htimed, hreq⟩ := s1.xtalLost_halts n
      exact ⟨hw, ha, hcaps, htimed, hreq, fun hwr => State.xtalLost_cause (s := s1) hwr⟩
    · rw [honly]
      rfl
    · exact honly.pending
  · intro s hr hhold hlost
    have heq : (s.answer .none).xtalReturn = (s.answer .none).setReg .dev Reg.DEV_CLK_STAT 3 := by
      have hhold' : (s.answer .none).holdover = true := hhold
      have hlost' : (s.answer .none).dev.lost50 = false := hlost
      unfold State.xtalReturn
      rw [if_neg (by simp [hhold']), if_neg (by rw [hlost']; nofun)]
    refine Completes.of_result hr (exec_crystalReturn s) heq ⟨State.reg_setReg_same _ _ _ _, ?_, rfl⟩ rfl
    exact RegsBut.setReg (s.answer .none) .dev (by decide) _
  · intro s hr hhold hlost
    have heq : (s.answer .none).xtalReturn = (s.answer .none).setF .dev F.DEV_CLK_STAT_XTAL_OK 1 := by
      have hhold' : (s.answer .none).holdover = true := hhold
      have hlost' : (s.answer .none).dev.lost50 = true := hlost
      unfold State.xtalReturn
      rw [if_neg (by simp [hhold']), if_pos hlost']
    refine Completes.of_result hr (exec_crystalReturn s) heq ⟨State.f_setF_same _ _ _ _ (by decide), ?_, ?_, rfl⟩ rfl
    · exact (congrArg (· == 1) ((s.answer .none).f_setF_ne .dev F.DEV_CLK_STAT_XTAL_OK F.DEV_CLK_STAT_HOLDOVER 1 rfl (by decide)
        (by decide))).trans hhold
    · exact RegsBut.setF (s.answer .none) .dev F.DEV_CLK_STAT_XTAL_OK 1 (by decide)
  · intro s hr hhold hlost
    obtain ⟨h50, hhand, hmode, hspin, hsave, hloss⟩ := State.holdover50_spec (s := s.answer .none) hhold hlost
    have hsame : SameStart s (s.answer .none) := ⟨rfl, rfl, rfl, rfl, rfl, fun _ _ => rfl, rfl⟩
    have hmem : (s.answer .none).lossRecord.mem = s.lossRecord.mem := hsame.lossRecord_mem rfl rfl
    have hstop : (s.answer .none).spStop.spMode = s.spStop.spMode := by
      rw [State.spStop_mode, State.spStop_mode]
      exact State.stopMode_congr fun _ _ => rfl
    rw [hstop] at hspin
    rw [hmem] at hloss
    refine Completes.of_run hr (exec_holdover50ms s) rfl ?_
    generalize (s.answer .none).holdover50 = r at *
    exact ⟨h50, hhand, hmode, hspin, hsave, hloss⟩
  · intro s hr hhold hlost
    exact Completes.of_run hr (exec_holdover2s s) rfl (State.holdover2_spec (s := s.answer .none) hhold hlost)
  · intro s eng n v hr hreset
    obtain ⟨hregs, honly⟩ := (s.answer .none).divWrite_only n v
    refine Completes.lnClkDivWrite hr hreset ⟨?_, ?_, hregs, ?_⟩
    · split
      case isTrue hin =>
        obtain ⟨hdiv, hpend, hstat, herr, -⟩ := (s.answer .none).divWrite_accepted n ((divAccepted_iff _).mpr hin)
        exact ⟨hdiv, hpend, hstat, herr⟩
      case isFalse hout =>
        rw [State.divWrite_refused n (Bool.eq_false_iff.mpr fun h => hout ((divAccepted_iff _).mp h))]
        exact ⟨State.reg_setReg_ne _ (by simp [key_inj_off]) _, rfl, State.f_setF_same _ _ _ _ (by decide)⟩
    · cases hin : divAccepted (v &&& 0x007FFFFF) with
      | true => exact ((s.answer .none).divWrite_accepted n hin).2.2.2.2
      | false => rw [State.divWrite_refused n hin]; rfl
    · rw [honly]
      rfl
  · intro s n d hr hclk hpend
    have hwhen : (s.answer .none).when ((s.answer .none).clocked (.lane n)) ((s.answer .none).divEffect n) = (s.answer .none).divEffect n := by
      rw [show (s.answer .none).clocked (.lane n) = true from hclk, State.when_true]
    split
    case isTrue hgate =>
      exact Completes.of_result hr (exec_clkDivTakeEffect n s) (hwhen.trans (State.divEffect_waits (s := s.answer .none) hpend hgate))
        ⟨rfl, rfl⟩ rfl
    case isFalse hgate =>
      obtain ⟨hforce, hnone, hstat, hsettled, hregs, honly⟩ := (s.answer .none).divTaken_spec n d
      exact Completes.of_result hr (exec_clkDivTakeEffect n s) (hwhen.trans (State.divEffect_taken (s := s.answer .none) hpend hgate))
        ⟨hforce, hnone, hstat, hsettled, hregs, rfl⟩ rfl
  · intro s n hr hclk hset
    have hwhen : (s.answer .none).when ((s.answer .none).clocked (.lane n) && !(s.answer .none).settled n) ((s.answer .none).clockSettled n)
        = (s.answer .none).clockSettled n := by
      rw [show (s.answer .none).clocked (.lane n) = true from hclk, show (s.answer .none).settled n = false from hset]
      rfl
    obtain ⟨hsettled, hw, ha, hlead, hregs, honly⟩ := (s.answer .none).clockSettled_spec n
    refine Completes.of_result hr (exec_lclkSettled n s) hwhen ⟨hsettled, hw, ha, hlead, hregs, ?_⟩ (by rw [honly]; rfl)
    rw [honly]
    rfl

end Sys2Proof.Machine

/-! SUPPORT. The vault's operations: a loss of power, a page that fails, the save's end, the areas and the warning of a lost protection. -/

namespace Sys2Proof.Machine

variable {s t : State}

theorem exec_pfailAccept (s : State) : exec .pfailAccept s = done s State.pfailAccept := rfl

theorem exec_pageProgramFail (l : List Nat) (again : Bool) (s : State) : exec (.pageProgramFail l again) s
    = done s (fun s => s.pageFail l again) := rfl

theorem exec_saveComplete (saved : Nat) (high : Bool) (s : State) : exec (.saveComplete saved high) s
    = done s (fun s => s.saveComplete saved high) := rfl

theorem exec_pfailHigh10ms (s : State) : exec .pfailHigh10ms s = done s State.pfailHigh := rfl

theorem exec_pfailClr (e : Engine) (v : Word) (active : Bool) (s : State) : exec (.pfailClr e v active) s
    = done s (fun s => s.access e .store .hkp Reg.HKP_IN_CTL (svcOnly e) (s.pfailClr v active)) := rfl

theorem exec_vaultAreaErase (e : Engine) (v : Word) (s : State) : exec (.vaultAreaErase e v) s
    = done s (fun s => s.access e .store .svc Reg.SVC_VLT_CMD (vaultGate e) (s.vaultErase v)) := rfl

theorem exec_areaEraseDone (mib : Nat) (s : State) : exec (.areaEraseDone mib) s = done s (fun s => s.areaErased mib) := rfl

/-! ### Flags -/

/-- A flag that is set reads what it was set to. -/
theorem State.on_setF_same (s : State) (u : UnitId) {f : Field} (hw : f.width = 1) (hf : f.lo + f.width ≤ 32) (b : Bool) :
    (s.setF u f (bit b)).on u f = b := by
  rw [State.on, State.f_setF_same _ _ _ _ hf, hw]
  cases b <;> rfl

/-- Another flag of the register keeps its value. -/
theorem State.on_setF_ne (s : State) (u : UnitId) (f g : Field) (v : Nat) (ho : g.off = f.off) (hg : g.lo + g.width ≤ 32)
    (h : g.lo + g.width ≤ f.lo ∨ f.lo + f.width ≤ g.lo) : (s.setF u f v).on u g = s.on u g :=
  congrArg (· == 1) (s.f_setF_ne u f g v ho hg h)

theorem RegsBut.on {l : List (UnitId × Nat)} (h : RegsBut s t l) {u : UnitId} {f : Field} (ho : f.off < 0x1000) (hl : (u, f.off) ∉ l) :
    t.on u f = s.on u f := congrArg (· == 1) (h.f ho hl)

theorem RegsOff.on {P : UnitId → Nat → Prop} (h : RegsOff P s t) {u : UnitId} {f : Field} (ho : f.off < 0x1000) (hn : ¬ P u f.off) :
    t.on u f = s.on u f := congrArg (· == 1) (h.f ho hn)

/-! ### PFAIL_N (R46, R198, R250, R316, R524) -/

/-- After an accepted PFAIL_N the commands stop, the latch is set, the lanes retract and the spindle gives power back. -/
def State.pfailTaken (s : State) : State :=
  ((({ s with house := { s.house with pfailRaw := true }, cmd := { s.cmd with stopped := true } } : State).setF .hkp
    F.HKP_IN_STAT_PFAIL_LATCH 1).retractAll).spPowerLoss

/-- The registers that an accepted PFAIL_N reaches before the save. -/
def pfailRegs (u : UnitId) (o : Nat) : Prop := mediaRegs u o ∨ u = .spn ∨ (u, o) = (.hkp, Reg.HKP_IN_STAT)

theorem State.pfailTaken_spec (s : State) : RegsOff pfailRegs s s.pfailTaken ∧ s.pfailTaken.on .hkp F.HKP_IN_STAT_PFAIL_LATCH = true
    ∧ s.pfailTaken.ploss = true ∧ (∀ n, s.pfailTaken.mode n = mRetract) := by
  let s1 : State := { s with house := { s.house with pfailRaw := true }, cmd := { s.cmd with stopped := true } }
  let s2 := s1.setF .hkp F.HKP_IN_STAT_PFAIL_LATCH 1
  have h1 : RegsOff pfailRegs s s2 := RegsOff.of_but ((RegsBut.of_regs (t := s1) rfl).trans
    (RegsBut.setF s1 .hkp F.HKP_IN_STAT_PFAIL_LATCH 1 (by decide))) (by simp [pfailRegs])
  have h2 := s2.retractAll_reach.regs
  have h3 := s2.retractAll.spPowerLoss_reach.regs
  refine ⟨(h1.trans (h2.mono fun _ _ h => .inl h)).trans (h3.mono fun _ _ h => .inr (.inl h)), ?_, s2.retractAll.spPowerLoss_ploss, fun n => ?_⟩
  · have hlatch : s2.on .hkp F.HKP_IN_STAT_PFAIL_LATCH = true := s1.on_setF_same .hkp rfl (by decide) true
    exact ((h3.on (by decide) (by simp)).trans (h2.on (u := .hkp) (by decide) (fun h => h))).trans hlatch
  · exact (h3.f (f := F.SRV_STAT_MODE) (by decide) (by simp)).trans (s2.retractAll_mode n)

/-- What an accepted PFAIL_N changes besides registers, before the save. -/
theorem State.pfailTaken_only (s : State) : ∃ x : State, s.pfailTaken = { x with regs := s.pfailTaken.regs, spn := s.pfailTaken.spn }
    ∧ x.cmd.stopped = true ∧ x.dev = { s.dev with caps := x.dev.caps }
    ∧ x = { s with regs := x.regs, dev := x.dev, lanes := x.lanes, timing := x.timing, seqs := x.seqs, chns := x.chns, srvs := x.srvs,
                   asts := x.asts, cmd := x.cmd, freeCtr := x.freeCtr, house := { s.house with pfailRaw := true } } := by
  let s1 : State := { s with house := { s.house with pfailRaw := true }, cmd := { s.cmd with stopped := true } }
  let s2 := s1.setF .hkp F.HKP_IN_STAT_PFAIL_LATCH 1
  have h2 := s2.retractAll_reach
  have h3 := s2.retractAll.spPowerLoss_reach.only
  refine ⟨s2.retractAll, h3, ?_, h2.dev, h2.only⟩
  rw [congrArg CmdEngine.stopped h2.cmd]
  rfl

/-- PFAIL_ACCEPT once: a save where one is ready. -/
theorem State.pfailAccept_eq (hlatch : s.on .hkp F.HKP_IN_STAT_PFAIL_LATCH = false) : s.pfailAccept
    = if s.pfailTaken.saveReady && s.pfailTaken.vault.saving.isNone then s.pfailTaken.beginSave.holdPool s.pfailTaken.heldPool
      else if s.pfailTaken.vault.saving.isNone && s.pfailTaken.dev.warmInProgress && s.pfailTaken.spMode == spRegen then
        s.pfailTaken.spCoastCmd
      else s.pfailTaken := by
  unfold State.pfailAccept
  exact if_neg (by simp [hlatch])

/-- The save is armed as it was. -/
theorem State.pfailTaken_ready (s : State) : s.pfailTaken.saveReady = s.saveReady := by
  obtain ⟨x, honly, -, hdev, -⟩ := s.pfailTaken_only
  have hregs := s.pfailTaken_spec.1
  generalize s.pfailTaken = r at *
  refine (hregs.saveReady (by simp [pfailRegs, mediaRegs]) (by simp [pfailRegs, mediaRegs]) ?_).1
  rw [honly, hdev]

/-- The latch clears, and PLOSS with it (R253, R524). -/
theorem State.pfailCleared_spec (s : State) : s.pfailCleared.on .hkp F.HKP_IN_STAT_PFAIL_LATCH = false ∧ s.pfailCleared.ploss = false
    ∧ RegsBut s s.pfailCleared [(.hkp, Reg.HKP_IN_STAT), (.spn, Reg.SPN_STAT)]
    ∧ s.pfailCleared = { s with regs := s.pfailCleared.regs } := by
  let s1 := s.setF .hkp F.HKP_IN_STAT_PFAIL_LATCH 0
  have h1 : RegsBut s s1 [(.hkp, Reg.HKP_IN_STAT)] := RegsBut.setF s .hkp F.HKP_IN_STAT_PFAIL_LATCH 0 (by decide)
  have h2 : RegsBut s1 s.pfailCleared [(.spn, Reg.SPN_STAT)] := RegsBut.setF s1 .spn F.SPN_STAT_PLOSS 0 (by decide)
  refine ⟨?_, s1.on_setF_same .spn rfl (by decide) false, (h1.mono (by simp)).trans (h2.mono (by simp)), rfl⟩
  rw [h2.on (by decide) (by simp)]
  exact s.on_setF_same .hkp rfl (by decide) false

/-! ### Pages and the closing record (R317 to R319) -/

/-- A transient fault counted (R21). -/
theorem RegsBut.transient (s : State) (u : UnitId) : RegsBut s (s.transient u) [(u, Reg.UNIT_ERR), (u, Reg.UNIT_RETRY_CNT)] :=
  ((RegsBut.err s u _).mono (by simp)).trans ((RegsBut.setReg _ u (by decide) _).mono (by simp))

/-- A page whose repeat succeeds sets TRANSIENT. -/
theorem State.transient_err (s : State) : ((s.transient .svc).reg .svc Reg.UNIT_ERR).getLsbD 0 = true := by
  have hcount : (s.transient .svc).reg .svc Reg.UNIT_ERR = (s.err .svc eTransient).reg .svc Reg.UNIT_ERR :=
    RegsBut.setReg (s.err .svc eTransient) .svc (by decide) _ .svc Reg.UNIT_ERR (by decide) (by simp)
  rw [hcount, State.reg_err, BitVec.getLsbD_or]
  exact Bool.or_eq_true_iff.mpr (.inr (by decide))

theorem State.pageFail_again {x : Save} (hsave : s.vault.saving = some x) (gs : List Nat) : s.pageFail gs true = s.transient .svc := by
  unfold State.pageFail
  rw [hsave]
  rfl

/-- The granules of positions from one on are not the first. -/
theorem zipIdx_filter_zero (l : List SavedGran) : ∀ k, 0 < k → (l.zipIdx k).filter (fun g => [0].contains g.2) = [] := by
  induction l with
  | nil => exact fun _ _ => rfl
  | cons g l ih =>
    intro k hk
    rw [List.zipIdx_cons, List.filter_cons_of_neg (by simp; omega), ih (k + 1) (by omega)]

/-- The first granule's page fails for good: it enters the lost list. -/
theorem State.pageFail_first {x : Save} {g : SavedGran} {rest : List SavedGran} (hsave : s.vault.saving = some x) (hg : x.grans = g :: rest)
    (hrest : rest.all (fun r => r.nsid != g.nsid || r.lba != g.lba) = true) : s.pageFail [0] false
      = ({ s with vault := { s.vault with saving := some { x with grans := rest, lost := x.lost ++ [(g.nsid, g.lba)] } } } : State).lasting
          .svc := by
  have hbad : (x.grans.zipIdx.filter (fun e => [0].contains e.2)).map (fun e => (e.1.nsid, e.1.lba)) = [(g.nsid, g.lba)] := by
    rw [hg, List.zipIdx_cons, List.filter_cons_of_pos (by simp), zipIdx_filter_zero rest 1 (by omega)]
    rfl
  have hkeep : x.grans.filter (fun e => !([(g.nsid, g.lba)] : List (Nat × Nat)).contains (e.nsid, e.lba)) = rest := by
    rw [hg, List.filter_cons_of_neg (by simp), List.filter_eq_self]
    intro r hr
    have hne := List.all_eq_true.mp hrest r hr
    by_cases h : r.nsid = g.nsid
    · simp [h] at hne ⊢
      exact hne
    · simp [h]
  unfold State.pageFail
  rw [hsave]
  change (State.lasting { s with vault := { s.vault with saving := some { x with
    grans := x.grans.filter (fun e => !((x.grans.zipIdx.filter (fun e => [0].contains e.2)).map (fun e => (e.1.nsid, e.1.lba))).contains
      (e.nsid, e.lba)),
    lost := x.lost ++ (x.grans.zipIdx.filter (fun e => [0].contains e.2)).map (fun e => (e.1.nsid, e.1.lba)) } } } .svc) = _
  rw [hbad, hkeep]

/-- The fields of an area lie in SVC_VLT_STAT, apart from each other and from the others of it. -/
theorem armedField_cases (a : Nat) : (armedField a = F.SVC_VLT_STAT_ARMED_A ∧ saveField a = F.SVC_VLT_STAT_SAVE_A
    ∧ capField a = F.SVC_VLT_CAP_A_MIB) ∨ (armedField a = F.SVC_VLT_STAT_ARMED_B ∧ saveField a = F.SVC_VLT_STAT_SAVE_B
    ∧ capField a = F.SVC_VLT_CAP_B_MIB) := by
  unfold armedField saveField capField
  by_cases h : a = 0
  · exact .inl ⟨if_pos h, if_pos h, if_pos h⟩
  · exact .inr ⟨if_neg h, if_neg h, if_neg h⟩

theorem State.saveOf_setSave (s : State) (a : Nat) (x : Option Save) : (s.setSave a x).saveOf a = x := by
  unfold State.saveOf State.setSave
  by_cases h : a = 0
  · simp only [if_pos h]
    rfl
  · simp only [if_neg h]
    rfl

/-- A save put into an area changes the vault and the area's SAVE. -/
theorem State.setSave_only (s : State) (a : Nat) (x : Option Save) : RegsBut s (s.setSave a x) [(.svc, Reg.SVC_VLT_STAT)]
    ∧ s.setSave a x = { s with regs := (s.setSave a x).regs, vault := (s.setSave a x).vault }
    ∧ (s.setSave a x).vault.saving = s.vault.saving ∧ (s.setSave a x).on .svc (saveField a) = x.isSome := by
  let v : Vault := if a = 0 then { s.vault with saveA := x } else { s.vault with saveB := x }
  let s1 : State := { s with vault := v }
  have hv : v.saving = s.vault.saving := by
    unfold v
    split <;> rfl
  obtain ⟨-, hsave, -⟩ | ⟨-, hsave, -⟩ := armedField_cases a
  · have hset : s.setSave a x = s1.setF .svc F.SVC_VLT_STAT_SAVE_A (bit x.isSome) := by rw [State.setSave, hsave]
    rw [hset, hsave]
    exact ⟨(RegsBut.of_regs (t := s1) rfl).trans (RegsBut.setF s1 .svc F.SVC_VLT_STAT_SAVE_A _ (by decide)), rfl, hv,
      s1.on_setF_same .svc rfl (by decide) _⟩
  · have hset : s.setSave a x = s1.setF .svc F.SVC_VLT_STAT_SAVE_B (bit x.isSome) := by rw [State.setSave, hsave]
    rw [hset, hsave]
    exact ⟨(RegsBut.of_regs (t := s1) rfl).trans (RegsBut.setF s1 .svc F.SVC_VLT_STAT_SAVE_B _ (by decide)), rfl, hv,
      s1.on_setF_same .svc rfl (by decide) _⟩

/-- An area's ARMED set or cleared leaves its SAVE. -/
theorem State.setArmed_spec (s : State) (a : Nat) (b : Bool) : (s.setF .svc (armedField a) (bit b)).on .svc (armedField a) = b
    ∧ (s.setF .svc (armedField a) (bit b)).on .svc (saveField a) = s.on .svc (saveField a)
    ∧ RegsBut s (s.setF .svc (armedField a) (bit b)) [(.svc, Reg.SVC_VLT_STAT)] := by
  obtain ⟨harm, hsave, -⟩ | ⟨harm, hsave, -⟩ := armedField_cases a
  · rw [harm, hsave]
    exact ⟨s.on_setF_same .svc rfl (by decide) b, s.on_setF_ne .svc _ _ _ rfl (by decide) (by decide), RegsBut.setF s .svc _ _ (by decide)⟩
  · rw [harm, hsave]
    exact ⟨s.on_setF_same .svc rfl (by decide) b, s.on_setF_ne .svc _ _ _ rfl (by decide) (by decide), RegsBut.setF s .svc _ _ (by decide)⟩

/-- SVC_VLT_SAVE_STAT after a save, and the count of saves. -/
theorem State.saveStat_spec (s : State) (x : Save) : (s.saveStat x).on .svc F.SVC_VLT_SAVE_STAT_VALID = true
    ∧ (s.saveStat x).on .svc F.SVC_VLT_SAVE_STAT_PARTIAL = x.partialSave
    ∧ (s.saveStat x).reg64 .svc Reg.SVC_VLT_CNT_SAVE_LO = (s.reg64 .svc Reg.SVC_VLT_CNT_SAVE_LO + 1) % 2 ^ 64
    ∧ RegsBut s (s.saveStat x) [(.svc, Reg.SVC_VLT_SAVE_STAT), (.svc, Reg.SVC_VLT_CNT_SAVE_LO), (.svc, Reg.SVC_VLT_CNT_SAVE_LO + 4)]
    ∧ s.saveStat x = { s with regs := (s.saveStat x).regs } := by
  let s1 := s.setF .svc F.SVC_VLT_SAVE_STAT_VALID 1
  let s2 := s1.setF .svc F.SVC_VLT_SAVE_STAT_PARTIAL (bit x.partialSave)
  let s3 := s2.setF .svc F.SVC_VLT_SAVE_STAT_LOST (bit (x.lost != []))
  let s4 := s3.setF .svc F.SVC_VLT_SAVE_STAT_GRANULES (min x.grans.length 524288)
  have h4 : RegsBut s s4 [(.svc, Reg.SVC_VLT_SAVE_STAT)] :=
    (((RegsBut.setF s .svc F.SVC_VLT_SAVE_STAT_VALID 1 (by decide)).trans
      (RegsBut.setF s1 .svc F.SVC_VLT_SAVE_STAT_PARTIAL _ (by decide))).trans
      (RegsBut.setF s2 .svc F.SVC_VLT_SAVE_STAT_LOST _ (by decide))).trans
      (RegsBut.setF s3 .svc F.SVC_VLT_SAVE_STAT_GRANULES _ (by decide))
  have h5 : RegsBut s4 (s.saveStat x) [(.svc, Reg.SVC_VLT_CNT_SAVE_LO), (.svc, Reg.SVC_VLT_CNT_SAVE_LO + 4)] :=
    RegsBut.count64 s4 .svc (by decide)
  have hpart : s4.on .svc F.SVC_VLT_SAVE_STAT_PARTIAL = x.partialSave :=
    ((s3.on_setF_ne .svc F.SVC_VLT_SAVE_STAT_GRANULES F.SVC_VLT_SAVE_STAT_PARTIAL _ rfl (by decide) (by decide)).trans
      (s2.on_setF_ne .svc F.SVC_VLT_SAVE_STAT_LOST F.SVC_VLT_SAVE_STAT_PARTIAL _ rfl (by decide) (by decide))).trans
      (s1.on_setF_same .svc rfl (by decide) _)
  have hvalid : s4.on .svc F.SVC_VLT_SAVE_STAT_VALID = true :=
    ((s3.on_setF_ne .svc F.SVC_VLT_SAVE_STAT_GRANULES F.SVC_VLT_SAVE_STAT_VALID _ rfl (by decide) (by decide)).trans
      (s2.on_setF_ne .svc F.SVC_VLT_SAVE_STAT_LOST F.SVC_VLT_SAVE_STAT_VALID _ rfl (by decide) (by decide))).trans
      ((s1.on_setF_ne .svc F.SVC_VLT_SAVE_STAT_PARTIAL F.SVC_VLT_SAVE_STAT_VALID _ rfl (by decide) (by decide)).trans
        (s.on_setF_same .svc rfl (by decide) true))
  have hcount : (s.saveStat x).reg64 .svc Reg.SVC_VLT_CNT_SAVE_LO = (s4.reg64 .svc Reg.SVC_VLT_CNT_SAVE_LO + 1) % 2 ^ 64 :=
    s4.reg64_setReg64 .svc _ _
  have hkept : s4.reg64 .svc Reg.SVC_VLT_CNT_SAVE_LO = s.reg64 .svc Reg.SVC_VLT_CNT_SAVE_LO := h4.reg64 (by decide) (by simp) (by simp; decide)
  refine ⟨(h5.on (by decide) (by simp)).trans hvalid, (h5.on (by decide) (by simp)).trans hpart, by rw [hcount, hkept],
    (h4.mono (by simp)).trans (h5.mono (by simp)), ?_⟩
  have honly4 : s4 = { s with regs := s4.regs } := rfl
  have honly5 : s.saveStat x = { s4 with regs := (s.saveStat x).regs } := s4.setReg64_only _ _ _
  rw [honly5, honly4]

/-- The save in progress is the save of the area, which is armed no more. -/
def State.areaSaved (s : State) (a : Nat) (x : Save) : State :=
  (({ s with vault := { s.vault with saving := none } } : State).setSave a (some x)).setF .svc (armedField a) 0

theorem State.areaSaved_spec (s : State) (a : Nat) (x : Save) : (s.areaSaved a x).saveOf a = some x
    ∧ (s.areaSaved a x).vault.saving = none ∧ (s.areaSaved a x).on .svc (armedField a) = false
    ∧ (s.areaSaved a x).on .svc (saveField a) = true ∧ RegsBut s (s.areaSaved a x) [(.svc, Reg.SVC_VLT_STAT)]
    ∧ s.areaSaved a x = { s with regs := (s.areaSaved a x).regs, vault := (s.areaSaved a x).vault } := by
  let s1 : State := { s with vault := { s.vault with saving := none } }
  obtain ⟨h2, honly2, hsaving, hsave⟩ := s1.setSave_only a (some x)
  have hof := s1.saveOf_setSave a (some x)
  rw [show s.areaSaved a x = (s1.setSave a (some x)).setF .svc (armedField a) (bit false) from rfl]
  generalize s1.setSave a (some x) = s2 at *
  obtain ⟨harm, hsave3, h3⟩ := s2.setArmed_spec a false
  refine ⟨hof, hsaving, harm, hsave3.trans hsave, ((RegsBut.of_regs (t := s1) rfl).trans h2).trans h3, ?_⟩
  rw [honly2]
  rfl

/-- The closing record of a save, with the area's state and the save's (R319, R323). -/
def State.saveClosed (s : State) (x : Save) : State := (s.areaSaved s.protArea x).saveStat x

theorem State.saveClosed_spec (s : State) (x : Save) : (s.saveClosed x).saveOf s.protArea = some x ∧ (s.saveClosed x).vault.saving = none
    ∧ (s.saveClosed x).on .svc (armedField s.protArea) = false ∧ (s.saveClosed x).on .svc (saveField s.protArea) = true
    ∧ (s.saveClosed x).on .svc F.SVC_VLT_SAVE_STAT_VALID = true ∧ (s.saveClosed x).on .svc F.SVC_VLT_SAVE_STAT_PARTIAL = x.partialSave
    ∧ (s.saveClosed x).reg64 .svc Reg.SVC_VLT_CNT_SAVE_LO = (s.reg64 .svc Reg.SVC_VLT_CNT_SAVE_LO + 1) % 2 ^ 64
    ∧ RegsBut s (s.saveClosed x) [(.svc, Reg.SVC_VLT_STAT), (.svc, Reg.SVC_VLT_SAVE_STAT), (.svc, Reg.SVC_VLT_CNT_SAVE_LO),
        (.svc, Reg.SVC_VLT_CNT_SAVE_LO + 4)]
    ∧ s.saveClosed x = { s with regs := (s.saveClosed x).regs, vault := (s.saveClosed x).vault } := by
  obtain ⟨hof, hsaving, harm, hsave, h3, honly3⟩ := s.areaSaved_spec s.protArea x
  have hstat : ∀ f : Field, f = armedField s.protArea ∨ f = saveField s.protArea → f.off = Reg.SVC_VLT_STAT := by
    obtain ⟨ha, hs, -⟩ | ⟨ha, hs, -⟩ := armedField_cases s.protArea
    · rintro f (rfl | rfl)
      · rw [ha]
      · rw [hs]
    · rintro f (rfl | rfl)
      · rw [ha]
      · rw [hs]
  unfold State.saveClosed
  generalize s.areaSaved s.protArea x = y at *
  obtain ⟨hvalid, hpart, hcount, h4, honly4⟩ := y.saveStat_spec x
  generalize y.saveStat x = r at *
  have hcnt : y.reg64 .svc Reg.SVC_VLT_CNT_SAVE_LO = s.reg64 .svc Reg.SVC_VLT_CNT_SAVE_LO :=
    h3.reg64 (by decide) (by simp) (by simp; decide)
  have hkept : ∀ f : Field, f = armedField s.protArea ∨ f = saveField s.protArea → r.on .svc f = y.on .svc f := fun f hf =>
    h4.on (by rw [hstat f hf]; decide) (by rw [hstat f hf]; simp; decide)
  have hvault : r.vault = y.vault := by rw [honly4]
  refine ⟨?_, by rw [hvault, hsaving], (hkept _ (.inl rfl)).trans harm, (hkept _ (.inr rfl)).trans hsave, hvalid, hpart, by rw [hcount, hcnt],
    (h3.mono (by simp)).trans (h4.mono (by simp)), ?_⟩
  · rw [← hof, State.saveOf, State.saveOf, hvault]
  · rw [honly4, honly3]

/-- SAVE_COMPLETE with power there and the hold-up not low: the save's closing record. -/
theorem State.saveComplete_eq {x : Save} (saved : Nat) (high : Bool) (hsave : s.vault.saving = some x)
    (hlatch : s.on .hkp F.HKP_IN_STAT_PFAIL_LATCH = false) (hlow : s.on .spn F.SPN_STAT_HOLDUP_LOW = false) :
    s.saveComplete saved high = s.saveClosed x := by
  have hclosed : x.closed (s.on .spn F.SPN_STAT_HOLDUP_LOW) saved = x := by rw [hlow]; exact if_neg (by simp)
  have hstay : (s.saveClosed x).on .hkp F.HKP_IN_STAT_PFAIL_LATCH = false :=
    ((s.saveClosed_spec x).2.2.2.2.2.2.2.1.on (by decide) (by simp)).trans hlatch
  unfold State.saveComplete
  rw [hsave]
  dsimp only
  rw [hclosed]
  refine if_pos ?_
  change (!(s.saveClosed x).on .hkp F.HKP_IN_STAT_PFAIL_LATCH) = true
  rw [hstay]
  rfl

/-! ### The areas (R314, R320, R323) and the warning (R312) -/

/-- A warning or an event of the hosts' side: what the hosts and the command engine hold, and nothing else. -/
def HostEvent (s t : State) : Prop := t = { s with hosts := t.hosts, cmd := t.cmd }

theorem HostEvent.refl (s : State) : HostEvent s s := rfl

theorem HostEvent.trans {u : State} (h : HostEvent s t) (k : HostEvent t u) : HostEvent s u := by
  unfold HostEvent at *
  rw [k, h]

theorem HostEvent.foldl {α : Type} (f : State → α → State) (h : ∀ s a, HostEvent s (f s a)) (l : List α) :
    ∀ s, HostEvent s (l.foldl f s) := by
  induction l with
  | nil => exact HostEvent.refl
  | cons a t ih => exact fun s => (h s a).trans (ih _)

theorem State.sendMsix_event (s : State) (fn v : Nat) : HostEvent s (s.sendMsix fn v) := by
  unfold State.sendMsix
  dsimp only
  split <;> rfl

theorem State.completionMsix_event (s : State) (fn q v : Nat) : HostEvent s (s.completionMsix fn q v) := by
  unfold State.completionMsix
  dsimp only
  split
  · exact s.sendMsix_event fn v
  · split
    · refine HostEvent.trans ?_ (State.sendMsix_event _ fn v)
      rfl
    · rfl

theorem State.postCpl_event (s : State) (fn q cid : Nat) (c : Cpl) : HostEvent s (s.postCpl fn q cid c) := by
  unfold State.postCpl
  split
  · exact .refl s
  · split
    · exact .refl s
    · dsimp only
      split
      · refine HostEvent.trans ?_ (State.completionMsix_event _ _ _ _)
        rfl
      · rfl

theorem State.deliverEvent_event (s : State) (fn : Nat) : HostEvent s (s.deliverEvent fn) := by
  unfold State.deliverEvent
  dsimp only
  split
  · split
    · exact .refl s
    · refine HostEvent.trans ?_ (State.postCpl_event _ _ _ _ _)
      rfl
  · exact .refl s

theorem State.raise_event (s : State) (fn : Nat) (e : AsyncEvent) : HostEvent s (s.raise fn e) := by
  unfold State.raise
  dsimp only
  split
  · exact .refl s
  · refine HostEvent.trans ?_ (HostEvent.foldl _ (fun t _ => t.deliverEvent_event fn) _ _)
    rfl

theorem State.raiseAll_event (s : State) (e : AsyncEvent) : HostEvent s (s.raiseAll e) :=
  HostEvent.foldl _ (fun t f => t.raise_event f e) _ s

/-- The warning of a lost protection reaches hosts alone (R312). -/
theorem State.vaultCrit_event (s : State) : HostEvent s s.vaultCrit := by
  have hset : HostEvent s (s.setCrit 4) := by
    unfold State.setCrit
    split
    · exact .refl s
    · refine HostEvent.trans ?_ (State.raiseAll_event _ _)
      rfl
  have hclr : HostEvent s (s.clrCrit 4) := by
    unfold State.clrCrit
    split <;> rfl
  unfold State.vaultCrit
  split
  · exact .refl s
  · split
    · exact hset
    · exact hclr

/-- An area to be erased is not armed, and ERASING is set (R314). -/
theorem State.eraseArea_spec (s : State) (a : Nat) : a ∈ (s.eraseArea a).vault.erasing ∧ (s.eraseArea a).on .svc (armedField a) = false
    ∧ (s.eraseArea a).on .svc F.SVC_VLT_STAT_ERASING = true ∧ RegsBut s (s.eraseArea a) [(.svc, Reg.SVC_VLT_STAT)]
    ∧ s.eraseArea a = { s with regs := (s.eraseArea a).regs, vault := (s.eraseArea a).vault } := by
  let s1 : State := { s with vault := { s.vault with erasing := addOnce s.vault.erasing a } }
  let s2 := s1.setF .svc (armedField a) 0
  obtain ⟨harm, -, hregs⟩ := s1.setArmed_spec a false
  refine ⟨mem_addOnce _ a, ?_, s2.on_setF_same .svc rfl (by decide) true, ?_, rfl⟩
  · have hkept : (s2.setF .svc F.SVC_VLT_STAT_ERASING 1).on .svc (armedField a) = s2.on .svc (armedField a) := by
      obtain ⟨h, -⟩ | ⟨h, -⟩ := armedField_cases a
      · rw [h]
        exact s2.on_setF_ne .svc _ _ _ rfl (by decide) (by decide)
      · rw [h]
        exact s2.on_setF_ne .svc _ _ _ rfl (by decide) (by decide)
    exact hkept.trans harm
  · exact ((RegsBut.of_regs (t := s1) rfl).trans hregs).trans (RegsBut.setF s2 .svc F.SVC_VLT_STAT_ERASING 1 (by decide))

end Sys2Proof.Machine

/-! SUPPORT. What every reset of units leaves: the power, the vault and the raw power-fail input. -/

namespace Sys2Proof.Machine

variable {s t : State}

/-- The device's power, the vault and the raw PFAIL_N input are those of `s` (R43, R46, R47). -/
structure ResetReach (s t : State) : Prop where
  power : t.dev.power = s.dev.power
  vault : t.vault = s.vault
  pfail : t.house.pfailRaw = s.house.pfailRaw

theorem ResetReach.refl (s : State) : ResetReach s s := ⟨rfl, rfl, rfl⟩

theorem ResetReach.trans {u : State} (h : ResetReach s t) (k : ResetReach t u) : ResetReach s u :=
  ⟨k.power.trans h.power, k.vault.trans h.vault, k.pfail.trans h.pfail⟩

theorem ResetReach.foldl {α : Type} (f : State → α → State) (h : ∀ s a, ResetReach s (f s a)) (l : List α) :
    ∀ s, ResetReach s (l.foldl f s) := by
  induction l with
  | nil => exact ResetReach.refl
  | cons a t ih => exact fun s => (h s a).trans (ih _)

theorem ResetReach.ite {u : State} {c : Prop} [Decidable c] (h : ResetReach s t) (k : ResetReach s u) : ResetReach s (if c then t else u) := by
  split
  · exact h
  · exact k

/-- A state whose power, vault and housekeeping are those of `s`. -/
theorem ResetReach.of_eq (hd : t.dev.power = s.dev.power) (hv : t.vault = s.vault) (hh : t.house.pfailRaw = s.house.pfailRaw) :
    ResetReach s t := ⟨hd, hv, hh⟩

theorem LaneReach.reset {n : Fin 4} (h : LaneReach n s t) : ResetReach s t :=
  ⟨by rw [h.dev], by rw [h.only], by rw [h.only]⟩

theorem HostEvent.reset (h : HostEvent s t) : ResetReach s t := ⟨by rw [h], by rw [h], by rw [h]⟩

theorem PoolReach.reset (h : PoolReach s t) : ResetReach s t := ⟨by rw [h.only], by rw [h.only], by rw [h.only]⟩

theorem SpinReach.reset (h : SpinReach s t) : ResetReach s t := ⟨by rw [h.only], by rw [h.only], by rw [h.only]⟩

theorem ResetReach.setReg (s : State) (u : UnitId) (o : Nat) (w : Word) : ResetReach s (s.setReg u o w) := ⟨rfl, rfl, rfl⟩

theorem ResetReach.setF (s : State) (u : UnitId) (f : Field) (v : Nat) : ResetReach s (s.setF u f v) := ⟨rfl, rfl, rfl⟩

theorem ResetReach.setCtrl (s : State) (fn : Nat) (c : Ctrl) : ResetReach s (s.setCtrl fn c) := ⟨rfl, rfl, rfl⟩

theorem ResetReach.setSlot (s : State) (i : Nat) (x : Slot) : ResetReach s (s.setSlot i x) := ⟨rfl, rfl, rfl⟩

theorem ResetReach.setTim (s : State) (n : Fin 4) (x : Timing) : ResetReach s (s.setTim n x) := ⟨rfl, rfl, rfl⟩

theorem ResetReach.setPort (s : State) (p : Fin 2) (x : Port) : ResetReach s (s.setPort p x) := ⟨rfl, rfl, rfl⟩

/-! ### Commands and their slots (R325, R344, R346) -/

theorem State.voidFinish_reset (s : State) (n z : Nat) : ResetReach s (s.voidFinish n z) := by
  unfold State.voidFinish
  split
  · exact .refl s
  · refine .ite (ResetReach.trans ?_ (State.raiseAll_event _ _).reset) (.refl s)
    exact .of_eq rfl rfl rfl

theorem State.releaseWrite_reset (s : State) (i : Nat) : ResetReach s (s.releaseWrite i) := by
  have hvoid : ∀ (t : State) (n l c : Nat), ResetReach t (t.voidBlocks n l c) := fun t n l c => by
    unfold State.voidBlocks
    split
    · exact .refl t
    · exact .ite (.refl t) (.of_eq rfl rfl rfl)
  unfold State.releaseWrite
  split
  · exact .refl s
  · refine .ite (.refl s) (ResetReach.trans ?_ (hvoid _ _ _ _))
    exact .ite (.refl s) (.of_eq rfl rfl rfl)

theorem State.dropContexts_reset (s : State) (i : Nat) (p : DmaCtx → Bool) : ResetReach s (s.dropContexts i p) := by
  have hrecord : ∀ (t : State) (c v : Nat), ResetReach t (t.recordState c v) := fun t c v => by
    rw [State.recordState_only]
    exact .of_eq rfl rfl rfl
  unfold State.dropContexts
  exact (ResetReach.foldl _ (fun t (e : Nat × DmaCtx) => hrecord t e.1 4) _ s).trans (.of_eq rfl rfl rfl)

theorem State.account_reset (s : State) (x : Slot) (st : CStatus) : ResetReach s (s.account x st) := by
  have hlife : ∀ (t : State) (k n : Nat), ResetReach t (t.countLife k n) := fun _ _ _ => .of_eq rfl rfl rfl
  have hmedia : ResetReach s (s.countMedia x st) := by
    unfold State.countMedia
    split
    · exact .ite (hlife s _ _) (.refl s)
    · exact .refl s
    · have hfree : ResetReach s (if s.freeBool then s.countLife lifeMedia 1 else s) := .ite (hlife s _ _) (.refl s)
      exact .ite (.refl s) (.ite (hlife s _ _) (hfree.trans (.of_eq rfl rfl rfl)))
  have hread : ResetReach s (s.pageRead x.fn (sqeBits x.sqe 10 0 8)) := .setCtrl s _ _
  unfold State.account
  refine .ite hmedia (.ite (.ite hread (.refl s)) (.ite ((hlife s _ _).trans (hlife _ _ _)) (.ite ?_ (.refl s))))
  exact (hlife s _ _).trans (hlife _ _ _)

theorem State.postAll_reset (s : State) : ResetReach s s.postAll := by
  have hone : ∀ t : State, ResetReach t t.postOne := fun t => by
    unfold State.postOne
    split
    · exact .refl t
    · split
      · exact .setSlot t _ _
      · exact .ite (.of_eq rfl rfl rfl) ((ResetReach.setSlot t _ _).trans (State.postCpl_event _ _ _ _ _).reset)
  exact .ite (.refl s) (ResetReach.foldl _ (fun t _ => hone t) _ _)

theorem State.commit_reset (s : State) (i : Nat) (dest : SlotState) (c : Option Cpl) (ring : Bool) :
    ResetReach s (s.commit i dest c ring) := by
  unfold State.commit
  split
  · exact .refl s
  · rename_i x hx
    refine .ite (.refl s) ?_
    extract_lets s1 good s2 s3 y y1 s4 cmd4 s5 s6 s7
    have h1 : ResetReach s s1 := .ite (s.advanceEpoch_reach (n := 0) i).reset (.refl s)
    have h2 : ResetReach s1 s2 :=
      ResetReach.trans (t := (s1.dropTransfers i).dropWork i) (.of_eq rfl rfl rfl) (State.dropContexts_reset _ i _)
    have h3 : ResetReach s2 s3 := .ite (.refl s2) (s2.releaseWrite_reset i)
    have h5 : ResetReach s3 s5 := .of_eq rfl rfl rfl
    have h6 : ResetReach s5 s6 := by
      cases c with
      | none => exact .refl s5
      | some k => exact ResetReach.trans (.ite (.setCtrl s5 _ _) (.refl s5)) (State.account_reset _ x k.status)
    have h7 : ResetReach s6 s7 := .ite (s6.voidFinish_reset _ _) (.refl s6)
    exact ((((h1.trans h2).trans h3).trans h5).trans (h6.trans h7)).trans s7.postAll_reset

theorem State.discardSlot_reset (s : State) (i : Nat) : ResetReach s (s.discardSlot i) := by
  unfold State.discardSlot
  split
  · exact .refl s
  · exact .ite (s.commit_reset i _ _ _) (.ite (.setSlot s _ _) (.refl s))

theorem State.discardEnd_reset (s : State) (i : Nat) : ResetReach s (s.discardEnd i) := by
  unfold State.discardEnd
  split
  · exact .refl s
  · refine .ite ?_ (.refl s)
    have hslot := fun x => (s.releaseWrite_reset i).trans (ResetReach.setSlot _ i x)
    exact .ite ((hslot _).trans (State.voidFinish_reset _ _ _)) (hslot _)

/-- A controller's reset (R346). -/
theorem State.ctrlReset_reset (s : State) (fn : Nat) : ResetReach s (s.ctrlReset fn) := by
  have hend : ∀ t : State, ResetReach t (t.resetEnd fn) := fun t => .ite (.setCtrl t _ _) (.refl t)
  unfold State.ctrlReset
  extract_lets slots s1 c s2
  have h1 : ResetReach s s1 := (ResetReach.setCtrl s _ _).trans (ResetReach.foldl _ State.discardSlot_reset slots _)
  have h2 : ResetReach s1 s2 := .of_eq rfl rfl rfl
  exact ((h1.trans h2).trans (ResetReach.foldl _ State.discardEnd_reset slots s2)).trans (hend _)

theorem State.vfReset_reset (s : State) (fn : Nat) : ResetReach s (s.vfReset fn) := (s.ctrlReset_reset fn).trans (.of_eq rfl rfl rfl)

theorem State.wipeSlot_reset (s : State) (i : Nat) : ResetReach s (s.wipeSlot i) := by
  unfold State.wipeSlot
  extract_lets s1 t
  have h1 : ResetReach s s1 := s.discardSlot_reset i
  split
  · exact h1
  · rename_i x hx
    extract_lets y t1 s2
    have h2 : ResetReach s1 s2 := by
      have ht : ResetReach s1 t1 := (s1.releaseWrite_reset i).trans (.setSlot t i _)
      exact .ite (.ite (ht.trans (t1.voidFinish_reset _ _)) ht) (.refl s1)
    refine h1.trans (h2.trans ?_)
    split
    · exact .refl s2
    · exact .ite (.of_eq rfl rfl rfl) (.refl s2)

/-- The command engine's reset (R569). -/
theorem State.resetCmd_reset (s : State) : ResetReach s s.resetCmd := by
  unfold State.resetCmd
  extract_lets k s0 s1 s2 c e s3
  have h0 : ResetReach s s0 := .of_eq rfl rfl rfl
  have h1 : ResetReach s s1 := h0.trans (ResetReach.foldl _ State.ctrlReset_reset _ s0)
  have h2 : ResetReach s1 s2 := ResetReach.foldl _ State.wipeSlot_reset _ s1
  have h3 : ResetReach s2 s3 := .of_eq rfl rfl rfl
  exact ((h1.trans h2).trans h3).trans (ResetReach.foldl _ (fun t f => .ite (.setCtrl t f _) (.refl t)) _ s3)

/-! ### Registers and latches of a unit (R4, R7) -/

theorem State.resetRegs_reset (s : State) (u : UnitId) : ResetReach s (s.resetRegs u) := by
  unfold State.resetRegs
  refine ResetReach.foldl _ (fun t e => ?_) _ s
  split
  · exact .refl t
  · exact .setReg t _ _ _

theorem ResetReach.clearLatches (s : State) (u : UnitId) : ResetReach s (s.clearLatches u) := ⟨rfl, rfl, rfl⟩

/-- A port's reset (R43). -/
theorem State.portReset_reset (s : State) (p : Fin 2) : ResetReach s (s.portReset p) := by
  unfold State.portReset
  extract_lets u ctl stat s1 strap s2
  have h1 : ResetReach s s1 := ResetReach.foldl _ State.vfReset_reset _ s
  have h2 : ResetReach s1 s2 := (s1.resetRegs_reset u).trans (.of_eq rfl rfl rfl)
  exact (h1.trans h2).trans ((ResetReach.clearLatches s2 u).trans (.setPort _ p _))

/-! ### Lanes (R47, R48, R164, R210) -/

theorem State.resetLane_reset (s : State) (n : Fin 4) : ResetReach s (s.resetLane n) := by
  unfold State.resetLane
  extract_lets legs l s1 f c s2
  have h2 : ResetReach s s2 := .of_eq rfl rfl rfl
  have hend := h2.trans (LaneReach.capEnd (n := n) s2 (.transfer n.val)).reset
  exact hend.trans (ResetReach.foldl _ (fun t (i : Nat × Nat) => (t.legEnded_reach (n := n) n i.1 i.2).reset) legs _)

theorem State.resetChn_reset (s : State) (n : Fin 4) : ResetReach s (s.resetChn n) := by
  unfold State.resetChn
  extract_lets s0 c lost s1 t gone s2
  have h0 : ResetReach s s0 := .ite (s.writeStop_reach n _).reset (.refl s)
  have h2 : ResetReach s0 s2 := .of_eq rfl rfl rfl
  exact (h0.trans h2).trans (ResetReach.foldl _ (fun u r => (u.finish_reach (n := n) n r false).reset) lost s2)

theorem State.resetReach_disarm (s : State) (n : Fin 4) : ResetReach s (s.disarm n) := by
  unfold State.disarm
  refine ResetReach.trans ?_ (State.updAgate_reach _ n).reset
  exact .of_eq rfl rfl rfl

theorem State.resetTsq_reset (s : State) (n : Fin 4) : ResetReach s (s.resetTsq n) := by
  unfold State.resetTsq
  extract_lets s1 q s2 l s3
  have h1 : ResetReach s s1 := .ite (s.writeStop_reach n _).reset (s.haltTiming_reach n false).reset
  have h2 : ResetReach s1 s2 := (s1.resetReach_disarm n).trans (.of_eq rfl rfl rfl)
  have h3 : ResetReach s2 s3 := by
    simp only [s3]
    split
    · exact .refl s2
    · refine ResetReach.trans ?_ (State.reportSettled_reach (n := n) _ n).reset
      refine ResetReach.trans ?_ (LaneReach.capEnd (n := n) _ _).reset
      exact .of_eq rfl rfl rfl
  exact ((h1.trans h2).trans h3).trans (.setTim s3 n _)

theorem State.resetSrv_reset (s : State) (n : Fin 4) : ResetReach s (s.resetSrv n) := by
  unfold State.resetSrv
  extract_lets s1 v
  have h1 : ResetReach s s1 :=
    .ite (s.hwRetract_reach n false).reset ((s.slockFall_reach n).trans ((s.slockFall n).endSeekForMode_reach n)).reset
  exact h1.trans (.of_eq rfl rfl rfl)

theorem State.resetAst_reset (s : State) (n : Fin 4) : ResetReach s (s.resetAst n) := by
  unfold State.resetAst
  extract_lets s1 s2
  have h2 : ResetReach s1 s2 := .ite (s1.writeStop_reach n _).reset (.refl s1)
  exact ((s.resetReach_disarm n).trans h2).trans (.of_eq rfl rfl rfl)

/-! ### Every unit (R15, R16, R47) -/

theorem State.setBytes_reset (l : List Byte) : ∀ (s : State) (a : Nat), ResetReach s (s.setBytes a l) := by
  induction l with
  | nil => exact fun s _ => .refl s
  | cons b t ih =>
    intro s a
    have h1 : ResetReach s (s.setByte a b) := .of_eq rfl rfl rfl
    exact h1.trans (ih _ _)

theorem State.resetBuf_reset (s : State) : ResetReach s s.resetBuf := by
  unfold State.resetBuf
  extract_lets owners stalled s1 b
  have h1 : ResetReach s s1 := by
    simp only [s1]
    split
    · exact .refl s
    · exact .ite (State.setBytes_reset _ s _) (.refl s)
  refine ResetReach.trans ?_ (ResetReach.foldl _ (fun t i => t.commit_reset i .done (some (Cpl.ofStatus .internalError)) false) _ _)
  exact h1.trans (.of_eq rfl rfl rfl)

/-- The action of a reset in a unit. -/
theorem State.unitAction_reset (s : State) (u : UnitId) : ResetReach s (s.unitAction u) := by
  cases u with
  | lane n => exact s.resetLane_reset n
  | chn n => exact s.resetChn_reset n
  | tsq n => exact s.resetTsq_reset n
  | srv n => exact s.resetSrv_reset n
  | ast n => exact s.resetAst_reset n
  | spn => exact s.spOpen_reach.reset.trans (.of_eq rfl rfl rfl)
  | buf => exact s.resetBuf_reset
  | cmd => exact s.resetCmd_reset
  | pep p => exact s.portReset_reset p
  | pool p => exact (s.resetPool_reach p false).reset
  | hzl => exact .of_eq rfl rfl rfl
  | hkp => exact .of_eq rfl rfl rfl
  | svc => exact .of_eq rfl rfl rfl
  | dev => exact .of_eq rfl rfl rfl
  | med => exact .refl s
  | hostg => exact .refl s
  | piv p => exact .refl s

/-- A unit that enters RESET. -/
theorem State.enterReset_reset (s : State) (u : UnitId) : ResetReach s (s.enterReset u) := by
  unfold State.enterReset
  extract_lets s1 kept s2 s3
  have h1 : ResetReach s s1 := (s.unitAction_reset u).trans (State.mbxDrop_reach _ u).reset
  have h2 : ResetReach s1 s2 := ((s1.resetRegs_reset u).trans (.clearLatches _ u)).trans
    (ResetReach.foldl _ (fun t (e : Nat × Word) => .setReg t u e.1 e.2) kept _)
  have h3 : ResetReach s2 s3 := by
    simp only [s3]
    split
    · refine ResetReach.foldl _ (fun t c => ?_) _ s2
      exact .of_eq rfl rfl rfl
    · rename_i n
      exact .ite (.refl s2) (s2.enterMode_reach n mOff).reset
    · exact .refl s2
  exact ((h1.trans h2).trans h3).trans (.setF s3 u _ _)

/-- A unit and its subtree that enter RESET. -/
theorem State.resetTree_reset (s : State) (u : UnitId) : ResetReach s (s.resetTree u) :=
  ResetReach.foldl _ State.enterReset_reset _ s

/-- What a warm reset leaves of the power, the vault's saves and PFAIL_N (R43, R46). -/
theorem State.warmReset_spec (s : State) (c : WarmCause) : (s.warmReset c).dev.power = s.dev.power
    ∧ (s.warmReset c).dev.warmInProgress = true ∧ (s.warmReset c).house.pfailRaw = s.house.pfailRaw
    ∧ (s.warmReset c).vault = { s.vault with saving := none, repeated := false, erasing := [], stopped := false } := by
  have hab : ResetReach s s.abandonHandover := by
    rw [s.abandonHandover_spec.2]
    exact .of_eq rfl rfl rfl
  have hall := hab.trans (s.abandonHandover.resetTree_reset .dev)
  unfold State.warmReset
  generalize s.abandonHandover.resetTree .dev = r at *
  refine ⟨hall.power, rfl, hall.pfail, ?_⟩
  rw [← hall.vault]
  rfl

end Sys2Proof.Machine

/-! SUPPORT. The vault's commands. -/

namespace Sys2Proof.Machine

variable {s t : State}

/-! ### The areas (R314, R320, R323) -/

/-- An area's erase that nothing refuses. -/
theorem State.vaultErase_eq {v : Word} (hgo : F.SVC_VLT_CMD_GO.get v = 1) (harea : F.SVC_VLT_CMD_AREA.get v ≠ s.protArea)
    (hsave : s.saveOf (F.SVC_VLT_CMD_AREA.get v) = none) : s.vaultErase v = (s.eraseArea (F.SVC_VLT_CMD_AREA.get v)).vaultCrit := by
  unfold State.vaultErase
  dsimp only
  rw [if_neg (by rw [hgo]; decide), if_neg (by simp [harea, hsave])]

/-- The protecting area is not erased. -/
theorem State.vaultErase_protecting {v : Word} (hgo : F.SVC_VLT_CMD_GO.get v = 1) (harea : F.SVC_VLT_CMD_AREA.get v = s.protArea) :
    s.vaultErase v = s.err .svc eConfig := by
  unfold State.vaultErase
  dsimp only
  rw [if_neg (by rw [hgo]; decide), if_pos (.inl harea)]

/-- An area whose erase has ended, before the warning follows. -/
def State.areaArmed (s : State) (a : Nat) (rest : List Nat) (mib : Nat) : State :=
  let s1 : State := { s with vault := { s.vault with erasing := rest } }
  let s2 := ((s1.setF .svc (armedField a) 1).setF .svc (capField a) mib).setF .svc F.SVC_VLT_STAT_ERASING (bit (rest != []))
  if s2.on .svc (armedField s2.protArea) then s2 else s2.setF .svc F.SVC_VLT_STAT_PROT a

theorem State.areaErased_eq {a : Nat} {rest : List Nat} (mib : Nat) (h : s.vault.erasing = a :: rest) :
    s.areaErased mib = (s.areaArmed a rest mib).vaultCrit := by
  unfold State.areaErased
  rw [h]
  rfl

/-- ERASING and PROT set leave an area's ARMED. -/
theorem State.armed_setF (s : State) (a : Nat) {f : Field} (hf : f = F.SVC_VLT_STAT_ERASING ∨ f = F.SVC_VLT_STAT_PROT) (v : Nat) :
    (s.setF .svc f v).on .svc (armedField a) = s.on .svc (armedField a) := by
  obtain ⟨ha, -⟩ | ⟨ha, -⟩ := armedField_cases a
  · rw [ha]
    obtain rfl | rfl := hf
    · exact s.on_setF_ne .svc _ _ _ rfl (by decide) (by decide)
    · exact s.on_setF_ne .svc _ _ _ rfl (by decide) (by decide)
  · rw [ha]
    obtain rfl | rfl := hf
    · exact s.on_setF_ne .svc _ _ _ rfl (by decide) (by decide)
    · exact s.on_setF_ne .svc _ _ _ rfl (by decide) (by decide)

/-- An area's capacity is the low half of a register of its own. -/
theorem capField_spec (a : Nat) : (capField a).off < 0x1000 ∧ (capField a).off ≠ Reg.SVC_VLT_STAT ∧ (capField a).lo = 0
    ∧ (capField a).width = 16 ∧ (armedField a).off = Reg.SVC_VLT_STAT := by
  obtain ⟨ha, -, hc⟩ | ⟨ha, -, hc⟩ := armedField_cases a <;> rw [ha, hc] <;> decide

theorem State.areaArmed_spec (s : State) (a : Nat) (rest : List Nat) {mib : Nat} (hmib : mib < 2 ^ 16) :
    (s.areaArmed a rest mib).on .svc (armedField a) = true ∧ (s.areaArmed a rest mib).f .svc (capField a) = mib
      ∧ (s.areaArmed a rest mib).on .svc F.SVC_VLT_STAT_ERASING = !rest.isEmpty
      ∧ RegsBut s (s.areaArmed a rest mib) [(.svc, Reg.SVC_VLT_STAT), (.svc, (capField a).off)]
      ∧ s.areaArmed a rest mib = { s with regs := (s.areaArmed a rest mib).regs, vault := { s.vault with erasing := rest } } := by
  let s1 : State := { s with vault := { s.vault with erasing := rest } }
  let s2 := s1.setF .svc (armedField a) (bit true)
  let s3 := s2.setF .svc (capField a) mib
  let s4 := s3.setF .svc F.SVC_VLT_STAT_ERASING (bit (rest != []))
  obtain ⟨hoff, hne, hlo, hwidth, hstat⟩ := capField_spec a
  obtain ⟨harm, -, h12⟩ := s1.setArmed_spec a true
  have h23 : RegsBut s2 s3 [(.svc, (capField a).off)] := RegsBut.setF s2 .svc _ _ hoff
  have h34 : RegsBut s3 s4 [(.svc, Reg.SVC_VLT_STAT)] := RegsBut.setF s3 .svc F.SVC_VLT_STAT_ERASING _ (by decide)
  have h4 : RegsBut s s4 [(.svc, Reg.SVC_VLT_STAT), (.svc, (capField a).off)] :=
    ((((RegsBut.of_regs (t := s1) rfl).trans h12).mono (by simp)).trans (h23.mono (by simp))).trans (h34.mono (by simp))
  have harm4 : s4.on .svc (armedField a) = true := by
    rw [show s4.on .svc (armedField a) = s3.on .svc (armedField a) from s3.armed_setF a (.inl rfl) _,
      h23.on (by rw [hstat]; decide) (by rw [hstat]; simp [hne.symm])]
    exact harm
  have hcap4 : s4.f .svc (capField a) = mib := by
    rw [h34.f hoff (by simp [hne]), State.f_setF_same _ _ _ _ (by rw [hlo, hwidth]; decide), hwidth]
    exact Nat.mod_eq_of_lt hmib
  have herase4 : s4.on .svc F.SVC_VLT_STAT_ERASING = !rest.isEmpty := by
    rw [show s4.on .svc F.SVC_VLT_STAT_ERASING = (rest != []) from s3.on_setF_same .svc rfl (by decide) _]
    cases rest <;> rfl
  have honly4 : s4 = { s with regs := s4.regs, vault := { s.vault with erasing := rest } } := rfl
  rw [show s.areaArmed a rest mib = if s4.on .svc (armedField s4.protArea) then s4 else s4.setF .svc F.SVC_VLT_STAT_PROT a from rfl]
  clear_value s4
  generalize s4 = r at *
  split
  · exact ⟨harm4, hcap4, herase4, h4, honly4⟩
  · have h5 : RegsBut r (r.setF .svc F.SVC_VLT_STAT_PROT a) [(.svc, Reg.SVC_VLT_STAT)] := RegsBut.setF r .svc F.SVC_VLT_STAT_PROT a (by decide)
    have harm5 := r.armed_setF a (f := F.SVC_VLT_STAT_PROT) (.inr rfl) a
    have herase5 : (r.setF .svc F.SVC_VLT_STAT_PROT a).on .svc F.SVC_VLT_STAT_ERASING = r.on .svc F.SVC_VLT_STAT_ERASING :=
      r.on_setF_ne .svc _ _ _ rfl (by decide) (by decide)
    have honly5 : r.setF .svc F.SVC_VLT_STAT_PROT a = { r with regs := (r.setF .svc F.SVC_VLT_STAT_PROT a).regs } := rfl
    generalize r.setF .svc F.SVC_VLT_STAT_PROT a = q at *
    exact ⟨harm5.trans harm4, (h5.f hoff (by simp [hne])).trans hcap4, herase5.trans herase4, h4.trans (h5.mono (by simp)),
      by rw [honly5, honly4]⟩

/-! ### The commands -/

/-- A loss of power without a save that is ready. -/
theorem State.pfailAccept_unready (hlatch : s.on .hkp F.HKP_IN_STAT_PFAIL_LATCH = false) (hready : s.saveReady = false)
    (hwarm : s.dev.warmInProgress = false) : s.pfailAccept = s.pfailTaken := by
  obtain ⟨x, honly, -, hdev, -⟩ := s.pfailTaken_only
  have hwarm' : s.pfailTaken.dev.warmInProgress = false := by rw [honly, hdev, hwarm]
  rw [State.pfailAccept_eq hlatch, if_neg (by rw [s.pfailTaken_ready, hready]; nofun), if_neg (by simp [hwarm'])]

/-- A loss of power with a save that is ready. -/
theorem State.pfailAccept_ready (hlatch : s.on .hkp F.HKP_IN_STAT_PFAIL_LATCH = false) (hready : s.saveReady = true)
    (hsave : s.vault.saving = none) : s.pfailAccept = s.pfailTaken.beginSave.holdPool s.pfailTaken.heldPool := by
  obtain ⟨x, honly, -, -, hx⟩ := s.pfailTaken_only
  have hsaving : s.pfailTaken.vault.saving = none := by rw [honly, congrArg State.vault hx, hsave]
  rw [State.pfailAccept_eq hlatch, if_pos (by rw [s.pfailTaken_ready, hready, hsaving]; rfl)]

/-- The input high for 10 ms after a save (R319). -/
theorem State.pfailHigh_spec (hstop : s.vault.stopped = true) : s.pfailHigh.house.pfailRaw = false
    ∧ s.pfailHigh.dev.warmInProgress = true ∧ s.pfailHigh.vault = { s.vault with saving := none, repeated := false, erasing := [], stopped := false } := by
  let s1 : State := { s with house := { s.house with pfailRaw := false } }
  have honly := s1.pfailCleared_spec.2.2.2
  obtain ⟨-, hwarm, hpfail, hvault⟩ := s1.pfailCleared.warmReset_spec .service
  have hhigh : s.pfailHigh = s1.pfailCleared.warmReset .service := if_pos hstop
  rw [hhigh]
  generalize s1.pfailCleared.warmReset .service = r at *
  refine ⟨by rw [hpfail, honly], hwarm, by rw [hvault, honly]⟩

/-- Settles O36: each command's effect is one operation of the vault, and a loss of power stops the media before the save. -/
theorem vaultCommands : Obligations.VaultCommands := by
  refine ⟨?_, ?_, ?_, ?_, ?_, ?_, ?_, ?_, ?_, ?_, ?_, ?_⟩
  · intro s hr hlatch hready hwarm
    obtain ⟨-, hset, hploss, hmode⟩ := (s.answer .none).pfailTaken_spec
    obtain ⟨x, honly, hstop, -, hx⟩ := (s.answer .none).pfailTaken_only
    refine Completes.of_run hr (exec_pfailAccept s) (State.pfailAccept_unready (s := s.answer .none) hlatch hready hwarm) ?_
    generalize (s.answer .none).pfailTaken = r at *
    refine ⟨hset, ?_, ?_, hploss, hmode, ?_, ?_, ?_, ?_, ?_⟩
    · change r.cmd.stopped = true
      rw [honly, hstop]
    · change r.house.pfailRaw = true
      rw [honly, congrArg State.house hx]
    · change r.vault = s.vault
      rw [honly, congrArg State.vault hx]
      rfl
    · change r.mem = s.mem
      rw [honly, congrArg State.mem hx]
      rfl
    · change r.hosts = s.hosts
      rw [honly, congrArg State.hosts hx]
      rfl
    · change r.buf = s.buf
      rw [honly, congrArg State.buf hx]
      rfl
    · change r.pools = s.pools
      rw [honly, congrArg State.pools hx]
      rfl
  · intro s hr hlatch hready hsave
    obtain ⟨hregs, hset, -, -⟩ := (s.answer .none).pfailTaken_spec
    obtain ⟨x, honly, hstop, -, hx⟩ := (s.answer .none).pfailTaken_only
    have hseq0 : (s.answer .none).pfailTaken.reg64 .svc Reg.SVC_VLT_SEQ_LO = s.reg64 .svc Reg.SVC_VLT_SEQ_LO :=
      hregs.reg64 (by decide) (by simp [pfailRegs, mediaRegs]) (by simp [pfailRegs, mediaRegs])
    obtain ⟨hseq, hA, hB, hcmd, -, -, hpregs⟩ := (s.answer .none).pfailTaken.saveBegun_spec (s.answer .none).pfailTaken.heldPool
    refine Completes.of_run hr (exec_pfailAccept s) (State.pfailAccept_ready (s := s.answer .none) hlatch hready hsave) ?_
    generalize State.holdPool _ _ = q at *
    generalize (s.answer .none).pfailTaken = r at *
    have hvault : r.vault = s.vault := by
      rw [honly, congrArg State.vault hx]
      rfl
    refine ⟨(hpregs.on (by decide) (by simp [stopRegs])).trans hset, ?_, hseq.trans (by rw [hseq0]), ?_, ?_⟩
    · change q.cmd.stopped = true
      rw [hcmd, honly, hstop]
    · change q.vault.saveA = s.vault.saveA
      rw [hA, hvault]
    · change q.vault.saveB = s.vault.saveB
      rw [hB, hvault]
  · intro s gs x hr hsave
    exact Completes.of_result hr (exec_pageProgramFail gs true s) (State.pageFail_again (s := s.answer .none) hsave gs)
      ⟨State.transient_err _, RegsBut.transient _ _, rfl⟩ rfl
  · intro s x g rest hr hsave hg hrest
    refine Completes.of_result hr (exec_pageProgramFail [0] false s) (State.pageFail_first (s := s.answer .none) hsave hg hrest)
      ⟨rfl, ?_, ?_, rfl⟩ rfl
    · exact State.lasting_err _ .svc rfl (.inl rfl)
    · exact RegsBut.lasting _ .svc
  · intro s saved high x hr hsave hlatch hlow
    obtain ⟨hof, hsaving, harm, hsav, hvalid, hpart, hcount, hregs, honly⟩ := (s.answer .none).saveClosed_spec x
    refine Completes.of_result hr (exec_saveComplete saved high s) (State.saveComplete_eq (s := s.answer .none) saved high hsave hlatch hlow)
      ⟨hof, hsaving, harm, hsav, hvalid, hpart, hcount, hregs, ?_⟩ (by rw [honly]; rfl)
    rw [honly]
    rfl
  · intro s hr hstop
    obtain ⟨hpfail, hwarm, hvault⟩ := State.pfailHigh_spec (s := s.answer .none) hstop
    refine Completes.of_run hr (exec_pfailHigh10ms s) rfl ?_
    generalize (s.answer .none).pfailHigh = r at *
    refine ⟨hpfail, hwarm, ?_, ?_, ?_, ?_⟩
    · exact congrArg Vault.stopped hvault
    · exact congrArg Vault.saving hvault
    · exact (congrArg Vault.saveA hvault).trans rfl
    · exact (congrArg Vault.saveB hvault).trans rfl
  · intro s hr hstop
    have hhigh : (s.answer .none).pfailHigh = { s.answer .none with house := { s.house with pfailRaw := false } } :=
      if_neg (by rw [show (s.answer .none).vault.stopped = false from hstop]; nofun)
    exact Completes.of_result hr (exec_pfailHigh10ms s) hhigh ⟨rfl, rfl⟩ rfl
  · intro s v hr hreset hclr
    have hclear : (s.answer .none).pfailClr v false = State.pfailCleared { s.answer .none with house := { s.house with pfailRaw := false } } :=
      if_pos ⟨hclr, rfl⟩
    obtain ⟨hlatch, hploss, hregs, honly⟩ := State.pfailCleared_spec { s.answer .none with house := { s.house with pfailRaw := false } }
    refine Completes.of_access (f := fun s => s.pfailClr v false) hr hreset (exec_pfailClr .service v false s) ?_ ?_ ?_
    · exact (congrArg State.resp (hclear.trans honly)).trans rfl
    · exact (congrArg State.pending (hclear.trans honly)).trans rfl
    · rw [hclear]
      exact ⟨hlatch, hploss, rfl, hregs, rfl⟩
  · intro s v hr hreset
    have hstay : (s.answer .none).pfailClr v true = { s.answer .none with house := { s.house with pfailRaw := true } } :=
      if_neg (by simp)
    refine Completes.of_access (f := fun s => s.pfailClr v true) hr hreset (exec_pfailClr .service v true s) ?_ ?_ ?_
    · rw [hstay]
      rfl
    · rw [hstay]
      rfl
    · rw [hstay]
      exact ⟨rfl, rfl⟩
  · intro s v hr hreset hgo harea hsave
    have heq := State.vaultErase_eq (s := s.answer .none) hgo harea hsave
    obtain ⟨hmem, harm, herase, hregs, honly⟩ := (s.answer .none).eraseArea_spec (F.SVC_VLT_CMD_AREA.get v)
    have hevent := ((s.answer .none).eraseArea (F.SVC_VLT_CMD_AREA.get v)).vaultCrit_event
    rw [← heq] at hevent
    generalize (s.answer .none).eraseArea (F.SVC_VLT_CMD_AREA.get v) = y at *
    have hkept : ((s.answer .none).vaultErase v).regs = y.regs := by rw [hevent]
    have hreg : ∀ f, ((s.answer .none).vaultErase v).on .svc f = y.on .svc f := fun f => by
      rw [State.on, State.on, State.f, State.f, State.reg, State.reg, hkept]
    refine Completes.of_access (f := fun s => s.vaultErase v) hr hreset (exec_vaultAreaErase .service v s) ?_ ?_
      ⟨?_, (hreg _).trans harm, (hreg _).trans herase, hregs.trans (RegsBut.of_regs hkept), ?_⟩
    · rw [hevent, honly]
      rfl
    · rw [hevent, honly]
      rfl
    · rw [show ((s.answer .none).vaultErase v).vault = y.vault by rw [hevent]]
      exact hmem
    · rw [hevent, honly]
      rfl
  · intro s v hr hreset hgo harea
    have heq := State.vaultErase_protecting (s := s.answer .none) hgo harea
    refine Completes.of_access (f := fun s => s.vaultErase v) hr hreset (exec_vaultAreaErase .service v s) ?_ ?_ ?_
    · rw [heq]
      rfl
    · rw [heq]
      rfl
    · rw [heq]
      refine ⟨?_, RegsBut.err _ _ _, rfl⟩
      rw [State.reg_err, BitVec.getLsbD_or]
      exact Bool.or_eq_true_iff.mpr (.inr (by decide))
  · intro s mib a rest hr herasing hmib
    have heq := State.areaErased_eq (s := s.answer .none) mib herasing
    obtain ⟨harm, hcap, herase, hregs, honly⟩ := (s.answer .none).areaArmed_spec a rest hmib
    have hevent := ((s.answer .none).areaArmed a rest mib).vaultCrit_event
    rw [← heq] at hevent
    generalize (s.answer .none).areaArmed a rest mib = y at *
    have hkept : ((s.answer .none).areaErased mib).regs = y.regs := by rw [hevent]
    have hreg : ∀ f, ((s.answer .none).areaErased mib).f .svc f = y.f .svc f := fun f => by
      rw [State.f, State.f, State.reg, State.reg, hkept]
    refine Completes.of_result hr (exec_areaEraseDone mib s) rfl ⟨(congrArg (· == 1) (hreg _)).trans harm, (hreg _).trans hcap, ?_,
      (congrArg (· == 1) (hreg _)).trans herase, hregs.trans (RegsBut.of_regs hkept), ?_⟩ ?_
    · rw [hevent, honly]
      rfl
    · rw [hevent, honly]
      rfl
    · rw [hevent, honly]
      rfl

end Sys2Proof.Machine

/-! SUPPORT. The commands of resets and of the loss of power. -/

namespace Sys2Proof.Machine

variable {s t : State}

theorem exec_perstAssert (p : Fin 2) (s : State) : exec (.perstAssert p) s = done s (fun s => s.when (!(s.port p).perst)
    ((s.portReset p).setPort p { (s.portReset p).port p with perst := true })) := rfl

theorem exec_perstDeassert (p : Fin 2) (s : State) : exec (.perstDeassert p) s
    = done s (fun s => s.when (s.port p).perst (s.setPort p { s.port p with perst := false })) := rfl

theorem exec_hotReset (p : Fin 2) (s : State) : exec (.hotReset p) s = done s (fun s => s.when (s.linkIsUp p) (s.portReset p)) := rfl

theorem State.port_setPort_same (s : State) (p : Fin 2) (x : Port) : (s.setPort p x).port p = x := by simp [State.port, State.setPort]

/-- A port's reset returns its functions to one (R43). -/
theorem State.portReset_port (s : State) (p : Fin 2) : ((s.portReset p).port p).numVfs = 0 ∧ ((s.portReset p).port p).ana = [] := by
  unfold State.portReset
  dsimp only
  rw [State.port_setPort_same]
  exact ⟨rfl, rfl⟩

/-- A lane that may be loaded, or that retracts, retracts after PWRON_N falls, with its servo in RESET (R48). -/
theorem State.coldReset_retracts (s : State) (cause : Nat) {p : Power} (hp : p ≠ .off) {n : Fin 4}
    (h : s.maybeOffRamp n = true ∨ s.mode n = mRetract) :
    (s.coldReset cause p).mode n = mRetract ∧ (s.coldReset cause p).unitState (.srv n) = stReset := by
  have hmode : s.retractLoaded.mode n = mRetract := by
    rw [s.retractLoaded_mode n]
    split
    · rfl
    case isFalse hoff => exact h.resolve_left hoff
  rw [State.coldReset_held s cause hp]
  exact s.retractLoaded.carryRetracts_mode _ hmode

/-- A register that no retract in progress carries. -/
theorem State.not_carried {u : UnitId} {o : Nat} (h : ∀ n, u = .srv n → (s.maybeOffRamp n = true ∨ s.mode n = mRetract) →
    o ≠ Reg.UNIT_STAT ∧ o ≠ Reg.SRV_STAT ∧ o ≠ Reg.SRV_VCM_OUT) : ¬ carriedRegs s.retractLoaded u o := by
  rintro ⟨n, hu, hmode, ho⟩
  have hload : s.maybeOffRamp n = true ∨ s.mode n = mRetract := by
    rw [s.retractLoaded_mode n] at hmode
    split at hmode
    case isTrue hoff => exact .inl hoff
    case isFalse => exact .inr hmode
  obtain ⟨h1, h2, h3⟩ := h n hu hload
  exact ho.elim h1 fun ho => ho.elim h2 h3

/-- Settles O14: a warm reset is every unit's reset, and a cold one the reset state with what a retract in progress carries. -/
theorem resetsAndPowerLoss : Obligations.ResetsAndPowerLoss := by
  refine ⟨?_, ?_, ?_, ?_, ?_, ?_, ?_⟩
  · intro s c hr
    have hcause := (s.answer .none).warmReset_cause c
    obtain ⟨hpower, hwarm, -, -⟩ := (s.answer .none).warmReset_spec c
    refine Completes.of_run hr (exec_warmReset c s) rfl ?_
    generalize (s.answer .none).warmReset c = r at *
    exact ⟨hcause, hwarm, hpower.trans hr⟩
  · intro s fn hr hfn hlink
    have hcause := (s.answer .none).warmReset_cause .subsystem
    obtain ⟨-, hwarm, -, -⟩ := (s.answer .none).warmReset_spec .subsystem
    refine Completes.of_run hr (exec_nvmSubsystemReset fn s) (State.subsystemReset_of_link (s := s.answer .none) hfn hlink) ?_
    generalize (s.answer .none).warmReset .subsystem = r at *
    exact ⟨hcause, hwarm⟩
  · intro s
    have hpower := s.coldReset_power 0 .coldHeld
    have hcause := s.coldReset_cause 0 .coldHeld
    have hret := fun n => s.coldReset_retracts 0 (p := .coldHeld) (by decide) (n := n)
    have hreg := fun u o => s.coldReset_reg 0 .coldHeld (u := u) (o := o)
    have hbyte := fun a => s.byte_coldReset 0 a .coldHeld
    obtain ⟨-, hns, hzones⟩ := s.coldReset_life 0 .coldHeld
    refine Completes.of_leave (exec_pwronNFall s) ?_
    generalize s.coldReset 0 .coldHeld = r at *
    exact ⟨congrArg Device.power hpower, hcause, fun u o ho h1 h2 h3 => hreg u o ho h1 h2 (.inr (State.not_carried h3)), hret, hbyte, hns,
      hzones⟩
  · intro s
    have hpower := s.coldReset_power 0 .off
    have hreg := fun u o => s.coldReset_reg 0 .off (u := u) (o := o)
    have hbyte := fun a => s.byte_coldReset 0 a .off
    refine Completes.of_leave (exec_unplannedPowerLoss s) ?_
    generalize s.coldReset 0 .off = r at *
    exact ⟨congrArg Device.power hpower, fun u o ho h1 h2 => hreg u o ho h1 h2 (.inl rfl), hbyte⟩
  · intro s p hr hperst
    obtain ⟨hvfs, -⟩ := (s.answer .none).portReset_port p
    have hwhen : (s.answer .none).when (!((s.answer .none).port p).perst) (((s.answer .none).portReset p).setPort p
        { ((s.answer .none).portReset p).port p with perst := true })
        = ((s.answer .none).portReset p).setPort p { ((s.answer .none).portReset p).port p with perst := true } := by
      rw [show ((s.answer .none).port p).perst = false from hperst]
      rfl
    refine Completes.of_run hr (exec_perstAssert p s) hwhen ?_
    generalize (s.answer .none).portReset p = r at *
    have hport := r.port_setPort_same p { r.port p with perst := true }
    exact ⟨congrArg Port.perst hport, (congrArg Port.numVfs hport).trans hvfs⟩
  · intro s p hr hperst
    have hwhen : (s.answer .none).when ((s.answer .none).port p).perst ((s.answer .none).setPort p
        { (s.answer .none).port p with perst := false }) = (s.answer .none).setPort p { s.port p with perst := false } := by
      rw [show ((s.answer .none).port p).perst = true from hperst]
      rfl
    refine Completes.of_result hr (exec_perstDeassert p s) hwhen ⟨?_, rfl⟩ rfl
    rw [State.port_setPort_same]
  · intro s p hr hlink
    have hport := (s.answer .none).portReset_port p
    have hwhen : (s.answer .none).when ((s.answer .none).linkIsUp p) ((s.answer .none).portReset p) = (s.answer .none).portReset p := by
      rw [show (s.answer .none).linkIsUp p = true from hlink, State.when_true]
    refine Completes.of_run hr (exec_hotReset p s) hwhen ?_
    generalize (s.answer .none).portReset p = r at *
    exact hport

end Sys2Proof.Machine

/-! SUPPORT. The power commands: the cap level and what it frees, the media that come back, and the non-operational states. -/

namespace Sys2Proof.Machine

variable {s t : State}

theorem exec_pwrCapWrite (e : Engine) (v : Word) (s : State) : exec (.pwrCapWrite e v) s
    = done s (fun s => s.access e .store .dev Reg.DEV_PWR_CAP none (s.capWrite v)) := rfl

theorem exec_setPowerManagement (fn : Fin 64) (ps : Nat) (s : State) : exec (.setPowerManagement fn ps) s
    = done s (fun s => s.admin fn.val (s.setPower ps)) := rfl

theorem exec_apstTransition (ps : Nat) (s : State) : exec (.apstTransition ps) s
    = done s (fun s => s.when (decide ((ps = 3 ∨ ps = 4) ∧ s.dev.ps < ps) && !s.svcs.chrysalis) (s.enterPs ps id)) := rfl

/-! ### The messages that a looser level frees (R60, R438) -/

/-- An engine that takes a message changes the enclave and the free counter. -/
theorem State.runMsg_only (s : State) (e : Nat) (m : CMsg) :
    s.runMsg e m = { s with hzl := (s.runMsg e m).hzl, freeCtr := (s.runMsg e m).freeCtr } := by
  have hkey : ∀ k g, s.cacheKey e k g = { s with hzl := (s.cacheKey e k g).hzl, freeCtr := (s.cacheKey e k g).freeCtr } := fun k g => by
    unfold State.cacheKey
    dsimp only
    split
    · rfl
    · split <;> rfl
  unfold State.runMsg
  dsimp only
  rw [hkey]
  rfl

/-- The answer does not bear on what an engine takes. -/
theorem State.runMsg_answer (s : State) (r : Resp) (e : Nat) (m : CMsg) : (s.answer r).runMsg e m = (s.runMsg e m).answer r := by
  have hkey : ∀ k g, (s.answer r).cacheKey e k g = (s.cacheKey e k g).answer r := fun k g => by
    unfold State.cacheKey
    rw [show (s.answer r).rEng e = s.rEng e from rfl]
    dsimp only
    split
    · rfl
    · split <;> rfl
  unfold State.runMsg
  dsimp only
  rw [hkey]
  rfl

theorem State.refill_only (s : State) (e : Nat) : s.refill e = { s with hzl := (s.refill e).hzl, freeCtr := (s.refill e).freeCtr } := by
  have hrun : ∀ (h : Enclave) (m : CMsg), ({ s with hzl := h } : State).runMsg e m
      = { s with hzl := (({ s with hzl := h } : State).runMsg e m).hzl, freeCtr := (({ s with hzl := h } : State).runMsg e m).freeCtr } :=
    fun h m => State.runMsg_only _ e m
  unfold State.refill
  dsimp only
  split
  · rfl
  · split
    · rfl
    · exact hrun _ _
    · exact hrun _ _
    · split
      · exact hrun _ _
      · exact hrun _ _

theorem State.refill_answer (s : State) (r : Resp) (e : Nat) : (s.answer r).refill e = (s.refill e).answer r := by
  have hrun : ∀ (h : Enclave) (m : CMsg), ({ s.answer r with hzl := h } : State).runMsg e m
      = (({ s with hzl := h } : State).runMsg e m).answer r := fun h m => State.runMsg_answer { s with hzl := h } r e m
  unfold State.refill
  rw [show (s.answer r).rEng e = s.rEng e from rfl, show (s.answer r).messageRoom = s.messageRoom from rfl,
    show (s.answer r).hzl = s.hzl from rfl]
  dsimp only
  split
  · rfl
  · split
    · rfl
    · exact hrun _ _
    · exact hrun _ _
    · split
      · exact hrun _ _
      · exact hrun _ _

theorem State.refillAll_only (s : State) : s.refillAll = { s with hzl := s.refillAll.hzl, freeCtr := s.refillAll.freeCtr } := by
  have hlist : ∀ (l : List Nat) (u : State), l.foldl State.refill u
      = { u with hzl := (l.foldl State.refill u).hzl, freeCtr := (l.foldl State.refill u).freeCtr } := by
    intro l
    induction l with
    | nil => exact fun _ => rfl
    | cons e l ih =>
      intro u
      rw [List.foldl_cons, ih, u.refill_only e]
  exact hlist _ s

theorem State.refillAll_answer (s : State) (r : Resp) : (s.answer r).refillAll = s.refillAll.answer r := by
  have hlist : ∀ (l : List Nat) (u : State), l.foldl State.refill (u.answer r) = (l.foldl State.refill u).answer r := by
    intro l
    induction l with
    | nil => exact fun _ => rfl
    | cons e l ih => exact fun u => by rw [List.foldl_cons, List.foldl_cons, u.refill_answer, ih]
  exact hlist _ s

/-! ### The cap level (R57, R60) -/

/-- The level written. -/
theorem State.setLevel_cap (s : State) {l : Nat} (h : l < 4) : (s.setF .dev F.DEV_PWR_CAP_LEVEL l).capLevel = l :=
  (s.f_setF_same .dev F.DEV_PWR_CAP_LEVEL l (by decide)).trans (Nat.mod_eq_of_lt h)

/-- A level no looser frees nothing. -/
theorem State.setCapLevel_tighter {l : Nat} (h : l < 4) (hle : s.capLevel ≤ l) : s.setCapLevel l = s.setF .dev F.DEV_PWR_CAP_LEVEL l := by
  unfold State.setCapLevel
  dsimp only
  rw [s.setLevel_cap h]
  exact if_neg (by omega)

theorem State.setCapLevel_looser {l : Nat} (h : l < 4) (hlt : l < s.capLevel) :
    s.setCapLevel l = (s.setF .dev F.DEV_PWR_CAP_LEVEL l).refillAll := by
  unfold State.setCapLevel
  dsimp only
  rw [s.setLevel_cap h]
  exact if_pos hlt

/-- What a new cap level changes. -/
theorem State.setCapLevel_only (s : State) (l : Nat) : RegsBut s (s.setCapLevel l) [(.dev, Reg.DEV_PWR_CAP)]
    ∧ s.setCapLevel l = { s with regs := (s.setCapLevel l).regs, hzl := (s.setCapLevel l).hzl, freeCtr := (s.setCapLevel l).freeCtr } := by
  have hset : RegsBut s (s.setF .dev F.DEV_PWR_CAP_LEVEL l) [(.dev, Reg.DEV_PWR_CAP)] := RegsBut.setF s .dev F.DEV_PWR_CAP_LEVEL l (by decide)
  have honly := (s.setF .dev F.DEV_PWR_CAP_LEVEL l).refillAll_only
  unfold State.setCapLevel
  dsimp only
  split
  · generalize (s.setF .dev F.DEV_PWR_CAP_LEVEL l).refillAll = r at *
    refine ⟨hset.trans (RegsBut.of_regs (by rw [honly])), ?_⟩
    rw [honly]
    rfl
  · exact ⟨hset, rfl⟩

theorem State.setCapLevel_cap (s : State) {l : Nat} (h : l < 4) : (s.setCapLevel l).capLevel = l := by
  by_cases hlt : l < s.capLevel
  · have honly := (s.setF .dev F.DEV_PWR_CAP_LEVEL l).refillAll_only
    rw [State.setCapLevel_looser h hlt]
    have hcap := s.setLevel_cap h
    generalize (s.setF .dev F.DEV_PWR_CAP_LEVEL l).refillAll = r at *
    rw [honly]
    exact hcap
  · rw [State.setCapLevel_tighter h (by omega), s.setLevel_cap h]

theorem State.capLevel_lt (s : State) : s.capLevel < 4 := s.f_lt .dev F.DEV_PWR_CAP_LEVEL

/-! ### A power state in force (R61) -/

/-- What a power state in force leaves. -/
theorem State.psSet_spec (s : State) (ps last : Nat) {l : Nat} (h : l < 4) (w : Option Nat) : (s.psSet ps last l w).capLevel = l
    ∧ RegsBut s (s.psSet ps last l w) [(.dev, Reg.DEV_PWR_CAP)]
    ∧ s.psSet ps last l w = { s with regs := (s.psSet ps last l w).regs, dev := { s.dev with ps := ps, lastOp := last, psWanted := w },
                                     hzl := (s.psSet ps last l w).hzl, freeCtr := (s.psSet ps last l w).freeCtr } := by
  let s1 : State := { s with dev := { s.dev with ps := ps, lastOp := last, psWanted := w } }
  obtain ⟨hregs, honly⟩ := s1.setCapLevel_only l
  exact ⟨s1.setCapLevel_cap h, (RegsBut.of_regs (t := s1) rfl).trans hregs, honly⟩

/-- A power state whose level is no looser changes one register and the device group's state. -/
theorem State.psSet_tighter (ps last : Nat) {l : Nat} (h : l < 4) (w : Option Nat) (hle : s.capLevel ≤ l) :
    s.psSet ps last l w = ({ s with dev := { s.dev with ps := ps, lastOp := last, psWanted := w } } : State).setF .dev F.DEV_PWR_CAP_LEVEL l :=
  State.setCapLevel_tighter h hle

/-! ### The media that a power state stopped (R61, R195) -/

theorem State.servoLoad_reach (s : State) (n : Fin 4) : LaneReach n s (s.servoLoad n) := by
  have herr : ∀ t : State, LaneReach n t (t.err (.srv n) eConfig) := fun t => LaneReach.of_setReg t (by decide) (.srv _ _) _
  have hload : ∀ t : State, LaneReach n t (t.beginLoad n 1) := fun t => by
    unfold State.beginLoad State.voltageOut
    dsimp only
    refine LaneReach.trans ?_ (LaneReach.setSv _ _)
    exact ((t.enterMode_reach n mLoading).trans (LaneReach.of_setF _ (by decide) (.srv _ _) _)).trans
      (LaneReach.of_setF _ (by decide) (.srv _ _) _)
  unfold State.servoLoad
  extract_lets s1
  have h1 : LaneReach n s s1 := by
    simp only [s1]
    split
    · exact .refl s
    · exact herr s
  split
  · exact h1.trans (herr s1)
  · split
    · exact (h1.trans (LaneReach.of_setF s1 (by decide) (.srv _ _) 0)).trans (hload _)
    · exact h1.trans (LaneReach.of_setF s1 (by decide) (.srv _ _) 1)

theorem State.spStart_reach (s : State) : SpinReach s s.spStart := by
  unfold State.spStart
  dsimp only
  split
  · exact SpinReach.setF s (by decide) 1
  · split
    · split
      · exact (SpinReach.setF s (by decide) 1).trans (SpinReach.setReg _ (by decide) _)
      · exact ((SpinReach.setF s (by decide) 0).trans (State.spEnter_reach _ _)).trans (SpinReach.setSpn _ _)
    · exact .refl s

/-- The parked lanes that load. -/
theorem State.loadLanes_reach (l : List (Fin 4)) (s : State) :
    MediaReach s (l.foldl (fun (t : State) n => if t.mode n = mParked then t.servoLoad n else t) s) :=
  MediaReach.lanes (fun t n => by
    split
    · exact t.servoLoad_reach n
    · exact .refl t) l s

/-- The lanes that load leave the power state and its level. -/
theorem State.loadParked_keeps (s : State) : s.loadParked.dev.ps = s.dev.ps ∧ s.loadParked.dev.lastOp = s.dev.lastOp
    ∧ s.loadParked.capLevel = s.capLevel := by
  unfold State.loadParked
  split
  · exact ⟨rfl, rfl, rfl⟩
  · extract_lets s1
    have h1 : MediaReach s s1 := State.loadLanes_reach _ s
    have hps : s1.dev.ps = s.dev.ps := by rw [h1.dev]
    have hlast : s1.dev.lastOp = s.dev.lastOp := by rw [h1.dev]
    exact ⟨hps, hlast, h1.regs.f (u := .dev) (f := F.DEV_PWR_CAP_LEVEL) (by decide) (fun h => h)⟩

/-- The media that come back leave the power state and its level (R61, R62). -/
theorem State.wakeMedia_keeps (s : State) : s.wakeMedia.dev.ps = s.dev.ps ∧ s.wakeMedia.dev.lastOp = s.dev.lastOp
    ∧ s.wakeMedia.capLevel = s.capLevel := by
  have hstart : ∀ r : State, r = (if s.dev.psStopped && s.takes .spn then s.spStart else s) → SpinReach s r := by
    rintro r rfl
    split
    · exact s.spStart_reach
    · exact .refl s
  unfold State.wakeMedia
  extract_lets r
  have h1 := hstart r rfl
  have hrps : r.dev.ps = s.dev.ps := by rw [h1.only]
  have hrlast : r.dev.lastOp = s.dev.lastOp := by rw [h1.only]
  have hcap : r.capLevel = s.capLevel := h1.regs.f (f := F.DEV_PWR_CAP_LEVEL) (by decide) (by simp)
  obtain ⟨hps, hlast, hload⟩ := State.loadParked_keeps { r with dev := { r.dev with psStopped := false } }
  exact ⟨hps.trans hrps, hlast.trans hrlast, hload.trans hcap⟩

/-- Media that no power state stopped stay as they are. -/
theorem State.wakeMedia_idle (hstop : s.dev.psStopped = false) (hpark : s.dev.psParked = []) : s.wakeMedia = s := by
  have hdev : ({ s with dev := { s.dev with psStopped := false } } : State) = s := by rw [← hstop]
  have hparked : ({ s with dev := { s.dev with psParked := [] } } : State) = s := by rw [← hpark]
  have hload : s.loadParked = s := by
    unfold State.loadParked
    rw [hpark]
    split
    · rfl
    · exact hparked
  unfold State.wakeMedia
  rw [if_neg (by simp [hstop])]
  exact (congrArg State.loadParked hdev).trans hload

/-! ### Power states entered (R61, R62) -/

/-- PS4 stops a spindle that turns, as STOP does. -/
theorem State.psStop_spec (s : State) : s.psStop.dev.ps = s.dev.ps ∧ s.psStop.dev.lastOp = s.dev.lastOp ∧ s.psStop.capLevel = s.capLevel
    ∧ (s.takes .spn = true → s.spMode ≠ spStopped → s.psStop.dev.psStopped = true ∧ s.psStop.spMode = s.spStop.spMode) := by
  have hstop := s.spStop_reach
  have hcap : s.spStop.capLevel = s.capLevel := hstop.regs.f (f := F.DEV_PWR_CAP_LEVEL) (by decide) (by simp)
  have hps : s.spStop.dev.ps = s.dev.ps := by rw [hstop.only]
  have hlast : s.spStop.dev.lastOp = s.dev.lastOp := by rw [hstop.only]
  unfold State.psStop
  split
  · generalize s.spStop = r at *
    exact ⟨hps, hlast, hcap, fun _ _ => ⟨rfl, rfl⟩⟩
  case isFalse h => exact ⟨rfl, rfl, rfl, fun htakes hmode => absurd (by simp [htakes, hmode]) h⟩

/-- An operational power state. -/
theorem State.enterPs_operational {ps : Nat} (h : ps < 3) (ok : State → State) : s.enterPs ps ok = ok (s.psSet ps ps ps none).wakeMedia :=
  if_pos h

/-- A non-operational power state, once no head is off its ramp. -/
theorem State.enterPs_parked {ps : Nat} (h : 3 ≤ ps) (ok : State → State) (hpark : s.allParked = true)
    (hdirty : s.vaultFitted = true ∨ s.dirtyGranules = 0 ∨ ps ≠ 4) : s.enterPs ps ok
      = ok (if ps < 4 then s.psSet ps s.dev.lastOp 3 none else (s.psSet ps s.dev.lastOp 3 none).psStop.lifePersist) := by
  have hclean : ¬(ps = 4 ∧ (!s.vaultFitted) = true ∧ s.dirtyGranules ≠ 0) := by
    rintro ⟨h4, hvault, hne⟩
    obtain hf | hz | hps := hdirty
    · rw [hf] at hvault
      exact nomatch hvault
    · exact hne hz
    · exact hps h4
  unfold State.enterPs
  dsimp only
  rw [if_neg (by omega), if_neg hclean, if_neg (by simp [hpark])]

/-- PS4 entered: its level, and the spindle's stop. -/
theorem State.enterPs_four (hpark : s.allParked = true) (hclean : s.vaultFitted = true ∨ s.dirtyGranules = 0) :
    (s.enterPs 4 id).dev.ps = 4 ∧ (s.enterPs 4 id).dev.lastOp = s.dev.lastOp ∧ (s.enterPs 4 id).capLevel = 3
      ∧ (s.takes .spn = true → s.spMode ≠ spStopped →
          (s.enterPs 4 id).dev.psStopped = true ∧ (s.enterPs 4 id).spMode = s.spStop.spMode) := by
  have heq : s.enterPs 4 id = (s.psSet 4 s.dev.lastOp 3 none).psStop.lifePersist := by
    rw [State.enterPs_parked (by decide) id hpark (hclean.imp_right .inl), if_neg (by decide), id]
  obtain ⟨hcap, hregs, honly⟩ := s.psSet_spec 4 s.dev.lastOp (l := 3) (by decide) none
  rw [heq]
  generalize s.psSet 4 s.dev.lastOp 3 none = x at *
  obtain ⟨hsps, hslast, hscap, hstop⟩ := x.psStop_spec
  have hlife := x.psStop.lifePersist_only
  generalize x.psStop = y at *
  have hydev : y.lifePersist.dev = y.dev := by rw [hlife]
  have hyreg : ∀ u f, y.lifePersist.f u f = y.f u f := fun u f => by
    rw [hlife]
    rfl
  have hps4 : x.dev.ps = 4 := by rw [honly]
  have hlast4 : x.dev.lastOp = s.dev.lastOp := by rw [honly]
  have hmode : x.spMode = s.spMode := hregs.f (f := F.SPN_STAT_MODE) (by decide) (by simp)
  have htakes : x.takes .spn = s.takes .spn := congrArg (· == stIdle) (hregs.f (u := .spn) (f := F.UNIT_STAT_STATE) (by decide) (by simp))
  have hspin : x.spStop.spMode = s.spStop.spMode := by
    rw [State.spStop_mode, State.spStop_mode]
    exact State.stopMode_congr fun o ho => hregs .spn o ho (by simp)
  generalize y.lifePersist = r at *
  refine ⟨(congrArg Device.ps hydev).trans (hsps.trans hps4), (congrArg Device.lastOp hydev).trans (hslast.trans hlast4),
    (hyreg .dev F.DEV_PWR_CAP_LEVEL).trans (hscap.trans hcap), fun ht hm => ?_⟩
  obtain ⟨hstopped, hymode⟩ := hstop (htakes.trans ht) (by rw [hmode]; exact hm)
  exact ⟨(congrArg Device.psStopped hydev).trans hstopped, (hyreg .spn F.SPN_STAT_MODE).trans (hymode.trans hspin)⟩

/-- The power state is wanted, and the lanes in closed loop are to load again after it. -/
def State.wantPs (s : State) (ps : Nat) : State :=
  { s with dev := { s.dev with psWanted := some ps, psParked := s.loadedLanes.foldl addOnce s.dev.psParked } }

/-- Until the heads are on their ramps, they unload. -/
theorem State.enterPs_unloads (ok : State → State) (hpark : s.allParked = false) : s.enterPs 3 ok = (s.wantPs 3).unloadAll.wait := by
  unfold State.enterPs
  dsimp only
  rw [if_neg (by decide), if_neg (by simp), if_pos (by simp [hpark])]
  rfl

/-- What an operational state leaves: itself with its level, and where no medium was stopped or parked, nothing else. -/
theorem State.wakePs_spec (s : State) {ps : Nat} (hps : ps < 3) : (s.psSet ps ps ps none).wakeMedia.dev.ps = ps
    ∧ (s.psSet ps ps ps none).wakeMedia.dev.lastOp = ps ∧ (s.psSet ps ps ps none).wakeMedia.capLevel = ps
    ∧ (s.dev.psStopped = false → s.dev.psParked = [] → s.capLevel ≤ ps →
        RegsBut s (s.psSet ps ps ps none).wakeMedia [(.dev, Reg.DEV_PWR_CAP)]
          ∧ (s.psSet ps ps ps none).wakeMedia
              = { s with regs := (s.psSet ps ps ps none).wakeMedia.regs, dev := (s.psSet ps ps ps none).wakeMedia.dev }) := by
  have hlevel : ps < 4 := Nat.lt_succ_of_lt hps
  obtain ⟨hcap, hregs, honly⟩ := s.psSet_spec ps ps hlevel none
  have htight := State.psSet_tighter (s := s) ps ps hlevel none
  generalize s.psSet ps ps ps none = x at *
  obtain ⟨hwps, hwlast, hwcap⟩ := x.wakeMedia_keeps
  have hxps : x.dev.ps = ps := by rw [honly]
  have hxlast : x.dev.lastOp = ps := by rw [honly]
  refine ⟨hwps.trans hxps, hwlast.trans hxlast, hwcap.trans hcap, fun hstop hpark hle => ?_⟩
  have hxstop : x.dev.psStopped = false := by rw [honly]; exact hstop
  have hxpark : x.dev.psParked = [] := by rw [honly]; exact hpark
  rw [State.wakeMedia_idle hxstop hxpark]
  refine ⟨hregs, ?_⟩
  rw [htight hle]
  rfl

/-- SET_POWER_MANAGEMENT of an operational state, by a controller that serves. -/
theorem State.setPower_operational {fn ps : Nat} (hserves : s.ctrlServes fn = true) (hchr : s.svcs.chrysalis = false) (hps : ps < 3) :
    s.admin fn (s.setPower ps) = ((s.psSet ps ps ps none).wakeMedia).answer (.status .success) := by
  unfold State.admin State.setPower
  rw [hserves, State.when_true, if_neg (by rw [hchr]; nofun), if_neg (by omega)]
  exact State.enterPs_operational hps _

/-- APST_TRANSITION to a state that the device is not in yet. -/
theorem State.apst_when {ps : Nat} (hps : ps = 3 ∨ ps = 4) (hlt : s.dev.ps < ps) (hchr : s.svcs.chrysalis = false) :
    s.when (decide ((ps = 3 ∨ ps = 4) ∧ s.dev.ps < ps) && !s.svcs.chrysalis) t = t := by
  rw [decide_eq_true (show (ps = 3 ∨ ps = 4) ∧ s.dev.ps < ps from ⟨hps, hlt⟩), hchr]
  rfl

/-- Settles O15: each command sets the power state and its level, and then wakes or stops the media. -/
theorem powerStates : Obligations.PowerStates := by
  refine ⟨?_, ?_, ?_, ?_, ?_⟩
  · intro s eng v hr hreset
    have hval : F.DEV_PWR_CAP_LEVEL.get v = v.toNat % 4 := by simp [Field.get, BitVec.extractLsb'_toNat]
    have hlt : v.toNat % 4 < 4 := Nat.mod_lt _ (by decide)
    have heq : (s.answer .none).capWrite v = (s.answer .none).setCapLevel (v.toNat % 4) := by rw [State.capWrite, hval]
    obtain ⟨hregs, honly⟩ := (s.answer .none).setCapLevel_only (v.toNat % 4)
    refine Completes.of_access (f := fun s => s.capWrite v) hr hreset (exec_pwrCapWrite eng v s) ?_ ?_ ?_
    · rw [heq, honly]
      rfl
    · rw [heq, honly]
      rfl
    · rw [heq]
      refine ⟨State.setCapLevel_cap _ hlt, fun hle => ⟨hregs, ?_⟩, fun hgt => ?_⟩
      · rw [State.setCapLevel_tighter (s := s.answer .none) hlt hle]
        rfl
      · rw [State.setCapLevel_looser (s := s.answer .none) hlt hgt]
        have hset : (s.answer .none).setF .dev F.DEV_PWR_CAP_LEVEL (v.toNat % 4)
            = (s.setF .dev F.DEV_PWR_CAP_LEVEL (v.toNat % 4)).answer .none := rfl
        rw [hset, State.refillAll_answer]
        generalize (s.setF .dev F.DEV_PWR_CAP_LEVEL (v.toNat % 4)).refillAll = r
        rfl
  · intro s fn ps hr hserves hchr hps
    obtain ⟨hwps, hwlast, hwcap, hidle⟩ := (s.answer .none).wakePs_spec hps
    refine Completes.of_run hr (exec_setPowerManagement fn ps s) (State.setPower_operational (s := s.answer .none) hserves hchr hps) ?_
    generalize State.wakeMedia _ = r at *
    refine ⟨hwps, hwlast, hwcap, rfl, fun hstop hpark hle => ?_⟩
    obtain ⟨hregs, honly⟩ := hidle hstop hpark hle
    refine ⟨hregs, ?_⟩
    rw [honly]
    rfl
  · intro s hr hchr hps hpark
    have hle : (s.answer .none).capLevel ≤ 3 := Nat.le_of_lt_succ (State.capLevel_lt _)
    have heq := (State.apst_when (s := s.answer .none) (t := (s.answer .none).enterPs 3 id) (.inl rfl) hps hchr).trans
      ((State.enterPs_parked (s := s.answer .none) (Nat.le_refl 3) id hpark (.inr (.inr (by decide)))).trans
        (State.psSet_tighter (s := s.answer .none) 3 s.dev.lastOp (l := 3) (by decide) none hle))
    refine Completes.of_result hr (exec_apstTransition 3 s) heq ⟨rfl, rfl, State.setLevel_cap _ (by decide), ?_, rfl⟩ rfl
    exact RegsBut.setF _ .dev F.DEV_PWR_CAP_LEVEL 3 (by decide)
  · intro s hr hchr hps hpark hclean
    obtain ⟨hps4, hlast, hcap, hstop⟩ := State.enterPs_four (s := s.answer .none) hpark hclean
    have hspin : (s.answer .none).spStop.spMode = s.spStop.spMode := by
      rw [State.spStop_mode, State.spStop_mode]
      exact State.stopMode_congr fun _ _ => rfl
    rw [hspin] at hstop
    refine Completes.of_run hr (exec_apstTransition 4 s) (State.apst_when (s := s.answer .none) (.inr rfl) hps hchr) ?_
    generalize (s.answer .none).enterPs 4 id = r at *
    exact ⟨hps4, hlast, hcap, hstop⟩
  · intro s hr hchr hps hpark
    have heq := (State.apst_when (s := s.answer .none) (t := (s.answer .none).enterPs 3 id) (.inl rfl) hps hchr).trans
      (State.enterPs_unloads (s := s.answer .none) id hpark)
    have hreach := ((s.answer .none).wantPs 3).unloadAll_reach
    have hmode := fun n => ((s.answer .none).wantPs 3).unloadAll_mode n
    refine Completes.of_run hr (exec_apstTransition 3 s) heq ?_
    generalize ((s.answer .none).wantPs 3).unloadAll = r at *
    refine ⟨?_, rfl, hmode⟩
    exact (congrArg Device.ps hreach.dev).trans rfl

end Sys2Proof.Machine

/-! SUPPORT. The dispatches of a lane: what a fetch takes off its ring, what a refused and an admitted descriptor leave, cancels and
their acknowledgements, and reports that are stale. -/

namespace Sys2Proof.Machine

variable {s t : State}

theorem exec_dispatchFetch (n : Fin 4) (s : State) : exec (.dispatchFetch n) s = done s (fun s => s.dispatchFetch n) := rfl
theorem exec_cancelReceive (n : Fin 4) (slot : Nat) (s : State) :
    exec (.cancelReceive n slot) s = done s (fun s => s.cancelReceive n slot) := rfl
theorem exec_cancelAck (n : Fin 4) (slot : Nat) (s : State) : exec (.cancelAck n slot) s = done s (fun s => s.cancelAck n slot) := rfl
theorem exec_reportWrite (n : Fin 4) (s : State) : exec (.reportWrite n) s = done s (fun s => s.reportTaken n) := rfl

/-! ### A descriptor taken off the ring (R76 to R80) -/

/-- A lane that may fetch holds no dispatch unstarted and no report unwritten. -/
theorem State.fetchReady_idle {n : Fin 4} (h : s.fetchReady n = true) : (s.lane n).next = none ∧ (s.lane n).reports = [] := by
  simp only [State.fetchReady, Bool.and_eq_true, Option.isNone_iff_eq_none, beq_iff_eq] at h
  obtain ⟨⟨⟨⟨⟨-, hnext⟩, hreports⟩, -⟩, -⟩, -⟩ := h
  exact ⟨hnext, hreports⟩

/-- The state in which a lane handles descriptor `d`: its epoch is stamped and the ring has advanced. -/
def State.fetched (s : State) (n : Fin 4) (d : Disp) : State :=
  let s2 := (s.writeStamp n d).setReg (.lane n) Reg.LN_DQ_HEAD (BitVec.ofNat 32 (((s.dq n).head + 1) % (s.dq n).size))
  s2.setLane n { s2.lane n with nextId := (s2.lane n).nextId + 1 }

/-- A lane that may fetch and is not held takes a descriptor that it refuses or that need not wait. -/
theorem State.dispatchFetch_takes {n : Fin 4} (hready : s.fetchReady n = true) (hheld : s.fetchHeld = false)
    (hgo : s.badDescriptor n (s.nextDescriptor n) = true ∨ s.fetchWaits (s.nextDescriptor n) = false) :
    s.dispatchFetch n = (s.fetched n (s.nextDescriptor n)).takeDescriptor n (s.nextDescriptor n) := by
  have hnow : (s.fetchHeld || (!s.badDescriptor n (s.nextDescriptor n) && s.fetchWaits (s.nextDescriptor n))) = false := by
    rw [hheld]
    obtain h | h := hgo <;> simp [h]
  exact (if_neg (by rw [hready]; nofun)).trans (if_neg (by rw [hnow]; nofun))

/-- While the lanes are held a fetch waits (R513). -/
theorem State.dispatchFetch_held {n : Fin 4} (hready : s.fetchReady n = true) (hheld : s.fetchHeld = true) :
    s.dispatchFetch n = s.wait :=
  (if_neg (by rw [hready]; nofun)).trans (if_pos (by rw [hheld]; rfl))

/-- The epoch's byte of the descriptor in the ring (R77). -/
def State.stampAddr (s : State) (n : Fin 4) : Nat := (s.reg (.lane n) Reg.LN_DQ_BASE).toNat + 64 * (s.dq n).head + 6

/-- A stamp writes one byte of the descriptor. -/
theorem State.writeStamp_spec (s : State) (n : Fin 4) (d : Disp) : (∀ a, a ≠ s.stampAddr n → (s.writeStamp n d).byte a = s.byte a)
    ∧ s.writeStamp n d = { s with mem := (s.writeStamp n d).mem, lines := (s.writeStamp n d).lines } := by
  unfold State.writeStamp
  split
  · exact ⟨fun _ _ => rfl, rfl⟩
  · exact ⟨fun a ha => (State.byte_setByte _ _ _ _).trans (if_neg ha), rfl⟩

/-- A descriptor taken off the ring: the ring's head, the byte stamped, and nothing else but the lane's count of descriptors. -/
theorem State.fetched_spec (s : State) (n : Fin 4) (d : Disp) :
    (s.fetched n d).reg (.lane n) Reg.LN_DQ_HEAD = BitVec.ofNat 32 (((s.dq n).head + 1) % (s.dq n).size)
      ∧ RegsBut s (s.fetched n d) [(.lane n, Reg.LN_DQ_HEAD)]
      ∧ (∀ a, a ≠ s.stampAddr n → (s.fetched n d).byte a = s.byte a)
      ∧ (s.fetched n d).lane n = { s.lane n with nextId := (s.lane n).nextId + 1 }
      ∧ s.fetched n d = { s with mem := (s.writeStamp n d).mem, lines := (s.writeStamp n d).lines, regs := (s.fetched n d).regs,
                                 lanes := (s.fetched n d).lanes } := by
  obtain ⟨hbyte, honly⟩ := s.writeStamp_spec n d
  have hregs : RegsBut s (s.writeStamp n d) [(.lane n, Reg.LN_DQ_HEAD)] := .of_regs (by rw [honly])
  have hlane : (s.writeStamp n d).lane n = s.lane n := by rw [honly]; rfl
  refine ⟨State.reg_setReg_same _ _ _ _, hregs.trans (RegsBut.setReg _ (.lane n) (by decide) _), hbyte, ?_, ?_⟩
  · rw [State.fetched, State.lane_setLane_same]
    exact congrArg (fun l : Lane => { l with nextId := l.nextId + 1 }) hlane
  · unfold State.fetched
    rw [honly]
    rfl

/-- What the lane makes of a descriptor depends on the channel's profiles and on nothing that the fetch changes (R78). -/
theorem State.badDescriptor_fetched (s : State) (n : Fin 4) (d e : Disp) : (s.fetched n e).badDescriptor n d = s.badDescriptor n d := by
  have hprof : (s.fetched n e).reg (.chn n) (Reg.CHN_RPROF + 4 * d.rprof) = s.reg (.chn n) (Reg.CHN_RPROF + 4 * d.rprof) := by
    have hlt : d.rprof < 8 := BitVec.isLt _
    exact (s.fetched_spec n e).2.1 _ _ (by simp only [Reg.CHN_RPROF]; omega) (by simp)
  simp only [State.badDescriptor, hprof]

/-- A refused descriptor is not stamped. -/
theorem State.fetched_refused {n : Fin 4} {d : Disp} (h : s.badDescriptor n d = true) :
    s.fetched n d = { s with regs := (s.fetched n d).regs, lanes := (s.fetched n d).lanes } := by
  have hstamp : s.writeStamp n d = s := if_pos h
  unfold State.fetched
  rw [hstamp]
  rfl

/-- The heads that refuse a dispatch are those of `s` (R91). -/
theorem State.headRefuses_congr (h : t.heads = s.heads) (d : Disp) : t.headRefuses d = s.headRefuses d := by
  simp only [State.headRefuses, State.headFailed, State.headWrInh, State.headData, h]

/-- A dispatch that its head lets through waits in the lane to start (R91). -/
theorem State.admitDisp_of_head {d : Disp} (n : Fin 4) (h : s.headRefuses d = false) :
    s.admitDisp n d = s.setLane n { s.lane n with next := some d } := if_neg (by rw [h]; nofun)

/-- A refused descriptor is reported with status 4, and CONFIG is set (R78). -/
theorem State.takeDescriptor_refused {n : Fin 4} {d : Disp} (h : s.badDescriptor n d = true) (hleg : d.leg = false) :
    s.takeDescriptor n d = (s.err (.lane n) eConfig).setLane n { s.lane n with
      reports := (s.lane n).reports ++ [⟨d.slot, d.epoch, d.head, d.first, 0, d.notDelivered, 4, 0, false, none⟩] } :=
  (if_pos h).trans (if_neg (by rw [hleg]; nofun))

/-- A descriptor of mode 00b of an open slot is stamped with the slot's epoch and admitted (R80). -/
theorem State.takeDescriptor_mode0 {n : Fin 4} {d : Disp} (h : s.badDescriptor n d = false) (hopen : (s.slotState d.slot).isOpen = true)
    (hmode : d.mode = 0) : s.takeDescriptor n d = s.admitDisp n (d.stamp (s.epoch d.slot)) :=
  (if_neg (by rw [h]; nofun)).trans ((if_neg (by rw [hopen]; nofun)).trans (if_pos hmode))

/-- A descriptor of mode 01b of an open slot advances the slot's epoch first (R80). -/
theorem State.takeDescriptor_mode1 {n : Fin 4} {d : Disp} (h : s.badDescriptor n d = false) (hopen : (s.slotState d.slot).isOpen = true)
    (hmode : d.mode = 1) : s.takeDescriptor n d
      = (s.advanceEpoch d.slot).admitDisp n (d.stamp ((s.advanceEpoch d.slot).epoch d.slot)) :=
  (if_neg (by rw [h]; nofun)).trans ((if_neg (by rw [hopen]; nofun)).trans
    ((if_neg (by rw [hmode]; nofun)).trans (if_pos hmode)))

/-- A descriptor of mode 00b never waits at the head of the ring (R83). -/
theorem State.fetchWaits_mode0 {d : Disp} (h : d.mode = 0) : s.fetchWaits d = false := by
  simp [State.fetchWaits, h]

/-! ### The advance of an epoch (R80) -/

theorem State.ddNext_cmd (s : State) (m : Fin 4) : (s.ddNext m).cmd = s.cmd := by
  unfold State.ddNext
  dsimp only
  split
  · rfl
  · split
    · rfl
    · split <;> rfl

theorem State.releaseOn_cmd (s : State) (m : Fin 4) (p : Pin → Bool) : (s.releaseOn m p).cmd = s.cmd := by
  unfold State.releaseOn
  dsimp only
  split
  · exact State.ddNext_cmd _ m
  · rfl

theorem State.classify_cmd (s : State) (m : Fin 4) (r : SectRef) (b : Bool) : (s.classify m r b).cmd = s.cmd := by
  unfold State.classify
  split
  · split <;> rfl
  · rfl

/-- What each step of a fold leaves, the fold leaves. -/
theorem foldl_keeps {α β : Type} (g : State → β) {f : State → α → State} (h : ∀ s a, g (f s a) = g s) (l : List α) :
    ∀ s, g (l.foldl f s) = g s := by
  induction l with
  | nil => exact fun _ => rfl
  | cons a t ih => exact fun s => (ih _).trans (h s a)

/-- The slot's epoch is one more, mod 256 (R80). -/
theorem State.advanceEpoch_epoch (s : State) (i : Nat) : (s.advanceEpoch i).epoch i = (s.epoch i + 1) % 256 := by
  have hreleased : ∀ (p : Pin → Bool) (l : List (Fin 4)) (u : State), (l.foldl (fun t n => t.releaseOn n p) u).cmd = u.cmd := fun p =>
    foldl_keeps State.cmd (fun t n => t.releaseOn_cmd n p)
  have hclassed : ∀ (pins : Fin 4 → List Pin) (l : List (Fin 4)) (u : State),
      (l.foldl (fun t n => (pins n).foldl (fun u x => u.classify n x.ref false) t) u).cmd = u.cmd := fun pins =>
    foldl_keeps State.cmd fun t n =>
      foldl_keeps (f := fun (u : State) (x : Pin) => u.classify n x.ref false) State.cmd
        (fun u x => u.classify_cmd n x.ref false) (pins n) t
  unfold State.advanceEpoch
  dsimp only
  rw [State.epoch, hreleased, hclassed, Sparse.get_set, if_pos rfl]

/-! ### Cancels (R80) -/

@[simp] theorem State.setLane_self (s : State) (n : Fin 4) : s.setLane n (s.lane n) = s := by
  simp [State.setLane, State.lane]

/-- A lane without ended dispatches forms no report. -/
theorem State.reportSettled_nil {n : Fin 4} (h : (s.lane n).tails = []) : s.reportSettled n = s := by
  have hl : { s.lane n with tails := (s.lane n).tails.filter (fun d => !d.allSettled) } = s.lane n := by
    generalize s.lane n = l at h
    cases l
    cases h
    rfl
  unfold State.reportSettled
  simp only [h, List.filter_nil, List.foldl_nil]
  rw [h] at hl
  exact (congrArg (s.setLane n) hl).trans (s.setLane_self n)

/-- A lane without reports discards none. -/
theorem State.dropStaleReports_nil {n : Fin 4} (slot : Nat) (h : (s.lane n).reports = []) : s.dropStaleReports n slot = s := by
  have hl : { s.lane n with reports := [] } = s.lane n := by
    generalize s.lane n = l at h
    cases l
    cases h
    rfl
  unfold State.dropStaleReports
  simp only [h, List.filter_nil, List.foldl_nil]
  exact (congrArg (s.setLane n) hl).trans (s.setLane_self n)

/-- A cancel at a lane that holds neither an unstarted dispatch, an ended one nor a report: it is noted for the work in progress if that
is stale, and acknowledged if not. -/
theorem State.cancelReceive_running {n : Fin 4} {slot : Nat} (howes : s.owes n slot = true) (hnext : (s.lane n).next = none)
    (htails : (s.lane n).tails = []) (hreports : (s.lane n).reports = []) :
    s.cancelReceive n slot = if (s.lane n).cur.any (s.staleDisp slot) then s.setLane n { s.lane n with cancelSeen := true }
      else s.ackCancels n slot := by
  have hquiet : (s.reportSettled n).dropStaleReports n slot = s := by
    rw [State.reportSettled_nil htails, State.dropStaleReports_nil slot hreports]
  unfold State.cancelReceive
  rw [howes]
  simp only [hnext, hquiet, htails, List.any_nil, Bool.not_true, Bool.false_eq_true, if_false]
  cases (s.lane n).cur <;> rfl

/-- An acknowledgement answers every cancel that the lane owes for the slot, and changes the cancels alone. -/
theorem State.ackCancels_spec (s : State) (n : Fin 4) (slot : Nat) : (s.ackCancels n slot).owes n slot = false
    ∧ s.ackCancels n slot = { s with cmd := { s.cmd with cancels := (s.ackCancels n slot).cmd.cancels } } := by
  refine ⟨?_, rfl⟩
  simp only [State.owes, State.ackCancels, List.any_eq_false, List.mem_filter, List.mem_map]
  rintro c ⟨⟨x, -, rfl⟩, -⟩
  by_cases hx : (x.slot == slot) = true
  · simp [hx]
  · simp [hx]

/-- With no stale work of the slot in the lane, an acknowledgement is given. -/
theorem State.cancelAck_idle {n : Fin 4} {slot : Nat} (howes : s.owes n slot = true)
    (hidle : ((s.lane n).next.toList ++ (s.lane n).cur.toList).any (s.staleDisp slot) = false) :
    s.cancelAck n slot = s.ackCancels n slot := by
  unfold State.cancelAck
  rw [howes, hidle]
  rfl

/-! ### Reports (R79) -/

/-- A stale report is counted and dropped, and may acknowledge the cancel that made it stale. -/
theorem State.reportTaken_stale {n : Fin 4} {r : Report} {rest : List Report} (h : (s.lane n).reports = r :: rest)
    (hstale : s.staleReport r = true) :
    let u := (s.setLane n { s.lane n with reports := rest }).countSat (.lane n) Reg.LN_EPOCH_DISC
    s.reportTaken n = u ∨ s.reportTaken n = u.ackCancels n r.slot := by
  simp only [State.reportTaken, State.reportWrite, h, hstale, Bool.true_or, if_true]
  split
  · exact .inl rfl
  · exact .inr rfl

end Sys2Proof.Machine

/-! SUPPORT. Firmware's work on media: it changes what the hosts' side keeps and nothing else, and depends on that, on the command engine
and on the heads alone. -/

namespace Sys2Proof.Machine

/-- Firmware's work on media sees the same in both states. -/
def SameMedia (s t : State) : Prop := t.hosts = s.hosts ∧ t.cmd = s.cmd ∧ t.heads = s.heads

/-- An operation of firmware on media: what it changes, and on what that depends. -/
structure MediaOp (f : State → State) : Prop where
  only : ∀ s, f s = { s with hosts := (f s).hosts }
  congr : ∀ s t, SameMedia s t → (f t).hosts = (f s).hosts

theorem MediaOp.same {f : State → State} (h : MediaOp f) {s t : State} (hst : SameMedia s t) : SameMedia (f s) (f t) := by
  refine ⟨h.congr s t hst, ?_, ?_⟩
  · rw [h.only s, h.only t]
    exact hst.2.1
  · rw [h.only s, h.only t]
    exact hst.2.2

theorem MediaOp.id : MediaOp (fun s => s) := ⟨fun _ => rfl, fun _ _ h => h.1⟩

/-- One operation after another. -/
theorem MediaOp.comp {f g : State → State} (hg : MediaOp g) (hf : MediaOp f) : MediaOp (fun s => g (f s)) where
  only s := by rw [hg.only, hf.only]
  congr s t h := hg.congr _ _ (hf.same h)

/-- An operation picked by something that both states agree on. -/
theorem MediaOp.pick {α : Type} {g : State → α} {f : α → State → State} (hg : ∀ s t, SameMedia s t → g t = g s)
    (hf : ∀ a, MediaOp (f a)) : MediaOp (fun s => f (g s) s) where
  only s := (hf _).only s
  congr s t h := by rw [hg s t h]; exact (hf _).congr s t h

/-- An operation for each element of a list in turn. -/
theorem MediaOp.foldl {α : Type} {f : State → α → State} (h : ∀ a, MediaOp (fun s => f s a)) (l : List α) :
    MediaOp (fun s => l.foldl f s) := by
  induction l with
  | nil => exact .id
  | cons a t ih => exact ih.comp (h a)

/-- One of two operations, by a condition that both states agree on. -/
theorem MediaOp.ite {c : State → Prop} [∀ s, Decidable (c s)] {f g : State → State} (hc : ∀ s t, SameMedia s t → (c t ↔ c s))
    (hf : MediaOp f) (hg : MediaOp g) : MediaOp (fun s => if c s then f s else g s) where
  only s := by
    split
    · exact hf.only s
    · exact hg.only s
  congr s t h := by
    by_cases hs : c s
    · rw [if_pos hs, if_pos ((hc s t h).mpr hs)]
      exact hf.congr s t h
    · rw [if_neg hs, if_neg (fun ht => hs ((hc s t h).mp ht))]
      exact hg.congr s t h

/-! ### What they see -/

section same

variable {s t : State}

theorem SameMedia.place (h : SameMedia s t) : t.place = s.place := congrArg Hosts.place h.1

theorem SameMedia.zone (h : SameMedia s t) (n z : Nat) : t.zone n z = s.zone n z := by simp only [State.zone, h.1]

theorem SameMedia.dirtyCount (h : SameMedia s t) : t.dirtyCount = s.dirtyCount := by
  simp only [State.dirtyCount, State.reservedGranules, State.dirtyGranules, h.2.1]

theorem SameMedia.headState (h : SameMedia s t) (x : Nat) : t.headState x = s.headState x := by
  simp only [State.headState, State.headData, h.2.2]

theorem SameMedia.surfaceLost (h : SameMedia s t) : t.surfaceLost = s.surfaceLost := by
  funext x
  simp only [State.surfaceLost, State.twinsFailed, h.headState]

theorem SameMedia.readOnlySurface (h : SameMedia s t) (x : Nat) : t.readOnlySurface x = s.readOnlySurface x := by
  simp only [State.readOnlySurface, State.headWrites, h.headState, h.surfaceLost, State.headData, h.2.2]

theorem SameMedia.newest (h : SameMedia s t) (n : Namespace) (lba : Nat) : t.newest n lba = s.newest n lba := by
  simp only [State.newest, h.2.1, h.place, h.zone]

theorem SameMedia.movesTo (h : SameMedia s t) (n : Namespace) (z : Nat) (b : Band) : t.movesTo n z b = s.movesTo n z b := by
  simp only [State.movesTo, h.zone, h.readOnlySurface]

theorem SameMedia.bandAt (h : SameMedia s t) (a b : Nat) : t.bandAt a b = s.bandAt a b := by simp only [State.bandAt, h.1]

theorem SameMedia.ns? (h : SameMedia s t) (n : Nat) : t.ns? n = s.ns? n := by simp only [State.ns?, h.1]

end same

/-! ### The operations -/

theorem MediaOp.setPlace (p : Place) : MediaOp (fun s => s.setPlace p) := ⟨fun _ => rfl, fun _ _ h => by simp only [State.setPlace, h.1]⟩

theorem MediaOp.setZone (n z : Nat) (x : Zone) : MediaOp (fun s => s.setZone n z x) :=
  ⟨fun _ => rfl, fun _ _ h => by simp only [State.setZone, h.1]⟩

theorem MediaOp.takeSlot (n lba : Nat) (r : Bool) : MediaOp (fun s => s.takeSlot n lba r) :=
  ⟨fun s => s.takeSlot_only n lba r, fun _ _ h => State.takeSlot_congr h.1 h.2.1 n lba r⟩

theorem MediaOp.releaseSlots (p : Realloc → Bool) : MediaOp (fun s => s.releaseSlots p) :=
  ⟨fun _ => rfl, fun _ _ h => by simp only [State.releaseSlots, h.place, h.1]⟩

/-- The move of a zone's blocks (R299). -/
theorem MediaOp.moveZone (n : Namespace) (z : Nat) (st : ZState) : MediaOp (fun s => s.moveZone n z st) := by
  have htake : ∀ k : Nat, MediaOp (fun s : State => match s.newest n (z * zoneSize + k) with
      | .buffer _ => s.takeSlot n.nsid (z * zoneSize + k) true
      | _ => s) := fun k =>
    MediaOp.pick (f := fun (o : Source) (s : State) => match o with
      | .buffer _ => s.takeSlot n.nsid (z * zoneSize + k) true
      | _ => s) (fun _ _ h => h.newest n _) fun o => by
        cases o
        · exact .takeSlot _ _ _
        · exact .id
        · exact .id
  have hzone : MediaOp (fun s : State => s.setZone n.nsid z { s.zone n.nsid z with st := st }) :=
    MediaOp.pick (f := fun x s => s.setZone n.nsid z { x with st := st }) (fun _ _ h => h.zone _ _) fun x => .setZone _ _ _
  exact MediaOp.pick (g := fun s => s.zone n.nsid z) (f := fun (x : Zone) (s : State) =>
      let blocks := ((List.range (x.accepted - x.mp)).map (fun i => x.mp + i)).filter (fun k => !x.isVoid k)
      let s1 := blocks.foldl (fun t k => match t.newest n (z * zoneSize + k) with
        | .buffer _ => t.takeSlot n.nsid (z * zoneSize + k) true
        | _ => t) s
      if blocks.all (fun k => (s1.place.slotOf n.nsid (z * zoneSize + k)).isSome)
      then s1.setZone n.nsid z { s1.zone n.nsid z with st := st }
      else s1) (fun _ _ h => h.zone _ _) fun x =>
    MediaOp.comp (g := fun s1 : State =>
      if (((List.range (x.accepted - x.mp)).map (fun i => x.mp + i)).filter (fun k => !x.isVoid k)).all
          (fun k => (s1.place.slotOf n.nsid (z * zoneSize + k)).isSome) then s1.setZone n.nsid z { s1.zone n.nsid z with st := st }
      else s1) (MediaOp.ite (fun _ _ h => by rw [h.place]) hzone .id) (MediaOp.foldl htake _)

/-- One band's zone is moved where its state calls for it (R299). -/
theorem MediaOp.moveIfDue (n : Namespace) (e : Band × Nat) : MediaOp (fun u : State =>
    match u.movesTo n e.2 e.1 with
    | some st => u.moveZone n e.2 st
    | none => u) :=
  MediaOp.pick (g := fun u => u.movesTo n e.2 e.1) (f := fun (o : Option ZState) u =>
      match o with
      | some st => u.moveZone n e.2 st
      | none => u) (fun _ _ h => h.movesTo n _ _) fun o => by
    cases o with
    | none => exact .id
    | some st => exact .moveZone n _ st

/-- An operation for every namespace, for each band of it. -/
theorem MediaOp.eachBand {f : State → Namespace → Band × Nat → State} (h : ∀ n e, MediaOp (fun u => f u n e)) :
    MediaOp (fun s => s.hosts.namespaces.foldl (fun t n => n.bands.zipIdx.foldl (fun u e => f u n e) t) s) :=
  MediaOp.pick (g := fun s => s.hosts.namespaces)
    (f := fun (l : List Namespace) s => l.foldl (fun t n => n.bands.zipIdx.foldl (fun u e => f u n e) t) s)
    (fun _ _ h => congrArg Hosts.namespaces h.1) fun l => MediaOp.foldl (fun n => MediaOp.foldl (h n) _) l

theorem MediaOp.moveZones : MediaOp State.moveZones := MediaOp.eachBand MediaOp.moveIfDue

/-- A compaction's commit (R307). -/
theorem MediaOp.commitComp : MediaOp State.commitComp where
  only s := by
    unfold State.commitComp
    split
    · rfl
    · split
      · rfl
      · split
        · rfl
        · split <;> rfl
  congr s t h := by
    unfold State.commitComp
    rw [h.place]
    cases s.place.comp with
    | none => exact h.1
    | some c =>
      dsimp only
      rw [h.ns?]
      cases s.ns? c.nsid with
      | none => exact h.1
      | some n =>
        dsimp only
        cases n.bands[c.lband]? with
        | none => exact h.1
        | some old =>
          dsimp only
          split
          · exact h.1
          · simp only [State.setZone, State.releaseSlots, State.setPlace, State.place, h.1]

/-- A compaction's beginning (R307). -/
theorem MediaOp.beginComp : MediaOp State.beginComp where
  only s := by
    unfold State.beginComp
    split
    · split
      · rfl
      · dsimp only
        split <;> rfl
    · rfl
  congr s t h := by
    unfold State.beginComp
    rw [h.place]
    split
    · rw [h.ns?]
      split
      · exact h.1
      · dsimp only
        split
        · exact h.1
        · exact (MediaOp.setPlace _).congr s t h
    · exact h.1

/-- What firmware looks at after a change (R299, R307, R308). -/
theorem MediaOp.mediaLook (idle : Bool) : MediaOp (fun s => s.mediaLook idle) :=
  MediaOp.comp (g := fun t : State => if t.compDue idle then t.beginComp else t)
    (.ite (fun _ _ h => by rw [State.compDue, State.compDue, h.place]) .beginComp .id) (MediaOp.commitComp.comp .moveZones)

/-! ### A report taken by firmware (R79, R92, R295, R301, R306, R307) -/

/-- A block written into a zone's band (R92, R295). -/
theorem MediaOp.zoneWrote (n : Namespace) (z : Nat) (b : Band) (head track sector : Nat) :
    MediaOp (fun s => s.zoneWrote n z b head track sector) where
  only _ := rfl
  congr s t h := by
    have hblock : t.blockIn n.nsid z b track sector = s.blockIn n.nsid z b track sector := by simp only [State.blockIn, h.zone]
    simp only [State.zoneWrote, hblock, h.zone, State.setZone, h.1]

/-- A block written into the band that a compaction fills (R307). -/
theorem MediaOp.compWrote (c : Compaction) (track sector : Nat) : MediaOp (fun s => s.compWrote c track sector) :=
  .ite (fun _ _ _ => Iff.rfl)
    (MediaOp.pick (f := fun (p : Place) s => s.setPlace { p with comp := some { c with done := c.done + 1 } }) (fun _ _ h => h.place)
      fun _ => .setPlace _) .id

/-- A sector reported written (R295, R301, R306, R307). -/
theorem MediaOp.wrote (fresh : Bool) (head track sector handle : Nat) : MediaOp (fun s => s.wrote fresh head track sector handle) where
  only s := by
    unfold State.wrote
    dsimp only
    split
    · split <;> rfl
    · split
      · rfl
      · split
        · exact (MediaOp.compWrote _ _ _).only s
        · split <;> rfl
  congr s t h := by
    have hblock : t.blockOf handle = s.blockOf handle := by simp only [State.blockOf, h.2.1]
    unfold State.wrote
    dsimp only
    rw [h.place, hblock, h.bandAt]
    split
    · split
      · exact (MediaOp.setPlace _).congr s t h
      · exact h.1
    · split
      · exact (MediaOp.setPlace _).congr s t h
      · split
        · exact (MediaOp.compWrote _ _ _).congr s t h
        · split
          · exact (MediaOp.zoneWrote _ _ _ _ _ _).congr s t h
          · exact h.1

/-- The sectors of a report, the first of which begins a run (R306). -/
theorem MediaOp.wroteAll (head track : Nat) (sector handle : Nat → Nat) (l : List Nat) : ∀ fresh : Bool, MediaOp (fun s =>
    (l.foldl (fun (a : Bool × State) i => (false, a.2.wrote a.1 head track (sector i) (handle i))) (fresh, s)).2) := by
  induction l with
  | nil => exact fun _ => .id
  | cons i l ih => exact fun fresh => (ih false).comp (.wrote fresh head track _ _)

/-- An alignment that a report measured (R92). -/
theorem MediaOp.aligned (d : Disp) (a : Int) : MediaOp (fun s => s.aligned d a) where
  only s := by
    unfold State.aligned
    split
    · rfl
    · split <;> rfl
  congr s t h := by
    unfold State.aligned
    rw [h.bandAt]
    split
    · exact h.1
    · split
      · exact h.1
      · simp only [State.setZone, h.zone, h.1]

/-- What firmware makes of a report. -/
theorem MediaOp.reported (r : Report) : MediaOp (fun s => s.reported r) := by
  unfold State.reported
  cases r.work with
  | none => exact .id
  | some d =>
    exact .ite (fun _ _ _ => Iff.rfl) ((MediaOp.mediaLook false).comp (.wroteAll d.head d.track (d.first + ·) (d.handle + ·) _ true))
      (.ite (fun _ _ _ => Iff.rfl) (.aligned d _) .id)

/-! ### Heads (R91, R95, R96) -/

/-- A change of each zone (R95, R96). -/
theorem MediaOp.eachZone {f : State → Namespace → Nat → Band → Zone} (h : ∀ s t, SameMedia s t → ∀ n z b, f t n z b = f s n z b) :
    MediaOp (fun s => s.eachZone f) := by
  have hband : ∀ (n : Namespace) (e : Band × Nat), MediaOp (fun u => u.setZone n.nsid e.2 (f u n e.2 e.1)) := fun n e =>
    MediaOp.pick (f := fun x s => s.setZone n.nsid e.2 x) (fun s t hst => h s t hst n _ _) fun _ => .setZone _ _ _
  exact MediaOp.pick (g := fun s => s.hosts.namespaces)
    (f := fun (l : List Namespace) s => l.foldl (fun t n =>
      if n.zoned then n.bands.zipIdx.foldl (fun (u : State) e => u.setZone n.nsid e.2 (f u n e.2 e.1)) t else t) s)
    (fun _ _ hst => congrArg Hosts.namespaces hst.1) fun l => MediaOp.foldl (fun n =>
      .ite (fun _ _ _ => Iff.rfl) (MediaOp.foldl (hband n) _) .id) l

theorem MediaOp.offlineZones : MediaOp State.offlineZones :=
  .ite (fun _ _ h => by rw [h.surfaceLost]) (.eachZone fun _ _ h n z b => by rw [h.surfaceLost, h.zone]) .id

theorem MediaOp.headLeaves (x : Nat) : MediaOp (fun s => s.headLeaves x) := .eachZone fun _ _ h n z b => by rw [h.zone]

end Sys2Proof.Machine

/-! SUPPORT. The commands of a lane's dispatches and reports. -/

namespace Sys2Proof.Machine

variable {s t : State}

/-! ### DISPATCH_FETCH (R76, R78, R80) -/

/-- A fetch that the lane refuses: a report with status 4, CONFIG, and the ring's head (R78). -/
theorem State.fetch_refused {n : Fin 4} {d : Disp} (hidle : (s.lane n).next = none ∧ (s.lane n).reports = [])
    (hbad : s.badDescriptor n d = true) (hleg : d.leg = false) :
    (((s.fetched n d).takeDescriptor n d).lane n).reports.map (fun r => r.status) = [4]
      ∧ (((s.fetched n d).takeDescriptor n d).lane n).next = none
      ∧ ((s.fetched n d).takeDescriptor n d).reg (.lane n) Reg.LN_DQ_HEAD = BitVec.ofNat 32 (((s.dq n).head + 1) % (s.dq n).size)
      ∧ ((s.fetched n d).takeDescriptor n d).reg (.lane n) Reg.UNIT_ERR
          = s.reg (.lane n) Reg.UNIT_ERR ||| BitVec.ofNat 32 (2 ^ (8 + eConfig))
      ∧ RegsBut s ((s.fetched n d).takeDescriptor n d) [(.lane n, Reg.LN_DQ_HEAD), (.lane n, Reg.UNIT_ERR)]
      ∧ (s.fetched n d).takeDescriptor n d = { s with regs := ((s.fetched n d).takeDescriptor n d).regs,
                                                      lanes := ((s.fetched n d).takeDescriptor n d).lanes,
                                                      resp := ((s.fetched n d).takeDescriptor n d).resp } := by
  obtain ⟨hhead, hregs, -, hlane, -⟩ := s.fetched_spec n d
  have honly := State.fetched_refused hbad
  have htake := State.takeDescriptor_refused ((s.badDescriptor_fetched n d d).trans hbad) hleg
  generalize s.fetched n d = u at hhead hregs hlane honly htake ⊢
  have herr : RegsBut u (u.err (.lane n) eConfig) [(.lane n, Reg.UNIT_ERR)] := .err u _ _
  rw [htake, State.lane_setLane_same, hlane]
  refine ⟨?_, hidle.1, ?_, ?_, ?_, ?_⟩
  · exact congrArg (List.map fun r => r.status) (congrArg (· ++ _) hidle.2)
  · exact (herr _ _ (by decide) (by simp)).trans hhead
  · refine (u.reg_err (.lane n) eConfig).trans ?_
    rw [hregs _ _ (by decide) (by simp)]
    rfl
  · exact (hregs.mono (by simp)).trans (herr.mono (by simp))
  · rw [honly]
    rfl

/-- A fetch of mode 00b that its slot and its head let through waits in the lane, stamped with the slot's epoch (R78, R80). -/
theorem State.fetch_mode0 {n : Fin 4} {d : Disp} (hbad : s.badDescriptor n d = false) (hopen : (s.slotState d.slot).isOpen = true)
    (hmode : d.mode = 0) (hhead : s.headRefuses (d.stamp (s.epoch d.slot)) = false) :
    (((s.fetched n d).takeDescriptor n d).lane n).next = some (d.stamp (s.epoch d.slot))
      ∧ ((s.fetched n d).takeDescriptor n d).reg (.lane n) Reg.LN_DQ_HEAD = BitVec.ofNat 32 (((s.dq n).head + 1) % (s.dq n).size)
      ∧ RegsBut s ((s.fetched n d).takeDescriptor n d) [(.lane n, Reg.LN_DQ_HEAD)]
      ∧ ((s.fetched n d).takeDescriptor n d).cmd = s.cmd
      ∧ (∀ a, a ≠ s.stampAddr n → ((s.fetched n d).takeDescriptor n d).byte a = s.byte a)
      ∧ ((s.fetched n d).takeDescriptor n d).pending = s.pending := by
  obtain ⟨htail, hregs, hbyte, -, honly⟩ := s.fetched_spec n d
  have hbad' := (s.badDescriptor_fetched n d d).trans hbad
  generalize s.fetched n d = u at htail hregs hbyte honly hbad' ⊢
  have hcmd : u.cmd = s.cmd := by rw [honly]
  have hepoch : u.epoch d.slot = s.epoch d.slot := by simp only [State.epoch, hcmd]
  have hslot : u.slotState d.slot = s.slotState d.slot := by simp only [State.slotState, State.slot?, hcmd]
  have hlets := (State.headRefuses_congr (s := s) (t := u) (by rw [honly]) _).trans hhead
  rw [State.takeDescriptor_mode0 hbad' (hslot ▸ hopen) hmode, hepoch, State.admitDisp_of_head n hlets]
  refine ⟨?_, htail, hregs, hcmd, hbyte, by rw [honly]; rfl⟩
  rw [State.lane_setLane_same]

/-- A fetch of mode 01b advances the slot's epoch and stamps the descriptor with it (R80). -/
theorem State.fetch_mode1 {n : Fin 4} {d : Disp} (hbad : s.badDescriptor n d = false) (hopen : (s.slotState d.slot).isOpen = true)
    (hmode : d.mode = 1) (hhead : s.headRefuses (d.stamp ((s.epoch d.slot + 1) % 256)) = false) :
    ((s.fetched n d).takeDescriptor n d).epoch d.slot = (s.epoch d.slot + 1) % 256
      ∧ (((s.fetched n d).takeDescriptor n d).lane n).next = some (d.stamp ((s.epoch d.slot + 1) % 256))
      ∧ ((s.fetched n d).takeDescriptor n d).reg (.lane n) Reg.LN_DQ_HEAD = BitVec.ofNat 32 (((s.dq n).head + 1) % (s.dq n).size)
      ∧ ((s.fetched n d).takeDescriptor n d).pending = s.pending := by
  obtain ⟨htail, -, -, -, honly⟩ := s.fetched_spec n d
  have hbad' := (s.badDescriptor_fetched n d d).trans hbad
  generalize s.fetched n d = u at htail honly hbad' ⊢
  have hcmd : u.cmd = s.cmd := by rw [honly]
  have hslot : u.slotState d.slot = s.slotState d.slot := by simp only [State.slotState, State.slot?, hcmd]
  have hepoch : (u.advanceEpoch d.slot).epoch d.slot = (s.epoch d.slot + 1) % 256 := by
    rw [u.advanceEpoch_epoch]
    simp only [State.epoch, hcmd]
  have hreach : LaneReach n u (u.advanceEpoch d.slot) := u.advanceEpoch_reach _
  have hheads : (u.advanceEpoch d.slot).heads = s.heads := (u.advanceEpoch_only d.slot).heads.trans (by rw [honly])
  have hpending : (u.advanceEpoch d.slot).pending = s.pending := (u.advanceEpoch_only d.slot).pending.trans (by rw [honly])
  rw [State.takeDescriptor_mode1 hbad' (hslot ▸ hopen) hmode]
  generalize u.advanceEpoch d.slot = v at hepoch hreach hheads hpending ⊢
  rw [hepoch, State.admitDisp_of_head n ((State.headRefuses_congr hheads _).trans hhead)]
  refine ⟨hepoch, ?_, (hreach.regs _ _ (by decide) id).trans htail, hpending⟩
  rw [State.lane_setLane_same]

/-! ### REPORT_WRITE (R76, R79) -/

/-- Where the lane's next report goes (R76). -/
def State.entryAddr (s : State) (n : Fin 4) : Nat := (s.reg (.lane n) Reg.LN_RQ_BASE).toNat + 16 * (s.rq n).tail

/-- The oldest report put into the ring, before firmware takes it. -/
def State.reportPut (s : State) (n : Fin 4) (r : Report) (rest : List Report) : State :=
  ((s.setLane n { s.lane n with reports := rest }).setBytes (s.entryAddr n) r.bytes).setReg (.lane n) Reg.LN_RQ_TAIL
    (BitVec.ofNat 32 (((s.rq n).tail + 1) % (s.rq n).size))

/-- A report that is not stale goes into a ring with room, and to firmware. -/
theorem State.reportTaken_written {n : Fin 4} {r : Report} {rest : List Report} (h : (s.lane n).reports = r :: rest)
    (hstale : s.staleReport r = false) (hroom : (s.rq n).full = false) : s.reportTaken n = (s.reportPut n r rest).reported r := by
  simp only [State.reportTaken, State.reportWrite, h, hstale, hroom, Bool.or_self, Bool.false_eq_true, if_false]
  rfl

/-- A report put into its ring: the entry's sixteen bytes, the ring's tail and the lane's reports. -/
theorem State.reportPut_spec (s : State) (n : Fin 4) (r : Report) (rest : List Report) :
    ((s.reportPut n r rest).lane n).reports = rest
      ∧ (s.reportPut n r rest).reg (.lane n) Reg.LN_RQ_TAIL = BitVec.ofNat 32 (((s.rq n).tail + 1) % (s.rq n).size)
      ∧ RegsBut s (s.reportPut n r rest) [(.lane n, Reg.LN_RQ_TAIL)]
      ∧ (∀ i, i < 16 → (s.reportPut n r rest).byte (s.entryAddr n + i) = r.bytes.getD i 0)
      ∧ (∀ a, ¬(s.entryAddr n ≤ a ∧ a < s.entryAddr n + 16) → (s.reportPut n r rest).byte a = s.byte a)
      ∧ s.reportPut n r rest = { s with regs := (s.reportPut n r rest).regs, mem := (s.reportPut n r rest).mem,
                                        lines := (s.reportPut n r rest).lines, lanes := (s.reportPut n r rest).lanes } := by
  have hlen : r.bytes.length = 16 := by simp [Report.bytes]
  have hbyte := fun a => State.byte_setBytes r.bytes (s.setLane n { s.lane n with reports := rest }) (s.entryAddr n) a
  have honly := State.setBytes_only r.bytes (s.setLane n { s.lane n with reports := rest }) (s.entryAddr n)
  rw [hlen] at hbyte
  unfold State.reportPut
  generalize State.setBytes _ _ _ = u at hbyte honly ⊢
  have hregs : RegsBut s u [(.lane n, Reg.LN_RQ_TAIL)] := .of_regs (by rw [honly]; rfl)
  have hlane : u.lane n = { s.lane n with reports := rest } := by
    rw [honly]
    exact State.lane_setLane_same s n _
  refine ⟨congrArg Lane.reports hlane, State.reg_setReg_same _ _ _ _, hregs.trans (RegsBut.setReg u (.lane n) (by decide) _),
    fun i hi => ?_,
    fun a ha => (hbyte a).trans (if_neg ha), ?_⟩
  · refine (hbyte _).trans ((if_pos ⟨by omega, by omega⟩).trans ?_)
    rw [Nat.add_sub_cancel_left]
  · rw [honly]
    rfl

/-- A report taken: what its place in the ring leaves, and what firmware makes of it. -/
theorem State.reportTaken_spec {n : Fin 4} {r : Report} {rest : List Report} (h : (s.lane n).reports = r :: rest)
    (hstale : s.staleReport r = false) (hroom : (s.rq n).full = false) :
    (s.reportTaken n).hosts = (s.reported r).hosts
      ∧ s.reportTaken n = { s.reportPut n r rest with hosts := (s.reportTaken n).hosts } := by
  obtain ⟨-, -, -, -, -, hput⟩ := s.reportPut_spec n r rest
  rw [State.reportTaken_written h hstale hroom]
  exact ⟨(MediaOp.reported r).congr s _ ⟨by rw [hput], by rw [hput], by rw [hput]⟩, (MediaOp.reported r).only _⟩

/-- A stale report is counted and dropped; nothing but the lane, the count and the cancels changes (R79, R80). -/
theorem State.reportTaken_dropped {n : Fin 4} {r : Report} {rest : List Report} (h : (s.lane n).reports = r :: rest)
    (hstale : s.staleReport r = true) :
    ((s.reportTaken n).lane n).reports = rest ∧ RegsBut s (s.reportTaken n) [(.lane n, Reg.LN_EPOCH_DISC)]
      ∧ (s.reportTaken n).reg (.lane n) Reg.LN_EPOCH_DISC
          = (if s.reg (.lane n) Reg.LN_EPOCH_DISC = 0xFFFFFFFF then 0xFFFFFFFF else s.reg (.lane n) Reg.LN_EPOCH_DISC + 1)
      ∧ (s.reportTaken n).mem = s.mem ∧ (s.reportTaken n).hosts = s.hosts ∧ (s.reportTaken n).pending = s.pending := by
  have hlane : ((s.setLane n { s.lane n with reports := rest }).lane n).reports = rest := by rw [State.lane_setLane_same]
  have hregs : RegsBut s ((s.setLane n { s.lane n with reports := rest }).countSat (.lane n) Reg.LN_EPOCH_DISC)
      [(.lane n, Reg.LN_EPOCH_DISC)] := RegsBut.setReg _ (.lane n) (by decide) _
  have hcount := State.reg_setReg_same (s.setLane n { s.lane n with reports := rest }) (.lane n) Reg.LN_EPOCH_DISC
  obtain heq | heq := State.reportTaken_stale h hstale
  · rw [heq]
    exact ⟨hlane, hregs, hcount _, rfl, rfl, rfl⟩
  · rw [heq]
    exact ⟨hlane, hregs, hcount _, rfl, rfl, rfl⟩

/-! ### The statement -/

/-- Settles O16: each fetch from what the ring's advance leaves and what the lane makes of the descriptor, the rest from the lemma of its
function. -/
theorem dispatchAndReports : Obligations.DispatchAndReports := by
  refine ⟨?_, ?_, ?_, ?_, ?_, ?_, ?_, ?_, ?_⟩
  · intro s n hr hready hheld hbad
    obtain ⟨hrep, hnext, htail, herr, hregs, honly⟩ := State.fetch_refused (s := s.answer .none) (State.fetchReady_idle hready) hbad rfl
    have hq := congrArg State.pending honly
    exact Completes.of_result hr (exec_dispatchFetch n s) (State.dispatchFetch_takes (s := s.answer .none) hready hheld (.inl hbad))
      ⟨hrep, hnext, htail, herr, hregs, honly⟩ hq
  · intro s n hr hready hheld hbad hopen hmode hhead
    obtain ⟨hnext, htail, hregs, hcmd, hbyte, hq⟩ := State.fetch_mode0 (s := s.answer .none) hbad hopen hmode hhead
    exact Completes.of_result hr (exec_dispatchFetch n s)
      (State.dispatchFetch_takes (s := s.answer .none) hready hheld (.inr (State.fetchWaits_mode0 hmode)))
      ⟨hnext, htail, hregs, hcmd, hbyte⟩ hq
  · intro s n hr hready hheld hbad hgo hopen hmode hhead
    obtain ⟨hepoch, hnext, htail, hq⟩ := State.fetch_mode1 (s := s.answer .none) hbad hopen hmode hhead
    exact Completes.of_result hr (exec_dispatchFetch n s) (State.dispatchFetch_takes (s := s.answer .none) hready hheld (.inr hgo))
      ⟨hepoch, hnext, htail⟩ hq
  · intro s n hr hready hheld
    exact Completes.of_result hr (exec_dispatchFetch n s) (State.dispatchFetch_held (s := s.answer .none) hready hheld) ⟨rfl, rfl⟩ rfl
  · intro s n slot hr howes hnext htails hreports hcur
    refine Completes.of_result hr (exec_cancelReceive n slot s)
      ((State.cancelReceive_running (s := s.answer .none) howes hnext htails hreports).trans (if_pos hcur)) ⟨?_, rfl⟩ rfl
    rw [State.lane_setLane_same]
  · intro s n slot hr howes hnext htails hreports hcur
    exact Completes.of_result hr (exec_cancelReceive n slot s)
      ((State.cancelReceive_running (s := s.answer .none) howes hnext htails hreports).trans (if_neg (ne_true_of_eq_false hcur)))
      ((s.answer .none).ackCancels_spec n slot) rfl
  · intro s n slot hr howes hidle
    exact Completes.of_result hr (exec_cancelAck n slot s) (State.cancelAck_idle (s := s.answer .none) howes hidle)
      ((s.answer .none).ackCancels_spec n slot) rfl
  · intro s n r rest hr hreports hstale hroom
    obtain ⟨hlane, htail, hregs, hentry, hother, hput⟩ := (s.answer .none).reportPut_spec n r rest
    obtain ⟨hhosts, hdone⟩ := State.reportTaken_spec (s := s.answer .none) hreports hstale hroom
    have hfw : ((s.answer .none).reported r).hosts = (s.reported r).hosts := (MediaOp.reported r).congr s (s.answer .none) ⟨rfl, rfl, rfl⟩
    have hq := congrArg State.pending hput
    generalize (s.answer .none).reportPut n r rest = u at hlane htail hregs hentry hother hq hdone
    exact Completes.of_result hr (exec_reportWrite n s) hdone ⟨hlane, htail, hregs, hhosts.trans hfw, hentry, hother⟩ hq
  · intro s n r rest hr hreports hstale
    obtain ⟨hlane, hregs, hcount, hmem, hhosts, hq⟩ := State.reportTaken_dropped (s := s.answer .none) hreports hstale
    exact Completes.of_result hr (exec_reportWrite n s) rfl ⟨hlane, hregs, hcount, hmem, hhosts⟩ hq

end Sys2Proof.Machine

/-! SUPPORT. Sector results and head states: what the handling of a delivered or a stale sector leaves, and what a change of a head's state
makes firmware and the hosts do. -/

namespace Sys2Proof.Machine

variable {s t : State}

theorem exec_sectorResultDma (n : Fin 4) (data : List Byte) (s : State) :
    exec (.sectorResultDma n data) s = done s (fun s => s.when (s.live (.chn n)) (s.sectorResult n data)) := rfl
theorem exec_headStateWrite (eng : Engine) (v : Word) (s : State) :
    exec (.headStateWrite eng v) s = done s (fun s => s.access eng .store .med Reg.MED_HEAD_DATA none (s.headWrite v)) := rfl

/-! ### What a lane's work leaves of the rest of the device -/

theorem LaneReach.mem {n : Fin 4} (h : LaneReach n s t) : t.mem = s.mem := by rw [h.only]
theorem LaneReach.hosts {n : Fin 4} (h : LaneReach n s t) : t.hosts = s.hosts := by rw [h.only]
theorem LaneReach.buf {n : Fin 4} (h : LaneReach n s t) : t.buf = s.buf := by rw [h.only]
theorem LaneReach.pending {n : Fin 4} (h : LaneReach n s t) : t.pending = s.pending := by rw [h.only]

/-! ### The results that wait (R81) -/

/-- Every channel's results wait in `t` as in `s`. -/
def ResultsKept (s t : State) : Prop := ∀ n, (t.ch n).results = (s.ch n).results

theorem ResultsKept.refl (s : State) : ResultsKept s s := fun _ => rfl

theorem ResultsKept.trans {u : State} (h : ResultsKept s t) (k : ResultsKept t u) : ResultsKept s u := fun n => (k n).trans (h n)

theorem ResultsKept.of_chns (h : t.chns = s.chns) : ResultsKept s t := fun n => by simp only [State.ch, h]

theorem ResultsKept.foldl {α : Type} (f : State → α → State) (h : ∀ s a, ResultsKept s (f s a)) (l : List α) :
    ∀ s, ResultsKept s (l.foldl f s) := by
  induction l with
  | nil => exact ResultsKept.refl
  | cons a t ih => exact fun s => (h s a).trans (ih _)

theorem State.ch_setCh_ne (s : State) {m k : Fin 4} (h : m ≠ k) (c : Channel) : (s.setCh k c).ch m = s.ch m := by
  simp [State.ch, State.setCh, Vector.getElem_set_ne, Fin.val_ne_iff.mpr h.symm]

/-- A channel whose results stay. -/
theorem ResultsKept.setCh (s : State) (m : Fin 4) {c : Channel} (h : c.results = (s.ch m).results) : ResultsKept s (s.setCh m c) := by
  intro n
  by_cases hn : n = m
  · rw [hn, State.ch_setCh_same, h]
  · rw [State.ch_setCh_ne s hn]

theorem State.ddResult_results (s : State) (m : Fin 4) (a b c : Nat) : ResultsKept s (s.ddResult m a b c) := .of_chns rfl

theorem State.ddNext_results (s : State) (m : Fin 4) : ResultsKept s (s.ddNext m) := by
  unfold State.ddNext
  dsimp only
  split
  · exact .refl s
  · split
    · exact (ResultsKept.setCh s m (by rfl)).trans (State.ddResult_results _ _ _ _ _)
    · split
      · exact (ResultsKept.setCh s m (by rfl)).trans (State.ddResult_results _ _ _ _ _)
      · exact ResultsKept.setCh s m (by rfl)

theorem State.releaseOn_results (s : State) (m : Fin 4) (p : Pin → Bool) : ResultsKept s (s.releaseOn m p) := by
  unfold State.releaseOn
  dsimp only
  split
  · exact (ResultsKept.setCh s m (by rfl)).trans (State.ddNext_results _ m)
  · exact ResultsKept.setCh s m (by rfl)

theorem State.classify_results (s : State) (m : Fin 4) (r : SectRef) (b : Bool) : ResultsKept s (s.classify m r b) := by
  unfold State.classify
  split
  · split <;> exact .of_chns rfl
  · exact .refl s

/-- An epoch's advance releases samples and keeps results (R80, R111). -/
theorem State.advanceEpoch_results (s : State) (i : Nat) : ResultsKept s (s.advanceEpoch i) := by
  unfold State.advanceEpoch
  dsimp only
  refine ResultsKept.trans ?_ (ResultsKept.foldl _ (fun t m => t.releaseOn_results m _) _ _)
  refine ResultsKept.trans ?_ (ResultsKept.foldl _ (fun t m => ResultsKept.foldl _ (fun u x => u.classify_results m _ _) _ t) _ _)
  exact .of_chns rfl

theorem State.raceCheck_results (s : State) (i : Nat) : ResultsKept s (s.raceCheck i) := by
  unfold State.raceCheck
  split
  · exact .refl s
  · split
    · exact s.advanceEpoch_results i
    · exact .refl s

theorem State.legEnded_results (s : State) (m : Fin 4) (i e : Nat) : ResultsKept s (s.legEnded m i e) := by
  unfold State.legEnded
  split
  · exact .refl s
  · exact ResultsKept.trans (t := s.setTracker _) (.of_chns rfl) (State.raceCheck_results _ i)

theorem State.formReport_results (s : State) (m : Fin 4) (d : Disp) (st : Nat) : ResultsKept s (s.formReport m d st) := by
  unfold State.formReport
  dsimp only
  split
  · exact ResultsKept.trans (t := s.setLane m _) (.of_chns rfl) (State.legEnded_results _ m _ _)
  · exact .of_chns rfl

theorem State.finish_results (s : State) (m : Fin 4) (r : SectRef) (ok : Bool) : ResultsKept s (s.finish m r ok) := by
  unfold State.finish State.settle State.reportSettled
  dsimp only
  refine ResultsKept.trans ?_ (ResultsKept.foldl _ (fun t d => t.formReport_results m d _) _ _)
  exact (s.classify_results m r ok).trans (.of_chns rfl)

/-! ### A result's end (R111 to R113, R119, R120) -/

/-- The end of a firmware command (R112). -/
theorem State.jobEnd_leaves (s : State) (n : Fin 4) (a b c : Nat) :
    LaneReach n s (s.jobEnd n a b c) ∧ ResultsKept s (s.jobEnd n a b c) := by
  have hset : LaneReach n s (s.setCh n { s.ch n with job := none }) ∧ ResultsKept s (s.setCh n { s.ch n with job := none }) :=
    ⟨LaneReach.setCh s n _, ResultsKept.setCh s n rfl⟩
  unfold State.jobEnd
  generalize s.setCh n _ = t at hset ⊢
  exact ⟨(hset.1.trans (t.ddResult_reach n a b c)).trans (State.ddNext_reach _ n),
    (hset.2.trans (t.ddResult_results n a b c)).trans (State.ddNext_results _ n)⟩

/-- The end of a sector's handling reaches what the lane reaches and leaves the results that wait. -/
theorem State.resultEnd_leaves (s : State) (n : Fin 4) (x : SectResult) (e : DmaEnd) :
    LaneReach n s (s.resultEnd n x e) ∧ ResultsKept s (s.resultEnd n x e) := by
  unfold State.resultEnd
  dsimp only
  split
  · exact ⟨s.finish_reach n _ _, s.finish_results n _ _⟩
  · exact ⟨(LaneReach.setCh s n _).trans (State.finish_reach _ n _ _),
      (ResultsKept.setCh s n (by rfl)).trans (State.finish_results _ n _ _)⟩
  · exact s.jobEnd_leaves n _ _ _

/-- A sync event posted reaches the lane's channel (R130). -/
theorem State.postSync_leaves (s : State) (n : Fin 4) (k : Nat) (d : Int) (b : Nat) (r : SectRef) :
    LaneReach n s (s.postSync n k d b r) ∧ ResultsKept s (s.postSync n k d b r) := by
  unfold State.postSync
  dsimp only
  split
  · exact ⟨(LaneReach.of_setF s (by decide) (.ownChn _ _) _).trans (LaneReach.chnErr _ n _), .of_chns rfl⟩
  · exact ⟨LaneReach.setCh s n _, ResultsKept.setCh s n (by rfl)⟩

/-- A sync event counted (R131). -/
theorem State.countSync_leaves (s : State) (n : Fin 4) (k : Nat) :
    LaneReach n s (s.countSync n k) ∧ ResultsKept s (s.countSync n k) := by
  have hcount : ∀ o, o + 4 < 0x1000 → LaneReach n s (s.count64 (.chn n) o) ∧ ResultsKept s (s.count64 (.chn n) o) := fun o ho =>
    ⟨LaneReach.of_count64 s ho (.ownChn _ _) (.ownChn _ _), .of_chns ((State.setReg_chns _ _ _ _).trans (State.setReg_chns _ _ _ _))⟩
  unfold State.countSync
  split
  · exact hcount _ (by decide)
  · split
    · exact hcount _ (by decide)
    · split
      · exact hcount _ (by decide)
      · split
        · exact hcount _ (by decide)
        · exact ⟨.refl s, .refl s⟩

/-- The sync events of a delivery (R116, R119). -/
theorem State.deliverSync_leaves (s : State) (n : Fin 4) (x : SectResult) :
    LaneReach n s (s.deliverSync n x) ∧ ResultsKept s (s.deliverSync n x) := by
  have hstep : ∀ (t : State) (e : Nat × Int × Nat),
      LaneReach n t ((if e.1 = 7 then t else t.countSync n e.1).postSync n e.1 e.2.1 e.2.2 x.ref)
        ∧ ResultsKept t ((if e.1 = 7 then t else t.countSync n e.1).postSync n e.1 e.2.1 e.2.2 x.ref) := fun t e => by
    split
    · exact t.postSync_leaves n _ _ _ _
    · obtain ⟨hcount, hcountRes⟩ := t.countSync_leaves n e.1
      obtain ⟨hpost, hpostRes⟩ := (t.countSync n e.1).postSync_leaves n e.1 e.2.1 e.2.2 x.ref
      exact ⟨hcount.trans hpost, hcountRes.trans hpostRes⟩
  have hfirst : LaneReach n s (if x.deep then s.countSync n 7 else s) ∧ ResultsKept s (if x.deep then s.countSync n 7 else s) := by
    split
    · exact s.countSync_leaves n 7
    · exact ⟨.refl s, .refl s⟩
  exact ⟨hfirst.1.trans (LaneReach.foldl _ (fun t e => (hstep t e).1) _ _),
    hfirst.2.trans (ResultsKept.foldl _ (fun t e => (hstep t e).2) _ _)⟩

/-! ### SECTOR_RESULT_DMA (R81, R269) -/

/-- A granule written reaches registers of the buffer only. -/
theorem State.writeGranule_regs (s : State) (h p : Nat) (data : List Byte) : RegsOff stopRegs s (s.writeGranule h p data) := by
  have hlines := PoolReach.foldl (fun (t : State) i => t.lineWritten (p * 64 + i)) (fun t i => t.lineWritten_reach _) (List.range 64)
    ((s.setBytes (dramBase + p * 4096) (data.take 4096)).setPoison h false)
  refine RegsOff.trans (.of_regs ?_) hlines.regs
  rw [State.setPoison_only, State.setBytes_only]

/-- A result written reaches, after its granule, what the lane reaches. -/
theorem State.writeResult_leaves (s : State) (n : Fin 4) {x : SectResult} (p : Nat) (data : List Byte) (hdual : x.ref.dual = false) :
    LaneReach n (s.writeGranule x.ref.handle p data) (s.writeResult n x p data)
      ∧ ResultsKept (s.writeGranule x.ref.handle p data) (s.writeResult n x p data) := by
  unfold State.writeResult
  dsimp only
  generalize s.writeGranule x.ref.handle p data = u
  obtain ⟨hsync, hsyncRes⟩ := u.deliverSync_leaves n x
  have hrace : (u.deliverSync n x).raceOf x.ref = none := if_neg (by rw [hdual]; nofun)
  rw [hrace]
  generalize u.deliverSync n x = v at hsync hsyncRes ⊢
  obtain ⟨hend, hendRes⟩ := v.resultEnd_leaves n x .written
  exact ⟨(hsync.trans hend).trans (State.raceCheck_reach _ _), (hsyncRes.trans hendRes).trans (State.raceCheck_results _ _)⟩

/-- A stale result is counted and given up (R81). -/
theorem State.sectorResult_stale {n : Fin 4} {x : SectResult} {rest : List SectResult} (data : List Byte) (h : (s.ch n).results = x :: rest)
    (hstale : s.staleSector x.ref = true) : s.sectorResult n data
      = ((s.setCh n { s.ch n with results := rest }).countSat (.lane n) Reg.LN_EPOCH_DISC).resultEnd n x .stale := by
  simp only [State.sectorResult, h, hstale, if_true]

/-- A result under its slot's epoch, of no dual leg, is written to the page of its granule (R81). -/
theorem State.sectorResult_written {n : Fin 4} {x : SectResult} {rest : List SectResult} {p : Nat} (data : List Byte)
    (h : (s.ch n).results = x :: rest) (hfresh : s.staleSector x.ref = false) (hdual : x.ref.dual = false)
    (hpage : s.translate x.ref.handle true = .page p) :
    s.sectorResult n data = (s.setCh n { s.ch n with results := rest }).writeResult n x p data := by
  have hrace : s.raceOf x.ref = none := if_neg (by rw [hdual]; nofun)
  have hpage' : (s.setCh n { s.ch n with results := rest }).translate x.ref.handle true = .page p := hpage
  simp only [State.sectorResult, h, hfresh, hrace, hpage', Bool.false_eq_true, if_false]

/-- A stale result leaves memory and counts in LN_EPOCH_DISC. -/
theorem State.sectorResult_stale_spec {n : Fin 4} {x : SectResult} {rest : List SectResult} (data : List Byte)
    (h : (s.ch n).results = x :: rest) (hstale : s.staleSector x.ref = true) :
    (s.sectorResult n data).reg (.lane n) Reg.LN_EPOCH_DISC
        = (if s.reg (.lane n) Reg.LN_EPOCH_DISC = 0xFFFFFFFF then 0xFFFFFFFF else s.reg (.lane n) Reg.LN_EPOCH_DISC + 1)
      ∧ (s.sectorResult n data).mem = s.mem ∧ (s.sectorResult n data).pending = s.pending := by
  rw [State.sectorResult_stale data h hstale]
  have hcount := State.reg_setReg_same (s.setCh n { s.ch n with results := rest }) (.lane n) Reg.LN_EPOCH_DISC
    (if s.reg (.lane n) Reg.LN_EPOCH_DISC = 0xFFFFFFFF then 0xFFFFFFFF else s.reg (.lane n) Reg.LN_EPOCH_DISC + 1)
  obtain ⟨hreach, -⟩ := ((s.setCh n { s.ch n with results := rest }).countSat (.lane n) Reg.LN_EPOCH_DISC).resultEnd_leaves n x .stale
  exact ⟨(hreach.regs _ _ (by decide) id).trans hcount, hreach.mem, hreach.pending⟩

/-- A result written: its granule's page, and what it leaves. -/
theorem State.sectorResult_written_spec {n : Fin 4} {x : SectResult} {rest : List SectResult} {p : Nat} {data : List Byte}
    (h : (s.ch n).results = x :: rest) (hfresh : s.staleSector x.ref = false) (hdual : x.ref.dual = false)
    (hpage : s.translate x.ref.handle true = .page p) (hlen : data.length = 4096) :
    ((s.sectorResult n data).ch n).results = rest
      ∧ (∀ k, k < 4096 → (dramBase + p * 4096 + k < s.bttAddr x.ref.handle ∨ s.bttAddr x.ref.handle + 4 ≤ dramBase + p * 4096 + k) →
          (s.sectorResult n data).byte (dramBase + p * 4096 + k) = data.getD k 0)
      ∧ (∀ a, (a < dramBase + p * 4096 ∨ dramBase + p * 4096 + 4096 ≤ a) →
          (a < s.bttAddr x.ref.handle ∨ s.bttAddr x.ref.handle + 4 ≤ a) → (s.sectorResult n data).byte a = s.byte a)
      ∧ (s.sectorResult n data).reg (.lane n) Reg.LN_EPOCH_DISC = s.reg (.lane n) Reg.LN_EPOCH_DISC
      ∧ (s.sectorResult n data).pending = s.pending := by
  rw [State.sectorResult_written data h hfresh hdual hpage]
  obtain ⟨hreach, hresults⟩ := (s.setCh n { s.ch n with results := rest }).writeResult_leaves n p data hdual
  obtain ⟨hin, hout, honly⟩ := (s.setCh n { s.ch n with results := rest }).writeGranule_spec x.ref.handle p data hlen
  have hregs := (s.setCh n { s.ch n with results := rest }).writeGranule_regs x.ref.handle p data
  generalize (s.setCh n { s.ch n with results := rest }).writeResult n x p data = t at hreach hresults ⊢
  generalize (s.setCh n { s.ch n with results := rest }).writeGranule x.ref.handle p data = u at *
  have hbyte : ∀ a, t.byte a = u.byte a := fun a => by simp only [State.byte, hreach.mem]
  refine ⟨?_, fun k hk ha => (hbyte _).trans (hin k hk ha), fun a ha hb => (hbyte a).trans (hout a ha hb), ?_, ?_⟩
  · rw [hresults n, honly]
    exact congrArg Channel.results (State.ch_setCh_same s n _)
  · exact (hreach.regs _ _ (by decide) id).trans (hregs _ _ (by decide) id)
  · rw [hreach.pending, honly]
    rfl

/-! ### HEAD_STATE_WRITE (R88, R90, R91) -/

/-- Work on a head that has become unusable changes the lane's side alone (R91). -/
theorem State.stopHead_only (s : State) (h : Nat) : LaneOnly s (s.stopHead h) := by
  unfold State.stopHead
  extract_lets n l hit s1 l1
  have h1 : LaneOnly s s1 := by
    simp only [s1]
    split
    · split
      · exact (LaneOnly.setLane s n _).trans (State.reportNow_only _ n _ _ _)
      · exact .refl s
    · exact .refl s
  split
  · split
    · exact h1.trans (LaneOnly.setLane _ n _)
    · exact h1
  · exact h1

/-- The head that MED_HEAD_IDX selects. -/
def State.headIdx (s : State) : Nat := (s.reg .med Reg.MED_HEAD_IDX).toNat % 64

/-- MED_HEAD_DATA of a head after a write of `v` to it: STATE 11b leaves STATE (R90). -/
def headWord (old v : Word) : Word :=
  F.MED_HEAD_DATA_WR_INH.put (if F.MED_HEAD_DATA_STATE.get v = 3 then old else F.MED_HEAD_DATA_STATE.put old (F.MED_HEAD_DATA_STATE.get v))
    (F.MED_HEAD_DATA_WR_INH.get v)

/-- A field's value lies within its width. -/
theorem Field.get_lt (f : Field) (w : Word) : f.get w < 2 ^ f.width := BitVec.isLt _

/-- The fields of a head after a write (R90). -/
theorem headWord_spec (old v : Word) : F.MED_HEAD_DATA_WR_INH.get (headWord old v) = F.MED_HEAD_DATA_WR_INH.get v
    ∧ F.MED_HEAD_DATA_STATE.get (headWord old v)
      = if F.MED_HEAD_DATA_STATE.get v = 3 then F.MED_HEAD_DATA_STATE.get old else F.MED_HEAD_DATA_STATE.get v := by
  unfold headWord
  refine ⟨?_, ?_⟩
  · rw [Field.get_put _ _ _ (by decide), Nat.mod_eq_of_lt (Field.get_lt _ _)]
  · rw [Field.get_put_ne _ F.MED_HEAD_DATA_STATE _ _ (by decide) (by decide)]
    split
    · rfl
    · rw [Field.get_put _ _ _ (by decide), Nat.mod_eq_of_lt (Field.get_lt _ _)]

/-- An index that selects no head: nothing changes (R88). -/
theorem State.headWrite_none (v : Word) (h : 48 ≤ s.headIdx) : s.headWrite v = s := by
  have hkeep : s.headStateWrite v = s := if_pos h
  unfold State.headWrite
  rw [hkeep]
  exact if_pos rfl

/-- The heads after a write to the head selected, with the lane's side changed at most. -/
theorem State.headStateWrite_spec (v : Word) (h : s.headIdx < 48) :
    (∀ x, (s.headStateWrite v).headData x = if x = s.headIdx then headWord (s.headData s.headIdx) v else s.headData x)
      ∧ (s.headStateWrite v).resp = s.resp ∧ (s.headStateWrite v).pending = s.pending := by
  let s1 : State := { s with heads := Sparse.set (fun _ => 0) s.heads s.headIdx (headWord (s.headData s.headIdx) v) }
  have hwrite : s.headStateWrite v = s1.stopHead s.headIdx := if_neg (Nat.not_le.mpr h)
  have honly := s1.stopHead_only s.headIdx
  rw [hwrite]
  generalize s1.stopHead s.headIdx = t at honly ⊢
  refine ⟨fun x => ?_, ?_, honly.pending⟩
  · rw [State.headData, honly.heads]
    exact Sparse.get_set _ _ _ _ _
  · rw [honly]

/-! ### What follows a change of a head (R95, R96, R299, R536, R537) -/

theorem State.setCrit_event (s : State) (b : Nat) : HostEvent s (s.setCrit b) := by
  unfold State.setCrit
  split
  · exact .refl s
  · refine HostEvent.trans ?_ (State.raiseAll_event _ _)
    rfl

theorem State.clrCrit_event (s : State) (b : Nat) : HostEvent s (s.clrCrit b) := by
  unfold State.clrCrit
  split <;> rfl

theorem State.critIs_event (s : State) (b : Nat) (on : Bool) : HostEvent s (s.critIs b on) := by
  unfold State.critIs
  split
  · exact s.setCrit_event b
  · exact s.clrCrit_event b

/-- Critical Warning followed reaches the hosts alone (R537). -/
theorem State.lookCrit_event (s : State) : HostEvent s s.lookCrit := by
  unfold State.lookCrit
  split
  · exact .refl s
  · extract_lets s1 s2
    have h1 : HostEvent s s1 := s.critIs_event 0 _
    have h2 : HostEvent s s2 := by
      simp only [s2]
      split
      · exact h1.trans (State.critIs_event _ _ _)
      · exact h1
    exact h2.trans (State.critIs_event _ _ _)

theorem HostEvent.of_mediaOp {f : State → State} (h : MediaOp f) (s : State) : HostEvent s (f s) := by
  unfold HostEvent
  rw [h.only s]

/-- What firmware and the hosts do about a head reaches the hosts' side alone. -/
theorem State.headWrite_event (s : State) (v : Word) : HostEvent (s.headStateWrite v) (s.headWrite v) := by
  unfold State.headWrite
  extract_lets t h t1
  have h1 : HostEvent t t1 := by
    simp only [t1]
    split
    · exact .of_mediaOp (.headLeaves h) t
    · exact .refl t
  split
  · exact .refl t
  · refine HostEvent.trans ?_ (State.lookCrit_event _)
    refine HostEvent.trans ?_ (State.raiseAll_event _ _)
    exact h1.trans (.of_mediaOp ((MediaOp.mediaLook false).comp .offlineZones) t1)

/-! ### The statement -/

/-- Settles O17: the results from what their DMA leaves, the heads from the word written and what follows it. -/
theorem sectorResultsAndHeads : Obligations.SectorResultsAndHeads := by
  refine ⟨?_, ?_, ?_, ?_⟩
  · intro s n data x rest hr hlive hres hstale
    have hgo : (s.answer .none).when (s.live (.chn n)) ((s.answer .none).sectorResult n data) = (s.answer .none).sectorResult n data := by
      rw [hlive, State.when_true]
    obtain ⟨hcount, hmem, hq⟩ := State.sectorResult_stale_spec (s := s.answer .none) data hres hstale
    exact Completes.of_result hr (exec_sectorResultDma n data s) hgo ⟨hcount, hmem⟩ hq
  · intro s n data x rest p hr hlive hres hfresh hdual hpage hlen
    have hgo : (s.answer .none).when (s.live (.chn n)) ((s.answer .none).sectorResult n data) = (s.answer .none).sectorResult n data := by
      rw [hlive, State.when_true]
    obtain ⟨hrest, hin, hout, hdisc, hq⟩ := State.sectorResult_written_spec (s := s.answer .none) hres hfresh hdual hpage hlen
    exact Completes.of_result hr (exec_sectorResultDma n data s) hgo ⟨hrest, hin, hout, hdisc⟩ hq
  · intro s eng v hr hreset hidx
    have hnone : (s.answer .none).headWrite v = s.answer .none := State.headWrite_none v hidx
    exact Completes.of_access hr hreset (exec_headStateWrite eng v s) (by rw [hnone]; rfl) (by rw [hnone]; rfl) hnone
  · intro s eng v hr hreset hidx
    obtain ⟨hdata, hresp, hq⟩ := State.headStateWrite_spec (s := s.answer .none) v hidx
    have hevent := (s.answer .none).headWrite_event v
    have hheads : ∀ x, ((s.answer .none).headWrite v).headData x = ((s.answer .none).headStateWrite v).headData x := fun x => by
      rw [hevent]
      rfl
    obtain ⟨hinh, hstate⟩ := headWord_spec (s.headData s.headIdx) v
    have hown := (hheads s.headIdx).trans ((hdata _).trans (if_pos rfl))
    refine Completes.of_access hr hreset (exec_headStateWrite eng v s) ?_ ?_ ⟨?_, ?_, fun x hx => ?_⟩
    · rw [hevent]
      exact hresp
    · rw [hevent]
      exact hq
    · exact (congrArg F.MED_HEAD_DATA_WR_INH.get hown).trans hinh
    · exact (congrArg F.MED_HEAD_DATA_STATE.get hown).trans hstate
    · exact (hheads x).trans ((hdata x).trans (if_neg hx))

end Sys2Proof.Machine

/-! SUPPORT. The servo's own registers: what a change of the write inhibit, a loss of lock, a change of mode and the end of a seek write in
SRV_STAT, and what they leave of the other registers of the servo. -/

namespace Sys2Proof.Machine

variable {s t : State}

/-! ### The registers of one servo -/

/-- Every register of servo `n` but those at the offsets listed reads in `t` as in `s`. -/
def ServoKept (n : Fin 4) (l : List Nat) (s t : State) : Prop := ∀ o, o < 0x1000 → o ∉ l → t.reg (.srv n) o = s.reg (.srv n) o

theorem ServoKept.refl (n : Fin 4) (l : List Nat) (s : State) : ServoKept n l s s := fun _ _ _ => rfl

theorem ServoKept.trans {n : Fin 4} {l : List Nat} {u : State} (h : ServoKept n l s t) (k : ServoKept n l t u) : ServoKept n l s u :=
  fun o ho hl => (k o ho hl).trans (h o ho hl)

theorem ServoKept.mono {n : Fin 4} {l m : List Nat} (h : ServoKept n l s t) (hlm : l ⊆ m) : ServoKept n m s t :=
  fun o ho hm => h o ho fun hl => hm (hlm hl)

theorem ServoKept.of_regs {n : Fin 4} {l : List Nat} (h : t.regs = s.regs) : ServoKept n l s t := fun _ _ _ => by simp only [State.reg, h]

theorem ServoKept.of_but {n : Fin 4} {l : List Nat} {r : List (UnitId × Nat)} (h : RegsBut s t r) (hr : ∀ o, (.srv n, o) ∈ r → o ∈ l) :
    ServoKept n l s t := fun o ho hl => h _ o ho fun hm => hl (hr o hm)

/-- A register of the servo, written. -/
theorem ServoKept.setReg (s : State) (n : Fin 4) {o : Nat} (ho : o < 0x1000) (w : Word) : ServoKept n [o] s (s.setReg (.srv n) o w) :=
  .of_but (RegsBut.setReg s (.srv n) ho w) (by simp)

/-- A register of another unit, written. -/
theorem ServoKept.setReg_other (s : State) (n : Fin 4) {u : UnitId} (hu : u ≠ .srv n) {o : Nat} (ho : o < 0x1000) (w : Word) :
    ServoKept n [] s (s.setReg u o w) := .of_but (RegsBut.setReg s u ho w) (by simp [hu.symm])

theorem ServoKept.f {n : Fin 4} {l : List Nat} (h : ServoKept n l s t) {f : Field} (ho : f.off < 0x1000) (hl : f.off ∉ l) :
    t.f (.srv n) f = s.f (.srv n) f := congrArg f.get (h _ ho hl)

theorem ServoKept.on {n : Fin 4} {l : List Nat} (h : ServoKept n l s t) {f : Field} (ho : f.off < 0x1000) (hl : f.off ∉ l) :
    t.on (.srv n) f = s.on (.srv n) f := congrArg (· == 1) (h.f ho hl)

/-- Two fields of one register with no bit in common. -/
abbrev FieldsApart (f g : Field) : Prop :=
  g.off = f.off ∧ g.lo + g.width ≤ 32 ∧ (g.lo + g.width ≤ f.lo ∨ f.lo + f.width ≤ g.lo)

theorem FieldsApart.get_put {f g : Field} (h : FieldsApart f g) (w : Word) (v : Nat) : g.get (f.put w v) = g.get w :=
  Field.get_put_ne f g w v h.2.1 h.2.2

/-- A field read from a register's contents. -/
theorem State.f_of_reg {u : UnitId} {f : Field} {w : Word} (h : s.reg u f.off = w) : s.f u f = f.get w := congrArg f.get h

/-- A flag put into a register's contents. -/
theorem Field.put_flag {f : Field} (hw : f.width = 1) (hf : f.lo + f.width ≤ 32) (w : Word) (b : Bool) :
    (f.get (f.put w (bit b)) == 1) = b := by
  rw [Field.get_put f w _ hf, hw]
  cases b <;> rfl

/-- A cause of a leaf is set in UNIT_ERR, and those that stood before stay (R19). -/
theorem State.err_bit (s : State) {u : UnitId} (hu : u.isGroup = false) (i : Nat) {j : Nat}
    (h : (BitVec.ofNat 32 (2 ^ i)).getLsbD j = true ∨ (s.reg u Reg.UNIT_ERR).getLsbD j = true) :
    ((s.err u i).reg u Reg.UNIT_ERR).getLsbD j = true := by
  rw [State.reg_err, BitVec.getLsbD_or, hu, Bool.or_eq_true_iff]
  exact h.symm

/-! ### The write inhibit (R187) -/

/-- The registers of a servo that a change of its write inhibit may write. -/
abbrev inhibitRegs : List Nat := [Reg.SRV_STAT, Reg.SRV_CNT_WINH_LO, Reg.SRV_CNT_WINH_LO + 4]

/-- The write inhibit takes its value in SRV_STAT. -/
theorem State.setInhibit_stat (s : State) (n : Fin 4) (b : Bool) :
    (s.setInhibit n b).reg (.srv n) Reg.SRV_STAT = F.SRV_STAT_WINH.put (s.reg (.srv n) Reg.SRV_STAT) (bit b)
      ∧ ServoKept n inhibitRegs s (s.setInhibit n b) := by
  unfold State.setInhibit
  extract_lets rise s1 s2
  have h1 : s1.reg (.srv n) Reg.SRV_STAT = F.SRV_STAT_WINH.put (s.reg (.srv n) Reg.SRV_STAT) (bit b) := State.reg_setReg_same _ _ _ _
  have hk1 : ServoKept n inhibitRegs s s1 := (ServoKept.setReg s n (by decide) _).mono (by simp)
  have h2 : s2.reg (.srv n) Reg.SRV_STAT = s1.reg (.srv n) Reg.SRV_STAT ∧ ServoKept n inhibitRegs s1 s2 := by
    simp only [s2]
    split
    · have hcount := RegsBut.count64 s1 (.srv n) (show Reg.SRV_CNT_WINH_LO + 4 < 0x1000 by decide)
      exact ⟨hcount _ _ (by decide) (by simp; decide), .of_but hcount (by simp)⟩
    · exact ⟨rfl, .refl n _ _⟩
  obtain ⟨hstat, hkept⟩ := h2
  split
  · exact ⟨(s2.writeStop_srv n _ n (by decide)).trans (hstat.trans h1),
      (hk1.trans hkept).trans fun o ho _ => s2.writeStop_srv n _ n ho⟩
  · exact ⟨hstat.trans h1, (hk1.trans hkept).trans (.of_regs rfl)⟩

theorem State.setInhibit_winh (s : State) (n : Fin 4) (b : Bool) : (s.setInhibit n b).on (.srv n) F.SRV_STAT_WINH = b := by
  rw [State.on, State.f_of_reg (s.setInhibit_stat n b).1]
  exact Field.put_flag rfl (by decide) _ b

theorem State.setInhibit_field (s : State) (n : Fin 4) (b : Bool) {f : Field} (h : FieldsApart F.SRV_STAT_WINH f) :
    (s.setInhibit n b).f (.srv n) f = s.f (.srv n) f := by
  have hreg : (s.setInhibit n b).reg (.srv n) f.off = F.SRV_STAT_WINH.put (s.reg (.srv n) f.off) (bit b) := by
    rw [h.1]; exact (s.setInhibit_stat n b).1
  rw [State.f_of_reg hreg, h.get_put]
  rfl

/-- The write inhibit falls: no write stops. -/
theorem State.setInhibit_false (s : State) (n : Fin 4) : s.setInhibit n false = (s.setF (.srv n) F.SRV_STAT_WINH 0).updWgate n := rfl

theorem State.updWgate_lanes (s : State) (n : Fin 4) : s.updWgate n = { s with lanes := (s.updWgate n).lanes } := rfl

/-- The write inhibit's fall writes SRV_STAT and the lane's gate. -/
theorem State.setInhibit_false_only (s : State) (n : Fin 4) : RegsBut s (s.setInhibit n false) [(.srv n, Reg.SRV_STAT)]
    ∧ s.setInhibit n false = { s with regs := (s.setInhibit n false).regs, lanes := (s.setInhibit n false).lanes } := by
  have hregs : RegsBut s (s.setF (.srv n) F.SRV_STAT_WINH 0) [(.srv n, Reg.SRV_STAT)] :=
    RegsBut.setF s (.srv n) F.SRV_STAT_WINH 0 (by decide)
  have honly : s.setF (.srv n) F.SRV_STAT_WINH 0 = { s with regs := (s.setF (.srv n) F.SRV_STAT_WINH 0).regs } := rfl
  rw [State.setInhibit_false]
  generalize s.setF (.srv n) F.SRV_STAT_WINH 0 = u at hregs honly ⊢
  exact ⟨hregs.trans (.of_regs rfl), by rw [State.updWgate_lanes, honly]⟩

/-- Two registers written: no other component changes. -/
theorem State.setReg_setReg_only (s : State) (u : UnitId) (o j : Nat) (w x : Word) :
    (s.setReg u o w).setReg u j x = { s with regs := ((s.setReg u o w).setReg u j x).regs } := rfl

theorem State.count64_only (s : State) (u : UnitId) (lo : Nat) : s.count64 u lo = { s with regs := (s.count64 u lo).regs } :=
  s.setReg_setReg_only u _ _ _ _

/-- The write inhibit takes a value while no write is in progress: the registers of a change of mode, and the lane's gate. -/
theorem State.setInhibit_idle {n : Fin 4} (b : Bool) (hidle : s.writing n = false) :
    RegsBut s (s.setInhibit n b) (modeRegs n)
      ∧ s.setInhibit n b = { s with regs := (s.setInhibit n b).regs, lanes := (s.setInhibit n b).lanes } := by
  have hset : s.setInhibit n b = (if (b && !s.on (.srv n) F.SRV_STAT_WINH && (s.lane n).wgate) = true
      then (s.setF (.srv n) F.SRV_STAT_WINH (bit b)).count64 (.srv n) Reg.SRV_CNT_WINH_LO
      else s.setF (.srv n) F.SRV_STAT_WINH (bit b)).updWgate n := by
    simp only [State.setInhibit, hidle, Bool.and_false, Bool.false_eq_true, if_false]
  have hfield : RegsBut s (s.setF (.srv n) F.SRV_STAT_WINH (bit b)) (modeRegs n) := (RegsBut.setF s _ _ _ (by decide)).mono (by simp)
  have hone : s.setF (.srv n) F.SRV_STAT_WINH (bit b) = { s with regs := (s.setF (.srv n) F.SRV_STAT_WINH (bit b)).regs } := rfl
  rw [hset]
  generalize s.setF (.srv n) F.SRV_STAT_WINH (bit b) = s1 at hfield hone
  split
  · have hcount := s1.count64_only (.srv n) Reg.SRV_CNT_WINH_LO
    have hregs : RegsBut s1 (s1.count64 (.srv n) Reg.SRV_CNT_WINH_LO) (modeRegs n) :=
      (RegsBut.count64 s1 (.srv n) (by decide)).mono (by simp)
    generalize s1.count64 (.srv n) Reg.SRV_CNT_WINH_LO = s2 at hcount hregs
    exact ⟨(hfield.trans hregs).trans (RegsBut.of_regs rfl), by rw [hcount, hone]; rfl⟩
  · exact ⟨hfield.trans (RegsBut.of_regs rfl), by rw [hone]; rfl⟩

/-! ### Loss of lock and modes (R156, R181, R186, R187) -/

/-- SLOCK falls: it is clear and the write inhibit set. -/
theorem State.slockFall_stat (s : State) (n : Fin 4) : (s.slockFall n).slock n = false
    ∧ (s.slockFall n).on (.srv n) F.SRV_STAT_WINH = true ∧ ServoKept n inhibitRegs s (s.slockFall n) := by
  have hslock : ∀ (t : State) (b : Bool), (t.setInhibit n b).slock n = t.slock n := fun t b =>
    congrArg (· == 1) (t.setInhibit_field n b (f := F.SRV_STAT_SLOCK) (by decide))
  unfold State.slockFall
  dsimp only
  split
  · generalize hs1 : s.setF (.srv n) F.SRV_STAT_SLOCK 0 = s1
    have hclear : s1.slock n = false := hs1 ▸ s.on_setF_same (.srv n) (f := F.SRV_STAT_SLOCK) rfl (by decide) false
    have hkept : ServoKept n inhibitRegs s s1 := hs1 ▸ (ServoKept.setReg s n (by decide) _).mono (by simp)
    have hhalt : ServoKept n [] (s1.setInhibit n true) (((s1.setInhibit n true).haltTiming n true).updAgate n) := fun o ho _ =>
      (State.updAgate_srv _ n n ho).trans (State.haltTiming_srv _ n true n ho)
    refine ⟨?_, ?_, (hkept.trans (s1.setInhibit_stat n true).2).trans (hhalt.mono (by simp))⟩
    · exact (hhalt.on (f := F.SRV_STAT_SLOCK) (by decide) (by simp)).trans ((hslock s1 true).trans hclear)
    · exact (hhalt.on (f := F.SRV_STAT_WINH) (by decide) (by simp)).trans (s1.setInhibit_winh n true)
  · next h =>
    exact ⟨(hslock s true).trans (eq_false_of_ne_true h), s.setInhibit_winh n true, (s.setInhibit_stat n true).2⟩

theorem pivUnit_ne_srv (n m : Fin 4) : pivUnit n ≠ .srv m := nofun

/-- Another mode than FOLLOW is entered: the write inhibit is set, and the fields apart from MODE and it stay. -/
theorem State.enterMode_stat (s : State) (n : Fin 4) {m : Nat} (hm : m ≠ mFollow) : (s.enterMode n m).on (.srv n) F.SRV_STAT_WINH = true
    ∧ (s.enterMode n m).slock n = s.slock n ∧ ServoKept n inhibitRegs s (s.enterMode n m) := by
  have hmode : (s.setMode n m).slock n = s.slock n := s.on_setF_ne (.srv n) F.SRV_STAT_MODE F.SRV_STAT_SLOCK m rfl (by decide) (by decide)
  have hkept : ServoKept n inhibitRegs s (s.setMode n m) := (ServoKept.setReg s n (by decide) _).mono (by simp)
  unfold State.enterMode
  rw [if_neg hm]
  generalize s.setMode n m = s1 at hmode hkept
  have hslock : (s1.setInhibit n true).slock n = s.slock n :=
    (congrArg (· == 1) (s1.setInhibit_field n true (f := F.SRV_STAT_SLOCK) (by decide))).trans hmode
  have hwinh := s1.setInhibit_winh n true
  have hall := hkept.trans (s1.setInhibit_stat n true).2
  dsimp only
  generalize s1.setInhibit n true = s2 at hslock hwinh hall ⊢
  split
  · exact ⟨hwinh, hslock, hall⟩
  · have hpiv := ServoKept.setReg_other s2 n (pivUnit_ne_srv n n) (mbxOff_lt n)
      (F.PIV_MBX0_VALID.put (s2.reg (pivUnit n) (mbxOff n)) 0)
    exact ⟨(hpiv.on (f := F.SRV_STAT_WINH) (by decide) (by simp)).trans hwinh,
      (hpiv.on (f := F.SRV_STAT_SLOCK) (by decide) (by simp)).trans hslock, hall.trans (hpiv.mono (by simp))⟩

/-- A mode without a position loop is entered: the lane's mailbox slot is not valid (R189). -/
theorem State.enterMode_mailbox (s : State) (n : Fin 4) {m : Nat} (hm : closedLoop m = false) :
    F.PIV_MBX0_VALID.get ((s.enterMode n m).reg (.piv (pivotOf n)) (mbxOff n)) = 0 := by
  unfold State.enterMode
  rw [hm]
  exact (congrArg F.PIV_MBX0_VALID.get (State.reg_setReg_same _ _ _ _)).trans (Field.get_put _ _ _ (by decide))

/-- MED_ROT_POS is the media group's. -/
theorem State.rotValid_kept (s : State) (n : Fin 4) : ServoKept n [] s s.rotValid := by
  have hmed : ∀ (t : State) {o : Nat} (w : Word), o < 0x1000 → ServoKept n [] t (t.setReg .med o w) := fun t o w ho =>
    .setReg_other t n (by nofun) ho w
  unfold State.rotValid
  split
  · exact .refl n _ s
  · split
    · exact (hmed _ _ (by decide)).trans (hmed _ _ (by decide))
    · exact .refl n _ s

end Sys2Proof.Machine

/-! SUPPORT. The current loop, the end of a seek, an unload and a coefficient write: what each writes, and what a refused access leaves. -/

namespace Sys2Proof.Machine

variable {s t : State}

theorem exec_vcmCurrentLoop (x : CoilSense) (s : State) : exec (.vcmCurrentLoop x) s
    = doneRetract s (fun s => s.when (s.mode x.lane == mRetract || (s.live (.srv x.lane)
        && decide (mLoading ≤ s.mode x.lane ∧ s.mode x.lane ≤ mUnloading))) (s.vcmLoop x.lane x.ma)) := rfl
theorem exec_lockRegainTimeout (n : Fin 4) (s : State) : exec (.lockRegainTimeout n) s
    = done s (fun s => s.when (s.mode n == mAcquire && (s.sv n).loadTry == 0) (s.beginUnload n)) := rfl
theorem exec_seekTimeout (c : SeekClock) (s : State) : exec (.seekTimeout c) s
    = done s (fun s => s.when (s.sv c.lane).seeking (s.seekTimeout c.lane c.us)) := rfl
theorem exec_coefWrite (e : Engine) (n : Fin 4) (v : Word) (s : State) : exec (.coefWrite e n v) s
    = done s (fun s => s.access e .store (.srv n) Reg.SRV_COEF_DATA (s.coefRefused n) (s.coefWrite n v)) := rfl

@[simp] theorem State.sv_setSv_same (s : State) (n : Fin 4) (v : Servo) : (s.setSv n v).sv n = v := by simp [State.sv, State.setSv]
@[simp] theorem State.sq_setSq_same (s : State) (n : Fin 4) (q : Sequencer) : (s.setSq n q).sq n = q := by simp [State.sq, State.setSq]

theorem State.setSv_only (s : State) (n : Fin 4) (v : Servo) : s.setSv n v = { s with srvs := (s.setSv n v).srvs } := rfl
@[simp] theorem State.sq_setSv (s : State) (n m : Fin 4) (v : Servo) : (s.setSv n v).sq m = s.sq m := rfl

theorem LaneOnly.sv (h : LaneOnly s t) (n : Fin 4) : t.sv n = s.sv n := by simp only [State.sv]; rw [h]
theorem LaneOnly.sq (h : LaneOnly s t) (n : Fin 4) : t.sq n = s.sq n := by simp only [State.sq]; rw [h]

/-! ### A command of the retract path, and a refused access (R29, R48) -/

/-- A command of the retract path completes with its effect while there is power (R48). -/
theorem Completes.of_doneRetract {i : Instr} {f : State → State} {P : State → Prop} (hp : s.dev.power ≠ .off)
    (he : exec i s = doneRetract s f) (hf : f (s.answer .none) = t) (h : P t) (hq : t.pending = s.pending) : Completes i s P := by
  have hkept : { t with pending := s.pending } = t := by
    cases t
    cases hq
    rfl
  refine Completes.of_leave (t := t) (he.trans ?_) (hkept.symm ▸ h)
  unfold doneRetract
  rw [if_neg hp]
  exact congrArg (leave s) hf

/-- A register access that the unit's own rule refuses ends with that bus error and changes nothing, but for what a core records of it
(R29, R384). -/
theorem Completes.of_denied {i : Instr} {e : Engine} {k : CoreKind} {u : UnitId} {off : Nat} {own : State → Option BusCause}
    {f : State → State} {b : BusCause} (hr : s.running) (hreset : s.inReset u = false) (hb : b.code < 16)
    (he : exec i s = done s (fun s => s.access e k u off (own s) (f s))) (hown : own (s.answer .none) = some b) :
    Completes i s (Denied e b s) := by
  have hreset' : (s.answer .none).inReset u = false := hreset
  have hend : (s.answer .none).access e k u off (own (s.answer .none)) (f (s.answer .none))
      = (s.answer (.busError b)).toRequester e k (regAddr u off) := by
    unfold State.access State.gate
    rw [hreset', hown]
    rfl
  have honly := (s.answer (.busError b)).toRequester_only e k (regAddr u off)
  refine Completes.of_result hr he hend ⟨State.toRequester_resp _ e k _, ?_, ?_⟩ (OnlyRegs.pending honly)
  · intro hcore
    cases e with
    | core c => exact absurd rfl (hcore c)
    | _ => rfl
  · rintro c rfl hv
    obtain ⟨-, hvalid, hcause, -, -, -, hrec⟩ := (s.answer (.busError b)).coreFault_free c k b (regAddr u off) hb hv
    exact ⟨hvalid, hcause, hrec⟩

/-! ### The current loop (R173, R197) -/

/-- The voltage code of the coil takes a value. -/
theorem State.setVcm_spec (s : State) (n : Fin 4) (v : Nat) :
    ((s.setF (.srv n) F.SRV_VCM_OUT_VCM v).spend).f (.srv n) F.SRV_VCM_OUT_VCM = v % 2 ^ 16
      ∧ ((s.setF (.srv n) F.SRV_VCM_OUT_VCM v).spend).f (.srv n) F.SRV_VCM_OUT_MA = s.f (.srv n) F.SRV_VCM_OUT_MA
      ∧ RegsBut s (s.setF (.srv n) F.SRV_VCM_OUT_VCM v).spend [(.srv n, Reg.SRV_VCM_OUT)] :=
  ⟨s.f_setF_same (.srv n) F.SRV_VCM_OUT_VCM v (by decide),
    s.f_setF_ne (.srv n) F.SRV_VCM_OUT_VCM F.SRV_VCM_OUT_MA v rfl (by decide) (by decide),
    (RegsBut.setF s _ F.SRV_VCM_OUT_VCM v (by decide)).trans (RegsBut.of_regs rfl)⟩

/-- The current loop runs in the modes that it serves. -/
theorem Completes.vcmCurrentLoop {n : Fin 4} {ma : Int} {P : State → Prop} (hp : s.dev.power ≠ .off)
    (hmode : (s.mode n == mRetract || (s.live (.srv n) && decide (mLoading ≤ s.mode n ∧ s.mode n ≤ mUnloading))) = true)
    (hf : (s.answer .none).vcmLoop n ma = t) (h : P t) (hq : t.pending = s.pending) : Completes (.vcmCurrentLoop ⟨n, ma⟩) s P := by
  refine Completes.of_doneRetract hp (exec_vcmCurrentLoop _ s) (Eq.trans ?_ hf) h hq
  exact if_pos hmode

/-! ### The end of a seek (R183 to R185) -/

/-- The SEEK ends with SEEK_ERR: its status, and what the engine and the sequencer hold of it (R184, R185). -/
theorem State.seekError_spec (s : State) (n : Fin 4) (us : Nat) :
    (s.seekError n us).sv n = { s.sv n with seeking := false, pendingSeek := false, check := 0 }
      ∧ (s.seekError n us).sq n = { s.sq n with seekErr := true }
      ∧ (s.seekError n us).f (.srv n) F.SRV_SEEK_STAT_RESULT = 2
      ∧ (s.seekError n us).f (.srv n) F.SRV_SEEK_STAT_TIME = min us 0xFFFFF
      ∧ RegsBut s (s.seekError n us) [(.srv n, Reg.SRV_SEEK_STAT)]
      ∧ s.seekError n us = { s with regs := (s.seekError n us).regs, dev := (s.seekError n us).dev, seqs := (s.seekError n us).seqs,
                                    srvs := (s.seekError n us).srvs } := by
  refine ⟨State.sv_setSv_same _ n _, State.sq_setSq_same _ n _, ?_, ?_, ?_, rfl⟩
  · exact ((State.f_setF_ne _ (.srv n) F.SRV_SEEK_STAT_TIME F.SRV_SEEK_STAT_RESULT _ rfl (by decide) (by decide)).trans
      (State.f_setF_ne _ (.srv n) F.SRV_SEEK_STAT_REPEAT F.SRV_SEEK_STAT_RESULT _ rfl (by decide) (by decide))).trans
      (State.f_setF_same _ (.srv n) F.SRV_SEEK_STAT_RESULT 2 (by decide))
  · exact (State.f_setF_same _ (.srv n) F.SRV_SEEK_STAT_TIME _ (by decide)).trans
      (Nat.mod_eq_of_lt (Nat.lt_of_le_of_lt (Nat.min_le_right _ _) (by decide)))
  · have hset : ∀ (t : State) (f : Field) (v : Nat), f.off = Reg.SRV_SEEK_STAT →
        RegsBut t (t.setF (.srv n) f v) [(.srv n, Reg.SRV_SEEK_STAT)] :=
      fun t f v hf => hf ▸ RegsBut.setF t (.srv n) f v (by rw [hf]; decide)
    exact (((hset _ _ _ rfl).trans (hset _ _ _ rfl)).trans (hset _ _ _ rfl)).trans (hset _ _ _ rfl)

/-- A SEEK that its mode ends: none is in progress after it, and the servo's status stays (R185). -/
theorem State.endSeekForMode_spec (s : State) (n : Fin 4) : ((s.endSeekForMode n).sv n).seeking = false
    ∧ ServoKept n [Reg.SRV_SEEK_STAT] s (s.endSeekForMode n) := by
  unfold State.endSeekForMode
  split
  · obtain ⟨hsv, -, -, -, hregs, -⟩ := s.seekError_spec n s.freeNat
    exact ⟨congrArg Servo.seeking hsv, .of_but (RegsBut.trans hregs (.of_regs rfl)) (by simp)⟩
  · next h => exact ⟨eq_false_of_ne_true h, .refl n _ s⟩

/-! ### The unload (R196) -/

theorem State.rotValid_srvs (s : State) : s.rotValid.srvs = s.srvs := by
  unfold State.rotValid
  split
  · rfl
  · split <;> rfl

/-- MED_ROT_POS is the one register that the loss of every lane's lock writes (R67). -/
theorem State.rotValid_regs (s : State) : RegsBut s s.rotValid [(.med, Reg.MED_ROT_POS)] := by
  unfold State.rotValid
  split
  · exact .refl s _
  · split
    · exact ((RegsBut.setF s .med F.MED_ROT_POS_VALID 0 (by decide)).trans
        (RegsBut.setF _ .med F.MED_ROT_POS_FRAC s.freeNat (by decide))).trans (.of_regs rfl)
    · exact .refl s _

/-- What an unload leaves besides its mode: no lock, the write inhibit, no SEEK and no valid mailbox slot (R156, R185, R189). -/
theorem State.beginUnload_spec (s : State) (n : Fin 4) : (s.beginUnload n).slock n = false
    ∧ (s.beginUnload n).on (.srv n) F.SRV_STAT_WINH = true ∧ ((s.beginUnload n).sv n).seeking = false
    ∧ F.PIV_MBX0_VALID.get ((s.beginUnload n).reg (.piv (pivotOf n)) (mbxOff n)) = 0 := by
  unfold State.beginUnload State.bemfDrive
  dsimp only
  obtain ⟨hclear, -, -⟩ := s.slockFall_stat n
  generalize s.slockFall n = s1 at hclear ⊢
  obtain ⟨hseek, hend⟩ := s1.endSeekForMode_spec n
  have hclear2 : (s1.endSeekForMode n).slock n = false := (hend.on (f := F.SRV_STAT_SLOCK) (by decide) (by decide)).trans hclear
  generalize s1.endSeekForMode n = s2 at hseek hclear2 ⊢
  obtain ⟨hwinh, hslock, -⟩ := s2.enterMode_stat n (m := mUnloading) (by decide)
  have hmbx := s2.enterMode_mailbox n (m := mUnloading) rfl
  have hseek3 : ((s2.enterMode n mUnloading).sv n).seeking = false := by rw [(s2.enterMode_only n mUnloading).sv n]; exact hseek
  generalize s2.enterMode n mUnloading = s3 at hwinh hslock hmbx hseek3 ⊢
  obtain ⟨-, -, hdrive⟩ := s3.setVcm_spec n s3.freeNat
  have hseek4 : ((s3.setF (.srv n) F.SRV_VCM_OUT_VCM s3.freeNat).spend.sv n).seeking = false := hseek3
  generalize (s3.setF (.srv n) F.SRV_VCM_OUT_VCM s3.freeNat).spend = s4 at hdrive hseek4 ⊢
  have hrot : RegsBut s3 (s4.setSv n { s4.sv n with offRamp := true }).rotValid [(.srv n, Reg.SRV_VCM_OUT), (.med, Reg.MED_ROT_POS)] :=
    (hdrive.mono (by simp)).trans ((RegsBut.trans (t := s4.setSv n { s4.sv n with offRamp := true }) (.of_regs rfl)
      (State.rotValid_regs _)).mono (by simp))
  refine ⟨?_, ?_, ?_, ?_⟩
  · exact (hrot.on (f := F.SRV_STAT_SLOCK) (by decide) (by simp)).trans (hslock.trans hclear2)
  · exact (hrot.on (f := F.SRV_STAT_WINH) (by decide) (by simp)).trans hwinh
  · simp only [State.sv, State.rotValid_srvs]
    exact (congrArg Servo.seeking (State.sv_setSv_same s4 n _)).trans hseek4
  · exact (congrArg F.PIV_MBX0_VALID.get (hrot _ _ (mbxOff_lt n) (by simp))).trans hmbx

end Sys2Proof.Machine

/-! SUPPORT. The seek timeout and a coefficient write. -/

namespace Sys2Proof.Machine

variable {s t : State}

/-! ### The seek timeout (R185) -/

/-- A mode of the position loop is entered while no write is in progress: the registers of a change of mode, and the lane's gate. -/
theorem State.enterMode_idle {n : Fin 4} {m : Nat} (hloop : closedLoop m = true) (hm : m ≠ mFollow) (hidle : s.writing n = false) :
    RegsBut s (s.enterMode n m) (modeRegs n)
      ∧ s.enterMode n m = { s with regs := (s.enterMode n m).regs, lanes := (s.enterMode n m).lanes } := by
  have hset : s.enterMode n m = (s.setMode n m).setInhibit n true := by
    unfold State.enterMode
    rw [if_neg hm, hloop]
    rfl
  have hmode : RegsBut s (s.setMode n m) (modeRegs n) := (RegsBut.setF s (.srv n) F.SRV_STAT_MODE m (by decide)).mono (by simp)
  obtain ⟨hregs, honly⟩ := State.setInhibit_idle (s := s.setMode n m) true (show (s.setMode n m).writing n = false from hidle)
  rw [hset]
  generalize (s.setMode n m).setInhibit n true = t at hregs honly ⊢
  exact ⟨hmode.trans hregs, by rw [honly]; rfl⟩

/-- The SEEK that timed out has ended with WDOG, and the target is the track the head stands on; MODE has not changed yet (R185). -/
def State.seekAborted (s : State) (n : Fin 4) (us : Nat) : State :=
  let u := (s.err (.srv n) eWdog).seekError n us
  u.setSv n { u.sv n with target := (u.f (.srv n) F.SRV_TRACK_TRACK : Nat) * unitsPerTrack, settle := 0 }

theorem State.seekTimeout_eq (s : State) (n : Fin 4) (us : Nat) : s.seekTimeout n us
    = if (s.seekAborted n us).mode n = mSeek then (s.seekAborted n us).enterMode n mSettle else s.seekAborted n us := rfl

/-- The SEEK that timed out has ended: its status, WDOG, and the target (R185). -/
theorem State.seekAborted_spec (s : State) (n : Fin 4) (us : Nat) {t : State} (ht : s.seekAborted n us = t) :
    (t.sv n).seeking = false ∧ (t.sv n).target = (s.f (.srv n) F.SRV_TRACK_TRACK : Int) * 51200 ∧ (t.sq n).seekErr = true
      ∧ (t.reg (.srv n) Reg.UNIT_ERR).getLsbD 7 = true ∧ t.f (.srv n) F.SRV_SEEK_STAT_RESULT = 2
      ∧ t.f (.srv n) F.SRV_SEEK_STAT_TIME = min us 0xFFFFF ∧ RegsBut s t [(.srv n, Reg.UNIT_ERR), (.srv n, Reg.SRV_SEEK_STAT)]
      ∧ t = { s with regs := t.regs, dev := t.dev, seqs := t.seqs, srvs := t.srvs } := by
  have herr : RegsBut s (s.err (.srv n) eWdog) [(.srv n, Reg.UNIT_ERR), (.srv n, Reg.SRV_SEEK_STAT)] :=
    (RegsBut.err s (.srv n) eWdog).mono (by simp)
  have hbit : ((s.err (.srv n) eWdog).reg (.srv n) Reg.UNIT_ERR).getLsbD 7 = true := s.err_bit rfl eWdog (.inl (by decide))
  unfold State.seekAborted at ht
  have herrOnly : s.err (.srv n) eWdog = { s with regs := (s.err (.srv n) eWdog).regs } := rfl
  generalize s.err (.srv n) eWdog = e at herr hbit herrOnly ht
  obtain ⟨hsv, hsq, hresult, htime, hseek, honly⟩ := e.seekError_spec n us
  generalize e.seekError n us = u at hsv hsq hresult htime hseek honly ht
  dsimp only at ht
  have hregs : RegsBut s u [(.srv n, Reg.UNIT_ERR), (.srv n, Reg.SRV_SEEK_STAT)] := herr.trans (hseek.mono (by simp))
  have htrack : u.f (.srv n) F.SRV_TRACK_TRACK = s.f (.srv n) F.SRV_TRACK_TRACK := hregs.f (by decide) (by simp)
  have htsv : t.sv n = { u.sv n with target := (s.f (.srv n) F.SRV_TRACK_TRACK : Nat) * unitsPerTrack, settle := 0 } := by
    rw [← ht, State.sv_setSv_same, htrack]
  have htregs : t.regs = u.regs := by rw [← ht, State.setSv_regs]
  have htsq : t.sq n = u.sq n := by rw [← ht, State.sq_setSv]
  refine ⟨?_, ?_, ?_, ?_, ?_, ?_, hregs.trans (.of_regs htregs), ?_⟩
  · rw [htsv, hsv]
  · rw [htsv]
  · rw [htsq, hsq]
  · have hreg : t.reg (.srv n) Reg.UNIT_ERR = e.reg (.srv n) Reg.UNIT_ERR := by
      rw [State.reg, htregs]; exact hseek _ _ (by decide) (by simp)
    rw [hreg]
    exact hbit
  · rw [State.f, State.reg, htregs]; exact hresult
  · rw [State.f, State.reg, htregs]; exact htime
  · have hstep : t = { u with srvs := t.srvs } := by rw [← ht, ← State.setSv_only]
    rw [hstep, honly, herrOnly]

/-- The seek timeout ends the SEEK with SEEK_ERR and WDOG, on the track the head stands on (R185). -/
theorem State.seekTimeout_spec (s : State) (n : Fin 4) (us : Nat) {t : State} (ht : s.seekTimeout n us = t) :
    (t.sv n).seeking = false ∧ (t.sq n).seekErr = true ∧ (t.reg (.srv n) Reg.UNIT_ERR).getLsbD 7 = true
      ∧ t.f (.srv n) F.SRV_SEEK_STAT_RESULT = 2 ∧ t.f (.srv n) F.SRV_SEEK_STAT_TIME = min us 0xFFFFF
      ∧ (t.sv n).target = (s.f (.srv n) F.SRV_TRACK_TRACK : Int) * 51200
      ∧ t.mode n = (if s.mode n = mSeek then mSettle else s.mode n)
      ∧ (s.writing n = false → RegsBut s t ((.srv n, Reg.UNIT_ERR) :: (.srv n, Reg.SRV_SEEK_STAT) :: modeRegs n)
          ∧ t = { s with regs := t.regs, srvs := t.srvs, seqs := t.seqs, dev := t.dev, lanes := t.lanes }) := by
  rw [State.seekTimeout_eq] at ht
  generalize hv : s.seekAborted n us = v at ht
  obtain ⟨hseeking, htarget, hseekErr, hbit, hresult, htime, hregs, honly⟩ := s.seekAborted_spec n us hv
  have hmode : v.mode n = s.mode n := hregs.f (f := F.SRV_STAT_MODE) (by decide) (by simp)
  have hall : RegsBut s v ((.srv n, Reg.UNIT_ERR) :: (.srv n, Reg.SRV_SEEK_STAT) :: modeRegs n) := hregs.mono (by simp)
  rw [hmode] at ht
  split at ht
  · next hseek =>
    obtain ⟨-, -, hkept⟩ := v.enterMode_stat n (m := mSettle) (by decide)
    have hsv := (v.enterMode_only n mSettle).sv n
    have hsq := (v.enterMode_only n mSettle).sq n
    have hsettle := v.enterMode_mode n (m := mSettle) (by decide)
    have hidle := State.enterMode_idle (s := v) (n := n) (m := mSettle) rfl (by decide)
    rw [ht] at hkept hsv hsq hsettle hidle
    refine ⟨hsv ▸ hseeking, hsq ▸ hseekErr, ?_, (hkept.f (by decide) (by decide)).trans hresult,
      (hkept.f (by decide) (by decide)).trans htime, hsv ▸ htarget, by rw [if_pos hseek]; exact hsettle, fun hwrite => ?_⟩
    · rw [hkept Reg.UNIT_ERR (by decide) (by decide)]; exact hbit
    · obtain ⟨hmodeRegs, hmodeOnly⟩ := hidle (by rw [honly]; exact hwrite)
      exact ⟨hall.trans (hmodeRegs.mono (by simp)), by rw [hmodeOnly, honly]⟩
  · next hseek =>
    subst ht
    exact ⟨hseeking, hseekErr, hbit, hresult, htime, htarget, by rw [if_neg hseek]; exact hmode, fun _ => ⟨hall, by rw [honly]⟩⟩

/-- The seek timeout is a lane's work. -/
theorem State.seekTimeout_reach (s : State) (n : Fin 4) (us : Nat) : LaneReach n s (s.seekTimeout n us) := by
  have haborted : LaneReach n s (s.seekAborted n us) :=
    ((LaneReach.of_setReg s (by decide) (.srv _ _) _).trans (State.seekError_reach _ n us)).trans (LaneReach.setSv _ _)
  rw [State.seekTimeout_eq]
  split
  · exact haborted.trans (State.enterMode_reach _ n mSettle)
  · exact haborted

/-! ### Coefficients (R174, R175) -/

/-- AUTOINC advances an index, or the registers stay. -/
theorem State.advance_index (s : State) {n : Fin 4} {t : State} (h : s.f (.srv n) F.SRV_COEF_IDX_INDEX < 512)
    (ht : s.advance (.srv n) F.SRV_COEF_IDX_AUTOINC F.SRV_COEF_IDX_INDEX 1024 = t) :
    t.f (.srv n) F.SRV_COEF_IDX_INDEX = (if s.on (.srv n) F.SRV_COEF_IDX_AUTOINC = true then s.f (.srv n) F.SRV_COEF_IDX_INDEX + 1
        else s.f (.srv n) F.SRV_COEF_IDX_INDEX)
      ∧ RegsBut s t [(.srv n, Reg.SRV_COEF_IDX)] ∧ t = { s with regs := t.regs } := by
  rw [← ht]
  unfold State.advance
  by_cases hauto : s.on (.srv n) F.SRV_COEF_IDX_AUTOINC = true
  · rw [if_pos hauto, if_pos hauto]
    refine ⟨?_, RegsBut.setF s (.srv n) F.SRV_COEF_IDX_INDEX _ (by decide), rfl⟩
    rw [State.f_setF_same _ _ _ _ (by decide),
      Nat.mod_eq_of_lt (show _ % 1024 < 2 ^ F.SRV_COEF_IDX_INDEX.width from Nat.mod_lt _ (by decide)),
      Nat.mod_eq_of_lt (by omega)]
  · rw [if_neg hauto, if_neg hauto]
    exact ⟨rfl, .refl s _, rfl⟩

/-- A coefficient write: the coefficient selected alone changes, and the index advances under AUTOINC (R174, R175). -/
theorem State.coefWrite_spec (s : State) {n : Fin 4} (v : Word) {t : State} (h : s.f (.srv n) F.SRV_COEF_IDX_INDEX < 512)
    (ht : s.coefWrite n v = t) :
    (∀ i, Sparse.get (fun _ => 0) (t.sv n).coef i
        = if i = s.f (.srv n) F.SRV_COEF_IDX_INDEX then v else Sparse.get (fun _ => 0) (s.sv n).coef i)
      ∧ t.f (.srv n) F.SRV_COEF_IDX_INDEX = (if s.on (.srv n) F.SRV_COEF_IDX_AUTOINC = true then s.f (.srv n) F.SRV_COEF_IDX_INDEX + 1
          else s.f (.srv n) F.SRV_COEF_IDX_INDEX)
      ∧ RegsBut s t [(.srv n, Reg.SRV_COEF_IDX)] ∧ t = { s with regs := t.regs, srvs := t.srvs } := by
  unfold State.coefWrite at ht
  dsimp only at ht
  rw [if_pos (by omega)] at ht
  generalize hu : s.setSv n { s.sv n with coef := Sparse.set (fun _ => 0) (s.sv n).coef (s.f (.srv n) F.SRV_COEF_IDX_INDEX) v } = u at ht
  have hregs : u.regs = s.regs := by rw [← hu]; rfl
  have hfield : ∀ f, u.f (.srv n) f = s.f (.srv n) f := fun f => by rw [State.f, State.f, State.reg, hregs, State.reg]
  have hon : u.on (.srv n) F.SRV_COEF_IDX_AUTOINC = s.on (.srv n) F.SRV_COEF_IDX_AUTOINC := congrArg (· == 1) (hfield _)
  obtain ⟨hindex, hbut, honly⟩ := u.advance_index (by rw [hfield]; exact h) ht
  rw [hon, hfield] at hindex
  refine ⟨fun i => ?_, hindex, RegsBut.trans (.of_regs hregs) hbut, ?_⟩
  · have hsv : t.sv n = u.sv n := by rw [honly]; rfl
    rw [hsv, ← hu, State.sv_setSv_same, Sparse.get_set]
  · rw [honly, ← hu]
    rfl

/-- A coefficient of a bank in no use is taken, one of a bank in use denied (R175). -/
theorem State.coefRefused_bank {n : Fin 4} (h : s.f (.srv n) F.SRV_COEF_IDX_INDEX < 512) : s.coefRefused n
    = if s.bankNamed n (s.f (.srv n) F.SRV_COEF_IDX_INDEX / 64) then some .accessDenied else none := if_pos h

end Sys2Proof.Machine

/-! SUPPORT. One control sample: how it begins and ends whatever the wedge brings, and what it is in FOLLOW. -/

namespace Sys2Proof.Machine

variable {s t : State}

theorem exec_servoWedge (n : Fin 4) (r : WedgeRead) (us : Nat) (s : State) :
    exec (.servoWedge n r us) s = done s (fun s => s.servoWedge n r us) := rfl

/-! ### The beginning of a sample (R103, R175) -/

/-- A sample begins: the loops have run, the wedge closes the data window, and the bank of the mode comes into force. -/
def State.sampleBegun (s : State) (n : Fin 4) : State :=
  ((s.runLoops n).setTim n { (s.runLoops n).tim n with excl := true }).takeBank n

theorem State.sampleBegun_spec (s : State) (n : Fin 4) : (s.sampleBegun n).regs = s.regs ∧ ((s.sampleBegun n).tim n).excl = true
    ∧ (∃ b now, (s.sampleBegun n).sv n = { s.sv n with bank := b, bankNow := now })
    ∧ s.sampleBegun n = { s with srvs := (s.sampleBegun n).srvs, timing := (s.sampleBegun n).timing, chns := (s.sampleBegun n).chns,
                                 freeCtr := (s.sampleBegun n).freeCtr } := by
  unfold State.sampleBegun
  have honly := s.runLoops_only n
  generalize s.runLoops n = u at honly ⊢
  have htim : (u.setTim n { u.tim n with excl := true }).tim n = { u.tim n with excl := true } := State.tim_setTim_same u n _
  have hset : u.setTim n { u.tim n with excl := true } = { u with timing := (u.setTim n { u.tim n with excl := true }).timing } := rfl
  generalize u.setTim n { u.tim n with excl := true } = v at htim hset ⊢
  have hsv : v.sv n = s.sv n := by rw [hset, honly]; rfl
  refine ⟨by rw [State.takeBank, State.setSv_regs, hset, honly], congrArg Timing.excl htim, ⟨(v.reg (.srv n) Reg.SRV_BANK).toNat,
    bankOf (v.mode n) (v.reg (.srv n) Reg.SRV_BANK).toNat, ?_⟩, ?_⟩
  · rw [State.takeBank, State.sv_setSv_same, hsv]
  · rw [State.takeBank, State.setSv_only, hset, honly]

/-! ### The end of a sample (R173, R176, R189, R190) -/

/-- A sample ends: the velocity limit, the partner's slot, the control law with its codes and the lane's slot, and the write gate. -/
def State.sampleEnd (s : State) (n : Fin 4) : State := (((s.seekProfile n).partnerStep n).dacUpdate n).updWgate n

/-- What the end of a sample leaves: all but its registers, where SRV_STAT keeps every field but STALE, the lane's gate and the servo's
own state, where the position and the miss stay. -/
structure SampleTail (n : Fin 4) (s t : State) : Prop where
  regs : RegsBut s t [(.srv n, Reg.SRV_STAT), (.srv n, Reg.SRV_VCM_OUT), (.piv (pivotOf n), mbxOff n),
    (.piv (pivotOf n), Reg.PIV_RTC_STAT)]
  stat : ∀ f, FieldsApart F.SRV_STAT_STALE f → t.f (.srv n) f = s.f (.srv n) f
  pos : (t.sv n).pos = (s.sv n).pos
  missed : (t.sv n).missed = (s.sv n).missed
  only : t = { s with regs := t.regs, srvs := t.srvs, lanes := t.lanes, freeCtr := t.freeCtr }

variable {n : Fin 4}

theorem SampleTail.refl (s : State) : SampleTail n s s := ⟨.refl s _, fun _ _ => rfl, rfl, rfl, rfl⟩

theorem SampleTail.trans {u : State} (h : SampleTail n s t) (k : SampleTail n t u) : SampleTail n s u where
  regs := h.regs.trans k.regs
  stat f hf := (k.stat f hf).trans (h.stat f hf)
  pos := k.pos.trans h.pos
  missed := k.missed.trans h.missed
  only := by rw [k.only, h.only]

/-- The servo's own state changes in other parts. -/
theorem SampleTail.setSv (s : State) (v : Servo) (hpos : v.pos = (s.sv n).pos) (hmissed : v.missed = (s.sv n).missed) :
    SampleTail n s (s.setSv n v) where
  regs := .of_regs rfl
  stat _ _ := rfl
  pos := by rw [State.sv_setSv_same, hpos]
  missed := by rw [State.sv_setSv_same, hmissed]
  only := rfl

/-- A register of the sample's other than SRV_STAT is written. -/
theorem SampleTail.setReg (s : State) {u : UnitId} {o : Nat} (w : Word) (ho : o < 0x1000)
    (hu : (u, o) = (.srv n, Reg.SRV_VCM_OUT) ∨ (u, o) = (.piv (pivotOf n), mbxOff n) ∨ (u, o) = (.piv (pivotOf n), Reg.PIV_RTC_STAT)) :
    SampleTail n s (s.setReg u o w) where
  regs := (RegsBut.setReg s u ho w).mono (by simpa using Or.inr hu)
  stat f hf := by
    refine (RegsBut.setReg s u ho w).f (by rw [hf.1]; decide) ?_
    rw [hf.1, List.mem_singleton]
    rintro h
    rw [← h] at hu
    simp at hu
  pos := rfl
  missed := rfl
  only := rfl

theorem SampleTail.spend (s : State) : SampleTail n s s.spend := ⟨.of_regs rfl, fun _ _ => rfl, rfl, rfl, rfl⟩

theorem SampleTail.updWgate (s : State) : SampleTail n s (s.updWgate n) := ⟨.of_regs rfl, fun _ _ => rfl, rfl, rfl, rfl⟩

/-- STALE takes a value. -/
theorem SampleTail.stale (s : State) (v : Nat) : SampleTail n s (s.setF (.srv n) F.SRV_STAT_STALE v) where
  regs := (RegsBut.setF s (.srv n) F.SRV_STAT_STALE v (by decide)).mono (by simp)
  stat f hf := s.f_setF_ne (.srv n) F.SRV_STAT_STALE f v hf.1 hf.2.1 hf.2.2
  pos := rfl
  missed := rfl
  only := rfl

/-- The partner's slot at a sample (R190). -/
theorem State.partnerStep_tail (s : State) (n : Fin 4) : SampleTail n s (s.partnerStep n) := by
  unfold State.partnerStep
  extract_lets w v seq same stale s1 fld
  have h1 : SampleTail n s s1 := (SampleTail.setSv s _ (by rfl) (by rfl)).trans (SampleTail.stale _ _)
  have hfld : fld.off = Reg.PIV_RTC_STAT := by
    simp only [fld]
    split <;> rfl
  split
  · exact h1.trans (SampleTail.setReg s1 _ (by rw [hfld]; decide) (.inr (.inr (by rw [hfld]; rfl))))
  · exact h1

/-- The control law changes the current and the bias alone (R173, R190). -/
theorem State.controlLaw_tail (s : State) (n : Fin 4) : SampleTail n s (s.controlLaw n) := by
  unfold State.controlLaw
  split
  · exact .refl s
  · exact (((SampleTail.spend s).trans (SampleTail.setSv _ _ (by rfl) (by rfl))).trans (SampleTail.spend _))

/-- The DAC codes (R173). -/
theorem State.dacCodes_tail (s : State) (n : Fin 4) : SampleTail n s (s.dacCodes n) := by
  have hcode : ∀ (t : State) (f : Field) (v : Nat), f.off = Reg.SRV_VCM_OUT → SampleTail n t (t.setF (.srv n) f v).spend := fun t f v hf =>
    (SampleTail.setReg t _ (by rw [hf]; decide) (.inl (by rw [hf]))).trans (SampleTail.spend _)
  unfold State.dacCodes
  split
  · exact .refl s
  · exact (hcode _ _ _ rfl).trans (hcode _ _ _ rfl)

/-- The lane's mailbox slot (R189). -/
theorem State.mailboxWrite_tail (s : State) (n : Fin 4) : SampleTail n s (s.mailboxWrite n) := by
  unfold State.mailboxWrite
  split
  · exact SampleTail.setReg s _ (mbxOff_lt n) (.inr (.inl rfl))
  · exact .refl s

/-- The end of a sample. -/
theorem State.sampleEnd_tail (s : State) (n : Fin 4) : SampleTail n s (s.sampleEnd n) := by
  have hprofile : SampleTail n s (s.seekProfile n) := SampleTail.setSv s _ (by rfl) (by rfl)
  have hdac : ∀ t : State, SampleTail n t (t.dacUpdate n) := fun t =>
    ((t.controlLaw_tail n).trans (State.dacCodes_tail _ n)).trans (State.mailboxWrite_tail _ n)
  exact ((hprofile.trans (State.partnerStep_tail _ n)).trans (hdac _)).trans (SampleTail.updWgate _)

/-- A register of the servo that the end of a sample does not write. -/
theorem SampleTail.kept (h : SampleTail n s t) : ServoKept n [Reg.SRV_STAT, Reg.SRV_VCM_OUT] s t :=
  .of_but h.regs (by simp)

/-- A flag of SRV_STAT apart from STALE. -/
theorem SampleTail.on (h : SampleTail n s t) {f : Field} (hf : FieldsApart F.SRV_STAT_STALE f) : t.on (.srv n) f = s.on (.srv n) f :=
  congrArg (· == 1) (h.stat f hf)

/-! ### A sample in FOLLOW (R173) -/

/-- A state with the registers of another shows its mode. -/
theorem State.mode_of_regs (h : t.regs = s.regs) : t.mode n = s.mode n := by simp only [State.mode, State.f, State.reg, h]

/-- A wedge of a live servo in FOLLOW, with no move of the target waiting, is a good or a missed one. -/
theorem State.servoWedge_follow {r : WedgeRead} (us : Nat) (hlive : s.live (.srv n) = true) (hmode : s.mode n = mFollow)
    (hw : r.wnum < s.wedges) (hmoved : (s.sv n).moved = false) : s.servoWedge n r us
      = (if r.ok = true then (s.sampleBegun n).goodWedge n r us else (s.sampleBegun n).missedWedge n us).sampleEnd n := by
  obtain ⟨hregs, -, ⟨b, now, hsv⟩, -⟩ := s.sampleBegun_spec n
  have hfollow : (s.sampleBegun n).mode n = mFollow := (State.mode_of_regs hregs).trans hmode
  have hmove : (s.sampleBegun n).applyMove n = s.sampleBegun n := if_pos (by rw [hsv, hmoved]; rfl)
  have hguard : (!(s.live (.srv n) && closedLoop (s.mode n) && decide (r.wnum < s.wedges))) = false := by
    rw [hlive, hmode, decide_eq_true hw]
    rfl
  calc s.servoWedge n r us
      = (if (s.sampleBegun n).mode n = mAcquire then (s.sampleBegun n).acquireWedge n r
          else if r.ok = true then ((s.sampleBegun n).applyMove n).goodWedge n r us
          else ((s.sampleBegun n).applyMove n).missedWedge n us).sampleEnd n := by
        unfold State.servoWedge
        rw [hguard]
        rfl
    _ = _ := by rw [if_neg (by rw [hfollow]; decide), hmove]

end Sys2Proof.Machine

/-! SUPPORT. A wedge in FOLLOW: what a good one publishes, and what the first and the second miss in succession do. -/

namespace Sys2Proof.Machine

variable {s t : State} {n : Fin 4}

/-! ### What a good wedge publishes (R67, R171, R172) -/

/-- MED_ROT_POS alone takes the wedge, and is valid (R67). -/
theorem State.rotPos_spec (s : State) (n : Fin 4) (w : Nat) : (s.rotPos n w).on .med F.MED_ROT_POS_VALID = true
    ∧ RegsBut s (s.rotPos n w) [(.med, Reg.MED_ROT_POS)] ∧ s.rotPos n w = { s with regs := (s.rotPos n w).regs } := by
  unfold State.rotPos
  dsimp only
  generalize (if n.val < 2 then w else (w + s.wedges - s.wedges / 2) % s.wedges) = p
  refine ⟨?_, ?_, rfl⟩
  · rw [State.on_setF_ne _ .med F.MED_ROT_POS_FRAC F.MED_ROT_POS_VALID 0 rfl (by decide) (by decide),
      State.on_setF_ne _ .med F.MED_ROT_POS_WEDGE F.MED_ROT_POS_VALID p rfl (by decide) (by decide)]
    exact s.on_setF_same .med rfl (by decide) true
  · exact ((RegsBut.setF s .med F.MED_ROT_POS_VALID 1 (by decide)).trans (RegsBut.setF _ .med F.MED_ROT_POS_WEDGE p (by decide))).trans
      (RegsBut.setF _ .med F.MED_ROT_POS_FRAC 0 (by decide))

/-- SRV_TRACK and SRV_PES after a good wedge with error `e` (R172). -/
def State.wedgePublished (s : State) (n : Fin 4) (r : WedgeRead) (e : Int) : State :=
  ((((s.setF (.srv n) F.SRV_TRACK_VALID 1).setF (.srv n) F.SRV_TRACK_TRACK r.track).setF (.srv n)
    F.SRV_PES_MISS 0).setF (.srv n) F.SRV_PES_WEDGE r.wnum).setF (.srv n) F.SRV_PES_ERR (unsigned 16 (pesErr e))

theorem unsigned_lt (w : Nat) (x : Int) : unsigned w x < 2 ^ w := by
  have hpos : (0 : Int) < 2 ^ w := by positivity
  have hlt : x % (2 ^ w : Int) < 2 ^ w := Int.emod_lt_of_pos x hpos
  have hge : 0 ≤ x % (2 ^ w : Int) := Int.emod_nonneg x hpos.ne'
  unfold unsigned
  zify
  rwa [Int.toNat_of_nonneg hge]

theorem State.wedgePublished_spec (s : State) (n : Fin 4) {r : WedgeRead} (e : Int) (htrack : r.track < 2 ^ 22) :
    (s.wedgePublished n r e).f (.srv n) F.SRV_TRACK_TRACK = r.track ∧ (s.wedgePublished n r e).f (.srv n) F.SRV_PES_WEDGE = r.wnum
      ∧ (s.wedgePublished n r e).on (.srv n) F.SRV_PES_MISS = false
      ∧ (s.wedgePublished n r e).f (.srv n) F.SRV_PES_ERR = unsigned 16 (pesErr e)
      ∧ RegsBut s (s.wedgePublished n r e) [(.srv n, Reg.SRV_TRACK), (.srv n, Reg.SRV_PES)]
      ∧ s.wedgePublished n r e = { s with regs := (s.wedgePublished n r e).regs } := by
  have hset : ∀ (t : State) (f : Field) (v : Nat), f.off = Reg.SRV_TRACK ∨ f.off = Reg.SRV_PES →
      RegsBut t (t.setF (.srv n) f v) [(.srv n, Reg.SRV_TRACK), (.srv n, Reg.SRV_PES)] := fun t f v hf =>
    (RegsBut.setF t (.srv n) f v (by obtain hf | hf := hf <;> rw [hf] <;> decide)).mono (by simpa using hf)
  unfold State.wedgePublished
  refine ⟨?_, ?_, ?_, ?_, ?_, rfl⟩
  · rw [State.f_setF_off _ (by decide), State.f_setF_off _ (by decide), State.f_setF_off _ (by decide),
      State.f_setF_same _ _ _ _ (by decide)]
    exact Nat.mod_eq_of_lt htrack
  · rw [State.f_setF_ne _ _ F.SRV_PES_ERR F.SRV_PES_WEDGE _ rfl (by decide) (by decide), State.f_setF_same _ _ _ _ (by decide)]
    exact Nat.mod_eq_of_lt r.wn.isLt
  · rw [State.on_setF_ne _ _ F.SRV_PES_ERR F.SRV_PES_MISS _ rfl (by decide) (by decide),
      State.on_setF_ne _ _ F.SRV_PES_WEDGE F.SRV_PES_MISS _ rfl (by decide) (by decide)]
    exact State.on_setF_same _ (.srv n) rfl (by decide) false
  · rw [State.f_setF_same _ _ _ _ (by decide)]
    exact Nat.mod_eq_of_lt (unsigned_lt 16 _)
  · exact ((((hset _ _ _ (.inl rfl)).trans (hset _ _ _ (.inl rfl))).trans (hset _ _ _ (.inr rfl))).trans (hset _ _ _ (.inr rfl))).trans
      (hset _ _ _ (.inr rfl))

/-! ### A good wedge (R172, R187) -/

/-- The runout correction reads the servo's control, its span, its head and its table. -/
theorem State.runout_congr {l : List Nat} (hk : ServoKept n l s t) (hl : ∀ o ∈ l, o ≠ Reg.SRV_CTL ∧ o ≠ Reg.SRV_STAT ∧ o ≠ Reg.SRV_RRO_SPAN)
    (hrro : (t.sv n).rro = (s.sv n).rro) (w k : Nat) (p : Parity) : t.runout n w k p = s.runout n w k p := by
  have hfield : ∀ f : Field, f.off < 0x1000 → f.off = Reg.SRV_CTL ∨ f.off = Reg.SRV_STAT ∨ f.off = Reg.SRV_RRO_SPAN →
      t.f (.srv n) f = s.f (.srv n) f := fun f ho hf => hk.f ho fun hm => by
    obtain ⟨hctl, hstat, hspan⟩ := hl _ hm
    obtain hf | hf | hf := hf
    · exact hctl hf
    · exact hstat hf
    · exact hspan hf
  have hon : t.on (.srv n) F.SRV_CTL_RRO_EN = s.on (.srv n) F.SRV_CTL_RRO_EN := congrArg (· == 1) (hfield _ (by decide) (.inl rfl))
  have hhead : t.activeHead n = s.activeHead n := hfield _ (by decide) (.inr (.inl rfl))
  have hspan := hfield F.SRV_RRO_SPAN_TRACKS (by decide) (.inr (.inr rfl))
  simp only [State.runout, hon, hhead, hspan, hrro]

/-- The write-inhibit threshold is the servo's. -/
theorem ServoKept.wiThr {l : List Nat} (h : ServoKept n l s t) (hl : Reg.SRV_PES_THR ∉ l) : t.wiThr n = s.wiThr n := by
  simp only [State.wiThr, h.f (f := F.SRV_PES_THR_WI_THR) (by decide) hl]

/-- In FOLLOW with no track check due, a sample leaves the mode. -/
theorem State.modeStep_follow (hmode : s.mode n = mFollow) (hcheck : (s.sv n).check = 0) (e : Int) (track : Option Nat) (us : Nat) :
    s.modeStep n e track us = s := by
  have hkeep : s.seekCheck n track us = s := if_pos hcheck
  simp only [State.modeStep, hmode, hkeep, mFollow, mSeek, mSettle, if_true]
  rfl

/-- With no shock in force the shock response does nothing. -/
theorem State.shockStep_none (h : (s.sv n).shockInh = false) (good : Bool) : s.shockStep n good = s :=
  if_pos (by rw [h]; rfl)

/-- The runout word that read well changes nothing. -/
theorem State.runoutFault_ok (s : State) (n : Fin 4) : s.runoutFault n .ok = s := rfl

/-- The error of a good wedge whose runout word read well, in 1/51,200 of track pitch (R172, R177). -/
def State.wedgeError (s : State) (n : Fin 4) (r : WedgeRead) : Int :=
  r.pos * 25 - (s.sv n).target - s.runout n r.wnum r.track .ok * 25

/-- A good wedge in FOLLOW: the position, the published error, and the servo's own state, before the write inhibit takes its value. -/
def State.wedgeTaken (s : State) (n : Fin 4) (r : WedgeRead) : State :=
  let p := (s.rotPos n r.wnum).wedgePublished n r (s.wedgeError n r)
  p.setSv n { p.sv n with missed := false, wedge := r.wnum, pos := r.pos }

theorem State.wedgeTaken_spec (s : State) (n : Fin 4) {r : WedgeRead} {t : State} (htrack : r.track < 2 ^ 22) (ht : s.wedgeTaken n r = t) :
    t.f (.srv n) F.SRV_TRACK_TRACK = r.track ∧ t.f (.srv n) F.SRV_PES_WEDGE = r.wnum ∧ t.on (.srv n) F.SRV_PES_MISS = false
      ∧ t.f (.srv n) F.SRV_PES_ERR = unsigned 16 (pesErr (s.wedgeError n r)) ∧ t.on .med F.MED_ROT_POS_VALID = true
      ∧ t.sv n = { s.sv n with missed := false, wedge := r.wnum, pos := r.pos }
      ∧ RegsBut s t [(.srv n, Reg.SRV_TRACK), (.srv n, Reg.SRV_PES), (.med, Reg.MED_ROT_POS)]
      ∧ t = { s with regs := t.regs, srvs := t.srvs } := by
  unfold State.wedgeTaken at ht
  obtain ⟨hvalid, hrot, hrotOnly⟩ := s.rotPos_spec n r.wnum
  generalize s.rotPos n r.wnum = u at hvalid hrot hrotOnly ht
  obtain ⟨hpub, hwedge, hmiss, herr, hpes, hpesOnly⟩ := u.wedgePublished_spec n (s.wedgeError n r) htrack
  generalize u.wedgePublished n r (s.wedgeError n r) = p at hpub hwedge hmiss herr hpes hpesOnly ht
  dsimp only at ht
  have hregs : t.regs = p.regs := by rw [← ht, State.setSv_regs]
  have hfield : ∀ v f, t.f v f = p.f v f := fun v f => by simp only [State.f, State.reg, hregs]
  have hsv : p.sv n = s.sv n := by rw [hpesOnly, hrotOnly]; rfl
  refine ⟨(hfield _ _).trans hpub, (hfield _ _).trans hwedge, (congrArg (· == 1) (hfield _ _)).trans hmiss, (hfield _ _).trans herr,
    ?_, ?_, ?_, ?_⟩
  · exact (congrArg (· == 1) (hfield _ _)).trans ((hpes.on (by decide) (by simp)).trans hvalid)
  · rw [← ht, State.sv_setSv_same, hsv]
  · exact ((hrot.mono (by simp)).trans (hpes.mono (by simp))).trans (.of_regs hregs)
  · have hset : t = { p with srvs := t.srvs } := by rw [← ht, ← State.setSv_only]
    rw [hset, hpesOnly, hrotOnly]

/-- A good wedge in FOLLOW within the threshold, with lock and no miss, check or shock: the wedge is taken and the write inhibit clear
(R172, R187). -/
theorem State.goodWedge_follow {r : WedgeRead} (us : Nat) (hmode : s.mode n = mFollow) (hslock : s.slock n = true)
    (htrack : r.track < 2 ^ 22) (hrunout : r.runout = .ok) (hmissed : (s.sv n).missed = false) (hcheck : (s.sv n).check = 0)
    (hshock : (s.sv n).shockInh = false) (hwithin : beyond (s.wedgeError n r) (s.wiThr n) = false) :
    s.goodWedge n r us = (s.wedgeTaken n r).setInhibit n false := by
  have herror : r.pos * 25 - ((s.rotPos n r.wnum).sv n).target - (s.rotPos n r.wnum).runout n r.wnum r.track .ok * 25
      = s.wedgeError n r := by
    obtain ⟨-, hrot, hrotOnly⟩ := s.rotPos_spec n r.wnum
    generalize s.rotPos n r.wnum = u at hrot hrotOnly ⊢
    have hsv : u.sv n = s.sv n := by rw [hrotOnly]; rfl
    rw [State.runout_congr (s := s) (l := []) (.of_but hrot (by simp)) (by simp) (by rw [hsv]), hsv]
    rfl
  have hgood : s.goodWedge n r us = (((s.wedgeTaken n r).modeStep n (s.wedgeError n r) (some r.track) us).shockStep n
      (!beyond (s.wedgeError n r) ((s.wedgeTaken n r).wiThr n))).inhibitStep n (s.wedgeError n r) := by
    unfold State.goodWedge
    rw [if_neg (by rw [hmissed]; nofun), hrunout]
    dsimp only
    rw [State.runoutFault_ok, herror]
    rfl
  obtain ⟨-, -, -, -, -, hsv, hregs, -⟩ := s.wedgeTaken_spec n htrack rfl
  rw [hgood]
  generalize s.wedgeTaken n r = u at hsv hregs ⊢
  have hkept : ServoKept n [Reg.SRV_TRACK, Reg.SRV_PES] s u := .of_but hregs (by simp)
  have hfollow : u.mode n = mFollow := (hkept.f (f := F.SRV_STAT_MODE) (by decide) (by decide)).trans hmode
  have hlock : u.slock n = true := (hkept.on (f := F.SRV_STAT_SLOCK) (by decide) (by decide)).trans hslock
  have hthr : u.wiThr n = s.wiThr n := hkept.wiThr (by decide)
  rw [State.modeStep_follow hfollow (by rw [hsv]; exact hcheck), State.shockStep_none (by rw [hsv]; exact hshock), State.inhibitStep, hthr,
    hwithin, hsv, hlock, hfollow, hshock]
  rfl

end Sys2Proof.Machine

/-! SUPPORT. A missed wedge: the first of two in succession, and the second, which loses lock. -/

namespace Sys2Proof.Machine

variable {s t : State} {n : Fin 4}

/-! ### The first miss (R171, R187) -/

/-- The first missed wedge, before the write inhibit takes its value: the miss counted and shown, and a free error. -/
def State.missTaken (s : State) (n : Fin 4) : State :=
  let u := (s.count64 (.srv n) Reg.SRV_CNT_MISS_LO).setF (.srv n) F.SRV_PES_MISS 1
  ((u.setF (.srv n) F.SRV_PES_ERR (unsigned 16 (pesErr (25 * signed 16 u.freeNat)))).spend).setSv n
    { s.sv n with missed := true, wedge := ((s.sv n).wedge + 1) % s.wedges }

/-- What the first missed wedge leaves: the count, MISS, and every other register of the servo. -/
theorem State.missTaken_spec (s : State) (n : Fin 4) {t : State} (ht : s.missTaken n = t) : t.on (.srv n) F.SRV_PES_MISS = true
    ∧ t.reg64 (.srv n) Reg.SRV_CNT_MISS_LO = (s.reg64 (.srv n) Reg.SRV_CNT_MISS_LO + 1) % 2 ^ 64
    ∧ t.sv n = { s.sv n with missed := true, wedge := ((s.sv n).wedge + 1) % s.wedges }
    ∧ ServoKept n [Reg.SRV_CNT_MISS_LO, Reg.SRV_CNT_MISS_LO + 4, Reg.SRV_PES] s t ∧ LaneReach n s t := by
  unfold State.missTaken at ht
  have hcount : (s.count64 (.srv n) Reg.SRV_CNT_MISS_LO).reg64 (.srv n) Reg.SRV_CNT_MISS_LO
      = (s.reg64 (.srv n) Reg.SRV_CNT_MISS_LO + 1) % 2 ^ 64 := s.reg64_setReg64 _ _ _
  have hcountRegs := RegsBut.count64 s (.srv n) (show Reg.SRV_CNT_MISS_LO + 4 < 0x1000 by decide)
  have hcountReach : LaneReach n s (s.count64 (.srv n) Reg.SRV_CNT_MISS_LO) := LaneReach.of_count64 s (by decide) (.srv _ _) (.srv _ _)
  generalize s.count64 (.srv n) Reg.SRV_CNT_MISS_LO = u at hcount hcountRegs hcountReach ht
  dsimp only at ht
  generalize unsigned 16 (pesErr (25 * signed 16 (u.setF (.srv n) F.SRV_PES_MISS 1).freeNat)) = e at ht
  have hmiss : ((u.setF (.srv n) F.SRV_PES_MISS 1).setF (.srv n) F.SRV_PES_ERR e).on (.srv n) F.SRV_PES_MISS = true :=
    (State.on_setF_ne _ (.srv n) F.SRV_PES_ERR F.SRV_PES_MISS e rfl (by decide) (by decide)).trans
      (u.on_setF_same (.srv n) (f := F.SRV_PES_MISS) rfl (by decide) true)
  have hpes : RegsBut u ((u.setF (.srv n) F.SRV_PES_MISS 1).setF (.srv n) F.SRV_PES_ERR e) [(.srv n, Reg.SRV_PES)] :=
    (RegsBut.setF u (.srv n) F.SRV_PES_MISS 1 (by decide)).trans (RegsBut.setF _ (.srv n) F.SRV_PES_ERR e (by decide))
  have hreach : LaneReach n u ((u.setF (.srv n) F.SRV_PES_MISS 1).setF (.srv n) F.SRV_PES_ERR e) :=
    (LaneReach.of_setF u (by decide) (.srv _ _) 1).trans (LaneReach.of_setF _ (by decide) (.srv _ _) e)
  generalize (u.setF (.srv n) F.SRV_PES_MISS 1).setF (.srv n) F.SRV_PES_ERR e = v at hmiss hpes hreach ht
  have hregs : t.regs = v.regs := by rw [← ht, State.setSv_regs]; rfl
  have hreg : ∀ o, t.reg (.srv n) o = v.reg (.srv n) o := fun o => by simp only [State.reg, hregs]
  refine ⟨?_, ?_, by rw [← ht, State.sv_setSv_same], ?_, ?_⟩
  · rw [State.on, State.f, hreg]; exact hmiss
  · rw [State.reg64, hreg, hreg, ← hcount]; exact hpes.reg64 (by decide) (by simp) (by simp; decide)
  · exact ((ServoKept.of_but hcountRegs (by simp)).trans (.of_but hpes (by simp))).trans (.of_regs hregs)
  · exact ht ▸ ((hcountReach.trans hreach).trans (LaneReach.spend v)).trans (LaneReach.setSv _ _)

/-- A sample that is not good does not end the shock response; it starts its count at most (R192). -/
theorem State.shockStep_bad (s : State) (n : Fin 4) :
    s.shockStep n false = s ∨ s.shockStep n false = s.setSv n { s.sv n with shockHold := 1 } := by
  have hcount : (if (s.sv n).shockHold = 0 then 1 else if false = true then (s.sv n).shockHold + 1 else 1) = 1 := by split <;> rfl
  unfold State.shockStep
  dsimp only
  rw [hcount]
  split
  · exact .inl rfl
  · rw [if_neg (by omega)]
    exact .inr rfl

theorem State.shockStep_bad_spec (s : State) (n : Fin 4) {t : State} (ht : s.shockStep n false = t) : t.regs = s.regs
    ∧ (t.sv n).missed = (s.sv n).missed ∧ LaneReach n s t := by
  obtain h | h := s.shockStep_bad n
  · rw [← ht, h]
    exact ⟨rfl, rfl, .refl s⟩
  · rw [← ht, h]
    exact ⟨rfl, by rw [State.sv_setSv_same], LaneReach.setSv s _⟩

/-- The first miss in FOLLOW: the miss taken and the write inhibit set. -/
theorem State.missedWedge_first (us : Nat) (hmode : s.mode n = mFollow) (hmissed : (s.sv n).missed = false) (hcheck : (s.sv n).check = 0) :
    s.missedWedge n us = ((s.missTaken n).shockStep n false).setInhibit n true := by
  obtain ⟨-, -, hsv, hkept, -⟩ := s.missTaken_spec n rfl
  have htaken : ∃ e, s.missedWedge n us = (((s.missTaken n).modeStep n e none us).shockStep n false).inhibitStep n e := by
    unfold State.missedWedge
    rw [if_neg (by rw [hmissed]; nofun)]
    exact ⟨_, rfl⟩
  obtain ⟨e, htaken⟩ := htaken
  rw [htaken]
  generalize s.missTaken n = u at hsv hkept ⊢
  have hfollow : u.mode n = mFollow := (hkept.f (f := F.SRV_STAT_MODE) (by decide) (by decide)).trans hmode
  rw [State.modeStep_follow hfollow (by rw [hsv]; exact hcheck)]
  obtain ⟨-, hmiss, -⟩ := u.shockStep_bad_spec n rfl
  rw [hsv] at hmiss
  rw [State.inhibitStep, hmiss, Bool.or_true, Bool.true_or, Bool.true_or, Bool.true_or]

/-- What the first miss in FOLLOW leaves: the miss counted and shown, lock and mode as they were, and the write inhibit set. -/
theorem State.missedWedge_first_spec (us : Nat) (hmode : s.mode n = mFollow) (hmissed : (s.sv n).missed = false)
    (hcheck : (s.sv n).check = 0) (ht : s.missedWedge n us = t) : t.on (.srv n) F.SRV_PES_MISS = true
      ∧ t.on (.srv n) F.SRV_STAT_WINH = true ∧ t.slock n = s.slock n ∧ t.mode n = mFollow ∧ (t.sv n).missed = true
      ∧ t.reg64 (.srv n) Reg.SRV_CNT_MISS_LO = (s.reg64 (.srv n) Reg.SRV_CNT_MISS_LO + 1) % 2 ^ 64 ∧ LaneReach n s t := by
  rw [State.missedWedge_first us hmode hmissed hcheck] at ht
  obtain ⟨hmiss, hcount, hsv, hkept, hreach⟩ := s.missTaken_spec n rfl
  generalize s.missTaken n = u at hmiss hcount hsv hkept hreach ht
  obtain ⟨hshock, hshockMissed, hshockReach⟩ := u.shockStep_bad_spec n rfl
  generalize u.shockStep n false = v at hshock hshockMissed hshockReach ht
  have huv : ServoKept n [] u v := .of_regs hshock
  obtain ⟨-, hinh⟩ := v.setInhibit_stat n true
  have hwinh := v.setInhibit_winh n true
  have hfield : ∀ {f}, FieldsApart F.SRV_STAT_WINH f → (v.setInhibit n true).f (.srv n) f = v.f (.srv n) f := fun hf =>
    v.setInhibit_field n true hf
  have hvt := v.setInhibit_reach n true
  have hsvt := (v.setInhibit_only n true).sv n
  rw [ht] at hinh hwinh hvt hsvt
  simp only [ht] at hfield
  have hut : ServoKept n inhibitRegs u t := (huv.mono (by simp)).trans hinh
  have hstat : ∀ f, FieldsApart F.SRV_STAT_WINH f → t.f (.srv n) f = s.f (.srv n) f := fun f hf =>
    ((hfield hf).trans (huv.f (by rw [hf.1]; decide) (by simp))).trans (hkept.f (by rw [hf.1]; decide) (by rw [hf.1]; decide))
  refine ⟨?_, hwinh, congrArg (· == 1) (hstat F.SRV_STAT_SLOCK (by decide)), (hstat F.SRV_STAT_MODE (by decide)).trans hmode, ?_, ?_,
    (hreach.trans hshockReach).trans hvt⟩
  · exact (hut.on (f := F.SRV_PES_MISS) (by decide) (by decide)).trans hmiss
  · rw [hsvt, hshockMissed, hsv]
  · rw [State.reg64, hut _ (by decide) (by decide), hut _ (by decide) (by decide)]
    exact hcount

/-! ### The second miss (R156, R186) -/

/-- A loss of lock: MODE is ACQUIRE with no lock and the write inhibit set, and the cause joins those of UNIT_ERR (R186). -/
theorem State.lockLoss_spec (s : State) (n : Fin 4) {t : State} (ht : s.lockLoss n = t) : t.slock n = false ∧ t.mode n = mAcquire
    ∧ t.on (.srv n) F.SRV_STAT_WINH = true ∧ (t.reg (.srv n) Reg.UNIT_ERR).getLsbD 8 = true
    ∧ ((s.reg (.srv n) Reg.UNIT_ERR).getLsbD 1 = true → (t.reg (.srv n) Reg.UNIT_ERR).getLsbD 1 = true) ∧ LaneReach n s t := by
  unfold State.lockLoss at ht
  obtain ⟨hclear, -, hfall⟩ := s.slockFall_stat n
  have hfallReach := s.slockFall_reach n
  generalize s.slockFall n = u at hclear hfall hfallReach ht
  have herr : ServoKept n [Reg.UNIT_ERR] u (u.err (.srv n) 8) := .setReg u n (by decide) _
  have hset : ((u.err (.srv n) 8).reg (.srv n) Reg.UNIT_ERR).getLsbD 8 = true := u.err_bit rfl 8 (.inl (by decide))
  have hstays : (s.reg (.srv n) Reg.UNIT_ERR).getLsbD 1 = true → ((u.err (.srv n) 8).reg (.srv n) Reg.UNIT_ERR).getLsbD 1 = true :=
    fun h => u.err_bit rfl 8 (.inr (by rw [hfall _ (by decide) (by decide)]; exact h))
  have herrReach : LaneReach n u (u.err (.srv n) 8) := LaneReach.of_setReg u (by decide) (.srv _ _) _
  generalize u.err (.srv n) 8 = v at herr hset hstays herrReach ht
  obtain ⟨hwinh, hslock, hmodeKept⟩ := v.enterMode_stat n (m := mAcquire) (by decide)
  have hmode := v.enterMode_mode n (m := mAcquire) (by decide)
  have hmodeReach := v.enterMode_reach n mAcquire
  generalize v.enterMode n mAcquire = w at hwinh hslock hmodeKept hmode hmodeReach ht
  dsimp only at ht
  have hend : ServoKept n [] w t := ht ▸ ServoKept.trans (.of_regs (State.setSv_regs w n _)) (State.rotValid_kept _ n)
  have hendReach : LaneReach n w t := ht ▸ (LaneReach.setSv w _).trans (State.rotValid_reach _)
  have hvt : ServoKept n inhibitRegs v t := hmodeKept.trans (hend.mono (by simp))
  have hlost : v.slock n = false := (herr.on (f := F.SRV_STAT_SLOCK) (by decide) (by decide)).trans hclear
  refine ⟨?_, ?_, ?_, ?_, fun h => ?_, ((hfallReach.trans herrReach).trans hmodeReach).trans hendReach⟩
  · exact (hend.on (f := F.SRV_STAT_SLOCK) (by decide) (by simp)).trans (hslock.trans hlost)
  · exact (hend.f (f := F.SRV_STAT_MODE) (by decide) (by simp)).trans hmode
  · exact (hend.on (f := F.SRV_STAT_WINH) (by decide) (by simp)).trans hwinh
  · rw [hvt _ (by decide) (by decide)]; exact hset
  · rw [hvt _ (by decide) (by decide)]; exact hstays h

/-- What the second miss in succession leaves: a lasting fault, and the loss of lock. -/
theorem State.missedWedge_second_spec (us : Nat) (hmissed : (s.sv n).missed = true) (ht : s.missedWedge n us = t) : t.slock n = false
    ∧ t.mode n = mAcquire ∧ t.on (.srv n) F.SRV_STAT_WINH = true ∧ (t.reg (.srv n) Reg.UNIT_ERR).getLsbD 8 = true
    ∧ (t.reg (.srv n) Reg.UNIT_ERR).getLsbD 1 = true ∧ LaneReach n s t := by
  have hlost : s.missedWedge n us = ((((s.count64 (.srv n) Reg.SRV_CNT_MISS_LO).setF (.srv n) F.SRV_PES_MISS 1).setSv n
      { s.sv n with wedge := ((s.sv n).wedge + 1) % s.wedges }).lasting (.srv n)).lockLoss n := by
    unfold State.missedWedge
    exact if_pos hmissed
  rw [hlost] at ht
  have hcountReach : LaneReach n s (s.count64 (.srv n) Reg.SRV_CNT_MISS_LO) := LaneReach.of_count64 s (by decide) (.srv _ _) (.srv _ _)
  generalize s.count64 (.srv n) Reg.SRV_CNT_MISS_LO = u at hcountReach ht
  have hpesReach : LaneReach n u (u.setF (.srv n) F.SRV_PES_MISS 1) := LaneReach.of_setF u (by decide) (.srv _ _) 1
  generalize u.setF (.srv n) F.SRV_PES_MISS 1 = v at hpesReach ht
  have hsvReach := LaneReach.setSv (n := n) v { s.sv n with wedge := ((s.sv n).wedge + 1) % s.wedges }
  generalize v.setSv n _ = w at hsvReach ht
  have hbit : ((w.lasting (.srv n)).reg (.srv n) Reg.UNIT_ERR).getLsbD 1 = true := w.lasting_err (.srv n) rfl (.inl rfl)
  have hlastReach : LaneReach n w (w.lasting (.srv n)) :=
    (LaneReach.of_setReg w (by decide) (.srv _ _) _).trans (LaneReach.of_setReg _ (by decide) (.srv _ _) _)
  generalize w.lasting (.srv n) = x at hbit hlastReach ht
  obtain ⟨hslock, hmode, hwinh, hcause, hstays, hreach⟩ := x.lockLoss_spec n ht
  exact ⟨hslock, hmode, hwinh, hcause, hstays hbit, (((hcountReach.trans hpesReach).trans hsvReach).trans hlastReach).trans hreach⟩

end Sys2Proof.Machine

/-! SUPPORT. The samples of a servo in FOLLOW as whole commands, and the statement on the servo's samples. -/

namespace Sys2Proof.Machine

variable {s t : State} {n : Fin 4}

/-! ### A sample in FOLLOW -/

/-- The beginning of a sample is a lane's work. -/
theorem State.sampleBegun_reach (s : State) (n : Fin 4) : LaneReach n s (s.sampleBegun n) := by
  have hloops : LaneReach n s (s.runLoops n) := by
    unfold State.runLoops
    split
    · exact .refl s
    · dsimp only
      generalize s.loopsMoved n _ = l
      exact (LaneReach.setCh s n { s.ch n with loops := l }).trans ⟨fun _ _ _ _ => rfl, fun _ _ => rfl, fun _ _ => rfl, fun _ _ => rfl, rfl,
        rfl, rfl⟩
  exact (hloops.trans (LaneReach.setTim _ _)).trans (LaneReach.setSv _ _)

/-- A good wedge within the threshold in FOLLOW: what the sample publishes, and all that it changes (R67, R172, R173, R187). -/
theorem State.servoWedge_good {r : WedgeRead} (us : Nat) (hlive : s.live (.srv n) = true) (hmode : s.mode n = mFollow)
    (hslock : s.slock n = true) (hok : r.ok = true) (hw : r.wnum < s.wedges) (htrack : r.track < 2 ^ 22) (hrunout : r.runout = .ok)
    (hmissed : (s.sv n).missed = false) (hmoved : (s.sv n).moved = false) (hcheck : (s.sv n).check = 0)
    (hshock : (s.sv n).shockInh = false) (hwithin : beyond (s.wedgeError n r) (s.wiThr n) = false) (ht : s.servoWedge n r us = t) :
    t.on (.srv n) F.SRV_STAT_WINH = false ∧ t.mode n = mFollow ∧ t.slock n = true ∧ t.f (.srv n) F.SRV_TRACK_TRACK = r.track
      ∧ t.f (.srv n) F.SRV_PES_WEDGE = r.wnum ∧ t.on (.srv n) F.SRV_PES_MISS = false
      ∧ t.f (.srv n) F.SRV_PES_ERR = unsigned 16 (pesErr (s.wedgeError n r))
      ∧ (t.sv n).pos = r.pos ∧ (t.tim n).excl = true ∧ t.on .med F.MED_ROT_POS_VALID = true
      ∧ RegsBut s t [(.srv n, Reg.SRV_STAT), (.srv n, Reg.SRV_TRACK), (.srv n, Reg.SRV_PES), (.srv n, Reg.SRV_VCM_OUT),
          (.med, Reg.MED_ROT_POS), (.piv (pivotOf n), mbxOff n), (.piv (pivotOf n), Reg.PIV_RTC_STAT)]
      ∧ t = { s with regs := t.regs, srvs := t.srvs, timing := t.timing, lanes := t.lanes, chns := t.chns, freeCtr := t.freeCtr } := by
  rw [State.servoWedge_follow us hlive hmode hw hmoved, if_pos hok] at ht
  obtain ⟨hbegun, hexcl, ⟨b, now, hsv⟩, hbegunOnly⟩ := s.sampleBegun_spec n
  generalize s.sampleBegun n = u at hbegun hexcl hsv hbegunOnly ht
  have herror : u.wedgeError n r = s.wedgeError n r := by
    rw [State.wedgeError, State.runout_congr (s := s) (l := []) (.of_regs hbegun) (by simp) (by rw [hsv]), hsv]
    rfl
  have hthr : u.wiThr n = s.wiThr n := ServoKept.wiThr (l := []) (.of_regs hbegun) (by simp)
  have hbegunField : ∀ f, u.f (.srv n) f = s.f (.srv n) f := fun f => by simp only [State.f, State.reg, hbegun]
  have hfollow : u.mode n = mFollow := (hbegunField F.SRV_STAT_MODE).trans hmode
  have hlock : u.slock n = true := (congrArg (· == 1) (hbegunField F.SRV_STAT_SLOCK)).trans hslock
  rw [State.goodWedge_follow us hfollow hlock htrack hrunout (by rw [hsv]; exact hmissed) (by rw [hsv]; exact hcheck)
    (by rw [hsv]; exact hshock) (by rw [herror, hthr]; exact hwithin)] at ht
  obtain ⟨hpub, hwedge, hmiss, herr, hvalid, htaken, hregs, honly⟩ := u.wedgeTaken_spec n htrack rfl
  generalize u.wedgeTaken n r = w at hpub hwedge hmiss herr hvalid htaken hregs honly ht
  have hwinh := w.setInhibit_winh n false
  have hstat : ∀ f, FieldsApart F.SRV_STAT_WINH f → (w.setInhibit n false).f (.srv n) f = w.f (.srv n) f := fun f hf =>
    w.setInhibit_field n false hf
  obtain ⟨hinhRegs, hinhOnly⟩ := w.setInhibit_false_only n
  have hinhSv := (w.setInhibit_only n false).sv n
  generalize w.setInhibit n false = x at hwinh hstat hinhRegs hinhOnly hinhSv ht
  have htail := x.sampleEnd_tail n
  rw [ht] at htail
  have hut : t = { u with regs := t.regs, srvs := t.srvs, lanes := t.lanes, freeCtr := t.freeCtr } := by
    rw [htail.only, hinhOnly, honly]
  have hwt : RegsBut w t [(.srv n, Reg.SRV_STAT), (.srv n, Reg.SRV_VCM_OUT), (.piv (pivotOf n), mbxOff n),
      (.piv (pivotOf n), Reg.PIV_RTC_STAT)] := (hinhRegs.mono (by simp)).trans htail.regs
  have hfield : ∀ f, FieldsApart F.SRV_STAT_WINH f → FieldsApart F.SRV_STAT_STALE f → t.f (.srv n) f = s.f (.srv n) f := fun f hf hg =>
    (((htail.stat f hg).trans (hstat f hf)).trans (hregs.f (by rw [hf.1]; decide) (by rw [hf.1]; simp))).trans (hbegunField f)
  refine ⟨(htail.on (by decide)).trans hwinh, (hfield F.SRV_STAT_MODE (by decide) (by decide)).trans hmode,
    (congrArg (· == 1) (hfield F.SRV_STAT_SLOCK (by decide) (by decide))).trans hslock, ?_, ?_, ?_, ?_, ?_, ?_, ?_, ?_, ?_⟩
  · exact (hwt.f (by decide) (by simp)).trans hpub
  · exact (hwt.f (by decide) (by simp)).trans hwedge
  · exact (hwt.on (by decide) (by simp)).trans hmiss
  · rw [← herror]
    exact (hwt.f (by decide) (by simp)).trans herr
  · rw [htail.pos, hinhSv, htaken]
  · rw [hut]
    exact hexcl
  · exact (hwt.on (by decide) (by simp)).trans hvalid
  · exact (RegsBut.of_regs hbegun).trans ((hregs.mono (by simp)).trans (hwt.mono (by simp)))
  · rw [hut, hbegunOnly]

/-- The first missed wedge in FOLLOW (R171, R187). -/
theorem State.servoWedge_firstMiss {r : WedgeRead} (us : Nat) (hlive : s.live (.srv n) = true) (hmode : s.mode n = mFollow)
    (hslock : s.slock n = true) (hbad : r.ok = false) (hw : r.wnum < s.wedges) (hmissed : (s.sv n).missed = false)
    (hmoved : (s.sv n).moved = false) (hcheck : (s.sv n).check = 0) (ht : s.servoWedge n r us = t) :
    t.on (.srv n) F.SRV_PES_MISS = true ∧ t.on (.srv n) F.SRV_STAT_WINH = true ∧ t.slock n = true ∧ t.mode n = mFollow
      ∧ (t.sv n).missed = true ∧ t.reg64 (.srv n) Reg.SRV_CNT_MISS_LO = (s.reg64 (.srv n) Reg.SRV_CNT_MISS_LO + 1) % 2 ^ 64
      ∧ t.mem = s.mem ∧ t.hosts = s.hosts ∧ t.buf = s.buf ∧ t.pending = s.pending := by
  rw [State.servoWedge_follow us hlive hmode hw hmoved, if_neg (by rw [hbad]; nofun)] at ht
  obtain ⟨hbegun, -, ⟨b, now, hsv⟩, -⟩ := s.sampleBegun_spec n
  have hreach := s.sampleBegun_reach n
  generalize s.sampleBegun n = u at hbegun hsv hreach ht
  have hreg : ∀ o, u.reg (.srv n) o = s.reg (.srv n) o := fun o => by simp only [State.reg, hbegun]
  have hlock : u.slock n = true := (congrArg (fun w => F.SRV_STAT_SLOCK.get w == 1) (hreg _)).trans hslock
  obtain ⟨hmiss, hwinh, hkeeps, hfollow, htaken, hcount, hmissReach⟩ := State.missedWedge_first_spec us
    ((congrArg F.SRV_STAT_MODE.get (hreg _)).trans hmode) (by rw [hsv]; exact hmissed) (by rw [hsv]; exact hcheck) rfl
  generalize u.missedWedge n us = v at hmiss hwinh hkeeps hfollow htaken hcount hmissReach ht
  have htail := v.sampleEnd_tail n
  rw [ht] at htail
  have hsu := hreach.trans hmissReach
  refine ⟨(htail.kept.on (f := F.SRV_PES_MISS) (by decide) (by decide)).trans hmiss, (htail.on (by decide)).trans hwinh,
    (htail.on (f := F.SRV_STAT_SLOCK) (by decide)).trans (hkeeps.trans hlock), (htail.stat F.SRV_STAT_MODE (by decide)).trans hfollow,
    htail.missed.trans htaken, ?_, ?_, ?_, ?_, ?_⟩
  · rw [State.reg64, htail.kept _ (by decide) (by decide), htail.kept _ (by decide) (by decide)]
    refine hcount.trans ?_
    rw [State.reg64, State.reg64, hreg, hreg]
  · rw [htail.only]; exact hsu.mem
  · rw [htail.only]; exact hsu.hosts
  · rw [htail.only]; exact hsu.buf
  · rw [htail.only]; exact hsu.pending

/-- The second missed wedge in succession in FOLLOW (R156, R186). -/
theorem State.servoWedge_secondMiss {r : WedgeRead} (us : Nat) (hlive : s.live (.srv n) = true) (hmode : s.mode n = mFollow)
    (hbad : r.ok = false) (hw : r.wnum < s.wedges) (hmissed : (s.sv n).missed = true) (hmoved : (s.sv n).moved = false)
    (ht : s.servoWedge n r us = t) : t.slock n = false ∧ t.mode n = mAcquire ∧ t.on (.srv n) F.SRV_STAT_WINH = true
      ∧ (t.reg (.srv n) Reg.UNIT_ERR).getLsbD 8 = true ∧ (t.reg (.srv n) Reg.UNIT_ERR).getLsbD 1 = true
      ∧ t.mem = s.mem ∧ t.hosts = s.hosts ∧ t.buf = s.buf ∧ t.pending = s.pending := by
  rw [State.servoWedge_follow us hlive hmode hw hmoved, if_neg (by rw [hbad]; nofun)] at ht
  obtain ⟨-, -, ⟨b, now, hsv⟩, -⟩ := s.sampleBegun_spec n
  have hreach := s.sampleBegun_reach n
  generalize s.sampleBegun n = u at hsv hreach ht
  obtain ⟨hlost, hacquire, hwinh, hcause, hlasting, hmissReach⟩ :=
    State.missedWedge_second_spec (s := u) (n := n) us (by rw [hsv]; exact hmissed) rfl
  generalize u.missedWedge n us = v at hlost hacquire hwinh hcause hlasting hmissReach ht
  have htail := v.sampleEnd_tail n
  rw [ht] at htail
  have hsu := hreach.trans hmissReach
  have herr : t.reg (.srv n) Reg.UNIT_ERR = v.reg (.srv n) Reg.UNIT_ERR := htail.kept _ (by decide) (by decide)
  refine ⟨(htail.on (f := F.SRV_STAT_SLOCK) (by decide)).trans hlost, (htail.stat F.SRV_STAT_MODE (by decide)).trans hacquire,
    (htail.on (by decide)).trans hwinh, by rw [herr]; exact hcause, by rw [herr]; exact hlasting, ?_, ?_, ?_, ?_⟩
  · rw [htail.only]; exact hsu.mem
  · rw [htail.only]; exact hsu.hosts
  · rw [htail.only]; exact hsu.buf
  · rw [htail.only]; exact hsu.pending

/-! ### The current loop (R173, R195, R197) -/

/-- Outside a retract the current loop sets the voltage code. -/
theorem State.vcmLoop_drive (ma : Int) (hmode : s.mode n ≠ mRetract) :
    s.vcmLoop n ma = (s.setF (.srv n) F.SRV_VCM_OUT_VCM s.freeNat).spend := if_neg hmode

/-- In a retract the path looks at the back-EMF. -/
theorem State.vcmLoop_retract (ma : Int) (hmode : s.mode n = mRetract) : s.vcmLoop n ma
    = if 10 * (s.f (.srv n) F.SRV_RETRACT_BEMF_MAX : Int) < s.bemf n ma ∧ 0 < s.f (.srv n) F.SRV_VCM_OUT_VCM
      then (s.setF (.srv n) F.SRV_VCM_OUT_VCM (s.freeNat % s.f (.srv n) F.SRV_VCM_OUT_VCM)).spend else s := if_pos hmode

/-- The guard of the current loop in a retract. -/
theorem State.vcmGuard_retract (hmode : s.mode n = mRetract) :
    (s.mode n == mRetract || (s.live (.srv n) && decide (mLoading ≤ s.mode n ∧ s.mode n ≤ mUnloading))) = true := by
  rw [hmode]
  rfl

/-! ### The statement -/

/-- Settles O24, by what each wedge of FOLLOW brings between the beginning and the end of a sample, and by what the current loop, the
unload, the seek timeout and a coefficient write change. -/
theorem servoSamples : Obligations.ServoSamples := by
  refine ⟨?_, ?_, ?_, ?_, ?_, ?_, ?_, ?_, ?_, ?_⟩
  · intro s n r us hr hlive hmode hslock hok hw htrack hrunout hmissed hmoved hcheck hshock hwithin
    obtain ⟨hwinh, hfollow, hlock, hpub, hwedge, hmiss, herr, hpos, hexcl, hvalid, hregs, honly⟩ :=
      State.servoWedge_good (s := s.answer .none) us hlive hmode hslock hok hw htrack hrunout hmissed hmoved hcheck hshock hwithin rfl
    exact Completes.of_result hr (exec_servoWedge n r us s) rfl
      ⟨hwinh, hfollow, hlock, hpub, hwedge, hmiss, herr, hpos, hexcl, hvalid, hregs, honly⟩ (by rw [honly]; rfl)
  · intro s n r us hr hlive hmode hslock hbad hw hmissed hmoved hcheck
    obtain ⟨hmiss, hwinh, hlock, hfollow, htaken, hcount, hmem, hhosts, hbuf, hqueue⟩ :=
      State.servoWedge_firstMiss (s := s.answer .none) us hlive hmode hslock hbad hw hmissed hmoved hcheck rfl
    exact Completes.of_result hr (exec_servoWedge n r us s) rfl
      ⟨hmiss, hwinh, hlock, hfollow, htaken, hcount, hmem, hhosts, hbuf⟩ hqueue
  · intro s n r us hr hlive hmode _ hbad hw hmissed hmoved
    obtain ⟨hlost, hacquire, hwinh, hcause, hlasting, hmem, hhosts, hbuf, hqueue⟩ :=
      State.servoWedge_secondMiss (s := s.answer .none) us hlive hmode hbad hw hmissed hmoved rfl
    exact Completes.of_result hr (exec_servoWedge n r us s) rfl ⟨hlost, hacquire, hwinh, hcause, hlasting, hmem, hhosts, hbuf⟩ hqueue
  · intro s n ma hr hlive hlow hhigh
    have hguard : (s.mode n == mRetract || (s.live (.srv n) && decide (mLoading ≤ s.mode n ∧ s.mode n ≤ mUnloading))) = true := by
      rw [hlive, decide_eq_true ⟨hlow, hhigh⟩, Bool.and_self, Bool.or_true]
    have hdrive := State.vcmLoop_drive (s := s.answer .none) (n := n) ma (Nat.ne_of_lt (Nat.lt_succ_of_le hhigh))
    obtain ⟨-, hma, hregs⟩ := (s.answer .none).setVcm_spec n (s.answer .none).freeNat
    exact Completes.vcmCurrentLoop (by rw [hr]; decide) hguard hdrive ⟨hma, hregs, rfl⟩ rfl
  · intro s n ma hp hmode hbemf hcode
    have hloop := (State.vcmLoop_retract (s := s.answer .none) (n := n) ma hmode).trans (if_pos ⟨hbemf, hcode⟩)
    obtain ⟨hvcm, hma, hregs⟩ := (s.answer .none).setVcm_spec n ((s.answer .none).freeNat % s.f (.srv n) F.SRV_VCM_OUT_VCM)
    have hlower : (s.answer .none).freeNat % s.f (.srv n) F.SRV_VCM_OUT_VCM < s.f (.srv n) F.SRV_VCM_OUT_VCM := Nat.mod_lt _ hcode
    exact Completes.vcmCurrentLoop hp (State.vcmGuard_retract hmode) hloop
      ⟨(hvcm.trans_le (Nat.mod_le _ _)).trans_lt hlower, hma, hregs, rfl⟩ rfl
  · intro s n ma hp hmode hbemf
    have hloop := (State.vcmLoop_retract (s := s.answer .none) (n := n) ma hmode).trans
      (if_neg fun hhigh => absurd hbemf (not_le_of_gt hhigh.1))
    exact Completes.vcmCurrentLoop hp (State.vcmGuard_retract hmode) hloop rfl rfl
  · intro s n hr hmode htry
    have hguard : (s.mode n == mAcquire && (s.sv n).loadTry == 0) = true := by
      rw [hmode, htry]
      rfl
    obtain ⟨hlost, hwinh, hseek, hmbx⟩ := (s.answer .none).beginUnload_spec n
    have hreach := (s.answer .none).beginUnload_reach n
    exact Completes.of_result hr (exec_lockRegainTimeout n s) (if_pos hguard)
      ⟨(s.answer .none).beginUnload_mode n, hlost, hwinh, hseek, hmbx, hreach.mem, hreach.hosts, hreach.buf⟩ hreach.pending
  · intro s n us hr hseeking
    obtain ⟨hover, herr, hwdog, hresult, htime, htarget, hmode, hidle⟩ := (s.answer .none).seekTimeout_spec n us rfl
    have hqueue : ((s.answer .none).seekTimeout n us).pending = s.pending := ((s.answer .none).seekTimeout_reach n us).pending
    exact Completes.of_result hr (exec_seekTimeout ⟨n, us⟩ s) (if_pos hseeking)
      ⟨hover, herr, hwdog, hresult, htime, htarget, hmode, hidle⟩ hqueue
  · intro s e n v hr hreset hindex hbank
    obtain ⟨hcoef, hadvanced, hregs, honly⟩ := (s.answer .none).coefWrite_spec v hindex rfl
    have hown : (s.answer .none).coefRefused n = none :=
      (State.coefRefused_bank (s := s.answer .none) hindex).trans (if_neg (ne_true_of_eq_false hbank))
    refine Completes.of_result hr (exec_coefWrite e n v s) ?_ ⟨hcoef, hadvanced, hregs, honly⟩ (by rw [honly]; rfl)
    rw [hown]
    exact State.access_ok hreset fun c hc => nomatch (by rw [honly] at hc; exact hc : Resp.none = Resp.busError c)
  · intro s e n v hr hreset hindex hbank
    exact Completes.of_denied hr hreset (by decide) (exec_coefWrite e n v s)
      ((State.coefRefused_bank (s := s.answer .none) hindex).trans (if_pos hbank))

end Sys2Proof.Machine

/-! SUPPORT. The sample buffer and the deep-decode engine: a sector decoded on the fly, a sector pinned, automatic recovery, a command of
the engine, and the release of a slot. -/

namespace Sys2Proof.Machine

variable {s : State} {n : Fin 4}

theorem exec_sectorDecode (n slot : Fin 4) (x : Sampled) (res : Decoded) (s : State) : exec (.sectorDecode n slot x res) s
    = done s (fun s => s.sectorDecode n slot.val x.found x.raw res) := rfl
theorem exec_autoRecovery (n : Fin 4) (slip : Option Int) (res : Decoded) (g : Nat) (s : State) : exec (.autoRecovery n slip res g) s
    = done s (fun s => s.when (s.live (.chn n)) (s.autoRecovery n slip res)) := rfl
theorem exec_deepDecodeCmd (e : Engine) (n : Fin 4) (v : Word) (s : State) : exec (.deepDecodeCmd e n v) s
    = done s (fun s => s.access e .store (.chn n) Reg.CHN_DD_CMD none (s.deepDecodeCmd n v)) := rfl
theorem exec_deepDecodeDone (n : Fin 4) (slip : Option Int) (res : Decoded) (g : Nat) (s : State) :
    exec (.deepDecodeDone n slip res g) s = done s (fun s => s.when (s.live (.chn n)) (s.deepDecodeDone n slip res g)) := rfl
theorem exec_sbufRelease (e : Engine) (n : Fin 4) (v : Word) (s : State) : exec (.sbufRelease e n v) s
    = done s (fun s => s.access e .store (.chn n) Reg.CHN_SBUF_REL none
        (([0, 1, 2, 3].filter (fun i => v.getLsbD i)).foldl (fun t i => t.unpin n i) s)) := rfl
theorem exec_pinTimeout (n slot : Fin 4) (s : State) : exec (.pinTimeout n slot) s = done s (fun s => s.pinTimeout n slot.val) := rfl

/-! ### A sector decoded on the fly (R107, R108) -/

/-- The oldest sampled sector is taken for decoding and counted (R108). -/
def State.decodeTried (s : State) (n : Fin 4) (rest : List SectRef) : State :=
  (s.setCh n { s.ch n with due := rest }).count64 (.chn n) Reg.CHN_CNT_SECT_LO

theorem State.setF_only (s : State) (u : UnitId) (f : Field) (v : Nat) : s.setF u f v = { s with regs := (s.setF u f v).regs } := rfl
theorem State.setCh_only (s : State) (n : Fin 4) (c : Channel) : s.setCh n c = { s with chns := (s.setCh n c).chns } := rfl

/-- A state that differs in registers alone has the same channels. -/
theorem State.ch_of_regs {t : State} (h : t = { s with regs := t.regs }) (m : Fin 4) : t.ch m = s.ch m := by rw [h]; rfl

/-- A pair of registers reads the same where the registers are the same. -/
theorem State.reg64_congr {t : State} (h : t.regs = s.regs) (u : UnitId) (o : Nat) : t.reg64 u o = s.reg64 u o := by
  simp only [State.reg64, State.reg, h]

/-- A counter of 64 bits counts one more, and wraps. -/
theorem State.reg64_count64 (s : State) (u : UnitId) (o : Nat) : (s.count64 u o).reg64 u o = (s.reg64 u o + 1) % 2 ^ 64 := by
  rw [State.count64, State.reg64_setReg64]

/-- A sector taken for decoding leaves the channel's list and is counted; nothing else changes. -/
theorem State.decodeTried_spec (s : State) (n : Fin 4) (rest : List SectRef) :
    (s.decodeTried n rest).ch n = { s.ch n with due := rest }
      ∧ (s.decodeTried n rest).reg64 (.chn n) Reg.CHN_CNT_SECT_LO = (s.reg64 (.chn n) Reg.CHN_CNT_SECT_LO + 1) % 2 ^ 64
      ∧ RegsBut s (s.decodeTried n rest) [(.chn n, Reg.CHN_CNT_SECT_LO), (.chn n, Reg.CHN_CNT_SECT_LO + 4)]
      ∧ s.decodeTried n rest = { s with regs := (s.decodeTried n rest).regs, chns := (s.decodeTried n rest).chns } := by
  have hset : (s.setCh n { s.ch n with due := rest }).ch n = { s.ch n with due := rest } := State.ch_setCh_same s n _
  have honly := s.setCh_only n { s.ch n with due := rest }
  have hregs : (s.setCh n { s.ch n with due := rest }).regs = s.regs := rfl
  unfold State.decodeTried
  generalize s.setCh n { s.ch n with due := rest } = u at hset honly hregs ⊢
  have hval := u.reg64_count64 (.chn n) Reg.CHN_CNT_SECT_LO
  rw [State.reg64_congr hregs] at hval
  have hcountRegs := RegsBut.count64 u (.chn n) (show Reg.CHN_CNT_SECT_LO + 4 < 0x1000 by decide)
  have hcountOnly := u.count64_only (.chn n) Reg.CHN_CNT_SECT_LO
  have hcountCh := State.ch_of_regs hcountOnly n
  generalize u.count64 (.chn n) Reg.CHN_CNT_SECT_LO = v at hval hcountCh hcountRegs hcountOnly ⊢
  exact ⟨hcountCh.trans hset, hval, (RegsBut.of_regs hregs).trans hcountRegs, by rw [hcountOnly, honly]⟩

/-- A result that waits changes its channel alone. -/
theorem State.pushResult_spec (s : State) (n : Fin 4) (r : SectRef) (sync : List (Nat × Int × Nat)) (path : ResultPath) (deep : Bool) :
    (s.pushResult n r sync path deep).ch n = { s.ch n with results := (s.ch n).results ++ [⟨r, sync, path, deep⟩] }
      ∧ s.pushResult n r sync path deep = { s with chns := (s.pushResult n r sync path deep).chns } :=
  ⟨State.ch_setCh_same s n _, rfl⟩

/-- A sector decoded good waits for the DMA port with the event of its anchor, and is counted (R108, R116). -/
theorem State.sectorDecode_delivers {slot : Nat} {r : SectRef} {rest : List SectRef} (found : SyncFound) (samples : List (Nat × Nat))
    (hlive : s.live (.chn n) = true) (hdue : (s.ch n).due = r :: rest) (hpin : s.pin? n slot = none) (hcap : r.captured = true)
    (hlock : r.lockLost = false) {t : State} (ht : s.sectorDecode n slot found samples .good = t) :
    t.ch n = { s.ch n with due := rest, results := (s.ch n).results ++ [⟨r, r.anchorEvent found, .otf, false⟩] }
      ∧ t.reg64 (.chn n) Reg.CHN_CNT_SECT_LO = (s.reg64 (.chn n) Reg.CHN_CNT_SECT_LO + 1) % 2 ^ 64
      ∧ t = { s with regs := t.regs, chns := t.chns } := by
  have hgood : s.sectorDecode n slot found samples .good = (s.decodeTried n rest).pushResult n r (r.anchorEvent found) .otf false := by
    simp [State.sectorDecode, hdue, hlive, hpin, hcap, hlock, State.decodeTried]
  obtain ⟨htried, hcount, -, htriedOnly⟩ := s.decodeTried_spec n rest
  rw [hgood] at ht
  generalize s.decodeTried n rest = u at htried hcount htriedOnly ht
  obtain ⟨hpush, hpushOnly⟩ := u.pushResult_spec n r (r.anchorEvent found) .otf false
  rw [ht] at hpush hpushOnly
  have hregs : t.regs = u.regs := by rw [hpushOnly]
  exact ⟨by rw [hpush, htried], (State.reg64_congr hregs _ _).trans hcount, by rw [hpushOnly, htriedOnly]⟩

/-- A sector that does not converge is pinned or given up (R110). -/
theorem State.sectorDecode_notConverged {slot : Nat} {r : SectRef} {rest : List SectRef} (found : SyncFound)
    (samples : List (Nat × Nat)) (hlive : s.live (.chn n) = true) (hdue : (s.ch n).due = r :: rest) (hpin : s.pin? n slot = none)
    (hcap : r.captured = true) (hlock : r.lockLost = false) : s.sectorDecode n slot found samples .notConverged
      = ((s.decodeTried n rest).count64 (.chn n) Reg.CHN_CNT_OTF_FAIL_LO).pinOrGiveUp n slot found samples r true := by
  simp [State.sectorDecode, hdue, hlive, hpin, hcap, hlock, State.decodeTried]

/-! ### A sector pinned (R110) -/

/-- A sync event posted changes the channel's events and registers alone (R130). -/
theorem State.postSync_spec (s : State) (n : Fin 4) (k : Nat) (d : Int) (b : Nat) (r : SectRef) :
    (s.postSync n k d b r).ch n = { s.ch n with sync := ((s.postSync n k d b r).ch n).sync }
      ∧ s.postSync n k d b r = { s with regs := (s.postSync n k d b r).regs, chns := (s.postSync n k d b r).chns } := by
  unfold State.postSync
  dsimp only
  split
  · exact ⟨rfl, rfl⟩
  · exact ⟨by rw [State.ch_setCh_same], rfl⟩

/-- Under a profile with PIN, while fewer than two slots are pinned, a sector that automatic recovery has something to try on is pinned
with event 100b (R110, R120). -/
theorem State.pinOrGiveUp_pins {r : SectRef} (slot : Nat) (found : SyncFound) (samples : List (Nat × Nat))
    (hprof : F.CHN_RPROF_PIN.get r.prof ≠ 0) (hroom : (s.ch n).pins.length < 2) (hauto : s.autoWanted n r = true) :
    s.pinOrGiveUp n slot found samples r true
      = (s.setCh n { s.ch n with pins := (s.ch n).pins ++ [⟨slot, r, true, false, samples, found, false⟩] }).postSync n 4 0 slot r := by
  unfold State.pinOrGiveUp
  rw [if_neg hprof, if_neg (Nat.not_le.mpr hroom), hauto]
  rfl

/-- Whether automatic recovery has something to try depends on SLIP_EN and on the sector (R118, R120). -/
theorem State.autoWanted_congr {t : State} (h : t.on (.chn n) F.CHN_CTL_SLIP_EN = s.on (.chn n) F.CHN_CTL_SLIP_EN) (r : SectRef) :
    t.autoWanted n r = s.autoWanted n r := by
  simp only [State.autoWanted, State.slipAllowed, h]

/-- A sector that does not converge on the fly and that recovery has something to try on is pinned (R108, R110). -/
theorem State.sectorDecode_pins {slot : Nat} {r : SectRef} {rest : List SectRef} (found : SyncFound) (samples : List (Nat × Nat))
    (hlive : s.live (.chn n) = true) (hdue : (s.ch n).due = r :: rest) (hpin : s.pin? n slot = none) (hcap : r.captured = true)
    (hlock : r.lockLost = false) (hprof : F.CHN_RPROF_PIN.get r.prof ≠ 0) (hroom : (s.ch n).pins.length < 2)
    (hauto : s.autoWanted n r = true) {t : State} (ht : s.sectorDecode n slot found samples .notConverged = t) :
    (t.ch n).pins = (s.ch n).pins ++ [⟨slot, r, true, false, samples, found, false⟩] ∧ (t.ch n).results = (s.ch n).results
      ∧ (t.ch n).due = rest ∧ t = { s with regs := t.regs, chns := t.chns } := by
  rw [State.sectorDecode_notConverged found samples hlive hdue hpin hcap hlock] at ht
  obtain ⟨htried, -, htriedRegs, htriedOnly⟩ := s.decodeTried_spec n rest
  generalize s.decodeTried n rest = u at htried htriedRegs htriedOnly ht
  have hfail := RegsBut.count64 u (.chn n) (show Reg.CHN_CNT_OTF_FAIL_LO + 4 < 0x1000 by decide)
  have hfailOnly := u.count64_only (.chn n) Reg.CHN_CNT_OTF_FAIL_LO
  have hfailCh := State.ch_of_regs hfailOnly n
  generalize u.count64 (.chn n) Reg.CHN_CNT_OTF_FAIL_LO = v at hfail hfailCh hfailOnly ht
  have hslip : v.on (.chn n) F.CHN_CTL_SLIP_EN = s.on (.chn n) F.CHN_CTL_SLIP_EN :=
    (hfail.on (by decide) (by simp)).trans (htriedRegs.on (by decide) (by simp))
  have hch : v.ch n = { s.ch n with due := rest } := hfailCh.trans htried
  rw [State.pinOrGiveUp_pins slot found samples hprof (by rw [hch]; exact hroom) ((State.autoWanted_congr hslip r).trans hauto), hch] at ht
  have hpinned := State.ch_setCh_same v n { s.ch n with due := rest, pins := (s.ch n).pins ++ [⟨slot, r, true, false, samples, found, false⟩] }
  have hpinnedOnly := v.setCh_only n { s.ch n with due := rest, pins := (s.ch n).pins ++ [⟨slot, r, true, false, samples, found, false⟩] }
  generalize v.setCh n _ = w at hpinned hpinnedOnly ht
  obtain ⟨hposted, hpostedOnly⟩ := w.postSync_spec n 4 0 slot r
  rw [ht] at hposted hpostedOnly
  refine ⟨?_, ?_, ?_, ?_⟩
  · rw [hposted, hpinned]
  · rw [hposted, hpinned]
  · rw [hposted, hpinned]
  · rw [hpostedOnly, hpinnedOnly, hfailOnly, htriedOnly]

/-! ### The deep-decode engine (R112, R113, R120) -/

/-- With no command queued the engine takes none. -/
theorem State.ddNext_none (h : (s.ch n).queued = none) : s.ddNext n = s := by
  simp only [State.ddNext, h]

/-- The slot pinned longest that waits for automatic recovery is recovered: its sector waits for the DMA port, and it stays pinned until
that has been delivered (R111, R113). -/
theorem State.autoRecovery_good {p : Pin} (hjob : (s.ch n).job = none) (hqueued : (s.ch n).queued = none)
    (hpin : (s.ch n).pins.find? (fun p => p.auto && !p.done) = some p) (hglob : p.ref.ddglob ≠ 0) : s.autoRecovery n none .good
      = (s.setCh n ((s.ch n).mapPin p.num (fun x => { x with done := true }))).pushResult n p.ref p.deepEvents (.auto p.num) true := by
  have hnext : ∀ f, (((s.setCh n ((s.ch n).mapPin p.num f)).pushResult n p.ref p.deepEvents (.auto p.num) true).ch n).queued = none :=
    fun f => by rw [(State.pushResult_spec _ n _ _ _ _).1, State.ch_setCh_same]; exact hqueued
  have hglob' : (p.ref.ddglob == 0) = false := beq_false_of_ne hglob
  unfold State.autoRecovery
  simp only [hjob, hpin, hglob', slipOk, Bool.not_true, Bool.and_false, Bool.or_self, Bool.false_eq_true, if_false]
  exact State.ddNext_none (hnext _)

/-- A register's own write changes no other. -/
theorem State.writePlain_spec (s : State) (u : UnitId) {o : Nat} (ho : o < 0x1000) (v : Word) :
    RegsBut s (s.writePlain u o v) [(u, o)] ∧ s.writePlain u o v = { s with regs := (s.writePlain u o v).regs } := by
  unfold State.writePlain
  split
  · exact ⟨.refl s _, rfl⟩
  · exact ⟨RegsBut.setReg s u ho _, rfl⟩

/-- The command that a write of CHN_DD_CMD asks for on a pinned slot (R112, R132). -/
def ddCommand (v : Word) (p : Pin) : DdJob :=
  { num := F.CHN_DD_CMD_SLOT.get v, ref := p.ref, released := false, glob := F.CHN_DD_CMD_GLOB.get v,
    weight := weightMode (F.CHN_DD_CMD_WEIGHT.get v) p.ref.row.2, done := false, slip := F.CHN_DD_CMD_SLIP.get v == 1 }

/-- The channel whose idle engine has taken that command: its slot's pin has been named by a command (R111, R112). -/
def ddStarted (c : Channel) (v : Word) (p : Pin) : Channel :=
  { c.mapPin (F.CHN_DD_CMD_SLOT.get v) (fun x => { x with cmd := true }) with job := some (ddCommand v p) }

/-- A command of an idle engine on a slot pinned and not in automatic recovery runs, and clears REJ (R112). -/
theorem State.deepDecodeCmd_runs {v : Word} {p : Pin} (hgo : F.CHN_DD_CMD_GO.get v = 1) (hqueued : (s.ch n).queued = none)
    (hbusy : (s.ch n).ddBusy = false) (hlow : 1 ≤ F.CHN_DD_CMD_GLOB.get v) (hhigh : F.CHN_DD_CMD_GLOB.get v ≤ 20)
    (hpin : s.pin? n (F.CHN_DD_CMD_SLOT.get v) = some p) (hauto : p.auto = false) {t : State} (ht : s.deepDecodeCmd n v = t) :
    (t.ch n).job = some (ddCommand v p) ∧ t.f (.chn n) F.CHN_DD_STAT_REJ = 0
      ∧ RegsBut s t [(.chn n, Reg.CHN_DD_CMD), (.chn n, Reg.CHN_DD_STAT)] ∧ t = { s with regs := t.regs, chns := t.chns } := by
  obtain ⟨hwrite, hwriteOnly⟩ := s.writePlain_spec (.chn n) (show Reg.CHN_DD_CMD < 0x1000 by decide) v
  unfold State.deepDecodeCmd at ht
  generalize s.writePlain (.chn n) Reg.CHN_DD_CMD v = w at hwrite hwriteOnly ht
  have hch : w.ch n = s.ch n := State.ch_of_regs hwriteOnly n
  have hrej : (w.setF (.chn n) F.CHN_DD_STAT_REJ 0).f (.chn n) F.CHN_DD_STAT_REJ = 0 := w.f_setF_same _ _ 0 (by decide)
  have hrejRegs : RegsBut w (w.setF (.chn n) F.CHN_DD_STAT_REJ 0) [(.chn n, Reg.CHN_DD_STAT)] := RegsBut.setF w _ _ 0 (by decide)
  have hrejOnly := w.setF_only (.chn n) F.CHN_DD_STAT_REJ 0
  dsimp only at ht
  generalize w.setF (.chn n) F.CHN_DD_STAT_REJ 0 = u at hrej hrejRegs hrejOnly ht
  have hrejCh : u.ch n = w.ch n := State.ch_of_regs hrejOnly n
  have hpinned : u.pin? n (F.CHN_DD_CMD_SLOT.get v) = some p := by
    rw [State.pin?, hrejCh, hch]
    exact hpin
  have hglob : ¬ (F.CHN_DD_CMD_GLOB.get v = 0 ∨ 20 < F.CHN_DD_CMD_GLOB.get v) := by omega
  simp only [hch, hqueued, hgo, hpinned, hauto, hbusy, hglob, Option.isSome_none, Bool.false_eq_true, if_false, Nat.one_ne_zero] at ht
  have hset := State.ch_setCh_same u n (ddStarted (s.ch n) v p)
  have hsetRegs := u.setCh_regs n (ddStarted (s.ch n) v p)
  have hsetOnly := u.setCh_only n (ddStarted (s.ch n) v p)
  rw [show u.setCh n (ddStarted (s.ch n) v p) = t from ht] at hset hsetRegs hsetOnly
  refine ⟨congrArg Channel.job hset, ?_, ((hwrite.mono (by simp)).trans (hrejRegs.mono (by simp))).trans (.of_regs hsetRegs), ?_⟩
  · rw [State.f, State.reg, hsetRegs]
    exact hrej
  · rw [hsetOnly, hrejOnly, hwriteOnly]

/-- A command's result in CHN_DD_STAT (R132). -/
theorem State.ddResult_spec (s : State) (n : Fin 4) {slot result : Nat} (hslot : slot < 4) (hresult : result < 8) (g : Nat) :
    (s.ddResult n slot result g).f (.chn n) F.CHN_DD_STAT_RESULT = result ∧ (s.ddResult n slot result g).f (.chn n) F.CHN_DD_STAT_SLOT = slot
      ∧ RegsBut s (s.ddResult n slot result g) [(.chn n, Reg.CHN_DD_STAT)]
      ∧ s.ddResult n slot result g = { s with regs := (s.ddResult n slot result g).regs } := by
  refine ⟨?_, ?_, ?_, rfl⟩
  · exact ((State.f_setF_ne _ (.chn n) F.CHN_DD_STAT_GLOB_USED F.CHN_DD_STAT_RESULT g rfl (by decide) (by decide)).trans
      (State.f_setF_ne _ (.chn n) F.CHN_DD_STAT_SLOT F.CHN_DD_STAT_RESULT slot rfl (by decide) (by decide))).trans
      ((State.f_setF_same _ (.chn n) F.CHN_DD_STAT_RESULT result (by decide)).trans (Nat.mod_eq_of_lt hresult))
  · exact (State.f_setF_ne _ (.chn n) F.CHN_DD_STAT_GLOB_USED F.CHN_DD_STAT_SLOT g rfl (by decide) (by decide)).trans
      ((State.f_setF_same _ (.chn n) F.CHN_DD_STAT_SLOT slot (by decide)).trans (Nat.mod_eq_of_lt hslot))
  · exact ((RegsBut.setF s (.chn n) F.CHN_DD_STAT_RESULT result (by decide)).trans
      (RegsBut.setF _ (.chn n) F.CHN_DD_STAT_SLOT slot (by decide))).trans (RegsBut.setF _ (.chn n) F.CHN_DD_STAT_GLOB_USED g (by decide))

/-- With no command queued, a command's end leaves the engine idle with its result (R112, R132). -/
theorem State.jobEnd_idle {slot result : Nat} (hqueued : (s.ch n).queued = none) (hslot : slot < 4) (hresult : result < 8) (g : Nat)
    {t : State} (ht : s.jobEnd n slot result g = t) : t.f (.chn n) F.CHN_DD_STAT_RESULT = result ∧ t.f (.chn n) F.CHN_DD_STAT_SLOT = slot
      ∧ t.ch n = { s.ch n with job := none } ∧ RegsBut s t [(.chn n, Reg.CHN_DD_STAT)] ∧ t = { s with regs := t.regs, chns := t.chns } := by
  have hset := State.ch_setCh_same s n { s.ch n with job := none }
  have hsetRegs : (s.setCh n { s.ch n with job := none }).regs = s.regs := rfl
  have hsetOnly := s.setCh_only n { s.ch n with job := none }
  unfold State.jobEnd at ht
  generalize s.setCh n { s.ch n with job := none } = u at hset hsetRegs hsetOnly ht
  obtain ⟨hres, hnum, hregs, honly⟩ := u.ddResult_spec n hslot hresult g
  generalize u.ddResult n slot result g = v at hres hnum hregs honly ht
  have hch : v.ch n = { s.ch n with job := none } := (State.ch_of_regs honly n).trans hset
  rw [State.ddNext_none ((congrArg Channel.queued hch).trans hqueued)] at ht
  subst ht
  exact ⟨hres, hnum, hch, (RegsBut.of_regs hsetRegs).trans hregs, by rw [honly, hsetOnly]⟩

/-- A command whose slot is still pinned, and which does not converge, ends with RESULT 010b (R112, R113). -/
theorem State.deepDecodeDone_notConverged {g : Nat} {j : DdJob} {p : Pin} (hjob : (s.ch n).job = some j) (hreleased : j.released = false)
    (hdone : j.done = false) (hpin : s.pin? n j.num = some p) :
    s.deepDecodeDone n none .notConverged g = s.jobEnd n j.num 2 g := by
  have hgood : (Decoded.notConverged == Decoded.good) = false := rfl
  simp [State.deepDecodeDone, hjob, hreleased, hdone, hpin, slipOk, hgood]

/-! ### The release of a slot (R111) -/

/-- With no command queued, a slot that is not in automatic recovery is released and nothing else follows. -/
theorem State.unpin_plain {i : Nat} {p : Pin} (hpin : s.pin? n i = some p) (hauto : p.auto = false) (hqueued : (s.ch n).queued = none) :
    s.unpin n i = s.setCh n ((s.ch n).release (fun x => x.num == i)) := by
  have hrelease : s.releaseOn n (fun x => x.num == i) = s.setCh n ((s.ch n).release (fun x => x.num == i)) := by
    unfold State.releaseOn
    dsimp only
    split
    · exact State.ddNext_none ((congrArg Channel.queued (State.ch_setCh_same s n _)).trans hqueued)
    · rfl
  unfold State.unpin
  rw [hpin]
  simp only [hauto, Bool.false_and, Bool.false_eq_true, if_false]
  exact hrelease

/-- The bits of a write that names one slot. -/
theorem relBits (i : Fin 4) : [0, 1, 2, 3].filter (fun k => (BitVec.ofNat 32 (2 ^ i.val)).getLsbD k) = [i.val] := by
  revert i
  decide

/-- The pins that a slot's release leaves. -/
theorem State.release_pins (s : State) (n : Fin 4) (i : Nat) :
    ((s.setCh n ((s.ch n).release (fun x => x.num == i))).ch n).pins = (s.ch n).pins.filter (fun x => !(x.num == i)) :=
  congrArg Channel.pins (State.ch_setCh_same s n _)

/-! ### The statement -/

/-- Settles O19, one clause per command and case. -/
theorem sectorDecoding : Obligations.SectorDecoding := by
  refine ⟨?_, ?_, ?_, ?_, ?_, ?_, ?_⟩
  · intro s n slot found samples r rest hr hlive hdue hpin hcap hlock
    obtain ⟨hch, hcount, honly⟩ := State.sectorDecode_delivers (s := s.answer .none) found samples hlive hdue hpin hcap hlock rfl
    exact Completes.of_result hr (exec_sectorDecode n slot _ _ s) rfl
      ⟨by rw [hch]; rfl, by rw [hch], by rw [hch]; rfl, hcount, honly⟩ (by rw [honly]; rfl)
  · intro s n slot found samples r rest hr hlive hdue hpin hcap hlock hprof hroom hauto
    obtain ⟨hpins, hresults, hrest, honly⟩ := State.sectorDecode_pins (s := s.answer .none) found samples hlive hdue hpin hcap hlock
      hprof hroom hauto rfl
    exact Completes.of_result hr (exec_sectorDecode n slot _ _ s) rfl
      ⟨hpins, hresults, hrest, by rw [honly]; rfl, by rw [honly]; rfl⟩ (by rw [honly]; rfl)
  · intro s n g p hr hlive hjob hqueued hpin hglob
    have hpush := (((s.answer .none).setCh n ((s.ch n).mapPin p.num (fun x => { x with done := true }))).pushResult_spec n p.ref
      p.deepEvents (.auto p.num) true).1
    refine Completes.of_result hr (exec_autoRecovery n none .good g s) ((if_pos hlive).trans
      (State.autoRecovery_good (s := s.answer .none) hjob hqueued hpin hglob)) ⟨?_, ?_, rfl⟩ rfl
    · exact (congrArg Channel.results hpush).trans (by rw [State.ch_setCh_same]; rfl)
    · exact (congrArg Channel.pins hpush).trans (by rw [State.ch_setCh_same]; rfl)
  · intro s eng n v p hr hreset hgo hqueued hbusy hlow hhigh hpin hauto
    obtain ⟨hjob, hrej, hregs, honly⟩ := State.deepDecodeCmd_runs (s := s.answer .none) hgo hqueued hbusy hlow hhigh hpin hauto rfl
    exact Completes.of_access hr hreset (exec_deepDecodeCmd eng n v s) (by rw [honly]; rfl) (by rw [honly]; rfl)
      ⟨by rw [hjob]; rfl, hrej, hregs, honly⟩
  · intro s n g j p hr hlive hjob hqueued hreleased hdone hpin hnum
    obtain ⟨hresult, hslot, hch, hregs, honly⟩ := State.jobEnd_idle (s := s.answer .none) hqueued hnum (show 2 < 8 by decide) g rfl
    exact Completes.of_result hr (exec_deepDecodeDone n none .notConverged g s)
      ((if_pos hlive).trans (State.deepDecodeDone_notConverged (s := s.answer .none) hjob hreleased hdone hpin))
      ⟨hresult, hslot, by rw [hch], by rw [hch]; rfl, hregs, honly⟩ (by rw [honly]; rfl)
  · intro s eng n i p hr hreset hpin hauto hqueued
    have hunpin := State.unpin_plain (s := s.answer .none) hpin hauto hqueued
    have hall : ([0, 1, 2, 3].filter (fun k => (BitVec.ofNat 32 (2 ^ i.val)).getLsbD k)).foldl (fun t k => t.unpin n k) (s.answer .none)
        = (s.answer .none).setCh n ((s.ch n).release (fun x => x.num == i.val)) := by
      rw [relBits]
      exact hunpin
    refine Completes.of_access hr hreset (exec_sbufRelease eng n _ s) ?_ ?_ ?_
    · rw [hall]; rfl
    · rw [hall]; rfl
    · rw [hall]
      exact ⟨State.release_pins (s.answer .none) n i.val, rfl⟩
  · intro s n i p hr hpin hcmd hauto hqueued
    have htimeout : (s.answer .none).pinTimeout n i.val = (s.answer .none).setCh n ((s.ch n).release (fun x => x.num == i.val)) := by
      refine Eq.trans ?_ (State.unpin_plain (s := s.answer .none) hpin hauto hqueued)
      have hpin' : (s.answer .none).pin? n i.val = some p := hpin
      simp [State.pinTimeout, hpin', hcmd]
    exact Completes.of_result hr (exec_pinTimeout n i s) htimeout ⟨State.release_pins (s.answer .none) n i.val, rfl⟩ rfl

end Sys2Proof.Machine

/-! SUPPORT. The sequencer's fetch: what a good word leaves, what it depends on, and a machine check's record. -/

namespace Sys2Proof.Machine

variable {s t u : State} {n : Fin 4}

theorem exec_seqJump (n : Fin 4) (par : Parity) (s : State) : exec (.seqJump n par) s
    = done s (fun s => s.seqPhase n 0 (fun s => s.seqFetch n (s.branchAddr n) par)) := rfl
theorem exec_seqCall (n : Fin 4) (par : Parity) (s : State) : exec (.seqCall n par) s
    = done s (fun s => s.seqPhase n 1 (fun s => s.seqCall n par)) := rfl
theorem exec_seqRet (n : Fin 4) (par : Parity) (s : State) : exec (.seqRet n par) s
    = done s (fun s => s.seqPhase n 2 (fun s => s.seqRet n par)) := rfl
theorem exec_seqDispatch (n : Fin 4) (par : Parity) (s : State) : exec (.seqDispatch n par) s
    = done s (fun s => s.seqPhase n 3 (fun s => s.seqDispatch n par)) := rfl
theorem exec_seqEnd (n : Fin 4) (par : Parity) (s : State) : exec (.seqEnd n par) s
    = done s (fun s => s.seqPhase n 4 (fun s => s.seqEnd n par)) := rfl

/-- The sequence action that the word names is carried out once the word has issued and waited (R141). -/
theorem State.seqPhase_due {c : Nat} (f : State → State) (hdue : s.seqDue n c = true) (hc : c < 5) : s.seqPhase n c f = f s := by
  simp only [State.seqDue, Bool.and_eq_true, beq_iff_eq] at hdue
  obtain ⟨⟨⟨hruns, hissued⟩, hwaited⟩, hseq⟩ := hdue
  have hwait : (CsWord.waitEn (s.sq n).word && !(s.sq n).waitDone) = false := by
    cases hen : CsWord.waitEn (s.sq n).word
    · rfl
    · rw [hen] at hwaited
      simpa using hwaited
  simp [State.seqPhase, hruns, hissued, hwait, hseq, Nat.not_le.mpr hc]

/-! ### The parts of a lane -/

@[simp] theorem State.sq_setTim (s : State) (n m : Fin 4) (x : Timing) : (s.setTim n x).sq m = s.sq m := rfl
@[simp] theorem State.tim_setSq (s : State) (n m : Fin 4) (q : Sequencer) : (s.setSq n q).tim m = s.tim m := rfl

theorem State.setSq_only (s : State) (n : Fin 4) (q : Sequencer) : s.setSq n q = { s with seqs := (s.setSq n q).seqs } := rfl
theorem State.setTim_only (s : State) (n : Fin 4) (x : Timing) : s.setTim n x = { s with timing := (s.setTim n x).timing } := rfl
theorem State.setLane_only (s : State) (n : Fin 4) (l : Lane) : s.setLane n l = { s with lanes := (s.setLane n l).lanes } := rfl
theorem State.setAt_only (s : State) (n : Fin 4) (a : Assist) : s.setAt n a = { s with asts := (s.setAt n a).asts } := rfl

/-! ### The fetch (R140, R162) -/

/-- What a fetch of sequencer `n` reads or keeps is in `t` as in `s`: its registers, its patch RAM, its registers G and its flags. -/
structure FetchKept (n : Fin 4) (s t : State) : Prop where
  regs : ∀ o, o < 0x1000 → t.reg (.tsq n) o = s.reg (.tsq n) o
  patch : (t.sq n).patch = (s.sq n).patch
  g : (t.sq n).g = (s.sq n).g
  flags : (t.sq n).flags = (s.sq n).flags

theorem FetchKept.refl (n : Fin 4) (s : State) : FetchKept n s s := ⟨fun _ _ => rfl, rfl, rfl, rfl⟩

/-- Registers of the sequencer that a relation on registers leaves, and a sequencer that is the same. -/
theorem FetchKept.of_sq (hregs : ∀ o, o < 0x1000 → t.reg (.tsq n) o = s.reg (.tsq n) o) (hsq : t.sq n = s.sq n) : FetchKept n s t :=
  ⟨hregs, by rw [hsq], by rw [hsq], by rw [hsq]⟩

/-- Vector substitution reads the sequencer's vector registers (R140). -/
theorem FetchKept.vectored (h : FetchKept n s t) (a : Nat) : t.vectored n a = s.vectored n a := by
  have hreg : ∀ k ∈ List.range 64, t.reg (.tsq n) (Reg.TSQ_PV + 4 * k) = s.reg (.tsq n) (Reg.TSQ_PV + 4 * k) := fun k hk =>
    h.regs _ (by have := List.mem_range.mp hk; simp only [Reg.TSQ_PV]; omega)
  have hfind := List.find?_congr (l := List.range 64)
    (p₁ := fun k => F.TSQ_PV_EN.get (t.reg (.tsq n) (Reg.TSQ_PV + 4 * k)) == 1 && F.TSQ_PV_MATCH.get (t.reg (.tsq n) (Reg.TSQ_PV + 4 * k)) == a)
    (p₂ := fun k => F.TSQ_PV_EN.get (s.reg (.tsq n) (Reg.TSQ_PV + 4 * k)) == 1 && F.TSQ_PV_MATCH.get (s.reg (.tsq n) (Reg.TSQ_PV + 4 * k)) == a)
    (fun k hk => by simp only [hreg k hk])
  unfold State.vectored
  split
  · rfl
  · dsimp only
    rw [hfind]
    split
    · next k hk => rw [hreg k (List.mem_of_find?_eq_some hk)]
    · rfl

/-- The word at a fetch address reads the ROM or the patch RAM (R135). -/
theorem FetchKept.storeWord (h : FetchKept n s t) (a : Nat) : t.storeWord n a = s.storeWord n a := by
  simp only [State.storeWord, Sequencer.patchWord, h.patch]

theorem FetchKept.fetchGood (h : FetchKept n s t) {addr : Nat} (hgood : s.fetchGood n addr) : t.fetchGood n addr := by
  rw [State.fetchGood, h.vectored, h.storeWord]
  exact hgood

/-- A fetch after a change that keeps what it reads is a fetch before it. -/
theorem FetchKept.fetched (h : FetchKept n s t) {addr : Nat} (hf : Fetched n t u addr) : Fetched n s u addr := by
  obtain ⟨hpc, hword, hrun, halu, hevt, hcmd, hwait, hg, hflags, hstarts⟩ := hf
  rw [h.vectored] at hpc hword
  rw [h.storeWord] at hword
  exact ⟨hpc, hword, hrun, halu, hevt, hcmd, hwait, hg.trans h.g, hflags.trans h.flags, hstarts⟩

/-- The sequencer with the word at a fetch address begun (R136, R140). -/
def Sequencer.begun (q : Sequencer) (a : Nat) (w : BitVec 128 × BitVec 16) : Sequencer :=
  { q with word := w.1, par := w.2, pc := a, running := true, aluDone := false, evtDone := false, cmdDone := false,
           waitDone := false, alu := 0 }

/-- The state in which the word at a fetch address has begun, before its parity is checked. -/
def State.wordBegun (s : State) (n : Fin 4) (addr : Nat) : State :=
  (s.setSq n ((s.sq n).begun (s.vectored n (addr % 4096)) (s.storeWord n (s.vectored n (addr % 4096))))).setTim n
    { s.tim n with starts := 0 }

/-- A word begun: the sequencer, its timing unit's count of window starts, and nothing else. -/
theorem State.wordBegun_spec (s : State) (n : Fin 4) (addr : Nat) :
    (s.wordBegun n addr).sq n = (s.sq n).begun (s.vectored n (addr % 4096)) (s.storeWord n (s.vectored n (addr % 4096)))
      ∧ (s.wordBegun n addr).tim n = { s.tim n with starts := 0 }
      ∧ s.wordBegun n addr = { s with seqs := (s.wordBegun n addr).seqs, timing := (s.wordBegun n addr).timing } :=
  ⟨State.sq_setSq_same s n _, State.tim_setTim_same _ n _, rfl⟩

/-- The fetch begins the word, and checks its parity (R162). -/
theorem State.seqFetch_eq (s : State) (n : Fin 4) (addr : Nat) (par : Parity) : s.seqFetch n addr par
    = if (s.storeWord n (s.vectored n (addr % 4096))).2 ≠ oddParity (s.storeWord n (s.vectored n (addr % 4096))).1 ∨ par = .lasting then
        (s.wordBegun n addr).mcheck n (if s.vectored n (addr % 4096) < 0xC00 then 1 else 2)
      else if par = .transient then (s.wordBegun n addr).transient (.tsq n) else s.wordBegun n addr := rfl

/-- A word with good parity is fetched, and the stack and ALIGN stay (R140, R141). -/
theorem State.seqFetch_good {addr : Nat} (hgood : s.fetchGood n addr) (ht : s.seqFetch n addr .ok = t) :
    Fetched n s t addr ∧ (t.sq n).stack = (s.sq n).stack ∧ (t.sq n).align = (s.sq n).align ∧ t.tim n = { s.tim n with starts := 0 }
      ∧ t = { s with seqs := t.seqs, timing := t.timing } := by
  have hbegun : s.seqFetch n addr .ok = s.wordBegun n addr :=
    (s.seqFetch_eq n addr .ok).trans ((if_neg (not_or.mpr ⟨not_not_intro hgood, nofun⟩)).trans (if_neg nofun))
  rw [hbegun] at ht
  obtain ⟨hsq, htim, honly⟩ := s.wordBegun_spec n addr
  rw [ht] at hsq htim honly
  exact ⟨⟨by rw [hsq]; rfl, by rw [hsq]; rfl, by rw [hsq]; rfl, by rw [hsq]; rfl, by rw [hsq]; rfl, by rw [hsq]; rfl, by rw [hsq]; rfl,
    by rw [hsq]; rfl, by rw [hsq]; rfl, by rw [htim]⟩, by rw [hsq]; rfl, by rw [hsq]; rfl, htim, honly⟩

/-- A fetch after a change that keeps what it reads: the word of the state before, in the state after. -/
theorem State.seqFetch_kept {addr : Nat} (hkept : FetchKept n s u) (hgood : s.fetchGood n addr) (ht : u.seqFetch n addr .ok = t) :
    Fetched n s t addr ∧ (t.sq n).stack = (u.sq n).stack ∧ (t.sq n).align = (u.sq n).align ∧ t.tim n = { u.tim n with starts := 0 }
      ∧ t = { u with seqs := t.seqs, timing := t.timing } := by
  obtain ⟨hfetched, hrest⟩ := State.seqFetch_good (hkept.fetchGood hgood) ht
  exact ⟨hkept.fetched hfetched, hrest⟩

/-! ### A machine check (R163, R164) -/

/-- The record of a machine check and the unit's FAULT, once the gates are down; `q` is the sequencer with the word that failed. -/
def State.checkRecorded (s : State) (n : Fin 4) (q : Sequencer) (cause : Nat) : State :=
  let s2 := (((s.setF (.tsq n) F.TSQ_MCHK_VALID 1).setF (.tsq n) F.TSQ_MCHK_PC q.pc).setF (.tsq n) F.TSQ_MCHK_CAUSE cause)
  let s3 := [0, 1, 2, 3].foldl
    (fun t i => t.setReg (.tsq n) (Reg.TSQ_MCHK_W + 4 * i) (q.word.extractLsb' (32 * i) 32)) s2
  let s4 := s3.setReg (.tsq n) Reg.TSQ_MCHK_PAR (q.par.zeroExtend 32)
  let s5 := (s4.setUnitState (.tsq n) stFault).err (.tsq n) 8
  let s6 := if cause = 10 then s5.err (.tsq n) eWdog else s5
  let s7 := if cause = 1 ∨ cause = 2 then (s6.err (.tsq n) eParity).lasting (.tsq n) else s6
  s7.setSq n { q with running := false }

/-- The end of the dispatch in progress with status 1 (R164). -/
def State.checkEnded (s : State) (n : Fin 4) : State :=
  let s9 := s.disarm n
  match (s9.lane n).cur with
  | none => s9
  | some d =>
    let l := s9.lane n
    let s10 := s9.setLane n { l with cur := none, cancelSeen := false, tails := l.tails ++ [{ d with ended := some 1 }] }
    ((s10.ackCancels n d.slot).capEnd (.transfer n.val)).reportSettled n

/-- A machine check stops what goes on, records itself and ends the dispatch. -/
theorem State.mcheck_eq (s : State) (n : Fin 4) (cause : Nat) : s.mcheck n cause
    = ((if s.writing n then s.writeStop n wsMachine else s.haltTiming n false).checkRecorded n (s.sq n) cause).checkEnded n := rfl

/-- A disarmed assist is within the lane's reach, and settles nothing. -/
theorem State.disarm_reach (s : State) (n : Fin 4) : LaneReach n s (s.disarm n) ∧ SettleKeeps s (s.disarm n) ∧ LaneOnly s (s.disarm n) := by
  unfold State.disarm
  have hset : LaneReach n s (s.setF (.ast n) F.AST_STAT_ARMED 0) := LaneReach.of_setF s (by decide) (.ast _ _) _
  have hkeeps : SettleKeeps s (s.setF (.ast n) F.AST_STAT_ARMED 0) := SettleKeeps.setF s (by decide) (by simp) (by decide) _
  have honly : LaneOnly s (s.setF (.ast n) F.AST_STAT_ARMED 0) := LaneOnly.setF s _ _ _
  generalize s.setF (.ast n) F.AST_STAT_ARMED 0 = u at hset hkeeps honly ⊢
  dsimp only
  generalize { (u.at n).withdraw Frame.ofArm with arming := false } = a
  have hat : LaneOnly u (u.setAt n a) := rfl
  exact ⟨(hset.trans (LaneReach.setAt u n a)).trans (State.updAgate_reach _ n),
    (hkeeps.trans (.of_eq (t := u.setAt n a) rfl rfl rfl)).trans (State.updAgate_keeps _ n), (honly.trans hat).trans (State.updAgate_only _ n)⟩

/-- A disarmed assist leaves the lanes. -/
theorem State.disarm_lanes (s : State) (n : Fin 4) : (s.disarm n).lanes = s.lanes := by
  unfold State.disarm
  have hset : (s.setF (.ast n) F.AST_STAT_ARMED 0).lanes = s.lanes := rfl
  generalize s.setF (.ast n) F.AST_STAT_ARMED 0 = u at hset ⊢
  dsimp only
  generalize { (u.at n).withdraw Frame.ofArm with arming := false } = a
  have hat := u.setAt_lanes n a
  generalize u.setAt n a = v at hat ⊢
  rw [(v.updAgate_spec n).2.2, ← hset, ← hat]

/-- The end of the dispatch reaches what the lane reaches, and leaves the sequencer, the timing units and the write status. -/
theorem State.checkEnded_leaves (s : State) (n : Fin 4) :
    LaneReach n s (s.checkEnded n) ∧ SettleKeeps s (s.checkEnded n) ∧ (s.checkEnded n).sq n = s.sq n := by
  obtain ⟨hreach, hkeeps, honly⟩ := s.disarm_reach n
  have hsq := honly.sq n
  unfold State.checkEnded
  generalize s.disarm n = u at hreach hkeeps hsq ⊢
  dsimp only
  split
  · exact ⟨hreach, hkeeps, hsq⟩
  · next d _ =>
    generalize { u.lane n with cur := none, cancelSeen := false, tails := (u.lane n).tails ++ [{ d with ended := some 1 }] } = l
    have hack : LaneReach n (u.setLane n l) ((u.setLane n l).ackCancels n d.slot) :=
      ⟨fun _ _ _ _ => rfl, fun _ _ => rfl, fun _ _ => rfl, fun _ _ => rfl, rfl, rfl, rfl⟩
    have hcap := LaneReach.capEnd (n := n) ((u.setLane n l).ackCancels n d.slot) (.transfer n.val)
    have hkept : SettleKeeps u (((u.setLane n l).ackCancels n d.slot).capEnd (.transfer n.val)) := .of_eq rfl rfl rfl
    have hsame : (((u.setLane n l).ackCancels n d.slot).capEnd (.transfer n.val)).sq n = u.sq n := rfl
    have hlane := (LaneReach.setLane_own (n := n) u l).trans (hack.trans hcap)
    generalize ((u.setLane n l).ackCancels n d.slot).capEnd (.transfer n.val) = v at hlane hkept hsame ⊢
    exact ⟨(hreach.trans hlane).trans (v.reportSettled_reach n), (hkeeps.trans hkept).trans (v.reportSettled_keeps n),
      ((v.reportSettled_only n).sq n).trans (hsame.trans hsq)⟩

/-- The registers that follow the record's first one. -/
abbrev checkRegs (n : Fin 4) : List (UnitId × Nat) :=
  [(.tsq n, Reg.TSQ_MCHK_W), (.tsq n, Reg.TSQ_MCHK_W + 4), (.tsq n, Reg.TSQ_MCHK_W + 8), (.tsq n, Reg.TSQ_MCHK_W + 12),
    (.tsq n, Reg.TSQ_MCHK_PAR)]

/-- The word that failed, in the record (R163). -/
theorem State.checkWord_regs (s : State) (n : Fin 4) (q : Sequencer) :
    RegsBut s (([0, 1, 2, 3].foldl (fun t i => t.setReg (.tsq n) (Reg.TSQ_MCHK_W + 4 * i) (q.word.extractLsb' (32 * i) 32)) s).setReg
      (.tsq n) Reg.TSQ_MCHK_PAR (q.par.zeroExtend 32)) (checkRegs n) := by
  have hset : ∀ (t : State) (o : Nat) (w : Word), (.tsq n, o) ∈ checkRegs n → o < 0x1000 → RegsBut t (t.setReg (.tsq n) o w) (checkRegs n) :=
    fun t o w hmem ho => (RegsBut.setReg t (.tsq n) ho w).mono (by simpa using hmem)
  simp only [List.foldl_cons, List.foldl_nil]
  exact ((((hset _ _ _ (by simp) (by decide)).trans (hset _ _ _ (by simp) (by decide))).trans (hset _ _ _ (by simp) (by decide))).trans
    (hset _ _ _ (by simp) (by decide))).trans (hset _ _ _ (by simp) (by decide))

/-- The first register of the record (R163). -/
theorem State.checkCause_spec (s : State) (n : Fin 4) (pc : Nat) {cause : Nat} (hcause : cause < 16) {t : State} (ht :
    ((s.setF (.tsq n) F.TSQ_MCHK_VALID 1).setF (.tsq n) F.TSQ_MCHK_PC pc).setF (.tsq n) F.TSQ_MCHK_CAUSE cause = t) :
    t.f (.tsq n) F.TSQ_MCHK_VALID = 1 ∧ t.f (.tsq n) F.TSQ_MCHK_CAUSE = cause := by
  subst ht
  constructor
  · rw [State.f_setF_ne _ _ F.TSQ_MCHK_CAUSE F.TSQ_MCHK_VALID _ rfl (by decide) (by decide),
      State.f_setF_ne _ _ F.TSQ_MCHK_PC F.TSQ_MCHK_VALID _ rfl (by decide) (by decide), State.f_setF_same _ _ _ _ (by decide)]
    rfl
  · rw [State.f_setF_same _ _ _ _ (by decide)]
    exact Nat.mod_eq_of_lt hcause

/-- A machine check's errors write UNIT_ERR and the count of lasting faults (R19, R164). -/
theorem State.checkErrors_regs (s : State) (n : Fin 4) (cause : Nat) {t u v : State} (ht : s.err (.tsq n) 8 = t)
    (hu : (if cause = 10 then t.err (.tsq n) eWdog else t) = u)
    (hv : (if cause = 1 ∨ cause = 2 then (u.err (.tsq n) eParity).lasting (.tsq n) else u) = v) :
    RegsBut s v [(.tsq n, Reg.UNIT_ERR), (.tsq n, Reg.UNIT_LAST_CNT)] ∧ SettleKeeps s v := by
  have herr : ∀ (x : State) (i : Nat), RegsBut x (x.err (.tsq n) i) [(.tsq n, Reg.UNIT_ERR), (.tsq n, Reg.UNIT_LAST_CNT)]
      ∧ SettleKeeps x (x.err (.tsq n) i) := fun x i => ⟨(RegsBut.err x (.tsq n) i).mono (by simp), SettleKeeps.err x (by simp) i⟩
  have h1 := ht ▸ herr s 8
  have h2 : RegsBut t u [(.tsq n, Reg.UNIT_ERR), (.tsq n, Reg.UNIT_LAST_CNT)] ∧ SettleKeeps t u := by
    split at hu
    · exact hu ▸ herr t eWdog
    · exact hu ▸ ⟨.refl t _, .refl t⟩
  have h3 : RegsBut u v [(.tsq n, Reg.UNIT_ERR), (.tsq n, Reg.UNIT_LAST_CNT)] ∧ SettleKeeps u v := by
    split at hv
    · obtain ⟨hregs, hkeeps⟩ := herr u eParity
      generalize u.err (.tsq n) eParity = w at hregs hkeeps hv
      exact hv ▸ ⟨hregs.trans (RegsBut.lasting w (.tsq n)),
        hkeeps.trans ((SettleKeeps.err w (by simp) _).trans (SettleKeeps.countSat _ (by decide) (by simp) (by decide)))⟩
    · exact hv ▸ ⟨.refl u _, .refl u⟩
  exact ⟨(h1.1.trans h2.1).trans h3.1, (h1.2.trans h2.2).trans h3.2⟩

/-- The record of a machine check (R163, R164). -/
theorem State.checkRecorded_spec (s : State) (n : Fin 4) (q : Sequencer) {cause : Nat} (hcause : cause < 16)
    {t : State} (ht : s.checkRecorded n q cause = t) : t.f (.tsq n) F.TSQ_MCHK_VALID = 1 ∧ t.f (.tsq n) F.TSQ_MCHK_CAUSE = cause
      ∧ t.unitState (.tsq n) = stFault ∧ (t.sq n).running = false ∧ SettleKeeps s t := by
  unfold State.checkRecorded at ht
  have hset : ∀ (x : State) (f : Field) (v : Nat), f.off < 0x1000 → f.off ≠ Reg.CHN_WR_STAT → SettleKeeps x (x.setF (.tsq n) f v) :=
    fun x f v ho hne => SettleKeeps.setF x ho (by simp) hne v
  have hfirst := s.checkCause_spec n q.pc hcause rfl
  have hfirstKeeps := ((hset s F.TSQ_MCHK_VALID 1 (by decide) (by decide)).trans (hset _ F.TSQ_MCHK_PC q.pc (by decide) (by decide))).trans
    (hset _ F.TSQ_MCHK_CAUSE cause (by decide) (by decide))
  generalize ((s.setF (.tsq n) F.TSQ_MCHK_VALID 1).setF (.tsq n) F.TSQ_MCHK_PC q.pc).setF (.tsq n) F.TSQ_MCHK_CAUSE cause = a
    at hfirst hfirstKeeps ht
  have hword := a.checkWord_regs n q
  have hwordKeeps : SettleKeeps a (([0, 1, 2, 3].foldl (fun t i => t.setReg (.tsq n) (Reg.TSQ_MCHK_W + 4 * i)
      (q.word.extractLsb' (32 * i) 32)) a).setReg (.tsq n) Reg.TSQ_MCHK_PAR (q.par.zeroExtend 32)) := by
    refine SettleKeeps.trans ?_ (SettleKeeps.setReg _ (by decide) (by simp) (by decide) _)
    simp only [List.foldl_cons, List.foldl_nil]
    exact (((SettleKeeps.setReg a (by decide) (by simp) (by decide) _).trans (SettleKeeps.setReg _ (by decide) (by simp) (by decide) _)).trans
      (SettleKeeps.setReg _ (by decide) (by simp) (by decide) _)).trans (SettleKeeps.setReg _ (by decide) (by simp) (by decide) _)
  dsimp only at ht
  generalize ([0, 1, 2, 3].foldl (fun t i => t.setReg (.tsq n) (Reg.TSQ_MCHK_W + 4 * i) (q.word.extractLsb' (32 * i) 32)) a).setReg
    (.tsq n) Reg.TSQ_MCHK_PAR (q.par.zeroExtend 32) = b at hword hwordKeeps ht
  have hstate : (b.setUnitState (.tsq n) stFault).unitState (.tsq n) = stFault := b.f_setF_same _ F.UNIT_STAT_STATE stFault (by decide)
  have hstateRegs : RegsBut b (b.setUnitState (.tsq n) stFault) [(.tsq n, Reg.UNIT_STAT)] := RegsBut.setF b _ F.UNIT_STAT_STATE _ (by decide)
  have hstateKeeps := hset b F.UNIT_STAT_STATE stFault (by decide) (by decide)
  change SettleKeeps b (b.setUnitState (.tsq n) stFault) at hstateKeeps
  generalize b.setUnitState (.tsq n) stFault = c at hstate hstateRegs hstateKeeps ht
  obtain ⟨herr, herrKeeps⟩ := c.checkErrors_regs n cause rfl rfl rfl
  generalize (if cause = 1 ∨ cause = 2 then _ else _ : State) = d at herr herrKeeps ht
  have hsq := State.sq_setSq_same d n { q with running := false }
  have hsqRegs := d.setSq_regs n { q with running := false }
  have hsqKeeps : SettleKeeps d (d.setSq n { q with running := false }) := .of_eq rfl rfl rfl
  rw [ht] at hsq hsqRegs hsqKeeps
  have hcd : RegsBut c t [(.tsq n, Reg.UNIT_ERR), (.tsq n, Reg.UNIT_LAST_CNT)] := herr.trans (.of_regs hsqRegs)
  refine ⟨?_, ?_, ?_, congrArg Sequencer.running hsq,
    (((hfirstKeeps.trans hwordKeeps).trans hstateKeeps).trans herrKeeps).trans hsqKeeps⟩
  · exact ((hcd.f (by decide) (by simp)).trans ((hstateRegs.f (by decide) (by simp)).trans (hword.f (by decide) (by simp)))).trans hfirst.1
  · exact ((hcd.f (by decide) (by simp)).trans ((hstateRegs.f (by decide) (by simp)).trans (hword.f (by decide) (by simp)))).trans hfirst.2
  · exact (hcd.f (f := F.UNIT_STAT_STATE) (by decide) (by simp)).trans hstate

/-- What a machine check leaves: its record, the unit in FAULT, and no word in progress (R163, R164). -/
theorem State.mcheck_spec (s : State) (n : Fin 4) {cause : Nat} (hcause : cause < 16) {t : State} (ht : s.mcheck n cause = t) :
    t.f (.tsq n) F.TSQ_MCHK_VALID = 1 ∧ t.f (.tsq n) F.TSQ_MCHK_CAUSE = cause ∧ t.unitState (.tsq n) = stFault
      ∧ (t.sq n).running = false := by
  rw [State.mcheck_eq] at ht
  generalize (if s.writing n then s.writeStop n wsMachine else s.haltTiming n false) = u at ht
  obtain ⟨hvalid, hc, hstate, hrun, -⟩ := u.checkRecorded_spec n (s.sq n) hcause rfl
  generalize u.checkRecorded n (s.sq n) cause = v at hvalid hc hstate hrun ht
  obtain ⟨hreach, -, hsq⟩ := v.checkEnded_leaves n
  rw [ht] at hreach hsq
  have hf : ∀ f : Field, f.off < 0x1000 → t.f (.tsq n) f = v.f (.tsq n) f := fun f ho => hreach.regs.f ho id
  exact ⟨(hf _ (by decide)).trans hvalid, (hf _ (by decide)).trans hc, (hf F.UNIT_STAT_STATE (by decide)).trans hstate, by rw [hsq, hrun]⟩

end Sys2Proof.Machine

/-! SUPPORT. DISPATCH and END: the descriptor that starts, a write that the preamplifier stops before it begins, and the dispatch that
ends. -/

namespace Sys2Proof.Machine

variable {s t u : State} {n : Fin 4}

/-! ### The descriptor that starts (R78, R129, R160) -/

/-- The descriptor that waited is in progress. -/
def State.dispTaken (s : State) (n : Fin 4) (d : Disp) : State :=
  s.setLane n { s.lane n with next := none, cur := some d, cancelSeen := false }

/-- The divider follows the zone (R78). -/
def State.dispDivider (s : State) (n : Fin 4) (d : Disp) : State :=
  if d.div &&& 0x007FFFFF = (s.lane n).divInForce then s else s.divWrite n d.div

/-- A transfer counts under the cap (R58, R60). -/
def State.dispCounted (s : State) (n : Fin 4) (d : Disp) : State := if d.op = 4 then s else s.capStart (.transfer n.val)

/-- A write begins without a stop cause (R129). -/
def State.dispCause (s : State) (n : Fin 4) (d : Disp) : State := if d.isWrite then s.setF (.chn n) F.CHN_WR_STAT_CAUSE 0 else s

/-- The timing unit and the sequencer begin the dispatch (R128, R139). -/
def State.dispBegun (s : State) (n : Fin 4) : State :=
  (s.setTim n { s.tim n with wstop := false }).setSq n { s.sq n with align := 0 }

/-- The descriptor that waited has started. -/
def State.dispStarted (s : State) (n : Fin 4) (d : Disp) : State :=
  ((((s.dispTaken n d).dispDivider n d).dispCounted n d).dispCause n d).dispBegun n

/-- A descriptor that waits is started; a write is stopped at once where Ln_PA_FLT_N is low (R129). -/
theorem State.startDispatch_waits {d : Disp} (hnext : (s.lane n).next = some d) (hwaits : s.dispWaits n = true) : s.startDispatch n
    = if d.isWrite && ((s.dispStarted n d).lane n).paLow then
        ((s.dispStarted n d).writeStop n wsPreamp).setF (.chn n) F.CHN_WR_STAT_SECTOR d.first else s.dispStarted n d := by
  unfold State.startDispatch
  rw [hnext]
  dsimp only
  rw [hwaits]
  rfl

/-- With no descriptor waiting nothing starts. -/
theorem State.startDispatch_none (hnext : (s.lane n).next = none) : s.startDispatch n = s := by
  unfold State.startDispatch
  rw [hnext]

theorem State.dispTaken_spec (s : State) (n : Fin 4) (d : Disp) :
    (s.dispTaken n d).lane n = { s.lane n with next := none, cur := some d, cancelSeen := false }
      ∧ (s.dispTaken n d).regs = s.regs ∧ s.dispTaken n d = { s with lanes := (s.dispTaken n d).lanes } :=
  ⟨State.lane_setLane_same s n _, rfl, rfl⟩

/-- A write of the divider leaves the lane's dispatches and its fault input. -/
theorem State.divWrite_lane (s : State) (n : Fin 4) (v : Word) : ((s.divWrite n v).lane n).cur = (s.lane n).cur
    ∧ ((s.divWrite n v).lane n).next = (s.lane n).next ∧ ((s.divWrite n v).lane n).paLow = (s.lane n).paLow := by
  unfold State.divWrite
  dsimp only
  split
  · simp only [State.lane_setLane_same, and_self]
  · exact ⟨rfl, rfl, rfl⟩

theorem State.dispDivider_spec (s : State) (n : Fin 4) (d : Disp) :
    (((s.dispDivider n d).lane n).cur = (s.lane n).cur ∧ ((s.dispDivider n d).lane n).next = (s.lane n).next
        ∧ ((s.dispDivider n d).lane n).paLow = (s.lane n).paLow)
      ∧ RegsBut s (s.dispDivider n d) [(.lane n, Reg.LN_CLK_DIV), (.lane n, Reg.LN_CLK_STAT)]
      ∧ s.dispDivider n d = { s with regs := (s.dispDivider n d).regs, lanes := (s.dispDivider n d).lanes } := by
  unfold State.dispDivider
  split
  · exact ⟨⟨rfl, rfl, rfl⟩, .refl s _, rfl⟩
  · exact ⟨s.divWrite_lane n d.div, s.divWrite_only n d.div⟩

/-- A transfer that starts is one more (R60). -/
theorem State.capTransfers_capStart (s : State) (m : Nat) : (s.capStart (.transfer m)).capTransfers = s.capTransfers + 1 := by
  simp [State.capTransfers, State.capStart]

theorem State.dispCounted_spec (s : State) (n : Fin 4) (d : Disp) :
    (d.op ≠ 4 → (s.dispCounted n d).capTransfers = s.capTransfers + 1) ∧ (s.dispCounted n d).lanes = s.lanes
      ∧ (s.dispCounted n d).regs = s.regs ∧ s.dispCounted n d = { s with dev := (s.dispCounted n d).dev } := by
  unfold State.dispCounted
  split
  · next h => exact ⟨fun hne => absurd h hne, rfl, rfl, rfl⟩
  · exact ⟨fun _ => s.capTransfers_capStart n.val, rfl, rfl, rfl⟩

theorem State.dispCause_spec (s : State) (n : Fin 4) (d : Disp) :
    (d.isWrite = true → (s.dispCause n d).f (.chn n) F.CHN_WR_STAT_CAUSE = 0)
      ∧ RegsBut s (s.dispCause n d) [(.chn n, Reg.CHN_WR_STAT)] ∧ (s.dispCause n d).lanes = s.lanes
      ∧ (s.dispCause n d).dev = s.dev ∧ s.dispCause n d = { s with regs := (s.dispCause n d).regs } := by
  unfold State.dispCause
  split
  · exact ⟨fun _ => s.f_setF_same (.chn n) F.CHN_WR_STAT_CAUSE 0 (by decide), RegsBut.setF s (.chn n) F.CHN_WR_STAT_CAUSE 0 (by decide),
      rfl, rfl, rfl⟩
  · next h => exact ⟨fun hw => absurd hw h, .refl s _, rfl, rfl, rfl⟩

theorem State.dispBegun_spec (s : State) (n : Fin 4) : (s.dispBegun n).sq n = { s.sq n with align := 0 }
    ∧ (s.dispBegun n).tim n = { s.tim n with wstop := false } ∧ (s.dispBegun n).regs = s.regs ∧ (s.dispBegun n).lanes = s.lanes
    ∧ (s.dispBegun n).dev = s.dev ∧ s.dispBegun n = { s with seqs := (s.dispBegun n).seqs, timing := (s.dispBegun n).timing } :=
  ⟨State.sq_setSq_same _ n _, State.tim_setTim_same s n _, rfl, rfl, rfl, rfl⟩

/-- The parts of a state that are the same in another, one by one. -/
theorem State.lane_congr (h : t.lanes = s.lanes) (m : Fin 4) : t.lane m = s.lane m := by rw [State.lane, State.lane, h]
theorem State.f_congr (h : t.regs = s.regs) (u : UnitId) (f : Field) : t.f u f = s.f u f := by simp only [State.f, State.reg, h]
theorem State.capTransfers_congr (h : t.dev = s.dev) : t.capTransfers = s.capTransfers := by simp only [State.capTransfers, h]
theorem State.capTransfers_of_lanes {r : List (Nat × Word)} {l : Vector Lane 4} (h : t = { s with regs := r, lanes := l }) :
    t.capTransfers = s.capTransfers := State.capTransfers_congr (by rw [h])

/-- A descriptor started: the lane, the sequencer and the timing unit, what it counts, the registers it writes, and nothing else. -/
theorem State.dispStarted_spec (s : State) (n : Fin 4) (d : Disp) {t : State} (ht : s.dispStarted n d = t) :
    (t.lane n).cur = some d ∧ (t.lane n).next = none ∧ (t.lane n).paLow = (s.lane n).paLow ∧ t.sq n = { s.sq n with align := 0 }
      ∧ (t.tim n).wstop = false ∧ (d.op ≠ 4 → t.capTransfers = s.capTransfers + 1)
      ∧ (d.isWrite = true → t.f (.chn n) F.CHN_WR_STAT_CAUSE = 0)
      ∧ RegsBut s t [(.lane n, Reg.LN_CLK_DIV), (.lane n, Reg.LN_CLK_STAT), (.chn n, Reg.CHN_WR_STAT)]
      ∧ t = { s with regs := t.regs, lanes := t.lanes, seqs := t.seqs, timing := t.timing, dev := t.dev } := by
  unfold State.dispStarted at ht
  obtain ⟨htaken, htakenRegs, htakenOnly⟩ := s.dispTaken_spec n d
  generalize s.dispTaken n d = a at htaken htakenRegs htakenOnly ht
  obtain ⟨⟨hcur, hnext, hpa⟩, hdivRegs, hdivOnly⟩ := a.dispDivider_spec n d
  generalize a.dispDivider n d = b at hcur hnext hpa hdivRegs hdivOnly ht
  obtain ⟨hcap, hcapLanes, hcapRegs, hcapOnly⟩ := b.dispCounted_spec n d
  generalize b.dispCounted n d = c at hcap hcapLanes hcapRegs hcapOnly ht
  obtain ⟨hcause, hcauseRegs, hcauseLanes, hcauseDev, hcauseOnly⟩ := c.dispCause_spec n d
  generalize c.dispCause n d = e at hcause hcauseRegs hcauseLanes hcauseDev hcauseOnly ht
  obtain ⟨hsq, htim, hregs, hlanes, hdev, honly⟩ := e.dispBegun_spec n
  rw [ht] at hsq htim hregs hlanes hdev honly
  have hlane : t.lane n = b.lane n := State.lane_congr (hlanes.trans (hcauseLanes.trans hcapLanes)) n
  have hseq : e.sq n = s.sq n := by rw [hcauseOnly, hcapOnly, hdivOnly, htakenOnly]; rfl
  have hcount : b.capTransfers = s.capTransfers := (State.capTransfers_of_lanes hdivOnly).trans (State.capTransfers_congr (by rw [htakenOnly]))
  refine ⟨?_, ?_, ?_, hsq.trans (by rw [hseq]), by rw [htim], fun hop => ?_, fun hw => ?_, ?_, ?_⟩
  · rw [hlane, hcur, htaken]
  · rw [hlane, hnext, htaken]
  · rw [hlane, hpa, htaken]
  · rw [State.capTransfers_congr (hdev.trans hcauseDev), hcap hop, hcount]
  · exact (State.f_congr hregs _ _).trans (hcause hw)
  · exact (((RegsBut.of_regs htakenRegs).trans (hdivRegs.mono (by simp))).trans (.of_regs hcapRegs)).trans
      ((hcauseRegs.mono (by simp)).trans (.of_regs hregs))
  · rw [honly, hcauseOnly, hcapOnly, hdivOnly, htakenOnly]

/-- What a started descriptor leaves of what the fetch reads. -/
theorem State.dispStarted_kept (s : State) (n : Fin 4) (d : Disp) : FetchKept n s (s.dispStarted n d) := by
  obtain ⟨-, -, -, hsq, -, -, -, hregs, -⟩ := s.dispStarted_spec n d rfl
  generalize s.dispStarted n d = t at hsq hregs ⊢
  exact ⟨fun o ho => hregs _ o ho (by simp), by rw [hsq], by rw [hsq], by rw [hsq]; rfl⟩

/-- DISPATCH with a descriptor that waits and may start: it is in progress, and the fetch follows its operation (R141, R160). -/
theorem State.seqDispatch_starts {d : Disp} (hnext : (s.lane n).next = some d) (hwaits : s.dispWaits n = true)
    (hpa : d.isWrite = true → (s.lane n).paLow = false) (hgood : s.fetchGood n (CsWord.next (s.sq n).word ||| d.op % 16))
    (ht : s.seqDispatch n .ok = t) : Fetched n s t (CsWord.next (s.sq n).word ||| d.op % 16) ∧ (t.lane n).cur = some d
      ∧ (t.lane n).next = none ∧ (t.sq n).align = 0 ∧ (t.tim n).wstop = false ∧ (d.op ≠ 4 → t.capTransfers = s.capTransfers + 1)
      ∧ (d.isWrite = true → t.f (.chn n) F.CHN_WR_STAT_CAUSE = 0)
      ∧ RegsBut s t [(.lane n, Reg.LN_CLK_DIV), (.lane n, Reg.LN_CLK_STAT), (.chn n, Reg.CHN_WR_STAT)]
      ∧ t = { s with regs := t.regs, lanes := t.lanes, seqs := t.seqs, timing := t.timing, dev := t.dev } := by
  obtain ⟨hcur, hnone, hlow, hsq, hwstop, hcap, hcause, hregs, honly⟩ := s.dispStarted_spec n d rfl
  have hkept := s.dispStarted_kept n d
  have hstart : s.startDispatch n = s.dispStarted n d := by
    refine (State.startDispatch_waits hnext hwaits).trans (if_neg ?_)
    rw [hlow, Bool.and_eq_true, not_and]
    exact fun hw hlow => absurd hlow (by rw [hpa hw]; nofun)
  unfold State.seqDispatch at ht
  rw [hstart] at ht
  generalize s.dispStarted n d = u at hcur hnone hsq hwstop hcap hcause hregs honly hkept ht
  dsimp only at ht
  rw [hcur] at ht
  obtain ⟨hfetched, -, halign, htim, hfetchOnly⟩ := State.seqFetch_kept hkept hgood ht
  have htRegs : t.regs = u.regs := by rw [hfetchOnly]
  have htLane : t.lane n = u.lane n := State.lane_congr (by rw [hfetchOnly]) n
  have htDev : t.dev = u.dev := by rw [hfetchOnly]
  refine ⟨hfetched, by rw [htLane, hcur], by rw [htLane, hnone], by rw [halign, hsq], by rw [htim, hwstop], fun hop => ?_, fun hw => ?_,
    hregs.trans (.of_regs htRegs), by rw [hfetchOnly, honly]⟩
  · exact (State.capTransfers_congr htDev).trans (hcap hop)
  · exact (State.f_congr htRegs _ _).trans (hcause hw)

/-! ### A write stopped before it begins (R128, R129) -/

/-- The write of lane `n` has stopped with a cause and a sector, and no write gate is requested. -/
structure WriteStopped (n : Fin 4) (cause sector : Nat) (s : State) : Prop where
  cause : s.f (.chn n) F.CHN_WR_STAT_CAUSE = cause
  sector : s.f (.chn n) F.CHN_WR_STAT_SECTOR = sector
  wstop : (s.tim n).wstop = true
  wreq : (s.tim n).wreq = false

/-- A halt of the timing unit empties it, and a write stopped stays so (R156). -/
theorem State.haltTiming_tim (s : State) (n : Fin 4) (w : Bool) : (s.haltTiming n w).tim n
    = { s.tim n with timed := [], act := [], caps := [], ag := false, wreq := false, wstop := (s.tim n).wstop || w } := by
  unfold State.haltTiming
  extract_lets x waiting same reads cut lost s1 c s2 s3
  have h1 : s1.tim n = { x with timed := [], act := [], caps := [], ag := false, wreq := false, wstop := x.wstop || w } :=
    State.tim_setTim_same s n _
  have hlast := (State.giveUp_keeps s3 n lost).timing
  exact (congrArg (fun v : Vector Timing 4 => v[n]) hlast).trans h1

theorem SettleKeeps.stopped {cause sector : Nat} (hk : SettleKeeps s t) (h : WriteStopped n cause sector s) : WriteStopped n cause sector t := by
  have htim : t.tim n = s.tim n := congrArg (fun v : Vector Timing 4 => v[n]) hk.timing
  have hf : ∀ f : Field, f.off = Reg.CHN_WR_STAT → t.f (.chn n) f = s.f (.chn n) f := fun f hf => by
    rw [State.f, State.f, hf, hk.status n]
  exact ⟨(hf _ rfl).trans h.cause, (hf _ rfl).trans h.sector, by rw [htim]; exact h.wstop, by rw [htim]; exact h.wreq⟩

/-- A halt leaves a write stopped. -/
theorem WriteStopped.haltTiming {cause sector : Nat} (h : WriteStopped n cause sector s) (w : Bool) :
    WriteStopped n cause sector (s.haltTiming n w) := by
  have htim := s.haltTiming_tim n w
  have hf : ∀ f : Field, f.off = Reg.CHN_WR_STAT → (s.haltTiming n w).f (.chn n) f = s.f (.chn n) f := fun f hf => by
    rw [State.f, State.f, hf, (s.haltTiming_ends n w).2]
  exact ⟨(hf _ rfl).trans h.cause, (hf _ rfl).trans h.sector, by rw [htim, h.wstop]; rfl, by rw [htim]⟩

/-- A machine check leaves a write stopped: there is no gate to fall. -/
theorem WriteStopped.mcheck {cause sector c : Nat} (h : WriteStopped n cause sector s) (hc : c < 16) :
    WriteStopped n cause sector (s.mcheck n c) := by
  rw [State.mcheck_eq, if_neg (ne_true_of_eq_false (show s.writing n = false from h.wreq))]
  have hhalt := h.haltTiming false
  generalize s.haltTiming n false = u at hhalt ⊢
  obtain ⟨-, -, -, -, hrecord⟩ := u.checkRecorded_spec n (s.sq n) hc rfl
  generalize u.checkRecorded n (s.sq n) c = v at hrecord ⊢
  exact (v.checkEnded_leaves n).2.1.stopped (hrecord.stopped hhalt)

/-- A fetch, whatever its parity, leaves a write stopped. -/
theorem WriteStopped.seqFetch {cause sector : Nat} (h : WriteStopped n cause sector s) (addr : Nat) (par : Parity) :
    WriteStopped n cause sector (s.seqFetch n addr par) := by
  obtain ⟨-, htim, honly⟩ := s.wordBegun_spec n addr
  have hregs : (s.wordBegun n addr).regs = s.regs := by rw [honly]
  have hbegun : WriteStopped n cause sector (s.wordBegun n addr) :=
    ⟨(State.f_congr hregs _ _).trans h.cause, (State.f_congr hregs _ _).trans h.sector, by rw [htim]; exact h.wstop,
      by rw [htim]; exact h.wreq⟩
  rw [State.seqFetch_eq]
  generalize s.wordBegun n addr = u at hbegun ⊢
  split
  · exact hbegun.mcheck (by split <;> decide)
  · split
    · exact ((SettleKeeps.err u (by simp) _).trans (SettleKeeps.countSat _ (by decide) (by simp) (by decide))).stopped hbegun
    · exact hbegun

@[simp] theorem State.tim_setF (s : State) (m : Fin 4) (u : UnitId) (f : Field) (v : Nat) : (s.setF u f v).tim m = s.tim m := rfl

/-- A write stop halts the timing unit for good. -/
theorem State.writeStop_wstop (s : State) (n : Fin 4) (c : Nat) : ((s.writeStop n c).tim n).wstop = true := by
  unfold State.writeStop
  rw [State.haltTiming_tim]
  exact Bool.or_true _

/-- DISPATCH of a write while Ln_PA_FLT_N is low: the write stops with cause 010b at its first sector (R129). -/
theorem State.seqDispatch_stopped {d : Disp} (par : Parity) (hnext : (s.lane n).next = some d) (hwaits : s.dispWaits n = true)
    (hwrite : d.isWrite = true) (hpa : (s.lane n).paLow = true) : WriteStopped n wsPreamp d.first (s.seqDispatch n par) := by
  obtain ⟨-, -, hlow, -⟩ := s.dispStarted_spec n d rfl
  have hstart : s.startDispatch n = ((s.dispStarted n d).writeStop n wsPreamp).setF (.chn n) F.CHN_WR_STAT_SECTOR d.first :=
    (State.startDispatch_waits hnext hwaits).trans (if_pos (by rw [hlow, hwrite, hpa]; rfl))
  unfold State.seqDispatch
  rw [hstart]
  generalize s.dispStarted n d = u
  obtain ⟨hends, hcause⟩ := u.writeStop_ends n wsPreamp (by decide)
  have hwstop := u.writeStop_wstop n wsPreamp
  generalize u.writeStop n wsPreamp = v at hends hcause hwstop
  have hfirst : d.first < 2 ^ F.CHN_WR_STAT_SECTOR.width := BitVec.isLt _
  have hstopped : WriteStopped n wsPreamp d.first (v.setF (.chn n) F.CHN_WR_STAT_SECTOR d.first) := by
    refine ⟨?_, ?_, by rw [State.tim_setF]; exact hwstop, by rw [State.tim_setF]; exact hends⟩
    · exact (v.f_setF_ne (.chn n) F.CHN_WR_STAT_SECTOR F.CHN_WR_STAT_CAUSE d.first rfl (by decide) (by decide)).trans hcause
    · exact (v.f_setF_same (.chn n) F.CHN_WR_STAT_SECTOR d.first (by decide)).trans (Nat.mod_eq_of_lt hfirst)
  exact hstopped.seqFetch _ par

end Sys2Proof.Machine

/-! SUPPORT. END: a dispatch that ends leaves its lane idle, disarms the assist and settles what it announced; and the statement on the
sequence actions. -/

namespace Sys2Proof.Machine

variable {s t : State} {n : Fin 4}

/-! ### Lanes that stay idle (R80, R87, R120) -/

/-- A lane with no dispatch in progress in `s` has none in `t`. -/
def IdleKept (s t : State) : Prop := ∀ m, (s.lane m).cur = none → (t.lane m).cur = none

theorem IdleKept.refl (s : State) : IdleKept s s := fun _ => id

theorem IdleKept.trans {u : State} (h : IdleKept s t) (k : IdleKept t u) : IdleKept s u := fun m hm => k m (h m hm)

theorem IdleKept.of_lanes (h : t.lanes = s.lanes) : IdleKept s t := fun m hm => by rw [State.lane_congr h]; exact hm

theorem IdleKept.foldl {α : Type} (f : State → α → State) (h : ∀ s a, IdleKept s (f s a)) (l : List α) :
    ∀ s, IdleKept s (l.foldl f s) := by
  induction l with
  | nil => exact IdleKept.refl
  | cons a t ih => exact fun s => (h s a).trans (ih _)

/-- A lane whose dispatch in progress stays. -/
theorem IdleKept.setLane (s : State) (k : Fin 4) {l : Lane} (hl : l.cur = (s.lane k).cur) : IdleKept s (s.setLane k l) := by
  intro m hm
  by_cases hk : m = k
  · rw [hk, State.lane_setLane_same, hl, ← hk, hm]
  · rw [State.lane_setLane_ne s hk, hm]

theorem State.ddNext_lanes (s : State) (m : Fin 4) : (s.ddNext m).lanes = s.lanes := by
  unfold State.ddNext
  dsimp only
  split
  · rfl
  · split
    · rfl
    · split <;> rfl

theorem State.releaseOn_lanes (s : State) (m : Fin 4) (p : Pin → Bool) : (s.releaseOn m p).lanes = s.lanes := by
  unfold State.releaseOn
  dsimp only
  split
  · exact State.ddNext_lanes _ m
  · rfl

theorem State.classify_lanes (s : State) (m : Fin 4) (r : SectRef) (b : Bool) : (s.classify m r b).lanes = s.lanes := by
  unfold State.classify
  split
  · split <;> rfl
  · rfl

/-- An epoch's advance changes of a dispatch in progress its settled sectors alone (R80, R111). -/
theorem State.advanceEpoch_idle (s : State) (i : Nat) : IdleKept s (s.advanceEpoch i) := by
  unfold State.advanceEpoch
  dsimp only
  refine IdleKept.trans ?_ (IdleKept.foldl _ (fun t m => .of_lanes (t.releaseOn_lanes m _)) _ _)
  refine IdleKept.trans ?_ (IdleKept.foldl _ (fun t m => IdleKept.foldl _ (fun u x => .of_lanes (u.classify_lanes m _ _)) _ t) _ _)
  intro m hm
  simpa [State.lane] using hm

theorem State.raceCheck_idle (s : State) (i : Nat) : IdleKept s (s.raceCheck i) := by
  unfold State.raceCheck
  split
  · exact .refl s
  · split
    · exact s.advanceEpoch_idle i
    · exact .refl s

theorem State.legEnded_idle (s : State) (m : Fin 4) (i e : Nat) : IdleKept s (s.legEnded m i e) := by
  unfold State.legEnded
  split
  · exact .refl s
  · exact IdleKept.trans (t := s.setTracker _) (.of_lanes rfl) (State.raceCheck_idle _ i)

theorem State.formReport_idle (s : State) (m : Fin 4) (d : Disp) (st : Nat) : IdleKept s (s.formReport m d st) := by
  unfold State.formReport
  dsimp only
  split
  · exact (IdleKept.setLane s m (by rfl)).trans (State.legEnded_idle _ m _ _)
  · exact IdleKept.setLane s m (by rfl)

theorem State.reportSettled_idle (s : State) (m : Fin 4) : IdleKept s (s.reportSettled m) :=
  (IdleKept.setLane s m (by rfl)).trans (IdleKept.foldl _ (fun t d => t.formReport_idle m d _) _ _)

/-! ### The dispatch ends (R157, R207) -/

/-- A disarmed assist is not ARMED (R207). -/
theorem State.disarm_armed (s : State) (n : Fin 4) : (s.disarm n).armed n = false := by
  have hset : (s.setF (.ast n) F.AST_STAT_ARMED 0).armed n = false := s.on_setF_same (.ast n) (f := F.AST_STAT_ARMED) rfl (by decide) false
  unfold State.disarm
  generalize s.setF (.ast n) F.AST_STAT_ARMED 0 = u at hset ⊢
  rw [(State.updAgate_kept _ n).2]
  exact hset

/-- Reports formed leave the assist controllers' registers and those of the lanes and sequencers. -/
theorem State.reportSettled_regs (s : State) (n : Fin 4) {v : UnitId} (hv : v = .ast n ∨ v = .tsq n ∨ v = .lane n) {o : Nat}
    (ho : o < 0x1000) : (s.reportSettled n).reg v o = s.reg v o := by
  obtain ⟨k, hk⟩ := exists_lane_ne n
  have hreach : LaneReach k s (s.reportSettled n) := s.reportSettled_reach n
  refine hreach.regs _ o ho ?_
  rcases hv with rfl | rfl | rfl
  · exact hk
  · exact id
  · exact id

/-- The lane once its dispatch in progress has ended with a status. -/
def Lane.ended (l : Lane) (d : Disp) (st : Nat) (align : Word) : Lane :=
  { l with cur := none, cancelSeen := false, tails := l.tails ++ [{ d with ended := some st, align := align }] }

/-- The media work of a dispatch that was not cancelled ends, and the assist disarms. -/
theorem State.endDispatch_eq {d : Disp} {st : Nat} (hcur : (s.lane n).cur = some d) (hst : st ≠ 2) (hu :
    (if st = 4 then s.err (.lane n) eConfig else s) = t) : s.endDispatch n st
      = (((t.setLane n ((t.lane n).ended d st (s.sq n).align)).capEnd (.transfer n.val)).disarm n).reportSettled n := by
  subst hu
  unfold State.endDispatch
  rw [hcur]
  simp only [if_neg hst]
  rfl

/-- The lane's CONFIG cause is set where the ROM refused the descriptor (R19, R157). -/
theorem State.endConfig_spec (s : State) (n : Fin 4) (st : Nat) {t : State} (ht : (if st = 4 then s.err (.lane n) eConfig else s) = t) :
    (st = 4 → (t.reg (.lane n) Reg.UNIT_ERR).getLsbD 14 = true) ∧ RegsBut s t [(.lane n, Reg.UNIT_ERR)] ∧ t.lanes = s.lanes
      ∧ t = { s with regs := t.regs } := by
  split at ht
  · subst ht
    refine ⟨fun _ => ?_, RegsBut.err s _ _, rfl, rfl⟩
    rw [State.reg_err, BitVec.getLsbD_or, Bool.or_eq_true_iff]
    exact .inr (show (BitVec.ofNat 32 (2 ^ (8 + eConfig))).getLsbD 14 = true by decide)
  · next h =>
    subst ht
    exact ⟨fun hst => absurd hst h, .refl s _, rfl, rfl⟩

/-- A dispatch that ends uncancelled: the lane is idle, the assist not ARMED, CONFIG set for status 100b, and what a fetch reads stays. -/
theorem State.endDispatch_spec {d : Disp} {st : Nat} (hcur : (s.lane n).cur = some d) (hst : st ≠ 2) (ht : s.endDispatch n st = t) :
    (t.lane n).cur = none ∧ t.armed n = false ∧ (st = 4 → (t.reg (.lane n) Reg.UNIT_ERR).getLsbD 14 = true) ∧ FetchKept n s t
      ∧ t = { s with regs := t.regs, lanes := t.lanes, timing := t.timing, asts := t.asts, dev := t.dev, cmd := t.cmd, chns := t.chns } := by
  obtain ⟨hconfig, hconfigRegs, -, hconfigOnly⟩ := s.endConfig_spec n st rfl
  rw [State.endDispatch_eq hcur hst rfl] at ht
  generalize (if st = 4 then s.err (.lane n) eConfig else s) = a at hconfig hconfigRegs hconfigOnly ht
  generalize hl : (a.lane n).ended d st (s.sq n).align = l at ht
  have hidle : ((a.setLane n l).lane n).cur = none := by rw [State.lane_setLane_same, ← hl]; rfl
  have hlaneRegs := a.setLane_regs n l
  have hlaneOnly := a.setLane_only n l
  generalize a.setLane n l = b at hidle hlaneRegs hlaneOnly ht
  have hcapLanes : (b.capEnd (.transfer n.val)).lanes = b.lanes := rfl
  have hcapRegs : (b.capEnd (.transfer n.val)).regs = b.regs := rfl
  have hcapOnly : b.capEnd (.transfer n.val) = { b with dev := (b.capEnd (.transfer n.val)).dev } := rfl
  generalize b.capEnd (.transfer n.val) = c at hcapLanes hcapRegs hcapOnly ht
  obtain ⟨hreach, -, hdisarmOnly⟩ := c.disarm_reach n
  have hdisarmLanes : (c.disarm n).lanes = c.lanes := c.disarm_lanes n
  have harmed := c.disarm_armed n
  generalize c.disarm n = e at hreach hdisarmOnly hdisarmLanes harmed ht
  have hreport := e.reportSettled_only n
  have hreportRegs : ∀ v, (v = .ast n ∨ v = .tsq n ∨ v = .lane n) → ∀ o, o < 0x1000 → t.reg v o = e.reg v o := fun v hv o ho => by
    rw [← ht]; exact e.reportSettled_regs n hv ho
  have hreportIdle := e.reportSettled_idle n
  rw [ht] at hreport hreportIdle
  have hac : RegsBut a c [] := (RegsBut.of_regs hlaneRegs).trans (.of_regs hcapRegs)
  refine ⟨hreportIdle n ?_, ?_, fun h4 => ?_, ?_, ?_⟩
  · rw [State.lane_congr (hdisarmLanes.trans hcapLanes)]
    exact hidle
  · exact (congrArg (fun w => F.AST_STAT_ARMED.get w == 1) (hreportRegs _ (.inl rfl) _ (by decide))).trans harmed
  · have hkept : t.reg (.lane n) Reg.UNIT_ERR = a.reg (.lane n) Reg.UNIT_ERR :=
      (hreportRegs _ (.inr (.inr rfl)) _ (by decide)).trans ((hreach.regs _ _ (by decide) id).trans (hac _ _ (by decide) (by simp)))
    rw [hkept]
    exact hconfig h4
  · refine .of_sq (fun o ho => ?_) ?_
    · exact (hreportRegs _ (.inr (.inl rfl)) o ho).trans ((hreach.regs _ o ho id).trans ((hac _ o ho (by simp)).trans
        (hconfigRegs _ o ho (by simp))))
    · rw [hreport.sq n, hdisarmOnly.sq n, hcapOnly, hlaneOnly, hconfigOnly]
      rfl
  · rw [hreport, hdisarmOnly, hcapOnly, hlaneOnly, hconfigOnly]

/-- The status with which END ends the dispatch: 100b where the ROM refuses it, else IMM[2:0] (R157, R159). -/
def State.endStatus (s : State) (n : Fin 4) : Nat :=
  if s.inRom n && (match (s.lane n).cur with | some d => s.romRefuses d | none => false) then 4 else CsWord.imm (s.sq n).word % 8

/-- END by that status: a reserved one is a machine check, a cancel's drops the events queued, and a sector that is open is waited for
(R157). -/
theorem State.seqEnd_eq (s : State) (n : Fin 4) (par : Parity) : s.seqEnd n par
    = if s.endStatus n = 5 ∨ s.endStatus n = 7 then s.mcheck n 3 else
        if ((if s.endStatus n = 2 then s.dropEvents n else s).tim n).act ≠ [] ∨ ((if s.endStatus n = 2 then s.dropEvents n else s).tim n).caps ≠ []
            ∨ ((if s.endStatus n = 2 then s.dropEvents n else s).tim n).waitingSects ≠ [] then
          (if s.endStatus n = 2 then s.dropEvents n else s).wait
        else ((if s.endStatus n = 2 then s.dropEvents n else s).endDispatch n (s.endStatus n)).seqFetch n (CsWord.next (s.sq n).word) par := rfl

/-- END with a status other than a cancel's and a reserved one, once the last sector has closed: the dispatch ends, and the fetch
follows (R157). -/
theorem State.seqEnd_ends {d : Disp} {st : Nat} (hcur : (s.lane n).cur = some d) (hstatus : s.endStatus n = st)
    (hst : st ≠ 2 ∧ st ≠ 5 ∧ st ≠ 7) (hact : (s.tim n).act = []) (hcaps : (s.tim n).caps = []) (hwaiting : (s.tim n).waitingSects = [])
    (hgood : s.fetchGood n (CsWord.next (s.sq n).word)) (ht : s.seqEnd n .ok = t) :
    Fetched n s t (CsWord.next (s.sq n).word) ∧ (t.lane n).cur = none ∧ t.armed n = false
      ∧ (st = 4 → (t.reg (.lane n) Reg.UNIT_ERR).getLsbD 14 = true)
      ∧ t = { s with regs := t.regs, lanes := t.lanes, seqs := t.seqs, timing := t.timing, asts := t.asts, dev := t.dev, cmd := t.cmd,
                     chns := t.chns } := by
  obtain ⟨hcancel, h5, h7⟩ := hst
  have hend : s.seqEnd n .ok = (s.endDispatch n st).seqFetch n (CsWord.next (s.sq n).word) .ok := by
    have hopen : ¬ ((s.tim n).act ≠ [] ∨ (s.tim n).caps ≠ [] ∨ (s.tim n).waitingSects ≠ []) := by simp [hact, hcaps, hwaiting]
    rw [State.seqEnd_eq, hstatus, if_neg (not_or.mpr ⟨h5, h7⟩), if_neg hcancel, if_neg hopen]
  rw [hend] at ht
  obtain ⟨hidle, harmed, hconfig, hkept, honly⟩ := State.endDispatch_spec hcur hcancel rfl
  generalize s.endDispatch n st = u at hidle harmed hconfig hkept honly ht
  obtain ⟨hfetched, -, -, -, hfetchOnly⟩ := State.seqFetch_kept hkept hgood ht
  have hregs : t.regs = u.regs := by rw [hfetchOnly]
  have hlanes : t.lanes = u.lanes := by rw [hfetchOnly]
  refine ⟨hfetched, by rw [State.lane_congr hlanes, hidle], ?_, fun h4 => ?_, by rw [hfetchOnly, honly]⟩
  · exact (congrArg (· == 1) (State.f_congr hregs (.ast n) F.AST_STAT_ARMED)).trans harmed
  · rw [State.reg, hregs]
    exact hconfig h4

/-! ### The statement -/

/-- A completed effect whose conclusion does not speak of the requests that wait. -/
theorem Completes.of_unpended {i : Instr} {f : State → State} {P : State → Prop} (hr : s.running) (he : exec i s = done s f)
    (hf : f (s.answer .none) = t) (hP : ∀ (u : State) q, P u → P { u with pending := q }) (h : P t) : Completes i s P :=
  ⟨_, he.trans (done_on s f hr), hP _ _ (hf.symm ▸ h)⟩

/-- Settles O21, one clause per action and case. -/
theorem sequencerActions : Obligations.SequencerActions := by
  refine ⟨?_, ?_, ?_, ?_, ?_, ?_, ?_, ?_, ?_, ?_⟩
  · intro s n hr hdue hgood
    obtain ⟨hfetched, hstack, -, -, honly⟩ := State.seqFetch_good (s := s.answer .none) hgood rfl
    have hjump : (s.answer .none).seqPhase n 0 (fun s => s.seqFetch n (s.branchAddr n) .ok)
        = (s.answer .none).seqFetch n (s.branchAddr n) .ok := State.seqPhase_due (s := s.answer .none) _ hdue (by decide)
    exact Completes.of_result hr (exec_seqJump n .ok s) hjump
      ⟨hfetched, hstack, honly⟩ (by rw [honly]; rfl)
  · intro s n hr hdue hgood hroom
    have hpush := State.sq_setSq_same (s.answer .none) n { s.sq n with stack := ((s.sq n).pc + 1) % 4096 :: (s.sq n).stack }
    have hkept : FetchKept n s ((s.answer .none).setSq n { s.sq n with stack := ((s.sq n).pc + 1) % 4096 :: (s.sq n).stack }) :=
      ⟨fun _ _ => rfl, by rw [hpush], by rw [hpush], by rw [hpush]; rfl⟩
    have hcall : (s.answer .none).seqCall n .ok = ((s.answer .none).setSq n
        { s.sq n with stack := ((s.sq n).pc + 1) % 4096 :: (s.sq n).stack }).seqFetch n (s.branchAddr n) .ok := if_neg (Nat.not_le.mpr hroom)
    obtain ⟨hfetched, hstack, -, -, honly⟩ := State.seqFetch_kept hkept hgood rfl
    exact Completes.of_result hr (exec_seqCall n .ok s)
      ((State.seqPhase_due (s := s.answer .none) _ hdue (by decide)).trans hcall)
      ⟨hfetched, hstack.trans (by rw [hpush]), honly⟩ (by rw [honly]; rfl)
  · intro s n par hr hdue hfull
    have hcall : (s.answer .none).seqCall n par = (s.answer .none).mcheck n 6 := if_pos hfull
    exact Completes.of_unpended hr (exec_seqCall n par s)
      ((State.seqPhase_due (s := s.answer .none) _ hdue (by decide)).trans hcall) (fun _ _ h => h)
      ((s.answer .none).mcheck_spec n (show 6 < 16 by decide) rfl)
  · intro s n a rest hr hdue hstack hgood
    have hpop := State.sq_setSq_same (s.answer .none) n { s.sq n with stack := rest }
    have hkept : FetchKept n s ((s.answer .none).setSq n { s.sq n with stack := rest }) :=
      ⟨fun _ _ => rfl, by rw [hpop], by rw [hpop], by rw [hpop]; rfl⟩
    have hret : (s.answer .none).seqRet n .ok = ((s.answer .none).setSq n { s.sq n with stack := rest }).seqFetch n a .ok := by
      have hstack' : ((s.answer .none).sq n).stack = a :: rest := hstack
      simp only [State.seqRet, hstack']
      rfl
    obtain ⟨hfetched, hleft, -, -, honly⟩ := State.seqFetch_kept hkept hgood rfl
    exact Completes.of_result hr (exec_seqRet n .ok s) ((State.seqPhase_due (s := s.answer .none) _ hdue (by decide)).trans hret)
      ⟨hfetched, hleft.trans (by rw [hpop]), honly⟩ (by rw [honly]; rfl)
  · intro s n par hr hdue hstack
    have hret : (s.answer .none).seqRet n par = (s.answer .none).mcheck n 6 := by
      have hstack' : ((s.answer .none).sq n).stack = [] := hstack
      simp only [State.seqRet, hstack']
    exact Completes.of_unpended hr (exec_seqRet n par s)
      ((State.seqPhase_due (s := s.answer .none) _ hdue (by decide)).trans hret) (fun _ _ h => h)
      ((s.answer .none).mcheck_spec n (show 6 < 16 by decide) rfl)
  · intro s n d hr hdue hnext hcur hgood
    have hdispatch : (s.answer .none).seqDispatch n .ok
        = (s.answer .none).seqFetch n (CsWord.next (s.sq n).word ||| d.op % 16) .ok := by
      have hcur' : ((s.answer .none).lane n).cur = some d := hcur
      simp only [State.seqDispatch, State.startDispatch_none (s := s.answer .none) hnext, hcur']
      rfl
    obtain ⟨hfetched, hstack, -, -, honly⟩ := State.seqFetch_good (s := s.answer .none) hgood rfl
    exact Completes.of_result hr (exec_seqDispatch n .ok s)
      ((State.seqPhase_due (s := s.answer .none) _ hdue (by decide)).trans hdispatch) ⟨hfetched, hstack, honly⟩ (by rw [honly]; rfl)
  · intro s n d hr hdue hnext hwaits hpa hgood
    obtain ⟨hfetched, hcur, hnone, halign, hwstop, hcap, hcause, hregs, honly⟩ :=
      State.seqDispatch_starts (s := s.answer .none) hnext hwaits hpa hgood rfl
    exact Completes.of_result hr (exec_seqDispatch n .ok s) (State.seqPhase_due (s := s.answer .none) _ hdue (by decide))
      ⟨hfetched, hcur, hnone, halign, hwstop, hcap, hcause, hregs, honly⟩ (by rw [honly]; rfl)
  · intro s n par d hr hdue hnext hwaits hwrite hpa
    obtain ⟨hcause, hsector, hwstop, hwreq⟩ := State.seqDispatch_stopped (s := s.answer .none) par hnext hwaits hwrite hpa
    exact Completes.of_unpended hr (exec_seqDispatch n par s) (State.seqPhase_due (s := s.answer .none) _ hdue (by decide))
      (fun _ _ h => h)
      ⟨hcause, hsector, hwstop, hwreq⟩
  · intro s n d hr hdue himm hcur hrom hact hcaps hwaiting hgood
    have hstatus : (s.answer .none).endStatus n = 0 := by
      have hrefused : (s.inRom n && (match (s.lane n).cur with | some d => s.romRefuses d | none => false)) = false := by rw [hcur]; exact hrom
      exact (if_neg (ne_true_of_eq_false hrefused)).trans himm
    obtain ⟨hfetched, hidle, harmed, -, honly⟩ := State.seqEnd_ends (s := s.answer .none) hcur hstatus (by decide) hact hcaps hwaiting hgood rfl
    exact Completes.of_result hr (exec_seqEnd n .ok s) (State.seqPhase_due (s := s.answer .none) _ hdue (by decide))
      ⟨hfetched, hidle, harmed, honly⟩ (by rw [honly]; rfl)
  · intro s n d hr hdue hcur hrom hrefuses hact hcaps hwaiting hgood
    have hstatus : (s.answer .none).endStatus n = 4 := by
      have hrefused : (s.inRom n && (match (s.lane n).cur with | some d => s.romRefuses d | none => false)) = true := by
        rw [hcur, hrom]; exact hrefuses
      exact if_pos hrefused
    obtain ⟨hfetched, hidle, harmed, hconfig, honly⟩ :=
      State.seqEnd_ends (s := s.answer .none) hcur hstatus (by decide) hact hcaps hwaiting hgood rfl
    exact Completes.of_result hr (exec_seqEnd n .ok s) (State.seqPhase_due (s := s.answer .none) _ hdue (by decide))
      ⟨hfetched, hidle, harmed, hconfig rfl⟩ (by rw [honly]; rfl)

end Sys2Proof.Machine

/-! SUPPORT. The sequencer's events and lane commands: when a command is due, and what the queue of the timing unit holds after a
post. -/

namespace Sys2Proof.Machine

variable {s t u : State} {n : Fin 4}

theorem exec_sectRd (n : Fin 4) (bitNow : Nat) (s : State) : exec (.sectRd n bitNow) s
    = done s (fun s => s.cmdPhase n 1 (fun s => s.sect n bitNow false)) := rfl
theorem exec_sectWr (n : Fin 4) (bitNow : Nat) (s : State) : exec (.sectWr n bitNow) s
    = done s (fun s => s.cmdPhase n 2 (fun s => s.sect n bitNow true)) := rfl
theorem exec_eventPost (n : Fin 4) (bitNow : Nat) (s : State) : exec (.eventPost n bitNow) s = done s (fun s => s.when
    (s.postReady n && CsWord.evtEn (s.sq n).word && CsWord.cmd (s.sq n).word != 1 && CsWord.cmd (s.sq n).word != 2)
    (s.post n bitNow none)) := rfl
theorem exec_timingEventFire (p : TimedPoint) (s : State) : exec (.timingEventFire p) s
    = done s (fun s => s.timingFire p.lane p.sm1) := rfl
theorem exec_dataWindowStart (n : Fin 4) (s : State) : exec (.dataWindowStart n) s
    = done s (fun s => s.when (s.slock n && (s.tim n).excl) (s.windowStart n)) := rfl
theorem exec_headSelect (n : Fin 4) (s : State) : exec (.headSelect n) s
    = done s (fun s => s.cmdPhase n 3 (fun s => s.headCommand n)) := rfl
theorem exec_seek (n : Fin 4) (s : State) : exec (.seek n) s = done s (fun s => s.cmdPhase n 4 (fun s => s.seekCommand n)) := rfl
theorem exec_seekHold (n : Fin 4) (us : Nat) (s : State) : exec (.seekHold n us) s
    = done s (fun s => s.cmdPhase n 5 (fun s => (s.cmdSent n).servoHold n us)) := rfl
theorem exec_astArm (n : Fin 4) (s : State) : exec (.astArm n) s = done s (fun s => s.cmdPhase n 6 (fun s => s.armCommand n)) := rfl
theorem exec_astDisarm (n : Fin 4) (s : State) : exec (.astDisarm n) s
    = done s (fun s => s.cmdPhase n 7 (fun s => (s.cmdSent n).astDisarm n)) := rfl

/-- The lane command that the word names is carried out once its operation is done (R155). -/
theorem State.cmdPhase_due {c : Nat} (f : State → State) (hdue : s.cmdDue n c = true) (hc : c < 8) : s.cmdPhase n c f = f s := by
  simp only [State.cmdDue, Bool.and_eq_true, beq_iff_eq, Bool.not_eq_true'] at hdue
  obtain ⟨⟨⟨hruns, halu⟩, hcmd⟩, hcode⟩ := hdue
  simp [State.cmdPhase, hruns, halu, hcmd, hcode, Nat.not_le.mpr hc]

/-! ### The queue of the timing unit (R149) -/

theorem perm_insertTimed (x : Timed) : ∀ l : List Timed, (insertTimed l x).Perm (x :: l)
  | [] => .refl _
  | y :: l => by
    unfold insertTimed
    split
    · exact .refl _
    · exact ((perm_insertTimed x l).cons y).trans (.swap x y l)

/-- An item that announces no sector leaves the sectors that wait, in their order. -/
theorem filterMap_sect_insertTimed {x : Timed} (hx : x.sect? = none) :
    ∀ l : List Timed, (insertTimed l x).filterMap Timed.sect? = l.filterMap Timed.sect?
  | [] => by simp [insertTimed, hx]
  | y :: l => by
    unfold insertTimed
    split
    · exact List.filterMap_cons_none hx
    · rw [List.filterMap_cons, List.filterMap_cons, filterMap_sect_insertTimed hx l]

theorem State.addTimed_tim (s : State) (n : Fin 4) (win pos : Nat) (item : TimedItem) : (s.addTimed n win pos item).tim n
    = { s.tim n with timed := insertTimed (s.tim n).timed ⟨win, pos, item⟩ } := State.tim_setTim_same s n _

theorem State.addTimed_only (s : State) (n : Fin 4) (win pos : Nat) (item : TimedItem) : s.addTimed n win pos item
    = { s with timing := (s.addTimed n win pos item).timing } := rfl

theorem State.addTimed_length (s : State) (n : Fin 4) (win pos : Nat) (item : TimedItem) :
    ((s.addTimed n win pos item).tim n).timed.length = (s.tim n).timed.length + 1 := by
  rw [State.addTimed_tim]
  exact (perm_insertTimed _ _).length_eq

/-- A further event takes one more place of the queue (R149). -/
theorem State.addTimed_event (s : State) (n : Fin 4) (win pos mask val : Nat) (r : Option SectRef) :
    ((s.addTimed n win pos (.event mask val r)).tim n).evq = (s.tim n).evq + 1 := by
  rw [State.addTimed_tim]
  exact ((perm_insertTimed _ _).filter _).length_eq

/-- The sector of a further event waits (R150). -/
theorem State.addTimed_sect (s : State) (n : Fin 4) (win pos mask val : Nat) (r : SectRef) :
    r ∈ ((s.addTimed n win pos (.event mask val (some r))).tim n).waitingSects := by
  rw [State.addTimed_tim]
  exact ((perm_insertTimed _ _).filterMap Timed.sect?).mem_iff.mpr (by simp [Timed.sect?])

/-- An event without a sector leaves the sectors that wait. -/
theorem State.addTimed_bare (s : State) (n : Fin 4) (win pos mask val : Nat) :
    ((s.addTimed n win pos (.event mask val none)).tim n).waitingSects = (s.tim n).waitingSects := by
  rw [State.addTimed_tim]
  exact filterMap_sect_insertTimed rfl _

/-- Timed items that are no events have joined the queue of lane `n`, and nothing else changed but timing units. -/
structure PlainAdded (n : Fin 4) (s t : State) : Prop where
  length : (s.tim n).timed.length ≤ (t.tim n).timed.length
  evq : (t.tim n).evq = (s.tim n).evq
  sects : (t.tim n).waitingSects = (s.tim n).waitingSects
  late : (t.tim n).late = (s.tim n).late
  only : t = { s with timing := t.timing }

theorem PlainAdded.refl (n : Fin 4) (s : State) : PlainAdded n s s := ⟨le_rfl, rfl, rfl, rfl, rfl⟩

theorem PlainAdded.trans (h : PlainAdded n s t) (k : PlainAdded n t u) : PlainAdded n s u :=
  ⟨h.length.trans k.length, k.evq.trans h.evq, k.sects.trans h.sects, k.late.trans h.late, by rw [k.only, h.only]⟩

/-- A timed item that is no event. -/
def TimedItem.plain : TimedItem → Bool
  | .event _ _ _ => false
  | _ => true

theorem PlainAdded.addTimed (s : State) (n : Fin 4) (win pos : Nat) {item : TimedItem} (hitem : item.plain = true) :
    PlainAdded n s (s.addTimed n win pos item) where
  length := by rw [State.addTimed_length]; omega
  evq := by
    rw [State.addTimed_tim]
    refine ((perm_insertTimed _ _).filter _).length_eq.trans ?_
    cases item with
    | event => cases hitem
    | _ => rfl
  sects := by
    rw [State.addTimed_tim]
    refine filterMap_sect_insertTimed ?_ _
    cases item with
    | event => cases hitem
    | _ => rfl
  late := by rw [State.addTimed_tim]
  only := State.addTimed_only s n win pos item

/-- DHOLD over one mapped defect of a sector that starts at (win, pos), if it is the sector's (R159). -/
def State.defectHeld (s : State) (n : Fin 4) (win pos : Nat) (r : SectRef) (d : Disp) (k : Nat) : State :=
  let e := d.defect k
  if e.1 = r.idx ∧ e.1 < d.count ∧ e.2.2 ≠ 0 then
    let a := advanceBits (s.tim n).winbits 64 win pos e.2.1
    let b := advanceBits (s.tim n).winbits 64 win pos (e.2.1 + e.2.2)
    (s.addTimed n a.1 a.2 (.dhold r true)).addTimed n b.1 b.2 (.dhold r false)
  else s

theorem State.defectHeld_added (s : State) (n : Fin 4) (win pos : Nat) (r : SectRef) (d : Disp) (k : Nat) :
    PlainAdded n s (s.defectHeld n win pos r d k) := by
  unfold State.defectHeld
  dsimp only
  split
  · exact (PlainAdded.addTimed s n _ _ rfl).trans (.addTimed _ n _ _ rfl)
  · exact .refl n s

/-- The ROM's defects add gates only; a word of the patch RAM adds none (R159). -/
theorem State.mappedDefects_added (s : State) (n : Fin 4) (win pos : Nat) (r : SectRef) :
    PlainAdded n s (s.mappedDefects n win pos r) ∧ (s.inRom n = false → s.mappedDefects n win pos r = s) := by
  unfold State.mappedDefects
  split
  · exact ⟨.refl n s, fun _ => rfl⟩
  · next d _ =>
    split
    · exact ⟨.refl n s, fun _ => rfl⟩
    · next hrom =>
      exact ⟨(s.defectHeld_added n win pos r d 0).trans (State.defectHeld_added _ n win pos r d 1),
        fun h => absurd h (by simpa using hrom)⟩

/-! ### A post that fits (R149, R150, R152) -/

/-- The word's event has been posted and its sector announced to the dispatch, before the queue takes it. -/
def State.postNoted (s : State) (n : Fin 4) (r : Option SectRef) : State :=
  let s0 := (s.setSq n { s.sq n with evtDone := true, cmdDone := (s.sq n).cmdDone || r.isSome }).setTim n { s.tim n with late := false }
  match r, (s0.lane n).cur with
  | some r, some d => s0.setLane n { s0.lane n with cur := some { d with announced := addOnce d.announced r.idx } }
  | _, _ => s0

/-- The event of the word in progress in the queue. -/
def State.postQueued (s : State) (n : Fin 4) (r : Option SectRef) : State :=
  (s.postNoted n r).addTimed n (s.postWin n) (s.sq n).evtPos
    (.event (CsWord.gmask (s.sq n).word % 4) (CsWord.gval (s.sq n).word % 4) r)

/-- An event that fits is not late, and joins the queue (R149, R152). -/
theorem State.post_fits {bitNow : Nat} (r : Option SectRef) (hfits : s.postFits n bitNow = true) : s.post n bitNow r
    = match r with
      | some r =>
        ((s.postQueued n (some r)).addTimed n (backBits (s.tim n).winbits (s.postWin n) (s.sq n).evtPos 64).1
          (backBits (s.tim n).winbits (s.postWin n) (s.sq n).evtPos 64).2 (if r.write then .ready r else .openCap r)).mappedDefects n
            (s.postWin n) (s.sq n).evtPos r
      | none => s.postQueued n none := by
  simp only [State.postFits, Bool.and_eq_true, decide_eq_true_eq, Bool.not_eq_true'] at hfits
  obtain ⟨⟨⟨hroom, hinside⟩, hafter⟩, hahead⟩ := hfits
  have horder : ¬ ((s.tim n).winbits ≤ (s.sq n).evtPos ∨ (s.tim n).lastEvent.any
      (fun x => before ((s.tim n).windowNow + CsWord.evtWin (s.sq n).word) (s.sq n).evtPos x.win x.pos) = true) :=
    not_or.mpr ⟨Nat.not_le.mpr hinside, ne_true_of_eq_false hafter⟩
  have hlate : decide ((s.tim n).remaining bitNow ((s.tim n).windowNow + CsWord.evtWin (s.sq n).word) (s.sq n).evtPos < 128) = false :=
    decide_eq_false (Int.not_lt.mpr hahead)
  unfold State.post
  simp only [if_neg (Nat.not_le.mpr hroom), if_neg horder, hlate]
  cases r <;> rfl

theorem State.postNoted_spec (s : State) (n : Fin 4) (r : Option SectRef) :
    ((s.postNoted n r).sq n).evtDone = true ∧ ((s.postNoted n r).sq n).cmdDone = ((s.sq n).cmdDone || r.isSome)
      ∧ ((s.postNoted n r).sq n).pc = (s.sq n).pc ∧ (s.postNoted n r).tim n = { s.tim n with late := false }
      ∧ s.postNoted n r = { s with seqs := (s.postNoted n r).seqs, timing := (s.postNoted n r).timing, lanes := (s.postNoted n r).lanes }
      ∧ (r = none → (s.postNoted n r).lanes = s.lanes) := by
  have hsq := State.sq_setSq_same s n { s.sq n with evtDone := true, cmdDone := (s.sq n).cmdDone || r.isSome }
  have hset := State.setSq_only s n { s.sq n with evtDone := true, cmdDone := (s.sq n).cmdDone || r.isSome }
  unfold State.postNoted
  generalize s.setSq n { s.sq n with evtDone := true, cmdDone := (s.sq n).cmdDone || r.isSome } = a at hsq hset ⊢
  have htim := State.tim_setTim_same a n { s.tim n with late := false }
  have honly := State.setTim_only a n { s.tim n with late := false }
  have hsame : (a.setTim n { s.tim n with late := false }).sq n = a.sq n := rfl
  generalize a.setTim n { s.tim n with late := false } = b at htim honly hsame ⊢
  dsimp only
  rw [hsq] at hsame
  split
  · next d _ =>
    exact ⟨congrArg Sequencer.evtDone hsame, congrArg Sequencer.cmdDone hsame, (congrArg Sequencer.pc hsame).trans rfl, htim,
      by rw [State.setLane_only, honly, hset], nofun⟩
  · exact ⟨congrArg Sequencer.evtDone hsame, congrArg Sequencer.cmdDone hsame, (congrArg Sequencer.pc hsame).trans rfl, htim,
      by rw [honly, hset], fun _ => by rw [honly, hset]⟩

/-- A sector announced by an event that fits: the event, the opening of its capture or the point at which its data must be there,
and in the ROM the gates of its defects (R126, R150, R159). -/
theorem State.post_sector {bitNow : Nat} {r : SectRef} (hfits : s.postFits n bitNow = true) (ht : s.post n bitNow (some r) = t) :
    (t.sq n).evtDone = true ∧ (t.sq n).cmdDone = true ∧ (t.tim n).late = false
      ∧ (s.tim n).timed.length + 2 ≤ (t.tim n).timed.length
      ∧ (s.inRom n = false → (t.tim n).timed.length = (s.tim n).timed.length + 2) ∧ (t.tim n).evq = (s.tim n).evq + 1
      ∧ r ∈ (t.tim n).waitingSects
      ∧ t = { s with seqs := t.seqs, timing := t.timing, lanes := t.lanes } := by
  rw [State.post_fits _ hfits] at ht
  obtain ⟨hevt, hcmd, hpc, htim, hnoted, -⟩ := s.postNoted_spec n (some r)
  unfold State.postQueued at ht
  dsimp only at ht
  generalize s.postNoted n (some r) = a at hevt hcmd hpc htim hnoted ht
  have hlen := a.addTimed_length n (s.postWin n) (s.sq n).evtPos
    (.event (CsWord.gmask (s.sq n).word % 4) (CsWord.gval (s.sq n).word % 4) (some r))
  have hevq := a.addTimed_event n (s.postWin n) (s.sq n).evtPos (CsWord.gmask (s.sq n).word % 4) (CsWord.gval (s.sq n).word % 4) (some r)
  have hmem := a.addTimed_sect n (s.postWin n) (s.sq n).evtPos (CsWord.gmask (s.sq n).word % 4) (CsWord.gval (s.sq n).word % 4) r
  have hlate := congrArg Timing.late (a.addTimed_tim n (s.postWin n) (s.sq n).evtPos
    (.event (CsWord.gmask (s.sq n).word % 4) (CsWord.gval (s.sq n).word % 4) (some r)))
  have hadded := a.addTimed_only n (s.postWin n) (s.sq n).evtPos
    (.event (CsWord.gmask (s.sq n).word % 4) (CsWord.gval (s.sq n).word % 4) (some r))
  generalize a.addTimed n (s.postWin n) (s.sq n).evtPos
    (.event (CsWord.gmask (s.sq n).word % 4) (CsWord.gval (s.sq n).word % 4) (some r)) = b at hlen hevq hmem hlate hadded ht
  generalize backBits (s.tim n).winbits (s.postWin n) (s.sq n).evtPos 64 = c at ht
  have hitem : (if r.write then TimedItem.ready r else .openCap r).plain = true := by split <;> rfl
  have hplain := PlainAdded.addTimed b n c.1 c.2 hitem
  have hlen2 := b.addTimed_length n c.1 c.2 (if r.write then TimedItem.ready r else .openCap r)
  generalize b.addTimed n c.1 c.2 (if r.write then TimedItem.ready r else .openCap r) = e at hplain hlen2 ht
  obtain ⟨hdefects, hnone⟩ := e.mappedDefects_added n (s.postWin n) (s.sq n).evtPos r
  rw [ht] at hdefects hnone
  have hb := hplain.trans hdefects
  have hsq : t.sq n = a.sq n := by rw [hb.only, hadded]; rfl
  have hinRom : s.inRom n = e.inRom n := by
    have : e.sq n = a.sq n := by rw [hplain.only, hadded]; rfl
    rw [State.inRom, State.inRom, this, hpc]
  have hlen : (b.tim n).timed.length = (s.tim n).timed.length + 1 := hlen.trans (by rw [htim])
  rw [htim] at hevq hlate
  refine ⟨by rw [hsq, hevt], by rw [hsq, hcmd]; exact Bool.or_true _, by rw [hb.late, hlate], ?_, fun hrom => ?_, by rw [hb.evq, hevq]; rfl,
    by rw [hb.sects]; exact hmem, by rw [hb.only, hadded, hnoted]⟩
  · have := hdefects.length
    omega
  · rw [hnone (hinRom ▸ hrom), hlen2, hlen]

/-- An event without a sector that fits joins the queue, and nothing else does (R149). -/
theorem State.post_event {bitNow : Nat} (hfits : s.postFits n bitNow = true) (ht : s.post n bitNow none = t) :
    (t.sq n).evtDone = true ∧ (t.sq n).cmdDone = (s.sq n).cmdDone ∧ (t.tim n).late = false
      ∧ (t.tim n).evq = (s.tim n).evq + 1 ∧ (t.tim n).waitingSects = (s.tim n).waitingSects
      ∧ t = { s with seqs := t.seqs, timing := t.timing } := by
  rw [State.post_fits _ hfits] at ht
  obtain ⟨hevt, hcmd, -, htim, hnoted, hlanes⟩ := s.postNoted_spec n none
  unfold State.postQueued at ht
  dsimp only at ht
  generalize s.postNoted n none = a at hevt hcmd htim hnoted hlanes ht
  have hevq := a.addTimed_event n (s.postWin n) (s.sq n).evtPos (CsWord.gmask (s.sq n).word % 4) (CsWord.gval (s.sq n).word % 4) none
  have hbare := a.addTimed_bare n (s.postWin n) (s.sq n).evtPos (CsWord.gmask (s.sq n).word % 4) (CsWord.gval (s.sq n).word % 4)
  have hlate := congrArg Timing.late (a.addTimed_tim n (s.postWin n) (s.sq n).evtPos
    (.event (CsWord.gmask (s.sq n).word % 4) (CsWord.gval (s.sq n).word % 4) none))
  have hadded := a.addTimed_only n (s.postWin n) (s.sq n).evtPos
    (.event (CsWord.gmask (s.sq n).word % 4) (CsWord.gval (s.sq n).word % 4) none)
  rw [ht] at hevq hbare hlate hadded
  rw [htim] at hevq hbare hlate
  have hsq : t.sq n = a.sq n := by rw [hadded]; rfl
  exact ⟨by rw [hsq, hevt], by rw [hsq, hcmd]; exact Bool.or_false _, hlate, hevq, hbare, by rw [hadded, hnoted, hlanes rfl]⟩

/-- SECT_RD or SECT_WR with an event that fits announces its sector (R150). -/
theorem State.sect_fits {bitNow : Nat} {write : Bool} {d : Disp} (hevt : CsWord.evtEn (s.sq n).word = true)
    (hwrite : (write && !s.opw n) = false) (hdisp : s.workDisp n = some d) :
    s.sect n bitNow write = s.post n bitNow (some (s.announce n d write)) := by
  simp only [State.sect, hevt, hwrite, hdisp]
  rfl

/-- A dispatch on which the word may act is the one in progress. -/
theorem State.cur_of_workDisp {d : Disp} (h : s.workDisp n = some d) : (s.lane n).cur = some d := (Option.filter_eq_some_iff.mp h).1

end Sys2Proof.Machine

/-! SUPPORT. The timing unit: an event that fires at its position, and a window that begins. -/

namespace Sys2Proof.Machine

variable {s t u : State} {n : Fin 4}

/-! ### DHOLD at a data bit (R103, R154) -/

/-- A hold that begins changes of its timing unit only where the hold began. -/
theorem State.holdStart_tim (s : State) (n : Fin 4) (win pos : Nat) :
    ∃ h, (s.holdStart n win pos).tim n = { s.tim n with holdFrom := h } := by
  have honly := s.runLoops_only n
  unfold State.holdStart
  generalize s.runLoops n = u at honly ⊢
  have htim : u.tim n = s.tim n := by rw [honly]; rfl
  exact ⟨_, (State.tim_setTim_same u n _).trans (by rw [htim])⟩

/-- What a change of DHOLD keeps of the timing unit. -/
structure PositionKept (x y : Timing) : Prop where
  bitpos : y.bitpos = x.bitpos
  ag : y.ag = x.ag

/-- A hold that ends keeps the position, AG and DHOLD. -/
theorem State.holdEnd_tim (s : State) (n : Fin 4) (win pos : Nat) :
    PositionKept (s.tim n) ((s.holdEnd n win pos).tim n) ∧ ((s.holdEnd n win pos).tim n).dhold = (s.tim n).dhold := by
  unfold State.holdEnd
  split
  · exact ⟨⟨rfl, rfl⟩, rfl⟩
  · dsimp only
    generalize hx : { ((s.tim n).mapRead (fun r => (s.tim n).act.any (fun q => q.same r))
      (fun r => { r with erased := r.erased ++ (s.tim n).holdSpan win pos })) with holdFrom := none } = x
    have hkept : PositionKept (s.tim n) x ∧ x.dhold = (s.tim n).dhold := by
      subst hx
      exact ⟨⟨rfl, rfl⟩, rfl⟩
    have htim := State.tim_setTim_same s n x
    generalize s.setTim n x = u at htim ⊢
    split
    · generalize { u.ch n with acq := true } = c
      have hch : (u.setCh n c).tim n = u.tim n := rfl
      generalize u.setCh n c = v at hch ⊢
      rw [State.addTimed_tim, hch, htim]
      exact ⟨⟨hkept.1.bitpos, hkept.1.ag⟩, hkept.2⟩
    · rw [htim]
      exact hkept

/-- DHOLD takes a value: its rise adds nothing to the queue (R154). -/
theorem State.setDhold_spec (s : State) (n : Fin 4) (win pos : Nat) (b : Bool) {t : State} (ht : s.setDhold n win pos b = t) :
    PositionKept (s.tim n) (t.tim n) ∧ (t.tim n).dhold = b ∧ (b = true → (t.tim n).timed = (s.tim n).timed)
      ∧ t = { s with timing := t.timing, chns := t.chns, freeCtr := t.freeCtr } := by
  unfold State.setDhold at ht
  split at ht
  · next hsame =>
    subst ht
    exact ⟨⟨rfl, rfl⟩, (beq_iff_eq.mp hsame).symm, fun _ => rfl, rfl⟩
  · split at ht
    · next hb =>
      obtain ⟨h, htim⟩ := s.holdStart_tim n win pos
      have honly := s.holdStart_only n win pos
      dsimp only at ht
      generalize s.holdStart n win pos = u at htim honly ht
      have hset := State.tim_setTim_same u n { u.tim n with dhold := true }
      have hsetOnly := State.setTim_only u n { u.tim n with dhold := true }
      rw [ht] at hset hsetOnly
      rw [htim] at hset
      rw [hset]
      exact ⟨⟨rfl, rfl⟩, hb.symm, fun _ => rfl, by rw [hsetOnly, honly]⟩
    · next hb =>
      have hset := State.tim_setTim_same s n { s.tim n with dhold := false }
      have hsetOnly := State.setTim_only s n { s.tim n with dhold := false }
      generalize s.setTim n { s.tim n with dhold := false } = u at hset hsetOnly ht
      obtain ⟨hkept, hdhold⟩ := u.holdEnd_tim n win pos
      have honly := (u.holdEnd_only n win pos).2
      rw [ht] at hkept hdhold honly
      rw [hset] at hkept hdhold
      exact ⟨⟨hkept.bitpos, hkept.ag⟩, hdhold.trans (Bool.eq_false_of_not_eq_true hb).symm, fun h => absurd h hb, by rw [honly, hsetOnly]⟩

/-! ### An event fires (R149) -/

/-- An event without a sector that leaves AG has its effect whether or not the lane clock is settled (R153). -/
theorem State.fireEvent_noAg {mask : Nat} (win pos val : Nat) (hmask : mask.testBit 0 = false) :
    s.fireEvent n win pos mask val none = if mask.testBit 1 then s.setDhold n win pos (val.testBit 1) else s := by
  simp [State.fireEvent, State.dueUnsettled, State.applyGates, hmask]

/-- The first item of the queue, an event without a sector that leaves AG, fires at its position (R149, R154). -/
theorem State.timingFire_event {win pos mask val : Nat} {rest : List Timed} (sm1 : List Nat)
    (htimed : (s.tim n).timed = ⟨win, pos, .event mask val none⟩ :: rest) (hexcl : (s.tim n).excl = false)
    (hwin : win ≤ (s.tim n).winSeq) (hmask : mask.testBit 0 = false) (ht : s.timingFire n sm1 = t) :
    ((mask.testBit 1 = false ∨ val.testBit 1 = true) → (t.tim n).timed = rest) ∧ (t.tim n).bitpos = pos
      ∧ (t.tim n).ag = (s.tim n).ag ∧ (t.tim n).dhold = (if mask.testBit 1 = true then val.testBit 1 else (s.tim n).dhold)
      ∧ t = { s with timing := t.timing, chns := t.chns, freeCtr := t.freeCtr } := by
  have hbegun : ¬ ((s.tim n).excl || decide ((s.tim n).winSeq < win)) = true := by simpa [hexcl] using hwin
  have hfire : s.timingFire n sm1
      = (s.setTim n { s.tim n with timed := rest, bitpos := pos }).fireEvent n win pos mask val none := by
    unfold State.timingFire
    simp only [htimed]
    rw [if_neg hbegun]
  rw [hfire] at ht
  have htim := State.tim_setTim_same s n { s.tim n with timed := rest, bitpos := pos }
  have honly := State.setTim_only s n { s.tim n with timed := rest, bitpos := pos }
  generalize s.setTim n { s.tim n with timed := rest, bitpos := pos } = u at htim honly ht
  rw [State.fireEvent_noAg _ _ _ hmask] at ht
  split at ht
  · next hbit =>
    obtain ⟨hkept, hdhold, htimedKept, hkeptOnly⟩ := u.setDhold_spec n win pos (val.testBit 1) ht
    rw [htim] at hkept htimedKept
    refine ⟨fun h => htimedKept (h.resolve_left (ne_false_of_eq_true hbit)), hkept.bitpos, hkept.ag, hdhold.trans (if_pos hbit).symm,
      by rw [hkeptOnly, honly]⟩
  · next hbit =>
    subst ht
    rw [htim]
    exact ⟨fun _ => rfl, rfl, rfl, (if_neg hbit).symm, by rw [honly]⟩

/-! ### A window begins (R148) -/

/-- A resync field adds the change to the tracking gains where a read sector goes on, and keeps the rest (R105). -/
theorem State.resync_spec (s : State) (n : Fin 4) : (∃ l, (s.resync n).tim n = { s.tim n with timed := l })
    ∧ ((s.tim n).reading = none → (s.resync n).tim n = s.tim n)
    ∧ s.resync n = { s with timing := (s.resync n).timing, chns := (s.resync n).chns } := by
  unfold State.resync
  split
  · next h =>
    generalize { s.ch n with acq := true } = c
    have hch : (s.setCh n c).tim n = s.tim n := rfl
    have honly := s.setCh_only n c
    generalize s.setCh n c = u at hch honly ⊢
    refine ⟨⟨_, (State.addTimed_tim u n _ 24 .track).trans (by rw [hch])⟩, fun h0 => ?_, ?_⟩
    · rw [h0] at h
      cases h
    · rw [State.addTimed_only, honly]
  · exact ⟨⟨_, rfl⟩, fun _ => rfl, rfl⟩

/-- A window begins at its wedge, in the lane clock settled or with neither a capture nor the write gate to open (R148, R153). -/
theorem State.windowStart_spec (h : s.settled n = true ∨ ((s.tim n).caps = [] ∧ (s.tim n).wreq = false))
    (ht : s.windowStart n = t) :
    (t.tim n).winSeq = (s.tim n).winSeq + 1 ∧ (t.tim n).wedge = (s.sv n).wedge ∧ (t.tim n).excl = false
      ∧ (t.tim n).starts = (s.tim n).starts + 1 ∧ ((s.tim n).reading = none → (t.tim n).timed = (s.tim n).timed)
      ∧ t = { s with timing := t.timing, lanes := t.lanes, chns := t.chns } := by
  generalize hx : { s.tim n with winSeq := (s.tim n).winSeq + 1, wedge := (s.sv n).wedge, bitpos := 0, excl := false,
                                 starts := (s.tim n).starts + 1 } = x
  have hopens : ¬ (!(s.setTim n x).settled n && ((s.tim n).caps != [] || (s.tim n).wreq)) = true := by
    have hsettled : (s.setTim n x).settled n = s.settled n := rfl
    rw [hsettled]
    rcases h with h | ⟨hcaps, hwreq⟩
    · simp [h]
    · simp [hcaps, hwreq]
  have hstart : s.windowStart n = ((s.setTim n x).resync n).updWgate n := by
    rw [← hx] at hopens ⊢
    exact if_neg hopens
  rw [hstart] at ht
  have htim := State.tim_setTim_same s n x
  have honly := State.setTim_only s n x
  generalize s.setTim n x = u at htim honly ht
  obtain ⟨⟨l, hresync⟩, hnone, hresyncOnly⟩ := u.resync_spec n
  generalize u.resync n = v at hresync hnone hresyncOnly ht
  have hgate := v.updWgate_lanes n
  rw [ht] at hgate
  have htv : t.tim n = v.tim n := by rw [hgate]; rfl
  rw [htim] at hresync hnone
  rw [htv]
  refine ⟨by rw [hresync, ← hx], by rw [hresync, ← hx], by rw [hresync, ← hx], by rw [hresync, ← hx], fun h0 => ?_,
    by rw [hgate, hresyncOnly, honly]⟩
  rw [hnone (by rw [← hx]; exact h0), ← hx]

end Sys2Proof.Machine

/-! SUPPORT. The sequencer's commands to the assist controller: AST_ARM and AST_DISARM. -/

namespace Sys2Proof.Machine

variable {s t u : State} {n : Fin 4}

/-! ### A command sent (R155) -/

theorem State.cmdSent_sq (s : State) (n : Fin 4) : (s.cmdSent n).sq n = { s.sq n with cmdDone := true } := State.sq_setSq_same s n _

theorem State.cmdSent_only (s : State) (n : Fin 4) : s.cmdSent n = { s with seqs := (s.cmdSent n).seqs } := State.setSq_only s n _

/-! ### ARMED clears (R207) -/

/-- The registers of an assist controller whose assist disarms, both gates' levels, and what else changes. -/
theorem State.disarm_spec (s : State) (n : Fin 4) {t : State} (ht : s.disarm n = t) : t.armed n = false ∧ t.agate n = false
    ∧ RegsBut s t [(.ast n, Reg.AST_STAT)] ∧ t = { s with regs := t.regs, asts := t.asts } := by
  have harmed := s.disarm_armed n
  rw [ht] at harmed
  have hclear : (s.setF (.ast n) F.AST_STAT_ARMED 0).armed n = false := s.on_setF_same (.ast n) (f := F.AST_STAT_ARMED) rfl (by decide) false
  have hregs : RegsBut s (s.setF (.ast n) F.AST_STAT_ARMED 0) [(.ast n, Reg.AST_STAT)] :=
    RegsBut.setF s (.ast n) F.AST_STAT_ARMED 0 (by decide)
  have honly := State.setF_only s (.ast n) F.AST_STAT_ARMED 0
  unfold State.disarm at ht
  generalize s.setF (.ast n) F.AST_STAT_ARMED 0 = u at hclear hregs honly ht
  dsimp only at ht
  generalize { (u.at n).withdraw Frame.ofArm with arming := false } = a at ht
  have hsetOnly := State.setAt_only u n a
  have hsetRegs := State.setAt_regs (s := u) n a
  generalize u.setAt n a = v at hsetOnly hsetRegs ht
  obtain ⟨hgate, hgateRegs, hgateOnly⟩ := v.updAgate_spec n
  rw [ht] at hgate hgateRegs hgateOnly
  have hlow : v.agateCond n = false := by
    have harmedV : v.armed n = false := (congrArg (· == 1) (State.f_congr hsetRegs (.ast n) F.AST_STAT_ARMED)).trans hclear
    rw [State.agateCond, harmedV]
    simp
  exact ⟨harmed, hgate.trans hlow, (hregs.trans (.of_regs hsetRegs)).trans hgateRegs, by rw [hgateOnly, hsetOnly, honly]⟩

/-! ### AST_DISARM (R206, R207) -/

/-- AST_DISARM: the assist is not armed, its gate low, and a refusal no longer counts. -/
theorem State.astDisarm_spec (s : State) (n : Fin 4) {t : State} (ht : (s.cmdSent n).astDisarm n = t) :
    t.armed n = false ∧ t.agate n = false ∧ (t.at n).refused = false ∧ (t.sq n).cmdDone = true
      ∧ RegsBut s t [(.ast n, Reg.AST_STAT)] ∧ t = { s with regs := t.regs, seqs := t.seqs, asts := t.asts } := by
  have hsq := s.cmdSent_sq n
  have hsent := s.cmdSent_only n
  generalize s.cmdSent n = a at hsq hsent ht
  unfold State.astDisarm at ht
  obtain ⟨harmed, hagate, hregs, honly⟩ := a.disarm_spec n rfl
  generalize a.disarm n = b at harmed hagate hregs honly ht
  dsimp only at ht
  have hat := State.at_setAt_same b n { b.at n with refused := false }
  have hset := State.setAt_only b n { b.at n with refused := false }
  have hsetRegs := State.setAt_regs (s := b) n { b.at n with refused := false }
  rw [ht] at hat hset hsetRegs
  have hsqt : t.sq n = a.sq n := by rw [hset, honly]; rfl
  have hsentRegs : a.regs = s.regs := by rw [hsent]
  refine ⟨?_, ?_, congrArg Assist.refused hat, by rw [hsqt, hsq], ?_, by rw [hset, honly, hsent]⟩
  · exact (congrArg (· == 1) (State.f_congr hsetRegs (.ast n) F.AST_STAT_ARMED)).trans harmed
  · exact (congrArg (· == 1) (State.f_congr hsetRegs (.ast n) F.AST_STAT_AGATE)).trans hagate
  · exact ((RegsBut.of_regs hsentRegs).trans hregs).trans (.of_regs hsetRegs)

/-! ### AST_ARM (R205) -/

/-- A frame that becomes due is the last of the queue, and no register changes (R221). -/
theorem State.queueFrame_spec (s : State) (n : Fin 4) (f : Frame) {t : State} (ht : s.queueFrame n f = t) :
    t.at n = { s.at n with queue := (s.at n).queue ++ [f] } ∧ t.regs = s.regs ∧ t = { s with asts := t.asts } ∧ LaneReach n s t := by
  unfold State.queueFrame at ht
  generalize hy : { s.at n with queue := (s.at n).queue ++ [f] } = y at ht
  have hat := State.at_setAt_same s n y
  have hregs := State.setAt_regs (s := s) n y
  have honly := State.setAt_only s n y
  have hreach := LaneReach.setAt (n := n) s n y
  rw [ht] at hat hregs honly hreach
  exact ⟨hat, hregs, honly, hreach⟩

/-- The assist as AST_ARM finds it: the active head's row and its set-point in the zone latched, no refusal and no arming. -/
def Assist.armLatched (a b : Assist) (h rzone : Nat) : Assist :=
  { b with row := (List.range 5).map (fun w => a.hdWord h w), spz := a.spz? h rzone, refused := false, arming := false }

/-- The controller with what AST_ARM latches, before it arms or refuses (R205). -/
def State.armLatched (s : State) (n : Fin 4) (rzone : Nat) : State :=
  let s0 := ((s.disarm n).setF (.ast n) F.AST_STAT_HEAD (s.activeHead n)).setF (.ast n) F.AST_STAT_RZONE rzone
  s0.setAt n ((s.at n).armLatched (s0.at n) (s.activeHead n) rzone)

/-- The controller after AST_ARM has latched its row: not armed, and AST_STAT alone written (R205, R207). -/
theorem State.armLatched_spec (s : State) (n : Fin 4) {rzone : Nat} (hzone : rzone < 64) {t : State} (ht : s.armLatched n rzone = t) :
    t.armed n = false ∧ (t.at n).refused = false ∧ (t.at n).arming = false ∧ t.f (.ast n) F.AST_STAT_RZONE = rzone
      ∧ RegsBut s t [(.ast n, Reg.AST_STAT)] ∧ t = { s with regs := t.regs, asts := t.asts } := by
  unfold State.armLatched at ht
  obtain ⟨harmed, -, hregs, honly⟩ := s.disarm_spec n rfl
  generalize s.disarm n = a at harmed hregs honly ht
  generalize s.activeHead n = h at ht
  have hhead := State.setF_only a (.ast n) F.AST_STAT_HEAD h
  have hheadRegs : RegsBut a (a.setF (.ast n) F.AST_STAT_HEAD h) [(.ast n, Reg.AST_STAT)] := RegsBut.setF a _ _ _ (by decide)
  have hheadArmed : (a.setF (.ast n) F.AST_STAT_HEAD h).armed n = false :=
    (a.on_setF_ne (.ast n) F.AST_STAT_HEAD F.AST_STAT_ARMED h rfl (by decide) (by decide)).trans harmed
  generalize a.setF (.ast n) F.AST_STAT_HEAD h = b at hhead hheadRegs hheadArmed ht
  have hzoneOnly := State.setF_only b (.ast n) F.AST_STAT_RZONE rzone
  have hzoneRegs : RegsBut b (b.setF (.ast n) F.AST_STAT_RZONE rzone) [(.ast n, Reg.AST_STAT)] := RegsBut.setF b _ _ _ (by decide)
  have hzoneArmed : (b.setF (.ast n) F.AST_STAT_RZONE rzone).armed n = false :=
    (b.on_setF_ne (.ast n) F.AST_STAT_RZONE F.AST_STAT_ARMED rzone rfl (by decide) (by decide)).trans hheadArmed
  have hzoneField : (b.setF (.ast n) F.AST_STAT_RZONE rzone).f (.ast n) F.AST_STAT_RZONE = rzone :=
    (b.f_setF_same (.ast n) F.AST_STAT_RZONE rzone (by decide)).trans (Nat.mod_eq_of_lt hzone)
  generalize b.setF (.ast n) F.AST_STAT_RZONE rzone = c at hzoneOnly hzoneRegs hzoneArmed hzoneField ht
  dsimp only at ht
  generalize hx : (s.at n).armLatched (c.at n) h rzone = x at ht
  have hat := State.at_setAt_same c n x
  have hset := State.setAt_only c n x
  have hsetRegs := State.setAt_regs (s := c) n x
  rw [ht] at hat hset hsetRegs
  refine ⟨?_, by rw [hat, ← hx]; rfl, by rw [hat, ← hx]; rfl, (State.f_congr hsetRegs _ _).trans hzoneField, ?_,
    by rw [hset, hzoneOnly, hhead, honly]⟩
  · exact (congrArg (· == 1) (State.f_congr hsetRegs (.ast n) F.AST_STAT_ARMED)).trans hzoneArmed
  · exact ((hregs.trans hheadRegs).trans hzoneRegs).trans (.of_regs hsetRegs)

/-- AST_ARM at a controller without a fault, of a head of a kind that arms, in its range and with the driver supply in range: the
arming sequence begins (R205). -/
theorem State.arm_begins {rzone : Nat} (hfault : s.assistFaulted n = false) (hdrive : s.on (.ast n) F.AST_WIN_STAT_DRV_OK = true)
    (hkind : F.AST_HD_DATA_W0_KIND.get ((s.at n).hdWord (s.activeHead n) 0) = 1
      ∨ F.AST_HD_DATA_W0_KIND.get ((s.at n).hdWord (s.activeHead n) 0) = 2)
    (hrange : F.AST_HD_DATA_W1_SP_MIN.get ((s.at n).hdWord (s.activeHead n) 1)
      ≤ F.AST_HD_DATA_W1_SP_MAX.get ((s.at n).hdWord (s.activeHead n) 1)) (hzone : rzone < 64) :
    s.arm n rzone = ((s.armLatched n rzone).setAt n { (s.armLatched n rzone).at n with arming := true }).queueFrame n .sliderArm := by
  obtain ⟨-, -, -, -, hregs, -⟩ := s.armLatched_spec n hzone rfl
  have hfault' : (s.armLatched n rzone).assistFaulted n = false :=
    (congrArg (· != 0) (hregs.f (f := F.AST_FLT_STAT_FAULTS) (by decide) (by simp))).trans hfault
  have hdrive' : (s.armLatched n rzone).on (.ast n) F.AST_WIN_STAT_DRV_OK = true :=
    (hregs.on (f := F.AST_WIN_STAT_DRV_OK) (by decide) (by simp)).trans hdrive
  have hrefused : ¬ (F.AST_HD_DATA_W0_KIND.get ((s.at n).hdWord (s.activeHead n) 0) = 3
      ∨ F.AST_HD_DATA_W1_SP_MAX.get ((s.at n).hdWord (s.activeHead n) 1)
        < F.AST_HD_DATA_W1_SP_MIN.get ((s.at n).hdWord (s.activeHead n) 1)) := by omega
  have hnone : ¬ F.AST_HD_DATA_W0_KIND.get ((s.at n).hdWord (s.activeHead n) 0) = 0 := by omega
  have harm : s.arm n rzone = if (s.armLatched n rzone).assistFaulted n then (s.armLatched n rzone).armRefuse n 3
    else if F.AST_HD_DATA_W0_KIND.get ((s.at n).hdWord (s.activeHead n) 0) = 3
        ∨ F.AST_HD_DATA_W1_SP_MAX.get ((s.at n).hdWord (s.activeHead n) 1)
          < F.AST_HD_DATA_W1_SP_MIN.get ((s.at n).hdWord (s.activeHead n) 1) then
      ((s.armLatched n rzone).armRefuse n 3).err (.ast n) eConfig
    else if F.AST_HD_DATA_W0_KIND.get ((s.at n).hdWord (s.activeHead n) 0) = 0 then (s.armLatched n rzone).armReady n
    else if !(s.armLatched n rzone).on (.ast n) F.AST_WIN_STAT_DRV_OK then (s.armLatched n rzone).armRefuse n 2
    else ((s.armLatched n rzone).setAt n { (s.armLatched n rzone).at n with arming := true }).queueFrame n .sliderArm := rfl
  rw [harm, if_neg (ne_true_of_eq_false hfault'), if_neg hrefused, if_neg hnone, hdrive']
  rfl

/-- The arming sequence has begun: SLIDER_ARM is the last frame due (R205). -/
theorem State.arm_spec {rzone : Nat} (hfault : s.assistFaulted n = false) (hdrive : s.on (.ast n) F.AST_WIN_STAT_DRV_OK = true)
    (hkind : F.AST_HD_DATA_W0_KIND.get ((s.at n).hdWord (s.activeHead n) 0) = 1
      ∨ F.AST_HD_DATA_W0_KIND.get ((s.at n).hdWord (s.activeHead n) 0) = 2)
    (hrange : F.AST_HD_DATA_W1_SP_MIN.get ((s.at n).hdWord (s.activeHead n) 1)
      ≤ F.AST_HD_DATA_W1_SP_MAX.get ((s.at n).hdWord (s.activeHead n) 1)) (hzone : rzone < 64) (ht : s.arm n rzone = t) :
    (t.at n).arming = true ∧ (t.at n).refused = false ∧ t.armed n = false ∧ (t.at n).queue.getLast? = some .sliderArm
      ∧ t.f (.ast n) F.AST_STAT_RZONE = rzone ∧ RegsBut s t [(.ast n, Reg.AST_STAT)] ∧ t = { s with regs := t.regs, asts := t.asts } := by
  rw [State.arm_begins hfault hdrive hkind hrange hzone] at ht
  obtain ⟨harmed, hrefused, -, hfield, hregs, honly⟩ := s.armLatched_spec n hzone rfl
  generalize s.armLatched n rzone = a at harmed hrefused hfield hregs honly ht
  have hat := State.at_setAt_same a n { a.at n with arming := true }
  have hset := State.setAt_only a n { a.at n with arming := true }
  have hsetRegs := State.setAt_regs (s := a) n { a.at n with arming := true }
  generalize a.setAt n { a.at n with arming := true } = b at hat hset hsetRegs ht
  obtain ⟨hat2, hset2Regs, hset2, -⟩ := b.queueFrame_spec n .sliderArm ht
  have htRegs : t.regs = a.regs := hset2Regs.trans hsetRegs
  refine ⟨by rw [hat2, hat], by rw [hat2, hat]; exact hrefused, ?_, by rw [hat2]; exact List.getLast?_concat,
    (State.f_congr htRegs _ _).trans hfield, hregs.trans (.of_regs htRegs), by rw [hset2, hset, honly]⟩
  exact (congrArg (· == 1) (State.f_congr htRegs (.ast n) F.AST_STAT_ARMED)).trans harmed

/-- A refusal for a fault of the controller (R205, R387). -/
theorem State.armRefuse_spec (s : State) (n : Fin 4) {t : State} (ht : s.armRefuse n 3 = t) :
    (t.at n).refused = true ∧ (t.at n).arming = false ∧ t.f (.ast n) F.AST_STAT_ARM_RES = 3
      ∧ t = { s with regs := t.regs, asts := t.asts } := by
  have hrefuse : s.armRefuse n 3 = (s.setF (.ast n) F.AST_STAT_ARM_RES 3).setAt n { s.at n with refused := true, arming := false } := by
    simp [State.armRefuse]
  rw [hrefuse] at ht
  have hfield := s.f_setF_same (.ast n) F.AST_STAT_ARM_RES 3 (by decide)
  have honly := State.setF_only s (.ast n) F.AST_STAT_ARM_RES 3
  generalize s.setF (.ast n) F.AST_STAT_ARM_RES 3 = a at hfield honly ht
  have hat := State.at_setAt_same a n { s.at n with refused := true, arming := false }
  have hset := State.setAt_only a n { s.at n with refused := true, arming := false }
  have hsetRegs := State.setAt_regs (s := a) n { s.at n with refused := true, arming := false }
  rw [ht] at hat hset hsetRegs
  exact ⟨congrArg Assist.refused hat, congrArg Assist.arming hat, (State.f_congr hsetRegs _ _).trans hfield, by rw [hset, honly]⟩

/-- RZONE has 6 bits (R77). -/
theorem Disp.rzone_lt (d : Disp) : d.rzone < 64 := BitVec.isLt _

/-- AST_ARM of a word reaches a controller that takes work (R155, R205). -/
theorem State.armCommand_takes {d : Disp} (hdisp : s.workDisp n = some d) (htakes : s.takes (.ast n) = true) :
    s.armCommand n = (s.cmdSent n).arm n d.rzone := by
  simp [State.armCommand, hdisp, htakes]

/-- A controller whose engine has stopped refuses (R387). -/
theorem State.armCommand_faulted {d : Disp} (hdisp : s.workDisp n = some d) (hstate : s.unitState (.ast n) = stFault) :
    s.armCommand n = (s.cmdSent n).armRefuse n 3 := by
  have htakes : s.takes (.ast n) = false := by rw [State.takes, hstate]; rfl
  simp [State.armCommand, hdisp, htakes, hstate]

end Sys2Proof.Machine

/-! SUPPORT. HEAD: the servo takes the head and loses its lock, and the assist stays disarmed. -/

namespace Sys2Proof.Machine

variable {s t u : State} {n : Fin 4}

/-! ### ARMED where the lane stops (R156, R207) -/

/-- A register write outside AST_STAT leaves ARMED. -/
theorem State.armed_setReg_ne (s : State) (n : Fin 4) {v : UnitId} {o : Nat} (h : key (.ast n) Reg.AST_STAT ≠ key v o) (w : Word) :
    (s.setReg v o w).armed n = s.armed n := congrArg (fun x => F.AST_STAT_ARMED.get x == 1) (State.reg_setReg_ne s h w)

theorem RegsBut.armed {l : List (UnitId × Nat)} (h : RegsBut s t l) (hl : (.ast n, Reg.AST_STAT) ∉ l) : t.armed n = s.armed n :=
  h.on (f := F.AST_STAT_ARMED) (by decide) hl

/-- The sectors given up leave ARMED. -/
theorem State.giveUp_armed (s : State) (n : Fin 4) (l : List SectRef) :
    (l.foldl (fun u r => u.finish n r false) s).armed n = s.armed n := by
  obtain ⟨k, hk⟩ := exists_lane_ne n
  have hreach : LaneReach k s (l.foldl (fun u r => u.finish n r false) s) := LaneReach.foldl _ (fun t r => t.finish_reach n r false) l s
  exact hreach.regs.on (f := F.AST_STAT_ARMED) (by decide) hk

theorem State.haltTiming_armed (s : State) (n : Fin 4) (w : Bool) : (s.haltTiming n w).armed n = s.armed n := by
  unfold State.haltTiming
  dsimp only
  rw [(State.updAgate_kept _ n).2, State.giveUp_armed]
  exact State.on_setF_ne _ (.ast n) F.AST_STAT_AG F.AST_STAT_ARMED 0 rfl (by decide) (by decide)

theorem State.writeStop_armed (s : State) (n : Fin 4) (c : Nat) : (s.writeStop n c).armed n = s.armed n := by
  have hchn : ∀ (t : State) (j : Nat) (w : Word), j < 0x1000 → (t.setReg (.chn n) j w).armed n = t.armed n := fun t j w hj =>
    t.armed_setReg_ne n (by simp [key_inj (show Reg.AST_STAT < 0x1000 by decide) hj]) w
  have hch : ∀ (t : State) (c : Channel), (t.setCh n c).armed n = t.armed n := fun _ _ => rfl
  unfold State.writeStop State.err State.setBits State.count64 State.setReg64 State.setF
  dsimp only
  rw [State.haltTiming_armed, hch, hchn _ _ _ (by decide), hchn _ _ _ (by decide), hchn _ _ _ (by decide), hchn _ _ _ (by decide),
    hchn _ _ _ (by decide)]

/-- A register of the servo leaves ARMED. -/
theorem State.armed_setReg_srv (s : State) (n : Fin 4) {o : Nat} (ho : o < 0x1000) (w : Word) :
    (s.setReg (.srv n) o w).armed n = s.armed n :=
  s.armed_setReg_ne n (by simp [key_inj (show Reg.AST_STAT < 0x1000 by decide) ho]) w

theorem State.setInhibit_armed (s : State) (n : Fin 4) (b : Bool) : (s.setInhibit n b).armed n = s.armed n := by
  unfold State.setInhibit
  extract_lets rise s1 s2
  have h1 : s1.armed n = s.armed n := State.armed_setReg_srv s n (by decide) _
  have h2 : s2.armed n = s.armed n := by
    simp only [s2]
    split
    · exact ((RegsBut.count64 s1 (.srv n) (by decide)).armed (by simp)).trans h1
    · exact h1
  split
  · exact (s2.writeStop_armed n _).trans h2
  · exact h2

theorem State.slockFall_armed (s : State) (n : Fin 4) : (s.slockFall n).armed n = s.armed n := by
  unfold State.slockFall
  dsimp only
  split
  · rw [(State.updAgate_kept _ n).2, State.haltTiming_armed, State.setInhibit_armed]
    exact State.armed_setReg_srv s n (by decide) _
  · exact s.setInhibit_armed n true

/-- A mode of the position loop is entered through the write inhibit alone. -/
theorem State.enterMode_loop (s : State) (n : Fin 4) {m : Nat} (hloop : closedLoop m = true) (hm : m ≠ mFollow) :
    s.enterMode n m = (s.setMode n m).setInhibit n true := by
  unfold State.enterMode
  rw [if_neg hm, hloop]
  rfl

/-! ### Fields of SRV_STAT that a change of mode leaves (R181, R186) -/

/-- A loss of lock changes SLOCK and the write inhibit of SRV_STAT only. -/
theorem State.slockFall_field (s : State) (n : Fin 4) {f : Field} (hwinh : FieldsApart F.SRV_STAT_WINH f)
    (hslock : FieldsApart F.SRV_STAT_SLOCK f) (ho : f.off < 0x1000) : (s.slockFall n).f (.srv n) f = s.f (.srv n) f := by
  unfold State.slockFall
  dsimp only
  split
  · have hclear : (s.setF (.srv n) F.SRV_STAT_SLOCK 0).f (.srv n) f = s.f (.srv n) f :=
      s.f_setF_ne (.srv n) F.SRV_STAT_SLOCK f 0 hslock.1 hslock.2.1 hslock.2.2
    rw [State.f, State.updAgate_srv _ n n ho, State.haltTiming_srv _ n true n ho]
    exact (State.setInhibit_field _ n true hwinh).trans hclear
  · exact s.setInhibit_field n true hwinh

/-- A mode of the position loop changes MODE and the write inhibit of SRV_STAT only. -/
theorem State.enterMode_field (s : State) (n : Fin 4) {m : Nat} (hloop : closedLoop m = true) (hm : m ≠ mFollow) {f : Field}
    (hwinh : FieldsApart F.SRV_STAT_WINH f) (hmode : FieldsApart F.SRV_STAT_MODE f) : (s.enterMode n m).f (.srv n) f = s.f (.srv n) f := by
  rw [State.enterMode_loop s n hloop hm]
  exact (State.setInhibit_field _ n true hwinh).trans (s.f_setF_ne (.srv n) F.SRV_STAT_MODE f m hmode.1 hmode.2.1 hmode.2.2)

/-! ### HEAD at the engine (R185) -/

/-- What a HEAD leaves of lane `n`: the head, ARMED as it was, what the lane reaches, and the sequencer. -/
structure HeadTaken (n : Fin 4) (h : Nat) (s t : State) : Prop where
  head : t.activeHead n = h
  armed : t.armed n = s.armed n
  reach : LaneReach n s t
  sq : t.sq n = s.sq n

/-- The new head and its reader. -/
theorem State.headSet_taken (s : State) (n : Fin 4) {h : Nat} (hh : h < 16) (v : Servo) :
    HeadTaken n h s ((s.setF (.srv n) F.SRV_STAT_HEAD h).setSv n v) where
  head := (s.f_setF_same (.srv n) F.SRV_STAT_HEAD h (by decide)).trans (Nat.mod_eq_of_lt hh)
  armed := State.armed_setReg_srv s n (by decide) _
  reach := (LaneReach.of_setF s (by decide) (.srv _ _) _).trans (LaneReach.setSv _ _)
  sq := rfl

/-- Lock falls, and ACQUIRE begins. -/
theorem State.headAcquire_spec {h : Nat} (hs : HeadTaken n h s u) (ht : (u.slockFall n).enterMode n mAcquire = t) :
    HeadTaken n h s t ∧ t.mode n = mAcquire ∧ t.slock n = false := by
  have hhead := u.slockFall_field n (f := F.SRV_STAT_HEAD) (by decide) (by decide) (by decide)
  have harmed := u.slockFall_armed n
  have hreach := u.slockFall_reach n
  have hsq := (u.slockFall_only n).sq n
  have hslock := (u.slockFall_stat n).1
  generalize u.slockFall n = v at hhead harmed hreach hsq hslock ht
  have hhead2 := v.enterMode_field n (m := mAcquire) rfl (by decide) (f := F.SRV_STAT_HEAD) (by decide) (by decide)
  have harmed2 : (v.enterMode n mAcquire).armed n = v.armed n := by
    rw [State.enterMode_loop v n rfl (by decide), State.setInhibit_armed]
    exact State.armed_setReg_srv v n (by decide) _
  have hreach2 := v.enterMode_reach n mAcquire
  have hsq2 := (v.enterMode_only n mAcquire).sq n
  have hmode := v.enterMode_mode n (m := mAcquire) (by decide)
  have hslock2 := (v.enterMode_stat n (m := mAcquire) (by decide)).2.1
  rw [ht] at hhead2 harmed2 hreach2 hsq2 hmode hslock2
  exact ⟨⟨(hhead2.trans hhead).trans hs.head, (harmed2.trans harmed).trans hs.armed, (hs.reach.trans hreach).trans hreach2,
    (hsq2.trans hsq).trans hs.sq⟩, hmode, hslock2.trans hslock⟩

theorem State.rotValid_seqs (s : State) : s.rotValid.seqs = s.seqs := by
  unfold State.rotValid
  split
  · rfl
  · split <;> rfl

/-- HEAD at the engine: the head changes, and a mode of the position loop loses lock and acquires (R185). -/
theorem State.servoHead_spec (s : State) (n : Fin 4) {h : Nat} (hh : h < 16) {t : State} (ht : s.servoHead n h = t) :
    HeadTaken n h s t ∧ (closedLoop (s.mode n) = true → t.mode n = mAcquire ∧ t.slock n = false) := by
  unfold State.servoHead at ht
  dsimp only at ht
  generalize hx : { s.sv n with reader := s.f (.srv n) F.SRV_HD_SRDR_SRDR / 2 ^ h % 2, lastW := none } = x at ht
  have hset := s.headSet_taken n hh x
  generalize (s.setF (.srv n) F.SRV_STAT_HEAD h).setSv n x = u at hset ht
  split at ht
  · obtain ⟨htaken, hmode, hslock⟩ := State.headAcquire_spec hset rfl
    generalize (u.slockFall n).enterMode n mAcquire = v at htaken hmode hslock ht
    generalize { v.sv n with pendingSeek := (u.sv n).seeking, lastW := none, cur := (v.sv n).bias } = y at ht
    have hsvRegs := State.setSv_regs v n y
    have hsvReach := LaneReach.setSv (n := n) v y
    have hsvSeqs : (v.setSv n y).seqs = v.seqs := rfl
    generalize v.setSv n y = w at hsvRegs hsvReach hsvSeqs ht
    have hregs : RegsBut v w.rotValid [(.med, Reg.MED_ROT_POS)] := (RegsBut.of_regs hsvRegs).trans w.rotValid_regs
    have hreach := w.rotValid_reach (n := n)
    have hseqs := w.rotValid_seqs
    rw [ht] at hregs hreach hseqs
    have hsq : t.sq n = v.sq n := congrArg (fun q : Vector Sequencer 4 => q[n]) (hseqs.trans hsvSeqs)
    refine ⟨⟨(hregs.f (f := F.SRV_STAT_HEAD) (by decide) (by simp)).trans htaken.head, (hregs.armed (by simp)).trans htaken.armed,
      (htaken.reach.trans hsvReach).trans hreach, hsq.trans htaken.sq⟩, fun _ => ⟨?_, ?_⟩⟩
    · exact (hregs.f (f := F.SRV_STAT_MODE) (by decide) (by simp)).trans hmode
    · exact (hregs.on (f := F.SRV_STAT_SLOCK) (by decide) (by simp)).trans hslock
  · next hopen =>
    subst ht
    exact ⟨hset, fun h => absurd h hopen⟩

/-! ### HEAD of a word (R155, R207, R209) -/

/-- The lead follows the head and is the assist controller's (R209). -/
theorem State.leadUpdate_spec (s : State) (n : Fin 4) : RegsBut s (s.leadUpdate n) [(.ast n, Reg.AST_LEAD)] ∧ LaneReach n s (s.leadUpdate n)
    ∧ s.leadUpdate n = { s with regs := (s.leadUpdate n).regs } :=
  ⟨RegsBut.setF s (.ast n) F.AST_LEAD_LEAD _ (by decide), LaneReach.of_setF s (by decide) (.ast _ _) _, State.setF_only s _ _ _⟩

/-- HEAD of a word: the head, no arming, a select frame last in the queue, and ACQUIRE where the position loop ran (R155, R185). -/
theorem State.headCommand_spec {d : Disp} (hdisp : s.workDisp n = some d) (ht : s.headCommand n = t) :
    t.activeHead n = d.head % 12 ∧ t.armed n = false ∧ (t.sq n).cmdDone = true ∧ (t.sq n).headOk = false ∧ (t.sq n).headErr = false
      ∧ (t.at n).queue.getLast? = some (.headSel (d.head % 12))
      ∧ (closedLoop (s.mode n) = true → t.mode n = mAcquire ∧ t.slock n = false) ∧ LaneReach n s t := by
  generalize hh : d.head % 12 = h
  have hlt : h < 16 := hh ▸ Nat.lt_trans (Nat.mod_lt _ (by decide)) (by decide)
  generalize hq : { s.sq n with cmdDone := true, headOk := false, headErr := false } = q
  have hcommand : s.headCommand n = ((((s.setSq n q).disarm n).servoHead n h).leadUpdate n |>.setAt n
      { (((s.setSq n q).disarm n).servoHead n h).leadUpdate n |>.at n with sliderRead := false }).queueFrame n (.headSel h) := by
    rw [← hq, ← hh]
    unfold State.headCommand
    rw [hdisp]
    rfl
  rw [hcommand] at ht
  have hsq := State.sq_setSq_same s n q
  have hsqRegs : (s.setSq n q).regs = s.regs := rfl
  have hsqReach := LaneReach.setSq s n q (n := n)
  generalize s.setSq n q = a at hsq hsqRegs hsqReach ht
  obtain ⟨harmed, -, hdisarm, hdisarmOnly⟩ := a.disarm_spec n rfl
  have hdisarmReach := (a.disarm_reach n).1
  generalize a.disarm n = b at harmed hdisarm hdisarmOnly hdisarmReach ht
  obtain ⟨htaken, hacquire⟩ := b.servoHead_spec n hlt rfl
  generalize b.servoHead n h = c at htaken hacquire ht
  obtain ⟨hlead, hleadReach, hleadOnly⟩ := c.leadUpdate_spec n
  generalize c.leadUpdate n = e at hlead hleadReach hleadOnly ht
  generalize { e.at n with sliderRead := false } = x at ht
  have hsetRegs := State.setAt_regs (s := e) n x
  have hsetReach := LaneReach.setAt (n := n) e n x
  have hsetOnly := State.setAt_only e n x
  generalize e.setAt n x = g at hsetRegs hsetReach hsetOnly ht
  obtain ⟨hat, hendRegs, hendOnly, hendReach⟩ := g.queueFrame_spec n (.headSel h) ht
  have hregs : RegsBut c t [(.ast n, Reg.AST_LEAD)] := hlead.trans (.of_regs (hendRegs.trans hsetRegs))
  have hsqt : t.sq n = q := by
    have hback : t.sq n = c.sq n := by rw [hendOnly, hsetOnly, hleadOnly]; rfl
    have hfront : b.sq n = a.sq n := by rw [hdisarmOnly]; rfl
    rw [hback, htaken.sq, hfront, hsq]
  have hmode : b.mode n = s.mode n :=
    ((RegsBut.of_regs hsqRegs).trans hdisarm).f (f := F.SRV_STAT_MODE) (by decide) (by simp)
  refine ⟨(hregs.f (f := F.SRV_STAT_HEAD) (by decide) (by simp)).trans htaken.head,
    ((hregs.armed (by simp)).trans htaken.armed).trans harmed, by rw [hsqt, ← hq], by rw [hsqt, ← hq], by rw [hsqt, ← hq],
    by rw [hat]; exact List.getLast?_concat, fun hloop => ?_, ?_⟩
  · obtain ⟨hm, hs⟩ := hacquire (hmode ▸ hloop)
    exact ⟨(hregs.f (f := F.SRV_STAT_MODE) (by decide) (by simp)).trans hm,
      (hregs.on (f := F.SRV_STAT_SLOCK) (by decide) (by simp)).trans hs⟩
  · exact ((((hsqReach.trans hdisarmReach).trans htaken.reach).trans hleadReach).trans hsetReach).trans hendReach

end Sys2Proof.Machine

/-! SUPPORT. SEEK and HOLD: the move begins, or stops where the head is. -/

namespace Sys2Proof.Machine

variable {s t u : State} {n : Fin 4}

/-! ### A mode of the position loop (R127, R181, R187) -/

/-- The write inhibit, set, closes the lane's write gate. -/
theorem State.setInhibit_closes (s : State) (n : Fin 4) : ((s.setInhibit n true).lane n).wgate = false := by
  have hwinh := s.setInhibit_winh n true
  unfold State.setInhibit at hwinh ⊢
  dsimp only at hwinh ⊢
  generalize (if (true && !s.on (.srv n) F.SRV_STAT_WINH && (s.lane n).wgate) = true
    then (s.setF (.srv n) F.SRV_STAT_WINH (bit true)).count64 (.srv n) Reg.SRV_CNT_WINH_LO
    else s.setF (.srv n) F.SRV_STAT_WINH (bit true)) = u at hwinh ⊢
  split
  · exact (u.writeStop_closes n _).1
  · next h =>
    rw [if_neg h] at hwinh
    have hset : u.on (.srv n) F.SRV_STAT_WINH = true := hwinh
    have hgate : ((u.updWgate n).lane n).wgate = u.wgateCond n := congrArg Lane.wgate (State.lane_setLane_same u n _)
    rw [hgate, State.wgateCond, hset]
    simp

/-- What a change to mode `m` leaves of lane `n`. -/
structure ModeEntered (n : Fin 4) (m : Nat) (s t : State) : Prop where
  mode : t.mode n = m
  winh : t.on (.srv n) F.SRV_STAT_WINH = true
  closed : (t.lane n).wgate = false
  servo : ServoKept n inhibitRegs s t
  only : LaneOnly s t
  idle : s.writing n = false → RegsBut s t (modeRegs n) ∧ t = { s with regs := t.regs, lanes := t.lanes }

theorem State.enterMode_entered (s : State) (n : Fin 4) {m : Nat} (hloop : closedLoop m = true) (hm : m ≠ mFollow) (hlt : m < 16) :
    ModeEntered n m s (s.enterMode n m) where
  mode := s.enterMode_mode n hlt
  winh := (s.enterMode_stat n hm).1
  closed := by rw [State.enterMode_loop s n hloop hm]; exact State.setInhibit_closes _ n
  servo := (s.enterMode_stat n hm).2.2
  only := s.enterMode_only n m
  idle := State.enterMode_idle hloop hm

/-! ### A SEEK at the engine (R58, R179, R183, R185) -/

/-- The engine with a SEEK under way to a track (R179). -/
def Servo.sought (v : Servo) (dtrack : Nat) (offtrk ofs band : Int) : Servo :=
  { v with dtrack := dtrack, offtrk := offtrk, band := band, moved := false, seeking := true,
           target := targetOf dtrack (offtrk + ofs) band }

/-- The state in which a SEEK has reset its outcome, before it is known to start (R185). -/
def State.seekPrepared (s : State) (n : Fin 4) : State :=
  let s0 := s.setSq n { s.sq n with seekDone := false, seekErr := false }
  s0.setSv n { s0.sv n with repeatUsed := false }

/-- The state in which a SEEK is under way and counted, before its move (R58, R185). -/
def State.seekCounted (s : State) (n : Fin 4) (dtrack : Nat) (offtrk ofs : Int) : State :=
  ((s.seekPrepared n).setSv n (((s.seekPrepared n).sv n).sought dtrack offtrk ofs
    ((s.sv n).bandOffset (s.activeHead n) dtrack))).capStart (.seek n.val)

/-- A SEEK under way moves at once, or waits for lock (R185). -/
def State.seekMoves (s : State) (n : Fin 4) : State :=
  if s.slock n then s.startMove n else s.setSv n { s.sv n with pendingSeek := true }

theorem State.servoSeek_eq (s : State) (n : Fin 4) (dtrack : Nat) (offtrk ofs : Int) : s.servoSeek n dtrack offtrk ofs
    = if cannotSeek (s.mode n) then (s.seekPrepared n).seekError n 0
      else if beyond30 (offtrk + ofs) ((s.sv n).bandOffset (s.activeHead n) dtrack) then
        ((s.seekPrepared n).err (.srv n) eConfig).seekError n 0
      else (if ((s.seekPrepared n).sv n).seeking then (s.seekPrepared n).setSv n (((s.seekPrepared n).sv n).sought dtrack offtrk ofs
          ((s.sv n).bandOffset (s.activeHead n) dtrack)) else s.seekCounted n dtrack offtrk ofs).seekMoves n := rfl

theorem State.seekPrepared_spec (s : State) (n : Fin 4) : (s.seekPrepared n).sv n = { s.sv n with repeatUsed := false }
    ∧ (s.seekPrepared n).sq n = { s.sq n with seekDone := false, seekErr := false }
    ∧ s.seekPrepared n = { s with seqs := (s.seekPrepared n).seqs, srvs := (s.seekPrepared n).srvs } :=
  ⟨State.sv_setSv_same _ n _, State.sq_setSq_same s n _, rfl⟩

/-- A SEEK that starts is counted, and with lock it moves at once (R183, R185). -/
theorem State.servoSeek_starts {dtrack : Nat} {offtrk ofs : Int} (hloop : closedLoop (s.mode n) = true)
    (hrange : beyond30 (offtrk + ofs) ((s.sv n).bandOffset (s.activeHead n) dtrack) = false) (hseeking : (s.sv n).seeking = false)
    (hslock : s.slock n = true) : s.servoSeek n dtrack offtrk ofs = (s.seekCounted n dtrack offtrk ofs).startMove n := by
  have hcan : ¬ cannotSeek (s.mode n) = true := by rw [cannotSeek, hloop]; decide
  have hidle : ¬ ((s.seekPrepared n).sv n).seeking = true := by
    rw [(s.seekPrepared_spec n).1]
    exact ne_true_of_eq_false hseeking
  have hlocked : (s.seekCounted n dtrack offtrk ofs).slock n = true := hslock
  rw [State.servoSeek_eq, if_neg hcan, if_neg (ne_true_of_eq_false hrange), if_neg hidle]
  exact if_pos hlocked

/-- A further seek counts under the cap (R58). -/
theorem State.capStart_seeks (s : State) (m : Nat) : (s.capStart (.seek m)).capSeeks = s.capSeeks + 1 := by
  simp [State.capStart, State.capSeeks, List.filter_append]

theorem State.seekCounted_spec (s : State) (n : Fin 4) (dtrack : Nat) (offtrk ofs : Int) {t : State}
    (ht : s.seekCounted n dtrack offtrk ofs = t) : (t.sv n).seeking = true ∧ (t.sv n).dtrack = dtrack
      ∧ (t.sv n).target = targetOf dtrack (offtrk + ofs) ((s.sv n).bandOffset (s.activeHead n) dtrack)
      ∧ (t.sq n).cmdDone = (s.sq n).cmdDone ∧ (t.sq n).seekDone = false ∧ t.capSeeks = s.capSeeks + 1
      ∧ t = { s with seqs := t.seqs, srvs := t.srvs, dev := t.dev } := by
  unfold State.seekCounted at ht
  obtain ⟨-, hsq, hprepared⟩ := s.seekPrepared_spec n
  generalize s.seekPrepared n = b at hsq hprepared ht
  generalize hv : (b.sv n).sought dtrack offtrk ofs ((s.sv n).bandOffset (s.activeHead n) dtrack) = v at ht
  have hsought := State.sv_setSv_same b n v
  have hsoughtOnly := State.setSv_only b n v
  generalize b.setSv n v = c at hsought hsoughtOnly ht
  have hcap := c.capStart_seeks n.val
  have hcapOnly : c.capStart (.seek n.val) = { c with dev := (c.capStart (.seek n.val)).dev } := rfl
  rw [ht] at hcap hcapOnly
  have hdev : c.capSeeks = s.capSeeks := by rw [hsoughtOnly, hprepared]; rfl
  have hsvt : t.sv n = v := by rw [hcapOnly]; exact hsought
  have hsqt : t.sq n = b.sq n := by rw [hcapOnly, hsoughtOnly]; rfl
  refine ⟨by rw [hsvt, ← hv]; rfl, by rw [hsvt, ← hv]; rfl, by rw [hsvt, ← hv]; rfl, by rw [hsqt, hsq], by rw [hsqt, hsq],
    by rw [hcap, hdev], by rw [hcapOnly, hsoughtOnly, hprepared]⟩

/-- The engine at the start of a move (R183). -/
def State.moveBegun (s : State) (n : Fin 4) : State :=
  s.setSv n { s.sv n with settle := 0, check := 0, pendingSeek := false }

/-- A move goes through SEEK or, over a few tracks, through SETTLE (R183). -/
theorem State.startMove_eq (s : State) (n : Fin 4) :
    s.startMove n = (s.moveBegun n).enterMode n mSeek ∨ s.startMove n = (s.moveBegun n).enterMode n mSettle := by
  unfold State.startMove
  dsimp only
  split
  · exact .inl rfl
  · exact .inr rfl

/-- A move leaves the SEEK, its target and the sequencer, and enters its mode (R183). -/
theorem State.startMove_spec (s : State) (n : Fin 4) {t : State} (ht : s.startMove n = t) :
    (t.mode n = mSeek ∨ t.mode n = mSettle) ∧ t.on (.srv n) F.SRV_STAT_WINH = true ∧ (t.lane n).wgate = false
      ∧ t.sv n = { s.sv n with settle := 0, check := 0, pendingSeek := false } ∧ t.sq n = s.sq n ∧ t.dev = s.dev
      ∧ t.pending = s.pending
      ∧ (s.writing n = false → RegsBut s t (modeRegs n) ∧ t = { s with regs := t.regs, srvs := t.srvs, lanes := t.lanes }) := by
  have hentered : ∃ m, (m = mSeek ∨ m = mSettle) ∧ ModeEntered n m (s.moveBegun n) t := by
    rcases s.startMove_eq n with hmove | hmove
    · exact ⟨mSeek, .inl rfl, by rw [← ht, hmove]; exact State.enterMode_entered _ n rfl (by decide) (by decide)⟩
    · exact ⟨mSettle, .inr rfl, by rw [← ht, hmove]; exact State.enterMode_entered _ n rfl (by decide) (by decide)⟩
  obtain ⟨m, hm, hmode⟩ := hentered
  have hsv : (s.moveBegun n).sv n = { s.sv n with settle := 0, check := 0, pendingSeek := false } := State.sv_setSv_same s n _
  have honly : s.moveBegun n = { s with srvs := (s.moveBegun n).srvs } := State.setSv_only s n _
  have hregs : (s.moveBegun n).regs = s.regs := rfl
  have hwriting : (s.moveBegun n).writing n = s.writing n := rfl
  generalize s.moveBegun n = a at hmode hsv honly hregs hwriting
  refine ⟨hm.imp hmode.mode.trans hmode.mode.trans, hmode.winh, hmode.closed, (hmode.only.sv n).trans hsv, ?_, ?_, ?_, fun hidle => ?_⟩
  · rw [hmode.only.sq n, honly]; rfl
  · rw [hmode.only, honly]
  · rw [hmode.only.pending, honly]
  · obtain ⟨hmodeRegs, hmodeOnly⟩ := hmode.idle (hwriting.trans hidle)
    exact ⟨(RegsBut.of_regs hregs).trans hmodeRegs, by rw [hmodeOnly, honly]⟩

/-! ### SEEK of a word (R155) -/

/-- SEEK of a word that neither the cap nor the media throttle holds back reaches the engine (R58, R155, R513). -/
theorem State.seekCommand_free {d : Disp} (hdisp : s.workDisp n = some d) (hpause : s.dev.mediaPause = false)
    (hcap : s.capSeeks < capSeekLimit s.capLevel) :
    s.seekCommand n = (s.cmdSent n).servoSeek n d.track (s.offtrk n d) (signed 8 (s.sq n).srvOfs) := by
  simp [State.seekCommand, hdisp, hpause, Nat.not_le.mpr hcap]

/-- What a SEEK that starts leaves: the target, its count, the write gate closed and the inhibit set (R179, R183, R187). -/
theorem State.seek_spec {dtrack : Nat} {offtrk ofs : Int} (hloop : closedLoop (s.mode n) = true)
    (hrange : beyond30 (offtrk + ofs) ((s.sv n).bandOffset (s.activeHead n) dtrack) = false) (hseeking : (s.sv n).seeking = false)
    (hslock : s.slock n = true) (ht : (s.cmdSent n).servoSeek n dtrack offtrk ofs = t) :
    (t.sv n).seeking = true ∧ (t.sv n).dtrack = dtrack ∧ (t.sq n).cmdDone = true ∧ (t.sq n).seekDone = false
      ∧ (t.sv n).target = targetOf dtrack (offtrk + ofs) ((s.sv n).bandOffset (s.activeHead n) dtrack)
      ∧ t.capSeeks = s.capSeeks + 1 ∧ (t.mode n = mSeek ∨ t.mode n = mSettle)
      ∧ t.on (.srv n) F.SRV_STAT_WINH = true ∧ (t.lane n).wgate = false
      ∧ (s.writing n = false → RegsBut s t (modeRegs n)
          ∧ t = { s with regs := t.regs, seqs := t.seqs, srvs := t.srvs, dev := t.dev, lanes := t.lanes })
      ∧ t.pending = s.pending := by
  have hsq := s.cmdSent_sq n
  have hsent := s.cmdSent_only n
  have hseek := State.servoSeek_starts (s := s.cmdSent n) (n := n) hloop hrange hseeking hslock
  obtain ⟨hsk, hdtrack, htarget, hdone, hseekDone, hcount, honly⟩ := (s.cmdSent n).seekCounted_spec n dtrack offtrk ofs rfl
  have hcounted : (s.cmdSent n).capSeeks = s.capSeeks := rfl
  have hband : ((s.cmdSent n).sv n).bandOffset ((s.cmdSent n).activeHead n) dtrack = (s.sv n).bandOffset (s.activeHead n) dtrack := rfl
  rw [hseek] at ht
  rw [hcounted] at hcount
  rw [hband] at htarget
  generalize s.cmdSent n = a at hsq hsent hsk hdtrack htarget hdone hseekDone hcount honly ht
  generalize a.seekCounted n dtrack offtrk ofs = b at hsk hdtrack htarget hdone hseekDone hcount honly ht
  obtain ⟨hmode, hwinh, hclosed, hsvt, hsqt, hdev, hpending, hidle⟩ := b.startMove_spec n ht
  have hregs : b.regs = s.regs := by rw [honly, hsent]
  have hwriting : b.writing n = s.writing n := by rw [honly, hsent]; rfl
  refine ⟨by rw [hsvt]; exact hsk, by rw [hsvt]; exact hdtrack, by rw [hsqt, hdone, hsq], by rw [hsqt, hseekDone],
    by rw [hsvt]; exact htarget, ?_, hmode, hwinh, hclosed, fun hw => ?_, by rw [hpending, honly, hsent]⟩
  · exact (congrArg (fun x : Device => (x.caps.filter _).length) hdev).trans hcount
  · obtain ⟨hmodeRegs, hmodeOnly⟩ := hidle (hwriting.trans hw)
    exact ⟨(RegsBut.of_regs hregs).trans hmodeRegs, by rw [hmodeOnly, honly, hsent]⟩

/-! ### HOLD (R155, R185) -/

/-- The status of a seek's end: its result, in SRV_SEEK_STAT (R183, R200). -/
theorem State.seekStat_spec (s : State) (n : Fin 4) {result : Nat} (us : Nat) (hresult : result < 4) :
    (s.seekStat n result us).f (.srv n) F.SRV_SEEK_STAT_RESULT = result
      ∧ RegsBut s (s.seekStat n result us) [(.srv n, Reg.SRV_SEEK_STAT)]
      ∧ s.seekStat n result us = { s with regs := (s.seekStat n result us).regs } := by
  have hset : ∀ (t : State) (f : Field) (v : Nat), f.off = Reg.SRV_SEEK_STAT →
      RegsBut t (t.setF (.srv n) f v) [(.srv n, Reg.SRV_SEEK_STAT)] :=
    fun t f v hf => hf ▸ RegsBut.setF t (.srv n) f v (by rw [hf]; decide)
  refine ⟨?_, (((hset _ _ _ rfl).trans (hset _ _ _ rfl)).trans (hset _ _ _ rfl)).trans (hset _ _ _ rfl), rfl⟩
  exact (((State.f_setF_ne _ (.srv n) F.SRV_SEEK_STAT_TIME F.SRV_SEEK_STAT_RESULT _ rfl (by decide) (by decide)).trans
    (State.f_setF_ne _ (.srv n) F.SRV_SEEK_STAT_REPEAT F.SRV_SEEK_STAT_RESULT _ rfl (by decide) (by decide))).trans
    (State.f_setF_same _ (.srv n) F.SRV_SEEK_STAT_RESULT result (by decide))).trans (Nat.mod_eq_of_lt hresult)

/-- The SEEK that HOLD ends, with its target the track the head is on, before MODE changes (R185). -/
def State.seekHeld (s : State) (n : Fin 4) (us : Nat) : State :=
  let s1 := (s.seekStat n 3 us).seekOver n
  s1.setSv n { s1.sv n with target := (s1.sv n).trackTowards * unitsPerTrack, settle := 0 }

theorem State.seekHeld_spec (s : State) (n : Fin 4) (us : Nat) {t : State} (ht : s.seekHeld n us = t) :
    (t.sv n).seeking = false ∧ t.f (.srv n) F.SRV_SEEK_STAT_RESULT = 3 ∧ RegsBut s t [(.srv n, Reg.SRV_SEEK_STAT)]
      ∧ t = { s with regs := t.regs, srvs := t.srvs, dev := t.dev } := by
  unfold State.seekHeld State.seekOver at ht
  dsimp only at ht
  obtain ⟨hresult, hregs, honly⟩ := s.seekStat_spec n us (show 3 < 4 by decide)
  generalize s.seekStat n 3 us = a at hresult hregs honly ht
  generalize hv : { a.sv n with seeking := false, pendingSeek := false, check := 0 } = v at ht
  have hsv := State.sv_setSv_same a n v
  have hsvOnly := State.setSv_only a n v
  have hsvRegs := State.setSv_regs a n v
  generalize a.setSv n v = b at hsv hsvOnly hsvRegs ht
  have hcapSv : (b.capEnd (.seek n.val)).sv n = b.sv n := rfl
  have hcapRegs : (b.capEnd (.seek n.val)).regs = b.regs := rfl
  have hcapOnly : b.capEnd (.seek n.val) = { b with dev := (b.capEnd (.seek n.val)).dev } := rfl
  generalize b.capEnd (.seek n.val) = c at hcapSv hcapRegs hcapOnly ht
  generalize hw : { c.sv n with target := (c.sv n).trackTowards * unitsPerTrack, settle := 0 } = w at ht
  have hend := State.sv_setSv_same c n w
  have hendOnly := State.setSv_only c n w
  have hendRegs := State.setSv_regs c n w
  rw [ht] at hend hendOnly hendRegs
  have htRegs : t.regs = a.regs := (hendRegs.trans hcapRegs).trans hsvRegs
  have hseeking : (c.sv n).seeking = false := by rw [hcapSv, hsv, ← hv]
  exact ⟨by rw [hend, ← hw]; exact hseeking, (State.f_congr htRegs _ _).trans hresult, hregs.trans (.of_regs htRegs),
    by rw [hendOnly, hcapOnly, hsvOnly, honly]⟩

/-- HOLD in the position loop with lock ends the SEEK under way, and settles where the head is (R185). -/
theorem State.servoHold_held {us : Nat} (hloop : closedLoop (s.mode n) = true) (hseeking : (s.sv n).seeking = true)
    (hslock : s.slock n = true) : s.servoHold n us = (s.seekHeld n us).enterMode n mSettle := by
  have hcan : cannotSeek (s.mode n) = false := by rw [cannotSeek, hloop]; rfl
  obtain ⟨-, -, hregs, -⟩ := s.seekHeld_spec n us rfl
  have hlocked : (s.seekHeld n us).slock n = true := (hregs.on (f := F.SRV_STAT_SLOCK) (by decide) (by simp)).trans hslock
  have hhold : s.servoHold n us = if cannotSeek (s.mode n) then s.setSq n { s.sq n with seekErr := true }
      else if !(s.sv n).seeking then s
      else if (s.seekHeld n us).slock n then (s.seekHeld n us).enterMode n mSettle else s.seekHeld n us := rfl
  rw [hhold, if_neg (ne_true_of_eq_false hcan), hseeking, hlocked]
  rfl

/-- What a HOLD of a SEEK leaves (R185). -/
theorem State.hold_spec {us : Nat} (hloop : closedLoop (s.mode n) = true) (hseeking : (s.sv n).seeking = true)
    (hslock : s.slock n = true) (ht : (s.cmdSent n).servoHold n us = t) :
    (t.sv n).seeking = false ∧ (t.sq n).cmdDone = true ∧ t.f (.srv n) F.SRV_SEEK_STAT_RESULT = 3 ∧ t.mode n = mSettle
      ∧ t.on (.srv n) F.SRV_STAT_WINH = true ∧ (t.lane n).wgate = false
      ∧ (s.writing n = false → RegsBut s t ((.srv n, Reg.SRV_SEEK_STAT) :: modeRegs n)
          ∧ t = { s with regs := t.regs, seqs := t.seqs, srvs := t.srvs, dev := t.dev, lanes := t.lanes })
      ∧ t.pending = s.pending := by
  have hsq := s.cmdSent_sq n
  have hsent := s.cmdSent_only n
  have hhold := State.servoHold_held (s := s.cmdSent n) (n := n) (us := us) hloop hseeking hslock
  rw [hhold] at ht
  generalize s.cmdSent n = a at hsq hsent ht
  obtain ⟨hdone, hresult, hregs, honly⟩ := a.seekHeld_spec n us rfl
  generalize a.seekHeld n us = b at hdone hresult hregs honly ht
  have hmode := b.enterMode_entered n (m := mSettle) rfl (by decide) (by decide)
  rw [ht] at hmode
  have hsentRegs : a.regs = s.regs := by rw [hsent]
  have hsqt : t.sq n = a.sq n := by rw [hmode.only.sq n, honly]; rfl
  have hwriting : b.writing n = s.writing n := by rw [honly, hsent]; rfl
  refine ⟨by rw [hmode.only.sv n]; exact hdone, by rw [hsqt, hsq], (hmode.servo.f (by decide) (by decide)).trans hresult, hmode.mode,
    hmode.winh, hmode.closed, fun hw => ?_, by rw [hmode.only.pending, honly, hsent]⟩
  obtain ⟨hmodeRegs, hmodeOnly⟩ := hmode.idle (hwriting.trans hw)
  have hall : RegsBut s b ((.srv n, Reg.SRV_SEEK_STAT) :: modeRegs n) := (RegsBut.of_regs hsentRegs).trans (hregs.mono (by simp))
  exact ⟨hall.trans (hmodeRegs.mono (by simp)), by rw [hmodeOnly, honly, hsent]⟩

end Sys2Proof.Machine

/-! SUPPORT. The statement on the timing unit's commands and the lane commands of the sequencer. -/

namespace Sys2Proof.Machine

/-- Settles O23, one clause per command and case. -/
theorem sequencerEventsAndLaneCommands : Obligations.SequencerEventsAndLaneCommands := by
  refine ⟨?_, ?_, ?_, ?_, ?_, ?_, ?_, ?_, ?_, ?_, ?_⟩
  · intro s n bitNow d hr hdue hevt hdisp hfits
    have hread : (s.answer .none).cmdPhase n 1 (fun s => s.sect n bitNow false)
        = (s.answer .none).post n bitNow (some (s.announce n d false)) :=
      (State.cmdPhase_due (s := s.answer .none) _ hdue (by decide)).trans
        (State.sect_fits (s := s.answer .none) hevt (Bool.false_and _) hdisp)
    obtain ⟨hevtDone, hcmdDone, hlate, hmore, htwo, hevq, hwaits, honly⟩ :=
      State.post_sector (s := s.answer .none) (r := s.announce n d false) hfits rfl
    exact Completes.of_result hr (exec_sectRd n bitNow s) hread ⟨hevtDone, hcmdDone, hlate, hmore, htwo, hevq, hwaits, honly⟩
      (by rw [honly]; rfl)
  · intro s n bitNow d hr hdue hevt hdisp hwrite hfits
    have hopw : (s.answer .none).opw n = true := by
      have hcur : ((s.answer .none).lane n).cur = some d := State.cur_of_workDisp (s := s.answer .none) hdisp
      rw [State.opw, hcur]
      exact hwrite
    have hwr : (s.answer .none).cmdPhase n 2 (fun s => s.sect n bitNow true)
        = (s.answer .none).post n bitNow (some (s.announce n d true)) :=
      (State.cmdPhase_due (s := s.answer .none) _ hdue (by decide)).trans
        (State.sect_fits (s := s.answer .none) hevt (by rw [hopw]; rfl) hdisp)
    obtain ⟨hevtDone, hcmdDone, hlate, hmore, htwo, hevq, hwaits, honly⟩ :=
      State.post_sector (s := s.answer .none) (r := s.announce n d true) hfits rfl
    exact Completes.of_result hr (exec_sectWr n bitNow s) hwr ⟨hevtDone, hcmdDone, hlate, hmore, htwo, hevq, hwaits, honly⟩
      (by rw [honly]; rfl)
  · intro s n bitNow hr hready hevt hrd hwr hfits
    have hnamed : (s.postReady n && CsWord.evtEn (s.sq n).word && CsWord.cmd (s.sq n).word != 1 && CsWord.cmd (s.sq n).word != 2) = true := by
      simp [hready, hevt, hrd, hwr]
    obtain ⟨hevtDone, hcmdDone, hlate, hevq, hsects, honly⟩ := State.post_event (s := s.answer .none) hfits rfl
    exact Completes.of_result hr (exec_eventPost n bitNow s) (if_pos hnamed) ⟨hevtDone, hcmdDone, hlate, hevq, hsects, honly⟩
      (by rw [honly]; rfl)
  · intro s n win pos mask val rest sm1 hr htimed hexcl hwin hmask
    obtain ⟨hrest, hpos, hag, hdhold, honly⟩ := State.timingFire_event (s := s.answer .none) sm1 htimed hexcl hwin hmask rfl
    exact Completes.of_result hr (exec_timingEventFire _ s) rfl ⟨hrest, hpos, hag, hdhold, honly⟩ (by rw [honly]; rfl)
  · intro s n hr hslock hexcl hopens
    have hwindow : (s.slock n && (s.tim n).excl) = true := by rw [hslock, hexcl]; rfl
    obtain ⟨hwin, hwedge, hdata, hstarts, hqueue, honly⟩ := State.windowStart_spec (s := s.answer .none) hopens rfl
    exact Completes.of_result hr (exec_dataWindowStart n s) (if_pos hwindow) ⟨hwin, hwedge, hdata, hstarts, hqueue, honly⟩
      (by rw [honly]; rfl)
  · intro s n d hr hdue hdisp
    obtain ⟨hhead, harmed, hcmdDone, hheadOk, hheadErr, hqueue, hacquire, hreach⟩ :=
      State.headCommand_spec (s := s.answer .none) hdisp rfl
    exact Completes.of_result hr (exec_headSelect n s) (State.cmdPhase_due (s := s.answer .none) _ hdue (by decide))
      ⟨hhead, harmed, hcmdDone, hheadOk, hheadErr, hqueue, hacquire, by rw [hreach.only]; rfl, by rw [hreach.only]; rfl,
        by rw [hreach.only]; rfl, by rw [hreach.only]; rfl⟩ (by rw [hreach.only]; rfl)
  · intro s n d hr hdue hdisp hseeking hpause hcap hloop hslock hrange
    have hfree : (s.answer .none).cmdPhase n 4 (fun s => s.seekCommand n)
        = ((s.answer .none).cmdSent n).servoSeek n d.track (s.offtrk n d) (signed 8 (s.sq n).srvOfs) :=
      (State.cmdPhase_due (s := s.answer .none) _ hdue (by decide)).trans (State.seekCommand_free (s := s.answer .none) hdisp hpause hcap)
    obtain ⟨hsk, hdtrack, hcmdDone, hseekDone, htarget, hcount, hmode, hwinh, hclosed, hidle, hpending⟩ :=
      State.seek_spec (s := s.answer .none) hloop hrange hseeking hslock rfl
    exact Completes.of_result hr (exec_seek n s) hfree
      ⟨hsk, hdtrack, hcmdDone, hseekDone, htarget, hcount, hmode, hwinh, hclosed, hidle⟩ hpending
  · intro s n us hr hdue hloop hseeking hslock
    obtain ⟨hsk, hcmdDone, hresult, hmode, hwinh, hclosed, hidle, hpending⟩ :=
      State.hold_spec (s := s.answer .none) (us := us) hloop hseeking hslock rfl
    exact Completes.of_result hr (exec_seekHold n us s) (State.cmdPhase_due (s := s.answer .none) _ hdue (by decide))
      ⟨hsk, hcmdDone, hresult, hmode, hwinh, hclosed, hidle⟩ hpending
  · intro s n d hr hdue hdisp htakes hfault hdrive hkind hrange
    have harm : (s.answer .none).cmdPhase n 6 (fun s => s.armCommand n) = ((s.answer .none).cmdSent n).arm n d.rzone :=
      (State.cmdPhase_due (s := s.answer .none) _ hdue (by decide)).trans (State.armCommand_takes (s := s.answer .none) hdisp htakes)
    have hsent := (s.answer .none).cmdSent_sq n
    have hsentOnly := (s.answer .none).cmdSent_only n
    obtain ⟨harming, hrefused, harmed, hqueue, hzone, hregs, honly⟩ := State.arm_spec (s := (s.answer .none).cmdSent n) hfault hdrive hkind
      hrange d.rzone_lt rfl
    refine Completes.of_result hr (exec_astArm n s) harm
      ⟨harming, hrefused, harmed, ?_, hqueue, hzone, hregs, by rw [honly, hsentOnly]; rfl⟩ (by rw [honly, hsentOnly]; rfl)
    have hsq : (((s.answer .none).cmdSent n).arm n d.rzone).sq n = ((s.answer .none).cmdSent n).sq n := by rw [honly]; rfl
    rw [hsq, hsent]
  · intro s n d hr hdue hdisp hstate
    have hrefuse : (s.answer .none).cmdPhase n 6 (fun s => s.armCommand n) = ((s.answer .none).cmdSent n).armRefuse n 3 :=
      (State.cmdPhase_due (s := s.answer .none) _ hdue (by decide)).trans (State.armCommand_faulted (s := s.answer .none) hdisp hstate)
    have hsent := (s.answer .none).cmdSent_sq n
    have hsentOnly := (s.answer .none).cmdSent_only n
    obtain ⟨hrefused, harming, hres, honly⟩ := ((s.answer .none).cmdSent n).armRefuse_spec n rfl
    refine Completes.of_result hr (exec_astArm n s) hrefuse
      ⟨hrefused, harming, hres, ?_, by rw [honly, hsentOnly]; rfl⟩ (by rw [honly, hsentOnly]; rfl)
    have hsq : (((s.answer .none).cmdSent n).armRefuse n 3).sq n = ((s.answer .none).cmdSent n).sq n := by rw [honly]; rfl
    rw [hsq, hsent]
  · intro s n hr hdue
    obtain ⟨harmed, hagate, hrefused, hcmdDone, hregs, honly⟩ := (s.answer .none).astDisarm_spec n rfl
    exact Completes.of_result hr (exec_astDisarm n s) (State.cmdPhase_due (s := s.answer .none) _ hdue (by decide))
      ⟨harmed, hagate, hrefused, hcmdDone, hregs, honly⟩ (by rw [honly]; rfl)

end Sys2Proof.Machine
